-- ==== Sys2Proof/Word.lean ====
section
/-! DEFINITION. Sys2Proof/Word.lean: the word types of the X48 register map and memories. -/

namespace Sys2Proof

/-- A 32-bit register or memory word (chapter 00, "Registers and access codes"). -/
abbrev Word := BitVec 32

/-- One byte of main SRAM, DRAM or a frame. -/
abbrev Byte := BitVec 8

/-- A 24-bit platen data word (R62, R78). -/
abbrev W24 := BitVec 24

/-- A 64-bit sort, descriptor or bank word (R81, R105). -/
abbrev W64 := BitVec 64

/-- Sparse data by key: a list of key and value pairs. Its canonical form (`SMap.wf`) has strictly rising
keys and no entry equal to what an unlisted key reads as. -/
abbrev SMap (α : Type) := List (Nat × α)

end Sys2Proof
end

