-- ==== Sys2Proof/Machine/Planner.lean ====
section
/-! DEFINITION. Sys2Proof/Machine/Planner.lean: jerk-limited plans (R244, R247) and plane rotation (R260), in exact
integer arithmetic. Time is counted in 2^-96 s. An acceleration is held times 2^96, a velocity times 2 × 2^192 and
a position times 6 × 2^288, so that motion under a constant jerk is exact. The roots that a plan needs are
truncated to these units (log entry 15). -/

namespace Sys2Proof.Machine

/-- A point of a trajectory, in the units of this file. -/
structure Kin where
  p : Int
  v : Int
  a : Int
  deriving DecidableEq, Repr

/-- Scale factors. -/
def tScale : Nat := 2 ^ 96
def aScale : Nat := 2 ^ 96
def vScale : Nat := 2 * 2 ^ 192
def pScale : Nat := 6 * 2 ^ 288

/-- A duration of `n` ns. -/
def nsT (n : Nat) : Nat := n * tScale / 1000000000

/-- The state after `t` under jerk `j` in inc/s³. -/
def Kin.run (k : Kin) (j : Int) (t : Nat) : Kin :=
  let t : Int := t
  { p := k.p + 3 * k.v * t + 3 * k.a * t * t + j * t * t * t, v := k.v + 2 * k.a * t + j * t * t, a := k.a + j * t }

/-- Constant-jerk pieces: jerk and duration. -/
abbrev Segs := List (Int × Nat)

/-- The state after `t` along the pieces; the last piece goes on for ever. -/
def Kin.along (k : Kin) : Segs → Nat → Kin
  | [], t => k.run 0 t
  | (j, d) :: r, t => if t ≤ d then k.run j t else Kin.along (k.run j d) r (t - d)

/-- The state at the end of the pieces. -/
def Kin.final (k : Kin) : Segs → Kin
  | [] => k
  | (j, d) :: r => Kin.final (k.run j d) r

/-- The duration of the pieces. -/
def segsLen : Segs → Nat
  | [] => 0
  | (_, d) :: r => d + segsLen r

/-- The pieces cut off after `t`. -/
def cutSegs : Segs → Nat → Segs
  | [], _ => []
  | (j, d) :: r, t => if t ≤ d then [(j, t)] else (j, d) :: cutSegs r (t - d)

/-- One bit of a square root: `r` is extended by bit `b` when its square stays within `n`. -/
def isqrtBits (n : Nat) : Nat → Nat → Nat
  | 0, r => r
  | b + 1, r => (let r' := r + 2 ^ b; isqrtBits n b (if r' * r' ≤ n then r' else r))

/-- floor(√n). -/
def isqrt (n : Nat) : Nat := isqrtBits n (Nat.log2 n / 2 + 1) 0

/-- floor(√x) of an integer, 0 below 0. -/
def isqrtInt (x : Int) : Int := isqrt x.toNat

/-- A duration from a quotient; 0 for a divisor that is not above 0. -/
def durOf (x y : Int) : Nat := if y ≤ 0 then 0 else (x / y).toNat

/-- Which way the acceleration must act to bring the velocity to `vf` with acceleration 0 (jerk `j`). -/
def rampDir (j v a vf : Int) : Int := if a * (if a < 0 then -a else a) ≤ j * (vf - v) then 1 else -1

/-- The fastest transition from (v, a) to (vf, 0) under jerk `j` and one acceleration limit. -/
def ramp (j lim v a vf : Int) : Segs :=
  let dir := rampDir j v a vf
  let w := dir * a
  let g := dir * (vf - v)
  if lim < w then
    let g' := g - (lim * lim - w * w) / -j
    [(-dir * j, durOf (w - lim) j), (0, durOf (g' - lim * lim / j) (2 * lim)), (-dir * j, durOf lim j)]
  else
    let ap := isqrtInt ((j * g + w * w) / 2)
    if ap ≤ lim then [(dir * j, durOf (ap - w) j), (-dir * j, durOf ap j)]
    else
      [(dir * j, durOf (lim - w) j), (0, durOf (g - (2 * lim * lim - w * w) / j) (2 * lim)), (-dir * j, durOf lim j)]

/-- `toVel` from an acceleration that `de` allows. A change of direction is taken in two parts about v = 0; the speed
also changes direction where an acceleration against it carries it through 0 before `j` has taken that away. -/
def toVelIn (j ac de v a vf : Int) : Segs :=
  if j ≤ 0 then []
  else
    let dir := rampDir j v a vf
    let z := -(dir * v)
    let w := dir * a
    let up := dir * vf
    let g := dir * (vf - v)
    if z ≤ 0 ∧ (0 ≤ w ∨ w * w + j * z ≤ 0) then ramp j ac v a vf
    else if up ≤ 0 then ramp j de v a vf
    else if de ≤ ac then
      (if isqrtInt ((j * g + w * w) / 2) ≤ de ∨ j * up ≤ de * de then ramp j de v a vf
       else if de < w then ramp j de v a vf
       else if z ≤ (de * de - w * w) / j then
         let ax := isqrtInt (w * w + j * z)
         (dir * j, durOf (ax - w) j) :: ramp j ac 0 (dir * ax) vf
       else
         [(dir * j, durOf (de - w) j), (0, durOf (z - (de * de - w * w) / j) (2 * de))] ++ ramp j ac 0 (dir * de) vf)
    else if j * up ≤ ac * ac then ramp j de v a vf
    else
      let ap := isqrtInt ((j * z + w * w + ac * ac) / 2)
      if ap ≤ ac ∨ de < w then ramp j ac v a vf
      else if ap ≤ de then
        [(dir * j, durOf (ap - w) j), (-dir * j, durOf (ap - ac) j)] ++ ramp j ac 0 (dir * ac) vf
      else
        [(dir * j, durOf (de - w) j), (0, durOf (z - (2 * de * de - w * w - ac * ac) / j) (2 * de)),
         (-dir * j, durOf (de - ac) j)] ++ ramp j ac 0 (dir * ac) vf

/-- The fastest transition from (v, a) to (vf, 0) under jerk `j`, limit `ac` while the speed rises and `de` while
it falls (R244). An acceleration that brakes by more than `de` first returns inside it (R247), or to v = 0. -/
def toVel (j ac de v a vf : Int) : Segs :=
  let dir := rampDir j v a vf
  let z := -(dir * v)
  let w := dir * a
  if 0 < j ∧ 0 < z ∧ 0 < dir * vf ∧ de < w then
    let b := if w * w - de * de ≤ j * z then de else isqrtInt (w * w - j * z)
    let t := durOf (w - b) j
    (-dir * j, t) :: toVelIn j ac de (if b = de then v + dir * ((w * w - de * de) / j) else 0) (dir * b) vf
  else toVelIn j ac de v a vf

/-- Limits in the units of this file: speed, acceleration, deceleration, and jerk in inc/s³. -/
structure Lims where
  v : Int
  a : Int
  d : Int
  j : Int
  deriving DecidableEq, Repr

/-- Limits from the registers' units: speed in 1/256 inc/s, the others in inc/s² and inc/s³. -/
def Lims.of (v a d j : Nat) : Lims := ⟨(v * vScale / 256 : Nat), (a * aScale : Nat), (d * aScale : Nat), j⟩

/-- The fastest stop. A deceleration of 0 is taken as 2^-32 inc/s² (log entry 15). -/
def stopSegs (l : Lims) (k : Kin) : Segs := toVel l.j l.a (max (2 ^ 64) l.d) k.v k.a 0

/-- Where the fastest stop ends. -/
def landing (l : Lims) (k : Kin) : Int := (k.final (stopSegs l k)).p

/-- 2^-33 inc: landing points this near are taken as equal. -/
def planEps : Int := 6 * 2 ^ 255

/-- The last instant in `lo … lo + 2^n - 1` at which `ok` holds, for an `ok` that holds first and then fails. -/
def lastOk (ok : Nat → Bool) : Nat → Nat → Nat
  | 0, lo => lo
  | n + 1, lo => if ok (lo + 2 ^ n) then lastOk ok n (lo + 2 ^ n) else lastOk ok n lo

/-- R244: toward the cruise in direction `sg`, left at the last instant from which the fastest stop does not pass
`goal`. -/
def cruisePlan (l : Lims) (k : Kin) (goal sg : Int) : Segs :=
  let ph := toVel l.j l.a l.d k.v k.a (sg * l.v)
  let len := segsLen ph
  let short := fun t => decide (0 ≤ sg * (goal - landing l (k.along ph t)))
  if short len then
    let top := k.final ph
    let rest := sg * (goal - landing l top)
    let c := durOf rest (3 * l.v)
    ph ++ (0, c) :: stopSegs l (top.run 0 c)
  else
    let t := lastOk short (Nat.log2 (len + 1) + 1) 0
    cutSegs ph t ++ stopSegs l (k.along ph t)

/-- What a plan is, with the flags of R247. -/
structure PlanRes where
  segs : Segs
  dmax : Bool
  past : Bool
  /-- no plan under the limits reaches the goal: a limit is 0 -/
  endless : Bool
  deriving DecidableEq, Repr

/-- The speed once the acceleration has returned to 0 under jerk `j`. -/
def settledV (j : Int) (k : Kin) : Int := k.v + k.a * (if k.a < 0 then -k.a else k.a) / j

/-- Which way the motion goes: that of the settled speed where the acceleration carries the speed through 0. -/
def heading (j : Int) (k : Kin) : Int := if k.v * settledV j k ≤ 0 then settledV j k else k.v

/-- With no jerk allowed the acceleration stays: the state passes `goal`, ahead of it. -/
def passesFlat (k : Kin) (goal : Int) : Bool :=
  let sg : Int := if 0 < k.v then 1 else -1
  decide (0 < k.v * (goal - k.p)) && (decide (0 ≤ sg * k.a) || decide (4 * (sg * (goal - k.p)) * -(sg * k.a) < 3 * (k.v * k.v)))

/-- The least deceleration at or above `l.d`, within `2^n` units of it, that stops before `goal` in direction `sg`. -/
def leastDec (l : Lims) (k : Kin) (goal sg : Int) : Nat → Nat → Nat
  | 0, lo => lo + 1
  | n + 1, lo =>
    if 0 ≤ sg * (goal - landing { l with d := l.d + ((lo + 2 ^ n : Nat) : Int) } k) then leastDec l k goal sg n lo
    else leastDec l k goal sg n (lo + 2 ^ n)

/-- R244, R247: the plan from `k` to rest at `goal`. With an acceleration of 0 it can only keep the speed that it has; with a
deceleration of 0 only the least one that avoids overshoot ends it. -/
def planTo (l : Lims) (k : Kin) (goal : Int) : PlanRes :=
  if l.j ≤ 0 then ⟨[], false, passesFlat k goal, true⟩
  else
    let miss := goal - landing l k
    if -planEps ≤ miss ∧ miss ≤ planEps then ⟨stopSegs l k, false, false, false⟩
    else
      let sg : Int := if 0 < miss then 1 else -1
      let h := heading l.j k
      let passes := decide (0 < h * (goal - k.p)) && decide (h * miss < 0)
      let mv : Int := if 0 < h then 1 else -1
      let free := { l with d := 2 ^ 200 }
      let keep := sg * settledV l.j k
      if passes && decide (-planEps ≤ mv * (goal - landing free k)) then
        let d := l.d + leastDec l k goal mv 160 0
        ⟨stopSegs { l with d := d } k, true, false, false⟩
      else if l.v ≤ 0 ∨ l.d ≤ 0 ∨ (l.a ≤ 0 ∧ keep ≤ 0) then ⟨stopSegs l k, false, passes, true⟩
      else if l.a ≤ 0 then ⟨cruisePlan { l with v := min l.v keep } k goal sg, false, passes, false⟩
      else ⟨cruisePlan l k goal sg, false, passes, false⟩

/-! ### Rotation -/

/-- atan(2^-i) in 2^-64 turn. -/
def atanTab : List Nat :=
  [2305843009213693952, 1361218612134873190, 719230530580881038, 365092647525521947, 183254791493294829, 91716730292036216, 45869556482713130, 22936177926750895] ++
  [11468263948075831, 5734153847876408, 2867079658191483, 1433540170878135, 716770128161890, 358385069421298, 179192535378193, 89596267772540] ++
  [44798133896700, 22399066949654, 11199533474990, 5599766737515, 2799883368760, 1399941684380, 699970842190, 349985421095] ++
  [174992710548, 87496355274, 43748177637, 21874088818, 10937044409, 5468522205, 2734261102, 1367130551] ++
  [683565276, 341782638, 170891319, 85445659, 42722830, 21361415, 10680707, 5340354] ++
  [2670177, 1335088, 667544, 333772, 166886, 83443, 41722, 20861] ++
  [10430, 5215, 2608, 1304, 652, 326, 163, 81] ++
  [41, 20, 10, 5, 3, 1, 1, 0]

/-- The reciprocal of the gain of `atanTab`'s rotations, times 2^64. -/
def cordicK : Int := 11201839480117811816

/-- 2π times 2^64. -/
def twoPi64 : Nat := 115904311329233965478

/-- `x / 2^i` rounded toward minus infinity. -/
def shr (x : Int) (i : Nat) : Int := x / 2 ^ i

/-- Rotate by the remaining angle `z` in 2^-64 turn. -/
def cordicRot : List Nat → Nat → Int → Int → Int → Int × Int
  | [], _, x, y, _ => (x, y)
  | t :: r, i, x, y, z =>
    if 0 ≤ z then cordicRot r (i + 1) (x - shr y i) (y + shr x i) (z - t)
    else cordicRot r (i + 1) (x + shr y i) (y - shr x i) (z + t)

/-- Rotate toward the positive x axis and collect the angle. -/
def cordicVec : List Nat → Nat → Int → Int → Int → Int
  | [], _, _, _, z => z
  | t :: r, i, x, y, z =>
    if 0 ≤ y then cordicVec r (i + 1) (x + shr y i) (y - shr x i) (z + t)
    else cordicVec r (i + 1) (x - shr y i) (y + shr x i) (z - t)

/-- The angle of (x, y) in 2^-64 turn, from 0 to 2^64 - 1. -/
def angleOf (x y : Int) : Nat :=
  let b := 2 ^ 40
  let z : Int := if x < 0 then cordicVec atanTab 0 (-x * b) (-y * b) (2 ^ 63) else cordicVec atanTab 0 (x * b) (y * b) 0
  (z % (2 ^ 64 : Nat)).toNat

/-- (x, y), times 2^32, rotated by `ang` in 2^-64 turn. -/
def rotate32 (x y : Int) (ang : Nat) : Int × Int :=
  let a : Nat := ang % 2 ^ 64
  let half := decide (2 ^ 62 < a) && decide (a < 3 * 2 ^ 62)
  let z : Int := if half then (a : Int) - (2 ^ 63 : Nat) else if a ≤ 2 ^ 62 then (a : Int) else (a : Int) - (2 ^ 64 : Nat)
  let s : Int := if half then -1 else 1
  let r := cordicRot atanTab 0 (s * x * 2 ^ 48) (s * y * 2 ^ 48) z
  (r.1 * cordicK / 2 ^ 80, r.2 * cordicK / 2 ^ 80)

end Sys2Proof.Machine
end

