-- ==== Sys2Proof/Machine/SMap.lean ====
section
/-! DEFINITION. Sys2Proof/Machine/SMap.lean: reading and writing sparse data. `d` is what an unlisted key
reads as; a write of that value removes the entry, so equal contents are equal lists. -/

namespace Sys2Proof.Machine

/-- The value at key `k`. -/
def SMap.get {α : Type} (d : Nat → α) : SMap α → Nat → α
  | [], k => d k
  | (a, v) :: r, k => if a = k then v else SMap.get d r k

/-- Insert or replace `k` in a list of rising keys. -/
def SMap.ins {α : Type} : SMap α → Nat → α → SMap α
  | [], k, v => [(k, v)]
  | (a, w) :: r, k, v =>
    if k < a then (k, v) :: (a, w) :: r
    else if k = a then (k, v) :: r
    else (a, w) :: SMap.ins r k v

/-- Write `v` at key `k`. -/
def SMap.put {α : Type} [DecidableEq α] (d : Nat → α) (m : SMap α) (k : Nat) (v : α) : SMap α :=
  if v = d k then m.filter (fun c => c.1 != k) else SMap.ins m k v

/-- Every key of the list lies above `k`. -/
def SMap.above {α : Type} (k : Nat) : SMap α → Bool
  | [] => true
  | (a, _) :: _ => decide (k < a)

/-- The canonical form: strictly rising keys, no entry equal to the default. -/
def SMap.wf {α : Type} [DecidableEq α] (d : Nat → α) : SMap α → Bool
  | [] => true
  | (a, v) :: r => SMap.above a r && !decide (v = d a) && SMap.wf d r

end Sys2Proof.Machine
end

