-- ==== Sys2Proof/Machine/RegTypes.lean ====
section
/-! DEFINITION. Sys2Proof/Machine/RegTypes.lean: what a register table of the spec says of a register and of
a field: its address and strides (R2), access code (R3), Reset column (R9) and permitted range (R52). -/

namespace Sys2Proof.Machine

/-- Access codes of R3. -/
inductive Acc
  | ro | rw | wo | w1c | w1s | rc | qs | sf
  deriving DecidableEq, Repr

/-- The Reset column of R9; `galleyDflt` is "galley" with a stated default (R501). -/
inductive Rst
  | num (n : Nat)
  | galley
  | galleyDflt (n : Nat)
  | fuse
  | record
  deriving DecidableEq, Repr

/-- The permitted range of a field (R52), judged field by field. -/
inductive Rng
  | any
  /-- an unsigned value from `lo` to `hi` -/
  | nat (lo hi : Nat)
  /-- a two's-complement value from `lo` to `hi` -/
  | int (lo hi : Int)
  /-- encodings `lo` to `hi` are listed as not used -/
  | notUsed (lo hi : Nat)
  /-- 0 or 100 to 500 (FIO.STO.STO_TP) -/
  | stoTp
  deriving DecidableEq, Repr

/-- A register: its first host address and, outermost first, how many instances it has at which stride. -/
structure Reg where
  addr : Nat
  dims : List (Nat × Nat)
  deriving DecidableEq, Repr

/-- A field of a register. `view` marks a field whose value is held in a typed part of State and not in the
register file `State.regs`. -/
structure Fld where
  reg : Reg
  lsb : Nat
  width : Nat
  acc : Acc
  view : Bool
  rst : Rst
  rng : Rng
  deriving DecidableEq, Repr

/-- The host address of instance `i` (`j`, `k` for inner indices) of a register (R2). -/
def Reg.at (r : Reg) (i : Nat := 0) (j : Nat := 0) (k : Nat := 0) : Nat :=
  r.addr + i * (r.dims.getD 0 (0, 0)).2 + j * (r.dims.getD 1 (0, 0)).2 + k * (r.dims.getD 2 (0, 0)).2

/-- The indices of the instance that an offset from the first address names, if it names one. -/
def dimIdx : List (Nat × Nat) → Nat → Option (List Nat)
  | [], off => if off = 0 then some [] else none
  | (n, st) :: ds, off =>
    let i := off / st
    if i < n then (dimIdx ds (off - i * st)).map (i :: ·) else none

/-- The indices of the instance at host address `a`, if the register has one there. -/
def Reg.idx? (r : Reg) (a : Nat) : Option (List Nat) :=
  if r.addr ≤ a then dimIdx r.dims (a - r.addr) else none

/-- Whether the register has an instance at host address `a`. -/
def Reg.hits (r : Reg) (a : Nat) : Bool := (r.idx? a).isSome

/-- Bits `[lsb + width - 1 : lsb]` of a word, as a number. -/
def bitsOf (w : Word) (lsb width : Nat) : Nat := w.toNat / 2 ^ lsb % 2 ^ width

/-- A word with bits `[lsb + width - 1 : lsb]` replaced by the low bits of `v`. -/
def setBits (w : Word) (lsb width v : Nat) : Word :=
  let m : Word := BitVec.ofNat 32 ((2 ^ width - 1) * 2 ^ lsb)
  (w &&& ~~~m) ||| (BitVec.ofNat 32 (v % 2 ^ width * 2 ^ lsb))

/-- The mask of a field's bits. -/
def Fld.mask (f : Fld) : Word := BitVec.ofNat 32 ((2 ^ f.width - 1) * 2 ^ f.lsb)

/-- Two's-complement reading of an `n`-bit number. -/
def sgn (n v : Nat) : Int := if v % 2 ^ n < 2 ^ (n - 1) then ((v % 2 ^ n : Nat) : Int) else ((v % 2 ^ n : Nat) : Int) - 2 ^ n

/-- The low `n` bits of an integer in two's complement. -/
def unsgn (n : Nat) (v : Int) : Nat := (v % (2 ^ n : Int)).toNat

/-- Report kinds of R59. -/
inductive Corr
  | none | clampLo | clampHi | clampStep | replaced | reserved | refused
  deriving DecidableEq, Repr

/-- The KIND byte of R59. -/
def Corr.kind : Corr → Nat
  | .none => 0 | .clampLo => 1 | .clampHi => 2 | .clampStep => 3 | .replaced => 4 | .reserved => 5 | .refused => 6

/-- R52 on one field value of `width` bits: the value applied and the correction made. -/
def Rng.judge (r : Rng) (width v : Nat) : Nat × Corr :=
  match r with
  | .any => (v, .none)
  | .nat lo hi => if v < lo then (lo, .clampLo) else if hi < v then (hi, .clampHi) else (v, .none)
  | .int lo hi =>
    let x := sgn width v
    if x < lo then (unsgn width lo, .clampLo) else if hi < x then (unsgn width hi, .clampHi) else (v, .none)
  | .notUsed lo hi => if lo ≤ v ∧ v ≤ hi then (if lo = 0 then hi + 1 else 0, .replaced) else (v, .none)
  | .stoTp => if v = 0 then (v, .none) else if v < 100 then (0, .clampStep) else if 500 < v then (500, .clampHi) else (v, .none)

/-- R501: the value a field of reset "galley" takes when no section sets it. -/
def Fld.unset (f : Fld) : Nat :=
  match f.rst with
  | .galleyDflt n => n
  | .galley => (f.rng.judge f.width 0).1
  | .num n => n
  | _ => 0

/-- Whether the Reset column says "galley". -/
def Fld.isGalley (f : Fld) : Bool :=
  match f.rst with
  | .galley => true
  | .galleyDflt _ => true
  | _ => false

end Sys2Proof.Machine
end

