-- ==== Sys2Proof/Machine/RegMapA.lean ====
section
/-! DEFINITION. Sys2Proof/Machine/RegMapA.lean: the register map of core blocks COL to SCH.
Each register (`R.<BLOCK>_<REGISTER>`) is its host address (R2, R60) and its index strides; each field
(`F.<BLOCK>_<REGISTER>_<FIELD>`) carries its bits, its access code (R3), its Reset column (R9) and its
permitted range (R52) as the register tables of the chapters give them. -/

namespace Sys2Proof.Machine

/-! Block COL at 0x0 (tables governed by R76). -/

def R.COL_PART : Reg := ⟨0x0, []⟩
def F.COL_PART_PART : Fld := ⟨R.COL_PART, 0, 32, .ro, false, (.num 4727556), .any⟩
def R.COL_REV : Reg := ⟨0x4, []⟩
def F.COL_REV_MINOR : Fld := ⟨R.COL_REV, 0, 8, .ro, true, .fuse, .any⟩
def F.COL_REV_MAJOR : Fld := ⟨R.COL_REV, 8, 8, .ro, true, .fuse, .any⟩
def R.COL_GALLEY_ID : Reg := ⟨0x8, []⟩
def F.COL_GALLEY_ID_ID : Fld := ⟨R.COL_GALLEY_ID, 0, 32, .ro, false, .galley, .any⟩
def R.COL_CHECK_L : Reg := ⟨0xC, []⟩
def F.COL_CHECK_L_VAL : Fld := ⟨R.COL_CHECK_L, 0, 32, .ro, false, .galley, .any⟩
def R.COL_CHECK_H : Reg := ⟨0x10, []⟩
def F.COL_CHECK_H_VAL : Fld := ⟨R.COL_CHECK_H, 0, 32, .ro, false, .galley, .any⟩
def R.COL_SIG_CALC : Reg := ⟨0x14, []⟩
def F.COL_SIG_CALC_VAL : Fld := ⟨R.COL_SIG_CALC, 0, 32, .ro, false, .galley, .any⟩
def R.COL_SIG_CONF : Reg := ⟨0x18, []⟩
def F.COL_SIG_CONF_VAL : Fld := ⟨R.COL_SIG_CONF, 0, 32, .ro, true, .record, .any⟩
def R.COL_STATUS : Reg := ⟨0x1C, []⟩
def F.COL_STATUS_LOADED : Fld := ⟨R.COL_STATUS, 0, 1, .ro, false, (.num 0), .any⟩
def F.COL_STATUS_SIGNED : Fld := ⟨R.COL_STATUS, 1, 1, .ro, false, (.num 0), .any⟩
def F.COL_STATUS_CONFIRMED : Fld := ⟨R.COL_STATUS, 2, 1, .ro, false, (.num 0), .any⟩

/-! Block SYS at 0x1000 (tables governed by R29-R34, R66, R100, R223-R231). -/

def R.SYS_STATE : Reg := ⟨0x1000, []⟩
def F.SYS_STATE_STATE : Fld := ⟨R.SYS_STATE, 0, 4, .ro, true, (.num 1), .any⟩
def F.SYS_STATE_PREV : Fld := ⟨R.SYS_STATE, 8, 4, .ro, true, (.num 0), .any⟩
def F.SYS_STATE_REQ_REFUSED : Fld := ⟨R.SYS_STATE, 16, 1, .w1c, false, (.num 0), .any⟩
def R.SYS_CTL : Reg := ⟨0x1004, []⟩
def F.SYS_CTL_REQ : Fld := ⟨R.SYS_CTL, 0, 3, .wo, false, (.num 0), .any⟩
def F.SYS_CTL_STOP_ACK : Fld := ⟨R.SYS_CTL, 8, 1, .wo, false, (.num 0), .any⟩
def R.SYS_IMP_CFG : Reg := ⟨0x1010, []⟩
def F.SYS_IMP_CFG_PERIOD : Fld := ⟨R.SYS_IMP_CFG, 0, 13, .ro, false, .galley, (.nat 625 6250)⟩
def F.SYS_IMP_CFG_NV : Fld := ⟨R.SYS_IMP_CFG, 16, 4, .ro, false, .galley, .any⟩
def F.SYS_IMP_CFG_NP : Fld := ⟨R.SYS_IMP_CFG, 24, 6, .ro, false, .galley, (.nat 1 63)⟩
def R.SYS_IMP_PHASE : Reg := ⟨0x1014, []⟩
def F.SYS_IMP_PHASE_OFFSET : Fld := ⟨R.SYS_IMP_PHASE, 0, 13, .ro, false, .galley, .any⟩
def R.SYS_IMP_COUNT : Reg := ⟨0x1018, []⟩
def F.SYS_IMP_COUNT_COUNT : Fld := ⟨R.SYS_IMP_COUNT, 0, 32, .ro, true, (.num 0), .any⟩
def R.SYS_IMP_STATUS : Reg := ⟨0x101C, []⟩
def F.SYS_IMP_STATUS_REALIGN : Fld := ⟨R.SYS_IMP_STATUS, 0, 1, .ro, true, (.num 0), .any⟩
def F.SYS_IMP_STATUS_STEP_SEEN : Fld := ⟨R.SYS_IMP_STATUS, 1, 1, .w1c, false, (.num 0), .any⟩
def F.SYS_IMP_STATUS_DOZE_ABORT : Fld := ⟨R.SYS_IMP_STATUS, 2, 1, .w1c, false, (.num 0), .any⟩
def R.SYS_IRQ_PEND : Reg := ⟨0x1040, []⟩
def F.SYS_IRQ_PEND_HW : Fld := ⟨R.SYS_IRQ_PEND, 0, 29, .w1c, false, (.num 0), .any⟩
def F.SYS_IRQ_PEND_SW : Fld := ⟨R.SYS_IRQ_PEND, 29, 3, .w1c, false, (.num 0), .any⟩
def R.SYS_IRQ_EN : Reg := ⟨0x1044, []⟩
def F.SYS_IRQ_EN_EN : Fld := ⟨R.SYS_IRQ_EN, 0, 32, .rw, false, (.num 0), .any⟩
def R.SYS_HOST_DROP : Reg := ⟨0x1048, []⟩
def F.SYS_HOST_DROP_COUNT : Fld := ⟨R.SYS_HOST_DROP, 0, 16, .rc, false, (.num 0), .any⟩
def F.SYS_HOST_DROP_LAST_IF : Fld := ⟨R.SYS_HOST_DROP, 16, 2, .ro, false, (.num 0), .any⟩
def R.SYS_HOST_DROP_ADDR : Reg := ⟨0x104C, []⟩
def F.SYS_HOST_DROP_ADDR_ADDR : Fld := ⟨R.SYS_HOST_DROP_ADDR, 0, 32, .ro, false, (.num 0), .any⟩
def R.SYS_IRQ_SWSET : Reg := ⟨0x1050, []⟩
def F.SYS_IRQ_SWSET_SET : Fld := ⟨R.SYS_IRQ_SWSET, 29, 3, .wo, false, (.num 0), .any⟩
def R.SYS_CAM_BASE : Reg := ⟨0x13E0, []⟩
def F.SYS_CAM_BASE_INDEX : Fld := ⟨R.SYS_CAM_BASE, 0, 22, .ro, false, .galley, .any⟩
def R.SYS_MM_SEL : Reg := ⟨0x13F0, []⟩
def F.SYS_MM_SEL_M : Fld := ⟨R.SYS_MM_SEL, 0, 6, .rw, false, (.num 0), .any⟩
def R.SYS_MM_FORCE : Reg := ⟨0x13F4, []⟩
def F.SYS_MM_FORCE_MACHINE : Fld := ⟨R.SYS_MM_FORCE, 0, 6, .qs, false, (.num 0), .any⟩
def F.SYS_MM_FORCE_STATE : Fld := ⟨R.SYS_MM_FORCE, 8, 4, .qs, false, (.num 0), .any⟩
def F.SYS_MM_FORCE_GO : Fld := ⟨R.SYS_MM_FORCE, 31, 1, .qs, false, (.num 0), .any⟩
def R.SYS_MM_STATE : Reg := ⟨0x1400, [(64, 0x4)]⟩
def F.SYS_MM_STATE_STATE : Fld := ⟨R.SYS_MM_STATE, 0, 4, .ro, true, .galley, .any⟩
def F.SYS_MM_STATE_LAST_EV : Fld := ⟨R.SYS_MM_STATE, 4, 3, .ro, true, (.num 0), .any⟩
def F.SYS_MM_STATE_STEPPED : Fld := ⟨R.SYS_MM_STATE, 7, 1, .ro, true, (.num 0), .any⟩
def F.SYS_MM_STATE_DISCARDED : Fld := ⟨R.SYS_MM_STATE, 16, 16, .rc, false, (.num 0), .any⟩
def R.SYS_TRK_CFG : Reg := ⟨0x1C00, [(8, 0x80)]⟩
def F.SYS_TRK_CFG_NSEG : Fld := ⟨R.SYS_TRK_CFG, 0, 6, .ro, false, .galley, (.nat 1 48)⟩
def F.SYS_TRK_CFG_CLOSED : Fld := ⟨R.SYS_TRK_CFG, 6, 1, .ro, false, .galley, .any⟩
def F.SYS_TRK_CFG_EN : Fld := ⟨R.SYS_TRK_CFG, 7, 1, .ro, false, .galley, .any⟩
def R.SYS_TRK_TAB : Reg := ⟨0x1C04, [(8, 0x80)]⟩
def F.SYS_TRK_TAB_INDEX : Fld := ⟨R.SYS_TRK_TAB, 0, 22, .ro, false, .galley, .any⟩
def R.SYS_TRK_LAMBDA : Reg := ⟨0x1C08, [(8, 0x80)]⟩
def F.SYS_TRK_LAMBDA_VAL : Fld := ⟨R.SYS_TRK_LAMBDA, 0, 32, .ro, false, .galley, .any⟩
def R.SYS_TRK_LA : Reg := ⟨0x1C0C, [(8, 0x80)]⟩
def F.SYS_TRK_LA_VAL : Fld := ⟨R.SYS_TRK_LA, 0, 32, .ro, false, .galley, .any⟩
def R.SYS_TRK_WIN : Reg := ⟨0x1C10, [(8, 0x80)]⟩
def F.SYS_TRK_WIN_W_OFF : Fld := ⟨R.SYS_TRK_WIN, 0, 10, .qs, false, .galley, (.nat 1 1022)⟩
def F.SYS_TRK_WIN_W_ON : Fld := ⟨R.SYS_TRK_WIN, 16, 10, .qs, false, .galley, (.nat 2 1023)⟩
def R.SYS_TRK_APPR : Reg := ⟨0x1C14, [(8, 0x80)]⟩
def F.SYS_TRK_APPR_VAL : Fld := ⟨R.SYS_TRK_APPR, 0, 32, .qs, false, .galley, .any⟩
def R.SYS_TRK_DRAIN : Reg := ⟨0x1C18, [(8, 0x80)]⟩
def F.SYS_TRK_DRAIN_N : Fld := ⟨R.SYS_TRK_DRAIN, 0, 8, .qs, false, .galley, .any⟩
def R.SYS_TRK_MIN_GAP : Reg := ⟨0x1C1C, [(8, 0x80)]⟩
def F.SYS_TRK_MIN_GAP_VAL : Fld := ⟨R.SYS_TRK_MIN_GAP, 0, 32, .qs, false, .galley, .any⟩
def R.SYS_TRK_OFFLINE_L : Reg := ⟨0x1C20, [(8, 0x80)]⟩
def F.SYS_TRK_OFFLINE_L_SEG : Fld := ⟨R.SYS_TRK_OFFLINE_L, 0, 32, .qs, false, (.num 0), .any⟩
def R.SYS_TRK_OFFLINE_H : Reg := ⟨0x1C24, [(8, 0x80)]⟩
def F.SYS_TRK_OFFLINE_H_SEG : Fld := ⟨R.SYS_TRK_OFFLINE_H, 0, 16, .qs, false, (.num 0), .any⟩
def R.SYS_TRK_FAULT_L : Reg := ⟨0x1C28, [(8, 0x80)]⟩
def F.SYS_TRK_FAULT_L_SEG : Fld := ⟨R.SYS_TRK_FAULT_L, 0, 32, .w1c, false, (.num 0), .any⟩
def R.SYS_TRK_FAULT_H : Reg := ⟨0x1C2C, [(8, 0x80)]⟩
def F.SYS_TRK_FAULT_H_SEG : Fld := ⟨R.SYS_TRK_FAULT_H, 0, 16, .w1c, false, (.num 0), .any⟩
def R.SYS_TRK_STATUS : Reg := ⟨0x1C30, [(8, 0x80)]⟩
def F.SYS_TRK_STATUS_CLOSE : Fld := ⟨R.SYS_TRK_STATUS, 0, 1, .ro, false, (.num 0), .any⟩
def F.SYS_TRK_STATUS_CONFLICT : Fld := ⟨R.SYS_TRK_STATUS, 1, 1, .ro, false, (.num 0), .any⟩
def F.SYS_TRK_STATUS_CLOSE_SEEN : Fld := ⟨R.SYS_TRK_STATUS, 2, 1, .w1c, false, (.num 0), .any⟩
def F.SYS_TRK_STATUS_NO_DRIVE : Fld := ⟨R.SYS_TRK_STATUS, 3, 1, .w1c, false, (.num 0), .any⟩
def F.SYS_TRK_STATUS_STALE : Fld := ⟨R.SYS_TRK_STATUS, 4, 1, .w1c, false, (.num 0), .any⟩
def F.SYS_TRK_STATUS_SHORT_COV : Fld := ⟨R.SYS_TRK_STATUS, 5, 1, .w1c, false, (.num 0), .any⟩
def R.SYS_TRK_GAP : Reg := ⟨0x1C34, [(8, 0x80)]⟩
def F.SYS_TRK_GAP_VAL : Fld := ⟨R.SYS_TRK_GAP, 0, 32, .ro, false, (.num 0), .any⟩
def R.SYS_TRK_SEGSTATE : Reg := ⟨0x1C40, [(8, 0x80), (6, 0x4)]⟩
def F.SYS_TRK_SEGSTATE_S0 : Fld := ⟨R.SYS_TRK_SEGSTATE, 0, 3, .ro, false, (.num 0), .any⟩
def F.SYS_TRK_SEGSTATE_S1 : Fld := ⟨R.SYS_TRK_SEGSTATE, 4, 3, .ro, false, (.num 0), .any⟩
def F.SYS_TRK_SEGSTATE_S2 : Fld := ⟨R.SYS_TRK_SEGSTATE, 8, 3, .ro, false, (.num 0), .any⟩
def F.SYS_TRK_SEGSTATE_S3 : Fld := ⟨R.SYS_TRK_SEGSTATE, 12, 3, .ro, false, (.num 0), .any⟩
def F.SYS_TRK_SEGSTATE_S4 : Fld := ⟨R.SYS_TRK_SEGSTATE, 16, 3, .ro, false, (.num 0), .any⟩
def F.SYS_TRK_SEGSTATE_S5 : Fld := ⟨R.SYS_TRK_SEGSTATE, 20, 3, .ro, false, (.num 0), .any⟩
def F.SYS_TRK_SEGSTATE_S6 : Fld := ⟨R.SYS_TRK_SEGSTATE, 24, 3, .ro, false, (.num 0), .any⟩
def F.SYS_TRK_SEGSTATE_S7 : Fld := ⟨R.SYS_TRK_SEGSTATE, 28, 3, .ro, false, (.num 0), .any⟩

/-! Block QUO at 0x2000 (tables governed by R70-R75, R505). -/

def R.QUO_CTL : Reg := ⟨0x2000, []⟩
def F.QUO_CTL_BEGIN : Fld := ⟨R.QUO_CTL, 0, 1, .wo, false, (.num 0), .any⟩
def F.QUO_CTL_COMMIT : Fld := ⟨R.QUO_CTL, 1, 1, .wo, false, (.num 0), .any⟩
def F.QUO_CTL_ROLLBACK : Fld := ⟨R.QUO_CTL, 2, 1, .wo, false, (.num 0), .any⟩
def R.QUO_STATUS : Reg := ⟨0x2004, []⟩
def F.QUO_STATUS_OPEN : Fld := ⟨R.QUO_STATUS, 0, 1, .ro, true, (.num 0), .any⟩
def F.QUO_STATUS_PENDING : Fld := ⟨R.QUO_STATUS, 1, 1, .ro, true, (.num 0), .any⟩
def F.QUO_STATUS_BUSY : Fld := ⟨R.QUO_STATUS, 2, 1, .ro, true, (.num 0), .any⟩
def F.QUO_STATUS_OWNER : Fld := ⟨R.QUO_STATUS, 3, 2, .ro, true, (.num 0), .any⟩
def F.QUO_STATUS_FULL : Fld := ⟨R.QUO_STATUS, 5, 1, .ro, true, (.num 0), .any⟩
def F.QUO_STATUS_REFUSED : Fld := ⟨R.QUO_STATUS, 6, 1, .w1c, false, (.num 0), .any⟩
def F.QUO_STATUS_TIMED_OUT : Fld := ⟨R.QUO_STATUS, 7, 1, .w1c, false, (.num 0), .any⟩
def F.QUO_STATUS_RESULT : Fld := ⟨R.QUO_STATUS, 8, 2, .ro, false, (.num 0), .any⟩
def F.QUO_STATUS_LOST : Fld := ⟨R.QUO_STATUS, 10, 6, .ro, false, (.num 0), .any⟩
def F.QUO_STATUS_DROPPED : Fld := ⟨R.QUO_STATUS, 16, 12, .ro, false, (.num 0), .any⟩
def R.QUO_TIMEOUT : Reg := ⟨0x2008, []⟩
def F.QUO_TIMEOUT_MS : Fld := ⟨R.QUO_TIMEOUT, 0, 10, .rw, false, (.num 100), (.nat 1 1000)⟩
def R.QUO_APPLIED : Reg := ⟨0x200C, []⟩
def F.QUO_APPLIED_IMP : Fld := ⟨R.QUO_APPLIED, 0, 32, .ro, false, (.num 0), .any⟩
def R.QUO_REPORT : Reg := ⟨0x2100, [(64, 0x4)]⟩
def F.QUO_REPORT_WORD : Fld := ⟨R.QUO_REPORT, 0, 32, .ro, true, (.num 0), .any⟩

/-! Block EVT at 0x3000 (tables governed by R463-R469). -/

def R.EVT_STATUS : Reg := ⟨0x3000, []⟩
def F.EVT_STATUS_COUNT : Fld := ⟨R.EVT_STATUS, 0, 11, .ro, true, (.num 0), .any⟩
def F.EVT_STATUS_FULL : Fld := ⟨R.EVT_STATUS, 11, 1, .ro, true, (.num 0), .any⟩
def F.EVT_STATUS_OVERFLOW : Fld := ⟨R.EVT_STATUS, 12, 1, .ro, true, (.num 0), .any⟩
def F.EVT_STATUS_STAGE : Fld := ⟨R.EVT_STATUS, 16, 5, .ro, true, (.num 0), .any⟩
def R.EVT_CTL : Reg := ⟨0x3004, []⟩
def F.EVT_CTL_POP_N : Fld := ⟨R.EVT_CTL, 0, 11, .wo, false, (.num 0), .any⟩
def F.EVT_CTL_CLEAR : Fld := ⟨R.EVT_CTL, 31, 1, .wo, false, (.num 0), .any⟩
def R.EVT_CFG : Reg := ⟨0x3008, []⟩
def F.EVT_CFG_IRQ_LEVEL : Fld := ⟨R.EVT_CFG, 0, 11, .rw, false, (.num 1), .any⟩
def R.EVT_RD : Reg := ⟨0x300C, []⟩
def F.EVT_RD_IDX : Fld := ⟨R.EVT_RD, 0, 10, .rw, false, (.num 0), .any⟩
def R.EVT_ENT : Reg := ⟨0x3010, [(4, 0x4)]⟩
def F.EVT_ENT_WORD : Fld := ⟨R.EVT_ENT, 0, 32, .ro, true, (.num 0), .any⟩
def R.EVT_DROP : Reg := ⟨0x3104, [(25, 0x4)]⟩
def F.EVT_DROP_COUNT : Fld := ⟨R.EVT_DROP, 0, 16, .rc, false, (.num 0), .any⟩

/-! Block GLY at 0x4000 (tables governed by R43, R48, R58). -/

def R.GLY_STATUS : Reg := ⟨0x4000, []⟩
def F.GLY_STATUS_PHASE : Fld := ⟨R.GLY_STATUS, 0, 3, .ro, false, (.num 0), .any⟩
def F.GLY_STATUS_SRC : Fld := ⟨R.GLY_STATUS, 3, 2, .ro, false, (.num 0), .any⟩
def F.GLY_STATUS_WAIT_HOST : Fld := ⟨R.GLY_STATUS, 5, 1, .ro, false, (.num 0), .any⟩
def F.GLY_STATUS_SIGNED_OK : Fld := ⟨R.GLY_STATUS, 6, 1, .ro, false, (.num 0), .any⟩
def F.GLY_STATUS_CLAMPED : Fld := ⟨R.GLY_STATUS, 7, 1, .ro, false, (.num 0), .any⟩
def F.GLY_STATUS_CONFLICT : Fld := ⟨R.GLY_STATUS, 8, 1, .ro, false, (.num 0), .any⟩
def F.GLY_STATUS_SAFETY_CLAMP : Fld := ⟨R.GLY_STATUS, 9, 1, .ro, false, (.num 0), .any⟩
def F.GLY_STATUS_SLOT_A_BAD : Fld := ⟨R.GLY_STATUS, 10, 1, .ro, false, (.num 0), .any⟩
def F.GLY_STATUS_SLOT_B_BAD : Fld := ⟨R.GLY_STATUS, 11, 1, .ro, false, (.num 0), .any⟩
def F.GLY_STATUS_FAIL_CODE : Fld := ⟨R.GLY_STATUS, 12, 4, .ro, false, (.num 0), .any⟩
def F.GLY_STATUS_REPORT_LOST : Fld := ⟨R.GLY_STATUS, 16, 16, .ro, false, (.num 0), .any⟩
def R.GLY_CTL : Reg := ⟨0x4004, []⟩
def F.GLY_CTL_HOST_LOAD : Fld := ⟨R.GLY_CTL, 0, 1, .wo, false, (.num 0), .any⟩
def F.GLY_CTL_SKIP_FLASH : Fld := ⟨R.GLY_CTL, 1, 1, .wo, false, (.num 0), .any⟩
def R.GLY_HOST_LEN : Reg := ⟨0x4008, []⟩
def F.GLY_HOST_LEN_LEN : Fld := ⟨R.GLY_HOST_LEN, 0, 24, .rw, false, (.num 0), .any⟩
def R.GLY_REPORT_COUNT : Reg := ⟨0x400C, []⟩
def F.GLY_REPORT_COUNT_COUNT : Fld := ⟨R.GLY_REPORT_COUNT, 0, 10, .ro, false, (.num 0), .any⟩
def R.GLY_KEY_DATA : Reg := ⟨0x4020, [(8, 0x4)]⟩
def F.GLY_KEY_DATA_DATA : Fld := ⟨R.GLY_KEY_DATA, 0, 32, .wo, false, (.num 0), .any⟩
def R.GLY_KEY_CTL : Reg := ⟨0x4040, []⟩
def F.GLY_KEY_CTL_SLOT : Fld := ⟨R.GLY_KEY_CTL, 0, 2, .wo, false, (.num 0), .any⟩
def F.GLY_KEY_CTL_PROG : Fld := ⟨R.GLY_KEY_CTL, 2, 1, .wo, false, (.num 0), .any⟩
def F.GLY_KEY_CTL_SET_REQUIRE : Fld := ⟨R.GLY_KEY_CTL, 3, 1, .wo, false, (.num 0), .any⟩
def F.GLY_KEY_CTL_VALID : Fld := ⟨R.GLY_KEY_CTL, 4, 4, .ro, true, .fuse, .any⟩
def F.GLY_KEY_CTL_REQUIRE : Fld := ⟨R.GLY_KEY_CTL, 8, 1, .ro, true, .fuse, .any⟩
def F.GLY_KEY_CTL_BUSY : Fld := ⟨R.GLY_KEY_CTL, 9, 1, .ro, true, (.num 0), .any⟩
def F.GLY_KEY_CTL_KEY : Fld := ⟨R.GLY_KEY_CTL, 24, 8, .wo, false, (.num 0), .any⟩
def R.GLY_REPORT : Reg := ⟨0x6000, [(2048, 0x4)]⟩
def F.GLY_REPORT_WORD : Fld := ⟨R.GLY_REPORT, 0, 32, .ro, true, (.num 0), .any⟩

/-! Block PLT at 0x10000 (tables governed by R110-R114). -/

def R.PLT_CTL : Reg := ⟨0x10000, [(5, 0x3000)]⟩
def F.PLT_CTL_SWAP : Fld := ⟨R.PLT_CTL, 0, 1, .qs, false, (.num 0), .any⟩
def F.PLT_CTL_BEXP_AUTO : Fld := ⟨R.PLT_CTL, 1, 1, .qs, false, .galley, .any⟩
def R.PLT_STATUS : Reg := ⟨0x10004, [(5, 0x3000)]⟩
def F.PLT_STATUS_OVF : Fld := ⟨R.PLT_STATUS, 0, 1, .w1c, false, (.num 0), .any⟩
def F.PLT_STATUS_UE : Fld := ⟨R.PLT_STATUS, 1, 1, .w1c, false, (.num 0), .any⟩
def F.PLT_STATUS_BADSORT : Fld := ⟨R.PLT_STATUS, 2, 1, .w1c, false, (.num 0), .any⟩
def F.PLT_STATUS_STSAT : Fld := ⟨R.PLT_STATUS, 3, 1, .w1c, false, (.num 0), .any⟩
def F.PLT_STATUS_PUB_REFUSED : Fld := ⟨R.PLT_STATUS, 4, 1, .w1c, false, (.num 0), .any⟩
def F.PLT_STATUS_PUB_PARTIAL : Fld := ⟨R.PLT_STATUS, 5, 1, .w1c, false, (.num 0), .any⟩
def F.PLT_STATUS_ACT_BANK : Fld := ⟨R.PLT_STATUS, 6, 1, .ro, true, (.num 0), .any⟩
def F.PLT_STATUS_STG_BUSY : Fld := ⟨R.PLT_STATUS, 7, 1, .ro, true, (.num 0), .any⟩
def F.PLT_STATUS_SWAP_PENDING : Fld := ⟨R.PLT_STATUS, 8, 1, .ro, true, (.num 0), .any⟩
def F.PLT_STATUS_FORME_OVER : Fld := ⟨R.PLT_STATUS, 9, 1, .ro, true, (.num 0), .any⟩
def F.PLT_STATUS_JOB_BUSY : Fld := ⟨R.PLT_STATUS, 10, 1, .ro, true, (.num 0), .any⟩
def F.PLT_STATUS_SWAP_REFUSED : Fld := ⟨R.PLT_STATUS, 11, 1, .w1c, false, (.num 0), .any⟩
def R.PLT_ACT_CFG : Reg := ⟨0x10008, [(5, 0x3000)]⟩
def F.PLT_ACT_CFG_PHASES_M1 : Fld := ⟨R.PLT_ACT_CFG, 0, 6, .ro, true, .galley, .any⟩
def R.PLT_STG_CFG : Reg := ⟨0x1000C, [(5, 0x3000)]⟩
def F.PLT_STG_CFG_PHASES_M1 : Fld := ⟨R.PLT_STG_CFG, 0, 6, .rw, true, .galley, .any⟩
def R.PLT_ACT_WORST : Reg := ⟨0x10010, [(5, 0x3000)]⟩
def F.PLT_ACT_WORST_SLOTS : Fld := ⟨R.PLT_ACT_WORST, 0, 25, .ro, true, .galley, .any⟩
def R.PLT_STG_WORST : Reg := ⟨0x10014, [(5, 0x3000)]⟩
def F.PLT_STG_WORST_SLOTS : Fld := ⟨R.PLT_STG_WORST, 0, 25, .ro, true, .galley, .any⟩
def R.PLT_LIMIT : Reg := ⟨0x10018, [(4, 0x3000)]⟩
def F.PLT_LIMIT_L : Fld := ⟨R.PLT_LIMIT, 0, 16, .ro, true, .galley, .any⟩
def R.PLT_PHASE : Reg := ⟨0x1001C, [(4, 0x3000)]⟩
def F.PLT_PHASE_PHI : Fld := ⟨R.PLT_PHASE, 0, 6, .ro, true, (.num 0), .any⟩
def R.PLT_MASK_LO : Reg := ⟨0x10020, [(5, 0x3000)]⟩
def F.PLT_MASK_LO_BITS : Fld := ⟨R.PLT_MASK_LO, 0, 32, .ro, true, (.num 0), .any⟩
def R.PLT_MASK_HI : Reg := ⟨0x10024, [(5, 0x3000)]⟩
def F.PLT_MASK_HI_BITS : Fld := ⟨R.PLT_MASK_HI, 0, 32, .ro, true, (.num 0), .any⟩
def R.PLT_SCHED_LO : Reg := ⟨0x10028, [(5, 0x3000)]⟩
def F.PLT_SCHED_LO_BITS : Fld := ⟨R.PLT_SCHED_LO, 0, 32, .ro, true, (.num 0), .any⟩
def R.PLT_SCHED_HI : Reg := ⟨0x1002C, [(5, 0x3000)]⟩
def F.PLT_SCHED_HI_BITS : Fld := ⟨R.PLT_SCHED_HI, 0, 32, .ro, true, (.num 0), .any⟩
def R.PLT_OVF_INFO : Reg := ⟨0x10030, [(5, 0x3000)]⟩
def F.PLT_OVF_INFO_SORT : Fld := ⟨R.PLT_OVF_INFO, 0, 13, .ro, false, (.num 0), .any⟩
def F.PLT_OVF_INFO_ACC : Fld := ⟨R.PLT_OVF_INFO, 14, 2, .ro, false, (.num 0), .any⟩
def F.PLT_OVF_INFO_IMP : Fld := ⟨R.PLT_OVF_INFO, 16, 16, .ro, false, (.num 0), .any⟩
def R.PLT_ECC : Reg := ⟨0x10034, [(5, 0x3000)]⟩
def F.PLT_ECC_CE : Fld := ⟨R.PLT_ECC, 0, 16, .rc, false, (.num 0), .any⟩
def R.PLT_UE_ADDR : Reg := ⟨0x10038, [(5, 0x3000)]⟩
def F.PLT_UE_ADDR_OFFSET : Fld := ⟨R.PLT_UE_ADDR, 0, 20, .ro, false, (.num 0), .any⟩
def R.PLT_BEXP : Reg := ⟨0x1003C, [(5, 0x3000)]⟩
def F.PLT_BEXP_BE : Fld := ⟨R.PLT_BEXP, 0, 5, .ro, true, (.num 0), .any⟩
def F.PLT_BEXP_D : Fld := ⟨R.PLT_BEXP, 8, 5, .ro, true, (.num 23), .any⟩

/-! Block MOV at 0x20000 (tables governed by R208-R219). -/

def R.MOV_CFG : Reg := ⟨0x20000, [(32, 0x200)]⟩
def F.MOV_CFG_TYPE : Fld := ⟨R.MOV_CFG, 0, 2, .ro, false, .galley, .any⟩
def F.MOV_CFG_UNIT : Fld := ⟨R.MOV_CFG, 2, 1, .ro, false, .galley, .any⟩
def F.MOV_CFG_FB_TAB : Fld := ⟨R.MOV_CFG, 3, 5, .ro, false, .galley, .any⟩
def F.MOV_CFG_CH_A : Fld := ⟨R.MOV_CFG, 8, 6, .ro, false, .galley, .any⟩
def F.MOV_CFG_CH_B : Fld := ⟨R.MOV_CFG, 16, 6, .ro, false, .galley, .any⟩
def F.MOV_CFG_TRACK : Fld := ⟨R.MOV_CFG, 24, 3, .ro, false, .galley, .any⟩
def F.MOV_CFG_PLATEN : Fld := ⟨R.MOV_CFG, 28, 2, .ro, false, .galley, .any⟩
def R.MOV_SRC : Reg := ⟨0x20004, [(32, 0x200)]⟩
def F.MOV_SRC_PRI : Fld := ⟨R.MOV_SRC, 0, 7, .ro, false, .galley, .any⟩
def F.MOV_SRC_SEC : Fld := ⟨R.MOV_SRC, 8, 7, .ro, false, .galley, .any⟩
def F.MOV_SRC_MM : Fld := ⟨R.MOV_SRC, 16, 6, .ro, false, .galley, .any⟩
def F.MOV_SRC_SBC : Fld := ⟨R.MOV_SRC, 24, 4, .ro, false, .galley, .any⟩
def R.MOV_CTL : Reg := ⟨0x20008, [(32, 0x200)]⟩
def F.MOV_CTL_SEC_SYNC : Fld := ⟨R.MOV_CTL, 0, 1, .qs, false, (.num 0), .any⟩
def F.MOV_CTL_REQ : Fld := ⟨R.MOV_CTL, 4, 4, .wo, false, (.num 0), .any⟩
def R.MOV_REC : Reg := ⟨0x2000C, [(32, 0x200)]⟩
def F.MOV_REC_INDEX : Fld := ⟨R.MOV_REC, 0, 22, .ro, false, .galley, .any⟩
def R.MOV_PBASE : Reg := ⟨0x20010, [(32, 0x200)]⟩
def F.MOV_PBASE_INDEX : Fld := ⟨R.MOV_PBASE, 0, 22, .ro, false, .galley, .any⟩
def R.MOV_VNORM : Reg := ⟨0x20014, [(32, 0x200)]⟩
def F.MOV_VNORM_VAL : Fld := ⟨R.MOV_VNORM, 0, 32, .ro, false, .galley, (.nat 1 2147483647)⟩
def R.MOV_SCALE_NUM : Reg := ⟨0x20018, [(32, 0x200)]⟩
def F.MOV_SCALE_NUM_VAL : Fld := ⟨R.MOV_SCALE_NUM, 0, 32, .ro, false, .galley, .any⟩
def R.MOV_SCALE_DEN : Reg := ⟨0x2001C, [(32, 0x200)]⟩
def F.MOV_SCALE_DEN_VAL : Fld := ⟨R.MOV_SCALE_DEN, 0, 32, .ro, false, .galley, .any⟩
def R.MOV_SEC_NUM : Reg := ⟨0x20020, [(32, 0x200)]⟩
def F.MOV_SEC_NUM_VAL : Fld := ⟨R.MOV_SEC_NUM, 0, 32, .ro, false, .galley, .any⟩
def R.MOV_SEC_DEN : Reg := ⟨0x20024, [(32, 0x200)]⟩
def F.MOV_SEC_DEN_VAL : Fld := ⟨R.MOV_SEC_DEN, 0, 32, .ro, false, .galley, .any⟩
def R.MOV_EPT : Reg := ⟨0x20028, [(32, 0x200)]⟩
def F.MOV_EPT_VAL : Fld := ⟨R.MOV_EPT, 0, 32, .ro, false, .galley, (.nat 6 2147483647)⟩
def R.MOV_ALIGN : Reg := ⟨0x2002C, [(32, 0x200)]⟩
def F.MOV_ALIGN_VAL : Fld := ⟨R.MOV_ALIGN, 0, 32, .qs, false, .galley, .any⟩
def R.MOV_ALIGN_B : Reg := ⟨0x20030, [(32, 0x200)]⟩
def F.MOV_ALIGN_B_VAL : Fld := ⟨R.MOV_ALIGN_B, 0, 32, .qs, false, .galley, .any⟩
def R.MOV_AMIN : Reg := ⟨0x20034, [(32, 0x200)]⟩
def F.MOV_AMIN_VAL : Fld := ⟨R.MOV_AMIN, 0, 32, .qs, false, .galley, .any⟩
def R.MOV_FB_VMAX : Reg := ⟨0x20038, [(32, 0x200)]⟩
def F.MOV_FB_VMAX_VAL : Fld := ⟨R.MOV_FB_VMAX, 0, 32, .qs, false, .galley, .any⟩
def R.MOV_HOLD : Reg := ⟨0x2003C, [(32, 0x200)]⟩
def F.MOV_HOLD_DLY : Fld := ⟨R.MOV_HOLD, 0, 8, .qs, false, .galley, .any⟩
def F.MOV_HOLD_N : Fld := ⟨R.MOV_HOLD, 8, 8, .qs, false, .galley, (.nat 1 255)⟩
def R.MOV_KP : Reg := ⟨0x20040, [(32, 0x200)]⟩
def F.MOV_KP_VAL : Fld := ⟨R.MOV_KP, 0, 24, .qs, false, .galley, .any⟩
def R.MOV_KV : Reg := ⟨0x20044, [(32, 0x200)]⟩
def F.MOV_KV_VAL : Fld := ⟨R.MOV_KV, 0, 24, .qs, false, .galley, .any⟩
def R.MOV_KIVT : Reg := ⟨0x20048, [(32, 0x200)]⟩
def F.MOV_KIVT_VAL : Fld := ⟨R.MOV_KIVT, 0, 24, .qs, false, .galley, .any⟩
def R.MOV_KA : Reg := ⟨0x2004C, [(32, 0x200)]⟩
def F.MOV_KA_VAL : Fld := ⟨R.MOV_KA, 0, 24, .qs, false, .galley, .any⟩
def R.MOV_IMAXM : Reg := ⟨0x20050, [(32, 0x200)]⟩
def F.MOV_IMAXM_VAL : Fld := ⟨R.MOV_IMAXM, 0, 24, .qs, false, .galley, .any⟩
def R.MOV_RHO : Reg := ⟨0x20054, [(32, 0x200)]⟩
def F.MOV_RHO_MIN : Fld := ⟨R.MOV_RHO, 0, 12, .qs, false, .galley, (.nat 256 4095)⟩
def F.MOV_RHO_MAX : Fld := ⟨R.MOV_RHO, 12, 12, .qs, false, .galley, (.nat 256 4095)⟩
def R.MOV_MU_M : Reg := ⟨0x20058, [(32, 0x200)]⟩
def F.MOV_MU_M_VAL : Fld := ⟨R.MOV_MU_M, 0, 24, .qs, false, .galley, .any⟩
def R.MOV_L1T : Reg := ⟨0x2005C, [(32, 0x200)]⟩
def F.MOV_L1T_VAL : Fld := ⟨R.MOV_L1T, 0, 24, .qs, false, .galley, .any⟩
def R.MOV_L2T : Reg := ⟨0x20060, [(32, 0x200)]⟩
def F.MOV_L2T_VAL : Fld := ⟨R.MOV_L2T, 0, 24, .qs, false, .galley, .any⟩
def R.MOV_FB_I : Reg := ⟨0x20064, [(32, 0x200)]⟩
def F.MOV_FB_I_VAL : Fld := ⟨R.MOV_FB_I, 0, 24, .qs, false, .galley, .any⟩
def R.MOV_SHARE : Reg := ⟨0x20068, [(32, 0x200)]⟩
def F.MOV_SHARE_VAL : Fld := ⟨R.MOV_SHARE, 0, 24, .qs, false, .galley, (.nat 0 4194304)⟩
def R.MOV_PL : Reg := ⟨0x2006C, [(32, 0x200)]⟩
def F.MOV_PL_TOL : Fld := ⟨R.MOV_PL, 0, 20, .qs, false, .galley, (.nat 1 1048575)⟩
def F.MOV_PL_N : Fld := ⟨R.MOV_PL, 20, 4, .qs, false, .galley, (.nat 1 15)⟩
def R.MOV_NQ : Reg := ⟨0x20070, [(32, 0x200), (10, 0x4)]⟩
def F.MOV_NQ_VAL : Fld := ⟨R.MOV_NQ, 0, 24, .qs, false, .galley, .any⟩
def R.MOV_OPT : Reg := ⟨0x20098, [(32, 0x200)]⟩
def F.MOV_OPT_DOB_EN : Fld := ⟨R.MOV_OPT, 0, 1, .qs, false, .galley, .any⟩
def F.MOV_OPT_N1_EN : Fld := ⟨R.MOV_OPT, 1, 1, .qs, false, .galley, .any⟩
def F.MOV_OPT_N2_EN : Fld := ⟨R.MOV_OPT, 2, 1, .qs, false, .galley, .any⟩
def F.MOV_OPT_MASS_EN : Fld := ⟨R.MOV_OPT, 3, 1, .qs, false, .galley, .any⟩

/-! Block PRF at 0x30000 (tables governed by R244-R250). -/

def R.PRF_STATE : Reg := ⟨0x30000, [(32, 0x100)]⟩
def F.PRF_STATE_STATE : Fld := ⟨R.PRF_STATE, 0, 3, .ro, false, (.num 0), .any⟩
def F.PRF_STATE_CMDRES : Fld := ⟨R.PRF_STATE, 4, 4, .ro, false, (.num 0), .any⟩
def F.PRF_STATE_OUTCOME : Fld := ⟨R.PRF_STATE, 8, 4, .ro, false, (.num 0), .any⟩
def F.PRF_STATE_OVERSHOOT : Fld := ⟨R.PRF_STATE, 16, 1, .w1c, false, (.num 0), .any⟩
def F.PRF_STATE_DMAX_EXCEEDED : Fld := ⟨R.PRF_STATE, 17, 1, .w1c, false, (.num 0), .any⟩
def F.PRF_STATE_CMD_REPLACED : Fld := ⟨R.PRF_STATE, 18, 1, .w1c, false, (.num 0), .any⟩
def F.PRF_STATE_FB_LIMITED : Fld := ⟨R.PRF_STATE, 19, 1, .ro, false, (.num 0), .any⟩
def F.PRF_STATE_TAKEOVER_STOP : Fld := ⟨R.PRF_STATE, 20, 1, .w1c, false, (.num 0), .any⟩
def R.PRF_CMD : Reg := ⟨0x30004, [(32, 0x100)]⟩
def F.PRF_CMD_CODE : Fld := ⟨R.PRF_CMD, 0, 4, .wo, false, (.num 0), .any⟩
def R.PRF_TGT_L : Reg := ⟨0x30008, [(32, 0x100)]⟩
def F.PRF_TGT_L_VAL : Fld := ⟨R.PRF_TGT_L, 0, 32, .rw, false, (.num 0), .any⟩
def R.PRF_TGT_H : Reg := ⟨0x3000C, [(32, 0x100)]⟩
def F.PRF_TGT_H_VAL : Fld := ⟨R.PRF_TGT_H, 0, 16, .rw, false, (.num 0), .any⟩
def R.PRF_VMAX : Reg := ⟨0x30010, [(32, 0x100)]⟩
def F.PRF_VMAX_VAL : Fld := ⟨R.PRF_VMAX, 0, 32, .qs, false, .galley, .any⟩
def R.PRF_AMAX : Reg := ⟨0x30014, [(32, 0x100)]⟩
def F.PRF_AMAX_VAL : Fld := ⟨R.PRF_AMAX, 0, 32, .qs, false, .galley, .any⟩
def R.PRF_DMAX : Reg := ⟨0x30018, [(32, 0x100)]⟩
def F.PRF_DMAX_VAL : Fld := ⟨R.PRF_DMAX, 0, 32, .qs, false, .galley, .any⟩
def R.PRF_QDEC : Reg := ⟨0x3001C, [(32, 0x100)]⟩
def F.PRF_QDEC_VAL : Fld := ⟨R.PRF_QDEC, 0, 32, .qs, false, .galley, .any⟩
def R.PRF_JMAX : Reg := ⟨0x30020, [(32, 0x100)]⟩
def F.PRF_JMAX_VAL : Fld := ⟨R.PRF_JMAX, 0, 32, .qs, false, .galley, .any⟩
def R.PRF_QJERK : Reg := ⟨0x30024, [(32, 0x100)]⟩
def F.PRF_QJERK_VAL : Fld := ⟨R.PRF_QJERK, 0, 32, .qs, false, .galley, .any⟩
def R.PRF_SPBASE : Reg := ⟨0x30028, [(32, 0x100)]⟩
def F.PRF_SPBASE_INDEX : Fld := ⟨R.PRF_SPBASE, 0, 22, .ro, false, .galley, .any⟩
def R.PRF_SP_L : Reg := ⟨0x3002C, [(32, 0x100)]⟩
def F.PRF_SP_L_VAL : Fld := ⟨R.PRF_SP_L, 0, 32, .ro, false, (.num 0), .any⟩
def R.PRF_SP_H : Reg := ⟨0x30030, [(32, 0x100)]⟩
def F.PRF_SP_H_VAL : Fld := ⟨R.PRF_SP_H, 0, 32, .ro, false, (.num 0), .any⟩
def R.PRF_SPV : Reg := ⟨0x30034, [(32, 0x100)]⟩
def F.PRF_SPV_VAL : Fld := ⟨R.PRF_SPV, 0, 32, .ro, false, (.num 0), .any⟩
def R.PRF_SPA : Reg := ⟨0x30038, [(32, 0x100)]⟩
def F.PRF_SPA_VAL : Fld := ⟨R.PRF_SPA, 0, 32, .ro, false, (.num 0), .any⟩
def R.PRF_REMAIN : Reg := ⟨0x3003C, [(32, 0x100)]⟩
def F.PRF_REMAIN_VAL : Fld := ⟨R.PRF_REMAIN, 0, 32, .ro, false, (.num 0), .any⟩

/-! Block ACD at 0x34000 (tables governed by R251-R257). -/

def R.ACD_CFG : Reg := ⟨0x34000, [(16, 0x100)]⟩
def F.ACD_CFG_KIND : Fld := ⟨R.ACD_CFG, 0, 2, .rw, false, (.num 0), .any⟩
def F.ACD_CFG_SLAVE : Fld := ⟨R.ACD_CFG, 2, 5, .rw, false, (.num 0), .any⟩
def F.ACD_CFG_MKIND : Fld := ⟨R.ACD_CFG, 8, 2, .rw, false, (.num 0), (.notUsed 3 3)⟩
def F.ACD_CFG_MASTER : Fld := ⟨R.ACD_CFG, 10, 7, .rw, false, (.num 0), .any⟩
def F.ACD_CFG_SYNC : Fld := ⟨R.ACD_CFG, 17, 1, .rw, false, (.num 0), .any⟩
def F.ACD_CFG_TABLE : Fld := ⟨R.ACD_CFG, 18, 4, .rw, false, (.num 0), .any⟩
def F.ACD_CFG_CYCLIC : Fld := ⟨R.ACD_CFG, 22, 1, .rw, false, (.num 0), .any⟩
def F.ACD_CFG_ENG_MODE : Fld := ⟨R.ACD_CFG, 23, 2, .rw, false, (.num 0), (.notUsed 3 3)⟩
def F.ACD_CFG_DIS_MODE : Fld := ⟨R.ACD_CFG, 25, 2, .rw, false, (.num 0), (.notUsed 3 3)⟩
def R.ACD_CTL : Reg := ⟨0x34004, [(16, 0x100)]⟩
def F.ACD_CTL_ENGAGE : Fld := ⟨R.ACD_CTL, 0, 1, .wo, false, (.num 0), .any⟩
def F.ACD_CTL_DISENGAGE : Fld := ⟨R.ACD_CTL, 1, 1, .wo, false, (.num 0), .any⟩
def R.ACD_STATUS : Reg := ⟨0x34008, [(16, 0x100)]⟩
def F.ACD_STATUS_STATE : Fld := ⟨R.ACD_STATUS, 0, 3, .ro, false, (.num 0), .any⟩
def F.ACD_STATUS_OVER_V : Fld := ⟨R.ACD_STATUS, 4, 1, .w1c, false, (.num 0), .any⟩
def F.ACD_STATUS_OVER_A : Fld := ⟨R.ACD_STATUS, 5, 1, .w1c, false, (.num 0), .any⟩
def F.ACD_STATUS_LAG : Fld := ⟨R.ACD_STATUS, 6, 1, .ro, false, (.num 0), .any⟩
def F.ACD_STATUS_REFUSED : Fld := ⟨R.ACD_STATUS, 7, 1, .w1c, false, (.num 0), .any⟩
def R.ACD_NUM : Reg := ⟨0x3400C, [(16, 0x100)]⟩
def F.ACD_NUM_VAL : Fld := ⟨R.ACD_NUM, 0, 32, .qs, false, .galley, .any⟩
def R.ACD_DEN : Reg := ⟨0x34010, [(16, 0x100)]⟩
def F.ACD_DEN_VAL : Fld := ⟨R.ACD_DEN, 0, 32, .qs, false, .galley, .any⟩
def R.ACD_OFS_L : Reg := ⟨0x34014, [(16, 0x100)]⟩
def F.ACD_OFS_L_VAL : Fld := ⟨R.ACD_OFS_L, 0, 32, .qs, false, .galley, .any⟩
def R.ACD_OFS_H : Reg := ⟨0x34018, [(16, 0x100)]⟩
def F.ACD_OFS_H_VAL : Fld := ⟨R.ACD_OFS_H, 0, 16, .qs, false, .galley, .any⟩
def R.ACD_CSCALE : Reg := ⟨0x3401C, [(16, 0x100)]⟩
def F.ACD_CSCALE_VAL : Fld := ⟨R.ACD_CSCALE, 0, 32, .qs, false, .galley, .any⟩
def R.ACD_MC_L : Reg := ⟨0x34020, [(16, 0x100)]⟩
def F.ACD_MC_L_VAL : Fld := ⟨R.ACD_MC_L, 0, 32, .qs, false, .galley, .any⟩
def R.ACD_MC_H : Reg := ⟨0x34024, [(16, 0x100)]⟩
def F.ACD_MC_H_VAL : Fld := ⟨R.ACD_MC_H, 0, 16, .qs, false, .galley, .any⟩
def R.ACD_CLEN : Reg := ⟨0x34028, [(16, 0x100)]⟩
def F.ACD_CLEN_VAL : Fld := ⟨R.ACD_CLEN, 0, 32, .qs, false, .galley, (.nat 1024 2147483647)⟩
def R.ACD_EPOS_L : Reg := ⟨0x3402C, [(16, 0x100)]⟩
def F.ACD_EPOS_L_VAL : Fld := ⟨R.ACD_EPOS_L, 0, 32, .rw, false, (.num 0), .any⟩
def R.ACD_EPOS_H : Reg := ⟨0x34030, [(16, 0x100)]⟩
def F.ACD_EPOS_H_VAL : Fld := ⟨R.ACD_EPOS_H, 0, 16, .rw, false, (.num 0), .any⟩
def R.ACD_DPOS_L : Reg := ⟨0x34034, [(16, 0x100)]⟩
def F.ACD_DPOS_L_VAL : Fld := ⟨R.ACD_DPOS_L, 0, 32, .rw, false, (.num 0), .any⟩
def R.ACD_DPOS_H : Reg := ⟨0x34038, [(16, 0x100)]⟩
def F.ACD_DPOS_H_VAL : Fld := ⟨R.ACD_DPOS_H, 0, 16, .rw, false, (.num 0), .any⟩
def R.ACD_ENG_V : Reg := ⟨0x3403C, [(16, 0x100)]⟩
def F.ACD_ENG_V_VAL : Fld := ⟨R.ACD_ENG_V, 0, 32, .qs, false, .galley, .any⟩
def R.ACD_ENG_A : Reg := ⟨0x34040, [(16, 0x100)]⟩
def F.ACD_ENG_A_VAL : Fld := ⟨R.ACD_ENG_A, 0, 32, .qs, false, .galley, .any⟩
def R.ACD_ENG_J : Reg := ⟨0x34044, [(16, 0x100)]⟩
def F.ACD_ENG_J_VAL : Fld := ⟨R.ACD_ENG_J, 0, 32, .qs, false, .galley, .any⟩
def R.ACD_SH_TGT : Reg := ⟨0x34048, [(16, 0x100)]⟩
def F.ACD_SH_TGT_VAL : Fld := ⟨R.ACD_SH_TGT, 0, 24, .qs, false, .galley, (.nat 0 4194304)⟩
def R.ACD_SH_RATE : Reg := ⟨0x3404C, [(16, 0x100)]⟩
def F.ACD_SH_RATE_VAL : Fld := ⟨R.ACD_SH_RATE, 0, 24, .qs, false, .galley, .any⟩
def R.ACD_LAW_L : Reg := ⟨0x34050, [(16, 0x100)]⟩
def F.ACD_LAW_L_VAL : Fld := ⟨R.ACD_LAW_L, 0, 32, .ro, false, (.num 0), .any⟩
def R.ACD_LAW_H : Reg := ⟨0x34054, [(16, 0x100)]⟩
def F.ACD_LAW_H_VAL : Fld := ⟨R.ACD_LAW_H, 0, 32, .ro, false, (.num 0), .any⟩

/-! Block PTH at 0x38000 (tables governed by R258-R263). -/

def R.PTH_CFG : Reg := ⟨0x38000, [(8, 0x200)]⟩
def F.PTH_CFG_NAX_M1 : Fld := ⟨R.PTH_CFG, 0, 2, .rw, false, (.num 0), (.notUsed 0 0)⟩
def F.PTH_CFG_AX0 : Fld := ⟨R.PTH_CFG, 2, 5, .rw, false, (.num 0), .any⟩
def F.PTH_CFG_AX1 : Fld := ⟨R.PTH_CFG, 7, 5, .rw, false, (.num 0), .any⟩
def F.PTH_CFG_AX2 : Fld := ⟨R.PTH_CFG, 12, 5, .rw, false, (.num 0), .any⟩
def F.PTH_CFG_AX3 : Fld := ⟨R.PTH_CFG, 17, 5, .rw, false, (.num 0), .any⟩
def R.PTH_CTL : Reg := ⟨0x38004, [(8, 0x200)]⟩
def F.PTH_CTL_START : Fld := ⟨R.PTH_CTL, 0, 1, .wo, false, (.num 0), .any⟩
def F.PTH_CTL_HOLD : Fld := ⟨R.PTH_CTL, 1, 1, .wo, false, (.num 0), .any⟩
def F.PTH_CTL_RESUME : Fld := ⟨R.PTH_CTL, 2, 1, .wo, false, (.num 0), .any⟩
def F.PTH_CTL_STOP : Fld := ⟨R.PTH_CTL, 3, 1, .wo, false, (.num 0), .any⟩
def F.PTH_CTL_ABORT : Fld := ⟨R.PTH_CTL, 4, 1, .wo, false, (.num 0), .any⟩
def F.PTH_CTL_PUSH : Fld := ⟨R.PTH_CTL, 5, 1, .wo, false, (.num 0), .any⟩
def F.PTH_CTL_FLUSH : Fld := ⟨R.PTH_CTL, 6, 1, .wo, false, (.num 0), .any⟩
def R.PTH_STATUS : Reg := ⟨0x38008, [(8, 0x200)]⟩
def F.PTH_STATUS_STATE : Fld := ⟨R.PTH_STATUS, 0, 3, .ro, false, (.num 0), .any⟩
def F.PTH_STATUS_LEVEL : Fld := ⟨R.PTH_STATUS, 8, 7, .ro, false, (.num 0), .any⟩
def F.PTH_STATUS_FULL : Fld := ⟨R.PTH_STATUS, 16, 1, .ro, false, (.num 0), .any⟩
def F.PTH_STATUS_STARVED : Fld := ⟨R.PTH_STATUS, 17, 1, .w1c, false, (.num 0), .any⟩
def F.PTH_STATUS_ARC_BAD : Fld := ⟨R.PTH_STATUS, 18, 1, .w1c, false, (.num 0), .any⟩
def F.PTH_STATUS_PAUSED : Fld := ⟨R.PTH_STATUS, 19, 1, .ro, false, (.num 0), .any⟩
def F.PTH_STATUS_REFUSED : Fld := ⟨R.PTH_STATUS, 20, 1, .w1c, false, (.num 0), .any⟩
def F.PTH_STATUS_TAG_NOW : Fld := ⟨R.PTH_STATUS, 24, 8, .ro, false, (.num 0), .any⟩
def R.PTH_VP : Reg := ⟨0x3800C, [(8, 0x200)]⟩
def F.PTH_VP_VAL : Fld := ⟨R.PTH_VP, 0, 32, .qs, false, .galley, .any⟩
def R.PTH_AP : Reg := ⟨0x38010, [(8, 0x200)]⟩
def F.PTH_AP_VAL : Fld := ⟨R.PTH_AP, 0, 32, .qs, false, .galley, .any⟩
def R.PTH_JP : Reg := ⟨0x38014, [(8, 0x200)]⟩
def F.PTH_JP_VAL : Fld := ⟨R.PTH_JP, 0, 32, .qs, false, .galley, .any⟩
def R.PTH_QDP : Reg := ⟨0x38018, [(8, 0x200)]⟩
def F.PTH_QDP_VAL : Fld := ⟨R.PTH_QDP, 0, 32, .qs, false, .galley, .any⟩
def R.PTH_QJP : Reg := ⟨0x3801C, [(8, 0x200)]⟩
def F.PTH_QJP_VAL : Fld := ⟨R.PTH_QJP, 0, 32, .qs, false, .galley, .any⟩
def R.PTH_OVR : Reg := ⟨0x38020, [(8, 0x200)]⟩
def F.PTH_OVR_VAL : Fld := ⟨R.PTH_OVR, 0, 12, .qs, false, (.num 1024), (.nat 0 2048)⟩
def R.PTH_ARC_TOL : Reg := ⟨0x38024, [(8, 0x200)]⟩
def F.PTH_ARC_TOL_VAL : Fld := ⟨R.PTH_ARC_TOL, 0, 20, .qs, false, .galley, .any⟩
def R.PTH_SEG : Reg := ⟨0x38028, [(8, 0x200)]⟩
def F.PTH_SEG_TYPE : Fld := ⟨R.PTH_SEG, 0, 2, .rw, false, (.num 0), .any⟩
def F.PTH_SEG_PA : Fld := ⟨R.PTH_SEG, 2, 2, .rw, false, (.num 0), .any⟩
def F.PTH_SEG_PB : Fld := ⟨R.PTH_SEG, 4, 2, .rw, false, (.num 0), .any⟩
def F.PTH_SEG_END_V : Fld := ⟨R.PTH_SEG, 6, 12, .rw, false, (.num 0), .any⟩
def F.PTH_SEG_TAG : Fld := ⟨R.PTH_SEG, 24, 8, .rw, false, (.num 0), .any⟩
def R.PTH_END_L : Reg := ⟨0x38030, [(8, 0x200), (4, 0x8)]⟩
def F.PTH_END_L_VAL : Fld := ⟨R.PTH_END_L, 0, 32, .rw, false, (.num 0), .any⟩
def R.PTH_END_H : Reg := ⟨0x38034, [(8, 0x200), (4, 0x8)]⟩
def F.PTH_END_H_VAL : Fld := ⟨R.PTH_END_H, 0, 16, .rw, false, (.num 0), .any⟩
def R.PTH_CA_L : Reg := ⟨0x38050, [(8, 0x200)]⟩
def F.PTH_CA_L_VAL : Fld := ⟨R.PTH_CA_L, 0, 32, .rw, false, (.num 0), .any⟩
def R.PTH_CA_H : Reg := ⟨0x38054, [(8, 0x200)]⟩
def F.PTH_CA_H_VAL : Fld := ⟨R.PTH_CA_H, 0, 16, .rw, false, (.num 0), .any⟩
def R.PTH_CB_L : Reg := ⟨0x38058, [(8, 0x200)]⟩
def F.PTH_CB_L_VAL : Fld := ⟨R.PTH_CB_L, 0, 32, .rw, false, (.num 0), .any⟩
def R.PTH_CB_H : Reg := ⟨0x3805C, [(8, 0x200)]⟩
def F.PTH_CB_H_VAL : Fld := ⟨R.PTH_CB_H, 0, 16, .rw, false, (.num 0), .any⟩
def R.PTH_S_REM : Reg := ⟨0x38060, [(8, 0x200)]⟩
def F.PTH_S_REM_VAL : Fld := ⟨R.PTH_S_REM, 0, 32, .ro, false, (.num 0), .any⟩

/-! Block SCH at 0x3C000 (tables governed by R264-R270). -/

def R.SCH_CFG : Reg := ⟨0x3C000, []⟩
def F.SCH_CFG_GRACE : Fld := ⟨R.SCH_CFG, 0, 14, .rw, false, (.num 100), (.nat 0 10000)⟩
def R.SCH_SUMMARY : Reg := ⟨0x3C004, []⟩
def F.SCH_SUMMARY_ARMED : Fld := ⟨R.SCH_SUMMARY, 0, 7, .ro, false, (.num 0), .any⟩
def F.SCH_SUMMARY_LATES : Fld := ⟨R.SCH_SUMMARY, 16, 8, .rc, false, (.num 0), .any⟩
def F.SCH_SUMMARY_EXPIRIES : Fld := ⟨R.SCH_SUMMARY, 24, 8, .rc, false, (.num 0), .any⟩
def R.SCH_TIME_L : Reg := ⟨0x3C100, [(64, 0x20)]⟩
def F.SCH_TIME_L_VAL : Fld := ⟨R.SCH_TIME_L, 0, 32, .rw, false, (.num 0), .any⟩
def R.SCH_TIME_H : Reg := ⟨0x3C104, [(64, 0x20)]⟩
def F.SCH_TIME_H_VAL : Fld := ⟨R.SCH_TIME_H, 0, 32, .rw, false, (.num 0), .any⟩
def R.SCH_ACT : Reg := ⟨0x3C108, [(64, 0x20)]⟩
def F.SCH_ACT_KIND : Fld := ⟨R.SCH_ACT, 0, 4, .rw, false, (.num 0), .any⟩
def F.SCH_ACT_SUB : Fld := ⟨R.SCH_ACT, 4, 4, .rw, false, (.num 0), .any⟩
def F.SCH_ACT_INST : Fld := ⟨R.SCH_ACT, 8, 6, .rw, false, (.num 0), .any⟩
def F.SCH_ACT_WAKE : Fld := ⟨R.SCH_ACT, 14, 1, .rw, false, (.num 0), .any⟩
def R.SCH_ARG : Reg := ⟨0x3C10C, [(64, 0x20)]⟩
def F.SCH_ARG_VAL : Fld := ⟨R.SCH_ARG, 0, 32, .rw, false, (.num 0), .any⟩
def R.SCH_PERIOD : Reg := ⟨0x3C110, [(64, 0x20)]⟩
def F.SCH_PERIOD_VAL : Fld := ⟨R.SCH_PERIOD, 0, 32, .rw, false, (.num 0), .any⟩
def R.SCH_CTL : Reg := ⟨0x3C114, [(64, 0x20)]⟩
def F.SCH_CTL_ARM : Fld := ⟨R.SCH_CTL, 0, 1, .wo, false, (.num 0), .any⟩
def F.SCH_CTL_CANCEL : Fld := ⟨R.SCH_CTL, 1, 1, .wo, false, (.num 0), .any⟩
def R.SCH_STAT : Reg := ⟨0x3C118, [(64, 0x20)]⟩
def F.SCH_STAT_STATE : Fld := ⟨R.SCH_STAT, 0, 3, .ro, false, (.num 0), .any⟩
def F.SCH_STAT_LATE : Fld := ⟨R.SCH_STAT, 3, 1, .w1c, false, (.num 0), .any⟩
def F.SCH_STAT_SKIPS : Fld := ⟨R.SCH_STAT, 8, 8, .ro, false, (.num 0), .any⟩
def F.SCH_STAT_FIRES : Fld := ⟨R.SCH_STAT, 16, 16, .ro, false, (.num 0), .any⟩
def R.SCH_LAST : Reg := ⟨0x3C11C, [(64, 0x20)]⟩
def F.SCH_LAST_VAL : Fld := ⟨R.SCH_LAST, 0, 32, .ro, false, (.num 0), .any⟩

end Sys2Proof.Machine
end

