-- ==== Sys2Proof/Machine/RegMapB.lean ====
section
/-! DEFINITION. Sys2Proof/Machine/RegMapB.lean: the register map of the blocks EDG, FBK, SDM/AIN, FIO and SAF.
Each register (`R.<BLOCK>_<REGISTER>`) is its host address (R2, R60) and its index strides; each field
(`F.<BLOCK>_<REGISTER>_<FIELD>`) carries its bits, its access code (R3), its Reset column (R9) and its
permitted range (R52) as the register tables of the chapters give them. -/

namespace Sys2Proof.Machine

/-! Block EDG at 0x40000 (tables governed by R140-R170). -/

def R.EDG_STATUS : Reg := ⟨0x40000, []⟩
def F.EDG_STATUS_CAL_VALID : Fld := ⟨R.EDG_STATUS, 0, 1, .ro, false, (.num 0), .any⟩
def F.EDG_STATUS_CAL_FAIL : Fld := ⟨R.EDG_STATUS, 1, 1, .w1c, false, (.num 0), .any⟩
def F.EDG_STATUS_XCLR_REFUSED : Fld := ⟨R.EDG_STATUS, 2, 1, .w1c, false, (.num 0), .any⟩
def F.EDG_STATUS_OWN_OK : Fld := ⟨R.EDG_STATUS, 3, 1, .ro, true, (.num 0), .any⟩
def F.EDG_STATUS_RUN_EN : Fld := ⟨R.EDG_STATUS, 4, 1, .ro, true, (.num 0), .any⟩
def R.EDG_CAL : Reg := ⟨0x40004, []⟩
def F.EDG_CAL_RESID : Fld := ⟨R.EDG_CAL, 0, 8, .ro, false, (.num 0), .any⟩
def F.EDG_CAL_TAPS_MIN : Fld := ⟨R.EDG_CAL, 8, 8, .ro, false, (.num 0), .any⟩
def F.EDG_CAL_TAPS_MAX : Fld := ⟨R.EDG_CAL, 16, 8, .ro, false, (.num 0), .any⟩
def F.EDG_CAL_PASSES : Fld := ⟨R.EDG_CAL, 24, 8, .ro, false, (.num 0), .any⟩
def R.EDG_XLIVE : Reg := ⟨0x40010, []⟩
def F.EDG_XLIVE_LIVE : Fld := ⟨R.EDG_XLIVE, 0, 24, .ro, false, (.num 0), .any⟩
def R.EDG_XLATCH : Reg := ⟨0x40014, []⟩
def F.EDG_XLATCH_LATCH : Fld := ⟨R.EDG_XLATCH, 0, 24, .w1c, false, (.num 0), .any⟩
def R.EDG_TRIPX : Reg := ⟨0x40100, [(24, 0x4)]⟩
def F.EDG_TRIPX_EN : Fld := ⟨R.EDG_TRIPX, 0, 1, .qs, false, .galley, .any⟩
def F.EDG_TRIPX_POL : Fld := ⟨R.EDG_TRIPX, 1, 1, .qs, false, .galley, .any⟩
def F.EDG_TRIPX_FILT : Fld := ⟨R.EDG_TRIPX, 4, 8, .qs, false, .galley, .any⟩
def F.EDG_TRIPX_BLANK_EN : Fld := ⟨R.EDG_TRIPX, 12, 1, .qs, false, .galley, .any⟩
def F.EDG_TRIPX_BLANK_AUX : Fld := ⟨R.EDG_TRIPX, 16, 4, .qs, false, .galley, .any⟩
def R.EDG_AUX : Reg := ⟨0x40200, [(16, 0x10)]⟩
def F.EDG_AUX_EN : Fld := ⟨R.EDG_AUX, 0, 1, .qs, false, .galley, .any⟩
def F.EDG_AUX_CH : Fld := ⟨R.EDG_AUX, 8, 6, .qs, false, .galley, (.notUsed 48 63)⟩
def F.EDG_AUX_LEVEL : Fld := ⟨R.EDG_AUX, 14, 1, .ro, false, (.num 0), .any⟩
def R.EDG_AUX_ON : Reg := ⟨0x40204, [(16, 0x10)]⟩
def F.EDG_AUX_ON_VAL : Fld := ⟨R.EDG_AUX_ON, 0, 22, .qs, false, .galley, .any⟩
def R.EDG_AUX_OFF : Reg := ⟨0x40208, [(16, 0x10)]⟩
def F.EDG_AUX_OFF_VAL : Fld := ⟨R.EDG_AUX_OFF, 0, 22, .qs, false, .galley, .any⟩
def R.EDG_CH : Reg := ⟨0x41000, [(48, 0x100)]⟩
def F.EDG_CH_LOCK_M : Fld := ⟨R.EDG_CH, 0, 7, .qs, false, .galley, .any⟩
def F.EDG_CH_LOCK_K : Fld := ⟨R.EDG_CH, 8, 4, .qs, false, .galley, .any⟩
def F.EDG_CH_UPD_N : Fld := ⟨R.EDG_CH, 12, 4, .qs, false, .galley, .any⟩
def R.EDG_PHASE : Reg := ⟨0x41004, [(48, 0x100)]⟩
def F.EDG_PHASE_PHASE : Fld := ⟨R.EDG_PHASE, 0, 22, .qs, false, .galley, .any⟩
def R.EDG_PER : Reg := ⟨0x41008, [(48, 0x100)]⟩
def F.EDG_PER_P : Fld := ⟨R.EDG_PER, 0, 22, .ro, true, .galley, .any⟩
def F.EDG_PER_REM : Fld := ⟨R.EDG_PER, 22, 4, .ro, true, .galley, .any⟩
def R.EDG_DT : Reg := ⟨0x4100C, [(48, 0x100)]⟩
def F.EDG_DT_DTIME : Fld := ⟨R.EDG_DT, 0, 16, .qs, false, .galley, (.nat 0 64000)⟩
def F.EDG_DT_MINPW : Fld := ⟨R.EDG_DT, 16, 8, .qs, false, .galley, .any⟩
def R.EDG_TCFG : Reg := ⟨0x41010, [(48, 0x100)]⟩
def F.EDG_TCFG_ACTION : Fld := ⟨R.EDG_TCFG, 0, 2, .qs, false, .galley, (.notUsed 3 3)⟩
def F.EDG_TCFG_OC_EN : Fld := ⟨R.EDG_TCFG, 2, 1, .qs, false, .galley, .any⟩
def F.EDG_TCFG_GROUP : Fld := ⟨R.EDG_TCFG, 4, 4, .qs, false, .galley, .any⟩
def F.EDG_TCFG_BLANK_EN : Fld := ⟨R.EDG_TCFG, 8, 1, .qs, false, .galley, .any⟩
def F.EDG_TCFG_BLANK_AUX : Fld := ⟨R.EDG_TCFG, 12, 4, .qs, false, .galley, .any⟩
def F.EDG_TCFG_MSRC : Fld := ⟨R.EDG_TCFG, 16, 2, .qs, false, .galley, .any⟩
def F.EDG_TCFG_REENTRY : Fld := ⟨R.EDG_TCFG, 18, 1, .qs, false, .galley, .any⟩
def F.EDG_TCFG_STOG : Fld := ⟨R.EDG_TCFG, 20, 3, .ro, false, .galley, .any⟩
def F.EDG_TCFG_MM : Fld := ⟨R.EDG_TCFG, 24, 6, .qs, false, .galley, .any⟩
def R.EDG_XMASK : Reg := ⟨0x41014, [(48, 0x100)]⟩
def F.EDG_XMASK_MASK : Fld := ⟨R.EDG_XMASK, 0, 24, .qs, false, .galley, .any⟩
def R.EDG_MDLY : Reg := ⟨0x41018, [(48, 0x100)]⟩
def F.EDG_MDLY_DLY : Fld := ⟨R.EDG_MDLY, 0, 16, .qs, false, .galley, .any⟩
def R.EDG_MTAB_LO : Reg := ⟨0x4101C, [(48, 0x100)]⟩
def F.EDG_MTAB_LO_E0 : Fld := ⟨R.EDG_MTAB_LO, 0, 6, .qs, false, .galley, .any⟩
def F.EDG_MTAB_LO_E1 : Fld := ⟨R.EDG_MTAB_LO, 6, 6, .qs, false, .galley, .any⟩
def F.EDG_MTAB_LO_E2 : Fld := ⟨R.EDG_MTAB_LO, 12, 6, .qs, false, .galley, .any⟩
def F.EDG_MTAB_LO_E3 : Fld := ⟨R.EDG_MTAB_LO, 18, 6, .qs, false, .galley, .any⟩
def R.EDG_MTAB_HI : Reg := ⟨0x41020, [(48, 0x100)]⟩
def F.EDG_MTAB_HI_E0 : Fld := ⟨R.EDG_MTAB_HI, 0, 6, .qs, false, .galley, .any⟩
def F.EDG_MTAB_HI_E1 : Fld := ⟨R.EDG_MTAB_HI, 6, 6, .qs, false, .galley, .any⟩
def F.EDG_MTAB_HI_E2 : Fld := ⟨R.EDG_MTAB_HI, 12, 6, .qs, false, .galley, .any⟩
def F.EDG_MTAB_HI_E3 : Fld := ⟨R.EDG_MTAB_HI, 18, 6, .qs, false, .galley, .any⟩
def R.EDG_CST : Reg := ⟨0x41024, [(48, 0x100)]⟩
def F.EDG_CST_TRIPPED : Fld := ⟨R.EDG_CST, 0, 1, .ro, true, (.num 0), .any⟩
def F.EDG_CST_DEFER : Fld := ⟨R.EDG_CST, 1, 1, .w1c, false, (.num 0), .any⟩
def F.EDG_CST_OVERLAP : Fld := ⟨R.EDG_CST, 2, 1, .w1c, false, (.num 0), .any⟩
def F.EDG_CST_MINPW_HIT : Fld := ⟨R.EDG_CST, 3, 1, .w1c, false, (.num 0), .any⟩
def F.EDG_CST_NOSET : Fld := ⟨R.EDG_CST, 4, 1, .ro, false, (.num 1), .any⟩
def F.EDG_CST_OVERWRITE : Fld := ⟨R.EDG_CST, 5, 1, .w1c, false, (.num 0), .any⟩
def F.EDG_CST_CLR_REFUSED : Fld := ⟨R.EDG_CST, 6, 1, .w1c, false, (.num 0), .any⟩
def F.EDG_CST_MIDX : Fld := ⟨R.EDG_CST, 8, 3, .ro, true, (.num 0), .any⟩
def F.EDG_CST_MPEND : Fld := ⟨R.EDG_CST, 11, 1, .ro, true, (.num 0), .any⟩
def F.EDG_CST_LEVEL : Fld := ⟨R.EDG_CST, 12, 6, .ro, true, (.num 0), .any⟩
def F.EDG_CST_HIZ : Fld := ⟨R.EDG_CST, 18, 1, .ro, true, (.num 1), .any⟩
def R.EDG_TLATCH : Reg := ⟨0x41028, [(48, 0x100)]⟩
def F.EDG_TLATCH_OC : Fld := ⟨R.EDG_TLATCH, 0, 3, .w1c, false, (.num 0), .any⟩
def F.EDG_TLATCH_GRP : Fld := ⟨R.EDG_TLATCH, 3, 1, .ro, true, (.num 0), .any⟩
def F.EDG_TLATCH_STO : Fld := ⟨R.EDG_TLATCH, 4, 1, .ro, true, (.num 0), .any⟩
def F.EDG_TLATCH_EXT : Fld := ⟨R.EDG_TLATCH, 5, 1, .ro, true, (.num 0), .any⟩
def R.EDG_CCNT : Reg := ⟨0x4102C, [(48, 0x100)]⟩
def F.EDG_CCNT_DEFERS : Fld := ⟨R.EDG_CCNT, 0, 16, .rc, false, (.num 0), .any⟩
def F.EDG_CCNT_MINPWS : Fld := ⟨R.EDG_CCNT, 16, 16, .rc, false, (.num 0), .any⟩
def R.EDG_ACT : Reg := ⟨0x41040, [(48, 0x100), (12, 0x4)]⟩
def F.EDG_ACT_VAL : Fld := ⟨R.EDG_ACT, 0, 28, .ro, true, (.num 0), .any⟩
def R.EDG_SHD : Reg := ⟨0x41080, [(48, 0x100), (12, 0x4)]⟩
def F.EDG_SHD_VAL : Fld := ⟨R.EDG_SHD, 0, 28, .rw, false, (.num 0), .any⟩
def R.EDG_SHD_GO : Reg := ⟨0x410B0, [(48, 0x100)]⟩
def F.EDG_SHD_GO_GO : Fld := ⟨R.EDG_SHD_GO, 0, 1, .wo, false, (.num 0), .any⟩

/-! Block FBK at 0x50000 (tables governed by R174-R200). -/

def R.FBK_STATUS : Reg := ⟨0x50000, []⟩
def F.FBK_STATUS_TDC_VALID : Fld := ⟨R.FBK_STATUS, 0, 1, .ro, false, (.num 0), .any⟩
def R.FBK_HALL_CFG : Reg := ⟨0x51000, [(48, 0x40)]⟩
def F.FBK_HALL_CFG_EN : Fld := ⟨R.FBK_HALL_CFG, 0, 1, .ro, false, .galley, .any⟩
def F.FBK_HALL_CFG_INV : Fld := ⟨R.FBK_HALL_CFG, 1, 3, .qs, false, .galley, .any⟩
def F.FBK_HALL_CFG_REV : Fld := ⟨R.FBK_HALL_CFG, 4, 1, .qs, false, .galley, .any⟩
def F.FBK_HALL_CFG_FILT : Fld := ⟨R.FBK_HALL_CFG, 16, 11, .qs, false, .galley, (.nat 0 2000)⟩
def F.FBK_HALL_CFG_STATE : Fld := ⟨R.FBK_HALL_CFG, 28, 3, .ro, false, (.num 0), .any⟩
def R.FBK_ENC_CFG : Reg := ⟨0x52000, [(16, 0x40)]⟩
def F.FBK_ENC_CFG_EN : Fld := ⟨R.FBK_ENC_CFG, 0, 1, .ro, false, .galley, .any⟩
def F.FBK_ENC_CFG_REV : Fld := ⟨R.FBK_ENC_CFG, 1, 1, .qs, false, .galley, .any⟩
def F.FBK_ENC_CFG_ZPOL : Fld := ⟨R.FBK_ENC_CFG, 2, 1, .qs, false, .galley, .any⟩
def F.FBK_ENC_CFG_FILT : Fld := ⟨R.FBK_ENC_CFG, 4, 4, .qs, false, .galley, .any⟩
def R.FBK_SSI_CFG : Reg := ⟨0x52800, [(8, 0x40)]⟩
def F.FBK_SSI_CFG_EN : Fld := ⟨R.FBK_SSI_CFG, 0, 1, .ro, false, .galley, .any⟩
def F.FBK_SSI_CFG_BITS : Fld := ⟨R.FBK_SSI_CFG, 1, 6, .qs, false, .galley, (.nat 8 48)⟩
def F.FBK_SSI_CFG_GRAY : Fld := ⟨R.FBK_SSI_CFG, 7, 1, .qs, false, .galley, .any⟩
def F.FBK_SSI_CFG_PAR : Fld := ⟨R.FBK_SSI_CFG, 8, 1, .qs, false, .galley, .any⟩
def F.FBK_SSI_CFG_ZCHK : Fld := ⟨R.FBK_SSI_CFG, 9, 1, .qs, false, .galley, .any⟩
def F.FBK_SSI_CFG_DIV : Fld := ⟨R.FBK_SSI_CFG, 12, 4, .qs, false, .galley, .any⟩
def F.FBK_SSI_CFG_CKDIV : Fld := ⟨R.FBK_SSI_CFG, 16, 8, .qs, false, .galley, (.nat 10 255)⟩
def R.FBK_HALL_SPD : Reg := ⟨0x51004, [(48, 0x40)]⟩
def F.FBK_HALL_SPD_NAVG : Fld := ⟨R.FBK_HALL_SPD, 0, 4, .qs, false, .galley, .any⟩
def F.FBK_HALL_SPD_TSTILL : Fld := ⟨R.FBK_HALL_SPD, 16, 11, .qs, false, .galley, (.nat 1 2000)⟩
def R.FBK_ENC_SPD : Reg := ⟨0x52004, [(16, 0x40)]⟩
def F.FBK_ENC_SPD_NAVG : Fld := ⟨R.FBK_ENC_SPD, 0, 4, .qs, false, .galley, .any⟩
def F.FBK_ENC_SPD_TSTILL : Fld := ⟨R.FBK_ENC_SPD, 16, 11, .qs, false, .galley, (.nat 1 2000)⟩
def R.FBK_SSI_SPD : Reg := ⟨0x52804, [(8, 0x40)]⟩
def F.FBK_SSI_SPD_NAVG : Fld := ⟨R.FBK_SSI_SPD, 0, 4, .qs, false, .galley, .any⟩
def F.FBK_SSI_SPD_TSTILL : Fld := ⟨R.FBK_SSI_SPD, 16, 11, .qs, false, .galley, (.nat 1 2000)⟩
def R.FBK_HALL_LIM_LO_L : Reg := ⟨0x51008, [(48, 0x40)]⟩
def F.FBK_HALL_LIM_LO_L_VAL : Fld := ⟨R.FBK_HALL_LIM_LO_L, 0, 32, .qs, false, .galley, .any⟩
def R.FBK_ENC_LIM_LO_L : Reg := ⟨0x52008, [(16, 0x40)]⟩
def F.FBK_ENC_LIM_LO_L_VAL : Fld := ⟨R.FBK_ENC_LIM_LO_L, 0, 32, .qs, false, .galley, .any⟩
def R.FBK_SSI_LIM_LO_L : Reg := ⟨0x52808, [(8, 0x40)]⟩
def F.FBK_SSI_LIM_LO_L_VAL : Fld := ⟨R.FBK_SSI_LIM_LO_L, 0, 32, .qs, false, .galley, .any⟩
def R.FBK_HALL_LIM_LO_H : Reg := ⟨0x5100C, [(48, 0x40)]⟩
def F.FBK_HALL_LIM_LO_H_VAL : Fld := ⟨R.FBK_HALL_LIM_LO_H, 0, 16, .qs, false, .galley, .any⟩
def R.FBK_ENC_LIM_LO_H : Reg := ⟨0x5200C, [(16, 0x40)]⟩
def F.FBK_ENC_LIM_LO_H_VAL : Fld := ⟨R.FBK_ENC_LIM_LO_H, 0, 16, .qs, false, .galley, .any⟩
def R.FBK_SSI_LIM_LO_H : Reg := ⟨0x5280C, [(8, 0x40)]⟩
def F.FBK_SSI_LIM_LO_H_VAL : Fld := ⟨R.FBK_SSI_LIM_LO_H, 0, 16, .qs, false, .galley, .any⟩
def R.FBK_HALL_LIM_HI_L : Reg := ⟨0x51010, [(48, 0x40)]⟩
def F.FBK_HALL_LIM_HI_L_VAL : Fld := ⟨R.FBK_HALL_LIM_HI_L, 0, 32, .qs, false, .galley, .any⟩
def R.FBK_ENC_LIM_HI_L : Reg := ⟨0x52010, [(16, 0x40)]⟩
def F.FBK_ENC_LIM_HI_L_VAL : Fld := ⟨R.FBK_ENC_LIM_HI_L, 0, 32, .qs, false, .galley, .any⟩
def R.FBK_SSI_LIM_HI_L : Reg := ⟨0x52810, [(8, 0x40)]⟩
def F.FBK_SSI_LIM_HI_L_VAL : Fld := ⟨R.FBK_SSI_LIM_HI_L, 0, 32, .qs, false, .galley, .any⟩
def R.FBK_HALL_LIM_HI_H : Reg := ⟨0x51014, [(48, 0x40)]⟩
def F.FBK_HALL_LIM_HI_H_VAL : Fld := ⟨R.FBK_HALL_LIM_HI_H, 0, 16, .qs, false, .galley, .any⟩
def R.FBK_ENC_LIM_HI_H : Reg := ⟨0x52014, [(16, 0x40)]⟩
def F.FBK_ENC_LIM_HI_H_VAL : Fld := ⟨R.FBK_ENC_LIM_HI_H, 0, 16, .qs, false, .galley, .any⟩
def R.FBK_SSI_LIM_HI_H : Reg := ⟨0x52814, [(8, 0x40)]⟩
def F.FBK_SSI_LIM_HI_H_VAL : Fld := ⟨R.FBK_SSI_LIM_HI_H, 0, 16, .qs, false, .galley, .any⟩
def R.FBK_HALL_REF_L : Reg := ⟨0x51018, [(48, 0x40)]⟩
def F.FBK_HALL_REF_L_VAL : Fld := ⟨R.FBK_HALL_REF_L, 0, 32, .qs, false, (.num 0), .any⟩
def R.FBK_ENC_REF_L : Reg := ⟨0x52018, [(16, 0x40)]⟩
def F.FBK_ENC_REF_L_VAL : Fld := ⟨R.FBK_ENC_REF_L, 0, 32, .qs, false, (.num 0), .any⟩
def R.FBK_SSI_REF_L : Reg := ⟨0x52818, [(8, 0x40)]⟩
def F.FBK_SSI_REF_L_VAL : Fld := ⟨R.FBK_SSI_REF_L, 0, 32, .qs, false, (.num 0), .any⟩
def R.FBK_HALL_REF_H : Reg := ⟨0x5101C, [(48, 0x40)]⟩
def F.FBK_HALL_REF_H_VAL : Fld := ⟨R.FBK_HALL_REF_H, 0, 16, .qs, false, (.num 0), .any⟩
def R.FBK_ENC_REF_H : Reg := ⟨0x5201C, [(16, 0x40)]⟩
def F.FBK_ENC_REF_H_VAL : Fld := ⟨R.FBK_ENC_REF_H, 0, 16, .qs, false, (.num 0), .any⟩
def R.FBK_SSI_REF_H : Reg := ⟨0x5281C, [(8, 0x40)]⟩
def F.FBK_SSI_REF_H_VAL : Fld := ⟨R.FBK_SSI_REF_H, 0, 16, .qs, false, (.num 0), .any⟩
def R.FBK_HALL_CTL : Reg := ⟨0x51020, [(48, 0x40)]⟩
def F.FBK_HALL_CTL_REF_NOW : Fld := ⟨R.FBK_HALL_CTL, 0, 1, .qs, false, (.num 0), .any⟩
def R.FBK_ENC_CTL : Reg := ⟨0x52020, [(16, 0x40)]⟩
def F.FBK_ENC_CTL_REF_NOW : Fld := ⟨R.FBK_ENC_CTL, 0, 1, .qs, false, (.num 0), .any⟩
def F.FBK_ENC_CTL_REF_Z : Fld := ⟨R.FBK_ENC_CTL, 1, 1, .wo, false, (.num 0), .any⟩
def R.FBK_SSI_CTL : Reg := ⟨0x52820, [(8, 0x40)]⟩
def F.FBK_SSI_CTL_REF_NOW : Fld := ⟨R.FBK_SSI_CTL, 0, 1, .qs, false, (.num 0), .any⟩
def R.FBK_HALL_POS_L : Reg := ⟨0x51024, [(48, 0x40)]⟩
def F.FBK_HALL_POS_L_VAL : Fld := ⟨R.FBK_HALL_POS_L, 0, 32, .ro, false, (.num 0), .any⟩
def R.FBK_ENC_POS_L : Reg := ⟨0x52024, [(16, 0x40)]⟩
def F.FBK_ENC_POS_L_VAL : Fld := ⟨R.FBK_ENC_POS_L, 0, 32, .ro, false, (.num 0), .any⟩
def R.FBK_SSI_POS_L : Reg := ⟨0x52824, [(8, 0x40)]⟩
def F.FBK_SSI_POS_L_VAL : Fld := ⟨R.FBK_SSI_POS_L, 0, 32, .ro, false, (.num 0), .any⟩
def R.FBK_HALL_POS_H : Reg := ⟨0x51028, [(48, 0x40)]⟩
def F.FBK_HALL_POS_H_VAL : Fld := ⟨R.FBK_HALL_POS_H, 0, 32, .ro, false, (.num 0), .any⟩
def R.FBK_ENC_POS_H : Reg := ⟨0x52028, [(16, 0x40)]⟩
def F.FBK_ENC_POS_H_VAL : Fld := ⟨R.FBK_ENC_POS_H, 0, 32, .ro, false, (.num 0), .any⟩
def R.FBK_SSI_POS_H : Reg := ⟨0x52828, [(8, 0x40)]⟩
def F.FBK_SSI_POS_H_VAL : Fld := ⟨R.FBK_SSI_POS_H, 0, 32, .ro, false, (.num 0), .any⟩
def R.FBK_HALL_STAMP : Reg := ⟨0x5102C, [(48, 0x40)]⟩
def F.FBK_HALL_STAMP_T : Fld := ⟨R.FBK_HALL_STAMP, 0, 32, .ro, false, (.num 0), .any⟩
def R.FBK_ENC_STAMP : Reg := ⟨0x5202C, [(16, 0x40)]⟩
def F.FBK_ENC_STAMP_T : Fld := ⟨R.FBK_ENC_STAMP, 0, 32, .ro, false, (.num 0), .any⟩
def R.FBK_SSI_STAMP : Reg := ⟨0x5282C, [(8, 0x40)]⟩
def F.FBK_SSI_STAMP_T : Fld := ⟨R.FBK_SSI_STAMP, 0, 32, .ro, false, (.num 0), .any⟩
def R.FBK_HALL_SPEED : Reg := ⟨0x51030, [(48, 0x40)]⟩
def F.FBK_HALL_SPEED_V : Fld := ⟨R.FBK_HALL_SPEED, 0, 32, .ro, false, (.num 0), .any⟩
def R.FBK_ENC_SPEED : Reg := ⟨0x52030, [(16, 0x40)]⟩
def F.FBK_ENC_SPEED_V : Fld := ⟨R.FBK_ENC_SPEED, 0, 32, .ro, false, (.num 0), .any⟩
def R.FBK_SSI_SPEED : Reg := ⟨0x52830, [(8, 0x40)]⟩
def F.FBK_SSI_SPEED_V : Fld := ⟨R.FBK_SSI_SPEED, 0, 32, .ro, false, (.num 0), .any⟩
def R.FBK_HALL_STATUS : Reg := ⟨0x51034, [(48, 0x40)]⟩
def F.FBK_HALL_STATUS_STILL : Fld := ⟨R.FBK_HALL_STATUS, 0, 1, .ro, false, (.num 1), .any⟩
def F.FBK_HALL_STATUS_NEG : Fld := ⟨R.FBK_HALL_STATUS, 1, 1, .ro, false, (.num 0), .any⟩
def F.FBK_HALL_STATUS_SAT : Fld := ⟨R.FBK_HALL_STATUS, 2, 1, .ro, false, (.num 0), .any⟩
def F.FBK_HALL_STATUS_ERR : Fld := ⟨R.FBK_HALL_STATUS, 3, 1, .w1c, false, (.num 0), .any⟩
def F.FBK_HALL_STATUS_LOST : Fld := ⟨R.FBK_HALL_STATUS, 4, 1, .w1c, false, (.num 0), .any⟩
def F.FBK_HALL_STATUS_SPD_SAT : Fld := ⟨R.FBK_HALL_STATUS, 5, 1, .w1c, false, (.num 0), .any⟩
def F.FBK_HALL_STATUS_INVALID : Fld := ⟨R.FBK_HALL_STATUS, 6, 1, .ro, false, (.num 0), .any⟩
def F.FBK_HALL_STATUS_LATE : Fld := ⟨R.FBK_HALL_STATUS, 7, 1, .w1c, false, (.num 0), .any⟩
def F.FBK_HALL_STATUS_ZERR : Fld := ⟨R.FBK_HALL_STATUS, 8, 1, .w1c, false, (.num 0), .any⟩
def F.FBK_HALL_STATUS_REF_ARMED : Fld := ⟨R.FBK_HALL_STATUS, 9, 1, .ro, false, (.num 0), .any⟩
def R.FBK_ENC_STATUS : Reg := ⟨0x52034, [(16, 0x40)]⟩
def F.FBK_ENC_STATUS_STILL : Fld := ⟨R.FBK_ENC_STATUS, 0, 1, .ro, false, (.num 1), .any⟩
def F.FBK_ENC_STATUS_NEG : Fld := ⟨R.FBK_ENC_STATUS, 1, 1, .ro, false, (.num 0), .any⟩
def F.FBK_ENC_STATUS_SAT : Fld := ⟨R.FBK_ENC_STATUS, 2, 1, .ro, false, (.num 0), .any⟩
def F.FBK_ENC_STATUS_ERR : Fld := ⟨R.FBK_ENC_STATUS, 3, 1, .w1c, false, (.num 0), .any⟩
def F.FBK_ENC_STATUS_LOST : Fld := ⟨R.FBK_ENC_STATUS, 4, 1, .w1c, false, (.num 0), .any⟩
def F.FBK_ENC_STATUS_SPD_SAT : Fld := ⟨R.FBK_ENC_STATUS, 5, 1, .w1c, false, (.num 0), .any⟩
def F.FBK_ENC_STATUS_INVALID : Fld := ⟨R.FBK_ENC_STATUS, 6, 1, .ro, false, (.num 0), .any⟩
def F.FBK_ENC_STATUS_LATE : Fld := ⟨R.FBK_ENC_STATUS, 7, 1, .w1c, false, (.num 0), .any⟩
def F.FBK_ENC_STATUS_ZERR : Fld := ⟨R.FBK_ENC_STATUS, 8, 1, .w1c, false, (.num 0), .any⟩
def F.FBK_ENC_STATUS_REF_ARMED : Fld := ⟨R.FBK_ENC_STATUS, 9, 1, .ro, false, (.num 0), .any⟩
def R.FBK_SSI_STATUS : Reg := ⟨0x52834, [(8, 0x40)]⟩
def F.FBK_SSI_STATUS_STILL : Fld := ⟨R.FBK_SSI_STATUS, 0, 1, .ro, false, (.num 1), .any⟩
def F.FBK_SSI_STATUS_NEG : Fld := ⟨R.FBK_SSI_STATUS, 1, 1, .ro, false, (.num 0), .any⟩
def F.FBK_SSI_STATUS_SAT : Fld := ⟨R.FBK_SSI_STATUS, 2, 1, .ro, false, (.num 0), .any⟩
def F.FBK_SSI_STATUS_ERR : Fld := ⟨R.FBK_SSI_STATUS, 3, 1, .w1c, false, (.num 0), .any⟩
def F.FBK_SSI_STATUS_LOST : Fld := ⟨R.FBK_SSI_STATUS, 4, 1, .w1c, false, (.num 0), .any⟩
def F.FBK_SSI_STATUS_SPD_SAT : Fld := ⟨R.FBK_SSI_STATUS, 5, 1, .w1c, false, (.num 0), .any⟩
def F.FBK_SSI_STATUS_INVALID : Fld := ⟨R.FBK_SSI_STATUS, 6, 1, .ro, false, (.num 0), .any⟩
def F.FBK_SSI_STATUS_LATE : Fld := ⟨R.FBK_SSI_STATUS, 7, 1, .w1c, false, (.num 0), .any⟩
def F.FBK_SSI_STATUS_ZERR : Fld := ⟨R.FBK_SSI_STATUS, 8, 1, .w1c, false, (.num 0), .any⟩
def F.FBK_SSI_STATUS_REF_ARMED : Fld := ⟨R.FBK_SSI_STATUS, 9, 1, .ro, false, (.num 0), .any⟩
def R.FBK_HALL_ERRCNT : Reg := ⟨0x51038, [(48, 0x40)]⟩
def F.FBK_HALL_ERRCNT_COUNT : Fld := ⟨R.FBK_HALL_ERRCNT, 0, 4, .ro, false, (.num 0), .any⟩
def F.FBK_HALL_ERRCNT_ERR_MAX : Fld := ⟨R.FBK_HALL_ERRCNT, 8, 4, .qs, false, .galley, (.nat 1 15)⟩
def F.FBK_HALL_ERRCNT_TOTAL : Fld := ⟨R.FBK_HALL_ERRCNT, 16, 16, .rc, false, (.num 0), .any⟩
def R.FBK_ENC_ERRCNT : Reg := ⟨0x52038, [(16, 0x40)]⟩
def F.FBK_ENC_ERRCNT_COUNT : Fld := ⟨R.FBK_ENC_ERRCNT, 0, 4, .ro, false, (.num 0), .any⟩
def F.FBK_ENC_ERRCNT_ERR_MAX : Fld := ⟨R.FBK_ENC_ERRCNT, 8, 4, .qs, false, .galley, (.nat 1 15)⟩
def F.FBK_ENC_ERRCNT_TOTAL : Fld := ⟨R.FBK_ENC_ERRCNT, 16, 16, .rc, false, (.num 0), .any⟩
def R.FBK_SSI_ERRCNT : Reg := ⟨0x52838, [(8, 0x40)]⟩
def F.FBK_SSI_ERRCNT_COUNT : Fld := ⟨R.FBK_SSI_ERRCNT, 0, 4, .ro, false, (.num 0), .any⟩
def F.FBK_SSI_ERRCNT_ERR_MAX : Fld := ⟨R.FBK_SSI_ERRCNT, 8, 4, .qs, false, .galley, (.nat 1 15)⟩
def F.FBK_SSI_ERRCNT_TOTAL : Fld := ⟨R.FBK_SSI_ERRCNT, 16, 16, .rc, false, (.num 0), .any⟩
def R.FBK_ENC_ZDIST : Reg := ⟨0x5203C, [(16, 0x40)]⟩
def F.FBK_ENC_ZDIST_DIST : Fld := ⟨R.FBK_ENC_ZDIST, 0, 32, .qs, false, .galley, .any⟩
def R.FBK_SSI_TIMING : Reg := ⟨0x5283C, [(8, 0x40)]⟩
def F.FBK_SSI_TIMING_LEAD : Fld := ⟨R.FBK_SSI_TIMING, 0, 16, .qs, false, .galley, (.nat 1 65535)⟩
def F.FBK_SSI_TIMING_LAT_COMP : Fld := ⟨R.FBK_SSI_TIMING, 16, 8, .qs, false, .galley, .any⟩
def F.FBK_SSI_TIMING_DDLY : Fld := ⟨R.FBK_SSI_TIMING, 24, 4, .qs, false, .galley, .any⟩
def R.FBK_LAT_CFG : Reg := ⟨0x53000, [(32, 0x40)]⟩
def F.FBK_LAT_CFG_MODE : Fld := ⟨R.FBK_LAT_CFG, 0, 2, .rw, false, (.num 0), .any⟩
def F.FBK_LAT_CFG_KIND : Fld := ⟨R.FBK_LAT_CFG, 2, 2, .rw, false, (.num 0), .any⟩
def F.FBK_LAT_CFG_IDX : Fld := ⟨R.FBK_LAT_CFG, 4, 6, .rw, false, (.num 0), .any⟩
def F.FBK_LAT_CFG_EDGE : Fld := ⟨R.FBK_LAT_CFG, 10, 2, .rw, false, (.num 0), .any⟩
def F.FBK_LAT_CFG_POSSRC : Fld := ⟨R.FBK_LAT_CFG, 12, 7, .rw, false, (.num 127), .any⟩
def F.FBK_LAT_CFG_EVT_EN : Fld := ⟨R.FBK_LAT_CFG, 19, 1, .rw, false, (.num 0), .any⟩
def R.FBK_LAT_CTL : Reg := ⟨0x53004, [(32, 0x40)]⟩
def F.FBK_LAT_CTL_ARM : Fld := ⟨R.FBK_LAT_CTL, 0, 1, .wo, false, (.num 0), .any⟩
def F.FBK_LAT_CTL_DISARM : Fld := ⟨R.FBK_LAT_CTL, 1, 1, .wo, false, (.num 0), .any⟩
def F.FBK_LAT_CTL_POP : Fld := ⟨R.FBK_LAT_CTL, 2, 1, .wo, false, (.num 0), .any⟩
def F.FBK_LAT_CTL_FLUSH : Fld := ⟨R.FBK_LAT_CTL, 3, 1, .wo, false, (.num 0), .any⟩
def R.FBK_LAT_STATUS : Reg := ⟨0x53008, [(32, 0x40)]⟩
def F.FBK_LAT_STATUS_ARMED : Fld := ⟨R.FBK_LAT_STATUS, 0, 1, .ro, false, (.num 0), .any⟩
def F.FBK_LAT_STATUS_LEVEL : Fld := ⟨R.FBK_LAT_STATUS, 1, 3, .ro, true, (.num 0), .any⟩
def F.FBK_LAT_STATUS_PENDING : Fld := ⟨R.FBK_LAT_STATUS, 4, 1, .ro, true, (.num 0), .any⟩
def F.FBK_LAT_STATUS_OVR : Fld := ⟨R.FBK_LAT_STATUS, 5, 1, .w1c, false, (.num 0), .any⟩
def R.FBK_LAT_MISSED : Reg := ⟨0x5300C, [(32, 0x40)]⟩
def F.FBK_LAT_MISSED_COUNT : Fld := ⟨R.FBK_LAT_MISSED, 0, 16, .rc, false, (.num 0), .any⟩
def R.FBK_LAT_ENT_STAMP : Reg := ⟨0x53010, [(32, 0x40)]⟩
def F.FBK_LAT_ENT_STAMP_T : Fld := ⟨R.FBK_LAT_ENT_STAMP, 0, 32, .ro, true, (.num 0), .any⟩
def R.FBK_LAT_ENT_INFO : Reg := ⟨0x53014, [(32, 0x40)]⟩
def F.FBK_LAT_ENT_INFO_FRAC : Fld := ⟨R.FBK_LAT_ENT_INFO, 0, 8, .ro, true, (.num 0), .any⟩
def F.FBK_LAT_ENT_INFO_RISE : Fld := ⟨R.FBK_LAT_ENT_INFO, 8, 1, .ro, true, (.num 0), .any⟩
def F.FBK_LAT_ENT_INFO_OLD : Fld := ⟨R.FBK_LAT_ENT_INFO, 9, 1, .ro, true, (.num 0), .any⟩
def F.FBK_LAT_ENT_INFO_SAT : Fld := ⟨R.FBK_LAT_ENT_INFO, 10, 1, .ro, true, (.num 0), .any⟩
def F.FBK_LAT_ENT_INFO_INTERP : Fld := ⟨R.FBK_LAT_ENT_INFO, 11, 1, .ro, true, (.num 0), .any⟩
def R.FBK_LAT_ENT_POS_L : Reg := ⟨0x53018, [(32, 0x40)]⟩
def F.FBK_LAT_ENT_POS_L_VAL : Fld := ⟨R.FBK_LAT_ENT_POS_L, 0, 32, .ro, true, (.num 0), .any⟩
def R.FBK_LAT_ENT_POS_H : Reg := ⟨0x5301C, [(32, 0x40)]⟩
def F.FBK_LAT_ENT_POS_H_VAL : Fld := ⟨R.FBK_LAT_ENT_POS_H, 0, 32, .ro, true, (.num 0), .any⟩
def R.FBK_CMP_CFG : Reg := ⟨0x54000, [(64, 0x40)]⟩
def F.FBK_CMP_CFG_SRC : Fld := ⟨R.FBK_CMP_CFG, 0, 7, .rw, false, (.num 127), .any⟩
def F.FBK_CMP_CFG_DIR : Fld := ⟨R.FBK_CMP_CFG, 8, 2, .rw, false, (.num 0), .any⟩
def F.FBK_CMP_CFG_PERIODIC : Fld := ⟨R.FBK_CMP_CFG, 10, 1, .rw, false, (.num 0), .any⟩
def F.FBK_CMP_CFG_LATE_MODE : Fld := ⟨R.FBK_CMP_CFG, 11, 1, .rw, false, (.num 0), .any⟩
def F.FBK_CMP_CFG_TOGGLE : Fld := ⟨R.FBK_CMP_CFG, 12, 1, .rw, false, (.num 0), .any⟩
def F.FBK_CMP_CFG_EVT_EN : Fld := ⟨R.FBK_CMP_CFG, 13, 1, .rw, false, (.num 0), .any⟩
def F.FBK_CMP_CFG_WIDTH : Fld := ⟨R.FBK_CMP_CFG, 16, 12, .rw, false, (.num 1), .any⟩
def R.FBK_CMP_VAL_L : Reg := ⟨0x54004, [(64, 0x40)]⟩
def F.FBK_CMP_VAL_L_VAL : Fld := ⟨R.FBK_CMP_VAL_L, 0, 32, .rw, false, (.num 0), .any⟩
def R.FBK_CMP_VAL_H : Reg := ⟨0x54008, [(64, 0x40)]⟩
def F.FBK_CMP_VAL_H_VAL : Fld := ⟨R.FBK_CMP_VAL_H, 0, 16, .rw, false, (.num 0), .any⟩
def R.FBK_CMP_STEP : Reg := ⟨0x5400C, [(64, 0x40)]⟩
def F.FBK_CMP_STEP_STEP : Fld := ⟨R.FBK_CMP_STEP, 0, 31, .rw, false, (.num 1), .any⟩
def R.FBK_CMP_CTL : Reg := ⟨0x54010, [(64, 0x40)]⟩
def F.FBK_CMP_CTL_ARM : Fld := ⟨R.FBK_CMP_CTL, 0, 1, .wo, false, (.num 0), .any⟩
def F.FBK_CMP_CTL_DISARM : Fld := ⟨R.FBK_CMP_CTL, 1, 1, .wo, false, (.num 0), .any⟩
def R.FBK_CMP_STATUS : Reg := ⟨0x54014, [(64, 0x40)]⟩
def F.FBK_CMP_STATUS_ARMED : Fld := ⟨R.FBK_CMP_STATUS, 0, 1, .ro, false, (.num 0), .any⟩
def F.FBK_CMP_STATUS_LEVEL : Fld := ⟨R.FBK_CMP_STATUS, 1, 1, .ro, false, (.num 0), .any⟩
def F.FBK_CMP_STATUS_FIRED : Fld := ⟨R.FBK_CMP_STATUS, 2, 1, .w1c, false, (.num 0), .any⟩
def F.FBK_CMP_STATUS_BEHIND : Fld := ⟨R.FBK_CMP_STATUS, 3, 1, .w1c, false, (.num 0), .any⟩
def F.FBK_CMP_STATUS_LATE : Fld := ⟨R.FBK_CMP_STATUS, 4, 1, .w1c, false, (.num 0), .any⟩
def F.FBK_CMP_STATUS_SKIP : Fld := ⟨R.FBK_CMP_STATUS, 5, 1, .w1c, false, (.num 0), .any⟩
def F.FBK_CMP_STATUS_COUNT : Fld := ⟨R.FBK_CMP_STATUS, 16, 16, .ro, false, (.num 0), .any⟩
def R.FBK_CMP_FIRE_STAMP : Reg := ⟨0x54018, [(64, 0x40)]⟩
def F.FBK_CMP_FIRE_STAMP_T : Fld := ⟨R.FBK_CMP_FIRE_STAMP, 0, 32, .ro, false, (.num 0), .any⟩
def R.FBK_CMP_NEXT_L : Reg := ⟨0x5401C, [(64, 0x40)]⟩
def F.FBK_CMP_NEXT_L_VAL : Fld := ⟨R.FBK_CMP_NEXT_L, 0, 32, .ro, false, (.num 0), .any⟩
def R.FBK_CMP_NEXT_H : Reg := ⟨0x54020, [(64, 0x40)]⟩
def F.FBK_CMP_NEXT_H_VAL : Fld := ⟨R.FBK_CMP_NEXT_H, 0, 16, .ro, false, (.num 0), .any⟩
def R.FBK_PAGE : Reg := ⟨0x58400, [(576, 0x4)]⟩
def F.FBK_PAGE_W : Fld := ⟨R.FBK_PAGE, 0, 32, .ro, true, (.num 0), .any⟩

/-! Block SDM at 0x60000 (tables governed by R117-R131). -/

def R.SDM_REC : Reg := ⟨0x60000, []⟩
def F.SDM_REC_BASE : Fld := ⟨R.SDM_REC, 0, 22, .ro, false, .galley, .any⟩
def R.SDM_CLK : Reg := ⟨0x60040, [(12, 0x4)]⟩
def F.SDM_CLK_DIV : Fld := ⟨R.SDM_CLK, 0, 6, .qs, false, (.galleyDflt 10), (.nat 8 40)⟩
def F.SDM_CLK_SDLY : Fld := ⟨R.SDM_CLK, 8, 4, .qs, false, .galley, .any⟩
def F.SDM_CLK_EN : Fld := ⟨R.SDM_CLK, 16, 1, .ro, false, .galley, .any⟩
def R.SDM_CFG : Reg := ⟨0x60100, [(48, 0x40)]⟩
def F.SDM_CFG_OSR3 : Fld := ⟨R.SDM_CFG, 0, 9, .qs, false, .galley, (.nat 16 256)⟩
def F.SDM_CFG_OSR2 : Fld := ⟨R.SDM_CFG, 12, 6, .qs, false, .galley, (.nat 8 32)⟩
def F.SDM_CFG_UDC_AIN : Fld := ⟨R.SDM_CFG, 20, 4, .ro, false, .galley, .any⟩
def F.SDM_CFG_EN : Fld := ⟨R.SDM_CFG, 24, 1, .ro, false, .galley, .any⟩
def F.SDM_CFG_PLATEN : Fld := ⟨R.SDM_CFG, 25, 3, .ro, false, .galley, (.notUsed 4 6)⟩
def R.SDM_GAIN : Reg := ⟨0x60104, [(48, 0x40), (3, 0x4)]⟩
def F.SDM_GAIN_GAIN : Fld := ⟨R.SDM_GAIN, 0, 24, .qs, false, .galley, (.nat 2097152 8384413)⟩
def R.SDM_OFS : Reg := ⟨0x60110, [(48, 0x40), (3, 0x4)]⟩
def F.SDM_OFS_OFS : Fld := ⟨R.SDM_OFS, 0, 24, .qs, false, .galley, (.int (-1048576) 1048576)⟩
def R.SDM_OC : Reg := ⟨0x6011C, [(48, 0x40)]⟩
def F.SDM_OC_TH_TRIP : Fld := ⟨R.SDM_OC, 0, 12, .qs, false, .galley, (.nat 1 4095)⟩
def F.SDM_OC_CNT_TRIP : Fld := ⟨R.SDM_OC, 12, 4, .qs, false, .galley, .any⟩
def F.SDM_OC_TH_WARN : Fld := ⟨R.SDM_OC, 16, 12, .qs, false, .galley, (.nat 1 4095)⟩
def F.SDM_OC_CNT_WARN : Fld := ⟨R.SDM_OC, 28, 4, .qs, false, .galley, .any⟩
def R.SDM_STATUS : Reg := ⟨0x60120, [(48, 0x40)]⟩
def F.SDM_STATUS_WARN : Fld := ⟨R.SDM_STATUS, 0, 3, .w1c, false, (.num 0), .any⟩
def F.SDM_STATUS_STUCK : Fld := ⟨R.SDM_STATUS, 3, 3, .w1c, false, (.num 0), .any⟩
def F.SDM_STATUS_CLIP : Fld := ⟨R.SDM_STATUS, 6, 3, .w1c, false, (.num 0), .any⟩
def F.SDM_STATUS_OCT : Fld := ⟨R.SDM_STATUS, 9, 3, .ro, false, (.num 0), .any⟩
def F.SDM_STATUS_WARN_LIVE : Fld := ⟨R.SDM_STATUS, 12, 3, .ro, false, (.num 0), .any⟩
def F.SDM_STATUS_SETTLE : Fld := ⟨R.SDM_STATUS, 15, 1, .ro, false, (.num 0), .any⟩
def R.SDM_PAGE : Reg := ⟨0x60124, [(48, 0x40)]⟩
def F.SDM_PAGE_PAGE : Fld := ⟨R.SDM_PAGE, 0, 1, .qs, false, .galley, .any⟩
def R.SDM_VAL : Reg := ⟨0x60128, [(48, 0x40), (3, 0x4)]⟩
def F.SDM_VAL_I : Fld := ⟨R.SDM_VAL, 0, 32, .ro, false, (.num 0), .any⟩
def R.SDM_AIN_CFG : Reg := ⟨0x60E00, [(16, 0x10)]⟩
def F.SDM_AIN_CFG_EN : Fld := ⟨R.SDM_AIN_CFG, 0, 1, .ro, false, .galley, .any⟩
def R.SDM_AIN_VAL : Reg := ⟨0x60E04, [(16, 0x10)]⟩
def F.SDM_AIN_VAL_LATCH : Fld := ⟨R.SDM_AIN_VAL, 0, 16, .ro, false, (.num 0), .any⟩
def F.SDM_AIN_VAL_AVG : Fld := ⟨R.SDM_AIN_VAL, 16, 16, .ro, false, (.num 0), .any⟩

/-! Block FIO at 0x70000 (tables governed by R304-R319). -/

def R.FIO_STATUS : Reg := ⟨0x70000, []⟩
def F.FIO_STATUS_WDT_EXP : Fld := ⟨R.FIO_STATUS, 0, 1, .w1c, false, (.num 0), .any⟩
def R.FIO_WDT : Reg := ⟨0x70004, []⟩
def F.FIO_WDT_MS : Fld := ⟨R.FIO_WDT, 0, 16, .qs, false, .galley, (.nat 1 65535)⟩
def F.FIO_WDT_EN : Fld := ⟨R.FIO_WDT, 16, 1, .qs, false, .galley, .any⟩
def F.FIO_WDT_KICK : Fld := ⟨R.FIO_WDT, 17, 1, .wo, false, (.num 0), .any⟩
def R.FIO_IN : Reg := ⟨0x70008, []⟩
def F.FIO_IN_LEVEL : Fld := ⟨R.FIO_IN, 0, 32, .ro, true, (.num 0), .any⟩
def R.FIO_OUT : Reg := ⟨0x7000C, []⟩
def F.FIO_OUT_CMD : Fld := ⟨R.FIO_OUT, 0, 32, .rw, false, (.num 0), .any⟩
def R.FIO_KFB : Reg := ⟨0x70010, []⟩
def F.FIO_KFB_LEVEL : Fld := ⟨R.FIO_KFB, 0, 16, .ro, false, (.num 0), .any⟩
def R.FIO_GRP_CTL : Reg := ⟨0x70040, [(4, 0x8)]⟩
def F.FIO_GRP_CTL_UV_ACK : Fld := ⟨R.FIO_GRP_CTL, 0, 1, .wo, false, (.num 0), .any⟩
def R.FIO_GRP_STATUS : Reg := ⟨0x70044, [(4, 0x8)]⟩
def F.FIO_GRP_STATUS_FIELD_WARN : Fld := ⟨R.FIO_GRP_STATUS, 0, 1, .ro, false, (.num 0), .any⟩
def F.FIO_GRP_STATUS_FIELD_WARN_SEEN : Fld := ⟨R.FIO_GRP_STATUS, 1, 1, .w1c, false, (.num 0), .any⟩
def F.FIO_GRP_STATUS_FIELD_UV : Fld := ⟨R.FIO_GRP_STATUS, 2, 1, .ro, false, (.num 0), .any⟩
def F.FIO_GRP_STATUS_RECOVERED : Fld := ⟨R.FIO_GRP_STATUS, 3, 1, .ro, false, (.num 0), .any⟩
def F.FIO_GRP_STATUS_ACK_REFUSED : Fld := ⟨R.FIO_GRP_STATUS, 4, 1, .w1c, false, (.num 0), .any⟩
def F.FIO_GRP_STATUS_VOLT : Fld := ⟨R.FIO_GRP_STATUS, 16, 10, .ro, false, (.num 0), .any⟩
def R.FIO_CH_CFG : Reg := ⟨0x70100, [(32, 0x10)]⟩
def F.FIO_CH_CFG_MODE : Fld := ⟨R.FIO_CH_CFG, 0, 2, .qs, false, .galley, .any⟩
def F.FIO_CH_CFG_SRC : Fld := ⟨R.FIO_CH_CFG, 2, 2, .qs, false, .galley, (.notUsed 3 3)⟩
def F.FIO_CH_CFG_SAFE_ST : Fld := ⟨R.FIO_CH_CFG, 4, 2, .qs, false, .galley, (.notUsed 3 3)⟩
def F.FIO_CH_CFG_RESTORE : Fld := ⟨R.FIO_CH_CFG, 6, 1, .qs, false, .galley, .any⟩
def F.FIO_CH_CFG_WDT_EN : Fld := ⟨R.FIO_CH_CFG, 7, 1, .qs, false, .galley, .any⟩
def F.FIO_CH_CFG_WAKE_EN : Fld := ⟨R.FIO_CH_CFG, 8, 1, .qs, false, .galley, .any⟩
def F.FIO_CH_CFG_OW_EN : Fld := ⟨R.FIO_CH_CFG, 9, 1, .qs, false, .galley, .any⟩
def F.FIO_CH_CFG_SAFE : Fld := ⟨R.FIO_CH_CFG, 10, 1, .ro, true, (.num 0), .any⟩
def F.FIO_CH_CFG_CMP : Fld := ⟨R.FIO_CH_CFG, 16, 6, .qs, false, .galley, .any⟩
def R.FIO_CH_DEB : Reg := ⟨0x70104, [(32, 0x10)]⟩
def F.FIO_CH_DEB_DEB : Fld := ⟨R.FIO_CH_DEB, 0, 16, .qs, false, .galley, (.nat 1 65535)⟩
def R.FIO_CH_EP : Reg := ⟨0x70108, [(32, 0x10)]⟩
def F.FIO_CH_EP_EP : Fld := ⟨R.FIO_CH_EP, 0, 18, .qs, false, .galley, .any⟩
def R.FIO_CH_DIAG : Reg := ⟨0x7010C, [(32, 0x10)]⟩
def F.FIO_CH_DIAG_OVL : Fld := ⟨R.FIO_CH_DIAG, 0, 1, .w1c, false, (.num 0), .any⟩
def F.FIO_CH_DIAG_OT : Fld := ⟨R.FIO_CH_DIAG, 1, 1, .w1c, false, (.num 0), .any⟩
def F.FIO_CH_DIAG_OPEN : Fld := ⟨R.FIO_CH_DIAG, 2, 1, .w1c, false, (.num 0), .any⟩
def F.FIO_CH_DIAG_DRIVEN : Fld := ⟨R.FIO_CH_DIAG, 3, 1, .ro, true, (.num 0), .any⟩
def R.FIO_TRGOUT : Reg := ⟨0x70400, [(4, 0x4)]⟩
def F.FIO_TRGOUT_SRC : Fld := ⟨R.FIO_TRGOUT, 0, 1, .qs, false, .galley, .any⟩
def F.FIO_TRGOUT_CMP : Fld := ⟨R.FIO_TRGOUT, 1, 6, .qs, false, .galley, .any⟩
def R.FIO_SBC_CFG : Reg := ⟨0x70500, [(8, 0x8)]⟩
def F.FIO_SBC_CFG_PULL : Fld := ⟨R.FIO_SBC_CFG, 0, 9, .qs, false, .galley, (.nat 10 300)⟩
def F.FIO_SBC_CFG_HOLD : Fld := ⟨R.FIO_SBC_CFG, 9, 7, .qs, false, .galley, (.nat 20 100)⟩
def F.FIO_SBC_CFG_TP : Fld := ⟨R.FIO_SBC_CFG, 16, 9, .qs, false, .galley, (.nat 50 500)⟩
def R.FIO_SBC_STATUS : Reg := ⟨0x70504, [(8, 0x8)]⟩
def F.FIO_SBC_STATUS_OVL : Fld := ⟨R.FIO_SBC_STATUS, 0, 1, .w1c, false, (.num 0), .any⟩
def F.FIO_SBC_STATUS_OPEN : Fld := ⟨R.FIO_SBC_STATUS, 1, 1, .w1c, false, (.num 0), .any⟩
def F.FIO_SBC_STATUS_RB_HS : Fld := ⟨R.FIO_SBC_STATUS, 2, 1, .ro, true, (.num 0), .any⟩
def F.FIO_SBC_STATUS_RB_LS : Fld := ⟨R.FIO_SBC_STATUS, 3, 1, .ro, true, (.num 0), .any⟩
def F.FIO_SBC_STATUS_I : Fld := ⟨R.FIO_SBC_STATUS, 16, 12, .ro, false, (.num 0), .any⟩
def R.FIO_STO : Reg := ⟨0x70600, []⟩
def F.FIO_STO_OVL : Fld := ⟨R.FIO_STO, 0, 8, .w1c, false, (.num 0), .any⟩
def F.FIO_STO_RB : Fld := ⟨R.FIO_STO, 8, 8, .ro, true, (.num 0), .any⟩
def F.FIO_STO_STO_TP : Fld := ⟨R.FIO_STO, 16, 9, .qs, false, .galley, .stoTp⟩

/-! Block SAF at 0x80000 (tables governed by R271-R303). -/

def R.SAF_STATE : Reg := ⟨0x80000, []⟩
def F.SAF_STATE_STATE : Fld := ⟨R.SAF_STATE, 0, 3, .ro, false, (.num 0), .any⟩
def F.SAF_STATE_PREV : Fld := ⟨R.SAF_STATE, 4, 3, .ro, false, (.num 0), .any⟩
def F.SAF_STATE_CAUSE : Fld := ⟨R.SAF_STATE, 8, 8, .ro, false, (.num 0), .any⟩
def F.SAF_STATE_DRY : Fld := ⟨R.SAF_STATE, 16, 5, .ro, false, (.num 0), .any⟩
def F.SAF_STATE_CONFIRMED : Fld := ⟨R.SAF_STATE, 21, 1, .ro, false, (.num 0), .any⟩
def F.SAF_STATE_DIAG_OK : Fld := ⟨R.SAF_STATE, 22, 1, .ro, false, (.num 0), .any⟩
def F.SAF_STATE_MONITOR : Fld := ⟨R.SAF_STATE, 23, 1, .ro, false, (.num 0), .any⟩
def F.SAF_STATE_SIG_BUSY : Fld := ⟨R.SAF_STATE, 24, 1, .ro, false, (.num 0), .any⟩
def F.SAF_STATE_CONF_REFUSED : Fld := ⟨R.SAF_STATE, 25, 1, .w1c, false, (.num 0), .any⟩
def F.SAF_STATE_RESET_REFUSED : Fld := ⟨R.SAF_STATE, 26, 1, .w1c, false, (.num 0), .any⟩
def F.SAF_STATE_SF_REFUSED : Fld := ⟨R.SAF_STATE, 27, 1, .w1c, false, (.num 0), .any⟩
def R.SAF_CTL : Reg := ⟨0x80004, []⟩
def F.SAF_CTL_ENTER_COMM : Fld := ⟨R.SAF_CTL, 0, 1, .wo, false, (.num 0), .any⟩
def F.SAF_CTL_EXIT_COMM : Fld := ⟨R.SAF_CTL, 1, 1, .wo, false, (.num 0), .any⟩
def F.SAF_CTL_RESET : Fld := ⟨R.SAF_CTL, 2, 1, .wo, false, (.num 0), .any⟩
def F.SAF_CTL_STOP : Fld := ⟨R.SAF_CTL, 3, 1, .wo, false, (.num 0), .any⟩
def F.SAF_CTL_DRY_ACK : Fld := ⟨R.SAF_CTL, 4, 1, .wo, false, (.num 0), .any⟩
def F.SAF_CTL_KEY : Fld := ⟨R.SAF_CTL, 24, 8, .wo, false, (.num 0), .any⟩
def R.SAF_SIG_CALC : Reg := ⟨0x80008, []⟩
def F.SAF_SIG_CALC_VAL : Fld := ⟨R.SAF_SIG_CALC, 0, 32, .ro, false, .galley, .any⟩
def R.SAF_SIG_CONF : Reg := ⟨0x8000C, []⟩
def F.SAF_SIG_CONF_VAL : Fld := ⟨R.SAF_SIG_CONF, 0, 32, .ro, true, .record, .any⟩
def R.SAF_CONFIRM : Reg := ⟨0x80010, []⟩
def F.SAF_CONFIRM_VAL : Fld := ⟨R.SAF_CONFIRM, 0, 32, .wo, false, (.num 0), .any⟩
def R.SAF_SIG_EXP : Reg := ⟨0x80014, []⟩
def F.SAF_SIG_EXP_VAL : Fld := ⟨R.SAF_SIG_EXP, 0, 32, .ro, false, .galley, .any⟩
def R.SAF_DRY_LEFT : Reg := ⟨0x80018, []⟩
def F.SAF_DRY_LEFT_VAL : Fld := ⟨R.SAF_DRY_LEFT, 0, 32, .ro, false, (.num 0), .any⟩
def R.SAF_STOP_STAMP : Reg := ⟨0x8001C, []⟩
def F.SAF_STOP_STAMP_VAL : Fld := ⟨R.SAF_STOP_STAMP, 0, 32, .ro, false, (.num 0), .any⟩
def R.SAF_BRAKE : Reg := ⟨0x80020, []⟩
def F.SAF_BRAKE_REL : Fld := ⟨R.SAF_BRAKE, 0, 8, .rw, false, (.num 0), .any⟩
def F.SAF_BRAKE_APPLIED : Fld := ⟨R.SAF_BRAKE, 8, 8, .ro, false, (.num 255), .any⟩
def F.SAF_BRAKE_STO_ASSERTED : Fld := ⟨R.SAF_BRAKE, 16, 8, .ro, false, (.num 255), .any⟩
def F.SAF_BRAKE_BT_LOCK : Fld := ⟨R.SAF_BRAKE, 24, 8, .ro, false, (.num 0), .any⟩
def R.SAF_BT_CTL : Reg := ⟨0x80024, []⟩
def F.SAF_BT_CTL_AXIS : Fld := ⟨R.SAF_BT_CTL, 0, 3, .wo, false, (.num 0), .any⟩
def F.SAF_BT_CTL_GO : Fld := ⟨R.SAF_BT_CTL, 3, 1, .wo, false, (.num 0), .any⟩
def F.SAF_BT_CTL_CANCEL : Fld := ⟨R.SAF_BT_CTL, 4, 1, .wo, false, (.num 0), .any⟩
def F.SAF_BT_CTL_CLR_FAIL : Fld := ⟨R.SAF_BT_CTL, 5, 1, .wo, false, (.num 0), .any⟩
def R.SAF_BT_STATUS : Reg := ⟨0x80028, []⟩
def F.SAF_BT_STATUS_AXIS : Fld := ⟨R.SAF_BT_STATUS, 0, 3, .ro, false, (.num 0), .any⟩
def F.SAF_BT_STATUS_RESULT : Fld := ⟨R.SAF_BT_STATUS, 3, 3, .ro, false, (.num 0), .any⟩
def F.SAF_BT_STATUS_PHASE : Fld := ⟨R.SAF_BT_STATUS, 6, 2, .ro, false, (.num 0), .any⟩
def F.SAF_BT_STATUS_MOVE : Fld := ⟨R.SAF_BT_STATUS, 8, 24, .ro, false, (.num 0), .any⟩
def R.SAF_DIAG : Reg := ⟨0x8002C, []⟩
def F.SAF_DIAG_RC_DEV : Fld := ⟨R.SAF_DIAG, 0, 8, .ro, false, (.num 0), .any⟩
def F.SAF_DIAG_PASSES : Fld := ⟨R.SAF_DIAG, 8, 8, .ro, false, (.num 0), .any⟩
def F.SAF_DIAG_CE : Fld := ⟨R.SAF_DIAG, 16, 16, .rc, false, (.num 0), .any⟩
def R.SAF_AXST : Reg := ⟨0x80040, [(8, 0x4)]⟩
def F.SAF_AXST_LEVEL : Fld := ⟨R.SAF_AXST, 0, 2, .ro, false, (.num 0), .any⟩
def F.SAF_AXST_DRY_LIM_IN : Fld := ⟨R.SAF_AXST, 2, 1, .ro, false, (.num 0), .any⟩
def F.SAF_AXST_SOS_ACT : Fld := ⟨R.SAF_AXST, 3, 1, .ro, false, (.num 0), .any⟩
def F.SAF_AXST_STO : Fld := ⟨R.SAF_AXST, 4, 1, .ro, false, (.num 1), .any⟩
def F.SAF_AXST_SBC_APPLIED : Fld := ⟨R.SAF_AXST, 5, 1, .ro, false, (.num 1), .any⟩
def F.SAF_AXST_SEC_LOST : Fld := ⟨R.SAF_AXST, 6, 1, .ro, false, (.num 0), .any⟩
def F.SAF_AXST_BT_DUE : Fld := ⟨R.SAF_AXST, 7, 1, .ro, false, (.num 0), .any⟩
def F.SAF_AXST_BT_LOCK : Fld := ⟨R.SAF_AXST, 8, 1, .ro, false, (.num 0), .any⟩
def F.SAF_AXST_BT_FAIL : Fld := ⟨R.SAF_AXST, 9, 1, .ro, true, .record, .any⟩
def F.SAF_AXST_NEAR : Fld := ⟨R.SAF_AXST, 10, 1, .ro, false, (.num 0), .any⟩
def R.SAF_PS_STATUS : Reg := ⟨0x80080, [(8, 0x8)]⟩
def F.SAF_PS_STATUS_UP : Fld := ⟨R.SAF_PS_STATUS, 0, 1, .ro, false, (.num 0), .any⟩
def F.SAF_PS_STATUS_PATH_A_LOST : Fld := ⟨R.SAF_PS_STATUS, 1, 1, .ro, false, (.num 0), .any⟩
def F.SAF_PS_STATUS_PATH_B_LOST : Fld := ⟨R.SAF_PS_STATUS, 2, 1, .ro, false, (.num 0), .any⟩
def R.SAF_PS_CNT : Reg := ⟨0x80084, [(8, 0x8)]⟩
def F.SAF_PS_CNT_DISCARDED : Fld := ⟨R.SAF_PS_CNT, 0, 16, .rc, false, (.num 0), .any⟩
def F.SAF_PS_CNT_SINGLES : Fld := ⟨R.SAF_PS_CNT, 16, 16, .rc, false, (.num 0), .any⟩
def R.SAF_GEN : Reg := ⟨0x80100, []⟩
def F.SAF_GEN_RESET_SRC : Fld := ⟨R.SAF_GEN, 0, 2, .sf, false, .galley, (.notUsed 3 3)⟩
def F.SAF_GEN_AUTO_RETURN : Fld := ⟨R.SAF_GEN, 2, 1, .sf, false, .galley, .any⟩
def F.SAF_GEN_OVF_ACT : Fld := ⟨R.SAF_GEN, 3, 1, .sf, false, .galley, .any⟩
def F.SAF_GEN_UE_ACT : Fld := ⟨R.SAF_GEN, 4, 1, .sf, false, .galley, .any⟩
def F.SAF_GEN_RESET_SEL : Fld := ⟨R.SAF_GEN, 8, 10, .sf, false, .galley, .any⟩
def F.SAF_GEN_RUN_SEL : Fld := ⟨R.SAF_GEN, 18, 10, .sf, false, .galley, .any⟩
def R.SAF_TDRY : Reg := ⟨0x80104, []⟩
def F.SAF_TDRY_TDRY : Fld := ⟨R.SAF_TDRY, 0, 18, .sf, false, .galley, (.nat 1 259200)⟩
def R.SAF_TRESQ : Reg := ⟨0x80108, []⟩
def F.SAF_TRESQ_TRESQ : Fld := ⟨R.SAF_TRESQ, 0, 12, .sf, false, .galley, (.nat 0 3600)⟩
def R.SAF_BTI : Reg := ⟨0x8010C, []⟩
def F.SAF_BTI_INT : Fld := ⟨R.SAF_BTI, 0, 14, .sf, false, .galley, (.nat 0 8760)⟩
def F.SAF_BTI_GRACE : Fld := ⟨R.SAF_BTI, 14, 10, .sf, false, .galley, (.nat 0 720)⟩
def R.SAF_AX_CFG : Reg := ⟨0x80200, [(8, 0x40)]⟩
def F.SAF_AX_CFG_EN : Fld := ⟨R.SAF_AX_CFG, 0, 1, .sf, false, .galley, .any⟩
def F.SAF_AX_CFG_PRI : Fld := ⟨R.SAF_AX_CFG, 1, 7, .sf, false, .galley, .any⟩
def F.SAF_AX_CFG_SEC : Fld := ⟨R.SAF_AX_CFG, 8, 7, .sf, false, .galley, .any⟩
def F.SAF_AX_CFG_STO : Fld := ⟨R.SAF_AX_CFG, 15, 3, .sf, false, .galley, .any⟩
def F.SAF_AX_CFG_SBC : Fld := ⟨R.SAF_AX_CFG, 18, 4, .sf, false, .galley, (.notUsed 8 14)⟩
def F.SAF_AX_CFG_BT_CH : Fld := ⟨R.SAF_AX_CFG, 22, 6, .sf, false, .galley, .any⟩
def F.SAF_AX_CFG_STO_SBC : Fld := ⟨R.SAF_AX_CFG, 28, 1, .sf, false, .galley, .any⟩
def R.SAF_AX_SNUM : Reg := ⟨0x80204, [(8, 0x40)]⟩
def F.SAF_AX_SNUM_VAL : Fld := ⟨R.SAF_AX_SNUM, 0, 32, .sf, false, .galley, .any⟩
def R.SAF_AX_SDEN : Reg := ⟨0x80208, [(8, 0x40)]⟩
def F.SAF_AX_SDEN_VAL : Fld := ⟨R.SAF_AX_SDEN, 0, 32, .sf, false, .galley, (.nat 1 4294967295)⟩
def R.SAF_AX_SEL_A : Reg := ⟨0x8020C, [(8, 0x40)]⟩
def F.SAF_AX_SEL_A_STO_PERM : Fld := ⟨R.SAF_AX_SEL_A, 0, 10, .sf, false, .galley, .any⟩
def F.SAF_AX_SEL_A_SOS_PERM : Fld := ⟨R.SAF_AX_SEL_A, 10, 10, .sf, false, .galley, .any⟩
def F.SAF_AX_SEL_A_SLS_SEL0 : Fld := ⟨R.SAF_AX_SEL_A, 20, 10, .sf, false, .galley, .any⟩
def R.SAF_AX_SEL_B : Reg := ⟨0x80210, [(8, 0x40)]⟩
def F.SAF_AX_SEL_B_SLS_SEL1 : Fld := ⟨R.SAF_AX_SEL_B, 0, 10, .sf, false, .galley, .any⟩
def R.SAF_AX_SLS : Reg := ⟨0x80214, [(8, 0x40), (4, 0x4)]⟩
def F.SAF_AX_SLS_VAL : Fld := ⟨R.SAF_AX_SLS, 0, 32, .sf, false, .galley, .any⟩
def R.SAF_AX_DRY_LIM : Reg := ⟨0x80224, [(8, 0x40)]⟩
def F.SAF_AX_DRY_LIM_VAL : Fld := ⟨R.SAF_AX_DRY_LIM, 0, 32, .sf, false, .galley, .any⟩
def R.SAF_AX_TIMING : Reg := ⟨0x80228, [(8, 0x40)]⟩
def F.SAF_AX_TIMING_SLS_T : Fld := ⟨R.SAF_AX_TIMING, 0, 7, .sf, false, .galley, (.nat 0 100)⟩
def F.SAF_AX_TIMING_RAMP : Fld := ⟨R.SAF_AX_TIMING, 8, 14, .sf, false, .galley, (.nat 0 10000)⟩
def R.SAF_AX_SOS_WIN : Reg := ⟨0x8022C, [(8, 0x40)]⟩
def F.SAF_AX_SOS_WIN_WIN : Fld := ⟨R.SAF_AX_SOS_WIN, 0, 31, .sf, false, .galley, (.nat 1 2147483647)⟩
def R.SAF_AX_PL : Reg := ⟨0x80230, [(8, 0x40)]⟩
def F.SAF_AX_PL_TOL : Fld := ⟨R.SAF_AX_PL, 0, 20, .sf, false, .galley, (.nat 1 1048575)⟩
def F.SAF_AX_PL_PL_T : Fld := ⟨R.SAF_AX_PL, 20, 8, .sf, false, .galley, (.nat 1 255)⟩
def R.SAF_AX_BT1 : Reg := ⟨0x80234, [(8, 0x40)]⟩
def F.SAF_AX_BT1_TORQUE : Fld := ⟨R.SAF_AX_BT1, 0, 8, .sf, false, .galley, (.nat 10 150)⟩
def F.SAF_AX_BT1_TIME : Fld := ⟨R.SAF_AX_BT1, 8, 9, .sf, false, .galley, (.nat 10 500)⟩
def F.SAF_AX_BT1_DIR : Fld := ⟨R.SAF_AX_BT1, 17, 2, .sf, false, .galley, (.notUsed 0 0)⟩
def R.SAF_AX_BT_MOVE : Reg := ⟨0x80238, [(8, 0x40)]⟩
def F.SAF_AX_BT_MOVE_VAL : Fld := ⟨R.SAF_AX_BT_MOVE, 0, 24, .sf, false, .galley, (.nat 1 16777215)⟩
def R.SAF_AX_I_RATED : Reg := ⟨0x8023C, [(8, 0x40)]⟩
def F.SAF_AX_I_RATED_VAL : Fld := ⟨R.SAF_AX_I_RATED, 0, 24, .sf, false, .galley, .any⟩
def R.SAF_KFB_CFG : Reg := ⟨0x80400, [(16, 0x8)]⟩
def F.SAF_KFB_CFG_EN : Fld := ⟨R.SAF_KFB_CFG, 0, 1, .sf, false, .galley, .any⟩
def F.SAF_KFB_CFG_CKIND : Fld := ⟨R.SAF_KFB_CFG, 1, 2, .sf, false, .galley, (.notUsed 3 3)⟩
def F.SAF_KFB_CFG_CIDX : Fld := ⟨R.SAF_KFB_CFG, 3, 5, .sf, false, .galley, .any⟩
def F.SAF_KFB_CFG_MIRROR : Fld := ⟨R.SAF_KFB_CFG, 8, 1, .sf, false, .galley, .any⟩
def F.SAF_KFB_CFG_GROUP : Fld := ⟨R.SAF_KFB_CFG, 9, 4, .sf, false, .galley, .any⟩
def R.SAF_KFB_DT : Reg := ⟨0x80404, [(16, 0x8)]⟩
def F.SAF_KFB_DT_DT : Fld := ⟨R.SAF_KFB_DT, 0, 9, .sf, false, .galley, (.nat 20 500)⟩
def R.SAF_PSC_ID : Reg := ⟨0x80480, [(8, 0x20)]⟩
def F.SAF_PSC_ID_EN : Fld := ⟨R.SAF_PSC_ID, 0, 1, .sf, false, .galley, .any⟩
def F.SAF_PSC_ID_CTX : Fld := ⟨R.SAF_PSC_ID, 1, 7, .sf, false, .galley, .any⟩
def F.SAF_PSC_ID_SESSION : Fld := ⟨R.SAF_PSC_ID, 16, 16, .sf, false, .galley, .any⟩
def R.SAF_PSC_TIMING : Reg := ⟨0x80484, [(8, 0x20)]⟩
def F.SAF_PSC_TIMING_TX_PER : Fld := ⟨R.SAF_PSC_TIMING, 0, 7, .sf, false, .galley, (.nat 1 100)⟩
def F.SAF_PSC_TIMING_WIN : Fld := ⟨R.SAF_PSC_TIMING, 8, 7, .sf, false, (.galleyDflt 4), (.nat 1 100)⟩
def F.SAF_PSC_TIMING_WD : Fld := ⟨R.SAF_PSC_TIMING, 16, 10, .sf, false, .galley, (.nat 10 1000)⟩
def R.SAF_PSC_CHECK : Reg := ⟨0x80488, [(8, 0x20)]⟩
def F.SAF_PSC_CHECK_MAX_AGE : Fld := ⟨R.SAF_PSC_CHECK, 0, 16, .sf, false, .galley, (.nat 100 50000)⟩
def F.SAF_PSC_CHECK_RECOVER_N : Fld := ⟨R.SAF_PSC_CHECK, 16, 8, .sf, false, .galley, (.nat 1 255)⟩

end Sys2Proof.Machine
end

