-- ==== Sys2Proof/Machine/RegMapC.lean ====
section
/-! DEFINITION. Sys2Proof/Machine/RegMapC.lean: the register map of the blocks TIM to TST.
Each register (`R.<BLOCK>_<REGISTER>`) is its host address (R2, R60) and its index strides; each field
(`F.<BLOCK>_<REGISTER>_<FIELD>`) carries its bits, its access code (R3), its Reset column (R9) and its
permitted range (R52) as the register tables of the chapters give them. -/

namespace Sys2Proof.Machine

/-! Block TIM at 0x90000 (tables governed by R320-R340). -/

def R.TIM_STATUS : Reg := ⟨0x90000, []⟩
def F.TIM_STATUS_STATE : Fld := ⟨R.TIM_STATUS, 0, 2, .ro, true, (.num 0), .any⟩
def F.TIM_STATUS_SEL : Fld := ⟨R.TIM_STATUS, 2, 1, .ro, true, (.num 0), .any⟩
def F.TIM_STATUS_VALID : Fld := ⟨R.TIM_STATUS, 3, 2, .ro, true, (.num 0), .any⟩
def F.TIM_STATUS_JUMP_REFUSED : Fld := ⟨R.TIM_STATUS, 5, 1, .w1c, false, (.num 0), .any⟩
def F.TIM_STATUS_XDIFF : Fld := ⟨R.TIM_STATUS, 6, 1, .ro, true, (.num 0), .any⟩
def F.TIM_STATUS_SEL_CHANGED : Fld := ⟨R.TIM_STATUS, 7, 1, .w1c, false, (.num 0), .any⟩
def F.TIM_STATUS_GM : Fld := ⟨R.TIM_STATUS, 8, 1, .ro, true, (.num 0), .any⟩
def R.TIM_CTL : Reg := ⟨0x90004, []⟩
def F.TIM_CTL_ACCEPT_STEP : Fld := ⟨R.TIM_CTL, 0, 1, .wo, false, (.num 0), .any⟩
def F.TIM_CTL_SET : Fld := ⟨R.TIM_CTL, 1, 1, .wo, false, (.num 0), .any⟩
def R.TIM_CFG : Reg := ⟨0x90008, []⟩
def F.TIM_CFG_SERVO_BW : Fld := ⟨R.TIM_CFG, 0, 2, .rw, false, .galley, .any⟩
def F.TIM_CFG_XCHK_ACT : Fld := ⟨R.TIM_CFG, 2, 1, .rw, false, .galley, .any⟩
def F.TIM_CFG_GM_SRC : Fld := ⟨R.TIM_CFG, 3, 2, .rw, false, .galley, (.notUsed 3 3)⟩
def R.TIM_STEP_LIMIT : Reg := ⟨0x9000C, []⟩
def F.TIM_STEP_LIMIT_LIMIT : Fld := ⟨R.TIM_STEP_LIMIT, 0, 30, .rw, false, (.galleyDflt 1000000), (.nat 100 1000000000)⟩
def R.TIM_STEP_MIN : Reg := ⟨0x90010, []⟩
def F.TIM_STEP_MIN_MIN : Fld := ⟨R.TIM_STEP_MIN, 0, 20, .rw, false, (.galleyDflt 20000), (.nat 100 1000000)⟩
def R.TIM_SLEW : Reg := ⟨0x90014, []⟩
def F.TIM_SLEW_SLEW_MAX : Fld := ⟨R.TIM_SLEW, 0, 10, .rw, false, (.galleyDflt 200), (.nat 1 1000)⟩
def F.TIM_SLEW_WAKE_PPM : Fld := ⟨R.TIM_SLEW, 16, 10, .rw, false, (.galleyDflt 50), (.nat 1 200)⟩
def R.TIM_XCHK : Reg := ⟨0x90018, []⟩
def F.TIM_XCHK_XCHK : Fld := ⟨R.TIM_XCHK, 0, 20, .rw, false, (.galleyDflt 1000), (.nat 10 1000000)⟩
def R.TIM_LNS_L : Reg := ⟨0x90020, []⟩
def F.TIM_LNS_L_VAL : Fld := ⟨R.TIM_LNS_L, 0, 32, .ro, true, (.num 0), .any⟩
def R.TIM_LNS_H : Reg := ⟨0x90024, []⟩
def F.TIM_LNS_H_VAL : Fld := ⟨R.TIM_LNS_H, 0, 32, .ro, true, (.num 0), .any⟩
def R.TIM_PTP_S_L : Reg := ⟨0x90028, []⟩
def F.TIM_PTP_S_L_VAL : Fld := ⟨R.TIM_PTP_S_L, 0, 32, .ro, true, (.num 0), .any⟩
def R.TIM_PTP_S_H : Reg := ⟨0x9002C, []⟩
def F.TIM_PTP_S_H_VAL : Fld := ⟨R.TIM_PTP_S_H, 0, 16, .ro, true, (.num 0), .any⟩
def R.TIM_PTP_NS : Reg := ⟨0x90030, []⟩
def F.TIM_PTP_NS_VAL : Fld := ⟨R.TIM_PTP_NS, 0, 30, .ro, true, (.num 0), .any⟩
def R.TIM_INCR : Reg := ⟨0x90034, []⟩
def F.TIM_INCR_VAL : Fld := ⟨R.TIM_INCR, 0, 32, .ro, true, (.num 268435456), .any⟩
def R.TIM_OFFSET : Reg := ⟨0x90038, []⟩
def F.TIM_OFFSET_VAL : Fld := ⟨R.TIM_OFFSET, 0, 32, .ro, false, (.num 0), .any⟩
def R.TIM_AON_INC : Reg := ⟨0x9003C, []⟩
def F.TIM_AON_INC_VAL : Fld := ⟨R.TIM_AON_INC, 0, 32, .ro, false, (.num 0), .any⟩
def R.TIM_REFUSED_L : Reg := ⟨0x90040, []⟩
def F.TIM_REFUSED_L_VAL : Fld := ⟨R.TIM_REFUSED_L, 0, 32, .ro, false, (.num 0), .any⟩
def R.TIM_REFUSED_H : Reg := ⟨0x90044, []⟩
def F.TIM_REFUSED_H_VAL : Fld := ⟨R.TIM_REFUSED_H, 0, 32, .ro, false, (.num 0), .any⟩
def R.TIM_STEP_LNS_L : Reg := ⟨0x90048, []⟩
def F.TIM_STEP_LNS_L_VAL : Fld := ⟨R.TIM_STEP_LNS_L, 0, 32, .ro, false, (.num 0), .any⟩
def R.TIM_STEP_LNS_H : Reg := ⟨0x9004C, []⟩
def F.TIM_STEP_LNS_H_VAL : Fld := ⟨R.TIM_STEP_LNS_H, 0, 32, .ro, false, (.num 0), .any⟩
def R.TIM_STEP_DELTA_L : Reg := ⟨0x90050, []⟩
def F.TIM_STEP_DELTA_L_VAL : Fld := ⟨R.TIM_STEP_DELTA_L, 0, 32, .ro, false, (.num 0), .any⟩
def R.TIM_STEP_DELTA_H : Reg := ⟨0x90054, []⟩
def F.TIM_STEP_DELTA_H_VAL : Fld := ⟨R.TIM_STEP_DELTA_H, 0, 32, .ro, false, (.num 0), .any⟩
def R.TIM_SET_L : Reg := ⟨0x90058, []⟩
def F.TIM_SET_L_VAL : Fld := ⟨R.TIM_SET_L, 0, 32, .rw, false, (.num 0), .any⟩
def R.TIM_SET_H : Reg := ⟨0x9005C, []⟩
def F.TIM_SET_H_VAL : Fld := ⟨R.TIM_SET_H, 0, 32, .rw, false, (.num 0), .any⟩
def R.TIM_UTC : Reg := ⟨0x90060, []⟩
def F.TIM_UTC_UTC_OFS : Fld := ⟨R.TIM_UTC, 0, 16, .rw, false, (.num 0), .any⟩
def F.TIM_UTC_UTC_VALID : Fld := ⟨R.TIM_UTC, 16, 1, .rw, false, (.num 0), .any⟩
def F.TIM_UTC_LEAP : Fld := ⟨R.TIM_UTC, 17, 2, .rw, false, (.num 0), (.notUsed 3 3)⟩
def R.TIM_PPS : Reg := ⟨0x90064, []⟩
def F.TIM_PPS_WIDTH : Fld := ⟨R.TIM_PPS, 0, 9, .rw, false, .galley, (.nat 1 500)⟩
def F.TIM_PPS_OUT_EN : Fld := ⟨R.TIM_PPS, 9, 1, .rw, false, .galley, .any⟩
def F.TIM_PPS_IN_EN : Fld := ⟨R.TIM_PPS, 10, 1, .rw, false, .galley, .any⟩
def R.TIM_PPS_IN_T : Reg := ⟨0x90068, []⟩
def F.TIM_PPS_IN_T_T : Fld := ⟨R.TIM_PPS_IN_T, 0, 32, .ro, false, (.num 0), .any⟩
def R.TIM_PPS_IN_F : Reg := ⟨0x9006C, []⟩
def F.TIM_PPS_IN_F_FRAC : Fld := ⟨R.TIM_PPS_IN_F, 0, 8, .ro, false, (.num 0), .any⟩
def R.TIM_P_CFG : Reg := ⟨0x90100, [(2, 0x80)]⟩
def F.TIM_P_CFG_EN : Fld := ⟨R.TIM_P_CFG, 0, 1, .rw, false, .galley, .any⟩
def F.TIM_P_CFG_PROFILE : Fld := ⟨R.TIM_P_CFG, 1, 2, .rw, false, .galley, (.notUsed 3 3)⟩
def F.TIM_P_CFG_UDP : Fld := ⟨R.TIM_P_CFG, 3, 1, .rw, false, .galley, .any⟩
def F.TIM_P_CFG_ROLE : Fld := ⟨R.TIM_P_CFG, 4, 1, .rw, false, .galley, .any⟩
def F.TIM_P_CFG_DOMAIN : Fld := ⟨R.TIM_P_CFG, 8, 8, .rw, false, .galley, .any⟩
def R.TIM_P_INTV : Reg := ⟨0x90104, [(2, 0x80)]⟩
def F.TIM_P_INTV_LOG_SYNC : Fld := ⟨R.TIM_P_INTV, 0, 4, .rw, false, .galley, (.int (-7) 1)⟩
def F.TIM_P_INTV_LOG_ANN : Fld := ⟨R.TIM_P_INTV, 4, 4, .rw, false, .galley, (.int (-3) 3)⟩
def F.TIM_P_INTV_LOG_DELAY : Fld := ⟨R.TIM_P_INTV, 8, 4, .rw, false, .galley, (.int (-7) 5)⟩
def F.TIM_P_INTV_ANN_TO : Fld := ⟨R.TIM_P_INTV, 12, 4, .rw, false, .galley, (.nat 2 10)⟩
def R.TIM_P_INGRESS : Reg := ⟨0x90108, [(2, 0x80)]⟩
def F.TIM_P_INGRESS_VAL : Fld := ⟨R.TIM_P_INGRESS, 0, 32, .rw, false, .galley, .any⟩
def R.TIM_P_EGRESS : Reg := ⟨0x9010C, [(2, 0x80)]⟩
def F.TIM_P_EGRESS_VAL : Fld := ⟨R.TIM_P_EGRESS, 0, 32, .rw, false, .galley, .any⟩
def R.TIM_P_ASYM : Reg := ⟨0x90110, [(2, 0x80)]⟩
def F.TIM_P_ASYM_VAL : Fld := ⟨R.TIM_P_ASYM, 0, 32, .rw, false, .galley, .any⟩
def R.TIM_P_GMDS : Reg := ⟨0x90114, [(2, 0x80)]⟩
def F.TIM_P_GMDS_PRIO1 : Fld := ⟨R.TIM_P_GMDS, 0, 8, .rw, false, .galley, .any⟩
def F.TIM_P_GMDS_CLASS : Fld := ⟨R.TIM_P_GMDS, 8, 8, .rw, false, .galley, .any⟩
def F.TIM_P_GMDS_ACCURACY : Fld := ⟨R.TIM_P_GMDS, 16, 8, .rw, false, .galley, .any⟩
def F.TIM_P_GMDS_PRIO2 : Fld := ⟨R.TIM_P_GMDS, 24, 8, .rw, false, .galley, .any⟩
def R.TIM_P_STATE : Reg := ⟨0x90118, [(2, 0x80)]⟩
def F.TIM_P_STATE_PSTATE : Fld := ⟨R.TIM_P_STATE, 0, 4, .ro, true, (.num 0), .any⟩
def F.TIM_P_STATE_PVALID : Fld := ⟨R.TIM_P_STATE, 4, 1, .ro, true, (.num 0), .any⟩
def F.TIM_P_STATE_AS_CAPABLE : Fld := ⟨R.TIM_P_STATE, 5, 1, .ro, true, (.num 0), .any⟩
def F.TIM_P_STATE_STEPS : Fld := ⟨R.TIM_P_STATE, 8, 8, .ro, true, (.num 0), .any⟩
def R.TIM_P_OFS : Reg := ⟨0x9011C, [(2, 0x80)]⟩
def F.TIM_P_OFS_VAL : Fld := ⟨R.TIM_P_OFS, 0, 32, .ro, true, (.num 0), .any⟩
def R.TIM_P_MPD : Reg := ⟨0x90120, [(2, 0x80)]⟩
def F.TIM_P_MPD_VAL : Fld := ⟨R.TIM_P_MPD, 0, 32, .ro, true, (.num 0), .any⟩
def R.TIM_P_GM_ID_L : Reg := ⟨0x90124, [(2, 0x80)]⟩
def F.TIM_P_GM_ID_L_VAL : Fld := ⟨R.TIM_P_GM_ID_L, 0, 32, .ro, true, (.num 0), .any⟩
def R.TIM_P_GM_ID_H : Reg := ⟨0x90128, [(2, 0x80)]⟩
def F.TIM_P_GM_ID_H_VAL : Fld := ⟨R.TIM_P_GM_ID_H, 0, 32, .ro, true, (.num 0), .any⟩
def R.TIM_P_CNT : Reg := ⟨0x9012C, [(2, 0x80)]⟩
def F.TIM_P_CNT_DISC : Fld := ⟨R.TIM_P_CNT, 0, 16, .rc, false, (.num 0), .any⟩
def F.TIM_P_CNT_SYNC_TO : Fld := ⟨R.TIM_P_CNT, 16, 16, .rc, false, (.num 0), .any⟩

/-! Block NET at 0xA0000 (tables governed by R342-R347). -/

def R.NET_CFG : Reg := ⟨0xA0100, [(3, 0x100)]⟩
def F.NET_CFG_EN : Fld := ⟨R.NET_CFG, 0, 1, .ro, false, .galley, .any⟩
def F.NET_CFG_SPEED : Fld := ⟨R.NET_CFG, 1, 2, .qs, false, .galley, (.notUsed 3 3)⟩
def F.NET_CFG_WAKE_EN : Fld := ⟨R.NET_CFG, 3, 1, .qs, false, .galley, .any⟩
def F.NET_CFG_UDP : Fld := ⟨R.NET_CFG, 4, 1, .qs, false, .galley, .any⟩
def F.NET_CFG_VLAN_EN : Fld := ⟨R.NET_CFG, 5, 1, .qs, false, .galley, .any⟩
def F.NET_CFG_WAKE_AUTH : Fld := ⟨R.NET_CFG, 6, 1, .qs, false, .galley, .any⟩
def R.NET_MAC_L : Reg := ⟨0xA0104, [(3, 0x100)]⟩
def F.NET_MAC_L_MAC : Fld := ⟨R.NET_MAC_L, 0, 32, .ro, false, .galley, .any⟩
def R.NET_MAC_H : Reg := ⟨0xA0108, [(3, 0x100)]⟩
def F.NET_MAC_H_MAC : Fld := ⟨R.NET_MAC_H, 0, 16, .ro, false, .galley, .any⟩
def R.NET_IP : Reg := ⟨0xA010C, [(3, 0x100)]⟩
def F.NET_IP_IP : Fld := ⟨R.NET_IP, 0, 32, .qs, false, .galley, .any⟩
def R.NET_NETCFG : Reg := ⟨0xA0110, [(3, 0x100)]⟩
def F.NET_NETCFG_VID : Fld := ⟨R.NET_NETCFG, 0, 12, .qs, false, .galley, .any⟩
def F.NET_NETCFG_PCP : Fld := ⟨R.NET_NETCFG, 12, 3, .qs, false, .galley, .any⟩
def F.NET_NETCFG_TTL : Fld := ⟨R.NET_NETCFG, 16, 8, .qs, false, .galley, (.nat 1 255)⟩
def R.NET_ETYPE : Reg := ⟨0xA0114, [(3, 0x100)]⟩
def F.NET_ETYPE_ETYPE : Fld := ⟨R.NET_ETYPE, 0, 16, .qs, false, (.galleyDflt 34997), .any⟩
def F.NET_ETYPE_UPORT : Fld := ⟨R.NET_ETYPE, 16, 16, .qs, false, (.galleyDflt 34997), .any⟩
def R.NET_WAKE : Reg := ⟨0xA0118, [(3, 0x100)]⟩
def F.NET_WAKE_WAKE_FID : Fld := ⟨R.NET_WAKE, 0, 16, .qs, false, .galley, .any⟩
def R.NET_STATUS : Reg := ⟨0xA011C, [(3, 0x100)]⟩
def F.NET_STATUS_LINK : Fld := ⟨R.NET_STATUS, 0, 1, .ro, false, (.num 0), .any⟩
def F.NET_STATUS_SPEED_NOW : Fld := ⟨R.NET_STATUS, 1, 2, .ro, false, (.num 0), .any⟩
def F.NET_STATUS_EEE : Fld := ⟨R.NET_STATUS, 3, 1, .ro, false, (.num 0), .any⟩
def F.NET_STATUS_LINK_CHG : Fld := ⟨R.NET_STATUS, 4, 1, .w1c, false, (.num 0), .any⟩
def R.NET_RX_OK : Reg := ⟨0xA0120, [(3, 0x100)]⟩
def F.NET_RX_OK_COUNT : Fld := ⟨R.NET_RX_OK, 0, 32, .rc, false, (.num 0), .any⟩
def R.NET_RX_DROP : Reg := ⟨0xA0124, [(3, 0x100)]⟩
def F.NET_RX_DROP_COUNT : Fld := ⟨R.NET_RX_DROP, 0, 32, .rc, false, (.num 0), .any⟩
def R.NET_RX_ERR : Reg := ⟨0xA0128, [(3, 0x100)]⟩
def F.NET_RX_ERR_COUNT : Fld := ⟨R.NET_RX_ERR, 0, 32, .rc, false, (.num 0), .any⟩
def R.NET_TX_OK : Reg := ⟨0xA012C, [(3, 0x100)]⟩
def F.NET_TX_OK_COUNT : Fld := ⟨R.NET_TX_OK, 0, 32, .rc, false, (.num 0), .any⟩
def R.NET_TXRING : Reg := ⟨0xA0330, []⟩
def F.NET_TXRING_BASE : Fld := ⟨R.NET_TXRING, 0, 22, .rw, false, (.num 0), .any⟩
def F.NET_TXRING_LOG2 : Fld := ⟨R.NET_TXRING, 22, 4, .rw, false, (.num 4), (.nat 4 10)⟩
def R.NET_RXRING : Reg := ⟨0xA0334, []⟩
def F.NET_RXRING_BASE : Fld := ⟨R.NET_RXRING, 0, 22, .rw, false, (.num 0), .any⟩
def F.NET_RXRING_LOG2 : Fld := ⟨R.NET_RXRING, 22, 4, .rw, false, (.num 4), (.nat 4 10)⟩
def R.NET_RING_CTL : Reg := ⟨0xA0338, []⟩
def F.NET_RING_CTL_TX_KICK : Fld := ⟨R.NET_RING_CTL, 0, 1, .wo, false, (.num 0), .any⟩
def F.NET_RING_CTL_RX_EN : Fld := ⟨R.NET_RING_CTL, 1, 1, .rw, false, (.num 0), .any⟩

/-! Block CAN at 0xB0000 (tables governed by R372-R387). -/

def R.CAN_CTL : Reg := ⟨0xB0000, [(4, 0x4000)]⟩
def F.CAN_CTL_INIT : Fld := ⟨R.CAN_CTL, 0, 1, .rw, false, .galley, .any⟩
def F.CAN_CTL_MODE : Fld := ⟨R.CAN_CTL, 1, 2, .rw, false, .galley, .any⟩
def F.CAN_CTL_FD_EN : Fld := ⟨R.CAN_CTL, 3, 1, .rw, false, .galley, .any⟩
def F.CAN_CTL_PXE_EN : Fld := ⟨R.CAN_CTL, 4, 1, .rw, false, .galley, .any⟩
def F.CAN_CTL_WAKE_EN : Fld := ⟨R.CAN_CTL, 5, 1, .rw, false, .galley, .any⟩
def F.CAN_CTL_RECOVER : Fld := ⟨R.CAN_CTL, 6, 1, .wo, false, (.num 0), .any⟩
def R.CAN_NBT : Reg := ⟨0xB0004, [(4, 0x4000)]⟩
def F.CAN_NBT_BRP_M1 : Fld := ⟨R.CAN_NBT, 0, 8, .rw, false, .galley, .any⟩
def F.CAN_NBT_TSEG1_M1 : Fld := ⟨R.CAN_NBT, 8, 8, .rw, false, .galley, (.nat 1 255)⟩
def F.CAN_NBT_TSEG2_M1 : Fld := ⟨R.CAN_NBT, 16, 7, .rw, false, .galley, .any⟩
def F.CAN_NBT_SJW_M1 : Fld := ⟨R.CAN_NBT, 23, 7, .rw, false, .galley, .any⟩
def R.CAN_DBT : Reg := ⟨0xB0008, [(4, 0x4000)]⟩
def F.CAN_DBT_BRP_M1 : Fld := ⟨R.CAN_DBT, 0, 5, .rw, false, .galley, .any⟩
def F.CAN_DBT_TSEG1_M1 : Fld := ⟨R.CAN_DBT, 8, 5, .rw, false, .galley, .any⟩
def F.CAN_DBT_TSEG2_M1 : Fld := ⟨R.CAN_DBT, 16, 4, .rw, false, .galley, .any⟩
def F.CAN_DBT_SJW_M1 : Fld := ⟨R.CAN_DBT, 20, 4, .rw, false, .galley, .any⟩
def F.CAN_DBT_TDC_EN : Fld := ⟨R.CAN_DBT, 24, 1, .rw, false, .galley, .any⟩
def F.CAN_DBT_TDCO : Fld := ⟨R.CAN_DBT, 25, 7, .rw, false, .galley, .any⟩
def R.CAN_STATUS : Reg := ⟨0xB000C, [(4, 0x4000)]⟩
def F.CAN_STATUS_ESTATE : Fld := ⟨R.CAN_STATUS, 0, 2, .ro, false, (.num 0), .any⟩
def F.CAN_STATUS_INTEGRATING : Fld := ⟨R.CAN_STATUS, 2, 1, .ro, false, (.num 1), .any⟩
def F.CAN_STATUS_BUSOFF_SEEN : Fld := ⟨R.CAN_STATUS, 3, 1, .w1c, false, (.num 0), .any⟩
def F.CAN_STATUS_PXE_SEEN : Fld := ⟨R.CAN_STATUS, 4, 1, .w1c, false, (.num 0), .any⟩
def F.CAN_STATUS_MBWR_IGN : Fld := ⟨R.CAN_STATUS, 5, 1, .w1c, false, (.num 0), .any⟩
def F.CAN_STATUS_WAKE_MATCH : Fld := ⟨R.CAN_STATUS, 6, 1, .w1c, false, (.num 0), .any⟩
def F.CAN_STATUS_LEC : Fld := ⟨R.CAN_STATUS, 8, 3, .ro, false, (.num 0), .any⟩
def F.CAN_STATUS_DLEC : Fld := ⟨R.CAN_STATUS, 12, 3, .ro, false, (.num 0), .any⟩
def F.CAN_STATUS_RCNT : Fld := ⟨R.CAN_STATUS, 16, 8, .ro, false, (.num 0), .any⟩
def R.CAN_ERRCNT : Reg := ⟨0xB0010, [(4, 0x4000)]⟩
def F.CAN_ERRCNT_TEC : Fld := ⟨R.CAN_ERRCNT, 0, 9, .ro, false, (.num 0), .any⟩
def F.CAN_ERRCNT_REC : Fld := ⟨R.CAN_ERRCNT, 16, 8, .ro, false, (.num 0), .any⟩
def R.CAN_CNT : Reg := ⟨0xB0014, [(4, 0x4000)]⟩
def F.CAN_CNT_PXE : Fld := ⟨R.CAN_CNT, 0, 16, .rc, false, (.num 0), .any⟩
def F.CAN_CNT_NOMATCH : Fld := ⟨R.CAN_CNT, 16, 16, .rc, false, (.num 0), .any⟩
def R.CAN_TXREQ : Reg := ⟨0xB0020, [(4, 0x4000)]⟩
def F.CAN_TXREQ_REQ : Fld := ⟨R.CAN_TXREQ, 0, 32, .w1s, false, (.num 0), .any⟩
def R.CAN_TXCANCEL : Reg := ⟨0xB0024, [(4, 0x4000)]⟩
def F.CAN_TXCANCEL_CANCEL : Fld := ⟨R.CAN_TXCANCEL, 0, 32, .wo, false, (.num 0), .any⟩
def R.CAN_TXDONE : Reg := ⟨0xB0028, [(4, 0x4000)]⟩
def F.CAN_TXDONE_MB : Fld := ⟨R.CAN_TXDONE, 0, 32, .w1c, false, (.num 0), .any⟩
def R.CAN_TXFAIL : Reg := ⟨0xB002C, [(4, 0x4000)]⟩
def F.CAN_TXFAIL_MB : Fld := ⟨R.CAN_TXFAIL, 0, 32, .w1c, false, (.num 0), .any⟩
def R.CAN_MB_ID : Reg := ⟨0xB0400, [(4, 0x4000), (32, 0x80)]⟩
def F.CAN_MB_ID_ID : Fld := ⟨R.CAN_MB_ID, 0, 29, .rw, false, (.num 0), .any⟩
def F.CAN_MB_ID_IDE : Fld := ⟨R.CAN_MB_ID, 29, 1, .rw, false, (.num 0), .any⟩
def R.CAN_MB_FMT : Reg := ⟨0xB0404, [(4, 0x4000), (32, 0x80)]⟩
def F.CAN_MB_FMT_DLC : Fld := ⟨R.CAN_MB_FMT, 0, 4, .rw, false, (.num 0), .any⟩
def F.CAN_MB_FMT_FDF : Fld := ⟨R.CAN_MB_FMT, 4, 1, .rw, false, (.num 0), .any⟩
def F.CAN_MB_FMT_BRS : Fld := ⟨R.CAN_MB_FMT, 5, 1, .rw, false, (.num 0), .any⟩
def F.CAN_MB_FMT_RTR : Fld := ⟨R.CAN_MB_FMT, 6, 1, .rw, false, (.num 0), .any⟩
def F.CAN_MB_FMT_ONESHOT : Fld := ⟨R.CAN_MB_FMT, 7, 1, .rw, false, (.num 0), .any⟩
def F.CAN_MB_FMT_LAYOUT : Fld := ⟨R.CAN_MB_FMT, 8, 1, .ro, false, .galley, .any⟩
def R.CAN_MB_STAT : Reg := ⟨0xB0408, [(4, 0x4000), (32, 0x80)]⟩
def F.CAN_MB_STAT_STATE : Fld := ⟨R.CAN_MB_STAT, 0, 2, .ro, false, (.num 0), .any⟩
def F.CAN_MB_STAT_CAUSE : Fld := ⟨R.CAN_MB_STAT, 2, 4, .ro, false, (.num 0), .any⟩
def F.CAN_MB_STAT_ATTEMPTS : Fld := ⟨R.CAN_MB_STAT, 8, 8, .ro, false, (.num 0), .any⟩
def R.CAN_MB_STAMP : Reg := ⟨0xB040C, [(4, 0x4000), (32, 0x80)]⟩
def F.CAN_MB_STAMP_T : Fld := ⟨R.CAN_MB_STAMP, 0, 32, .ro, false, (.num 0), .any⟩
def R.CAN_MB_DATA : Reg := ⟨0xB0440, [(4, 0x4000), (32, 0x80), (16, 0x4)]⟩
def F.CAN_MB_DATA_BYTES : Fld := ⟨R.CAN_MB_DATA, 0, 32, .rw, false, (.num 0), .any⟩
def R.CAN_FLT_CFG : Reg := ⟨0xB1400, [(4, 0x4000), (64, 0x10)]⟩
def F.CAN_FLT_CFG_EN : Fld := ⟨R.CAN_FLT_CFG, 0, 1, .rw, false, .galley, .any⟩
def F.CAN_FLT_CFG_IDE : Fld := ⟨R.CAN_FLT_CFG, 1, 1, .rw, false, .galley, .any⟩
def F.CAN_FLT_CFG_Q : Fld := ⟨R.CAN_FLT_CFG, 2, 1, .rw, false, .galley, .any⟩
def F.CAN_FLT_CFG_WAKE : Fld := ⟨R.CAN_FLT_CFG, 3, 1, .rw, false, .galley, .any⟩
def F.CAN_FLT_CFG_FMT : Fld := ⟨R.CAN_FLT_CFG, 4, 2, .rw, false, .galley, (.notUsed 3 3)⟩
def F.CAN_FLT_CFG_RTR_ACC : Fld := ⟨R.CAN_FLT_CFG, 6, 1, .rw, false, .galley, .any⟩
def F.CAN_FLT_CFG_LAYOUT : Fld := ⟨R.CAN_FLT_CFG, 7, 1, .ro, false, .galley, .any⟩
def R.CAN_FLT_MATCH : Reg := ⟨0xB1404, [(4, 0x4000), (64, 0x10)]⟩
def F.CAN_FLT_MATCH_VAL : Fld := ⟨R.CAN_FLT_MATCH, 0, 29, .rw, false, .galley, .any⟩
def R.CAN_FLT_MASK : Reg := ⟨0xB1408, [(4, 0x4000), (64, 0x10)]⟩
def F.CAN_FLT_MASK_VAL : Fld := ⟨R.CAN_FLT_MASK, 0, 29, .rw, false, .galley, .any⟩
def R.CAN_RXQ_CTL : Reg := ⟨0xB1800, [(4, 0x4000), (2, 0x100)]⟩
def F.CAN_RXQ_CTL_POP : Fld := ⟨R.CAN_RXQ_CTL, 0, 1, .wo, false, (.num 0), .any⟩
def F.CAN_RXQ_CTL_FLUSH : Fld := ⟨R.CAN_RXQ_CTL, 1, 1, .wo, false, (.num 0), .any⟩
def R.CAN_RXQ_STATUS : Reg := ⟨0xB1804, [(4, 0x4000), (2, 0x100)]⟩
def F.CAN_RXQ_STATUS_LEVEL : Fld := ⟨R.CAN_RXQ_STATUS, 0, 7, .ro, false, (.num 0), .any⟩
def F.CAN_RXQ_STATUS_VALID : Fld := ⟨R.CAN_RXQ_STATUS, 8, 1, .ro, false, (.num 0), .any⟩
def F.CAN_RXQ_STATUS_OVR : Fld := ⟨R.CAN_RXQ_STATUS, 9, 1, .w1c, false, (.num 0), .any⟩
def F.CAN_RXQ_STATUS_LOST : Fld := ⟨R.CAN_RXQ_STATUS, 16, 16, .rc, false, (.num 0), .any⟩
def R.CAN_H_ID : Reg := ⟨0xB1808, [(4, 0x4000), (2, 0x100)]⟩
def F.CAN_H_ID_ID : Fld := ⟨R.CAN_H_ID, 0, 29, .ro, false, (.num 0), .any⟩
def F.CAN_H_ID_IDE : Fld := ⟨R.CAN_H_ID, 29, 1, .ro, false, (.num 0), .any⟩
def R.CAN_H_INFO : Reg := ⟨0xB180C, [(4, 0x4000), (2, 0x100)]⟩
def F.CAN_H_INFO_DLC : Fld := ⟨R.CAN_H_INFO, 0, 4, .ro, false, (.num 0), .any⟩
def F.CAN_H_INFO_FDF : Fld := ⟨R.CAN_H_INFO, 4, 1, .ro, false, (.num 0), .any⟩
def F.CAN_H_INFO_BRS : Fld := ⟨R.CAN_H_INFO, 5, 1, .ro, false, (.num 0), .any⟩
def F.CAN_H_INFO_ESI : Fld := ⟨R.CAN_H_INFO, 6, 1, .ro, false, (.num 0), .any⟩
def F.CAN_H_INFO_RTR : Fld := ⟨R.CAN_H_INFO, 7, 1, .ro, false, (.num 0), .any⟩
def F.CAN_H_INFO_FILTER : Fld := ⟨R.CAN_H_INFO, 8, 6, .ro, false, (.num 0), .any⟩
def R.CAN_H_STAMP : Reg := ⟨0xB1810, [(4, 0x4000), (2, 0x100)]⟩
def F.CAN_H_STAMP_T : Fld := ⟨R.CAN_H_STAMP, 0, 32, .ro, false, (.num 0), .any⟩
def R.CAN_H_DATA : Reg := ⟨0xB1840, [(4, 0x4000), (2, 0x100), (16, 0x4)]⟩
def F.CAN_H_DATA_BYTES : Fld := ⟨R.CAN_H_DATA, 0, 32, .ro, false, (.num 0), .any⟩

/-! Block IMP at 0xC0000 (tables governed by R349-R362). -/

def R.IMP_DESC_BASE : Reg := ⟨0xC0004, []⟩
def F.IMP_DESC_BASE_INDEX : Fld := ⟨R.IMP_DESC_BASE, 0, 22, .ro, false, .galley, .any⟩
def R.IMP_VAL_BASE : Reg := ⟨0xC0008, []⟩
def F.IMP_VAL_BASE_INDEX : Fld := ⟨R.IMP_VAL_BASE, 0, 22, .ro, false, .galley, .any⟩
def R.IMP_LAY_BASE : Reg := ⟨0xC000C, []⟩
def F.IMP_LAY_BASE_INDEX : Fld := ⟨R.IMP_LAY_BASE, 0, 22, .ro, false, .galley, .any⟩
def R.IMP_LOAD : Reg := ⟨0xC0010, []⟩
def F.IMP_LOAD_CFG : Fld := ⟨R.IMP_LOAD, 0, 16, .ro, false, .galley, .any⟩
def F.IMP_LOAD_MAX : Fld := ⟨R.IMP_LOAD, 16, 16, .rc, false, (.num 0), .any⟩
def R.IMP_STATUS : Reg := ⟨0xC0014, []⟩
def F.IMP_STATUS_OVERRUN : Fld := ⟨R.IMP_STATUS, 0, 1, .w1c, false, (.num 0), .any⟩
def F.IMP_STATUS_LOST_ANY : Fld := ⟨R.IMP_STATUS, 1, 1, .ro, true, (.num 0), .any⟩
def F.IMP_STATUS_AUTH_FAIL : Fld := ⟨R.IMP_STATUS, 2, 1, .w1c, false, (.num 0), .any⟩
def F.IMP_STATUS_DISABLED : Fld := ⟨R.IMP_STATUS, 3, 1, .ro, false, .galley, .any⟩
def R.IMP_LSEL : Reg := ⟨0xC0020, []⟩
def F.IMP_LSEL_LAYOUT : Fld := ⟨R.IMP_LSEL, 0, 9, .rw, false, (.num 0), .any⟩
def R.IMP_LSTAT : Reg := ⟨0xC0024, []⟩
def F.IMP_LSTAT_EN : Fld := ⟨R.IMP_LSTAT, 0, 1, .ro, true, .galley, .any⟩
def F.IMP_LSTAT_LOST : Fld := ⟨R.IMP_LSTAT, 1, 1, .ro, true, (.num 0), .any⟩
def F.IMP_LSTAT_PATH_A_LOST : Fld := ⟨R.IMP_LSTAT, 2, 1, .ro, true, (.num 0), .any⟩
def F.IMP_LSTAT_PATH_B_LOST : Fld := ⟨R.IMP_LSTAT, 3, 1, .ro, true, (.num 0), .any⟩
def F.IMP_LSTAT_OVERRUN : Fld := ⟨R.IMP_LSTAT, 4, 1, .w1c, true, (.num 0), .any⟩
def F.IMP_LSTAT_AUTH_FAIL : Fld := ⟨R.IMP_LSTAT, 5, 1, .w1c, true, (.num 0), .any⟩
def R.IMP_LSEQ : Reg := ⟨0xC0028, []⟩
def F.IMP_LSEQ_SEQ : Fld := ⟨R.IMP_LSEQ, 0, 32, .ro, true, (.num 0), .any⟩
def R.IMP_LCNT : Reg := ⟨0xC002C, []⟩
def F.IMP_LCNT_DUP : Fld := ⟨R.IMP_LCNT, 0, 16, .rc, true, (.num 0), .any⟩
def F.IMP_LCNT_DISCARDED : Fld := ⟨R.IMP_LCNT, 16, 16, .rc, true, (.num 0), .any⟩
def R.IMP_LTIME : Reg := ⟨0xC0030, []⟩
def F.IMP_LTIME_T : Fld := ⟨R.IMP_LTIME, 0, 32, .ro, true, (.num 0), .any⟩

/-! Block PTN at 0xD0000 (tables governed by R363-R368). -/

def R.PTN_STATUS : Reg := ⟨0xD0000, []⟩
def F.PTN_STATUS_USED : Fld := ⟨R.PTN_STATUS, 0, 8, .ro, false, .galley, .any⟩
def F.PTN_STATUS_PINNED : Fld := ⟨R.PTN_STATUS, 8, 8, .ro, false, .galley, .any⟩
def F.PTN_STATUS_REFUSED_SEEN : Fld := ⟨R.PTN_STATUS, 16, 1, .w1c, false, (.num 0), .any⟩
def R.PTN_REFUSED : Reg := ⟨0xD0004, []⟩
def F.PTN_REFUSED_COUNT : Fld := ⟨R.PTN_REFUSED, 0, 16, .rc, false, (.num 0), .any⟩
def R.PTN_OPEN : Reg := ⟨0xD0008, []⟩
def F.PTN_OPEN_ADMIT_EN : Fld := ⟨R.PTN_OPEN, 0, 1, .qs, false, .galley, .any⟩
def R.PTN_KSEL : Reg := ⟨0xD000C, []⟩
def F.PTN_KSEL_TARGET : Fld := ⟨R.PTN_KSEL, 0, 8, .rw, false, (.num 0), (.notUsed 160 255)⟩
def F.PTN_KSEL_SLOT : Fld := ⟨R.PTN_KSEL, 8, 1, .rw, false, (.num 0), .any⟩
def R.PTN_KEY : Reg := ⟨0xD0010, [(4, 0x4)]⟩
def F.PTN_KEY_WORD : Fld := ⟨R.PTN_KEY, 0, 32, .wo, false, (.num 0), .any⟩
def R.PTN_KCTL : Reg := ⟨0xD0020, []⟩
def F.PTN_KCTL_LOAD : Fld := ⟨R.PTN_KCTL, 0, 1, .wo, false, (.num 0), .any⟩
def F.PTN_KCTL_ACTIVATE : Fld := ⟨R.PTN_KCTL, 1, 1, .wo, false, (.num 0), .any⟩
def R.PTN_STATE : Reg := ⟨0xD0100, [(128, 0x40)]⟩
def F.PTN_STATE_TYPE : Fld := ⟨R.PTN_STATE, 0, 3, .ro, false, .galley, .any⟩
def F.PTN_STATE_PINNED : Fld := ⟨R.PTN_STATE, 3, 1, .ro, false, .galley, .any⟩
def F.PTN_STATE_SILENT : Fld := ⟨R.PTN_STATE, 4, 1, .ro, false, (.num 0), .any⟩
def F.PTN_STATE_PORTS : Fld := ⟨R.PTN_STATE, 5, 2, .ro, false, .galley, .any⟩
def F.PTN_STATE_AUTH : Fld := ⟨R.PTN_STATE, 7, 1, .ro, false, .galley, .any⟩
def F.PTN_STATE_TEMPLATE : Fld := ⟨R.PTN_STATE, 8, 5, .ro, false, .galley, .any⟩
def F.PTN_STATE_ACTIVE : Fld := ⟨R.PTN_STATE, 13, 1, .ro, false, (.num 0), .any⟩
def F.PTN_STATE_LOADED : Fld := ⟨R.PTN_STATE, 14, 2, .ro, false, (.num 0), .any⟩
def R.PTN_MAC_L : Reg := ⟨0xD0104, [(128, 0x40)]⟩
def F.PTN_MAC_L_ADDR : Fld := ⟨R.PTN_MAC_L, 0, 32, .ro, false, .galley, .any⟩
def R.PTN_MAC_H : Reg := ⟨0xD0108, [(128, 0x40)]⟩
def F.PTN_MAC_H_ADDR : Fld := ⟨R.PTN_MAC_H, 0, 16, .ro, false, .galley, .any⟩
def R.PTN_IP : Reg := ⟨0xD010C, [(128, 0x40)]⟩
def F.PTN_IP_ADDR : Fld := ⟨R.PTN_IP, 0, 32, .ro, false, .galley, .any⟩
def R.PTN_AGE : Reg := ⟨0xD0110, [(128, 0x40)]⟩
def F.PTN_AGE_MS : Fld := ⟨R.PTN_AGE, 0, 32, .ro, true, (.num 0), .any⟩
def R.PTN_CNT : Reg := ⟨0xD0114, [(128, 0x40)]⟩
def F.PTN_CNT_AUTH_FAIL : Fld := ⟨R.PTN_CNT, 0, 16, .rc, false, (.num 0), .any⟩
def F.PTN_CNT_FRAMES : Fld := ⟨R.PTN_CNT, 16, 16, .rc, false, (.num 0), .any⟩

/-! Block ACQ at 0xE0000 (tables governed by R388-R406). -/

def R.ACQ_ARM_ALL : Reg := ⟨0xE0000, []⟩
def F.ACQ_ARM_ALL_REC : Fld := ⟨R.ACQ_ARM_ALL, 0, 16, .wo, false, (.num 0), .any⟩
def R.ACQ_STOP_ALL : Reg := ⟨0xE0004, []⟩
def F.ACQ_STOP_ALL_REC : Fld := ⟨R.ACQ_STOP_ALL, 0, 16, .wo, false, (.num 0), .any⟩
def R.ACQ_JOBQ : Reg := ⟨0xE0008, []⟩
def F.ACQ_JOBQ_LEVEL : Fld := ⟨R.ACQ_JOBQ, 0, 6, .ro, false, (.num 0), .any⟩
def F.ACQ_JOBQ_BUSY : Fld := ⟨R.ACQ_JOBQ, 6, 1, .ro, false, (.num 0), .any⟩
def R.ACQ_CFG : Reg := ⟨0xE0100, [(16, 0x80)]⟩
def F.ACQ_CFG_CLOCK : Fld := ⟨R.ACQ_CFG, 0, 2, .rw, false, .galley, (.notUsed 3 3)⟩
def F.ACQ_CFG_NSIG_M1 : Fld := ⟨R.ACQ_CFG, 2, 3, .rw, false, .galley, .any⟩
def F.ACQ_CFG_DIV : Fld := ⟨R.ACQ_CFG, 8, 8, .rw, false, .galley, .any⟩
def F.ACQ_CFG_OSRR : Fld := ⟨R.ACQ_CFG, 16, 9, .rw, false, .galley, (.nat 16 256)⟩
def F.ACQ_CFG_GROUP : Fld := ⟨R.ACQ_CFG, 25, 4, .rw, false, .galley, (.notUsed 12 15)⟩
def F.ACQ_CFG_AUTO : Fld := ⟨R.ACQ_CFG, 29, 1, .rw, false, .galley, .any⟩
def F.ACQ_CFG_REQ_FULL_PRE : Fld := ⟨R.ACQ_CFG, 30, 1, .rw, false, .galley, .any⟩
def F.ACQ_CFG_OVWR : Fld := ⟨R.ACQ_CFG, 31, 1, .rw, false, .galley, .any⟩
def R.ACQ_SIG : Reg := ⟨0xE0104, [(16, 0x80), (8, 0x4)]⟩
def F.ACQ_SIG_SEL : Fld := ⟨R.ACQ_SIG, 0, 22, .rw, false, .galley, .any⟩
def F.ACQ_SIG_KIND : Fld := ⟨R.ACQ_SIG, 22, 2, .rw, false, .galley, .any⟩
def R.ACQ_BASE : Reg := ⟨0xE0124, [(16, 0x80)]⟩
def F.ACQ_BASE_ADDR : Fld := ⟨R.ACQ_BASE, 0, 20, .rw, false, .galley, .any⟩
def R.ACQ_FFT_BASE : Reg := ⟨0xE0128, [(16, 0x80)]⟩
def F.ACQ_FFT_BASE_ADDR : Fld := ⟨R.ACQ_FFT_BASE, 0, 20, .rw, false, .galley, .any⟩
def R.ACQ_LEN : Reg := ⟨0xE012C, [(16, 0x80)]⟩
def F.ACQ_LEN_VAL : Fld := ⟨R.ACQ_LEN, 0, 23, .rw, false, .galley, (.nat 16 4194304)⟩
def R.ACQ_PRE : Reg := ⟨0xE0130, [(16, 0x80)]⟩
def F.ACQ_PRE_VAL : Fld := ⟨R.ACQ_PRE, 0, 23, .rw, false, .galley, .any⟩
def R.ACQ_FFT_START : Reg := ⟨0xE0134, [(16, 0x80)]⟩
def F.ACQ_FFT_START_VAL : Fld := ⟨R.ACQ_FFT_START, 0, 23, .rw, false, .galley, .any⟩
def R.ACQ_NREC : Reg := ⟨0xE0138, [(16, 0x80)]⟩
def F.ACQ_NREC_N : Fld := ⟨R.ACQ_NREC, 0, 9, .rw, false, .galley, (.nat 1 256)⟩
def R.ACQ_TMASK : Reg := ⟨0xE013C, [(16, 0x80)]⟩
def F.ACQ_TMASK_TCN : Fld := ⟨R.ACQ_TMASK, 0, 32, .rw, false, .galley, .any⟩
def R.ACQ_MEAS : Reg := ⟨0xE0140, [(16, 0x80)]⟩
def F.ACQ_MEAS_MSIG : Fld := ⟨R.ACQ_MEAS, 0, 3, .rw, false, .galley, .any⟩
def F.ACQ_MEAS_EN : Fld := ⟨R.ACQ_MEAS, 3, 1, .rw, false, .galley, .any⟩
def F.ACQ_MEAS_FFT : Fld := ⟨R.ACQ_MEAS, 4, 2, .rw, false, .galley, (.notUsed 3 3)⟩
def F.ACQ_MEAS_WIN : Fld := ⟨R.ACQ_MEAS, 6, 1, .rw, false, .galley, .any⟩
def F.ACQ_MEAS_FSIG : Fld := ⟨R.ACQ_MEAS, 7, 3, .rw, false, .galley, .any⟩
def F.ACQ_MEAS_HYS : Fld := ⟨R.ACQ_MEAS, 10, 6, .rw, false, .galley, .any⟩
def R.ACQ_CTL : Reg := ⟨0xE0144, [(16, 0x80)]⟩
def F.ACQ_CTL_ARM : Fld := ⟨R.ACQ_CTL, 0, 1, .wo, false, (.num 0), .any⟩
def F.ACQ_CTL_STOP : Fld := ⟨R.ACQ_CTL, 1, 1, .wo, false, (.num 0), .any⟩
def F.ACQ_CTL_FORCE : Fld := ⟨R.ACQ_CTL, 2, 1, .wo, false, (.num 0), .any⟩
def R.ACQ_STATUS : Reg := ⟨0xE0148, [(16, 0x80)]⟩
def F.ACQ_STATUS_STATE : Fld := ⟨R.ACQ_STATUS, 0, 3, .ro, false, (.num 0), .any⟩
def F.ACQ_STATUS_LEN_PENDING : Fld := ⟨R.ACQ_STATUS, 3, 1, .ro, false, (.num 0), .any⟩
def F.ACQ_STATUS_ARM_REFUSED : Fld := ⟨R.ACQ_STATUS, 4, 1, .w1c, false, (.num 0), .any⟩
def R.ACQ_SLOT : Reg := ⟨0xE014C, [(16, 0x80)]⟩
def F.ACQ_SLOT_WR : Fld := ⟨R.ACQ_SLOT, 0, 8, .ro, false, (.num 0), .any⟩
def F.ACQ_SLOT_RD : Fld := ⟨R.ACQ_SLOT, 8, 8, .rw, false, (.num 0), .any⟩
def F.ACQ_SLOT_READY : Fld := ⟨R.ACQ_SLOT, 16, 9, .ro, false, (.num 0), .any⟩
def R.ACQ_MISSED : Reg := ⟨0xE0150, [(16, 0x80)]⟩
def F.ACQ_MISSED_COUNT : Fld := ⟨R.ACQ_MISSED, 0, 16, .rc, false, (.num 0), .any⟩
def R.ACQ_SEQ : Reg := ⟨0xE0154, [(16, 0x80)]⟩
def F.ACQ_SEQ_SEQ : Fld := ⟨R.ACQ_SEQ, 0, 32, .ro, false, (.num 0), .any⟩
def R.ACQ_TCN_CFG : Reg := ⟨0xE1000, [(32, 0x20)]⟩
def F.ACQ_TCN_CFG_KIND : Fld := ⟨R.ACQ_TCN_CFG, 0, 4, .rw, false, .galley, (.notUsed 6 15)⟩
def F.ACQ_TCN_CFG_MODE : Fld := ⟨R.ACQ_TCN_CFG, 4, 2, .rw, false, .galley, .any⟩
def F.ACQ_TCN_CFG_REC : Fld := ⟨R.ACQ_TCN_CFG, 8, 4, .rw, false, .galley, .any⟩
def F.ACQ_TCN_CFG_SIG : Fld := ⟨R.ACQ_TCN_CFG, 12, 3, .rw, false, .galley, .any⟩
def F.ACQ_TCN_CFG_IDX : Fld := ⟨R.ACQ_TCN_CFG, 16, 6, .rw, false, .galley, .any⟩
def R.ACQ_TCN_TH : Reg := ⟨0xE1004, [(32, 0x20)]⟩
def F.ACQ_TCN_TH_TH : Fld := ⟨R.ACQ_TCN_TH, 0, 32, .rw, false, .galley, .any⟩
def R.ACQ_TCN_HYS : Reg := ⟨0xE1008, [(32, 0x20)]⟩
def F.ACQ_TCN_HYS_HYS : Fld := ⟨R.ACQ_TCN_HYS, 0, 31, .rw, false, .galley, .any⟩
def R.ACQ_TCN_EVSEL : Reg := ⟨0xE100C, [(32, 0x20)]⟩
def F.ACQ_TCN_EVSEL_EV : Fld := ⟨R.ACQ_TCN_EVSEL, 0, 24, .rw, false, .galley, .any⟩
def R.ACQ_TCN_HITS : Reg := ⟨0xE1010, [(32, 0x20)]⟩
def F.ACQ_TCN_HITS_COUNT : Fld := ⟨R.ACQ_TCN_HITS, 0, 16, .rc, false, (.num 0), .any⟩
def R.ACQ_HIST_CFG : Reg := ⟨0xE2000, [(4, 0x20)]⟩
def F.ACQ_HIST_CFG_EN : Fld := ⟨R.ACQ_HIST_CFG, 0, 1, .rw, false, .galley, .any⟩
def F.ACQ_HIST_CFG_SRC : Fld := ⟨R.ACQ_HIST_CFG, 1, 1, .rw, false, .galley, .any⟩
def F.ACQ_HIST_CFG_REC : Fld := ⟨R.ACQ_HIST_CFG, 2, 4, .rw, false, .galley, .any⟩
def F.ACQ_HIST_CFG_SIG : Fld := ⟨R.ACQ_HIST_CFG, 6, 3, .rw, false, .galley, .any⟩
def F.ACQ_HIST_CFG_MID : Fld := ⟨R.ACQ_HIST_CFG, 9, 5, .rw, false, .galley, (.nat 0 13)⟩
def F.ACQ_HIST_CFG_SHIFT : Fld := ⟨R.ACQ_HIST_CFG, 14, 5, .rw, false, .galley, .any⟩
def R.ACQ_HIST_LO : Reg := ⟨0xE2004, [(4, 0x20)]⟩
def F.ACQ_HIST_LO_LO : Fld := ⟨R.ACQ_HIST_LO, 0, 32, .rw, false, .galley, .any⟩
def R.ACQ_HIST_BASE : Reg := ⟨0xE2008, [(4, 0x20)]⟩
def F.ACQ_HIST_BASE_ADDR : Fld := ⟨R.ACQ_HIST_BASE, 0, 20, .rw, false, .galley, .any⟩
def R.ACQ_HIST_CTL : Reg := ⟨0xE200C, [(4, 0x20)]⟩
def F.ACQ_HIST_CTL_CLEAR : Fld := ⟨R.ACQ_HIST_CTL, 0, 1, .wo, false, (.num 0), .any⟩
def R.ACQ_HIST_UNDER : Reg := ⟨0xE2010, [(4, 0x20)]⟩
def F.ACQ_HIST_UNDER_COUNT : Fld := ⟨R.ACQ_HIST_UNDER, 0, 32, .ro, false, (.num 0), .any⟩
def R.ACQ_HIST_OVER : Reg := ⟨0xE2014, [(4, 0x20)]⟩
def F.ACQ_HIST_OVER_COUNT : Fld := ⟨R.ACQ_HIST_OVER, 0, 32, .ro, false, (.num 0), .any⟩
def R.ACQ_MAP_CFG : Reg := ⟨0xE2100, [(4, 0x20)]⟩
def F.ACQ_MAP_CFG_EN : Fld := ⟨R.ACQ_MAP_CFG, 0, 1, .rw, false, .galley, .any⟩
def F.ACQ_MAP_CFG_REC : Fld := ⟨R.ACQ_MAP_CFG, 2, 4, .rw, false, .galley, .any⟩
def F.ACQ_MAP_CFG_SIG : Fld := ⟨R.ACQ_MAP_CFG, 6, 3, .rw, false, .galley, .any⟩
def F.ACQ_MAP_CFG_YSHIFT : Fld := ⟨R.ACQ_MAP_CFG, 14, 5, .rw, false, .galley, .any⟩
def F.ACQ_MAP_CFG_XSHIFT : Fld := ⟨R.ACQ_MAP_CFG, 19, 4, .rw, false, .galley, .any⟩
def F.ACQ_MAP_CFG_XOFS : Fld := ⟨R.ACQ_MAP_CFG, 23, 8, .rw, false, .galley, .any⟩
def R.ACQ_MAP_LO : Reg := ⟨0xE2104, [(4, 0x20)]⟩
def F.ACQ_MAP_LO_LO : Fld := ⟨R.ACQ_MAP_LO, 0, 32, .rw, false, .galley, .any⟩
def R.ACQ_MAP_BASE : Reg := ⟨0xE2108, [(4, 0x20)]⟩
def F.ACQ_MAP_BASE_ADDR : Fld := ⟨R.ACQ_MAP_BASE, 0, 20, .rw, false, .galley, .any⟩
def R.ACQ_MAP_CTL : Reg := ⟨0xE210C, [(4, 0x20)]⟩
def F.ACQ_MAP_CTL_CLEAR : Fld := ⟨R.ACQ_MAP_CTL, 0, 1, .wo, false, (.num 0), .any⟩
def R.ACQ_MAP_RECORDS : Reg := ⟨0xE2110, [(4, 0x20)]⟩
def F.ACQ_MAP_RECORDS_COUNT : Fld := ⟨R.ACQ_MAP_RECORDS, 0, 32, .ro, false, (.num 0), .any⟩

/-! Block PAR at 0xF0000 (tables governed by R407-R432). -/

def R.PAR_CFG : Reg := ⟨0xF0000, []⟩
def F.PAR_CFG_MODE : Fld := ⟨R.PAR_CFG, 0, 2, .ro, false, .galley, (.notUsed 3 3)⟩
def F.PAR_CFG_PREFERRED : Fld := ⟨R.PAR_CFG, 2, 1, .ro, false, .galley, .any⟩
def F.PAR_CFG_SBY_CNT : Fld := ⟨R.PAR_CFG, 3, 1, .ro, false, .galley, .any⟩
def F.PAR_CFG_PEN_EN : Fld := ⟨R.PAR_CFG, 4, 1, .ro, false, .galley, .any⟩
def F.PAR_CFG_PEN_POL : Fld := ⟨R.PAR_CFG, 5, 1, .ro, false, .galley, .any⟩
def F.PAR_CFG_HB_MODE : Fld := ⟨R.PAR_CFG, 6, 1, .qs, false, .galley, .any⟩
def R.PAR_STATUS : Reg := ⟨0xF0004, []⟩
def F.PAR_STATUS_OWNER : Fld := ⟨R.PAR_STATUS, 0, 1, .ro, false, (.num 0), .any⟩
def F.PAR_STATUS_OWN_CONFLICT : Fld := ⟨R.PAR_STATUS, 1, 1, .ro, false, (.num 0), .any⟩
def F.PAR_STATUS_PEN_BLOCK : Fld := ⟨R.PAR_STATUS, 2, 1, .ro, false, (.num 0), .any⟩
def F.PAR_STATUS_HB_LOST : Fld := ⟨R.PAR_STATUS, 3, 1, .w1c, false, (.num 0), .any⟩
def F.PAR_STATUS_MIRROR_LOST : Fld := ⟨R.PAR_STATUS, 4, 1, .ro, false, (.num 0), .any⟩
def F.PAR_STATUS_PEER_MIRROR_LOST : Fld := ⟨R.PAR_STATUS, 5, 1, .ro, false, (.num 0), .any⟩
def F.PAR_STATUS_STANDBY_LOST : Fld := ⟨R.PAR_STATUS, 6, 1, .ro, false, (.num 0), .any⟩
def F.PAR_STATUS_GALLEY_MISMATCH : Fld := ⟨R.PAR_STATUS, 7, 1, .w1c, false, (.num 0), .any⟩
def F.PAR_STATUS_NO_ESSENCE : Fld := ⟨R.PAR_STATUS, 8, 1, .w1c, false, (.num 0), .any⟩
def F.PAR_STATUS_LATCH_MISS : Fld := ⟨R.PAR_STATUS, 9, 1, .w1c, false, (.num 0), .any⟩
def F.PAR_STATUS_DIP_SEEN : Fld := ⟨R.PAR_STATUS, 10, 1, .w1c, false, (.num 0), .any⟩
def F.PAR_STATUS_POWER_FAIL : Fld := ⟨R.PAR_STATUS, 11, 1, .ro, false, (.num 0), .any⟩
def F.PAR_STATUS_FLUSH_VALID : Fld := ⟨R.PAR_STATUS, 12, 1, .ro, false, (.num 0), .any⟩
def F.PAR_STATUS_ACTIVE : Fld := ⟨R.PAR_STATUS, 13, 1, .ro, false, (.num 0), .any⟩
def F.PAR_STATUS_SEL_FEED : Fld := ⟨R.PAR_STATUS, 14, 2, .ro, false, (.num 0), .any⟩
def F.PAR_STATUS_DIP_REPEAT : Fld := ⟨R.PAR_STATUS, 16, 16, .rc, false, (.num 0), .any⟩
def R.PAR_CTL : Reg := ⟨0xF0008, []⟩
def F.PAR_CTL_HANDBACK_HOLD : Fld := ⟨R.PAR_CTL, 0, 1, .rw, false, (.num 0), .any⟩
def F.PAR_CTL_RELEASE : Fld := ⟨R.PAR_CTL, 1, 1, .wo, false, (.num 0), .any⟩
def R.PAR_FEED_CFG : Reg := ⟨0xF0010, [(2, 0x8)]⟩
def F.PAR_FEED_CFG_UV_WARN : Fld := ⟨R.PAR_FEED_CFG, 0, 9, .qs, false, .galley, (.nat 80 400)⟩
def F.PAR_FEED_CFG_BATT_SRC : Fld := ⟨R.PAR_FEED_CFG, 9, 2, .qs, false, .galley, .any⟩
def F.PAR_FEED_CFG_BATT_IDX : Fld := ⟨R.PAR_FEED_CFG, 11, 18, .qs, false, .galley, .any⟩
def R.PAR_FEED_STATUS : Reg := ⟨0xF0014, [(2, 0x8)]⟩
def F.PAR_FEED_STATUS_VOLT : Fld := ⟨R.PAR_FEED_STATUS, 0, 14, .ro, false, (.num 0), .any⟩
def F.PAR_FEED_STATUS_CLASS : Fld := ⟨R.PAR_FEED_STATUS, 14, 2, .ro, false, (.num 0), .any⟩
def F.PAR_FEED_STATUS_BATT : Fld := ⟨R.PAR_FEED_STATUS, 16, 1, .ro, false, (.num 0), .any⟩
def R.PAR_BATT_V : Reg := ⟨0xF0020, []⟩
def F.PAR_BATT_V_V0 : Fld := ⟨R.PAR_BATT_V, 0, 9, .qs, false, .galley, .any⟩
def F.PAR_BATT_V_V1 : Fld := ⟨R.PAR_BATT_V, 16, 9, .qs, false, .galley, .any⟩
def R.PAR_ESS_CFG : Reg := ⟨0xF0030, []⟩
def F.PAR_ESS_CFG_T_ESS : Fld := ⟨R.PAR_ESS_CFG, 0, 14, .qs, false, (.galleyDflt 20), (.nat 5 10000)⟩
def R.PAR_ESS_STATUS : Reg := ⟨0xF0034, []⟩
def F.PAR_ESS_STATUS_SIZE : Fld := ⟨R.PAR_ESS_STATUS, 0, 23, .ro, false, .galley, .any⟩
def F.PAR_ESS_STATUS_SLOT : Fld := ⟨R.PAR_ESS_STATUS, 23, 1, .ro, false, (.num 0), .any⟩
def R.PAR_ESS_GEN : Reg := ⟨0xF0038, []⟩
def F.PAR_ESS_GEN_GEN : Fld := ⟨R.PAR_ESS_GEN, 0, 32, .ro, false, (.num 0), .any⟩
def R.PAR_ESS_AGE : Reg := ⟨0xF003C, []⟩
def F.PAR_ESS_AGE_AGE : Fld := ⟨R.PAR_ESS_AGE, 0, 32, .ro, true, (.num 0), .any⟩
def R.PAR_ESS_CNT : Reg := ⟨0xF0040, []⟩
def F.PAR_ESS_CNT_SKIP : Fld := ⟨R.PAR_ESS_CNT, 0, 16, .rc, false, (.num 0), .any⟩
def F.PAR_ESS_CNT_BAD : Fld := ⟨R.PAR_ESS_CNT, 16, 8, .rc, false, (.num 0), .any⟩
def F.PAR_ESS_CNT_ABANDON : Fld := ⟨R.PAR_ESS_CNT, 24, 8, .rc, false, (.num 0), .any⟩
def R.PAR_FLUSH_CNT : Reg := ⟨0xF0044, []⟩
def F.PAR_FLUSH_CNT_FLUSH_SKIP : Fld := ⟨R.PAR_FLUSH_CNT, 0, 16, .rc, false, (.num 0), .any⟩
def R.PAR_FLUSH_BASE : Reg := ⟨0xF0048, []⟩
def F.PAR_FLUSH_BASE_INDEX : Fld := ⟨R.PAR_FLUSH_BASE, 0, 22, .ro, false, .galley, .any⟩
def R.PAR_HB_WIN : Reg := ⟨0xF004C, []⟩
def F.PAR_HB_WIN_START : Fld := ⟨R.PAR_HB_WIN, 0, 11, .qs, false, .galley, (.nat 0 1439)⟩
def F.PAR_HB_WIN_LEN : Fld := ⟨R.PAR_HB_WIN, 16, 11, .qs, false, .galley, (.nat 1 1440)⟩
def R.PAR_MAP0 : Reg := ⟨0xF0080, [(32, 0x8)]⟩
def F.PAR_MAP0_KIND : Fld := ⟨R.PAR_MAP0, 0, 3, .ro, false, .galley, (.notUsed 5 7)⟩
def F.PAR_MAP0_PLATEN : Fld := ⟨R.PAR_MAP0, 3, 3, .ro, false, .galley, (.nat 0 3)⟩
def F.PAR_MAP0_FLUSH : Fld := ⟨R.PAR_MAP0, 6, 1, .ro, false, .galley, .any⟩
def F.PAR_MAP0_START : Fld := ⟨R.PAR_MAP0, 10, 22, .ro, false, .galley, .any⟩
def R.PAR_MAP1 : Reg := ⟨0xF0084, [(32, 0x8)]⟩
def F.PAR_MAP1_COUNT : Fld := ⟨R.PAR_MAP1, 0, 22, .ro, false, .galley, .any⟩
def R.PAR_RSC : Reg := ⟨0xF0200, []⟩
def F.PAR_RSC_GO : Fld := ⟨R.PAR_RSC, 0, 1, .wo, false, (.num 0), .any⟩
def F.PAR_RSC_AUTO_RUN : Fld := ⟨R.PAR_RSC, 1, 1, .qs, false, .galley, .any⟩
def F.PAR_RSC_MAXPAR : Fld := ⟨R.PAR_RSC, 2, 4, .qs, false, .galley, (.nat 1 15)⟩
def F.PAR_RSC_BATT_T : Fld := ⟨R.PAR_RSC, 8, 8, .qs, false, .galley, (.nat 1 255)⟩
def F.PAR_RSC_ZCOUNT : Fld := ⟨R.PAR_RSC, 16, 16, .qs, false, .galley, (.nat 0 1024)⟩
def R.PAR_RSC_ZBASE : Reg := ⟨0xF0204, []⟩
def F.PAR_RSC_ZBASE_INDEX : Fld := ⟨R.PAR_RSC_ZBASE, 0, 22, .qs, false, .galley, .any⟩
def R.PAR_RSC_BATT : Reg := ⟨0xF0208, []⟩
def F.PAR_RSC_BATT_U_AIN : Fld := ⟨R.PAR_RSC_BATT, 0, 4, .qs, false, .galley, .any⟩
def F.PAR_RSC_BATT_I_AIN : Fld := ⟨R.PAR_RSC_BATT, 4, 4, .qs, false, .galley, .any⟩
def F.PAR_RSC_BATT_I_MAX : Fld := ⟨R.PAR_RSC_BATT, 8, 16, .qs, false, .galley, .any⟩
def R.PAR_RSC_SCALE : Reg := ⟨0xF020C, []⟩
def F.PAR_RSC_SCALE_U_SC : Fld := ⟨R.PAR_RSC_SCALE, 0, 16, .qs, false, .galley, .any⟩
def F.PAR_RSC_SCALE_I_SC : Fld := ⟨R.PAR_RSC_SCALE, 16, 16, .qs, false, .galley, .any⟩
def R.PAR_RSC_VOLT : Reg := ⟨0xF0210, []⟩
def F.PAR_RSC_VOLT_U_STOP : Fld := ⟨R.PAR_RSC_VOLT, 0, 16, .qs, false, .galley, .any⟩
def R.PAR_RSCM_CFG : Reg := ⟨0xF0400, [(32, 0x20)]⟩
def F.PAR_RSCM_CFG_EN : Fld := ⟨R.PAR_RSCM_CFG, 0, 1, .qs, false, .galley, .any⟩
def F.PAR_RSCM_CFG_AXIS : Fld := ⟨R.PAR_RSCM_CFG, 1, 3, .qs, false, .galley, .any⟩
def F.PAR_RSCM_CFG_FB_DIR : Fld := ⟨R.PAR_RSCM_CFG, 4, 1, .qs, false, .galley, .any⟩
def R.PAR_RSCM_I_FRIC : Reg := ⟨0xF0404, [(32, 0x20)]⟩
def F.PAR_RSCM_I_FRIC_VAL : Fld := ⟨R.PAR_RSCM_I_FRIC, 0, 24, .qs, false, .galley, .any⟩
def R.PAR_RSCM_I_MIN : Reg := ⟨0xF0408, [(32, 0x20)]⟩
def F.PAR_RSCM_I_MIN_VAL : Fld := ⟨R.PAR_RSCM_I_MIN, 0, 24, .qs, false, .galley, .any⟩
def R.PAR_RSCM_BAL : Reg := ⟨0xF040C, [(32, 0x20)]⟩
def F.PAR_RSCM_BAL_VAL : Fld := ⟨R.PAR_RSCM_BAL, 0, 24, .qs, false, .galley, .any⟩
def R.PAR_RSCM_KPW : Reg := ⟨0xF0410, [(32, 0x20)]⟩
def F.PAR_RSCM_KPW_VAL : Fld := ⟨R.PAR_RSCM_KPW, 0, 32, .qs, false, .galley, .any⟩
def R.PAR_RSCM_VRES : Reg := ⟨0xF0414, [(32, 0x20)]⟩
def F.PAR_RSCM_VRES_VAL : Fld := ⟨R.PAR_RSCM_VRES, 0, 32, .qs, false, .galley, .any⟩
def R.PAR_RSCM_VMIN : Reg := ⟨0xF0418, [(32, 0x20)]⟩
def F.PAR_RSCM_VMIN_VAL : Fld := ⟨R.PAR_RSCM_VMIN, 0, 32, .qs, false, .galley, .any⟩
def R.PAR_RSCM_STATE : Reg := ⟨0xF041C, [(32, 0x20)]⟩
def F.PAR_RSCM_STATE_STATE : Fld := ⟨R.PAR_RSCM_STATE, 0, 3, .ro, false, (.num 0), .any⟩
def F.PAR_RSCM_STATE_DIR : Fld := ⟨R.PAR_RSCM_STATE, 3, 1, .ro, false, (.num 0), .any⟩
def F.PAR_RSCM_STATE_NO_HOLD : Fld := ⟨R.PAR_RSCM_STATE, 4, 1, .ro, false, (.num 0), .any⟩

/-! Block PWR at 0x100000 (tables governed by R433-R455, R487). -/

def R.PWR_CLK_STATUS : Reg := ⟨0x100000, []⟩
def F.PWR_CLK_STATUS_PLLS_LOCK : Fld := ⟨R.PWR_CLK_STATUS, 0, 1, .ro, true, (.num 0), .any⟩
def F.PWR_CLK_STATUS_PLLN_LOCK : Fld := ⟨R.PWR_CLK_STATUS, 1, 1, .ro, true, (.num 0), .any⟩
def F.PWR_CLK_STATUS_XIN_LOST : Fld := ⟨R.PWR_CLK_STATUS, 2, 1, .ro, true, (.num 0), .any⟩
def F.PWR_CLK_STATUS_X32_LOST : Fld := ⟨R.PWR_CLK_STATUS, 3, 1, .ro, true, (.num 0), .any⟩
def F.PWR_CLK_STATUS_AON_SRC : Fld := ⟨R.PWR_CLK_STATUS, 4, 1, .ro, true, (.num 0), .any⟩
def R.PWR_CLK_CFG : Reg := ⟨0x100004, []⟩
def F.PWR_CLK_CFG_XIN_MODE : Fld := ⟨R.PWR_CLK_CFG, 0, 1, .ro, false, .galley, .any⟩
def F.PWR_CLK_CFG_X32_MODE : Fld := ⟨R.PWR_CLK_CFG, 1, 1, .ro, false, .galley, .any⟩
def F.PWR_CLK_CFG_XIN_GAIN : Fld := ⟨R.PWR_CLK_CFG, 2, 2, .ro, false, .galley, .any⟩
def R.PWR_PD_STATUS : Reg := ⟨0x100008, []⟩
def F.PWR_PD_STATUS_ON : Fld := ⟨R.PWR_PD_STATUS, 0, 14, .ro, true, (.num 12291), .any⟩
def F.PWR_PD_STATUS_SYS_RET : Fld := ⟨R.PWR_PD_STATUS, 16, 1, .ro, true, (.num 0), .any⟩
def R.PWR_SAVE : Reg := ⟨0x100010, []⟩
def F.PWR_SAVE_INDEX : Fld := ⟨R.PWR_SAVE, 0, 22, .ro, false, .galley, .any⟩
def F.PWR_SAVE_DOZE_OK : Fld := ⟨R.PWR_SAVE, 22, 1, .ro, false, .galley, .any⟩
def R.PWR_DOZE_CFG : Reg := ⟨0x100014, []⟩
def F.PWR_DOZE_CFG_IDLE_S : Fld := ⟨R.PWR_DOZE_CFG, 0, 16, .qs, false, .galley, .any⟩
def F.PWR_DOZE_CFG_WAKE_RUN : Fld := ⟨R.PWR_DOZE_CFG, 16, 1, .qs, false, .galley, .any⟩
def R.PWR_WAKE_AT_L : Reg := ⟨0x100018, []⟩
def F.PWR_WAKE_AT_L_VAL : Fld := ⟨R.PWR_WAKE_AT_L, 0, 32, .rw, false, (.num 0), .any⟩
def R.PWR_WAKE_AT_H : Reg := ⟨0x10001C, []⟩
def F.PWR_WAKE_AT_H_VAL : Fld := ⟨R.PWR_WAKE_AT_H, 0, 32, .rw, false, (.num 0), .any⟩
def R.PWR_WAKE_SRC : Reg := ⟨0x100020, []⟩
def F.PWR_WAKE_SRC_CAN : Fld := ⟨R.PWR_WAKE_SRC, 0, 1, .w1c, false, (.num 0), .any⟩
def F.PWR_WAKE_SRC_ETH : Fld := ⟨R.PWR_WAKE_SRC, 1, 1, .w1c, false, (.num 0), .any⟩
def F.PWR_WAKE_SRC_FIO : Fld := ⟨R.PWR_WAKE_SRC, 2, 1, .w1c, false, (.num 0), .any⟩
def F.PWR_WAKE_SRC_TIMER : Fld := ⟨R.PWR_WAKE_SRC, 3, 1, .w1c, false, (.num 0), .any⟩
def F.PWR_WAKE_SRC_HOST : Fld := ⟨R.PWR_WAKE_SRC, 4, 1, .w1c, false, (.num 0), .any⟩
def F.PWR_WAKE_SRC_RESCUE : Fld := ⟨R.PWR_WAKE_SRC, 5, 1, .w1c, false, (.num 0), .any⟩
def F.PWR_WAKE_SRC_ENTRIES : Fld := ⟨R.PWR_WAKE_SRC, 16, 16, .rc, false, (.num 0), .any⟩
def R.PWR_DOZE_TIME_L : Reg := ⟨0x100028, []⟩
def F.PWR_DOZE_TIME_L_VAL : Fld := ⟨R.PWR_DOZE_TIME_L, 0, 32, .ro, false, (.num 0), .any⟩
def R.PWR_DOZE_TIME_H : Reg := ⟨0x10002C, []⟩
def F.PWR_DOZE_TIME_H_VAL : Fld := ⟨R.PWR_DOZE_TIME_H, 0, 32, .ro, false, (.num 0), .any⟩
def R.PWR_PD_PLAN : Reg := ⟨0x100044, [(8, 0x4)]⟩
def F.PWR_PD_PLAN_MASK : Fld := ⟨R.PWR_PD_PLAN, 0, 14, .ro, false, .galley, .any⟩
def R.PWR_THERM : Reg := ⟨0x100080, []⟩
def F.PWR_THERM_TJ : Fld := ⟨R.PWR_THERM, 0, 9, .ro, false, (.num 0), .any⟩
def F.PWR_THERM_WARN : Fld := ⟨R.PWR_THERM, 9, 1, .ro, false, (.num 0), .any⟩
def F.PWR_THERM_HOT : Fld := ⟨R.PWR_THERM, 10, 1, .ro, false, (.num 0), .any⟩
def F.PWR_THERM_WARN_SEEN : Fld := ⟨R.PWR_THERM, 11, 1, .w1c, false, (.num 0), .any⟩
def F.PWR_THERM_HOT_SEEN : Fld := ⟨R.PWR_THERM, 12, 1, .w1c, false, (.num 0), .any⟩
def F.PWR_THERM_TJ_MAX : Fld := ⟨R.PWR_THERM, 16, 8, .rc, false, (.num 0), .any⟩

/-! Block TST at 0x110000 (tables governed by R457-R474). -/

def R.TST_MEM_STATUS : Reg := ⟨0x110000, [(2, 0x20)]⟩
def F.TST_MEM_STATUS_UE : Fld := ⟨R.TST_MEM_STATUS, 0, 1, .w1c, false, (.num 0), .any⟩
def F.TST_MEM_STATUS_PASS_DONE : Fld := ⟨R.TST_MEM_STATUS, 1, 1, .w1c, false, (.num 0), .any⟩
def F.TST_MEM_STATUS_PASSES : Fld := ⟨R.TST_MEM_STATUS, 16, 16, .ro, false, (.num 0), .any⟩
def R.TST_MEM_CE : Reg := ⟨0x110004, [(2, 0x20)]⟩
def F.TST_MEM_CE_COUNT : Fld := ⟨R.TST_MEM_CE, 0, 32, .rc, false, (.num 0), .any⟩
def R.TST_MEM_UE_CNT : Reg := ⟨0x110008, [(2, 0x20)]⟩
def F.TST_MEM_UE_CNT_COUNT : Fld := ⟨R.TST_MEM_UE_CNT, 0, 16, .rc, false, (.num 0), .any⟩
def R.TST_MEM_UE_ADDR : Reg := ⟨0x11000C, [(2, 0x20)]⟩
def F.TST_MEM_UE_ADDR_ADDR : Fld := ⟨R.TST_MEM_UE_ADDR, 0, 32, .ro, false, (.num 0), .any⟩
def R.TST_MEM_SCRUB_POS : Reg := ⟨0x110010, [(2, 0x20)]⟩
def F.TST_MEM_SCRUB_POS_ADDR : Fld := ⟨R.TST_MEM_SCRUB_POS, 0, 32, .ro, true, (.num 0), .any⟩
def R.TST_LOCAL : Reg := ⟨0x110040, []⟩
def F.TST_LOCAL_CE : Fld := ⟨R.TST_LOCAL, 0, 16, .rc, false, (.num 0), .any⟩
def F.TST_LOCAL_UE : Fld := ⟨R.TST_LOCAL, 16, 1, .w1c, false, (.num 0), .any⟩
def R.TST_JTAG : Reg := ⟨0x110080, []⟩
def F.TST_JTAG_BLOCKED : Fld := ⟨R.TST_JTAG, 0, 1, .ro, true, (.num 0), .any⟩
def F.TST_JTAG_REFUSED : Fld := ⟨R.TST_JTAG, 1, 1, .w1c, false, (.num 0), .any⟩
def F.TST_JTAG_TEST_ACTIVE : Fld := ⟨R.TST_JTAG, 2, 1, .ro, true, (.num 0), .any⟩
def F.TST_JTAG_IR : Fld := ⟨R.TST_JTAG, 8, 8, .ro, true, (.num 1), .any⟩

end Sys2Proof.Machine
end

