-- ==== Sys2Proof/Machine/RegTable.lean ====
section
/-! DEFINITION. Sys2Proof/Machine/RegTable.lean: the fields of every block as lists, and the look-up of the
fields at a host address (R2, R60). -/

namespace Sys2Proof.Machine

def fldsCOL0 : List Fld :=
  [F.COL_PART_PART, F.COL_REV_MINOR, F.COL_REV_MAJOR, F.COL_GALLEY_ID_ID,
   F.COL_CHECK_L_VAL, F.COL_CHECK_H_VAL, F.COL_SIG_CALC_VAL, F.COL_SIG_CONF_VAL,
   F.COL_STATUS_LOADED, F.COL_STATUS_SIGNED, F.COL_STATUS_CONFIRMED]
/-- Every field of block COL. -/
def fldsCOL : List Fld := fldsCOL0

def fldsSYS0 : List Fld :=
  [F.SYS_STATE_STATE, F.SYS_STATE_PREV, F.SYS_STATE_REQ_REFUSED, F.SYS_CTL_REQ,
   F.SYS_CTL_STOP_ACK, F.SYS_IMP_CFG_PERIOD, F.SYS_IMP_CFG_NV, F.SYS_IMP_CFG_NP,
   F.SYS_IMP_PHASE_OFFSET, F.SYS_IMP_COUNT_COUNT, F.SYS_IMP_STATUS_REALIGN, F.SYS_IMP_STATUS_STEP_SEEN,
   F.SYS_IMP_STATUS_DOZE_ABORT, F.SYS_IRQ_PEND_HW, F.SYS_IRQ_PEND_SW, F.SYS_IRQ_EN_EN,
   F.SYS_HOST_DROP_COUNT, F.SYS_HOST_DROP_LAST_IF, F.SYS_HOST_DROP_ADDR_ADDR, F.SYS_IRQ_SWSET_SET,
   F.SYS_CAM_BASE_INDEX, F.SYS_MM_SEL_M, F.SYS_MM_FORCE_MACHINE, F.SYS_MM_FORCE_STATE]
def fldsSYS1 : List Fld :=
  [F.SYS_MM_FORCE_GO, F.SYS_MM_STATE_STATE, F.SYS_MM_STATE_LAST_EV, F.SYS_MM_STATE_STEPPED,
   F.SYS_MM_STATE_DISCARDED, F.SYS_TRK_CFG_NSEG, F.SYS_TRK_CFG_CLOSED, F.SYS_TRK_CFG_EN,
   F.SYS_TRK_TAB_INDEX, F.SYS_TRK_LAMBDA_VAL, F.SYS_TRK_LA_VAL, F.SYS_TRK_WIN_W_OFF,
   F.SYS_TRK_WIN_W_ON, F.SYS_TRK_APPR_VAL, F.SYS_TRK_DRAIN_N, F.SYS_TRK_MIN_GAP_VAL,
   F.SYS_TRK_OFFLINE_L_SEG, F.SYS_TRK_OFFLINE_H_SEG, F.SYS_TRK_FAULT_L_SEG, F.SYS_TRK_FAULT_H_SEG,
   F.SYS_TRK_STATUS_CLOSE, F.SYS_TRK_STATUS_CONFLICT, F.SYS_TRK_STATUS_CLOSE_SEEN, F.SYS_TRK_STATUS_NO_DRIVE]
def fldsSYS2 : List Fld :=
  [F.SYS_TRK_STATUS_STALE, F.SYS_TRK_STATUS_SHORT_COV, F.SYS_TRK_GAP_VAL, F.SYS_TRK_SEGSTATE_S0,
   F.SYS_TRK_SEGSTATE_S1, F.SYS_TRK_SEGSTATE_S2, F.SYS_TRK_SEGSTATE_S3, F.SYS_TRK_SEGSTATE_S4,
   F.SYS_TRK_SEGSTATE_S5, F.SYS_TRK_SEGSTATE_S6, F.SYS_TRK_SEGSTATE_S7]
/-- Every field of block SYS. -/
def fldsSYS : List Fld := fldsSYS0 ++ fldsSYS1 ++ fldsSYS2

def fldsQUO0 : List Fld :=
  [F.QUO_CTL_BEGIN, F.QUO_CTL_COMMIT, F.QUO_CTL_ROLLBACK, F.QUO_STATUS_OPEN,
   F.QUO_STATUS_PENDING, F.QUO_STATUS_BUSY, F.QUO_STATUS_OWNER, F.QUO_STATUS_FULL,
   F.QUO_STATUS_REFUSED, F.QUO_STATUS_TIMED_OUT, F.QUO_STATUS_RESULT, F.QUO_STATUS_LOST,
   F.QUO_STATUS_DROPPED, F.QUO_TIMEOUT_MS, F.QUO_APPLIED_IMP, F.QUO_REPORT_WORD]
/-- Every field of block QUO. -/
def fldsQUO : List Fld := fldsQUO0

def fldsEVT0 : List Fld :=
  [F.EVT_STATUS_COUNT, F.EVT_STATUS_FULL, F.EVT_STATUS_OVERFLOW, F.EVT_STATUS_STAGE,
   F.EVT_CTL_POP_N, F.EVT_CTL_CLEAR, F.EVT_CFG_IRQ_LEVEL, F.EVT_RD_IDX,
   F.EVT_ENT_WORD, F.EVT_DROP_COUNT]
/-- Every field of block EVT. -/
def fldsEVT : List Fld := fldsEVT0

def fldsGLY0 : List Fld :=
  [F.GLY_STATUS_PHASE, F.GLY_STATUS_SRC, F.GLY_STATUS_WAIT_HOST, F.GLY_STATUS_SIGNED_OK,
   F.GLY_STATUS_CLAMPED, F.GLY_STATUS_CONFLICT, F.GLY_STATUS_SAFETY_CLAMP, F.GLY_STATUS_SLOT_A_BAD,
   F.GLY_STATUS_SLOT_B_BAD, F.GLY_STATUS_FAIL_CODE, F.GLY_STATUS_REPORT_LOST, F.GLY_CTL_HOST_LOAD,
   F.GLY_CTL_SKIP_FLASH, F.GLY_HOST_LEN_LEN, F.GLY_REPORT_COUNT_COUNT, F.GLY_KEY_DATA_DATA,
   F.GLY_KEY_CTL_SLOT, F.GLY_KEY_CTL_PROG, F.GLY_KEY_CTL_SET_REQUIRE, F.GLY_KEY_CTL_VALID,
   F.GLY_KEY_CTL_REQUIRE, F.GLY_KEY_CTL_BUSY, F.GLY_KEY_CTL_KEY, F.GLY_REPORT_WORD]
/-- Every field of block GLY. -/
def fldsGLY : List Fld := fldsGLY0

def fldsPLT0 : List Fld :=
  [F.PLT_CTL_SWAP, F.PLT_CTL_BEXP_AUTO, F.PLT_STATUS_OVF, F.PLT_STATUS_UE,
   F.PLT_STATUS_BADSORT, F.PLT_STATUS_STSAT, F.PLT_STATUS_PUB_REFUSED, F.PLT_STATUS_PUB_PARTIAL,
   F.PLT_STATUS_ACT_BANK, F.PLT_STATUS_STG_BUSY, F.PLT_STATUS_SWAP_PENDING, F.PLT_STATUS_FORME_OVER,
   F.PLT_STATUS_JOB_BUSY, F.PLT_STATUS_SWAP_REFUSED, F.PLT_ACT_CFG_PHASES_M1, F.PLT_STG_CFG_PHASES_M1,
   F.PLT_ACT_WORST_SLOTS, F.PLT_STG_WORST_SLOTS, F.PLT_LIMIT_L, F.PLT_PHASE_PHI,
   F.PLT_MASK_LO_BITS, F.PLT_MASK_HI_BITS, F.PLT_SCHED_LO_BITS, F.PLT_SCHED_HI_BITS]
def fldsPLT1 : List Fld :=
  [F.PLT_OVF_INFO_SORT, F.PLT_OVF_INFO_ACC, F.PLT_OVF_INFO_IMP, F.PLT_ECC_CE,
   F.PLT_UE_ADDR_OFFSET, F.PLT_BEXP_BE, F.PLT_BEXP_D]
/-- Every field of block PLT. -/
def fldsPLT : List Fld := fldsPLT0 ++ fldsPLT1

def fldsMOV0 : List Fld :=
  [F.MOV_CFG_TYPE, F.MOV_CFG_UNIT, F.MOV_CFG_FB_TAB, F.MOV_CFG_CH_A,
   F.MOV_CFG_CH_B, F.MOV_CFG_TRACK, F.MOV_CFG_PLATEN, F.MOV_SRC_PRI,
   F.MOV_SRC_SEC, F.MOV_SRC_MM, F.MOV_SRC_SBC, F.MOV_CTL_SEC_SYNC,
   F.MOV_CTL_REQ, F.MOV_REC_INDEX, F.MOV_PBASE_INDEX, F.MOV_VNORM_VAL,
   F.MOV_SCALE_NUM_VAL, F.MOV_SCALE_DEN_VAL, F.MOV_SEC_NUM_VAL, F.MOV_SEC_DEN_VAL,
   F.MOV_EPT_VAL, F.MOV_ALIGN_VAL, F.MOV_ALIGN_B_VAL, F.MOV_AMIN_VAL]
def fldsMOV1 : List Fld :=
  [F.MOV_FB_VMAX_VAL, F.MOV_HOLD_DLY, F.MOV_HOLD_N, F.MOV_KP_VAL,
   F.MOV_KV_VAL, F.MOV_KIVT_VAL, F.MOV_KA_VAL, F.MOV_IMAXM_VAL,
   F.MOV_RHO_MIN, F.MOV_RHO_MAX, F.MOV_MU_M_VAL, F.MOV_L1T_VAL,
   F.MOV_L2T_VAL, F.MOV_FB_I_VAL, F.MOV_SHARE_VAL, F.MOV_PL_TOL,
   F.MOV_PL_N, F.MOV_NQ_VAL, F.MOV_OPT_DOB_EN, F.MOV_OPT_N1_EN,
   F.MOV_OPT_N2_EN, F.MOV_OPT_MASS_EN]
/-- Every field of block MOV. -/
def fldsMOV : List Fld := fldsMOV0 ++ fldsMOV1

def fldsPRF0 : List Fld :=
  [F.PRF_STATE_STATE, F.PRF_STATE_CMDRES, F.PRF_STATE_OUTCOME, F.PRF_STATE_OVERSHOOT,
   F.PRF_STATE_DMAX_EXCEEDED, F.PRF_STATE_CMD_REPLACED, F.PRF_STATE_FB_LIMITED, F.PRF_STATE_TAKEOVER_STOP,
   F.PRF_CMD_CODE, F.PRF_TGT_L_VAL, F.PRF_TGT_H_VAL, F.PRF_VMAX_VAL,
   F.PRF_AMAX_VAL, F.PRF_DMAX_VAL, F.PRF_QDEC_VAL, F.PRF_JMAX_VAL,
   F.PRF_QJERK_VAL, F.PRF_SPBASE_INDEX, F.PRF_SP_L_VAL, F.PRF_SP_H_VAL,
   F.PRF_SPV_VAL, F.PRF_SPA_VAL, F.PRF_REMAIN_VAL]
/-- Every field of block PRF. -/
def fldsPRF : List Fld := fldsPRF0

def fldsACD0 : List Fld :=
  [F.ACD_CFG_KIND, F.ACD_CFG_SLAVE, F.ACD_CFG_MKIND, F.ACD_CFG_MASTER,
   F.ACD_CFG_SYNC, F.ACD_CFG_TABLE, F.ACD_CFG_CYCLIC, F.ACD_CFG_ENG_MODE,
   F.ACD_CFG_DIS_MODE, F.ACD_CTL_ENGAGE, F.ACD_CTL_DISENGAGE, F.ACD_STATUS_STATE,
   F.ACD_STATUS_OVER_V, F.ACD_STATUS_OVER_A, F.ACD_STATUS_LAG, F.ACD_STATUS_REFUSED,
   F.ACD_NUM_VAL, F.ACD_DEN_VAL, F.ACD_OFS_L_VAL, F.ACD_OFS_H_VAL,
   F.ACD_CSCALE_VAL, F.ACD_MC_L_VAL, F.ACD_MC_H_VAL, F.ACD_CLEN_VAL]
def fldsACD1 : List Fld :=
  [F.ACD_EPOS_L_VAL, F.ACD_EPOS_H_VAL, F.ACD_DPOS_L_VAL, F.ACD_DPOS_H_VAL,
   F.ACD_ENG_V_VAL, F.ACD_ENG_A_VAL, F.ACD_ENG_J_VAL, F.ACD_SH_TGT_VAL,
   F.ACD_SH_RATE_VAL, F.ACD_LAW_L_VAL, F.ACD_LAW_H_VAL]
/-- Every field of block ACD. -/
def fldsACD : List Fld := fldsACD0 ++ fldsACD1

def fldsPTH0 : List Fld :=
  [F.PTH_CFG_NAX_M1, F.PTH_CFG_AX0, F.PTH_CFG_AX1, F.PTH_CFG_AX2,
   F.PTH_CFG_AX3, F.PTH_CTL_START, F.PTH_CTL_HOLD, F.PTH_CTL_RESUME,
   F.PTH_CTL_STOP, F.PTH_CTL_ABORT, F.PTH_CTL_PUSH, F.PTH_CTL_FLUSH,
   F.PTH_STATUS_STATE, F.PTH_STATUS_LEVEL, F.PTH_STATUS_FULL, F.PTH_STATUS_STARVED,
   F.PTH_STATUS_ARC_BAD, F.PTH_STATUS_PAUSED, F.PTH_STATUS_REFUSED, F.PTH_STATUS_TAG_NOW,
   F.PTH_VP_VAL, F.PTH_AP_VAL, F.PTH_JP_VAL, F.PTH_QDP_VAL]
def fldsPTH1 : List Fld :=
  [F.PTH_QJP_VAL, F.PTH_OVR_VAL, F.PTH_ARC_TOL_VAL, F.PTH_SEG_TYPE,
   F.PTH_SEG_PA, F.PTH_SEG_PB, F.PTH_SEG_END_V, F.PTH_SEG_TAG,
   F.PTH_END_L_VAL, F.PTH_END_H_VAL, F.PTH_CA_L_VAL, F.PTH_CA_H_VAL,
   F.PTH_CB_L_VAL, F.PTH_CB_H_VAL, F.PTH_S_REM_VAL]
/-- Every field of block PTH. -/
def fldsPTH : List Fld := fldsPTH0 ++ fldsPTH1

def fldsSCH0 : List Fld :=
  [F.SCH_CFG_GRACE, F.SCH_SUMMARY_ARMED, F.SCH_SUMMARY_LATES, F.SCH_SUMMARY_EXPIRIES,
   F.SCH_TIME_L_VAL, F.SCH_TIME_H_VAL, F.SCH_ACT_KIND, F.SCH_ACT_SUB,
   F.SCH_ACT_INST, F.SCH_ACT_WAKE, F.SCH_ARG_VAL, F.SCH_PERIOD_VAL,
   F.SCH_CTL_ARM, F.SCH_CTL_CANCEL, F.SCH_STAT_STATE, F.SCH_STAT_LATE,
   F.SCH_STAT_SKIPS, F.SCH_STAT_FIRES, F.SCH_LAST_VAL]
/-- Every field of block SCH. -/
def fldsSCH : List Fld := fldsSCH0

def fldsEDG0 : List Fld :=
  [F.EDG_STATUS_CAL_VALID, F.EDG_STATUS_CAL_FAIL, F.EDG_STATUS_XCLR_REFUSED, F.EDG_STATUS_OWN_OK,
   F.EDG_STATUS_RUN_EN, F.EDG_CAL_RESID, F.EDG_CAL_TAPS_MIN, F.EDG_CAL_TAPS_MAX,
   F.EDG_CAL_PASSES, F.EDG_XLIVE_LIVE, F.EDG_XLATCH_LATCH, F.EDG_TRIPX_EN,
   F.EDG_TRIPX_POL, F.EDG_TRIPX_FILT, F.EDG_TRIPX_BLANK_EN, F.EDG_TRIPX_BLANK_AUX,
   F.EDG_AUX_EN, F.EDG_AUX_CH, F.EDG_AUX_LEVEL, F.EDG_AUX_ON_VAL,
   F.EDG_AUX_OFF_VAL, F.EDG_CH_LOCK_M, F.EDG_CH_LOCK_K, F.EDG_CH_UPD_N]
def fldsEDG1 : List Fld :=
  [F.EDG_PHASE_PHASE, F.EDG_PER_P, F.EDG_PER_REM, F.EDG_DT_DTIME,
   F.EDG_DT_MINPW, F.EDG_TCFG_ACTION, F.EDG_TCFG_OC_EN, F.EDG_TCFG_GROUP,
   F.EDG_TCFG_BLANK_EN, F.EDG_TCFG_BLANK_AUX, F.EDG_TCFG_MSRC, F.EDG_TCFG_REENTRY,
   F.EDG_TCFG_STOG, F.EDG_TCFG_MM, F.EDG_XMASK_MASK, F.EDG_MDLY_DLY,
   F.EDG_MTAB_LO_E0, F.EDG_MTAB_LO_E1, F.EDG_MTAB_LO_E2, F.EDG_MTAB_LO_E3,
   F.EDG_MTAB_HI_E0, F.EDG_MTAB_HI_E1, F.EDG_MTAB_HI_E2, F.EDG_MTAB_HI_E3]
def fldsEDG2 : List Fld :=
  [F.EDG_CST_TRIPPED, F.EDG_CST_DEFER, F.EDG_CST_OVERLAP, F.EDG_CST_MINPW_HIT,
   F.EDG_CST_NOSET, F.EDG_CST_OVERWRITE, F.EDG_CST_CLR_REFUSED, F.EDG_CST_MIDX,
   F.EDG_CST_MPEND, F.EDG_CST_LEVEL, F.EDG_CST_HIZ, F.EDG_TLATCH_OC,
   F.EDG_TLATCH_GRP, F.EDG_TLATCH_STO, F.EDG_TLATCH_EXT, F.EDG_CCNT_DEFERS,
   F.EDG_CCNT_MINPWS, F.EDG_ACT_VAL, F.EDG_SHD_VAL, F.EDG_SHD_GO_GO]
/-- Every field of block EDG. -/
def fldsEDG : List Fld := fldsEDG0 ++ fldsEDG1 ++ fldsEDG2

def fldsFBK0 : List Fld :=
  [F.FBK_STATUS_TDC_VALID, F.FBK_HALL_CFG_EN, F.FBK_HALL_CFG_INV, F.FBK_HALL_CFG_REV,
   F.FBK_HALL_CFG_FILT, F.FBK_HALL_CFG_STATE, F.FBK_ENC_CFG_EN, F.FBK_ENC_CFG_REV,
   F.FBK_ENC_CFG_ZPOL, F.FBK_ENC_CFG_FILT, F.FBK_SSI_CFG_EN, F.FBK_SSI_CFG_BITS,
   F.FBK_SSI_CFG_GRAY, F.FBK_SSI_CFG_PAR, F.FBK_SSI_CFG_ZCHK, F.FBK_SSI_CFG_DIV,
   F.FBK_SSI_CFG_CKDIV, F.FBK_HALL_SPD_NAVG, F.FBK_HALL_SPD_TSTILL, F.FBK_ENC_SPD_NAVG,
   F.FBK_ENC_SPD_TSTILL, F.FBK_SSI_SPD_NAVG, F.FBK_SSI_SPD_TSTILL, F.FBK_HALL_LIM_LO_L_VAL]
def fldsFBK1 : List Fld :=
  [F.FBK_ENC_LIM_LO_L_VAL, F.FBK_SSI_LIM_LO_L_VAL, F.FBK_HALL_LIM_LO_H_VAL, F.FBK_ENC_LIM_LO_H_VAL,
   F.FBK_SSI_LIM_LO_H_VAL, F.FBK_HALL_LIM_HI_L_VAL, F.FBK_ENC_LIM_HI_L_VAL, F.FBK_SSI_LIM_HI_L_VAL,
   F.FBK_HALL_LIM_HI_H_VAL, F.FBK_ENC_LIM_HI_H_VAL, F.FBK_SSI_LIM_HI_H_VAL, F.FBK_HALL_REF_L_VAL,
   F.FBK_ENC_REF_L_VAL, F.FBK_SSI_REF_L_VAL, F.FBK_HALL_REF_H_VAL, F.FBK_ENC_REF_H_VAL,
   F.FBK_SSI_REF_H_VAL, F.FBK_HALL_CTL_REF_NOW, F.FBK_ENC_CTL_REF_NOW, F.FBK_ENC_CTL_REF_Z,
   F.FBK_SSI_CTL_REF_NOW, F.FBK_HALL_POS_L_VAL, F.FBK_ENC_POS_L_VAL, F.FBK_SSI_POS_L_VAL]
def fldsFBK2 : List Fld :=
  [F.FBK_HALL_POS_H_VAL, F.FBK_ENC_POS_H_VAL, F.FBK_SSI_POS_H_VAL, F.FBK_HALL_STAMP_T,
   F.FBK_ENC_STAMP_T, F.FBK_SSI_STAMP_T, F.FBK_HALL_SPEED_V, F.FBK_ENC_SPEED_V,
   F.FBK_SSI_SPEED_V, F.FBK_HALL_STATUS_STILL, F.FBK_HALL_STATUS_NEG, F.FBK_HALL_STATUS_SAT,
   F.FBK_HALL_STATUS_ERR, F.FBK_HALL_STATUS_LOST, F.FBK_HALL_STATUS_SPD_SAT, F.FBK_HALL_STATUS_INVALID,
   F.FBK_HALL_STATUS_LATE, F.FBK_HALL_STATUS_ZERR, F.FBK_HALL_STATUS_REF_ARMED, F.FBK_ENC_STATUS_STILL,
   F.FBK_ENC_STATUS_NEG, F.FBK_ENC_STATUS_SAT, F.FBK_ENC_STATUS_ERR, F.FBK_ENC_STATUS_LOST]
def fldsFBK3 : List Fld :=
  [F.FBK_ENC_STATUS_SPD_SAT, F.FBK_ENC_STATUS_INVALID, F.FBK_ENC_STATUS_LATE, F.FBK_ENC_STATUS_ZERR,
   F.FBK_ENC_STATUS_REF_ARMED, F.FBK_SSI_STATUS_STILL, F.FBK_SSI_STATUS_NEG, F.FBK_SSI_STATUS_SAT,
   F.FBK_SSI_STATUS_ERR, F.FBK_SSI_STATUS_LOST, F.FBK_SSI_STATUS_SPD_SAT, F.FBK_SSI_STATUS_INVALID,
   F.FBK_SSI_STATUS_LATE, F.FBK_SSI_STATUS_ZERR, F.FBK_SSI_STATUS_REF_ARMED, F.FBK_HALL_ERRCNT_COUNT,
   F.FBK_HALL_ERRCNT_ERR_MAX, F.FBK_HALL_ERRCNT_TOTAL, F.FBK_ENC_ERRCNT_COUNT, F.FBK_ENC_ERRCNT_ERR_MAX,
   F.FBK_ENC_ERRCNT_TOTAL, F.FBK_SSI_ERRCNT_COUNT, F.FBK_SSI_ERRCNT_ERR_MAX, F.FBK_SSI_ERRCNT_TOTAL]
def fldsFBK4 : List Fld :=
  [F.FBK_ENC_ZDIST_DIST, F.FBK_SSI_TIMING_LEAD, F.FBK_SSI_TIMING_LAT_COMP, F.FBK_SSI_TIMING_DDLY,
   F.FBK_LAT_CFG_MODE, F.FBK_LAT_CFG_KIND, F.FBK_LAT_CFG_IDX, F.FBK_LAT_CFG_EDGE,
   F.FBK_LAT_CFG_POSSRC, F.FBK_LAT_CFG_EVT_EN, F.FBK_LAT_CTL_ARM, F.FBK_LAT_CTL_DISARM,
   F.FBK_LAT_CTL_POP, F.FBK_LAT_CTL_FLUSH, F.FBK_LAT_STATUS_ARMED, F.FBK_LAT_STATUS_LEVEL,
   F.FBK_LAT_STATUS_PENDING, F.FBK_LAT_STATUS_OVR, F.FBK_LAT_MISSED_COUNT, F.FBK_LAT_ENT_STAMP_T,
   F.FBK_LAT_ENT_INFO_FRAC, F.FBK_LAT_ENT_INFO_RISE, F.FBK_LAT_ENT_INFO_OLD, F.FBK_LAT_ENT_INFO_SAT]
def fldsFBK5 : List Fld :=
  [F.FBK_LAT_ENT_INFO_INTERP, F.FBK_LAT_ENT_POS_L_VAL, F.FBK_LAT_ENT_POS_H_VAL, F.FBK_CMP_CFG_SRC,
   F.FBK_CMP_CFG_DIR, F.FBK_CMP_CFG_PERIODIC, F.FBK_CMP_CFG_LATE_MODE, F.FBK_CMP_CFG_TOGGLE,
   F.FBK_CMP_CFG_EVT_EN, F.FBK_CMP_CFG_WIDTH, F.FBK_CMP_VAL_L_VAL, F.FBK_CMP_VAL_H_VAL,
   F.FBK_CMP_STEP_STEP, F.FBK_CMP_CTL_ARM, F.FBK_CMP_CTL_DISARM, F.FBK_CMP_STATUS_ARMED,
   F.FBK_CMP_STATUS_LEVEL, F.FBK_CMP_STATUS_FIRED, F.FBK_CMP_STATUS_BEHIND, F.FBK_CMP_STATUS_LATE,
   F.FBK_CMP_STATUS_SKIP, F.FBK_CMP_STATUS_COUNT, F.FBK_CMP_FIRE_STAMP_T, F.FBK_CMP_NEXT_L_VAL]
def fldsFBK6 : List Fld :=
  [F.FBK_CMP_NEXT_H_VAL, F.FBK_PAGE_W]
/-- Every field of block FBK. -/
def fldsFBK : List Fld := fldsFBK0 ++ fldsFBK1 ++ fldsFBK2 ++ fldsFBK3 ++ fldsFBK4 ++ fldsFBK5 ++ fldsFBK6

def fldsSDM0 : List Fld :=
  [F.SDM_REC_BASE, F.SDM_CLK_DIV, F.SDM_CLK_SDLY, F.SDM_CLK_EN,
   F.SDM_CFG_OSR3, F.SDM_CFG_OSR2, F.SDM_CFG_UDC_AIN, F.SDM_CFG_EN,
   F.SDM_CFG_PLATEN, F.SDM_GAIN_GAIN, F.SDM_OFS_OFS, F.SDM_OC_TH_TRIP,
   F.SDM_OC_CNT_TRIP, F.SDM_OC_TH_WARN, F.SDM_OC_CNT_WARN, F.SDM_STATUS_WARN,
   F.SDM_STATUS_STUCK, F.SDM_STATUS_CLIP, F.SDM_STATUS_OCT, F.SDM_STATUS_WARN_LIVE,
   F.SDM_STATUS_SETTLE, F.SDM_PAGE_PAGE, F.SDM_VAL_I, F.SDM_AIN_CFG_EN]
def fldsSDM1 : List Fld :=
  [F.SDM_AIN_VAL_LATCH, F.SDM_AIN_VAL_AVG]
/-- Every field of block SDM. -/
def fldsSDM : List Fld := fldsSDM0 ++ fldsSDM1

def fldsFIO0 : List Fld :=
  [F.FIO_STATUS_WDT_EXP, F.FIO_WDT_MS, F.FIO_WDT_EN, F.FIO_WDT_KICK,
   F.FIO_IN_LEVEL, F.FIO_OUT_CMD, F.FIO_KFB_LEVEL, F.FIO_GRP_CTL_UV_ACK,
   F.FIO_GRP_STATUS_FIELD_WARN, F.FIO_GRP_STATUS_FIELD_WARN_SEEN, F.FIO_GRP_STATUS_FIELD_UV, F.FIO_GRP_STATUS_RECOVERED,
   F.FIO_GRP_STATUS_ACK_REFUSED, F.FIO_GRP_STATUS_VOLT, F.FIO_CH_CFG_MODE, F.FIO_CH_CFG_SRC,
   F.FIO_CH_CFG_SAFE_ST, F.FIO_CH_CFG_RESTORE, F.FIO_CH_CFG_WDT_EN, F.FIO_CH_CFG_WAKE_EN,
   F.FIO_CH_CFG_OW_EN, F.FIO_CH_CFG_SAFE, F.FIO_CH_CFG_CMP, F.FIO_CH_DEB_DEB]
def fldsFIO1 : List Fld :=
  [F.FIO_CH_EP_EP, F.FIO_CH_DIAG_OVL, F.FIO_CH_DIAG_OT, F.FIO_CH_DIAG_OPEN,
   F.FIO_CH_DIAG_DRIVEN, F.FIO_TRGOUT_SRC, F.FIO_TRGOUT_CMP, F.FIO_SBC_CFG_PULL,
   F.FIO_SBC_CFG_HOLD, F.FIO_SBC_CFG_TP, F.FIO_SBC_STATUS_OVL, F.FIO_SBC_STATUS_OPEN,
   F.FIO_SBC_STATUS_RB_HS, F.FIO_SBC_STATUS_RB_LS, F.FIO_SBC_STATUS_I, F.FIO_STO_OVL,
   F.FIO_STO_RB, F.FIO_STO_STO_TP]
/-- Every field of block FIO. -/
def fldsFIO : List Fld := fldsFIO0 ++ fldsFIO1

def fldsSAF0 : List Fld :=
  [F.SAF_STATE_STATE, F.SAF_STATE_PREV, F.SAF_STATE_CAUSE, F.SAF_STATE_DRY,
   F.SAF_STATE_CONFIRMED, F.SAF_STATE_DIAG_OK, F.SAF_STATE_MONITOR, F.SAF_STATE_SIG_BUSY,
   F.SAF_STATE_CONF_REFUSED, F.SAF_STATE_RESET_REFUSED, F.SAF_STATE_SF_REFUSED, F.SAF_CTL_ENTER_COMM,
   F.SAF_CTL_EXIT_COMM, F.SAF_CTL_RESET, F.SAF_CTL_STOP, F.SAF_CTL_DRY_ACK,
   F.SAF_CTL_KEY, F.SAF_SIG_CALC_VAL, F.SAF_SIG_CONF_VAL, F.SAF_CONFIRM_VAL,
   F.SAF_SIG_EXP_VAL, F.SAF_DRY_LEFT_VAL, F.SAF_STOP_STAMP_VAL, F.SAF_BRAKE_REL]
def fldsSAF1 : List Fld :=
  [F.SAF_BRAKE_APPLIED, F.SAF_BRAKE_STO_ASSERTED, F.SAF_BRAKE_BT_LOCK, F.SAF_BT_CTL_AXIS,
   F.SAF_BT_CTL_GO, F.SAF_BT_CTL_CANCEL, F.SAF_BT_CTL_CLR_FAIL, F.SAF_BT_STATUS_AXIS,
   F.SAF_BT_STATUS_RESULT, F.SAF_BT_STATUS_PHASE, F.SAF_BT_STATUS_MOVE, F.SAF_DIAG_RC_DEV,
   F.SAF_DIAG_PASSES, F.SAF_DIAG_CE, F.SAF_AXST_LEVEL, F.SAF_AXST_DRY_LIM_IN,
   F.SAF_AXST_SOS_ACT, F.SAF_AXST_STO, F.SAF_AXST_SBC_APPLIED, F.SAF_AXST_SEC_LOST,
   F.SAF_AXST_BT_DUE, F.SAF_AXST_BT_LOCK, F.SAF_AXST_BT_FAIL, F.SAF_AXST_NEAR]
def fldsSAF2 : List Fld :=
  [F.SAF_PS_STATUS_UP, F.SAF_PS_STATUS_PATH_A_LOST, F.SAF_PS_STATUS_PATH_B_LOST, F.SAF_PS_CNT_DISCARDED,
   F.SAF_PS_CNT_SINGLES, F.SAF_GEN_RESET_SRC, F.SAF_GEN_AUTO_RETURN, F.SAF_GEN_OVF_ACT,
   F.SAF_GEN_UE_ACT, F.SAF_GEN_RESET_SEL, F.SAF_GEN_RUN_SEL, F.SAF_TDRY_TDRY,
   F.SAF_TRESQ_TRESQ, F.SAF_BTI_INT, F.SAF_BTI_GRACE, F.SAF_AX_CFG_EN,
   F.SAF_AX_CFG_PRI, F.SAF_AX_CFG_SEC, F.SAF_AX_CFG_STO, F.SAF_AX_CFG_SBC,
   F.SAF_AX_CFG_BT_CH, F.SAF_AX_CFG_STO_SBC, F.SAF_AX_SNUM_VAL, F.SAF_AX_SDEN_VAL]
def fldsSAF3 : List Fld :=
  [F.SAF_AX_SEL_A_STO_PERM, F.SAF_AX_SEL_A_SOS_PERM, F.SAF_AX_SEL_A_SLS_SEL0, F.SAF_AX_SEL_B_SLS_SEL1,
   F.SAF_AX_SLS_VAL, F.SAF_AX_DRY_LIM_VAL, F.SAF_AX_TIMING_SLS_T, F.SAF_AX_TIMING_RAMP,
   F.SAF_AX_SOS_WIN_WIN, F.SAF_AX_PL_TOL, F.SAF_AX_PL_PL_T, F.SAF_AX_BT1_TORQUE,
   F.SAF_AX_BT1_TIME, F.SAF_AX_BT1_DIR, F.SAF_AX_BT_MOVE_VAL, F.SAF_AX_I_RATED_VAL,
   F.SAF_KFB_CFG_EN, F.SAF_KFB_CFG_CKIND, F.SAF_KFB_CFG_CIDX, F.SAF_KFB_CFG_MIRROR,
   F.SAF_KFB_CFG_GROUP, F.SAF_KFB_DT_DT, F.SAF_PSC_ID_EN, F.SAF_PSC_ID_CTX]
def fldsSAF4 : List Fld :=
  [F.SAF_PSC_ID_SESSION, F.SAF_PSC_TIMING_TX_PER, F.SAF_PSC_TIMING_WIN, F.SAF_PSC_TIMING_WD,
   F.SAF_PSC_CHECK_MAX_AGE, F.SAF_PSC_CHECK_RECOVER_N]
/-- Every field of block SAF. -/
def fldsSAF : List Fld := fldsSAF0 ++ fldsSAF1 ++ fldsSAF2 ++ fldsSAF3 ++ fldsSAF4

def fldsTIM0 : List Fld :=
  [F.TIM_STATUS_STATE, F.TIM_STATUS_SEL, F.TIM_STATUS_VALID, F.TIM_STATUS_JUMP_REFUSED,
   F.TIM_STATUS_XDIFF, F.TIM_STATUS_SEL_CHANGED, F.TIM_STATUS_GM, F.TIM_CTL_ACCEPT_STEP,
   F.TIM_CTL_SET, F.TIM_CFG_SERVO_BW, F.TIM_CFG_XCHK_ACT, F.TIM_CFG_GM_SRC,
   F.TIM_STEP_LIMIT_LIMIT, F.TIM_STEP_MIN_MIN, F.TIM_SLEW_SLEW_MAX, F.TIM_SLEW_WAKE_PPM,
   F.TIM_XCHK_XCHK, F.TIM_LNS_L_VAL, F.TIM_LNS_H_VAL, F.TIM_PTP_S_L_VAL,
   F.TIM_PTP_S_H_VAL, F.TIM_PTP_NS_VAL, F.TIM_INCR_VAL, F.TIM_OFFSET_VAL]
def fldsTIM1 : List Fld :=
  [F.TIM_AON_INC_VAL, F.TIM_REFUSED_L_VAL, F.TIM_REFUSED_H_VAL, F.TIM_STEP_LNS_L_VAL,
   F.TIM_STEP_LNS_H_VAL, F.TIM_STEP_DELTA_L_VAL, F.TIM_STEP_DELTA_H_VAL, F.TIM_SET_L_VAL,
   F.TIM_SET_H_VAL, F.TIM_UTC_UTC_OFS, F.TIM_UTC_UTC_VALID, F.TIM_UTC_LEAP,
   F.TIM_PPS_WIDTH, F.TIM_PPS_OUT_EN, F.TIM_PPS_IN_EN, F.TIM_PPS_IN_T_T,
   F.TIM_PPS_IN_F_FRAC, F.TIM_P_CFG_EN, F.TIM_P_CFG_PROFILE, F.TIM_P_CFG_UDP,
   F.TIM_P_CFG_ROLE, F.TIM_P_CFG_DOMAIN, F.TIM_P_INTV_LOG_SYNC, F.TIM_P_INTV_LOG_ANN]
def fldsTIM2 : List Fld :=
  [F.TIM_P_INTV_LOG_DELAY, F.TIM_P_INTV_ANN_TO, F.TIM_P_INGRESS_VAL, F.TIM_P_EGRESS_VAL,
   F.TIM_P_ASYM_VAL, F.TIM_P_GMDS_PRIO1, F.TIM_P_GMDS_CLASS, F.TIM_P_GMDS_ACCURACY,
   F.TIM_P_GMDS_PRIO2, F.TIM_P_STATE_PSTATE, F.TIM_P_STATE_PVALID, F.TIM_P_STATE_AS_CAPABLE,
   F.TIM_P_STATE_STEPS, F.TIM_P_OFS_VAL, F.TIM_P_MPD_VAL, F.TIM_P_GM_ID_L_VAL,
   F.TIM_P_GM_ID_H_VAL, F.TIM_P_CNT_DISC, F.TIM_P_CNT_SYNC_TO]
/-- Every field of block TIM. -/
def fldsTIM : List Fld := fldsTIM0 ++ fldsTIM1 ++ fldsTIM2

def fldsNET0 : List Fld :=
  [F.NET_CFG_EN, F.NET_CFG_SPEED, F.NET_CFG_WAKE_EN, F.NET_CFG_UDP,
   F.NET_CFG_VLAN_EN, F.NET_CFG_WAKE_AUTH, F.NET_MAC_L_MAC, F.NET_MAC_H_MAC,
   F.NET_IP_IP, F.NET_NETCFG_VID, F.NET_NETCFG_PCP, F.NET_NETCFG_TTL,
   F.NET_ETYPE_ETYPE, F.NET_ETYPE_UPORT, F.NET_WAKE_WAKE_FID, F.NET_STATUS_LINK,
   F.NET_STATUS_SPEED_NOW, F.NET_STATUS_EEE, F.NET_STATUS_LINK_CHG, F.NET_RX_OK_COUNT,
   F.NET_RX_DROP_COUNT, F.NET_RX_ERR_COUNT, F.NET_TX_OK_COUNT, F.NET_TXRING_BASE]
def fldsNET1 : List Fld :=
  [F.NET_TXRING_LOG2, F.NET_RXRING_BASE, F.NET_RXRING_LOG2, F.NET_RING_CTL_TX_KICK,
   F.NET_RING_CTL_RX_EN]
/-- Every field of block NET. -/
def fldsNET : List Fld := fldsNET0 ++ fldsNET1

def fldsCAN0 : List Fld :=
  [F.CAN_CTL_INIT, F.CAN_CTL_MODE, F.CAN_CTL_FD_EN, F.CAN_CTL_PXE_EN,
   F.CAN_CTL_WAKE_EN, F.CAN_CTL_RECOVER, F.CAN_NBT_BRP_M1, F.CAN_NBT_TSEG1_M1,
   F.CAN_NBT_TSEG2_M1, F.CAN_NBT_SJW_M1, F.CAN_DBT_BRP_M1, F.CAN_DBT_TSEG1_M1,
   F.CAN_DBT_TSEG2_M1, F.CAN_DBT_SJW_M1, F.CAN_DBT_TDC_EN, F.CAN_DBT_TDCO,
   F.CAN_STATUS_ESTATE, F.CAN_STATUS_INTEGRATING, F.CAN_STATUS_BUSOFF_SEEN, F.CAN_STATUS_PXE_SEEN,
   F.CAN_STATUS_MBWR_IGN, F.CAN_STATUS_WAKE_MATCH, F.CAN_STATUS_LEC, F.CAN_STATUS_DLEC]
def fldsCAN1 : List Fld :=
  [F.CAN_STATUS_RCNT, F.CAN_ERRCNT_TEC, F.CAN_ERRCNT_REC, F.CAN_CNT_PXE,
   F.CAN_CNT_NOMATCH, F.CAN_TXREQ_REQ, F.CAN_TXCANCEL_CANCEL, F.CAN_TXDONE_MB,
   F.CAN_TXFAIL_MB, F.CAN_MB_ID_ID, F.CAN_MB_ID_IDE, F.CAN_MB_FMT_DLC,
   F.CAN_MB_FMT_FDF, F.CAN_MB_FMT_BRS, F.CAN_MB_FMT_RTR, F.CAN_MB_FMT_ONESHOT,
   F.CAN_MB_FMT_LAYOUT, F.CAN_MB_STAT_STATE, F.CAN_MB_STAT_CAUSE, F.CAN_MB_STAT_ATTEMPTS,
   F.CAN_MB_STAMP_T, F.CAN_MB_DATA_BYTES, F.CAN_FLT_CFG_EN, F.CAN_FLT_CFG_IDE]
def fldsCAN2 : List Fld :=
  [F.CAN_FLT_CFG_Q, F.CAN_FLT_CFG_WAKE, F.CAN_FLT_CFG_FMT, F.CAN_FLT_CFG_RTR_ACC,
   F.CAN_FLT_CFG_LAYOUT, F.CAN_FLT_MATCH_VAL, F.CAN_FLT_MASK_VAL, F.CAN_RXQ_CTL_POP,
   F.CAN_RXQ_CTL_FLUSH, F.CAN_RXQ_STATUS_LEVEL, F.CAN_RXQ_STATUS_VALID, F.CAN_RXQ_STATUS_OVR,
   F.CAN_RXQ_STATUS_LOST, F.CAN_H_ID_ID, F.CAN_H_ID_IDE, F.CAN_H_INFO_DLC,
   F.CAN_H_INFO_FDF, F.CAN_H_INFO_BRS, F.CAN_H_INFO_ESI, F.CAN_H_INFO_RTR,
   F.CAN_H_INFO_FILTER, F.CAN_H_STAMP_T, F.CAN_H_DATA_BYTES]
/-- Every field of block CAN. -/
def fldsCAN : List Fld := fldsCAN0 ++ fldsCAN1 ++ fldsCAN2

def fldsIMP0 : List Fld :=
  [F.IMP_DESC_BASE_INDEX, F.IMP_VAL_BASE_INDEX, F.IMP_LAY_BASE_INDEX, F.IMP_LOAD_CFG,
   F.IMP_LOAD_MAX, F.IMP_STATUS_OVERRUN, F.IMP_STATUS_LOST_ANY, F.IMP_STATUS_AUTH_FAIL,
   F.IMP_STATUS_DISABLED, F.IMP_LSEL_LAYOUT, F.IMP_LSTAT_EN, F.IMP_LSTAT_LOST,
   F.IMP_LSTAT_PATH_A_LOST, F.IMP_LSTAT_PATH_B_LOST, F.IMP_LSTAT_OVERRUN, F.IMP_LSTAT_AUTH_FAIL,
   F.IMP_LSEQ_SEQ, F.IMP_LCNT_DUP, F.IMP_LCNT_DISCARDED, F.IMP_LTIME_T]
/-- Every field of block IMP. -/
def fldsIMP : List Fld := fldsIMP0

def fldsPTN0 : List Fld :=
  [F.PTN_STATUS_USED, F.PTN_STATUS_PINNED, F.PTN_STATUS_REFUSED_SEEN, F.PTN_REFUSED_COUNT,
   F.PTN_OPEN_ADMIT_EN, F.PTN_KSEL_TARGET, F.PTN_KSEL_SLOT, F.PTN_KEY_WORD,
   F.PTN_KCTL_LOAD, F.PTN_KCTL_ACTIVATE, F.PTN_STATE_TYPE, F.PTN_STATE_PINNED,
   F.PTN_STATE_SILENT, F.PTN_STATE_PORTS, F.PTN_STATE_AUTH, F.PTN_STATE_TEMPLATE,
   F.PTN_STATE_ACTIVE, F.PTN_STATE_LOADED, F.PTN_MAC_L_ADDR, F.PTN_MAC_H_ADDR,
   F.PTN_IP_ADDR, F.PTN_AGE_MS, F.PTN_CNT_AUTH_FAIL, F.PTN_CNT_FRAMES]
/-- Every field of block PTN. -/
def fldsPTN : List Fld := fldsPTN0

def fldsACQ0 : List Fld :=
  [F.ACQ_ARM_ALL_REC, F.ACQ_STOP_ALL_REC, F.ACQ_JOBQ_LEVEL, F.ACQ_JOBQ_BUSY,
   F.ACQ_CFG_CLOCK, F.ACQ_CFG_NSIG_M1, F.ACQ_CFG_DIV, F.ACQ_CFG_OSRR,
   F.ACQ_CFG_GROUP, F.ACQ_CFG_AUTO, F.ACQ_CFG_REQ_FULL_PRE, F.ACQ_CFG_OVWR,
   F.ACQ_SIG_SEL, F.ACQ_SIG_KIND, F.ACQ_BASE_ADDR, F.ACQ_FFT_BASE_ADDR,
   F.ACQ_LEN_VAL, F.ACQ_PRE_VAL, F.ACQ_FFT_START_VAL, F.ACQ_NREC_N,
   F.ACQ_TMASK_TCN, F.ACQ_MEAS_MSIG, F.ACQ_MEAS_EN, F.ACQ_MEAS_FFT]
def fldsACQ1 : List Fld :=
  [F.ACQ_MEAS_WIN, F.ACQ_MEAS_FSIG, F.ACQ_MEAS_HYS, F.ACQ_CTL_ARM,
   F.ACQ_CTL_STOP, F.ACQ_CTL_FORCE, F.ACQ_STATUS_STATE, F.ACQ_STATUS_LEN_PENDING,
   F.ACQ_STATUS_ARM_REFUSED, F.ACQ_SLOT_WR, F.ACQ_SLOT_RD, F.ACQ_SLOT_READY,
   F.ACQ_MISSED_COUNT, F.ACQ_SEQ_SEQ, F.ACQ_TCN_CFG_KIND, F.ACQ_TCN_CFG_MODE,
   F.ACQ_TCN_CFG_REC, F.ACQ_TCN_CFG_SIG, F.ACQ_TCN_CFG_IDX, F.ACQ_TCN_TH_TH,
   F.ACQ_TCN_HYS_HYS, F.ACQ_TCN_EVSEL_EV, F.ACQ_TCN_HITS_COUNT, F.ACQ_HIST_CFG_EN]
def fldsACQ2 : List Fld :=
  [F.ACQ_HIST_CFG_SRC, F.ACQ_HIST_CFG_REC, F.ACQ_HIST_CFG_SIG, F.ACQ_HIST_CFG_MID,
   F.ACQ_HIST_CFG_SHIFT, F.ACQ_HIST_LO_LO, F.ACQ_HIST_BASE_ADDR, F.ACQ_HIST_CTL_CLEAR,
   F.ACQ_HIST_UNDER_COUNT, F.ACQ_HIST_OVER_COUNT, F.ACQ_MAP_CFG_EN, F.ACQ_MAP_CFG_REC,
   F.ACQ_MAP_CFG_SIG, F.ACQ_MAP_CFG_YSHIFT, F.ACQ_MAP_CFG_XSHIFT, F.ACQ_MAP_CFG_XOFS,
   F.ACQ_MAP_LO_LO, F.ACQ_MAP_BASE_ADDR, F.ACQ_MAP_CTL_CLEAR, F.ACQ_MAP_RECORDS_COUNT]
/-- Every field of block ACQ. -/
def fldsACQ : List Fld := fldsACQ0 ++ fldsACQ1 ++ fldsACQ2

def fldsPAR0 : List Fld :=
  [F.PAR_CFG_MODE, F.PAR_CFG_PREFERRED, F.PAR_CFG_SBY_CNT, F.PAR_CFG_PEN_EN,
   F.PAR_CFG_PEN_POL, F.PAR_CFG_HB_MODE, F.PAR_STATUS_OWNER, F.PAR_STATUS_OWN_CONFLICT,
   F.PAR_STATUS_PEN_BLOCK, F.PAR_STATUS_HB_LOST, F.PAR_STATUS_MIRROR_LOST, F.PAR_STATUS_PEER_MIRROR_LOST,
   F.PAR_STATUS_STANDBY_LOST, F.PAR_STATUS_GALLEY_MISMATCH, F.PAR_STATUS_NO_ESSENCE, F.PAR_STATUS_LATCH_MISS,
   F.PAR_STATUS_DIP_SEEN, F.PAR_STATUS_POWER_FAIL, F.PAR_STATUS_FLUSH_VALID, F.PAR_STATUS_ACTIVE,
   F.PAR_STATUS_SEL_FEED, F.PAR_STATUS_DIP_REPEAT, F.PAR_CTL_HANDBACK_HOLD, F.PAR_CTL_RELEASE]
def fldsPAR1 : List Fld :=
  [F.PAR_FEED_CFG_UV_WARN, F.PAR_FEED_CFG_BATT_SRC, F.PAR_FEED_CFG_BATT_IDX, F.PAR_FEED_STATUS_VOLT,
   F.PAR_FEED_STATUS_CLASS, F.PAR_FEED_STATUS_BATT, F.PAR_BATT_V_V0, F.PAR_BATT_V_V1,
   F.PAR_ESS_CFG_T_ESS, F.PAR_ESS_STATUS_SIZE, F.PAR_ESS_STATUS_SLOT, F.PAR_ESS_GEN_GEN,
   F.PAR_ESS_AGE_AGE, F.PAR_ESS_CNT_SKIP, F.PAR_ESS_CNT_BAD, F.PAR_ESS_CNT_ABANDON,
   F.PAR_FLUSH_CNT_FLUSH_SKIP, F.PAR_FLUSH_BASE_INDEX, F.PAR_HB_WIN_START, F.PAR_HB_WIN_LEN,
   F.PAR_MAP0_KIND, F.PAR_MAP0_PLATEN, F.PAR_MAP0_FLUSH, F.PAR_MAP0_START]
def fldsPAR2 : List Fld :=
  [F.PAR_MAP1_COUNT, F.PAR_RSC_GO, F.PAR_RSC_AUTO_RUN, F.PAR_RSC_MAXPAR,
   F.PAR_RSC_BATT_T, F.PAR_RSC_ZCOUNT, F.PAR_RSC_ZBASE_INDEX, F.PAR_RSC_BATT_U_AIN,
   F.PAR_RSC_BATT_I_AIN, F.PAR_RSC_BATT_I_MAX, F.PAR_RSC_SCALE_U_SC, F.PAR_RSC_SCALE_I_SC,
   F.PAR_RSC_VOLT_U_STOP, F.PAR_RSCM_CFG_EN, F.PAR_RSCM_CFG_AXIS, F.PAR_RSCM_CFG_FB_DIR,
   F.PAR_RSCM_I_FRIC_VAL, F.PAR_RSCM_I_MIN_VAL, F.PAR_RSCM_BAL_VAL, F.PAR_RSCM_KPW_VAL,
   F.PAR_RSCM_VRES_VAL, F.PAR_RSCM_VMIN_VAL, F.PAR_RSCM_STATE_STATE, F.PAR_RSCM_STATE_DIR]
def fldsPAR3 : List Fld :=
  [F.PAR_RSCM_STATE_NO_HOLD]
/-- Every field of block PAR. -/
def fldsPAR : List Fld := fldsPAR0 ++ fldsPAR1 ++ fldsPAR2 ++ fldsPAR3

def fldsPWR0 : List Fld :=
  [F.PWR_CLK_STATUS_PLLS_LOCK, F.PWR_CLK_STATUS_PLLN_LOCK, F.PWR_CLK_STATUS_XIN_LOST, F.PWR_CLK_STATUS_X32_LOST,
   F.PWR_CLK_STATUS_AON_SRC, F.PWR_CLK_CFG_XIN_MODE, F.PWR_CLK_CFG_X32_MODE, F.PWR_CLK_CFG_XIN_GAIN,
   F.PWR_PD_STATUS_ON, F.PWR_PD_STATUS_SYS_RET, F.PWR_SAVE_INDEX, F.PWR_SAVE_DOZE_OK,
   F.PWR_DOZE_CFG_IDLE_S, F.PWR_DOZE_CFG_WAKE_RUN, F.PWR_WAKE_AT_L_VAL, F.PWR_WAKE_AT_H_VAL,
   F.PWR_WAKE_SRC_CAN, F.PWR_WAKE_SRC_ETH, F.PWR_WAKE_SRC_FIO, F.PWR_WAKE_SRC_TIMER,
   F.PWR_WAKE_SRC_HOST, F.PWR_WAKE_SRC_RESCUE, F.PWR_WAKE_SRC_ENTRIES, F.PWR_DOZE_TIME_L_VAL]
def fldsPWR1 : List Fld :=
  [F.PWR_DOZE_TIME_H_VAL, F.PWR_PD_PLAN_MASK, F.PWR_THERM_TJ, F.PWR_THERM_WARN,
   F.PWR_THERM_HOT, F.PWR_THERM_WARN_SEEN, F.PWR_THERM_HOT_SEEN, F.PWR_THERM_TJ_MAX]
/-- Every field of block PWR. -/
def fldsPWR : List Fld := fldsPWR0 ++ fldsPWR1

def fldsTST0 : List Fld :=
  [F.TST_MEM_STATUS_UE, F.TST_MEM_STATUS_PASS_DONE, F.TST_MEM_STATUS_PASSES, F.TST_MEM_CE_COUNT,
   F.TST_MEM_UE_CNT_COUNT, F.TST_MEM_UE_ADDR_ADDR, F.TST_MEM_SCRUB_POS_ADDR, F.TST_LOCAL_CE,
   F.TST_LOCAL_UE, F.TST_JTAG_BLOCKED, F.TST_JTAG_REFUSED, F.TST_JTAG_TEST_ACTIVE,
   F.TST_JTAG_IR]
/-- Every field of block TST. -/
def fldsTST : List Fld := fldsTST0

/-- The fields of the block that holds host address `a` (R60). -/
def blockFlds (a : Nat) : List Fld :=
  if 0x0 ≤ a ∧ a ≤ 0xFFF then fldsCOL
  else if 0x1000 ≤ a ∧ a ≤ 0x1FFF then fldsSYS
  else if 0x2000 ≤ a ∧ a ≤ 0x2FFF then fldsQUO
  else if 0x3000 ≤ a ∧ a ≤ 0x3FFF then fldsEVT
  else if 0x4000 ≤ a ∧ a ≤ 0x7FFF then fldsGLY
  else if 0x10000 ≤ a ∧ a ≤ 0x1EFFF then fldsPLT
  else if 0x20000 ≤ a ∧ a ≤ 0x23FFF then fldsMOV
  else if 0x30000 ≤ a ∧ a ≤ 0x31FFF then fldsPRF
  else if 0x34000 ≤ a ∧ a ≤ 0x34FFF then fldsACD
  else if 0x38000 ≤ a ∧ a ≤ 0x38FFF then fldsPTH
  else if 0x3C000 ≤ a ∧ a ≤ 0x3CFFF then fldsSCH
  else if 0x40000 ≤ a ∧ a ≤ 0x4FFFF then fldsEDG
  else if 0x50000 ≤ a ∧ a ≤ 0x5FFFF then fldsFBK
  else if 0x60000 ≤ a ∧ a ≤ 0x6FFFF then fldsSDM
  else if 0x70000 ≤ a ∧ a ≤ 0x7FFFF then fldsFIO
  else if 0x80000 ≤ a ∧ a ≤ 0x8FFFF then fldsSAF
  else if 0x90000 ≤ a ∧ a ≤ 0x9FFFF then fldsTIM
  else if 0xA0000 ≤ a ∧ a ≤ 0xAFFFF then fldsNET
  else if 0xB0000 ≤ a ∧ a ≤ 0xBFFFF then fldsCAN
  else if 0xC0000 ≤ a ∧ a ≤ 0xCFFFF then fldsIMP
  else if 0xD0000 ≤ a ∧ a ≤ 0xDFFFF then fldsPTN
  else if 0xE0000 ≤ a ∧ a ≤ 0xEFFFF then fldsACQ
  else if 0xF0000 ≤ a ∧ a ≤ 0xFFFFF then fldsPAR
  else if 0x100000 ≤ a ∧ a ≤ 0x10FFFF then fldsPWR
  else if 0x110000 ≤ a ∧ a ≤ 0x11FFFF then fldsTST
  else []

/-- Every field of the register map. -/
def allFlds : List Fld :=
  fldsCOL ++ fldsSYS ++ fldsQUO ++ fldsEVT ++ fldsGLY ++ fldsPLT ++ fldsMOV ++ fldsPRF ++ fldsACD ++ fldsPTH ++ fldsSCH ++ fldsEDG ++ fldsFBK ++ fldsSDM ++ fldsFIO ++ fldsSAF ++ fldsTIM ++ fldsNET ++ fldsCAN ++ fldsIMP ++ fldsPTN ++ fldsACQ ++ fldsPAR ++ fldsPWR ++ fldsTST

/-- The stored registers whose Reset column holds a number other than 0 (R9), with that word. -/
def resetWords : List (Reg × BitVec 32) :=
  [(R.COL_PART, 0x482304#32),
   (R.QUO_TIMEOUT, 0x64#32),
   (R.EVT_CFG, 0x1#32),
   (R.PTH_OVR, 0x400#32),
   (R.SCH_CFG, 0x64#32),
   (R.EDG_CST, 0x10#32),
   (R.FBK_HALL_STATUS, 0x1#32),
   (R.FBK_ENC_STATUS, 0x1#32),
   (R.FBK_SSI_STATUS, 0x1#32),
   (R.FBK_LAT_CFG, 0x7F000#32),
   (R.FBK_CMP_CFG, 0x1007F#32),
   (R.FBK_CMP_STEP, 0x1#32),
   (R.SAF_BRAKE, 0xFFFF00#32),
   (R.SAF_AXST, 0x30#32),
   (R.NET_TXRING, 0x1000000#32),
   (R.NET_RXRING, 0x1000000#32),
   (R.CAN_STATUS, 0x4#32)]

/-- The low words of the 64-bit quantities presented as two registers (R10); PTP_S_L and PTP_S_H are no
pair (TIM tables). -/
def pairLows : List Reg :=
  [R.COL_CHECK_L, R.PLT_MASK_LO, R.PLT_SCHED_LO, R.PRF_TGT_L, R.PRF_SP_L, R.ACD_OFS_L, R.ACD_MC_L,
   R.ACD_EPOS_L, R.ACD_DPOS_L, R.ACD_LAW_L, R.PTH_END_L, R.PTH_CA_L,
   R.PTH_CB_L, R.SCH_TIME_L, R.FBK_HALL_LIM_LO_L, R.FBK_ENC_LIM_LO_L, R.FBK_SSI_LIM_LO_L,
   R.FBK_HALL_LIM_HI_L, R.FBK_ENC_LIM_HI_L, R.FBK_SSI_LIM_HI_L, R.FBK_HALL_REF_L, R.FBK_ENC_REF_L,
   R.FBK_SSI_REF_L, R.FBK_HALL_POS_L, R.FBK_ENC_POS_L, R.FBK_SSI_POS_L, R.FBK_LAT_ENT_POS_L,
   R.FBK_CMP_VAL_L, R.FBK_CMP_NEXT_L, R.TIM_LNS_L, R.TIM_REFUSED_L, R.TIM_STEP_LNS_L,
   R.TIM_STEP_DELTA_L, R.TIM_SET_L, R.TIM_P_GM_ID_L, R.PWR_WAKE_AT_L, R.PWR_DOZE_TIME_L]

end Sys2Proof.Machine
end

