-- ==== Sys2Proof/Operand.lean ====
section
/-! DEFINITION. Sys2Proof/Operand.lean: the operand types of the commands.

Times. Every command that arrives from outside at an instant carries that instant `t` in LNS fine time,
1/256 ns (R13). A host access carries the interface it came over and its time as `Via`. Commands of the
forme (sorts) carry the platen, the bank index and the fields of the sort (R81). -/

namespace Sys2Proof

/-- The two host interfaces (R60). -/
inductive Ifc
  | pcie | qspi
  deriving DecidableEq, Repr

/-- The interface of a host access and the instant it reaches the device, in 1/256 ns of LNS. -/
structure Via where
  ifc : Ifc
  t : Nat
  deriving DecidableEq, Repr

/-- What the check bits of a word or block show when it is read (R113, R457, R462). -/
inductive Ecc
  | ok | single | multi
  deriving DecidableEq, Repr

/-- An error that reads during the command find: the platen, the window offset of the word and what is seen. -/
structure PltErr where
  plt : Nat
  off : Nat
  ecc : Ecc
  deriving DecidableEq, Repr

/-- An error that reads of main SRAM or DRAM during the command find: the host address of the block. -/
structure MemErr where
  blk : Nat
  ecc : Ecc
  deriving DecidableEq, Repr

/-- A host access together with what the reads that follow it find in main SRAM. -/
structure ViaErrs where
  via : Via
  errs : List MemErr
  deriving DecidableEq, Repr

/-- The fall of the OR below 7.5 V (R410): whether VHOLD is at or above 36 V (R496), and what the flush's reads of main SRAM find. -/
structure PowerDip where
  vhold : Bool
  errs : List MemErr
  deriving DecidableEq, Repr

/-- The trailer of a generation as it arrives on the mirror link (R416). -/
structure EssTrail where
  marker : BitVec 32
  gen : BitVec 32
  pad : BitVec 32
  crc : BitVec 32
  deriving DecidableEq, Repr

/-- An error that a read of a local memory of R462 finds: the word read and whether it can be corrected. -/
structure LocErr where
  word : Nat
  multi : Bool
  deriving DecidableEq, Repr

/-- A boundary cell as it is shifted in (R471): its ball, the output bit, and whether the output is enabled. -/
structure BCell where
  ball : BitVec 12
  out : Bool
  en : Bool
  deriving DecidableEq, Repr

/-- An issued sort (R81): the platen and bank index that issue it and the encoded fields but OP; `errs` are
the memory errors its own reads find, by window offset. -/
structure Srt where
  plt : Fin 5
  idx : BitVec 13
  sec : BitVec 6
  ad : BitVec 2
  md : BitVec 4
  xf : BitVec 16
  yf : BitVec 16
  cf : BitVec 14
  errs : List PltErr
  deriving DecidableEq, Repr

/-- The addresses of a frame: destination and source MAC (byte 0 in the low bits), VLAN identifier and priority if
tagged, and source and destination IPv4 address if the frame is UDP (R343, R344). -/
structure Link where
  dst : BitVec 48
  src : BitVec 48
  vid : Option (BitVec 12)
  pcp : BitVec 3 := 0#3
  ip : Option (Word × Word)
  deriving DecidableEq, Repr

/-- A PTP message (R331, R332): domainNumber, sequenceId, source port identity, timestamp in ns since the PTP
epoch, correctionField in 2^-16 ns, and the requesting port identity of a response. -/
structure PtpMsg where
  link : Link
  domain : BitVec 8
  seq : BitVec 16
  src : BitVec 80
  twoStep : Bool
  ts : BitVec 80
  corr : BitVec 64
  req : BitVec 80
  deriving DecidableEq, Repr

/-- What an Announce message says of a grandmaster, in the order of the data-set comparison (R334). -/
structure GmData where
  prio1 : BitVec 8
  clockClass : BitVec 8
  accuracy : BitVec 8
  variance : BitVec 16
  prio2 : BitVec 8
  ident : BitVec 64
  steps : BitVec 16
  deriving DecidableEq, Repr

/-- An Announce message: the grandmaster data, the UTC fields and the 802.1AS path trace. -/
structure AnnMsg where
  msg : PtpMsg
  gm : GmData
  utc : BitVec 16
  utcValid : Bool
  leap : BitVec 2
  path : List (BitVec 64)
  deriving DecidableEq, Repr

/-- A protocol error that a CAN controller detects (R372, ISO 11898-1): its kind as LEC numbers it; in the data phase; a dominant bit
first after the error flag (a receiver) or during it (a transmitter); a stuff error in arbitration; a bit error in the controller's
own active error flag or overload flag; and the runs of dominant bits after the flag that count again. -/
structure CanErr where
  kind : Fin 7
  data : Bool
  dom : Bool
  arb : Bool
  own : Bool
  runs : BitVec 8
  deriving DecidableEq, Repr

/-- A CAN frame (R372, R379): a base identifier stands in bits [28:18]. -/
structure CanFrame where
  id : BitVec 29
  ide : Bool
  rtr : Bool
  fdf : Bool
  brs : Bool
  esi : Bool
  dlc : BitVec 4
  data : List Byte
  deriving DecidableEq, Repr

end Sys2Proof
end

