-- ==== Sys2Proof/Machine/Parts.lean ====
section
/-! DEFINITION. Sys2Proof/Machine/Parts.lean: the parts of the machine's state, as plain data, and what each
holds at reset. -/

namespace Sys2Proof.Machine

/-- Device states of R31, with OFF. -/
inductive DevState
  | off | boot | loaded | ready | run | doze | standby | takeover | safeStop
  deriving DecidableEq, Repr

/-- The encoding of SYS.STATE.STATE; OFF has none and reads 0. -/
def DevState.code : DevState → Nat
  | .off => 0 | .boot => 1 | .loaded => 2 | .ready => 3 | .run => 4 | .doze => 5 | .standby => 6 | .takeover => 7
  | .safeStop => 8

/-- An event on its way to the log, or in it (R463). -/
structure Event where
  stamp : Nat
  block : Nat
  code : Nat
  inst : Nat
  d0 : Nat
  d1 : Nat
  deriving DecidableEq, Repr

/-- An event waiting for the mode machines: what EVSEL compares (R99, R463) and when it arose, in ns. -/
structure MmEvent where
  block : Nat
  code : Nat
  inst : Nat
  at_ : Nat
  deriving DecidableEq, Repr

/-- The device state (R31) and the impression generator (R18 to R29). -/
structure SysS where
  st : DevState
  prev : DevState
  /-- impressions are running -/
  running : Bool
  /-- impressions since the first after galley load, without wrap (R96) -/
  imp : Nat
  /-- an impression has opened since galley load -/
  first : Bool
  /-- the LNS, in ns, of the present impression's opening boundary (S of R19) -/
  s0 : Nat
  /-- the LNS, in ns, at which the generator places the next boundary (R20) -/
  next : Nat
  /-- the part of δ still open (R20), in ns -/
  open_ : Int
  /-- the present impression is being shortened or lengthened, and by how much, in ns -/
  adjusting : Bool
  adj : Int
  /-- the START byte of SYSP (R34) -/
  start : Nat
  /-- the request of START 2 has still to be made -/
  startDue : Bool
  /-- a DOZE request waits for its boundary: 1 request, 2 idle timer (R442, R455) -/
  dozeReq : Nat
  /-- a RUN request waits for the next boundary (R31, R446) -/
  runReq : Bool
  /-- the instant, in 1/256 ns, from which the idle timer counts (R442) -/
  idleAt : Nat
  /-- when the present device state was entered, in 1/256 ns -/
  stAt : Nat
  deriving DecidableEq, Repr

/-- A value staged for a QS field (R71) or for a mode-machine table (R500, `mach` is the machine). -/
structure Staged where
  addr : Nat
  lsb : Nat
  width : Nat
  mach : Nat
  val : Nat
  deriving DecidableEq, Repr

/-- One report entry of R59. -/
structure Rep where
  w0 : Word
  w1 : Word
  w2 : Word
  w3 : Word
  deriving DecidableEq, Repr

/-- An implicit one-field transaction (R6, R505): its interface, the boundaries still to pass, and whether it was
written while a commit was pending. -/
structure Impl where
  ifc : Ifc
  skip : Nat
  late : Bool
  st : Staged
  deriving DecidableEq, Repr

/-- A quoin that a timeout has closed (R75), as it stood, with what the timeout changed beside it, for the COMMIT of the same SYS cycle
(R73): TIMED_OUT, the event log and the QUO word of EVT.DROP, SYS.IRQ_PEND, the number of items sent, and the triggers of the event. -/
structure TimedOut where
  cyc : Nat
  owner : Ifc
  staged : List Staged
  full : Bool
  was : Bool
  log : Bool × Nat × Nat × Word
  pend : Word
  sent : Nat
  trigs : List (Nat × Nat)
  deriving DecidableEq, Repr

/-- The quoin unit (R70 to R75, R505). -/
structure QuoS where
  /-- the interface that owns the open quoin -/
  owner : Option Ifc
  /-- the instant of the owner's last write, in 1/256 ns (R75) -/
  lastWrite : Nat
  staged : List Staged
  full : Bool
  /-- a commit is pending, from this interface -/
  pending : Option Ifc
  /-- boundaries to pass before the pending commit applies (R6) -/
  skip : Nat
  /-- the first 16 corrections since the last BEGIN -/
  report : List Rep
  /-- implicit one-field transactions, in the order of their writes (R505) -/
  implicit : List Impl
  /-- the SYS cycle of the BEGIN that opened the quoin (R70) -/
  began : Nat
  /-- the quoin that a timeout has closed (R73, R75) -/
  timed : Option TimedOut
  deriving DecidableEq, Repr

/-- The event log (R463 to R468). -/
structure EvtS where
  /-- the input stage, each event with the SYS cycle in which it came -/
  stage : List (Nat × Event)
  log : List Event
  overflow : Bool
  /-- events dropped since OVERFLOW was set, and the blocks that dropped one -/
  dropped : Nat
  dropMask : Nat
  deriving DecidableEq, Repr

/-- A mode machine (R99 to R101): its 164-byte table and its state. -/
structure MmS where
  tab : SMap Byte
  st : Nat
  lastEv : Nat
  stepped : Bool
  /-- the words of the table that an uncorrectable error leaves unused until galley load (R462), a bit each -/
  dead : Nat
  deriving DecidableEq, Repr

/-- A forme bank with its tables (R107): unlisted sorts are END, unlisted table words 0. -/
structure BankS where
  sorts : SMap W64
  phasesM1 : Nat
  latch : SMap W64
  pub : SMap W64
  sec : SMap W64
  deriving DecidableEq, Repr

/-- An accumulator: 56 bits in Q10.46 with the flags C and FRZ (R78, R90). -/
structure Accum where
  v : BitVec 56
  c : Bool
  frz : Bool
  deriving DecidableEq, Repr

/-- A pointer: its value, base, stride and modulo (R83). -/
structure Ptr where
  p : Nat
  b : Nat
  s : Int
  m : Nat
  deriving DecidableEq, Repr

/-- A host request that completes later (R33, R63): the bytes it asks for, or the bytes it writes with their enables. -/
structure Held where
  ifc : Ifc
  addr : Nat
  n : Nat
  w : Option (List (Option Byte))
  deriving DecidableEq, Repr

/-- A platen (R77 to R115). Pointers are keyed 0 to 7 for XP, 8 to 15 for YP and 16 to 23 for CP. -/
structure PltS where
  x : SMap W24
  y : SMap W24
  c : SMap W24
  acc : SMap Accum
  ptr : SMap Ptr
  act : BankS
  stg : BankS
  /-- PLT[n].STATUS.ACT_BANK -/
  actBank : Bool
  actWorst : Nat
  stgWorst : Nat
  stgBusy : Bool
  swapPending : Bool
  foreOver : Bool
  /-- the platen runs only its latch and publish (R54, R456), and its channels stay masked -/
  bare : Bool
  jobBusy : Bool
  /-- the sequencer is between the input latch and the last publish slot -/
  running : Bool
  /-- the forme has ended and the publish is due -/
  ended : Bool
  /-- the bank index from which the sequencer looks for its next sort -/
  pos : Nat
  mask : BitVec 64
  sched : BitVec 64
  phi : Nat
  be : Nat
  det : Nat
  held : List Held
  /-- where the scrubber stands among the 57,344 protected words (R114) -/
  scrub : Nat
  /-- the gap after the last publish slot, whose scrub is still to come (R63, R114) -/
  gap : Bool
  deriving DecidableEq, Repr

/-- The states of the time base (R322). -/
inductive TimState
  | unset | track | slew | hold
  deriving DecidableEq, Repr

/-- The encoding of TIM.STATUS.STATE. -/
def TimState.code : TimState → Nat
  | .unset => 0 | .track => 1 | .slew => 2 | .hold => 3

/-- A PTP instance (R331 to R336). Times and offsets are in 2^-16 ns. -/
structure PortS where
  /-- IEEE 1588 portState -/
  pstate : Nat
  asCapable : Bool
  /-- the parent's Announce data and port identity -/
  gm : Option GmData
  parent : BitVec 80
  annAlive : Bool
  /-- consecutive Announce messages in which this instance was strictly better (R334) -/
  better : Nat
  ofs : Int
  /-- when an offset was last computed within the limit of R334, in 1/256 ns -/
  ofsAt : Option Nat
  mpd : Option Int
  /-- a Sync whose Follow_Up is awaited: sequenceId, t2 and correctionField -/
  sync : Option (Nat × Int × Int)
  /-- t1 + c_S and t2 of the last Sync -/
  last : Option (Int × Int)
  /-- the request awaiting its answer: sequenceId and departure -/
  req : Option (Nat × Int)
  /-- a two-step Pdelay_Resp awaiting its Follow_Up: sequenceId, request receipt, local receipt, correction -/
  presp : Option (Nat × Int × Int × Int)
  /-- response departure and receipt of the last two-step exchange, and the neighbour rate ratio as a quotient -/
  resp : Option (Int × Int)
  rate : Int × Int
  seqSync : Nat
  seqAnn : Nat
  seqReq : Nat
  deriving DecidableEq, Repr

/-- The time base (R320 to R340). -/
structure TimS where
  /-- the accumulator of R321, in 2^-26 ns -/
  acc : Nat
  /-- INCR, in 2^-26 ns per TIM cycle -/
  incr : Nat
  /-- the servo's INCR, without the slew (R325, R326) -/
  servo : Nat
  /-- the integral part of the loop of R325, in 2^-48 of an INCR unit -/
  integ : Int
  /-- the servo's INCR at the last updates, newest first, at most 64 (R333) -/
  hist : List Nat
  st : TimState
  /-- the selected instance, if one has been selected (R334) -/
  sel : Option (Fin 2)
  xdiff : Bool
  /-- XDIFF has made the state HOLD (R335) -/
  xhold : Bool
  /-- a slew was in progress at DOZE entry, and no offset or timeout has come since (R339) -/
  dozed : Bool
  /-- consecutive differences above XCHK, and within it (R335) -/
  xAbove : Nat
  xWithin : Nat
  /-- the slew's remaining and given-up amounts in 2^-16 ns, as of the accumulator value `slewAt` (R326) -/
  slewLeft : Nat
  slewDone : Nat
  slewAt : Nat
  /-- ACCEPT_STEP removes the limit check for the next offset (R328) -/
  accept : Bool
  /-- the widening, in ns, for the first offset after a wake (R340) -/
  widen : Nat
  port0 : PortS
  port1 : PortS
  /-- the LNS that each interface's last LNS_L read captured (PTP_S, PTP_NS) -/
  capPcie : Nat
  capQspi : Nat
  /-- the sum of the steps that LNS has made (R327), in 1/256 ns -/
  stepped : Nat
  deriving DecidableEq, Repr

/-- A position source (R171 to R191) beyond its registers. Stamps are full LNS values in ns. -/
structure SrcS where
  /-- the position in increments, 48 bits signed -/
  pos : Int
  /-- the stamp of the last edge or word, whether there has been one, and whether there had been one at the last sample instant -/
  stamp : Nat
  seen : Bool
  shown : Bool
  /-- stamps and positions of the edges or words since the last restart, newest first -/
  hist : List (Nat × Int)
  est : Int
  /-- since the previous sample instant, as bits of R190: 3 ERR, 5 FRESH, 6 SPD_SAT, 8 LATE, 9 REF, 10 ZERR -/
  now : Nat
  /-- edges without an error since the counter last fell (R182) -/
  good : Nat
  /-- accepted line levels: A, B of an encoder, or U, V, W of a triplet; none before the first acceptance -/
  lines : Option Nat
  /-- the position at the last active Z edge, if one may be compared with (R176) -/
  zLast : Option Int
  /-- SSI: the reference offset, the extended word, the read under way, and the positions of the last four words (R193) -/
  ofs : Int
  word : Option Int
  read : Option (Nat × Nat)
  words : List (Nat × Int)
  /-- SSI: when the position last changed -/
  moved : Nat
  /-- the edges of the last 20 µs: stamp and position before each, newest first (R193) -/
  trail : List (Nat × Int)
  deriving DecidableEq, Repr

/-- A latch capture (R193): its source as the unit's CFG named it then, the edge in ns and 1/256 ns of LNS, its direction, whether the
source was at a limit, the FIO input for whose debounce it still waits (R194), and the position at the edge in 48.16 as far as the edges
accepted so far give it; of an SSI source none until a word after the edge has come. -/
structure LatCap where
  src : Nat
  pos : Option Int
  at_ : Nat
  frac : Nat
  rise : Bool
  sat : Bool
  fio : Option Nat
  deriving DecidableEq, Repr

/-- A latch queue entry (R195). -/
structure LatEnt where
  stamp : Nat
  frac : Nat
  rise : Bool
  old : Bool
  sat : Bool
  interp : Bool
  pos : Int
  deriving DecidableEq, Repr

/-- A latch unit: its CFG as read at ARM, captures under way and the queue, oldest first. -/
structure LatS where
  cfg : Word
  pend : List LatCap
  queue : List LatEnt
  deriving DecidableEq, Repr

/-- A compare unit: its CFG and STEP as read at ARM, and whether it fires at the next servo-period boundary. -/
structure CmpS where
  cfg : Word
  step : Nat
  late : Bool
  deriving DecidableEq, Repr

/-- A source before any edge. -/
def SrcS.init : SrcS :=
  { pos := 0, stamp := 0, seen := false, shown := false, hist := [], est := 0, now := 0, good := 0, lines := none, zLast := none
    ofs := 0, word := none, read := none, words := [], moved := 0, trail := [] }

/-- A latch unit with nothing captured. -/
def LatS.init : LatS := ⟨0, [], []⟩

/-- A compare unit never armed: source 127 (the reset value of CFG). -/
def CmpS.init : CmpS := ⟨0x0001007F#32, 1, false⟩

/-- Clocks, power domains and sleep (R433 to R447). -/
structure PwrS where
  /-- PWR.PD_STATUS.ON -/
  on : BitVec 14
  /-- the OR is above the reset level, and the internal reset has been released since (R495) -/
  orUp : Bool
  rel : Bool
  /-- PD_SYS is in retention -/
  sysRet : Bool
  pllLock : Bool
  xinLost : Bool
  x32Lost : Bool
  /-- the LNS, in ns, at DOZE entry and the cause of R455 -/
  dozeAt : Nat
  dozeCause : Nat
  /-- a wake event has come: the wake of R444 is under way -/
  waking : Bool
  /-- the instant of that event, in 1/256 ns -/
  wakeAt : Nat
  /-- it came before step 4 of the entry ended (R443): the device returns to READY with no restore -/
  abort : Bool
  /-- step 4 of the entry has handed ports and CAN controllers over to wake mode (R442) -/
  handed : Bool
  /-- host accesses that arrived in DOZE and complete at wake (R33), and the memory errors that they then find -/
  held : List Held
  heldErrs : List MemErr
  /-- the contents saved at DOZE entry: platens and register words (R441) -/
  savedPlts : SMap PltS
  savedRegs : SMap Word
  /-- positions, reference offsets and SAT bits in PD_SYS retention (R202) -/
  savedSrc : SMap SrcS
  savedSat : SMap Nat
  saved : Bool
  /-- save areas in main SRAM by host address, newest first, each with the number of its save: how R441 lays its contents out
  is not stated, so their bytes are free values (log entry 12) -/
  areas : List (Nat × Nat)
  deriving DecidableEq, Repr

/-- The test unit: scrubbers and TAP (R461, R470 to R473). -/
structure TstS where
  /-- the second in which each region last showed a correctable error (R458) -/
  ceSec0 : Option Nat
  ceSec1 : Option Nat
  /-- the block each scrubber reads next -/
  pos0 : Nat
  pos1 : Nat
  /-- CE counted in the present pass -/
  passCe0 : Nat
  passCe1 : Nat
  /-- the TAP's current instruction, and what its instruction register last captured (R470) -/
  ir : BitVec 8
  irCap : BitVec 8
  /-- the data register of the instruction as captured: the 32 bits of IDCODE and USERCODE, or the bit of Bypass -/
  data : Option Word
  bypass : Option Bool
  /-- the boundary cells by ball: output bit and enable; and what was last captured (R471) -/
  cells : SMap (Bool × Bool)
  capt : SMap Bool
  deriving DecidableEq, Repr

/-- What the device has sent: completions, messages and frames, newest last. -/
inductive Out
  /-- a read completion with its bytes (R65, R68) -/
  | rd (ifc : Ifc) (addr : Nat) (bytes : List Byte)
  /-- an MSI-X message for vector `v` (R66) -/
  | msix (v : Nat)
  /-- a PTP message of port `p`: 0 Sync, 1 Delay_Req, 2 Pdelay_Req, 3 Pdelay_Resp, 9 Delay_Resp (R331) -/
  | ptp (p kind : Nat) (m : PtpMsg)
  /-- an Announce of port `p` -/
  | ann (p : Nat) (m : AnnMsg)
  /-- a frame of port 0 ETHA, 1 ETHB or 2 ETHC, from the destination address to the FCS -/
  | frame (p : Nat) (bytes : List Byte)
  /-- a frame on the bus of CAN controller `k` -/
  | can (k : Nat) (f : CanFrame)
  /-- an essence of generation `gen` has gone out on the mirror link (R418) -/
  | essence (gen : Nat)
  /-- a handback request or its lapse (R426), or the confirmation of a handback generation (R426, R427), on the mirror link -/
  | handback
  | handbackOff
  | confirm (gen : Nat)
  /-- a heartbeat pulse on HB_OUT (R420) -/
  | beat
  deriving DecidableEq, Repr

/-- What an unlisted sort of a bank holds: END (R107). -/
def endWord (_ : Nat) : W64 := 0xFC00000000000000#64

/-- A bank filled with END, its tables 0 (R107). -/
def BankS.empty : BankS := ⟨[], 0, [], [], []⟩

/-- A platen before any galley: memories 0, banks empty (R83, R95, R107). -/
def PltS.init : PltS :=
  { x := [], y := [], c := [], acc := [], ptr := [], act := BankS.empty, stg := BankS.empty, actBank := false
    actWorst := 0, stgWorst := 0, stgBusy := false, swapPending := false, foreOver := false, bare := false
    jobBusy := false, running := false, ended := false, pos := 0, mask := 0, sched := 0, phi := 0, be := 0, det := 23
    held := [], scrub := 0, gap := false }

/-- A mode machine that no MODE section loads (R101). -/
def MmS.init : MmS := ⟨[], 0, 0, false, 0⟩

/-- What an unlisted register word reads as: the numbers of its Reset column (R9). -/
def regReset (a : Nat) : Word :=
  match resetWords.find? (fun p => p.1.hits a) with
  | some p => p.2
  | none => 0#32

/-- What an unlisted byte of main SRAM or DRAM reads as (log entry 3). -/
def memReset (_ : Nat) : Byte := 0#8

/-- A PTP instance before any message. -/
def PortS.init : PortS :=
  { pstate := 0, asCapable := false, gm := none, parent := 0, annAlive := false, better := 0, ofs := 0, ofsAt := none
    mpd := none, sync := none, last := none, req := none, presp := none, resp := none, rate := (1, 1), seqSync := 0
    seqAnn := 0, seqReq := 0 }

/-- The time base after the first power-up: UNSET, LNS 0, INCR nominal (R321, R322). -/
def TimS.init : TimS :=
  { acc := 0, incr := 0x10000000, servo := 0x10000000, integ := 0, hist := [], st := .unset, sel := none, xdiff := false, xhold := false, dozed := false, xAbove := 0
    xWithin := 0, slewLeft := 0, slewDone := 0, slewAt := 0, accept := false, widen := 0, port0 := PortS.init
    port1 := PortS.init, capPcie := 0, capQspi := 0, stepped := 0 }

/-- The device state and impression generator after device reset (R9, R31). -/
def SysS.init : SysS :=
  { st := .boot, prev := .off, running := false, imp := 0, first := false, s0 := 0, next := 0, open_ := 0
    adjusting := false, adj := 0, start := 0, startDue := false, dozeReq := 0, runReq := false, idleAt := 0, stAt := 0 }

/-- The quoin unit after device reset. -/
def QuoS.init : QuoS :=
  { owner := none, lastWrite := 0, staged := [], full := false, pending := none, skip := 0, report := [], implicit := [], began := 0, timed := none }

/-- The event log after device reset (R468). -/
def EvtS.init : EvtS := ⟨[], [], false, 0, 0⟩

/-- Power after device reset: PD_AON, PD_SYS, PD_SAF and PD_FIO are on (the reset value 0x3003). -/
def PwrS.init : PwrS :=
  { on := 0x3003#14, orUp := true, rel := true, sysRet := false, pllLock := false, xinLost := false, x32Lost := false, dozeAt := 0, dozeCause := 0
    waking := false, wakeAt := 0, abort := false, handed := false, held := [], heldErrs := [], savedPlts := [], savedRegs := [], savedSrc := [], savedSat := [], saved := false, areas := [] }

/-- The test unit after device reset: IDCODE is current (R470). -/
def TstS.init : TstS := ⟨none, none, 0, 0, 0, 0, 0x01#8, 0x01#8, some 0x2D48C1E5#32, none, [], []⟩

/-- An EDG channel (R140 to R169). Outputs are numbered 0 UH, 1 UL, 2 VH, 3 VL, 4 WH, 5 WL; sets of outputs are
numbers with bit `o` for output `o`. -/
structure ChanS where
  /-- the impression of the first lock point (R141) -/
  lock : Option Nat
  /-- reloads since the first lock point (R150) -/
  q : Nat
  /-- the instant of the last reload; the instants of this part are those of `clk` -/
  reload : Nat
  /-- the active set (R152), empty when there is none -/
  active : List Nat
  /-- complete sets waiting, oldest first, with their completion instants (R151) -/
  sets : List (Nat × List Nat)
  /-- compare words of a set that a publish has not yet completed (R106), by compare number -/
  part : SMap Nat
  /-- compare levels after R154 -/
  lvl : Nat
  /-- outputs that wait for an ON event after unmasking (R158) -/
  blk : Nat
  /-- wanted levels before the interlock, and the driven levels -/
  want : Nat
  drv : Nat
  /-- by output: the instant the wanted level rose, of the last turn-on and of the last turn-off, plus 1 -/
  wantAt : SMap Nat
  onAt : SMap Nat
  offAt : SMap Nat
  /-- outputs stay low until a transfer point (R160) -/
  hold : Bool
  midx : Nat
  mpend : Option Nat
  /-- when the index last changed (R157) -/
  mAt : Nat
  /-- by how much, in ns, the impressions of the present lock interval have been lengthened, and those of the last one (R141) -/
  adj : Int
  adjOld : Int
  /-- the mask entry last in effect -/
  entry : Nat
  /-- edges are placed on the coarse grid, now and from the next reload (R149) -/
  coarse : Bool
  coarseNext : Bool
  deriving DecidableEq, Repr

/-- An auxiliary timer (R162): the ON and OFF values in effect, and whether it waits for its reference's reload. -/
structure AuxS where
  on : Nat
  off : Nat
  wait : Bool
  deriving DecidableEq, Repr

/-- An AIN channel (R127): the last result, the results since the last sample instant, and when the conversion under way began. -/
structure AinS where
  last : Nat
  sum : Nat
  n : Nat
  conv : Option Nat
  deriving DecidableEq, Repr

/-- The balls: what each carries, and the levels at the lines the device acts on (R50, R55, R494). -/
structure PinS where
  /-- by ball number: 0 unclaimed, 1 + FUNC claimed, 0x20000 + FUNC lost -/
  balls : SMap Nat
  /-- by FUNC code: the function has its ball -/
  funcs : SMap Bool
  /-- by ball number: OPT -/
  opts : SMap Nat
  ownOut : Bool
  ownIn : Bool
  penFb : Bool
  porn : Bool
  rstn : Bool
  /-- PPS_OUT is high (R338) -/
  ppsOut : Bool
  deriving DecidableEq, Repr

/-- A track segment as BIND gives it (R206): channel, Hall triplet, mode machine, B_j and AOFS_j. -/
structure SegS where
  ch : Nat
  hall : Nat
  mm : Nat
  b : Int
  aofs : Int
  deriving DecidableEq, Repr

/-- The track unit (R222 to R232). Segments are keyed 64 × track + segment. -/
structure TrkS where
  seg : SMap SegS
  /-- LAST_LEN by track -/
  lastLen : SMap Nat
  /-- segment states, and evaluations spent in DRAIN -/
  st : SMap Nat
  drain : SMap Nat
  /-- the states to reach EDG at the next boundary, by channel (R223) -/
  next : SMap Nat
  /-- clears of FAULT that apply at the next evaluation, by track -/
  clr : SMap Nat
  /-- channels whose Hall check has failed since the last evaluation (R230) -/
  fail : SMap Nat
  /-- movers with ℓ_E = 0, and with short coverage, at the last evaluation -/
  noDrive : SMap Nat
  short : SMap Nat
  deriving DecidableEq, Repr

/-- A segment that no entry binds. -/
def SegS.init : SegS := ⟨63, 255, 0, 0, 0⟩

/-- The track unit before any evaluation. -/
def TrkS.init : TrkS := ⟨[], [], [], [], [], [], [], [], []⟩

/-- A channel after R144. -/
def ChanS.init : ChanS :=
  { lock := none, q := 0, reload := 0, active := [], sets := [], part := [], lvl := 0, blk := 0, want := 0, drv := 0
    wantAt := [], onAt := [], offAt := [], hold := true, midx := 0, mpend := none, mAt := 0, adj := 0, adjOld := 0, entry := 63, coarse := false
    coarseNext := false }

/-- A timer before any galley. -/
def AuxS.init : AuxS := ⟨0, 0, true⟩

/-- An AIN channel before any conversion. -/
def AinS.init : AinS := ⟨0, 0, 0, none⟩

/-- The balls after device reset: none claimed; OWN_OUT released (R497). -/
def PinS.init : PinS :=
  { balls := [], funcs := [], opts := [], ownOut := false, ownIn := false, penFb := false, porn := true, rstn := true
    ppsOut := false }

/-- A command that a motion unit has not admitted yet (R249): its code, the servo-period boundaries to pass
first, and CFG as the write read it. -/
structure MCmd where
  code : Nat
  skip : Nat
  cfg : Word
  deriving DecidableEq, Repr

/-- A profile unit (R244 to R248) beyond its registers. -/
structure PrfS where
  /-- the set-points of the last step and of the step before -/
  sp : Kin
  prev : Kin
  /-- the plan, where it starts, and the ns that have passed since -/
  segs : Segs
  base : Kin
  el : Nat
  /-- the position a move ends at -/
  goal : Int
  /-- the plan has no end: a jog, or a limit that is 0 -/
  endless : Bool
  /-- the jog runs toward minus infinity -/
  neg : Bool
  /-- the limits the plan was made under -/
  lims : Lims
  pend : Option MCmd
  deriving DecidableEq, Repr

/-- An accord (R251 to R258) beyond its registers. -/
structure AcdS where
  cfg : Word
  dis : Nat
  s0 : Int
  m0 : Int
  num : Word
  den : Word
  /-- M at the last step, once there is one -/
  m : Option Int
  /-- the catch-up term, its plan, where that starts, and the ns since -/
  c : Kin
  segs : Segs
  base : Kin
  el : Nat
  endless : Bool
  lims : Lims
  /-- the catch-up ends at c = 0 -/
  pos : Bool
  cDone : Bool
  /-- |v_ff|, |a_ff| were above the limits at the last step -/
  overV : Bool
  overA : Bool
  pend : Option MCmd
  deriving DecidableEq, Repr

/-- A buffered path segment (R260). -/
structure PSeg where
  ty : Nat
  pa : Nat
  pb : Nat
  endV : Nat
  tag : Nat
  ends : List Int
  ca : Int
  cb : Int
  /-- CA_L, for DWELL -/
  dwell : Nat
  /-- the arc check has been made -/
  seen : Bool
  deriving DecidableEq, Repr

/-- A path group (R259 to R263): the buffer, whose first segment is in progress outside IDLE. -/
structure PthS where
  buf : List PSeg
  axes : List Nat
  /-- the members' positions at the start of the present segment, in 2^-32 inc -/
  start : List Int
  /-- progress along the present segment -/
  k : Kin
  /-- ns spent in the present DWELL -/
  dwelt : Nat
  pend : Option MCmd
  deriving DecidableEq, Repr

/-- An ARM or CANCEL that a schedule entry has not admitted yet (R269): the boundaries to pass first, and for an
ARM the instant of the write, in ns of LNS, and what it read (R264). -/
inductive SCmd
  | cancel (skip : Nat)
  | arm (skip at_ time : Nat) (act arg period : Word)
  deriving DecidableEq, Repr

/-- A schedule entry (R264 to R270) beyond its registers: TIME, ACT, ARG and PERIOD as read at ARM, whether the
ARM came after TIME within GRACE, and commands not admitted yet, oldest first. -/
structure SchS where
  time : Nat
  act : Word
  arg : Word
  period : Nat
  late : Bool
  pend : List SCmd
  deriving DecidableEq, Repr

/-- An entry never armed. -/
def SchS.init : SchS := ⟨0, 0, 0, 0, false, []⟩

/-- The motion unit and the schedule (R240 to R270). -/
structure MotS where
  prf : SMap PrfS
  acd : SMap AcdS
  pth : SMap PthS
  sch : SMap SchS
  /-- an essence has been restored and RUN has not begun yet (R243) -/
  restored : Bool
  deriving DecidableEq, Repr

/-- A profile unit at rest at 0. -/
def PrfS.init : PrfS := ⟨⟨0, 0, 0⟩, ⟨0, 0, 0⟩, [], ⟨0, 0, 0⟩, 0, 0, false, false, ⟨0, 0, 0, 0⟩, none⟩

/-- An accord that is OFF. -/
def AcdS.init : AcdS :=
  { cfg := 0, dis := 0, s0 := 0, m0 := 0, num := 0, den := 0, m := none, c := ⟨0, 0, 0⟩, segs := [], base := ⟨0, 0, 0⟩
    el := 0, endless := false, lims := ⟨0, 0, 0, 0⟩, pos := false, cDone := true, overV := false, overA := false
    pend := none }

/-- An idle path group. -/
def PthS.init : PthS := ⟨[], [], [], ⟨0, 0, 0⟩, 0, none⟩

/-- The motion unit at reset. -/
def MotS.init : MotS := ⟨[], [], [], [], false⟩

/-- Field outputs beyond their registers (R309 to R317). Sets of channels or pairs are numbers. -/
structure FioS where
  /-- commanded levels when the watchdog expired (R312) -/
  held : Nat
  /-- commanded levels kept through DOZE (R309) -/
  frozen : Nat
  /-- pairs that a fault has switched off (R317), until their next release -/
  sbcOff : Nat
  /-- released pairs whose PULL time has ended (R316) -/
  sbcHold : Nat
  /-- when the watchdog last restarted (R312), and when each group last RECOVERED (R314), in 1/256 ns of `clk` -/
  wdtAt : Nat
  recAt : SMap Nat
  /-- outputs whose OPEN was found with the output off (R311) -/
  openOff : Nat
  /-- groups whose supply measured 0 V last (R477) -/
  absent : Nat
  deriving DecidableEq, Repr

/-- The safety record (R286, R301): it survives power loss. -/
structure RecS where
  sigConf : Word
  hours : Nat
  /-- H_pass by axis -/
  pass : SMap Int
  btFail : BitVec 8
  deriving DecidableEq, Repr

/-- A safety axis (R280 to R283). Limits are in 2^-32 of a register unit. -/
structure SaxS where
  lim : Nat
  target : Nat
  /-- a fall under way: where it started and when, in 1/256 ns -/
  fall : Option (Nat × Nat)
  /-- the plausibility offset times SDEN -/
  ofs : Int
  /-- the position latched by standstill monitoring -/
  p0 : Option Int
  deriving DecidableEq, Repr

/-- An open comparison window of a proof session (R299): SEQ, the port of the first copy, its bytes 0x00 to 0x13,
and whether it has been accepted already. -/
structure PWin where
  seq : Nat
  port : Nat
  body : List Byte
  used : Bool
  deriving DecidableEq, Repr

/-- A proof session (R296 to R300). -/
structure PsS where
  /-- SEQ of the last PDU sent, once one has been sent -/
  sent : Option Nat
  last : Option Nat
  payload : BitVec 64
  wins : List PWin
  /-- consecutive pairs accepted since the path was lost, for ETHA and ETHB -/
  good0 : Nat
  good1 : Nat
  /-- SEQ of the last accepted pair: the next of a run is one higher (R299) -/
  pair : Option Nat
  deriving DecidableEq, Repr

/-- The safety island (R272 to R303) beyond its registers. -/
structure SafS where
  sax : SMap SaxS
  ps : SMap PsS
  /-- KFB inputs in discrepancy (R287) -/
  kfb : Nat
  /-- the commanded levels when those discrepancies arose, and the inputs whose command has changed since -/
  kfbLvl : Nat
  kfbChg : Nat
  /-- self-test causes present: bit 0 CLOCK, 1 SAF_MEM, 2 SELFTEST, 3 SUPPLY, 4 READBACK (R295) -/
  bad : Nat
  /-- the causes of R289 that stood at the last cycle, by code -/
  stood : List Nat
  /-- OVF and UE of PLT0 to PLT3 at the last cycle: bits 0 to 3, 4 to 7 -/
  plt : Nat
  /-- RESET_SEL at the last cycle -/
  sel : Bool
  /-- a host write of RESET waits for a safety cycle; true: the source that RESET_SRC names has acted (R276) -/
  rst : Option Bool
  /-- the instance with which each degradable cause rose (R304) -/
  dryIn : SMap Nat
  /-- the LNS of a wake, in ns, until the first page after it has given the plausibility offsets (R292) -/
  ofsDue : Option Nat
  dryAck : Bool
  /-- RESCUE_REQ has been raised in this drydown -/
  rescued : Bool
  /-- the brake test: its axis, the phase's direction is negative, p_start, and that checking has begun -/
  bt : Option (Nat × Bool × Int × Bool)
  /-- the value that CONFIRM is writing into the safety record -/
  conf : Option Word
  /-- SIG_CALC is being computed again -/
  sig : Bool
  deriving DecidableEq, Repr

/-- Field outputs at reset. -/
def FioS.init : FioS := ⟨0, 0, 0, 0, 0, [], 0, 0⟩

/-- An axis before any reset. -/
def SaxS.init : SaxS := ⟨0, 0, none, 0, none⟩

/-- A session before any PDU. -/
def PsS.init : PsS := ⟨none, none, 0, [], 0, 0, none⟩

/-- The island at power-up. -/
def SafS.init : SafS :=
  { sax := [], ps := [], kfb := 0, kfbLvl := 0, kfbChg := 0, bad := 0, stood := [], plt := 0, sel := false, rst := none
    dryIn := [], ofsDue := none, dryAck := false, rescued := false, bt := none, conf := none, sig := false }

/-- The safety record of a new part (log entry 16). -/
def RecS.init : RecS := ⟨0#32, 0, [], 0#8⟩

/-- A partner context beyond its registers (R363 to R368): SILENCE in ms, the key slots, and the LNS, in ns, of
its last valid frame. -/
structure CtxS where
  silence : Nat
  key0 : Option (BitVec 128)
  key1 : Option (BitVec 128)
  last : Nat
  /-- left unused until galley load (R462) -/
  dead : Bool
  deriving DecidableEq, Repr

/-- An admission template (R364), with its key slots (R368). -/
structure TmplS where
  ty : Nat
  pinned : Bool
  ports : Nat
  auth : Bool
  silence : Nat
  mac : Nat
  macMask : Nat
  ip : Nat
  ipMask : Nat
  active : Nat
  key0 : Option (BitVec 128)
  key1 : Option (BitVec 128)
  deriving DecidableEq, Repr

/-- A layout (R353 to R361) beyond its entry in main SRAM. -/
structure LayS where
  en : Bool
  lost : Bool
  pathA : Bool
  pathB : Bool
  overrun : Bool
  authFail : Bool
  /-- the last SEQ sent, or LAST; none before the first -/
  last : Option Nat
  /-- the ports whose copy of LAST has come: bit 0 ETHA, bit 1 ETHB -/
  ports : Nat
  /-- LSEQ and LTIME as the registers show them -/
  seq : Nat
  t : Nat
  dup : Nat
  disc : Nat
  /-- the LNS, in ns, of the last sending -/
  sentAt : Nat
  deriving DecidableEq, Repr

/-- Work of the imposition engine (R356): the layout, its rank among classes, the due instant in 1/256 ns, and
for a received frame its SEQ and payload. -/
structure Work where
  lay : Nat
  cls : Nat
  due : Nat
  rx : Option (Nat × List Byte)
  deriving DecidableEq, Repr

/-- A frame waiting to leave ETHA or ETHB: the destination, the header without TX_STAMP, the payload and the tag. -/
structure TxFrame where
  mac : Nat
  ip : Nat
  proof : Bool
  head : List Byte
  payload : List Byte
  tag : List Byte
  deriving DecidableEq, Repr

/-- Networks, partners and the imposition engine (R342 to R370) beyond their registers. -/
structure NetS where
  ctx : SMap CtxS
  tmpl : SMap TmplS
  lay : SMap LayS
  /-- work in the order in which the engine takes it, and when it took the first, in 1/256 ns -/
  work : List Work
  began : Nat
  /-- operations done, with their instants in ns, over the last 100 ms -/
  ops : List (Nat × Nat)
  tx0 : List TxFrame
  tx1 : List TxFrame
  /-- when the last refusal event was raised, in ns (R367) -/
  refusedAt : Option Nat
  /-- ETHC: positions in the rings, and a transmit scan under way -/
  txPos : Nat
  rxPos : Nat
  txScan : Bool
  deriving DecidableEq, Repr

/-- A context that is free. -/
def CtxS.init : CtxS := ⟨0, none, none, 0, false⟩

/-- No template. -/
def TmplS.init : TmplS := ⟨0, false, 0, false, 0, 0, 0, 0, 0, 0, none, none⟩

/-- A layout that is not in use. -/
def LayS.init : LayS := ⟨false, false, false, false, false, false, none, 0, 0, 0, 0, 0, 0⟩

/-- Networks at reset. -/
def NetS.init : NetS := ⟨[], [], [], [], 0, [], [], [], none, 0, 0, false⟩

/-- An entry of a CAN receive queue (R382): the frame, its filter and its start-of-frame stamp. -/
structure CanEnt where
  f : CanFrame
  flt : Nat
  stamp : Nat
  deriving DecidableEq, Repr

/-- A CAN controller (R372 to R386) beyond its registers. -/
structure CanS where
  /-- INIT is in effect: the controller is off the bus -/
  off : Bool
  pxe : Bool
  /-- mailboxes whose cancelling waits for the end of their transmission -/
  cancel : Nat
  /-- when each mailbox was requested, in 1/256 ns -/
  reqAt : SMap Nat
  /-- the queues, oldest first, with the entry in the window -/
  q0 : List CanEnt
  q1 : List CanEnt
  deriving DecidableEq, Repr

/-- A controller at reset. -/
def CanS.init : CanS := ⟨true, false, 0, [], [], []⟩

/-- A recorder (R388 to R397) beyond its registers. -/
structure AcqRec where
  /-- the configuration registers CFG to MEAS as read at ARM -/
  cfg : List Word
  /-- the frame that the next sample takes -/
  pos : Nat
  /-- samples since the ARM, and instants in 1/256 ns and SYS.IMP_COUNT of those in the ring, newest first -/
  n : Nat
  insts : List (Nat × Nat)
  /-- the sample k_T of an accepted trigger, counted since the ARM, and its PRE_ACT -/
  kT : Nat
  pre : Nat
  /-- FRAC, TRIG_MASK, the condition and the instant of the trigger point in 1/256 ns -/
  frac : Nat
  mask : Nat
  cond : Nat
  at_ : Nat
  forced : Bool
  /-- the fine part of that instant, in 1/256 ns: 0 but of a TRG_IN condition (R392, R397) -/
  fine_ : Nat
  /-- by trigger condition: the previous sample, and whether a MODE 2 or 3 condition may trigger again -/
  prev : SMap (Int × Bool)
  /-- what the next sample instant follows, at the ARM or the last sample: `clk`, or for clock 2 the number of conversion starts
  (R389, R391) -/
  gate : Nat
  /-- the instant of the first sample since the ARM in 1/256 ns, plus 1 (R393) -/
  born : Nat
  deriving DecidableEq, Repr

/-- A measurement job (R400): recorder, slot, configuration, and header words 1 to 5 of its record. -/
structure AcqJob where
  rcd : Nat
  slot : Nat
  cfg : List Word
  seq : Nat
  n : Nat
  pre : Nat
  start : Nat
  w5 : Nat
  ts : Nat
  deriving DecidableEq, Repr

/-- The acquisition engine beyond its registers. -/
structure AcqS where
  rec_ : SMap AcqRec
  jobs : List AcqJob
  run : Option AcqJob
  /-- CLEAR of a histogram (bits 0 to 3) or map (bits 4 to 7) waits for its next job -/
  clear : Nat
  deriving DecidableEq, Repr

/-- A recorder that has not been armed. -/
def AcqRec.init : AcqRec := ⟨[], 0, 0, [], 0, 0, 0, 0, 0, 0, false, 0, [], 0, 0⟩

/-- Acquisition at reset. -/
def AcqS.init : AcqS := ⟨[], [], none, 0⟩

/-- An essence or flush record (R412, R415, R416): the header fields, the fixed sections and the map bodies, by
entry, with the words of each range. -/
structure Essence where
  gen : Nat
  handback : Bool
  flush : Bool
  trunc : Bool
  /-- S_E, SYS.IMP_COUNT and SYS.IMP_CFG.PERIOD -/
  sE : Nat
  imp : Nat
  period : Nat
  /-- the galley check and SIG_CALC -/
  check : Nat
  sig : Nat
  /-- MOTION: the units, and the register words of their states and of the SCH entries -/
  mot : MotS
  motRegs : SMap Word
  /-- MODE: the state of each mode machine -/
  mms : SMap Nat
  /-- POSITION: position, reference offset and last stamp by source, with SAT (bit 0) and LOST (bit 1) -/
  src : List (Nat × Int × Int × Nat)
  srcBits : SMap Nat
  /-- PARTNER: contexts with their register words, and the LAST of each layout plus 1 -/
  ctx : SMap CtxS
  ctxRegs : SMap Word
  last : SMap Nat
  /-- SAFETY: state, CAUSE, DRY bits, DRY_LEFT and the axes -/
  safState : Nat
  safCause : Nat
  safDry : Nat
  dryLeft : Nat
  sax : SMap SaxS
  /-- RESCUE_REQ has been raised in the drydown (R290) -/
  rescued : Bool
  /-- the pairs' release bits, for R425 -/
  rel : Nat
  maps : List (Nat × List Nat)
  deriving DecidableEq, Repr

/-- A rescue under way (R430): the VMAX it replaces, and the zone it goes to. -/
structure RescS where
  vmax : Nat
  zone : Int
  /-- a STOP has been issued for a low battery (R430 step 6) -/
  stop : Bool
  deriving DecidableEq, Repr

/-- Feeds, ownership, the mirror link and rescues (R407 to R430) beyond their registers. -/
structure ParS where
  /-- the unit's claim, and that its HB_OUT has pulsed within 250 µs (R420) -/
  claim : Bool
  beating : Bool
  /-- READY has been requested and waits for the claim of R421 -/
  leave : Bool
  /-- HB_IN is silent, the mirror link is up, the mirror link has been down for 1 ms (R423) -/
  silent : Bool
  link : Bool
  down : Bool
  /-- when OWN_IN was last released (R421), in 1/256 ns -/
  ownFree : Nat
  /-- the two essence slots of the standby (R418); PAR.ESS_STATUS.SLOT names the newest valid one -/
  slot0 : Option Essence
  slot1 : Option Essence
  /-- the last generation number, and the generation in transit -/
  gen : Nat
  sending : Option Essence
  /-- a handback has been asked for over the link, on either side (R426) -/
  asked : Bool
  /-- RELEASE has been accepted (R427) -/
  release : Bool
  /-- the number of the handback generation captured -/
  handGen : Option Nat
  /-- SYS.IMP_COUNT of the last capture boundary, plus 1 (R417) -/
  capAt : Nat
  /-- the essence of a takeover has been restored (R424 step 3) -/
  restored : Bool
  /-- the standby counters, their accepted line levels plus 1, their offsets and their latches (R419) -/
  cnt : SMap Int
  cntLines : SMap Nat
  cntOfs : SMap Int
  latches : List (Nat × SMap Int)
  /-- a dip is under way, and the end of the last one in 1/256 ns of `clk` (R410) -/
  dip : Bool
  dipEnd : Option Nat
  /-- a flush waits for the boundary that gives its content; a flush is being programmed -/
  flushDue : Bool
  flush : Option Essence
  /-- OFF, or a device reset, waits for the flush (R410, R497) -/
  offDue : Bool
  rstDue : Bool
  /-- movers waiting for a rescue, rescues under way, and a trigger that waits for the wake (R429) -/
  resq : List Nat
  resc : SMap RescS
  rescDue : Bool
  /-- by mover: the VMAX and the target that a rescue writes at the next impression boundary (R30, R430 step 5) -/
  rescNew : SMap RescS
  /-- by mover: the last i_HOLD published with HOLD_VALID, and when, in ns -/
  hold : SMap (Int × Nat)
  deriving DecidableEq, Repr

/-- What boot flash and the fuses keep (R43, R413). Flush slots are keyed 16 × region + slot; an unlisted one is
erased, one without a record has been programmed in part. -/
structure RomS where
  slots : SMap (Option (Option (Nat × List Byte)))
  region : Nat
  /-- the regions that are being erased, in their order (R413) -/
  erase : List Nat
  /-- key hashes by slot as little-endian numbers, none where unprogrammed, and REQUIRE -/
  keys : SMap (Option Nat)
  require : Bool
  /-- COL.REV: MAJOR and MINOR -/
  rev : BitVec 16
  deriving DecidableEq, Repr

/-- What a galley load waits for (R44 to R48). -/
inductive GlyNext
  | nothing | image | staging | check | signature | apply
  deriving DecidableEq, Repr

/-- The galley loader: what it waits for, its report, and the programming of the key store under way. -/
structure GlyS where
  next : GlyNext
  report : List Rep
  /-- key slot and hash, if any, and whether REQUIRE is set -/
  prog : Option (Option (Nat × Nat) × Bool)
  /-- the platens as the galley fills them, for their power-up (R39, R447) -/
  plts : SMap PltS
  deriving DecidableEq, Repr

/-- Pair and feeds at device reset. -/
def ParS.init : ParS :=
  { claim := false, beating := false, leave := false, silent := false, link := false, down := false, ownFree := 0, slot0 := none, slot1 := none, gen := 0
    sending := none, asked := false, release := false, handGen := none, capAt := 0, restored := false, cnt := [], cntLines := []
    cntOfs := [], latches := [], dip := false, dipEnd := none, flushDue := false, flush := none
    offDue := false, rstDue := false, resq := [], resc := [], rescDue := false, rescNew := [], hold := [] }

/-- An erased flash and an unprogrammed key store. -/
def RomS.init : RomS := ⟨[], 0, [], [], false, 0⟩

/-- The loader at device reset. -/
def GlyS.init : GlyS := ⟨.nothing, [], none, []⟩

end Sys2Proof.Machine
end

