-- ==== Sys2Proof/Syntax.lean ====
section
/-! DEFINITION. Sys2Proof/Syntax.lean: the commands of the block, one constructor of `Instr` per row of
spec/opcode_table.json. The operand types are in Sys2Proof/Operand.lean; an essence is one in Machine/Parts.lean. -/

namespace Sys2Proof

open Sys2Proof.Machine

/-- The commands of the block: one constructor per row of spec/opcode_table.json. -/
inductive Instr
  /-- REGISTER_WRITE (R3): Host write to a register that has no row of its own, applied by the field's access code. -/
  | registerWrite (h : Via) (a : Word) (v : Word)
  /-- READ_CLEAR (R3): Read of an RC field returns its value and then clears it. -/
  | readClear (h : Via) (a : Word)
  /-- PAIR_LOW_READ (R10): Read of the low word of a 64-bit register pair captures the whole value for that interface. -/
  | pairLowRead (h : Via) (a : Word)
  /-- SF_WRITE (R499): Host write of a safety-field register, taken as a whole only in COMMISSIONING and only when every field, reserved bit and relation is valid. -/
  | sfWrite (h : Via) (a : Word) (v : Word)
  /-- QS_IMPLICIT_WRITE (R505): Write to a QS field outside an open quoin, staged as an implicit one-field transaction. -/
  | qsImplicitWrite (h : Via) (a : Word) (v : Word)
  /-- PCIE_WRITE_REQUEST (R65): A PCI Express memory write request is received and completed. -/
  | pcieWriteRequest (t : Nat) (a : Word) (bytes : List (Option Byte)) (errs : List MemErr)
  /-- PCIE_READ_REQUEST (R65): A PCI Express memory read request is received and answered with Successful Completion. -/
  | pcieReadRequest (t : Nat) (a : Word) (n : Nat) (errs : List MemErr) (perrs : List PltErr)
  /-- QSPI_WRITE (R68): QSPI transfer with command 0x02 writes words at incrementing addresses. -/
  | qspiWrite (t : Nat) (cmd : Byte) (a : Word) (words : List Word) (errs : List MemErr)
  /-- QSPI_READ (R68): QSPI transfer with command 0x0B reads words after 8 dummy clocks. -/
  | qspiRead (t : Nat) (cmd : Byte) (a : Word) (n : Nat) (errs : List MemErr)
  /-- QSPI_TRANSFER_END (R69): HSPI_CSN rises, ending the transfer and discarding an incomplete final word. -/
  | qspiTransferEnd (t : Nat) (clocks : Nat)
  /-- IRQ_SWSET (R66): Write of SYS.IRQ_SWSET sets the pending bits of software vectors 29 to 31. -/
  | irqSwset (h : Via) (v : Word)
  /-- HOST_ACCESS_WAKE (R33): A host access arriving in DOZE wakes the device and completes once PD_SYS leaves retention. -/
  | hostAccessWake (h : Via) (a : Word) (w : Option Word)
  /-- PLATEN_MEMORY_ACCESS (R63): A host access to a running platen's X, Y or C memory is held. -/
  | platenMemoryAccess (h : Via) (a : Word) (w : Option Word) (errs : List PltErr)
  /-- HELD_ACCESS_COMPLETE (R63): A held platen-memory access completes in the gap after the platen's last publish slot. -/
  | heldAccessComplete (t : Nat) (p : Fin 5) (errs : List PltErr)
  /-- BEGIN (R70): Write of QUO.CTL.BEGIN opens a quoin owned by the writing interface or is refused. -/
  | quoBegin (h : Via)
  /-- QS_STAGED_WRITE (R71): The owner's write to a QS field inside an open quoin is staged and range-checked. -/
  | qsStagedWrite (h : Via) (a : Word) (v : Word)
  /-- COMMIT (R73): Write of QUO.CTL.COMMIT closes the quoin and sets PENDING, or refuses and rolls back when FULL. -/
  | quoCommit (h : Via)
  /-- ROLLBACK (R74): Write of QUO.CTL.ROLLBACK discards the staged values and closes the quoin unless a commit is pending. -/
  | quoRollback (h : Via)
  /-- QUOIN_TIMEOUT (R75): An open quoin without owner writes for QUO.TIMEOUT.MS rolls back and sets TIMED_OUT. -/
  | quoinTimeout (t : Nat)
  /-- IMPRESSION_BOUNDARY (R29): At each grid boundary IMP_COUNT advances, quoins apply, mode machines step, masks latch, inputs latch and formes start. -/
  | impressionBoundary (t : Nat) (bits : List (List Bool)) (errs : List MemErr) (mm : Option LocErr) (quo : Option LocErr) (scrub : List PltErr)
  /-- START_POLICY_RUN (R34): With START 2 the device makes the RUN request once at the first boundary at which R31 admits it. -/
  | startPolicyRun (t : Nat)
  /-- OUTPUT_PUBLISH (R104): After the last forme sort the platen issues its 32 publish descriptors into EDG shadow sets and main SRAM. -/
  | outputPublish (t : Nat) (p : Fin 4) (ats : List (Nat × Nat)) (errs : List PltErr) (merrs : List MemErr)
  /-- NOP (R85): Sort NOP takes one slot and does nothing. -/
  | sortNop (a : Srt)
  /-- MAC (R85): Sort MAC multiplies two operands and adds or subtracts the product into an accumulator. -/
  | sortMac (a : Srt)
  /-- MAC_DUAL (R85): Sort MAC with pair 11 runs both lanes, accumulating X·C and Y·C into paired accumulators. -/
  | macDual (a : Srt)
  /-- LDA (R85): Sort LDA loads an operand into an accumulator as a clearing write. -/
  | sortLda (a : Srt)
  /-- ADD (R85): Sort ADD adds or subtracts an operand to an accumulator. -/
  | sortAdd (a : Srt)
  /-- ACC (R85): Sort ACC adds or subtracts one accumulator to another. -/
  | sortAcc (a : Srt)
  /-- SHF (R85): Sort SHF shifts an accumulator by a signed amount. -/
  | sortShf (a : Srt)
  /-- UNA_NEG (R85): Sort UNA NEG negates an accumulator. -/
  | unaNeg (a : Srt)
  /-- UNA_ABS (R85): Sort UNA ABS takes the magnitude of an accumulator. -/
  | unaAbs (a : Srt)
  /-- UNA_RND (R85): Sort UNA RND rounds an accumulator to the data-word grid. -/
  | unaRnd (a : Srt)
  /-- UNA_CLR (R85): Sort UNA CLR clears an accumulator as a clearing write. -/
  | unaClr (a : Srt)
  /-- MIN (R85): Sort MIN keeps the smaller of accumulator and operand. -/
  | sortMin (a : Srt)
  /-- MAX (R85): Sort MAX keeps the larger of accumulator and operand. -/
  | sortMax (a : Srt)
  /-- LIM (R85): Sort LIM clamps an accumulator between X and Y and sets flag C when it changed. -/
  | sortLim (a : Srt)
  /-- SEL (R86): Sort SEL loads X or Y into an accumulator according to a condition on another accumulator. -/
  | sortSel (a : Srt)
  /-- LUT (R88): Sort LUT reads two table words from C memory and interpolates. -/
  | sortLut (a : Srt)
  /-- DLD (R85): Sort DLD loads or adds a 48-bit integer formed from X and Y. -/
  | sortDld (a : Srt)
  /-- DST (R85): Sort DST stores a saturated 48-bit accumulator as two words into X and Y. -/
  | sortDst (a : Srt)
  /-- STX (R87): Sort STX stores the shifted, rounded and saturated accumulator value into X memory. -/
  | sortStx (a : Srt)
  /-- STY (R87): Sort STY stores the store value of an accumulator into Y memory. -/
  | sortSty (a : Srt)
  /-- STXY (R87): Sort STXY stores two paired accumulators into X and Y memory. -/
  | sortStxy (a : Srt)
  /-- MOV (R85): Sort MOV copies one 24-bit word between X, Y and C sources and X or Y destinations. -/
  | sortMov (a : Srt)
  /-- PSET (R83): Sort PSET sets a pointer and its base. -/
  | sortPset (a : Srt)
  /-- PMOD_STRIDE (R83): Sort PMOD with MOD[3] 0 sets a pointer stride. -/
  | pmodStride (a : Srt)
  /-- PMOD_MODULO (R83): Sort PMOD with MOD[3] 1 sets a pointer modulo length. -/
  | pmodModulo (a : Srt)
  /-- REP (R91): Sort REP repeats the next sort a given number of times without interruption. -/
  | sortRep (a : Srt)
  /-- REPB (R91): Sort REPB loads the next k sorts into the repeat cache and repeats the block. -/
  | sortRepb (a : Srt)
  /-- BEXP_CLEAR (R95): Sort BEXP CLEAR resets the block-exponent detector to 23. -/
  | bexpClear (a : Srt)
  /-- BEXP_FEED (R95): Sort BEXP FEED feeds the redundant-sign count of X to the detector. -/
  | bexpFeed (a : Srt)
  /-- BEXP_GET (R95): Sort BEXP GET loads BE into an accumulator. -/
  | bexpGet (a : Srt)
  /-- BEXP_LATCH (R95): Sort BEXP LATCH copies the detector count to BE and resets the detector. -/
  | bexpLatch (a : Srt)
  /-- BSCL (R85): Sort BSCL scales an accumulator up or down by 2^BE. -/
  | sortBscl (a : Srt)
  /-- SEV (R85): Sort SEV raises a platen event unconditionally or on a condition. -/
  | sortSev (a : Srt)
  /-- END (R90): Sort END ends the forme. -/
  | sortEnd (a : Srt)
  /-- STAGED_BANK_WRITE (R110): Host write to the staged forme bank or its tables starts recomputation of the staged worst case. -/
  | stagedBankWrite (h : Via) (a : Word) (v : Word)
  /-- STG_WORST_DONE (R110): Recomputation of the staged worst-case impression completes and STG_BUSY clears. -/
  | stgWorstDone (t : Nat) (p : Fin 5)
  /-- MEAS_JOB_START (R115): PLTM starts the oldest queued measurement job when it is free. -/
  | measJobStart (t : Nat) (entry : BitVec 13)
  /-- MEAS_JOB_DONE (R400): A PLTM job ends, writes header words 16 to 31 and sets MEAS_DONE. -/
  | measJobDone (t : Nat) (errs : List MemErr)
  /-- OC_TRIP_ASSERT (R123): A phase's trip comparator asserts after CNT_TRIP consecutive evaluations at or above TH_TRIP. -/
  | ocTripAssert (t : Nat) (c : Fin 48) (p : Fin 3) (bits : List Bool)
  /-- OC_TRIP_DEASSERT (R123): A phase's trip comparator de-asserts after CNT_TRIP consecutive evaluations below TH_TRIP. -/
  | ocTripDeassert (t : Nat) (c : Fin 48) (p : Fin 3) (bits : List Bool)
  /-- WARN_RISE (R124): A phase's warning comparator asserts after CNT_WARN evaluations, sets WARN and logs an event. -/
  | warnRise (t : Nat) (c : Fin 48) (p : Fin 3) (bits : List Bool)
  /-- WARN_FALL (R124): A phase's warning comparator de-asserts after CNT_WARN evaluations below TH_WARN. -/
  | warnFall (t : Nat) (c : Fin 48) (p : Fin 3) (bits : List Bool)
  /-- STUCK (R126): A bitstream without transition for 128 modulator periods becomes STUCK and logs an event. -/
  | sdmStuck (t : Nat) (c : Fin 48) (p : Fin 3) (bits : List Bool)
  /-- STUCK_CLEAR (R126): The first transition of a stuck bitstream clears STUCK. -/
  | stuckClear (t : Nat) (c : Fin 48) (p : Fin 3) (latest before : Bool)
  /-- SETTLE_END (R121): SETTLE clears once 3·OSR3 modulator periods have passed after a filter change or power-up. -/
  | settleEnd (t : Nat) (c : Fin 48)
  /-- AIN_CONVERSION_START (R127): Each enabled AIN channel starts a conversion at every LNS multiple of 1,000 ns. -/
  | ainConversionStart (t : Nat)
  /-- AIN_RESULT (R127): An AIN conversion result becomes available 900 ns after its start. -/
  | ainResult (t : Nat) (k : Fin 16) (uV : Nat)
  /-- CARRIER_RELOAD (R141): A channel's carrier counter reaches the end of its period and reloads to 0. -/
  | carrierReload (t : Nat) (c : Fin 48)
  /-- COMPARE_FIRE (R146): A compare whose value is reached in the period fires and sets or clears its output's compare level. -/
  | compareFire (t : Nat) (c : Fin 48) (j : Fin 12)
  /-- INTERLOCK_TURN_ON (R155): A waiting leg output turns on once its partner has been low for DTIME. -/
  | interlockTurnOn (t : Nat) (c : Fin 48)
  /-- SHD_GO (R153): Write of EDG.SHD_GO completes the host shadow set of an unbound channel. -/
  | shdGo (h : Via) (c : Fin 48)
  /-- CALIBRATION_PASS (R148): A background pass measures the delay-line replicas and builds new tap tables every 250 µs. -/
  | calibrationPass (t : Nat) (resid : BitVec 8) (taps : List (Option Nat))
  /-- MASK_APPLY (R157): After MDLY the pending mask entry applies to the channel's outputs. -/
  | maskApply (t : Nat) (c : Fin 48)
  /-- AUX_TIMER_FIRE (R162): An auxiliary timer's ON or OFF value is reached in its reference channel's period and its level changes. -/
  | auxTimerFire (t : Nat) (a : Fin 16) (on : Bool)
  /-- TRIP_INPUT_ASSERT (R163): An external TRIP ball holds its active level for FILT clocks and the source asserts. -/
  | tripInputAssert (t : Nat) (x : Fin 24)
  /-- TRIP_INPUT_DEASSERT (R163): An external TRIP ball leaves its active level and the source de-asserts. -/
  | tripInputDeassert (t : Nat) (x : Fin 24)
  /-- XLATCH_CLEAR (R169): Write of EDG.XLATCH clears external trip latches whose sources are not asserted and refuses the rest. -/
  | xlatchClear (h : Via) (v : Word)
  /-- TLATCH_CLEAR (R169): Write of EDG.TLATCH.OC clears over-current latches whose sources are not asserted and refuses the rest. -/
  | tlatchClear (h : Via) (c : Fin 48) (v : Word)
  /-- HALL_STATE_CHANGE (R177): A Hall triplet's accepted state changes, counting, stamping or raising an error. -/
  | hallStateChange (t : Nat) (c : Fin 48) (lines : BitVec 3) (st : Nat)
  /-- ENCODER_EDGE (R175): An accepted A or B edge of a quadrature encoder counts, stamps and updates speed. -/
  | encoderEdge (t : Nat) (e : Fin 16) (a : Bool) (b : Bool) (st : Nat)
  /-- Z_EDGE (R176): An accepted active Z edge is checked against ZDIST and performs an armed re-reference. -/
  | zEdge (t : Nat) (e : Fin 16) (rise : Bool) (st : Nat)
  /-- SSI_READ_START (R179): An SSI read starts LEAD before the boundary, checks DT ready and latches the encoder. -/
  | ssiReadStart (t : Nat) (k : Fin 8) (dt : Bool)
  /-- SSI_WORD_COMPLETE (R180): The last bit of an SSI word is sampled and the word is checked, decoded and extended. -/
  | ssiWordComplete (t : Nat) (k : Fin 8) (bits : Nat)
  /-- STANDSTILL (R186): No accepted edge for TSTILL sets STILL and reports speed 0. -/
  | standstill (t : Nat) (src : BitVec 7)
  /-- LOST_CLEAR (R182): Clear of a source's LOST bit also sets its error counter to 0. -/
  | lostClear (h : Via) (src : BitVec 7)
  /-- REF_Z_ARM (R184): Write of CTL.REF_Z arms an encoder to re-reference at its next active Z edge. -/
  | refZArm (h : Via) (e : Fin 16)
  /-- LAT_ARM (R192): Write of LAT CTL.ARM reads CFG and arms the latch unit. -/
  | latArm (h : Via) (u : Fin 32)
  /-- LAT_DISARM (R192): Write of LAT CTL.DISARM disarms the unit and discards a pending capture. -/
  | latDisarm (h : Via) (u : Fin 32)
  /-- LAT_POP (R195): Write of LAT CTL.POP removes the oldest queue entry. -/
  | latPop (h : Via) (u : Fin 32)
  /-- LAT_FLUSH (R195): Write of LAT CTL.FLUSH empties the latch queue. -/
  | latFlush (h : Via) (u : Fin 32)
  /-- LATCH_CAPTURE (R193): An armed latch unit's selected input edge starts a capture of stamp and position. -/
  | latchCapture (t : Nat) (u : Fin 32) (st : Nat) (rise : Bool)
  /-- LATCH_ENTRY_COMPLETE (R193): A pending capture completes once the position source has settled and enters the queue or overflows. -/
  | latchEntryComplete (t : Nat) (u : Fin 32)
  /-- LATCH_ENTRY_OLD (R195): A latch entry's stamp reaches 2^31 ns of age and OLD is set. -/
  | latchEntryOld (t : Nat) (u : Fin 32) (e : Fin 4)
  /-- CMP_ARM (R198): Write of CMP CTL.ARM reads CFG, VAL and STEP and arms, judging whether the compare is behind. -/
  | cmpArm (h : Via) (u : Fin 64)
  /-- CMP_LATE_FIRE (R198): A compare armed behind with LATE_MODE 1 fires at the next servo-period boundary. -/
  | cmpLateFire (t : Nat) (u : Fin 64)
  /-- CMP_DISARM (R200): Write of CMP CTL.DISARM disarms the unit and ends a running pulse. -/
  | cmpDisarm (h : Via) (u : Fin 64)
  /-- CMP_PULSE_END (R199): A compare output pulse ends after WIDTH × 20 ns. -/
  | cmpPulseEnd (t : Nat) (u : Fin 64)
  /-- TDC_CALIBRATION (R196): The time-to-digital converter is calibrated every 250 µs. -/
  | tdcCalibration (t : Nat)
  /-- MOVER_REQUEST (R211): Write of MOV CTL.REQ raises the host-request event for the mover's mode machine. -/
  | moverRequest (h : Via) (m : Fin 32) (n : BitVec 4)
  /-- TRACK_EVALUATION (R223): 420 ns before each boundary the track unit computes overlaps, weights, segment states and the track table. -/
  | trackEvaluation (t : Nat) (errs : List MemErr)
  /-- HALL_FAULT_CLEAR (R230): Host clear of SYS.TRK FAULT bits, applied at the next evaluation. -/
  | hallFaultClear (h : Via) (k : Fin 8) (hi : Bool) (v : Word)
  /-- MOVE_ABS (R246): Write of PRF CMD code 1 requests a move to the absolute target TGT. -/
  | moveAbs (h : Via) (m : Fin 32)
  /-- MOVE_REL (R246): Write of PRF CMD code 2 requests a move by TGT from the present set-point. -/
  | moveRel (h : Via) (m : Fin 32)
  /-- JOG_POS (R246): Write of PRF CMD code 3 requests a jog toward +∞. -/
  | jogPos (h : Via) (m : Fin 32)
  /-- JOG_NEG (R246): Write of PRF CMD code 4 requests a jog toward −∞. -/
  | jogNeg (h : Via) (m : Fin 32)
  /-- PRF_STOP (R246): Write of PRF CMD code 5 requests a stop with DMAX and JMAX. -/
  | prfStop (h : Via) (m : Fin 32)
  /-- PRF_ABORT (R246): Write of PRF CMD code 6 requests an abort with QDEC and QJERK. -/
  | prfAbort (h : Via) (m : Fin 32)
  /-- ENGAGE (R254): Write of ACD CTL.ENGAGE requests engagement of an accord. -/
  | acdEngage (h : Via) (a : Fin 16)
  /-- DISENGAGE (R256): Write of ACD CTL.DISENGAGE requests disengagement of an accord. -/
  | acdDisengage (h : Via) (a : Fin 16)
  /-- PTH_START (R259): Write of PTH CTL.START starts a path group along its buffered segments. -/
  | pthStart (h : Via) (g : Fin 8)
  /-- PTH_HOLD (R263): Write of PTH CTL.HOLD brings the path to rest and holds it. -/
  | pthHold (h : Via) (g : Fin 8)
  /-- PTH_RESUME (R263): Write of PTH CTL.RESUME returns a holding path to RUN. -/
  | pthResume (h : Via) (g : Fin 8)
  /-- PTH_STOP (R263): Write of PTH CTL.STOP brings the path to rest under AP and JP and flushes it. -/
  | pthStop (h : Via) (g : Fin 8)
  /-- PTH_ABORT (R263): Write of PTH CTL.ABORT brings the path to rest under QDP and QJP and flushes it. -/
  | pthAbort (h : Via) (g : Fin 8)
  /-- PUSH (R260): Write of PTH CTL.PUSH copies the staging registers into the segment buffer at once. -/
  | pthPush (h : Via) (g : Fin 8)
  /-- PTH_FLUSH (R260): Write of PTH CTL.FLUSH empties the buffer of an idle group. -/
  | pthFlush (h : Via) (g : Fin 8)
  /-- SCH_ARM (R266): Write of SCH CTL.ARM, admitted at a boundary, arms an entry or marks it LATE, EXPIRED or REFUSED. -/
  | schArm (h : Via) (x : Fin 64)
  /-- SCH_CANCEL (R269): Write of SCH CTL.CANCEL, admitted at a boundary, cancels an entry. -/
  | schCancel (h : Via) (x : Fin 64)
  /-- SCHEDULED_ACTION_FIRE (R265): An armed entry falls due at a boundary and acts in index order. -/
  | scheduledActionFire (t : Nat)
  /-- REQ_READY (R31): Write of SYS.CTL.REQ = READY moves the device to READY or STANDBY, or is refused. -/
  | reqReady (h : Via)
  /-- REQ_RUN (R31): Write of SYS.CTL.REQ = RUN moves READY to RUN when safety and ownership allow, or is refused. -/
  | reqRun (h : Via)
  /-- REQ_DOZE (R31): Write of SYS.CTL.REQ = DOZE requests DOZE entry from READY, or is refused. -/
  | reqDoze (h : Via)
  /-- STOP_ACK (R31): Write of SYS.CTL.STOP_ACK returns SAFE_STOP to READY when safety is SAFE and no cause is present. -/
  | stopAck (h : Via)
  /-- SAFETY_CYCLE (R273): Every 250 µs the safety island reads its inputs, evaluates its functions and drives its outputs. -/
  | safetyCycle (t : Nat) (supply rb : Bool)
  /-- SLS_VIOLATION (R280): Monitored speed above the monitored limit throughout SLS_T makes a safe stop with cause SLS. -/
  | slsViolation (t : Nat) (a : Fin 8)
  /-- IMPLAUSIBLE (R281): Primary and secondary disagree beyond TOL throughout PL_T, making a safe stop. -/
  | safImplausible (t : Nat) (a : Fin 8)
  /-- SEC_LOST_CLEAR (R282): After 1 s of clean secondary pages the degradable cause SEC_LOST clears. -/
  | secLostClear (t : Nat) (a : Fin 8)
  /-- DRY_SECOND (R290): DRY_LEFT counts down by one second. -/
  | drySecond (t : Nat)
  /-- RESCUE_REQ (R290): DRY_LEFT reaches TRESQ and the island raises RESCUE_REQ once. -/
  | rescueReq (t : Nat)
  /-- DRY_EXPIRED (R290): DRY_LEFT reaches 0 and the island makes a safe stop with cause DRY_EXPIRED. -/
  | dryExpired (t : Nat)
  /-- ENTER_COMM (R302): Write of SAF.CTL.ENTER_COMM with KEY 0xC3 enters COMMISSIONING. -/
  | enterComm (h : Via)
  /-- EXIT_COMM (R275): Write of SAF.CTL.EXIT_COMM leaves COMMISSIONING for SAFE or LOCKED. -/
  | exitComm (h : Via)
  /-- SAF_RESET (R276): Write of SAF.CTL.RESET is judged as a reset from SAFE to OPERATIONAL or DRYDOWN, or refused. -/
  | safReset (h : Via)
  /-- SAF_STOP (R288): Write of SAF.CTL.STOP makes a safe stop with cause HOST in any safety state. -/
  | safStop (h : Via)
  /-- DRY_ACK (R291): Write of SAF.CTL.DRY_ACK permits return from DRYDOWN when AUTO_RETURN is 0. -/
  | dryAck (h : Via)
  /-- CONFIRM (R302): Write of SAF.CONFIRM writes the confirmed signature to the safety record or is refused. -/
  | safConfirm (h : Via) (v : Word)
  /-- CONFIRM_RECORD_DONE (R302): The safety record write of a confirmation completes and SIG_BUSY clears. -/
  | confirmRecordDone (t : Nat)
  /-- SIG_RECOMPUTE_DONE (R301): Recomputation of SIG_CALC after an SF write completes. -/
  | sigRecomputeDone (t : Nat)
  /-- BT_GO (R285): Write of SAF.BT_CTL.GO starts a brake test of an axis or refuses it. -/
  | btGo (h : Via) (a : Fin 8)
  /-- BRAKE_TEST_CHECK_START (R285): 50 ms after the test-torque event the island starts checking current and travel. -/
  | brakeTestCheckStart (t : Nat)
  /-- BRAKE_TEST_PHASE_END (R285): A brake-test phase reaches BT1.TIME, starting the second phase or ending the test. -/
  | brakeTestPhaseEnd (t : Nat)
  /-- BT_CANCEL (R285): Write of SAF.BT_CTL.CANCEL ends the running test as ABORTED. -/
  | btCancel (h : Via)
  /-- BT_CLR_FAIL (R286): Write of SAF.BT_CTL.CLR_FAIL in COMMISSIONING clears BT_FAIL and resets H_pass. -/
  | btClrFail (h : Via) (a : Fin 8)
  /-- POWERED_HOUR (R286): A powered hour is counted and BT_DUE or BT_LOCK may be set. -/
  | poweredHour (t : Nat)
  /-- PROOF_PDU_SEND (R297): Each enabled proof session sends a PDU every TX_PER on both networks. -/
  | proofPduSend (t : Nat) (n : Fin 8)
  /-- PROOF_FRAME_RECEIVE (R369): A KIND 2 frame is checked against its context and session and passed to the safety island or discarded. -/
  | proofFrameReceive (t : Nat) (p : Fin 2) (f : List Byte) (ok : Bool)
  /-- PROOF_WINDOW_CLOSE (R299): A proof window closes with one copy, marking the silent path lost. -/
  | proofWindowClose (t : Nat) (n : Fin 8) (seq : Word)
  /-- PROOF_WATCHDOG (R300): WD passes without acceptance, the session is no longer UP and a safe stop may follow. -/
  | proofWatchdog (t : Nat) (n : Fin 8)
  /-- KFB_DISCREPANCY (R287): A contactor feedback differs from its expected level throughout DT ms. -/
  | kfbDiscrepancy (t : Nat) (k : Fin 16)
  /-- KFB_DISCREPANCY_CLEAR (R287): A contactor feedback matches its expected level throughout DT ms and the discrepancy clears. -/
  | kfbDiscrepancyClear (t : Nat) (k : Fin 16)
  /-- DIAG_PASS (R295): A full diagnostic pass of platen, forme ROM and memory completes. -/
  | diagPass (t : Nat) (wrong : Bool) (ue : Bool) (ce : Nat)
  /-- CLOCK_CHECK (R295): The RC clock cross-check counts SYS or AON cycles over its window. -/
  | clockCheck (t : Nat) (n : Nat)
  /-- READBACK_FAULT (R295): An output read-back differs from its command for 1 ms, raising READBACK. -/
  | readbackFault (t : Nat)
  /-- FBK_STALL (R295): SYS.IMP_COUNT does not advance for 1 ms in OPERATIONAL or DRYDOWN. -/
  | fbkStall (t : Nat)
  /-- FIO_INPUT_ACCEPT (R307): A field input level stable for DEB µs is accepted, possibly waking the device. -/
  | fioInputAccept (t : Nat) (n : Fin 32) (level : Bool)
  /-- FIO_OUT_WRITE (R309): Write of FIO.OUT changes commanded output levels and restarts the watchdog. -/
  | fioOutWrite (h : Via) (v : Word)
  /-- OUTPUT_OVERLOAD (R311): An output current above its limit for the stated time switches the output off and latches OVL. -/
  | outputOverload (t : Nat) (n : Fin 32)
  /-- OUTPUT_OVERTEMP (R311): An output switch junction above 150 °C switches it off and latches OT. -/
  | outputOvertemp (t : Nat) (n : Fin 32)
  /-- OPEN_WIRE (R311): An open-wire condition persisting 100 ms latches OPEN. -/
  | openWire (t : Nat) (n : Fin 32)
  /-- DIAG_CLEAR (R311): Clear of FIO.CH DIAG bits releases a latched output fault, refused for OT above 130 °C. -/
  | diagClear (h : Via) (n : Fin 32) (v : Word) (hot : Bool)
  /-- WDT_KICK (R312): Write of FIO.WDT.KICK restarts the logic-silence watchdog. -/
  | wdtKick (h : Via)
  /-- WDT_EXPIRE (R312): No qualifying write for MS ms sets WDT_EXP and outputs take SAFE_ST. -/
  | wdtExpire (t : Nat)
  /-- WDT_EXP_CLEAR (R313): Clear of WDT_EXP restarts the watchdog and outputs follow their commands. -/
  | wdtExpClear (h : Via)
  /-- VFLD_MEASURE (R305): Each field supply is measured every 100 µs and judged against its warning and cut-off levels. -/
  | vfldMeasure (t : Nat) (g : Fin 4) (v : BitVec 10)
  /-- FIELD_RECOVERED (R314): A field supply above 19 V for 10 ms after FIELD_UV sets RECOVERED and restores RESTORE outputs. -/
  | fieldRecovered (t : Nat) (g : Fin 4)
  /-- UV_ACK (R314): Write of FIO.GRP CTL.UV_ACK clears FIELD_UV after recovery or is refused. -/
  | uvAck (h : Via) (g : Fin 4)
  /-- SBC_PULL_END (R316): After PULL ms a released brake pair changes to hold PWM. -/
  | sbcPullEnd (t : Nat) (p : Fin 8) (mA : BitVec 12)
  /-- SBC_TEST_PULSE (R317): Every 10 ms each brake switch is pulsed alone and its read-back checked. -/
  | sbcTestPulse (t : Nat) (p : Fin 8) (mA : BitVec 12)
  /-- SBC_FAULT (R317): A brake coil over-current or open coil switches the pair off and sets its fault bit. -/
  | sbcFault (t : Nat) (p : Fin 8) (open_ : Bool) (mA : BitVec 12)
  /-- STO_TEST_PULSE (R318): Every 10 ms a released STO output is pulsed off for STO_TP and its read-back checked. -/
  | stoTestPulse (t : Nat) (n : Fin 8)
  /-- STO_OVERLOAD (R318): An STO current above 150 mA for 1 ms switches it off and sets OVL. -/
  | stoOverload (t : Nat) (n : Fin 8)
  /-- KFB_INPUT_CHANGE (R319): A contactor feedback input changes after its 1 ms filter. -/
  | kfbInputChange (t : Nat) (k : Fin 16) (level : Bool)
  /-- PTP_SYNC_RECEIVE (R332): A PTP Sync message is received and stamped. -/
  | ptpSyncReceive (t : Nat) (p : Fin 2) (m : PtpMsg)
  /-- PTP_FOLLOW_UP_RECEIVE (R331): A PTP Follow_Up message completes a two-step Sync. -/
  | ptpFollowUpReceive (t : Nat) (p : Fin 2) (m : PtpMsg)
  /-- PTP_DELAY_REQ_RECEIVE (R336): A PTP Delay_Req received by a master port is answered. -/
  | ptpDelayReqReceive (t : Nat) (p : Fin 2) (m : PtpMsg)
  /-- PTP_DELAY_RESP_RECEIVE (R332): A PTP Delay_Resp message completes the E2E delay measurement. -/
  | ptpDelayRespReceive (t : Nat) (p : Fin 2) (m : PtpMsg)
  /-- PTP_PDELAY_REQ_RECEIVE (R331): A PTP Pdelay_Req is answered with a one-step Pdelay_Resp. -/
  | ptpPdelayReqReceive (t : Nat) (p : Fin 2) (m : PtpMsg) (dep : Nat)
  /-- PTP_PDELAY_RESP_RECEIVE (R332): A PTP Pdelay_Resp message contributes to the peer delay. -/
  | ptpPdelayRespReceive (t : Nat) (p : Fin 2) (m : PtpMsg)
  /-- PTP_PDELAY_RESP_FOLLOW_UP_RECEIVE (R332): A PTP Pdelay_Resp_Follow_Up message completes the peer delay. -/
  | ptpPdelayRespFollowUpReceive (t : Nat) (p : Fin 2) (m : PtpMsg)
  /-- PTP_ANNOUNCE_RECEIVE (R334): A PTP Announce message updates best-master choice and instance validity. -/
  | ptpAnnounceReceive (t : Nat) (p : Fin 2) (m : AnnMsg)
  /-- PTP_OTHER_MESSAGE (R331): A Signaling or Management message is discarded and counted. -/
  | ptpOtherMessage (t : Nat) (p : Fin 2) (l : Link)
  /-- PTP_SYNC_SEND (R336): A master port sends a one-step Sync at its interval. -/
  | ptpSyncSend (t : Nat) (p : Fin 2)
  /-- PTP_ANNOUNCE_SEND (R336): A master port sends an Announce at its interval. -/
  | ptpAnnounceSend (t : Nat) (p : Fin 2)
  /-- PTP_DELAY_REQ_SEND (R331): A slave port sends a Delay_Req at its interval. -/
  | ptpDelayReqSend (t : Nat) (p : Fin 2)
  /-- PTP_PDELAY_REQ_SEND (R331): A P2P port sends a Pdelay_Req at its interval. -/
  | ptpPdelayReqSend (t : Nat) (p : Fin 2)
  /-- ANNOUNCE_RECEIPT_TIMEOUT (R334): An instance's Announce receipt times out and it stops being valid. -/
  | announceReceiptTimeout (t : Nat) (p : Fin 2)
  /-- OFFSET_TIMEOUT (R334): An instance computes no offset within three Sync intervals and stops being valid. -/
  | offsetTimeout (t : Nat) (p : Fin 2)
  /-- SLEW_COMPLETE (R326): A slew gives up its whole amount, the state returns to TRACK and the slew-end event is raised. -/
  | slewComplete (t : Nat)
  /-- ACCEPT_STEP (R328): Write of TIM.CTL.ACCEPT_STEP removes the STEP_LIMIT check for the next offset. -/
  | acceptStep (h : Via)
  /-- SET (R337): Write of TIM.CTL.SET applies θ = SET − LNS as an offset. -/
  | timSet (h : Via)
  /-- PPS_IN_EDGE (R338): A rising PPS_IN edge is stamped and may give an offset. -/
  | ppsInEdge (t : Nat)
  /-- PPS_OUT_RISE (R338): PPS_OUT rises at each whole second of LNS. -/
  | ppsOutRise (t : Nat)
  /-- PPS_OUT_FALL (R338): PPS_OUT falls WIDTH ms after its rise. -/
  | ppsOutFall (t : Nat)
  /-- AON_INC_MEASURE (R339): A measurement of the X32 period over 2^15 periods completes. -/
  | aonIncMeasure (t : Nat) (v : Word)
  /-- FOLIO_FRAME_RECEIVE (R358): A folio frame arriving on ETHA or ETHB is checked against a receive layout and accepted or discarded. -/
  | folioFrameReceive (t : Nat) (p : Fin 2) (f : List Byte) (ok : Bool) (err : Option LocErr)
  /-- RECEIVE_APPLY (R359): The engine writes the accepted frame's input values and mark in queue order. -/
  | receiveApply (t : Nat) (errs : List MemErr)
  /-- ARP_REQUEST (R344): An ARP request for the port's IP address is answered. -/
  | arpRequest (t : Nat) (p : Fin 2) (l : Link) (sip : Word) (tip : Word)
  /-- WAKE_FRAME (R370): A valid wake frame received in DOZE wakes the device. -/
  | wakeFrame (t : Nat) (p : Fin 2) (f : List Byte)
  /-- LAYOUT_DUE (R356): A cyclic layout reaches its due instant or an on-change layout its check instant. -/
  | layoutDue (t : Nat) (x : Fin 512) (err : Option LocErr)
  /-- LAYOUT_WORK_COMPLETE (R357): A transmit layout's values are packed and its frame handed to the port or CAN mailbox. -/
  | layoutWorkComplete (t : Nat) (errs : List MemErr)
  /-- FRAME_DEPARTURE (R348): A folio or proof frame leaves the port and its stamp, checksum and FCS are inserted. -/
  | frameDeparture (t : Nat) (p : Fin 2)
  /-- LAYOUT_LOST (R361): A receive layout accepts no frame for WD periods and becomes LOST. -/
  | layoutLost (t : Nat) (x : Fin 512) (errs : List MemErr)
  /-- PATH_LOST (R360): One port's copies are missing for WD periods and PATH_A_LOST or PATH_B_LOST is set. -/
  | pathLost (t : Nat) (x : Fin 512) (p : Fin 2)
  /-- CONTEXT_SILENCE (R366): A context receives no valid frame for SILENCE ms and is evicted or marked SILENT. -/
  | contextSilence (t : Nat) (x : Fin 128)
  /-- KEY_LOAD (R368): Write of PTN.KCTL.LOAD loads the key words into the selected slot. -/
  | keyLoad (h : Via)
  /-- KEY_ACTIVATE (R368): Write of PTN.KCTL.ACTIVATE makes the selected slot the transmit slot. -/
  | keyActivate (h : Via)
  /-- LINK_CHANGE (R343): An Ethernet port's link goes up, down or changes speed. -/
  | linkChange (t : Nat) (p : Fin 3) (sp : BitVec 2) (eee : Bool)
  /-- TX_KICK (R345): Write of TX_KICK makes ETHC scan its transmit ring. -/
  | txKick (h : ViaErrs)
  /-- ETHC_FRAME_SENT (R345): ETHC finishes sending a ring frame and clears its descriptor's OWN. -/
  | ethcFrameSent (t : Nat) (errs : List MemErr)
  /-- ETHC_FRAME_RECEIVE (R345): ETHC receives a frame into the next owned receive descriptor or drops it. -/
  | ethcFrameReceive (t : Nat) (f : List Byte) (ok : Bool) (errs : List MemErr)
  /-- CAN_INIT_SET (R376): Write of CAN CTL.INIT = 1 requests taking the controller off the bus. -/
  | canInitSet (h : Via) (k : Fin 4)
  /-- INIT_EFFECT (R376): INIT = 1 takes effect at the end of the frame in progress. -/
  | initEffect (t : Nat) (k : Fin 4)
  /-- CAN_INIT_CLEAR (R376): Write of CAN CTL.INIT = 0 starts bus integration. -/
  | canInitClear (h : Via) (k : Fin 4)
  /-- INTEGRATION_DONE (R376): After 11 consecutive recessive bits the controller takes part in bus traffic. -/
  | integrationDone (t : Nat) (k : Fin 4)
  /-- TXREQ (R377): Write of CAN TXREQ bit b requests transmission of mailbox b. -/
  | canTxreq (h : Via) (k : Fin 4) (b : Fin 32)
  /-- TXCANCEL (R378): Write of CAN TXCANCEL bit b cancels a pending mailbox. -/
  | canTxcancel (h : Via) (k : Fin 4) (b : Fin 32) (tx : Bool)
  /-- CAN_FRAME_TRANSMITTED (R378): A mailbox transmission succeeds and the mailbox ends DONE with its stamp. -/
  | canFrameTransmitted (t : Nat) (k : Fin 4) (sof : Nat) (err : Option LocErr)
  /-- ARBITRATION_LOST (R377): A mailbox loses arbitration and retries or fails. -/
  | arbitrationLost (t : Nat) (k : Fin 4) (sof : Nat)
  /-- CAN_BUS_ERROR (R372): A protocol error is detected and the error counters change. -/
  | canBusError (t : Nat) (k : Fin 4) (tx : Bool) (sof : Nat) (e : CanErr)
  /-- RECOVER (R385): Write of CAN CTL.RECOVER starts bus-off recovery. -/
  | canRecover (h : Via) (k : Fin 4)
  /-- CAN_RECOVERED (R385): After 128 occurrences of 11 recessive bits the controller is error-active. -/
  | canRecovered (t : Nat) (k : Fin 4)
  /-- CAN_FRAME_RECEIVE (R380): A valid received frame is filtered into a queue or layout, or discarded. -/
  | canFrameReceive (t : Nat) (k : Fin 4) (sof : Nat) (f : CanFrame)
  /-- POP (R382): Write of a CAN queue's CTL.POP removes the entry in the head window. -/
  | canPop (h : Via) (k : Fin 4) (q : Fin 2)
  /-- WINDOW_REFILL (R382): The next oldest queue entry appears in the head window. -/
  | windowRefill (t : Nat) (k : Fin 4) (q : Fin 2) (err : Option LocErr)
  /-- QUEUE_FLUSH (R382): Write of a CAN queue's CTL.FLUSH empties the queue. -/
  | queueFlush (h : Via) (k : Fin 4) (q : Fin 2)
  /-- PROTOCOL_EXCEPTION (R373): A recessive res bit puts the controller into protocol exception. -/
  | protocolException (t : Nat) (k : Fin 4)
  /-- PROTOCOL_EXCEPTION_END (R373): After 11 consecutive recessive bits the controller resumes from protocol exception. -/
  | protocolExceptionEnd (t : Nat) (k : Fin 4)
  /-- CAN_WAKE_MATCH (R386): The wake decoder matches a wake filter in DOZE and wakes the device. -/
  | canWakeMatch (t : Nat) (k : Fin 4) (id : BitVec 29) (ide : Bool)
  /-- RECORDER_ARM (R391): Write of a recorder's CTL.ARM arms it or sets ARM_REFUSED. -/
  | recorderArm (h : Via) (r : Fin 16)
  /-- RECORDER_STOP (R391): Write of a recorder's CTL.STOP discards a partial record and stops. -/
  | recorderStop (h : Via) (r : Fin 16)
  /-- ARM_ALL (R391): Write of ACQ.ARM_ALL arms the selected recorders in one SYS cycle. -/
  | armAll (h : Via) (v : Word)
  /-- STOP_ALL (R391): Write of ACQ.STOP_ALL stops the selected recorders in one SYS cycle. -/
  | stopAll (h : Via) (v : Word)
  /-- FORCE (R394): Write of a recorder's CTL.FORCE triggers at the newest sample. -/
  | recForce (h : Via) (r : Fin 16)
  /-- RECORDER_SAMPLE (R389): A recorder takes a sample of its signals at its sample instant. -/
  | recorderSample (t : Nat) (r : Fin 16) (ws : List (List Bool)) (errs : List MemErr)
  /-- TRIGGER (R394): A trigger condition's trigger arrives and is accepted, ignored or counted as MISSED. -/
  | acqTrigger (t : Nat) (c : Fin 32) (st : Nat) (rise : Bool)
  /-- RECORD_COMPLETE (R396): The last post-trigger sample is written, the header written and the job queued. -/
  | recordComplete (t : Nat) (r : Fin 16) (errs : List MemErr)
  /-- SLOT_RELEASE (R396): Write of SLOT.RD releases records and may let a waiting recorder arm. -/
  | slotRelease (h : Via) (r : Fin 16) (v : BitVec 8)
  /-- HIST_CLEAR (R404): Write of a histogram's CTL.CLEAR zeros its bins before the next feeding job. -/
  | histClear (h : Via) (x : Fin 4)
  /-- MAP_CLEAR (R405): Write of a sillage map's CTL.CLEAR zeros its cells before the next feeding job. -/
  | mapClear (h : Via) (x : Fin 4)
  /-- FEED_MEASURE (R408): Each feed and the OR are measured every 10 µs and judged. -/
  | feedMeasure (t : Nat) (v0 : Nat) (v1 : Nat) (vor : Nat)
  /-- FEED_CLASS_CHANGE (R408): A feed's condition persists for its time and the feed changes class. -/
  | feedClassChange (t : Nat) (f : Fin 2)
  /-- FEED_SELECT (R409): A feed better for 100 ms becomes the selected feed. -/
  | feedSelect (t : Nat)
  /-- POWER_FAIL (R410): The OR falls below 7.5 V, VHOLD takes over and a flush starts. -/
  | powerFail (t : Nat) (dip : PowerDip)
  /-- FLUSH_DONE (R413): A flush record's programming ends. -/
  | flushDone (t : Nat)
  /-- REGION_ERASE_DONE (R413): The background erase of a full flush region completes. -/
  | regionEraseDone (t : Nat)
  /-- POWER_OFF (R498): The OR falls below the reset level and the device goes OFF. -/
  | powerOff (t : Nat)
  /-- ESSENCE_CAPTURE (R417): At a boundary that is a multiple of N_E the active unit captures a generation or skips it. -/
  | essenceCapture (t : Nat) (errs : List MemErr)
  /-- ESSENCE_SENT (R418): A generation finishes transmission over the mirror link. -/
  | essenceSent (t : Nat) (full : Bool)
  /-- ESSENCE_RECEIVE (R418): The standby receives a generation and judges its validity. -/
  | essenceReceive (t : Nat) (e : Essence) (tr : Option EssTrail)
  /-- STANDBY_COUNTER_LATCH (R419): The standby latches its position counters at a grid boundary. -/
  | standbyCounterLatch (t : Nat)
  /-- HEARTBEAT_PULSE (R420): HB_OUT gives a 1 µs pulse at its interval. -/
  | heartbeatPulse (t : Nat)
  /-- OWNERSHIP_CLAIM (R421): In LOADED a unit claims ownership, samples OWN_IN and keeps or withdraws the claim. -/
  | ownershipClaim (t : Nat) (seen : Bool)
  /-- OWN_CONFLICT (R422): Own OWN_OUT and OWN_IN both asserted for 1 ms set OWN_CONFLICT. -/
  | ownConflict (t : Nat)
  /-- OWN_IN_CHANGE (R423): OWN_IN changes level and the standby judges takeover. -/
  | ownInChange (t : Nat) (level : Bool)
  /-- HB_SILENCE (R423): No HB_IN pulse for 300 µs, judged for takeover or setting HB_LOST or STANDBY_LOST. -/
  | hbSilence (t : Nat)
  /-- PEN_FB_CHANGE (R423): PEN_FB changes and a blocked takeover may proceed. -/
  | penFbChange (t : Nat) (level : Bool)
  /-- MIRROR_LINK_LOSS (R423): The mirror link is down for 1 ms and MIRROR_LOST is set. -/
  | mirrorLinkLoss (t : Nat)
  /-- TAKEOVER_RESTORE_DONE (R424): The newest valid generation has been copied into memories and registers. -/
  | takeoverRestoreDone (t : Nat)
  /-- TAKEOVER_COMPLETE (R424): At the boundary where every primary shows FRESH the device enters RUN. -/
  | takeoverComplete (t : Nat)
  /-- TAKEBACK_REQUEST (R426): At a quiet point the preferred standby requests handback. -/
  | takebackRequest (t : Nat) (quiet : Bool)
  /-- HANDBACK_CONFIRM (R426): The standby confirms the handback generation valid and the active unit withdraws into STANDBY. -/
  | handbackConfirm (t : Nat)
  /-- RELEASE (R427): Write of PAR.CTL.RELEASE hands control to the standby or is refused. -/
  | parRelease (h : Via)
  /-- RELEASE_TIMEOUT (R427): No confirmation within 10 ms of RELEASE and the unit withdraws. -/
  | releaseTimeout (t : Nat)
  /-- BATTERY_DETECT (R428): A feed below BATT_V for 1 s reports battery operation. -/
  | batteryDetect (t : Nat) (f : Fin 2)
  /-- RESCUE_TRIGGER (R429): Every feed reports battery operation for BATT_T and a rescue starts or is refused. -/
  | rescueTrigger (t : Nat)
  /-- RESCUE_GO (R429): Write of PAR.RSC.GO triggers a rescue. -/
  | rescueGo (h : Via)
  /-- RESCUE_HOLD_VALID (R430): HOLD_VALID arrives for a holding mover and its direction, energy and target are planned. -/
  | rescueHoldValid (t : Nat) (m : Fin 32) (errs : List MemErr)
  /-- RESCUE_HOLD_TIMEOUT (R430): No HOLD_VALID within 2 s and the rescue plans without a fresh hold measurement. -/
  | rescueHoldTimeout (t : Nat) (m : Fin 32) (errs : List MemErr)
  /-- RESCUE_UNDERVOLTAGE (R430): Battery voltage below U_STOP for 100 ms stops the rescue as ABORTED. -/
  | rescueUndervoltage (t : Nat)
  /-- XIN_LOSS (R435): XIN stops or drifts beyond 5 %, the PLLs hold and XIN_LOST is set. -/
  | xinLoss (t : Nat)
  /-- X32_LOSS (R436): X32 shows no edge for 1 ms and AON runs from the safety RC. -/
  | x32Loss (t : Nat)
  /-- DOMAIN_POWER_SWITCH (R440): One power domain is switched on or off in the 20 µs sequence. -/
  | domainPowerSwitch (t : Nat) (d : Fin 14) (on : Bool)
  /-- IDLE_TIMER (R442): IDLE_S seconds of idleness in READY request DOZE. -/
  | idleTimer (t : Nat)
  /-- DOZE_ENTRY (R442): At the boundary a DOZE request is taken the device saves state and powers down domains. -/
  | dozeEntry (t : Nat)
  /-- WAKE_COMPLETE (R444): At the first grid boundary after restore impressions restart and the device is READY. -/
  | wakeComplete (t : Nat) (errs : List PltErr) (blks : List MemErr)
  /-- AON_WAKE_TIMER (R445): LNS reaches WAKE_AT or a scheduled entry's wake time and the AON timer wakes the device. -/
  | aonWakeTimer (t : Nat)
  /-- THERMAL_READ (R487): Die temperature sensors are read every 10 ms and WARN and HOT judged. -/
  | thermalRead (t : Nat) (tj : Int) (region : Fin 3)
  /-- SCRUB_BLOCK (R461): A scrubber reads, corrects and reports one SRAM or DRAM block. -/
  | scrubBlock (t : Nat) (r : Fin 2) (found : Ecc)
  /-- EVENT_LOG_WRITE (R466): The input stage writes its oldest event into the log or drops it when the log is full. -/
  | eventLogWrite (t : Nat)
  /-- EVT_POP (R463): Write of EVT.CTL.POP_N removes the N oldest log entries. -/
  | evtPop (h : Via) (n : BitVec 11)
  /-- EVT_CLEAR (R467): Write of EVT.CTL.CLEAR empties log and stage and zeros drop counters. -/
  | evtClear (h : Via)
  /-- EVT_ENTRY_CAPTURE (R463): Read of EVT.ENT[0] captures the selected entry for that interface. -/
  | evtEntryCapture (h : Via) (err : Option LocErr)
  /-- TAP_RESET (R470): TRSTN low resets the TAP to Test-Logic-Reset. -/
  | tapReset (t : Nat)
  /-- EXTEST (R472): Instruction EXTEST makes boundary cells drive the balls, unless blocked by safety. -/
  | tapExtest (t : Nat) (cells : List BCell) (levels : List (BitVec 12 × Bool))
  /-- IDCODE (R470): Instruction IDCODE selects the 32-bit identity register. -/
  | tapIdcode (t : Nat)
  /-- SAMPLE_PRELOAD (R470): Instruction SAMPLE/PRELOAD selects the boundary register for sampling and preloading. -/
  | samplePreload (t : Nat) (cells : List BCell) (levels : List (BitVec 12 × Bool))
  /-- USERCODE (R470): Instruction USERCODE returns the low 32 bits of the galley check. -/
  | tapUsercode (t : Nat)
  /-- CLAMP (R472): Instruction CLAMP holds the boundary outputs and selects bypass. -/
  | tapClamp (t : Nat)
  /-- HIGHZ (R472): Instruction HIGHZ puts the boundary outputs in high impedance and selects bypass. -/
  | tapHighz (t : Nat)
  /-- BYPASS (R470): Instruction BYPASS selects the bypass register and returns functional control. -/
  | tapBypass (t : Nat)
  /-- POWER_UP (R495): The OR rises above the reset level and the start-up converter runs. -/
  | powerUp (t : Nat)
  /-- RESET_RELEASE (R495): After 1 ms with the OR above 7.5 V the internal reset is released. -/
  | resetRelease (t : Nat)
  /-- PORN_RELEASE (R495): PORN high after the internal reset moves OFF to BOOT and starts the galley load. -/
  | pornRelease (t : Nat)
  /-- FLASH_TIMEOUT (R44): The flash does not answer within 10 ms and the flash load fails with code 13. -/
  | flashTimeout (t : Nat)
  /-- IMAGE_STAGED (R47): A staged image's header, CRCs and digest are checked, failing the slot or proceeding. -/
  | imageStaged (t : Nat) (img : List Byte) (errs : List MemErr)
  /-- SIGNATURE_VERIFIED (R42): The key slot comparison and ECDSA verification of a signed galley complete. -/
  | signatureVerified (t : Nat)
  /-- GALLEY_APPLY (R40): Sections are applied in order with clamping and reporting and the device enters LOADED. -/
  | galleyApply (t : Nat)
  /-- HOST_LOAD (R48): Write of GLY.CTL.HOST_LOAD checks and applies the image staged by the host. -/
  | hostLoad (h : Via)
  /-- SKIP_FLASH (R49): Write of GLY.CTL.SKIP_FLASH stops a flash load and waits for a host load. -/
  | skipFlash (h : Via)
  /-- KEY_PROG (R43): Write of GLY.KEY_CTL.PROG with key 0xA5 programs a key hash into a slot. -/
  | keyProg (h : Via) (slot : Fin 4)
  /-- SET_REQUIRE (R43): Write of GLY.KEY_CTL.SET_REQUIRE with key 0xA5 sets REQUIRE permanently. -/
  | setRequire (h : Via)
  /-- KEY_PROG_DONE (R43): One-time programming completes and BUSY clears. -/
  | keyProgDone (t : Nat)
  /-- PORN_LOW (R31): PORN low takes the device OFF. -/
  | pornLow (t : Nat)
  /-- DEVICE_RESET (R497): RSTN low resets every domain but PD_AON and releases OWN_OUT. -/
  | deviceReset (t : Nat)
  /-- RSTN_RELEASE (R497): RSTN release restarts the galley load from step 1. -/
  | rstnRelease (t : Nat)
  /-- HB_IN_PULSE (R423): A heartbeat pulse from the partner arrives on HB_IN, restarting the silence timing and ending STANDBY_LOST on the active side. -/
  | hbInPulse (t : Nat)
  /-- MIRROR_LINK_UP (R423): The mirror link comes back up after being down, so that MIRROR_LOST and PEER_MIRROR_LOST no longer hold and essences flow again. -/
  | mirrorLinkUp (t : Nat)
  /-- OWN_OUT_RELEASE (R420): The unit's own HB_OUT has not pulsed for 250 µs, so OWN_OUT is no longer asserted and the unit releases ownership by itself. -/
  | ownOutRelease (t : Nat)
  /-- VHOLD_LOW (R410): VHOLD falls below 10 V during a deferred power-down, ending the deferral so that the device goes OFF. -/
  | vholdLow (t : Nat)
  deriving DecidableEq, Repr

end Sys2Proof
end

