-- ==== Sys2Proof/Decode.lean ====
section
/-! DEFINITION. Sys2Proof/Decode.lean: reading encoded words. No row of spec/opcode_table.json gives its
command any bits, so no word of the table's numbering spells a command. Sorts stored in a forme bank are
read by `decodeSort` (R81). -/

namespace Sys2Proof

/-- The command that an instruction of `nbits` bits with bits `w` spells by spec/opcode_table.json: the rows of
this block give no bits, so there is none. -/
def decodeTableWord (_nbits _w : Nat) : Option Instr := none

/-- The OP field of a stored sort and its other fields, as platen `n` issues it from bank index `i` (R81). -/
def decodeSort (n : Fin 5) (i : BitVec 13) (errs : List PltErr) (w : W64) : Nat × Srt :=
  ((w.extractLsb' 58 6).toNat,
   { plt := n, idx := i, sec := w.extractLsb' 52 6, ad := w.extractLsb' 50 2, md := w.extractLsb' 46 4
     xf := w.extractLsb' 30 16, yf := w.extractLsb' 14 16, cf := w.extractLsb' 0 14, errs := errs })

end Sys2Proof
end

