-- ==== Sys2Proof/Config.lean ====
section
/-! DEFINITION. Sys2Proof/Config.lean: what the spec leaves open. Each constant has no value that a proof
could see: a statement holds for every value. The notes/assumptions entries name each one. -/

namespace Sys2Proof

/-- A data word, or an event code, that the spec does not state for an event it says is raised: source block,
event (a number of the model's own), word, free-value counter (log entry 6). -/
opaque Config.eventWord (block event word free : Nat) : Nat

/-- A value that the spec leaves open at a place of the model numbered `site`, by the free-value counter. -/
opaque Config.openWord (site free : Nat) : Nat

/-- A gain of the loop of R325, times 2^32 INCR units per ns: the proportional (`part` 0) or the integral part's, for a value of
SERVO_BW and for offsets from a source at an interval of 2^(`intv` - 8) s (log entry 4). -/
opaque Config.servoGain (part bw intv : Nat) : Nat

/-- Whether raising event `code` of source block `block` makes an interrupt cause present in the block's
vector: R66 and R67 name the vectors, and only R469 names causes (log entry 7). -/
opaque Config.eventIsCause (block code : Nat) : Bool

/-- Whether a cause of vector `v` is still present when its pending bit is cleared (log entry 7). -/
opaque Config.causeRemains (v free : Nat) : Bool

/-- The body of fixed section `type` of the essence of generation `gen` as bytes: R415 states what it holds and not
how it is laid out (log entry 21). -/
opaque Config.sectionBody (type gen : Nat) : List (BitVec 8)

/-- Which of the balls left the signal with `left` signals after it stands on, in the bands 0 to 3 of rows BA to BK and in rows AL to AY,
region 4: the per-ball list gives it and R489 to R493 do not (log entry 22). -/
opaque Config.ballPick (region left : Nat) : Nat

/-- The place of the transmit clock 0 and the receive clock 1 among the balls of ETHC (log entry 22). -/
opaque Config.rgmiiClock (k : Nat) : Nat

/-- Whether the boundary cell of ball `ball` can drive it, for the balls whose cell types only the BSDL file gives (log entry 58). -/
opaque Config.cellDrives (ball : Nat) : Bool

end Sys2Proof
end

