-- ==== Sys2Proof/Machine/State.lean ====
section
/-! DEFINITION. Sys2Proof/Machine/State.lean: everything the spec gives the machine, as plain data, the reasons
a command can stop, and the state right after reset.

Register contents live in `State.regs`, by host address, except fields marked `view` in the register map,
which are read out of the typed parts. -/

namespace Sys2Proof.Machine

/-- Why the machine stops with a fault. -/
inductive Fault
  /-- Raised by nobody: no command of this block makes the machine itself stop. Safe. -/
  | none
  deriving DecidableEq, Repr

/-- Why a command is given no meaning. -/
inductive Refusal
  /-- Raised by `exec` for a command that has no meaning yet. Safe: the run stops. -/
  | notModelled (mnemonic : String)
  deriving DecidableEq, Repr

/-- The whole machine. -/
structure State where
  sys : SysS
  quo : QuoS
  evt : EvtS
  /-- events the mode machines have still to see (R28, R100) -/
  mmq : List MmEvent
  /-- triggers of kinds 2, 4 and 5 on their way to ACQ: the condition and the instant in 1/256 ns (R392, R394) -/
  trigq : List (Nat × Nat)
  mms : SMap MmS
  plts : SMap PltS
  tim : TimS
  pwr : PwrS
  tst : TstS
  pins : PinS
  edg : SMap ChanS
  aux : SMap AuxS
  ain : SMap AinS
  /-- the number of AIN conversion starts, and the instant of the last one in 1/256 ns (R127, R389) -/
  ainStart : Nat × Nat
  /-- the segment state the track publishes for a drive channel (R156, R231) -/
  segOut : SMap Nat
  trk : TrkS
  src : SMap SrcS
  lat : SMap LatS
  cmp : SMap CmpS
  mot : MotS
  fio : FioS
  saf : SafS
  nv : RecS
  net : NetS
  can : SMap CanS
  acq : AcqS
  par : ParS
  rom : RomS
  gly : GlyS
  /-- live STUCK bits by channel (R126) -/
  stuck : SMap Nat
  /-- by channel, the instant of `clk` from which SETTLE counts (R121) -/
  settle : SMap Nat
  /-- by the numbers of `Timed`: the instant of `clk`, plus 1, from which a condition has held, 0 while it does not (log entry 70) -/
  since : SMap Nat
  /-- the feedback page latched at the last sample instant (R128, R189) -/
  page : SMap W24
  /-- the register file: every stored field, by host address -/
  regs : SMap Word
  /-- the galley value of every register, held in PD_SYS (R39) -/
  galley : SMap Word
  /-- main SRAM and DRAM by host address -/
  mem : List Host.Cell
  /-- poisoned blocks, by host address divided by 16 (R459) -/
  poison : SMap Bool
  /-- captured high words of 64-bit pairs, by host address, for PCIe and for QSPI (R10) -/
  capPcie : SMap (Option Word)
  capQspi : SMap (Option Word)
  /-- the QSPI transfer under way: the next address, or none inside while it is ignored until HSPI_CSN rises (R68, R69) -/
  qspi : Option (Option Nat)
  /-- the SYS cycle of the last hardware set of a W1C or RC bit, and the bits set in it, by register address (R4) -/
  hwCyc : Nat
  hwBits : SMap Word
  out : List Out
  /-- the model's own counter of free values drawn -/
  free : Nat
  pending : List Instr
  deriving DecidableEq, Repr

/-- The machine right after a device reset (R9, R497): every register at the number of its Reset column and fields of reset
"galley" at 0, nothing loaded, RSTN still low. What the spec gives no reset value stands as log entries 1 to 3 and 16 say. -/
def State.reset : State :=
  { sys := SysS.init, quo := QuoS.init, evt := EvtS.init, mmq := [], trigq := [], mms := [], plts := [], tim := TimS.init, pwr := PwrS.init
    tst := TstS.init, pins := { PinS.init with rstn := false }, edg := [], aux := [], ain := [], ainStart := (0, 0), segOut := [], trk := TrkS.init
    src := [], lat := [], cmp := [], mot := MotS.init, fio := FioS.init, saf := SafS.init, nv := RecS.init, net := NetS.init
    can := [], acq := AcqS.init, par := ParS.init, rom := RomS.init, gly := GlyS.init, stuck := [], settle := [], since := [], page := [], regs := []
    galley := [], mem := [], poison := [], capPcie := [], capQspi := [], qspi := none, hwCyc := 0, hwBits := [], out := [], free := 0, pending := [] }

end Sys2Proof.Machine
end

