-- ==== Sys2Proof/Machine/Ops.lean ====
section
/-! DEFINITION. Sys2Proof/Machine/Ops.lean: the named operations over registers, time, memory, events and
the power domains that every meaning is written with. -/

namespace Sys2Proof.Machine

/-- The outcome of a command. -/
abbrev Res := Host.Outcome State Fault Refusal

/-! ### The register file -/

/-- Run `f` for each of `0 … n - 1`. -/
def forN (n : Nat) (f : Nat → State → State) (s : State) : State := (List.range n).foldl (fun s i => f i s) s

/-- Run `f` for each element of a list. -/
def forL {α : Type} (l : List α) (f : α → State → State) (s : State) : State := l.foldl (fun s x => f x s) s

/-- The stored word of the register at host address `a`. -/
def rd (s : State) (a : Nat) : Word := SMap.get regReset s.regs a

/-- Store a register word. -/
def wr (s : State) (a : Nat) (v : Word) : State := { s with regs := SMap.put regReset s.regs a v }

/-- The value of a stored field. -/
def fget (s : State) (f : Fld) (i : Nat := 0) (j : Nat := 0) (k : Nat := 0) : Nat :=
  bitsOf (rd s (f.reg.at i j k)) f.lsb f.width

/-! ### Hardware sets and SYS cycles -/

/-- The SYS cycle of the present instant: 4 ns, counted from LNS 0 and not moved by its steps (log entry 69). -/
def sysCycle (s : State) : Nat := (s.tim.acc - s.tim.stepped) / 2 ^ 28

/-- Hardware sets the bits `m` of the register at `a` in the present SYS cycle (R4). -/
def hwMark (a : Nat) (m : Word) (s : State) : State :=
  let b := if s.hwCyc = sysCycle s then s.hwBits else []
  { s with hwCyc := sysCycle s, hwBits := SMap.put (fun _ => 0#32) b a (SMap.get (fun _ => 0#32) b a ||| m) }

/-- The bits of the register at `a` that hardware has set in the present SYS cycle: a clear leaves them set (R4). -/
def justSet (s : State) (a : Nat) : Word := if s.hwCyc = sysCycle s then SMap.get (fun _ => 0#32) s.hwBits a else 0#32

/-- Give a stored field a value. -/
def fset (s : State) (f : Fld) (v : Nat) (i : Nat := 0) (j : Nat := 0) (k : Nat := 0) : State :=
  wr s (f.reg.at i j k) (setBits (rd s (f.reg.at i j k)) f.lsb f.width v)

/-- Whether a stored field is not 0. -/
def flag (s : State) (f : Fld) (i : Nat := 0) (j : Nat := 0) (k : Nat := 0) : Bool := fget s f i j k != 0

/-- The value of a stored field read in two's complement. -/
def fgetInt (s : State) (f : Fld) (i : Nat := 0) (j : Nat := 0) (k : Nat := 0) : Int := sgn f.width (fget s f i j k)

/-- Bit `b` of a stored field. -/
def fbit (s : State) (f : Fld) (b : Nat) (i : Nat := 0) (j : Nat := 0) (k : Nat := 0) : Bool := (fget s f i j k).testBit b

/-- A number with bit `b` set to `v`. -/
def putBit (w b : Nat) (v : Bool) : Nat := if w.testBit b = v then w else if v then w + 2 ^ b else w - 2 ^ b

/-- Set bit `b` of a stored field to `v`. -/
def fsetBit (s : State) (f : Fld) (b : Nat) (v : Bool) (i : Nat := 0) (j : Nat := 0) (k : Nat := 0) : State :=
  let w := fget s f i j k
  fset s f (putBit w b v) i j k

/-- Hardware sets bit `b` of a W1C field (R4). -/
def raiseBit (s : State) (f : Fld) (b : Nat) (i : Nat := 0) (j : Nat := 0) (k : Nat := 0) : State :=
  hwMark (f.reg.at i j k) (BitVec.twoPow 32 (f.lsb + b)) (fsetBit s f b true i j k)

/-- Hardware sets a one-bit flag (R4). -/
def raiseFlag (s : State) (f : Fld) (i : Nat := 0) (j : Nat := 0) (k : Nat := 0) : State :=
  hwMark (f.reg.at i j k) f.mask (fset s f 1 i j k)

/-- Add `n` to a counter that saturates at its field's largest value; the bits that rise are set by hardware (R4). -/
def bump (s : State) (f : Fld) (n : Nat := 1) (i : Nat := 0) (j : Nat := 0) (k : Nat := 0) : State :=
  let s' := fset s f (min (fget s f i j k + n) (2 ^ f.width - 1)) i j k
  hwMark (f.reg.at i j k) (rd s' (f.reg.at i j k) &&& ~~~(rd s (f.reg.at i j k))) s'

/-- An unsigned value held at the largest value of `w` bits. -/
def satNat (w n : Nat) : Nat := min n (2 ^ w - 1)

/-- A signed value held within `w` bits, in two's complement. -/
def satInt (w : Nat) (x : Int) : Nat :=
  if x < -(2 ^ (w - 1) : Int) then 2 ^ (w - 1) else if (2 ^ (w - 1) : Int) ≤ x then 2 ^ (w - 1) - 1 else unsgn w x

/-- `x` held between `lo` and `hi`. -/
def clampInt (lo hi x : Int) : Int := if x < lo then lo else if hi < x then hi else x

/-- A field in which 0 encodes `z` (for example UPD_N, where 0 encodes 16). -/
def zeroIs (z n : Nat) : Nat := if n = 0 then z else n

/-- The 48-bit signed value of a register pair with 16 bits in its high register. -/
def fpair48 (s : State) (lo hi : Fld) (i : Nat := 0) (j : Nat := 0) : Int :=
  sgn 48 (fget s lo i j + 2 ^ 32 * fget s hi i j)

/-- The signed quotient of integers rounded half up: floor(a / b + 1/2), for `b` above 0. -/
def divRound (a b : Int) : Int := (2 * a + b) / (2 * b)

/-! ### Free values -/

/-- Draw a fresh number for a free value. -/
def drawn (s : State) : State := { s with free := s.free + 1 }

/-- A fresh free value for a place `site` of the model. -/
def openVal (site : Nat) (s : State) : Nat × State := (Config.openWord site s.free, drawn s)

/-! ### Time -/

/-- LNS at the present instant, in ns (R321). -/
def lns (s : State) : Nat := s.tim.acc / 2 ^ 26

/-- LNS fine time, in 1/256 ns (R13). -/
def fine (s : State) : Nat := s.tim.acc / 2 ^ 18

/-- The instant, in 1/256 ns, of what measures time by its own clock and not by LNS: a step of LNS does not move it (R329). -/
def clk (s : State) : Nat := (s.tim.acc - s.tim.stepped) / 2 ^ 18

/-- Whether the condition numbered `k` has held for `ns` nanoseconds. -/
def heldFor (k ns : Nat) (s : State) : Bool :=
  let b := SMap.get (fun _ => 0) s.since k
  b != 0 && decide (b + 256 * ns ≤ clk s + 1)

/-- The condition numbered `k` begins to hold at the present instant, whether or not it held before. -/
def holdFrom (k : Nat) (s : State) : State := { s with since := SMap.put (fun _ => 0) s.since k (clk s + 1) }

/-- The condition numbered `k` holds now as `c` says. -/
def holdMark (k : Nat) (c : Bool) (s : State) : State :=
  if !c then { s with since := SMap.put (fun _ => 0) s.since k 0 }
  else if SMap.get (fun _ => 0) s.since k = 0 then holdFrom k s else s

/-- The number of nanoseconds since the instant numbered `k` is at least `ns`, or there was none. -/
def quietFor (k ns : Nat) (s : State) : Bool := SMap.get (fun _ => 0) s.since k == 0 || heldFor k ns s

/-! The numbers of what `since` times. Of feed `f`: below 7.5 V, above UV_WARN + 0.5 V, above UV_WARN, below BATT_V (R408, R428). -/

def Timed.low (f : Nat) : Nat := f
def Timed.good (f : Nat) : Nat := 2 + f
def Timed.fair (f : Nat) : Nat := 4 + f
def Timed.batt (f : Nat) : Nat := 6 + f
/-- The feed not selected is the better one (R409). -/
def Timed.better : Nat := 8
/-- Every feed in use reports battery operation (R429). -/
def Timed.allBatt : Nat := 9
/-- U_B is below U_STOP (R430). -/
def Timed.stop : Nat := 10
/-- OWN_OUT and OWN_IN are both asserted (R422). -/
def Timed.both : Nat := 11
/-- The last pulse of HB_OUT, and of HB_IN (R420, R423). -/
def Timed.hbOut : Nat := 12
def Timed.hbIn : Nat := 13
/-- RELEASE has been accepted (R427). -/
def Timed.release : Nat := 14
/-- The last impression boundary (R420). -/
def Timed.boundary : Nat := 15
/-- READY has been requested in LOADED (R421). -/
def Timed.leave : Nat := 16
/-- The last switching of a power domain (R440). -/
def Timed.domain : Nat := 17
/-- The last rise of PPS_OUT (R338). -/
def Timed.pps : Nat := 18
/-- The rescue of mover `m` is HOLDING (R430). -/
def Timed.hold (m : Nat) : Nat := 32 + m

/-- The 32-bit stamp of the present instant (R13). -/
def stamp (s : State) : Nat := lns s % 2 ^ 32

/-- The instant `t`, in 1/256 ns, is reached; LNS never decreases (R320). -/
def advance (t : Nat) (s : State) : State := { s with tim := { s.tim with acc := max s.tim.acc (t * 2 ^ 18) } }

/-- The extension of a 32-bit stamp `x` with a full LNS value `l` read after it (R330). -/
def extendStamp (l x : Nat) : Nat := l - (l + 2 ^ 32 - x % 2 ^ 32) % 2 ^ 32

/-- T_IMP in ns (R18). -/
def tImp (s : State) : Nat := 20 * fget s F.SYS_IMP_CFG_PERIOD

/-- Nv (R25). -/
def nvOf (s : State) : Nat := zeroIs 16 (fget s F.SYS_IMP_CFG_NV)

/-- Np (R25). -/
def npOf (s : State) : Nat := fget s F.SYS_IMP_CFG_NP

/-- SYS.IMP_COUNT. -/
def impCount (s : State) : Nat := s.sys.imp % 2 ^ 32

/-- The present impression's boundary is a servo-period boundary (R26). -/
def servoBoundary (s : State) : Bool := impCount s % (max 1 (npOf s)) = 0

/-! ### Power domains -/

/-- The power domain that must be on for host address `a` to be reachable, by its bit number (R60, R437). -/
def domainOf (a : Nat) : Option Nat :=
  if a ≤ 0xFFF then some 0
  else if a ≤ 0x7FFF then some 1
  else if 0x10000 ≤ a ∧ a ≤ 0x1EFFF then
    (let n := (a - 0x10000) / 0x3000; some (if n = 4 then 8 else 2 + n))
  else if 0x20000 ≤ a ∧ a ≤ 0x23FFF then some 1
  else if 0x30000 ≤ a ∧ a ≤ 0x31FFF then some 1
  else if 0x34000 ≤ a ∧ a ≤ 0x34FFF then some 1
  else if 0x38000 ≤ a ∧ a ≤ 0x38FFF then some 1
  else if 0x3C000 ≤ a ∧ a ≤ 0x3CFFF then some 1
  else if 0x40000 ≤ a ∧ a ≤ 0x4FFFF then some 6
  else if 0x50000 ≤ a ∧ a ≤ 0x6FFFF then some 7
  else if 0x70000 ≤ a ∧ a ≤ 0x7FFFF then some 13
  else if 0x80000 ≤ a ∧ a ≤ 0x8FFFF then some 12
  else if 0x90000 ≤ a ∧ a ≤ 0x9FFFF then some 1
  else if 0xA0000 ≤ a ∧ a ≤ 0xAFFFF then some 9
  else if 0xB0000 ≤ a ∧ a ≤ 0xBFFFF then some 10
  else if 0xC0000 ≤ a ∧ a ≤ 0xDFFFF then some 1
  else if 0xE0000 ≤ a ∧ a ≤ 0xEFFFF then some 8
  else if 0xF0000 ≤ a ∧ a ≤ 0xFFFFF then some 11
  else if 0x100000 ≤ a ∧ a ≤ 0x10FFFF then some 0
  else if 0x110000 ≤ a ∧ a ≤ 0x11FFFF then some 1
  else if 0x800000 ≤ a ∧ a ≤ 0xCFFFFF then
    (let n := (a - 0x800000) / 0x100000; some (if n = 4 then 8 else 2 + n))
  else if 0x1000000 ≤ a ∧ a ≤ 0x1FFFFFF then some 1
  else if 0x10000000 ≤ a ∧ a ≤ 0x1FFFFFFF then some 8
  else none

/-- Domain `d` is powered and out of reset (PWR.PD_STATUS.ON). -/
def domainOn (s : State) (d : Nat) : Bool := s.pwr.on.getLsbD d

/-- The domain of host address `a` is on. -/
def addrOn (s : State) (a : Nat) : Bool :=
  match domainOf a with
  | some d => domainOn s d
  | none => false

/-! ### Dropped accesses -/

/-- The number by which registers and events name an interface: 1 PCIe, 2 QSPI. -/
def Ifc.num : Ifc → Nat
  | .pcie => 1 | .qspi => 2

/-- R64: count an ignored write or a zero-returning read and record its address. -/
def hostDrop (ifc : Ifc) (a : Nat) (s : State) : State :=
  let s := bump s F.SYS_HOST_DROP_COUNT
  let s := fset s F.SYS_HOST_DROP_LAST_IF (Ifc.num ifc)
  fset s F.SYS_HOST_DROP_ADDR_ADDR a

/-! ### Interrupts and events -/

/-- The MSI-X vector of source block `b` with instance `inst` and code `c` (R66, R464): of FBK, latch events (codes 0x10 and 0x11 of
R203) have vector 12 and compare events 13. R66 lists neither the position sources of FBK nor TRK: the model gives them vectors 13 and
0 (DESIGN CHOICE, log entry 7). -/
def vectorOf (b c inst : Nat) : Nat :=
  match b with
  | 0x01 => 0 | 0x02 => 1 | 0x03 => 2 | 0x04 => 3 | 0x05 => 4 + inst % 5
  | 0x06 => 9 | 0x07 => 9 | 0x08 => 9 | 0x09 => 9 | 0x0A => 10 | 0x0B => 11
  | 0x0C => if c = 0x10 ∨ c = 0x11 then 12 else 13
  | 0x0D => 14 | 0x0E => 15 | 0x0F => 16 | 0x10 => 17 | 0x11 => 18 | 0x12 => 19 + inst % 4
  | 0x13 => 23 | 0x14 => 24 | 0x15 => 25 | 0x16 => 26 | 0x17 => 27 | 0x18 => 28
  | _ => 0

/-- The word of SYS.IRQ_PEND. -/
def irqPend (s : State) : Word := rd s R.SYS_IRQ_PEND.addr

/-- Set the pending bit of vector `v`; its rise while IRQ_EN is 1 sends one MSI-X message (R66). -/
def setPend (v : Nat) (s : State) : State :=
  if (irqPend s).getLsbD v then s
  else
    let s' := hwMark R.SYS_IRQ_PEND.addr (1#32 <<< v) (wr s R.SYS_IRQ_PEND.addr (irqPend s ||| (1#32 <<< v)))
    if (rd s' R.SYS_IRQ_EN.addr).getLsbD v then { s' with out := s'.out ++ [Out.msix v] } else s'

/-- R469: the cause of vector 2. -/
def evtCause (s : State) : Bool :=
  s.evt.overflow || (fget s F.EVT_CFG_IRQ_LEVEL != 0 && decide (fget s F.EVT_CFG_IRQ_LEVEL ≤ s.evt.log.length))

/-- R67 for vector 2: the bit is 1 while its cause is present. -/
def evtIrq (s : State) : State := if evtCause s then setPend 2 s else s

/-- The INTN ball (R67): low while IRQ_PEND and IRQ_EN share a bit. -/
def intnLow (s : State) : Bool := (irqPend s &&& rd s R.SYS_IRQ_EN.addr) != 0#32

/-- R467: an event is dropped. -/
def evtDrop (b : Nat) (s : State) : State :=
  let s := bump s F.EVT_DROP_COUNT 1 (b - 1)
  { s with evt := { s.evt with
      overflow := true
      dropped := if s.evt.overflow then satNat 32 (s.evt.dropped + 1) else 1
      dropMask := if s.evt.overflow then s.evt.dropMask ||| 2 ^ b else 2 ^ b } }

/-- R467: outside DOZE, events in the input stage that find the log full are dropped at once. -/
def evtFlush (s : State) : State :=
  if s.evt.log.length = 1024 ∧ s.sys.st ≠ .doze then
    forL s.evt.stage (fun e => evtDrop e.2.block) { s with evt := { s.evt with stage := [] } }
  else s

/-- Whether event `e` enters the stage before `f` of the same SYS cycle: by block, then by instance (R466). -/
def Event.before (e f : Event) : Bool := decide (e.block < f.block) || (e.block == f.block && decide (e.inst < f.inst))

/-- An event that reaches the input stage in SYS cycle `c` takes its place among those of the same cycle (R466). -/
def stageIns (c : Nat) (e : Event) : List (Nat × Event) → List (Nat × Event)
  | [] => [(c, e)]
  | x :: r => if x.1 = c ∧ e.before x.2 = true then (c, e) :: x :: r else x :: stageIns c e r

/-- The event reaches the input stage; with 16 entries in it the last in the order of R466 is dropped (R467). -/
def stageEvt (e : Event) (s : State) : State :=
  let l := stageIns (sysCycle s) e s.evt.stage
  let s := { s with evt := { s.evt with stage := l.take 16 } }
  forL (l.drop 16) (fun x => evtDrop x.2.block) s

/-- Triggers of the conditions that `p` picks, of kind `k` and with the instant `t` in 1/256 ns, set out for ACQ (R392, R394). -/
def trigNote (k t : Nat) (p : Nat → Bool) (s : State) : State :=
  if domainOn s 8 then
    { s with trigq := s.trigq ++ ((List.range 32).filter (fun c => fget s F.ACQ_TCN_CFG_KIND c == k && p c)).map (fun c => (c, t)) }
  else s

/-- The full LNS value, in 1/256 ns, of the 32-bit stamp `st` of an instant near the present one. -/
def nearStamp (s : State) (st : Nat) : Nat :=
  let d := (st % 2 ^ 32 + 2 ^ 32 - stamp s) % 2 ^ 32
  256 * (if d < 2 ^ 31 then lns s + d else lns s + d - 2 ^ 32)

/-- R392, kind 2: the conditions whose EVSEL an event-log entry matches. -/
def trigEvent (e : Event) (s : State) : State :=
  trigNote 2 (nearStamp s e.stamp)
    (fun c => fget s F.ACQ_TCN_EVSEL_EV c == e.code % 256 + 2 ^ 8 * (e.inst % 256) + 2 ^ 16 * (e.block % 256)) s

/-- Raise an event at an instant given by its 32-bit stamp (R466): it goes to the mode machines, then to the
16-entry input stage. -/
def raiseAt (st block code inst d0 d1 : Nat) (s : State) : State :=
  let e : Event := ⟨st % 2 ^ 32, block, code % 256, inst % 512, d0 % 2 ^ 32, d1 % 2 ^ 32⟩
  let s := { s with mmq := s.mmq ++ [⟨block, code % 256, inst % 256, lns s⟩] }
  let s := evtFlush (stageEvt e (trigEvent e s))
  let s := if Config.eventIsCause block code then setPend (vectorOf block code inst) s else s
  evtIrq s

/-- Raise an event now. -/
def raise (block code inst d0 d1 : Nat) (s : State) : State := raiseAt (stamp s) block code inst d0 d1 s

/-- Raise an event whose data words the spec does not state: they are free values. -/
def raiseOpen (block code inst : Nat) (s : State) : State :=
  raise block code inst (Config.eventWord block code 0 s.free) (Config.eventWord block code 1 s.free) (drawn s)

/-- The numbers of R464. -/
def blkSYS : Nat := 0x01
def blkQUO : Nat := 0x02
def blkEVT : Nat := 0x03
def blkGLY : Nat := 0x04
def blkPLT : Nat := 0x05
def blkMOV : Nat := 0x06
def blkPRF : Nat := 0x07
def blkACD : Nat := 0x08
def blkPTH : Nat := 0x09
def blkSCH : Nat := 0x0A
def blkEDG : Nat := 0x0B
def blkFBK : Nat := 0x0C
def blkSDM : Nat := 0x0D
def blkFIO : Nat := 0x0E
def blkSAF : Nat := 0x0F
def blkTIM : Nat := 0x10
def blkNET : Nat := 0x11
def blkCAN : Nat := 0x12
def blkIMP : Nat := 0x13
def blkPTN : Nat := 0x14
def blkACQ : Nat := 0x15
def blkPAR : Nat := 0x16
def blkPWR : Nat := 0x17
def blkTST : Nat := 0x18
def blkTRK : Nat := 0x19

/-! ### Motion units -/

/-- Profile unit `m`. -/
def State.prf (s : State) (m : Nat) : PrfS := SMap.get (fun _ => PrfS.init) s.mot.prf m

/-- Replace profile unit `m`. -/
def setPrf (m : Nat) (x : PrfS) (s : State) : State :=
  { s with mot := { s.mot with prf := SMap.put (fun _ => PrfS.init) s.mot.prf m x } }

/-- Accord `a`. -/
def State.acd (s : State) (a : Nat) : AcdS := SMap.get (fun _ => AcdS.init) s.mot.acd a

/-- Replace accord `a`. -/
def setAcd (a : Nat) (x : AcdS) (s : State) : State :=
  { s with mot := { s.mot with acd := SMap.put (fun _ => AcdS.init) s.mot.acd a x } }

/-- Path group `g`. -/
def State.pth (s : State) (g : Nat) : PthS := SMap.get (fun _ => PthS.init) s.mot.pth g

/-- Replace path group `g`. -/
def setPth (g : Nat) (x : PthS) (s : State) : State :=
  { s with mot := { s.mot with pth := SMap.put (fun _ => PthS.init) s.mot.pth g x } }

/-- A set-point position in 48.16, rounded half up (R241). -/
def spFix (k : Kin) : Int := divRound (k.p * 65536) pScale

/-- Its integer part. -/
def spInt (k : Kin) : Int := spFix k / 65536

/-- A velocity in 1/256 inc/s. -/
def spVel (k : Kin) : Int := divRound (k.v * 256) vScale

/-- An acceleration in inc/s². -/
def spAcc (k : Kin) : Int := divRound k.a aScale

/-- A profile unit's move is over (R245, R246): IDLE with an outcome. -/
def prfEnd (m outcome : Nat) (s : State) : State :=
  let s := fset (fset (fset s F.PRF_STATE_STATE 0 m) F.PRF_STATE_OUTCOME outcome m) F.PRF_REMAIN_VAL 0 m
  raise blkPRF 0x01 m outcome (unsgn 32 (spInt (s.prf m).sp)) s

/-- An accord goes BROKEN (R258, R242, R243), with the cause of R271. -/
def acdBreak (a cause : Nat) (s : State) : State := raise blkACD 0x02 a cause 0 (fset s F.ACD_STATUS_STATE 5 a)

/-- A path group is flushed and IDLE. -/
def pthIdle (g : Nat) (s : State) : State :=
  let s := setPth g { s.pth g with buf := [], k := ⟨0, 0, 0⟩, dwelt := 0 } s
  let s := fset (fset s F.PTH_STATUS_STATE 0 g) F.PTH_STATUS_PAUSED 0 g
  fset (fset (fset s F.PTH_STATUS_LEVEL 0 g) F.PTH_STATUS_FULL 0 g) F.PTH_S_REM_VAL 0 g

/-- The page block of source `i` (R189). -/
def srcBlock (i : Nat) : Nat := if i < 64 then 0x100 + 8 * i else if i < 96 then 0x280 + 8 * (i - 64) else 0x300 + 8 * (i - 96)

/-- R242: RUN is left. -/
def motLeave (s : State) : State :=
  let s := forN 32 (fun m s =>
    let st := fget s F.PRF_STATE_STATE m
    if st = 0 then s
    else if st ≤ 4 then prfEnd m 5 s
    else fset (fset s F.PRF_STATE_STATE 0 m) F.PRF_REMAIN_VAL 0 m) s
  let s := forN 16 (fun a s => if fget s F.ACD_STATUS_STATE a = 0 ∨ fget s F.ACD_STATUS_STATE a = 5 then s else acdBreak a 2 s) s
  forN 8 (fun g s => if fget s F.PTH_STATUS_STATE g = 0 then s else pthIdle g s) s

/-- What reaches SYS now misses the next grid boundary by R6's 2 µs. -/
def late2us (s : State) : Bool := s.sys.running && decide (256 * s.sys.next < fine s + 512000)

/-- Impression boundaries that what reaches SYS now waits for beyond the next (R6, R269). -/
def skipImp (s : State) : Nat := if late2us s then 1 else 0

/-- IMP_COUNT of the next boundary. -/
def nextImp (s : State) : Nat := if s.sys.first then (s.sys.imp + 1) % 2 ^ 32 else 0

/-- Servo-period boundaries that a command waits for beyond the next (R249). -/
def skipServo (s : State) : Nat := if late2us s && decide (nextImp s % max 1 (npOf s) = 0) then 1 else 0

/-! ### Device state -/

/-- A request that arrived in state `d` is refused (R31): REQ_REFUSED and the event of R465. -/
def refuseIn (d : DevState) (code : Nat) (s : State) : State :=
  raise blkSYS 0x02 0 code d.code (raiseFlag s F.SYS_STATE_REQ_REFUSED)

/-- A request of the present state is refused. -/
def refuseReq (code : Nat) (s : State) : State := refuseIn s.sys.st code s

/-- READY, in which it arrived (R465), has been left: a RUN or DOZE request still waiting for its boundary is not valid any more
(R31); one of the idle timer is dropped. -/
def reqLost (d : DevState) (s : State) : State :=
  let run := s.sys.runReq && d != .run
  let doze := s.sys.dozeReq
  let s := { s with sys := { s.sys with runReq := false, dozeReq := 0 } }
  let s := if run then refuseIn .ready 2 s else s
  if doze = 1 ∧ d ≠ .doze then refuseIn .ready 3 s else s

/-- A device-state change (R31) with its event (R465). -/
def setDev (d : DevState) (s : State) : State :=
  let o := s.sys.st
  let s := { s with sys := { s.sys with st := d, prev := o, idleAt := clk s, stAt := clk s } }
  let s := if o == .run && d != .run then motLeave s else s
  let s := raise blkSYS 0x01 0 d.code o.code s
  if o == .ready then reqLost d s else s

/-! ### Wake events and the host gate -/

/-- The last step of R442 that a DOZE entry has completed, before its step 5 (log entry 72): PD_ACQ off, the save made, PD_PLT0 to
PD_PLT3, PD_EDG and PD_FBK off. -/
def entryStep (s : State) : Nat :=
  if domainOn s 8 then 1 else if !s.pwr.saved then 2 else if s.pwr.on.toNat / 4 % 64 != 0 then 3 else 4

/-- Ports and CAN controllers are in the wake mode of DOZE (R370, R386). -/
def inWake (s : State) : Bool := s.sys.st == .doze && s.pwr.handed

/-- A wake event of the sources `src`, encoded as WAKE_SRC (R443, R444, R445): outside DOZE it does nothing; one
in the cycle of an earlier one adds its source; the first starts the wake, and before step 5 of the entry it is
an abort (R32). -/
def wakeEvent (src : Nat) (s : State) : State :=
  if s.sys.st != .doze then s
  else
    let add := fun s => hwMark R.PWR_WAKE_SRC.addr (BitVec.ofNat 32 src)
      (wr s R.PWR_WAKE_SRC.addr (rd s R.PWR_WAKE_SRC.addr ||| BitVec.ofNat 32 src))
    if s.pwr.waking then (if s.pwr.wakeAt / 1024 = sysCycle s then add s else s)
    else
      let step := entryStep s
      let s := add { s with pwr := { s.pwr with waking := true, wakeAt := clk s, abort := !s.pwr.sysRet && decide (step < 4) } }
      if s.pwr.sysRet then s
      else raise blkPWR 0x03 0 step ((rd s R.PWR_WAKE_SRC.addr).toNat % 64) (raiseFlag s F.SYS_IMP_STATUS_DOZE_ABORT)

/-- R75: a write from the interface that owns the open quoin restarts the timeout. -/
def ownerWrite (ifc : Ifc) (s : State) : State :=
  if s.quo.owner = some ifc then { s with quo := { s.quo with lastWrite := clk s } } else s

/-- A host access arrives: the idle timer of R442 starts again. -/
def hostSeen (s : State) : State := { s with sys := { s.sys with idleAt := clk s } }

/-- The bytes of a word, least significant first. -/
def wordBytes (w : Word) : List Byte := [w.extractLsb' 0 8, w.extractLsb' 8 8, w.extractLsb' 16 8, w.extractLsb' 24 8]

/-- A host access that reaches the device at `h` (R8, R33, R64): in OFF there is nobody to take it; in DOZE it wakes the
device, and while PD_SYS is in retention it is held; an access to a block that is off is dropped. -/
def hostGate (h : Via) (a : Nat) (w : Option Word) (f : State → State) (s : State) : State :=
  let s := advance h.t s
  let s := hostSeen (if w.isSome then ownerWrite h.ifc s else s)
  if s.sys.st = .off then s
  else if s.pwr.sysRet then wakeEvent 16 { s with pwr := { s.pwr with held := s.pwr.held ++ [⟨h.ifc, a, 4, w.map (fun v => (wordBytes v).map some)⟩] } }
  else
    let s := wakeEvent 16 s
    if addrOn s a then f s else hostDrop h.ifc a s

/-! ### Main SRAM and DRAM -/

/-- The size of a save area (R441). -/
def areaSize : Nat := 0x140000

/-- What a byte that nothing lists reads as: 0 (log entry 3), in a save area a free value (log entry 12). -/
def dfltIn (areas : List (Nat × Nat)) (a : Nat) : Byte :=
  match areas.find? (fun p => decide (p.1 ≤ a ∧ a < p.1 + areaSize)) with
  | some p => BitVec.ofNat 8 (Config.openWord (1000 + a) p.2)
  | none => memReset a

/-- That of the present state. -/
def memDflt (s : State) : Nat → Byte := dfltIn s.pwr.areas

/-- The canonical form of memory: rising addresses, no entry equal to what an unlisted byte reads as. -/
def Memory.wf (areas : List (Nat × Nat)) (m : List Host.Cell) : Bool := SMap.wf (dfltIn areas) m

/-- The byte of main SRAM or DRAM at host address `a`. -/
def memByte (s : State) (a : Nat) : Byte := SMap.get (memDflt s) s.mem a

/-- Store a byte. -/
def setMemByte (s : State) (a : Nat) (b : Byte) : State := { s with mem := SMap.put (memDflt s) s.mem a b }

/-- The little-endian number in the `n` bytes from host address `a`. -/
def memNat (s : State) (a : Nat) : Nat → Nat
  | 0 => 0
  | n + 1 => (memByte s a).toNat + 256 * memNat s (a + 1) n

/-- Store the low `n` bytes of a number, least significant first. -/
def setMemNat (s : State) (a v : Nat) : Nat → State
  | 0 => s
  | n + 1 => setMemNat (setMemByte s a (BitVec.ofNat 8 v)) (a + 1) (v / 256) n

/-- Store a list of bytes from `a` upward. -/
def setMemBytes (s : State) (a : Nat) : List Byte → State
  | [] => s
  | b :: r => setMemBytes (setMemByte s a b) (a + 1) r

/-- The bytes from `a` upward. -/
def memBytes (s : State) (a : Nat) : Nat → List Byte
  | 0 => []
  | n + 1 => memByte s a :: memBytes s (a + 1) n

/-- Host address of main SRAM word `i` (R60). Words that follow the last one in a transfer of several, as a latch or publish descriptor
(R105) moves them, come round to the first (DESIGN CHOICE, log entry 72). -/
def sramAt (i : Nat) : Nat := 0x1000000 + 4 * (i % 2 ^ 22)

/-- Host address of DRAM byte offset `i`. -/
def dramAt (i : Nat) : Nat := 0x10000000 + i % 2 ^ 28

/-- The region of a host address for TST: 0 main SRAM, 1 DRAM. -/
def memRegion (a : Nat) : Nat := if a < 0x10000000 then 0 else 1

/-- Whether the 16-byte block of host address `a` is poisoned (R459). -/
def poisoned (s : State) (a : Nat) : Bool := SMap.get (fun _ => false) s.poison (a / 16)

/-- Mark or unmark the block of `a`. -/
def setPoison (s : State) (a : Nat) (b : Bool) : State := { s with poison := SMap.put (fun _ => false) s.poison (a / 16) b }

/-- The effects of reading a poisoned block (R459): UE, UE_CNT, UE_ADDR and event 0x02. -/
def poisonedRead (reader a : Nat) (s : State) : State :=
  let r := memRegion a
  let s := raiseFlag s F.TST_MEM_STATUS_UE r
  let s := bump s F.TST_MEM_UE_CNT_COUNT 1 r
  let s := fset s F.TST_MEM_UE_ADDR_ADDR (a / 16 * 16) r
  raise blkTST 0x02 r (a / 16 * 16) reader s

/-- A correctable error is read and corrected (R458): CE, and event 0x01 for the first of the region in each
second. -/
def correctedRead (a : Nat) (s : State) : State :=
  let r := memRegion a
  let s := bump s F.TST_MEM_CE_COUNT 1 r
  let sec := lns s / 1000000000
  let last := if r = 0 then s.tst.ceSec0 else s.tst.ceSec1
  let s := if r = 0 then { s with tst := { s.tst with ceSec0 := some sec, passCe0 := s.tst.passCe0 + 1 } }
    else { s with tst := { s.tst with ceSec1 := some sec, passCe1 := s.tst.passCe1 + 1 } }
  if last = some sec then s else raise blkTST 0x01 r (a / 16 * 16) (fget s F.TST_MEM_CE_COUNT r) s

/-- What the reads of a command find (R458, R459): a block that cannot be corrected is poisoned, and the read
that follows reports it. -/
def noteErrs (errs : List MemErr) (s : State) : State :=
  forL errs (fun e s => match e.ecc with
    | .ok => s
    | .single => correctedRead e.blk s
    | .multi => setPoison s e.blk true) s

/-- R462: a local memory of block `b` shows an error. -/
def localErr (b : Nat) (e : LocErr) (s : State) : State :=
  if e.multi then raise blkTST 0x04 0 b e.word (raiseFlag s F.TST_LOCAL_UE) else bump s F.TST_LOCAL_CE

/-- Read `n` bytes from `a`, all in one block, by the reader numbered as in R474: 0 when poisoned (R459). -/
def readMem (reader a n : Nat) (s : State) : Nat × State :=
  if poisoned s a then (0, poisonedRead reader a s) else (memNat s a n, s)

/-- Read `n` bytes from address `a` of main SRAM, wrapping at its end, by a reader: those of poisoned blocks are 0, and each such block is
reported once (R459). -/
def readBytes (reader a n : Nat) (s : State) : List Byte × State :=
  let at_ := fun k => 0x1000000 + (a + k) % 2 ^ 24
  let blks := if n = 0 then [] else (List.range ((a % 16 + n + 15) / 16)).map (fun k => 0x1000000 + (a / 16 * 16 + 16 * k) % 2 ^ 24)
  ((List.range n).map (fun k => if poisoned s (at_ k) then 0#8 else memByte s (at_ k)),
    forL (blks.filter (poisoned s)) (poisonedRead reader) s)

/-- What the reads of a host access find (R458); of an access held in DOZE it waits with the access (R33). -/
def holdErrs (l : List MemErr) (s : State) : State :=
  if s.pwr.sysRet then { s with pwr := { s.pwr with heldErrs := s.pwr.heldErrs ++ l } } else noteErrs l s

/-- Read main SRAM word `i`. -/
def readSram (reader i : Nat) (s : State) : Nat × State := readMem reader (sramAt i) 4 s

/-- Write main SRAM word `i`; a write of fewer than 16 bytes leaves its block poisoned (R460). -/
def writeSram (i v : Nat) (s : State) : State := setMemNat s (sramAt i) v 4

/-- Write bytes from `a`; a block wholly covered stops being poisoned (R460). -/
def writeMemBytes (s : State) (a : Nat) (bs : List Byte) : State :=
  let s := setMemBytes s a bs
  let first := (a + 15) / 16
  let last := (a + bs.length) / 16
  (List.range (last - first)).foldl (fun s k => setPoison s ((first + k) * 16) false) s

/-! ### Platens and mode machines -/

/-- Platen `n` (4 is PLTM). -/
def State.plt (s : State) (n : Nat) : PltS := SMap.get (fun _ => PltS.init) s.plts n

/-- Replace platen `n`. -/
def setPlt (s : State) (n : Nat) (p : PltS) : State := { s with plts := SMap.put (fun _ => PltS.init) s.plts n p }

/-- Change platen `n`. -/
def modPlt (s : State) (n : Nat) (f : PltS → PltS) : State := setPlt s n (f (s.plt n))

/-- Mode machine `m`. -/
def State.mm (s : State) (m : Nat) : MmS := SMap.get (fun _ => MmS.init) s.mms m

/-- Replace mode machine `m`. -/
def setMm (s : State) (m : Nat) (x : MmS) : State := { s with mms := SMap.put (fun _ => MmS.init) s.mms m x }

/-- EDG channel `c`. -/
def State.ch (s : State) (c : Nat) : ChanS := SMap.get (fun _ => ChanS.init) s.edg c

/-- Replace EDG channel `c`. -/
def setCh (s : State) (c : Nat) (x : ChanS) : State := { s with edg := SMap.put (fun _ => ChanS.init) s.edg c x }

/-- Change EDG channel `c`. -/
def modCh (s : State) (c : Nat) (f : ChanS → ChanS) : State := setCh s c (f (s.ch c))

/-- A number kept by key, 0 where unlisted. -/
def nget (m : SMap Nat) (k : Nat) : Nat := SMap.get (fun _ => 0) m k

/-- Store a number by key. -/
def nput (m : SMap Nat) (k v : Nat) : SMap Nat := SMap.put (fun _ => 0) m k v

/-- Whether function `fam`, index `i` of the BALL section (R494) has its ball (R50, R55). -/
def hasBall (s : State) (fam i : Nat) : Bool := SMap.get (fun _ => false) s.pins.funcs (fam * 1024 + i)

/-- OWN_IN and PEN_FB as the functions see them: a function without its ball reads 0 (R50, R494). -/
def ownIn (s : State) : Bool := s.pins.ownIn && hasBall s 0x17 1
def penFb (s : State) : Bool := s.pins.penFb && hasBall s 0x17 4

/-- Store a word of the feedback page. -/
def pagePut (off : Nat) (v : W24) (s : State) : State := { s with page := SMap.put (fun _ => 0#24) s.page off v }

/-- A word of the feedback page (R128). -/
def pageGet (s : State) (off : Nat) : W24 := SMap.get (fun _ => 0#24) s.page off

/-- Word `k` of the page block of source `i`. -/
def srcWord (s : State) (i k : Nat) : Nat := (pageGet s (srcBlock i + k)).toNat

/-- Position of a source in the page. -/
def pagePos (s : State) (i : Nat) : Int := sgn 48 (srcWord s i 0 * 2 ^ 24 + srcWord s i 1)

/-! ### The start of impressions -/

/-- The first grid instant at or after `n` ns (R19). -/
def gridFrom (s : State) (n : Nat) : Nat :=
  let ph : Int := 20 * fget s F.SYS_IMP_PHASE_OFFSET
  n + ((ph - (n : Int)) % (max 1 (tImp s) : Nat)).toNat

/-- Impressions start at the next grid boundary. -/
def impStart (s : State) : State :=
  { s with sys := { s.sys with running := true, next := gridFrom s (lns s), open_ := 0, adjusting := false, adj := 0 } }

/-- R238: every segment starts in DARK, also as EDG sees it. -/
def trackDark (s : State) : State :=
  forN 8 (fun k s => forN 6 (fun i s => wr s (R.SYS_TRK_SEGSTATE.at k i) 0#32) s)
    { s with segOut := [], trk := { s.trk with st := [], drain := [], next := [] } }

/-- R424 steps 3 to 5: in a takeover impressions start once the copy is complete, calibration valid and SETTLE over; the track
unit evaluates from DARK (R238). -/
def takeStart (s : State) : State :=
  if s.sys.st == .takeover && s.par.restored && !s.sys.running && flag s F.EDG_STATUS_CAL_VALID &&
      (List.range 48).all (fun c => !(flag s F.SDM_CFG_EN c && flag s F.SDM_STATUS_SETTLE c)) then impStart (trackDark s)
  else s

end Sys2Proof.Machine
end

