-- ==== Sys2Proof/Machine/Edge.lean ====
section
/-! DEFINITION. Sys2Proof/Machine/Edge.lean: the edge engine (R140 to R170). Instants are those of `clk`, in 1/256 ns: one
EDG clock is 640 of them and 1/64 of it is 10. Driven levels are those at the engine; the ball shows them T_OUT
later (R146). -/

namespace Sys2Proof.Machine

/-! ### Carrier -/

/-- LOCK_M, LOCK_K and UPD_N of channel `c`. -/
def lockM (s : State) (c : Nat) : Nat := zeroIs 128 (fget s F.EDG_CH_LOCK_M c)
def lockK (s : State) (c : Nat) : Nat := zeroIs 16 (fget s F.EDG_CH_LOCK_K c)
def updN (s : State) (c : Nat) : Nat := zeroIs 16 (fget s F.EDG_CH_UPD_N c)

/-- P and r of R140 for an impression period in units of 20 ns and a lock of `m` impressions and `k` periods. -/
def carrierP (period m k : Nat) : Nat := 8 * period * m / k
def carrierR (period m k : Nat) : Nat := 8 * period * m - k * carrierP period m k

/-- P of channel `c` (R140). -/
def chP (s : State) (c : Nat) : Nat := carrierP (fget s F.SYS_IMP_CFG_PERIOD) (lockM s c) (lockK s c)

/-- r of channel `c` (R140). -/
def chR (s : State) (c : Nat) : Nat := carrierR (fget s F.SYS_IMP_CFG_PERIOD) (lockM s c) (lockK s c)

/-- The largest of `n, n - 1, … 1` that satisfies `ok`, or 1. -/
def largest (ok : Nat → Bool) : Nat → Nat
  | 0 => 1
  | n + 1 => if ok (n + 1) then n + 1 else largest ok n

/-- R142: LOCK_M and LOCK_K corrected so that P lies from 1,000 to 4,160,000. -/
def carrierFit (period m k : Nat) : Nat × Nat :=
  if carrierP period m k < 1000 then (m, largest (fun k' => decide (1000 ≤ carrierP period m k')) k)
  else if 4160000 < carrierP period m k then (largest (fun m' => decide (carrierP period m' k ≤ 4160000)) m, k)
  else (m, k)

/-- The length, in EDG clocks, scheduled for the period with number `q` counted from the first reload (R140). -/
def periodLen (s : State) (c q : Nat) : Nat :=
  chP s c + (if q % lockK s c = lockK s c - 1 then chR s c else 0)

/-- The lock interval, counted from the first lock point, to which the present impression belongs (R141). -/
def lockNow (s : State) (c : Nat) : Option Nat := (s.ch c).lock.map (fun l => (s.sys.imp - l) / lockM s c)

/-- The length, in 1/64 EDG clock, of the period with number `q` as it stands at present: the last of its lock interval absorbs by
how much that interval's impressions have been lengthened or shortened (R141, R146). -/
def periodNow (s : State) (c q : Nat) : Int :=
  let x := s.ch c
  let a := if lockNow s c = some (q / lockK s c) then x.adj else x.adjOld
  64 * periodLen s c q + (if q % lockK s c = lockK s c - 1 then a * 128 / 5 else 0)

/-- An impression opens, lengthened by `a` ns: what the lock interval of each channel has to absorb (R141). -/
def lockAdjust (a : Int) (s : State) : State :=
  forN 48 (fun c s =>
    match (s.ch c).lock with
    | some l =>
      if (s.sys.imp - l) % lockM s c = 0 then modCh s c (fun x => { x with adj := a, adjOld := x.adj })
      else modCh s c (fun x => { x with adj := x.adj + a })
    | none => s) s

/-! ### Rows 1 to 5 of R159 -/

/-- The STO output `g` is asserted, as the safety island commands it. -/
def stoAsserted (s : State) (g : Nat) : Bool := fbit s F.SAF_BRAKE_STO_ASSERTED g

/-- Row 1: DRV output `o` of channel `c` has its ball. -/
def drvBall (s : State) (c o : Nat) : Bool := hasBall s 0x01 (6 * c + o)

/-- Row 2 of R159 does not hold: EDG.STATUS.OWN_OK. -/
def ownOk (s : State) : Bool :=
  fget s F.PAR_CFG_MODE == 0 || (s.pins.ownOut && !ownIn s)

/-- FORME_OVER of the platen that channel `c` is bound to (R54); a bare platen masks its channels too (R456). -/
def chFormeOver (s : State) (c : Nat) : Bool :=
  let n := fget s F.SDM_CFG_PLATEN c
  decide (n < 4) && ((s.plt n).foreOver || (s.plt n).bare)

/-- Row 4. -/
def row4 (s : State) (c : Nat) : Bool :=
  s.sys.st != .run || chFormeOver s c || !flag s F.EDG_STATUS_CAL_VALID || flag s F.EDG_CST_NOSET c

/-- The over-current latches of `d` trip a channel of its group (R163). -/
def ocCounts (s : State) (d : Nat) : Bool := flag s F.EDG_TCFG_OC_EN d && flag s F.EDG_TLATCH_OC d

/-- EDG.TLATCH.GRP: another channel of the same GROUP has an over-current latch set. -/
def grpLatched (s : State) (c : Nat) : Bool :=
  flag s F.EDG_TCFG_GROUP c &&
    (List.range 48).any (fun d => d != c && fget s F.EDG_TCFG_GROUP d == fget s F.EDG_TCFG_GROUP c && ocCounts s d)

/-- EDG.TLATCH.EXT: a routed external latch is set. -/
def extLatched (s : State) (c : Nat) : Bool := fget s F.EDG_XLATCH_LATCH &&& fget s F.EDG_XMASK_MASK c != 0

/-- R164: the channel is tripped. -/
def chTripped (s : State) (c : Nat) : Bool := extLatched s c || ocCounts s c || grpLatched s c

/-- ACTION of channel `c`: 0 OFF, 1 SHORT, 2 HOLD. -/
def tripAction (s : State) (c : Nat) : Nat := fget s F.EDG_TCFG_ACTION c

/-- Row 3, row 4, or a trip with action OFF or SHORT (R160). -/
def forced (s : State) (c : Nat) : Bool :=
  stoAsserted s (fget s F.EDG_TCFG_STOG c) || row4 s c || (chTripped s c && tripAction s c != 2)

/-! ### Masks -/

/-- Entry `i` of the mask table of channel `c` (R156). -/
def maskEntry (s : State) (c i : Nat) : Nat :=
  bitsOf (rd s ((if i < 4 then R.EDG_MTAB_LO else R.EDG_MTAB_HI).at c)) (6 * (i % 4)) 6

/-- The entry in effect: with MSRC 0 every output follows. -/
def maskNow (s : State) (c : Nat) : Nat := if fget s F.EDG_TCFG_MSRC c = 0 then 63 else maskEntry s c (s.ch c).midx

/-- The index that the source of R156 gives now. With MSRC 0 it gives none: MIDX keeps the last index, and no delay applies before all
outputs follow (DESIGN CHOICE, log entry 71). -/
def maskIndex (s : State) (c : Nat) : Nat :=
  match fget s F.EDG_TCFG_MSRC c with
  | 1 => if flag s F.FBK_HALL_CFG_EN c then fget s F.FBK_HALL_CFG_STATE c else 0
  | 2 => nget s.segOut c % 8
  | 3 => (s.mm (fget s F.EDG_TCFG_MM c)).st % 8
  | _ => (s.ch c).midx

/-- R158: `e` becomes the entry in effect; outputs that it unmasks wait for an ON event unless REENTRY is 1, and those that it masks
wait for nothing. -/
def enterMask (c e : Nat) (s : State) : State :=
  let x := s.ch c
  let re := flag s F.EDG_TCFG_REENTRY c
  let blk := (List.range 6).foldl (fun b o =>
    if !e.testBit o then putBit b o false else if x.entry.testBit o then b else putBit b o (!re)) x.blk
  setCh s c { x with entry := e, blk := blk }

/-- R157: the index changes; the entry applies MDLY later, at once with MDLY 0. -/
def maskScan (c : Nat) (s : State) : State :=
  let x := s.ch c
  let i := maskIndex s c
  let s := if i = x.mpend.getD x.midx then s
    else if fget s F.EDG_MDLY_DLY c = 0 then setCh s c { x with midx := i, mpend := none }
    else setCh s c { x with mpend := some i, mAt := clk s }
  let e := maskNow s c
  if e = (s.ch c).entry then s else enterMask c e s

/-! ### Wanted levels and the interlock -/

/-- The level that rows 3 to 7 of R159 want for output `o`; rows 1 and 2 put the ball in high impedance. When row 3 or 4 ends while a trip
with SHORT stands, the low sides turn on at once and do not wait for the transfer point of R160 (DESIGN CHOICE, log entry 72). -/
def wanted (s : State) (c o : Nat) : Bool :=
  let x := s.ch c
  if !domainOn s 6 || !drvBall s c o || !ownOk s then false
  else if stoAsserted s (fget s F.EDG_TCFG_STOG c) || row4 s c then false
  else if chTripped s c && tripAction s c == 0 then false
  else if chTripped s c && tripAction s c == 1 then o % 2 == 1
  else !x.hold && x.entry.testBit o && !x.blk.testBit o && x.lvl.testBit o

/-- The other output of a leg. -/
def partner (o : Nat) : Nat := if o % 2 = 0 then o + 1 else o - 1

/-- Record the wanted levels and the instants they rose; outputs no longer wanted turn off at once. -/
def turnOffs (c : Nat) (s : State) : State :=
  forN 6 (fun o s =>
    let x := s.ch c
    let w := wanted s c o
    let now := clk s
    let x := if w && !x.want.testBit o then { x with wantAt := nput x.wantAt o (now + 1) } else x
    let x := { x with want := putBit x.want o w }
    setCh s c (if x.drv.testBit o && !w then { x with drv := putBit x.drv o false, offAt := nput x.offAt o (now + 1) } else x)) s

/-- R155: both outputs of the leg of `o` are wanted since the same instant. -/
def legTie (x : ChanS) (o : Nat) : Bool :=
  x.want.testBit o && x.want.testBit (partner o) && nget x.wantAt o == nget x.wantAt (partner o)

/-- R155 for output `o`: undo a turn-on of this very instant when its partner wants to turn on in it too; turn on
when the partner has been low for DTIME; tell whether the partner's high level or a tie withholds it. -/
def interlock (c o : Nat) (s : State) : State :=
  let x := s.ch c
  let p := partner o
  let now := clk s
  if !x.want.testBit o then s
  else if legTie x o then
    let undo := x.drv.testBit o && nget x.onAt o == nget x.wantAt o
    let s := if undo then setCh s c { x with drv := putBit x.drv o false } else s
    raiseFlag s F.EDG_CST_OVERLAP c
  else if x.drv.testBit o then s
  else if x.drv.testBit p then raiseFlag s F.EDG_CST_OVERLAP c
  else if nget x.offAt p = 0 ∨ nget x.offAt p - 1 + 10 * fget s F.EDG_DT_DTIME c ≤ now then
    setCh s c { x with drv := putBit x.drv o true, onAt := nput x.onAt o (now + 1) }
  else s

/-- R160: rows 3 and 4 and a trip with OFF or SHORT make the outputs wait for a transfer point. -/
def holdScan (c : Nat) (s : State) : State := if forced s c then modCh s c (fun x => { x with hold := true }) else s

/-- The outputs of channel `c` at the present instant: masks, forcings, then the interlock. -/
def edgSettle (c : Nat) (s : State) : State := forN 6 (interlock c) (turnOffs c (holdScan c (maskScan c s)))

/-! ### Trips -/

/-- The level of auxiliary timer `a`. -/
def auxLevel (s : State) (a : Nat) : Bool := flag s F.EDG_AUX_LEVEL a

/-- Blanked external source `x` (R164). -/
def xBlanked (s : State) (x : Nat) : Bool := flag s F.EDG_TRIPX_BLANK_EN x && auxLevel s (fget s F.EDG_TRIPX_BLANK_AUX x)

/-- Channels from `lo`, 32 at most, that route external source `x`, as a mask (R465). -/
def xRoutes (s : State) (x lo n : Nat) : Nat :=
  (List.range n).foldl (fun m i => if fbit s F.EDG_XMASK_MASK x (lo + i) then m + 2 ^ i else m) 0

/-- R164, R170 for external source `x`: an asserted, unblanked source sets its latch; with EN 0 it is never asserted (R163). -/
def xLatch (x : Nat) (s : State) : State :=
  if flag s F.EDG_TRIPX_EN x && fbit s F.EDG_XLIVE_LIVE x && !xBlanked s x && !fbit s F.EDG_XLATCH_LATCH x then
    raise blkEDG 0x01 x (xRoutes s x 0 32) (xRoutes s x 32 16) (raiseBit s F.EDG_XLATCH_LATCH x)
  else s

/-- R164, R170 for phase `p` of channel `c`: its comparator output asserts the source whatever OC_EN (R163). -/
def ocLatch (c p : Nat) (s : State) : State :=
  let blanked := flag s F.EDG_TCFG_BLANK_EN c && auxLevel s (fget s F.EDG_TCFG_BLANK_AUX c)
  if fbit s F.SDM_STATUS_OCT p c && !blanked && !fbit s F.EDG_TLATCH_OC p c then
    raise blkEDG 0x02 c p (fget s F.EDG_TCFG_GROUP c) (raiseBit s F.EDG_TLATCH_OC p c)
  else s

/-- Every trip source sets its latch if it may (R164). -/
def tripScan (s : State) : State :=
  forN 48 (fun c s => forN 3 (ocLatch c) s) (forN 24 xLatch s)

/-- The edge engine after anything that its latches, forcings or masks depend on has changed. -/
def edgRefresh (s : State) : State := if domainOn s 6 then forN 48 edgSettle (tripScan s) else s

/-! ### Sets and reloads -/

/-- A set completes at instant `t` (R151): of the sets eligible before it only the newest stays. OVERWRITE for a set that a newer one has
displaced is set here, at the next completion, or at the transfer point, and not at the instant at which the newer one became eligible
(DESIGN CHOICE, log entry 72). -/
def setComplete (c t : Nat) (vals : List Nat) (s : State) : State :=
  let x := s.ch c
  let old := x.sets.filter (fun e => decide (e.1 + 10240 < t))
  let keep := old.drop (old.length - 1)
  let s := if old.length ≤ 1 then s else raiseFlag s F.EDG_CST_OVERWRITE c
  setCh s c { x with sets := keep ++ x.sets.filter (fun e => !decide (e.1 + 10240 < t)) ++ [(t, vals)] }

/-- The set, of those complete by `now`, that would transfer at a transfer point at `t` (R151). -/
def eligible (x : ChanS) (now t : Nat) : Option (List Nat) :=
  ((x.sets.filter (fun e => decide (e.1 ≤ now) && decide (e.1 + 10240 < t))).getLast?).map (·.2)

/-- R151, R152 at a transfer point at `t`: the sets complete in the 40 ns before it are deferred. -/
def transfer (c t : Nat) (s : State) : State :=
  let x := s.ch c
  let ok := x.sets.filter (fun e => decide (e.1 + 10240 < t))
  let late := x.sets.filter (fun e => !decide (e.1 + 10240 < t))
  let n := (late.filter (fun e => decide (e.1 ≤ t))).length
  let s := if n = 0 then s else bump (raiseFlag s F.EDG_CST_DEFER c) F.EDG_CCNT_DEFERS n c
  let s := if ok.length ≤ 1 then s else raiseFlag s F.EDG_CST_OVERWRITE c
  match ok.getLast? with
  | some e => setCh (fset s F.EDG_CST_NOSET 0 c) c { x with active := e.2, sets := late }
  | none => s

/-- R162 at a reload of channel `c`: the timers that refer to it take their values and leave their wait. -/
def auxReload (c : Nat) (s : State) : State :=
  forN 16 (fun a s =>
    if fget s F.EDG_AUX_CH a = c then
      { s with aux := SMap.put (fun _ => AuxS.init) s.aux a ⟨fget s F.EDG_AUX_ON_VAL a, fget s F.EDG_AUX_OFF_VAL a, false⟩ }
    else s) s

/-- A reload of channel `c` at `t` (R141, R150 to R152, R160, R162). -/
def reloadChan (c t : Nat) (s : State) : State :=
  let x := s.ch c
  let q := x.q
  let s := setCh s c { x with q := q + 1, reload := t, coarse := x.coarseNext }
  let s := auxReload c s
  if q % updN s c = 0 then
    let s := transfer c t s
    if (s.ch c).hold && !forced s c then modCh s c (fun x => { x with hold := false, lvl := 0 }) else s
  else s

/-- R143, R144: outputs low, no set, every compare level 0; the period counting restarts. A boundary that is the first lock point opens an
impression of the first lock interval, whose adjustment that interval absorbs (R141). -/
def restartChan (lock : Option Nat) (c : Nat) (s : State) : State :=
  let s := fset s F.EDG_CST_NOSET 1 c
  let s := modCh s c (fun x => { x with lock := lock, q := 0, active := [], sets := [], part := [], lvl := 0, hold := true, adj := if lock.isSome then s.sys.adj else 0, adjOld := 0 })
  forN 16 (fun a s =>
    if fget s F.EDG_AUX_CH a = c then
      fset { s with aux := SMap.put (fun _ => AuxS.init) s.aux a { SMap.get (fun _ => AuxS.init) s.aux a with wait := true } }
        F.EDG_AUX_LEVEL 0 a
    else s) s

/-! ### Compare events -/

/-- A compare value as it is placed: with a failed replica the fine part rounds to a clock (R149). -/
def effV (x : ChanS) (v : Nat) : Nat := if x.coarse then (v + 32) / 64 * 64 else v

/-- A compare value whose coarse part is below a period length in 1/64 clock (R146). -/
def within64 (v : Nat) (len : Int) : Bool := decide ((v / 64 * 64 : Nat) < len)

/-- Where compare `j` of a set fires in a period of length `len`, both in 1/64 clock from the reload (R146). -/
def fireAt (x : ChanS) (set : List Nat) (j : Nat) (len : Int) : Option Nat :=
  match set[j]? with
  | some v => if within64 v len then some (effV x v) else none
  | none => none

/-- The opposite event of compare `j` (R145). -/
def opposite (j : Nat) : Nat := if j % 2 = 0 then j + 1 else j - 1

/-- An ON of compare `j` that its OFF of equal value takes back (R147). -/
def offWins (set : List Nat) (j : Nat) : Bool := j % 2 == 0 && set[j]? == set[j + 1]?

/-- R154: the time, in 1/64 clock, from the firing of compare `j` in the present period to the next event of its
output that undoes it: in this period, or in the next one with the set that would then be in effect. -/
def undoAfter (s : State) (c j : Nat) : Option Int :=
  let x := s.ch c
  let q := x.q - 1
  let len := periodNow s c q
  match fireAt x x.active j len with
  | none => none
  | some v =>
    match fireAt x x.active (opposite j) len with
    | some u => if v < u then some ((u : Int) - v) else next x q len v
    | none => next x q len v
where
  /-- The undoing event in the following period. -/
  next (x : ChanS) (q : Nat) (len : Int) (v : Nat) : Option Int :=
    let point := (x.reload + 10 * len).toNat
    let set := if (q + 1) % updN s c = 0 then (eligible x (clk s) point).getD x.active else x.active
    if offWins set (opposite j) then none
    else (fireAt x set (opposite j) (periodNow s c (q + 1))).map (fun u => len + u - v)

/-- Compare `j` of channel `c` fires (R146, R147, R154, R158). An ON event that R154 takes away as the end of a short gap finds the level
at 1 and ends the wait of REENTRY 0 all the same (DESIGN CHOICE, log entry 72). -/
def compareFires (c j : Nat) (s : State) : State :=
  let x := s.ch c
  let o := j / 2
  let on := j % 2 == 0
  let equal := x.active[j]? == x.active[opposite j]?
  if x.active.isEmpty then s
  else if on && equal then s
  else if x.lvl.testBit o == on then (if on then setCh s c { x with blk := putBit x.blk o false } else s)
  else
    let min := 64 * fget s F.EDG_DT_MINPW c
    let short := match undoAfter s c j with
      | some d => decide (d < min)
      | none => false
    if short then bump (raiseFlag s F.EDG_CST_MINPW_HIT c) F.EDG_CCNT_MINPWS 1 c
    else setCh s c { x with lvl := putBit x.lvl o on, blk := if on then putBit x.blk o false else x.blk }

/-- R146: whether the value of compare `j` is reached within the actual length of the present period of channel `c`. -/
def compareReached (s : State) (c j : Nat) : Bool :=
  let x := s.ch c
  match x.active[j]? with
  | some v => decide (x.q ≠ 0) && within64 v (periodNow s c (x.q - 1))
  | none => false

/-! ### Commands -/

/-- The next reload of channel `c` is due in the present lock interval: it starts one of its periods, or the last period of the interval
before, whose start impressions that were shortened (R20) have left behind the lock point. -/
def reloadDue (s : State) (c : Nat) : Bool :=
  let q := (s.ch c).q
  match lockNow s c with
  | some n => n == q / lockK s c || (n == q / lockK s c + 1 && q % lockK s c == lockK s c - 1)
  | none => false

/-- CARRIER_RELOAD (R141): a channel reloads, for the next period of its lock interval. -/
def execCarrierReload (t : Nat) (c : Fin 48) (s : State) : Res :=
  let s := advance t s
  .next (if domainOn s 6 && reloadDue s c.val then edgSettle c.val (reloadChan c.val (clk s) s) else s)

/-- COMPARE_FIRE (R146). -/
def execCompareFire (t : Nat) (c : Fin 48) (j : Fin 12) (s : State) : Res :=
  let s := advance t s
  .next (if domainOn s 6 && compareReached s c.val j.val then edgSettle c.val (compareFires c.val j.val s) else s)

/-- INTERLOCK_TURN_ON (R155): DTIME has passed for a waiting output. -/
def execInterlockTurnOn (t : Nat) (c : Fin 48) (s : State) : Res :=
  let s := advance t s
  .next (if domainOn s 6 then edgSettle c.val s else s)

/-- R153: the host's set of an unbound channel completes when the GO write arrives in EDG, 11.5 to 14 ns after it
reaches SYS; the model takes 14 ns, 3584 of 1/256 ns (log entry 14). -/
def shdGo (ifc : Ifc) (c : Nat) (v : Word) (s : State) : State :=
  if fget s F.SDM_CFG_PLATEN c = 7 then
    (if v.getLsbD 0 then
      setComplete c (clk s + 3584) ((List.range 12).map (fun j => fget s F.EDG_SHD_VAL c j)) s
     else s)
  else hostDrop ifc (R.EDG_SHD_GO.at c) s

/-- SHD_GO (R153). -/
def execShdGo (h : Via) (c : Fin 48) (s : State) : Res :=
  .next (hostGate h (R.EDG_SHD_GO.at c.val) (some 1#32) (shdGo h.ifc c.val 1#32) s)

/-- CALIBRATION_PASS (R148, R149): `taps` gives the taps that span one clock on each replica, none where the
256 taps do not span it. -/
def execCalibrationPass (t : Nat) (resid : BitVec 8) (taps : List (Option Nat)) (s : State) : Res :=
  let s := advance t s
  .next (
    if domainOn s 6 then
      let one := fun c => taps.getD c none
      let ns := (List.range 48).map (fun c => (one c).getD 0)
      let s := fset s F.EDG_CAL_RESID resid.toNat
      let s := fset s F.EDG_CAL_TAPS_MIN (min 255 (ns.foldl min 255))
      let s := fset s F.EDG_CAL_TAPS_MAX (min 255 (ns.foldl max 0))
      let s := fset s F.EDG_CAL_PASSES (fget s F.EDG_CAL_PASSES + 1)
      let s := fset s F.EDG_STATUS_CAL_VALID 1
      let s := forN 48 (fun c s =>
        let bad := (one c).isNone
        let s := modCh s c (fun x => { x with coarseNext := bad })
        if bad then raise blkEDG 0x04 c 0 0 (raiseFlag s F.EDG_STATUS_CAL_FAIL) else s) s
      edgRefresh (takeStart (edgRefresh s))
    else s)

/-- MASK_APPLY (R157): the pending index applies when MDLY has passed since the newest change. -/
def execMaskApply (t : Nat) (c : Fin 48) (s : State) : Res :=
  let s := advance t s
  .next (
    if domainOn s 6 then
      edgSettle c.val (modCh s c.val (fun x =>
        match x.mpend with
        | some i => if x.mAt + 5120 * fget s F.EDG_MDLY_DLY c.val ≤ clk s then { x with midx := i, mpend := none } else x
        | none => x))
    else s)

/-- The value of timer `x` lies within the present period of its reference channel `c` (R146, R162). -/
def auxWithin (s : State) (c v : Nat) : Bool := decide ((s.ch c).q ≠ 0) && within64 (64 * v) (periodNow s c ((s.ch c).q - 1))

/-- AUX_TIMER_FIRE (R162, R164): a timer that is enabled and not waiting changes its level at a value within its reference's period;
OFF wins on equal values; sources whose blanking ends may latch. -/
def execAuxTimerFire (t : Nat) (a : Fin 16) (on : Bool) (s : State) : Res :=
  let s := advance t s
  let x := SMap.get (fun _ => AuxS.init) s.aux a.val
  .next (
    if domainOn s 6 && flag s F.EDG_AUX_EN a.val && !x.wait && !(on && x.on == x.off) &&
        auxWithin s (fget s F.EDG_AUX_CH a.val) (if on then x.on else x.off) then
      edgRefresh (fset s F.EDG_AUX_LEVEL on.toNat a.val)
    else s)

/-- TRIP_INPUT_ASSERT (R163): the ball has held its active level for FILT clocks; a source with EN 0 or without
its ball is never asserted. -/
def execTripInputAssert (t : Nat) (x : Fin 24) (s : State) : Res :=
  let s := advance t s
  .next (
    if domainOn s 6 && flag s F.EDG_TRIPX_EN x.val && hasBall s 0x07 x.val then
      edgRefresh (fsetBit s F.EDG_XLIVE_LIVE x.val true)
    else s)

/-- TRIP_INPUT_DEASSERT (R163). -/
def execTripInputDeassert (t : Nat) (x : Fin 24) (s : State) : Res :=
  let s := advance t s
  .next (if domainOn s 6 then fsetBit s F.EDG_XLIVE_LIVE x.val false else s)

/-- R169 for external latches: bit by bit, a clear of an asserted source is refused. -/
def xlatchClear (v : Word) (s : State) : State :=
  let s := forN 24 (fun x s =>
    if v.getLsbD x then
      (if fbit s F.EDG_XLIVE_LIVE x then raise blkEDG 0x03 x 0 0 (raiseFlag s F.EDG_STATUS_XCLR_REFUSED)
       else if (justSet s R.EDG_XLATCH.addr).getLsbD x then s
       else fsetBit s F.EDG_XLATCH_LATCH x false)
    else s) s
  edgRefresh s

/-- XLATCH_CLEAR (R169, R168). -/
def execXlatchClear (h : Via) (v : Word) (s : State) : Res :=
  .next (hostGate h R.EDG_XLATCH.addr (some v) (xlatchClear v) s)

/-- R169 for the over-current latches of channel `c`: the source is asserted while its comparator output is 1 (R163). -/
def tlatchClear (c : Nat) (v : Word) (s : State) : State :=
  let s := forN 3 (fun p s =>
    if v.getLsbD p then
      (if fbit s F.SDM_STATUS_OCT p c then
        raise blkEDG 0x03 (256 + c) p 0 (raiseFlag s F.EDG_CST_CLR_REFUSED c)
       else if (justSet s (R.EDG_TLATCH.at c)).getLsbD (F.EDG_TLATCH_OC.lsb + p) then s
       else fsetBit s F.EDG_TLATCH_OC p false c)
    else s) s
  edgRefresh s

/-- TLATCH_CLEAR (R169, R168). -/
def execTlatchClear (h : Via) (c : Fin 48) (v : Word) (s : State) : Res :=
  .next (hostGate h (R.EDG_TLATCH.at c.val) (some v) (tlatchClear c.val v) s)

end Sys2Proof.Machine
end

