-- ==== Sys2Proof/Machine/Sdm.lean ====
section
/-! DEFINITION. Sys2Proof/Machine/Sdm.lean: current sensing and the auxiliary analog inputs (R116 to R131).
A command carries the modulator bits of a phase, the latest first, as far back as a filter or a count looks. -/

namespace Sys2Proof.Machine

/-- A sampled bit as both filters take it (R118). -/
def bitVal (b : Bool) : Int := if b then 1 else -1

/-- The number of ways in which three numbers that are at least 0 give the sum `k`. -/
def ways3 (k : Int) : Int := if k < 0 then 0 else (k + 1) * (k + 2) / 2

/-- h_k of a sinc3 filter of ratio `r`, whose sum is r³ (R119). -/
def sinc3 (r k : Nat) : Int := ways3 k - 3 * ways3 ((k : Int) - r) + 3 * ways3 ((k : Int) - 2 * r)

/-- g_k of a sinc2 filter of ratio `r`, whose sum is r² (R122). -/
def sinc2 (r k : Nat) : Int := if k < r then k + 1 else 2 * (r : Int) - 1 - k

/-- The sum of `h k × x_k` over the `n` latest bits, the latest first. -/
def filterSum (h : Nat → Int) (n : Nat) (bits : List Bool) : Int :=
  ((bits.take n).zipIdx.map (fun e => h e.2 * bitVal e.1)).foldl (· + ·) 0

/-- OSR3 and OSR2 of channel `c`. -/
def osr3 (s : State) (c : Nat) : Nat := fget s F.SDM_CFG_OSR3 c
def osr2 (s : State) (c : Nat) : Nat := fget s F.SDM_CFG_OSR2 c

/-- OSR3³ × y3 of the bits of a phase (R119). -/
def y3Sum (s : State) (c : Nat) (bits : List Bool) : Int := filterSum (sinc3 (osr3 s c)) (3 * osr3 s c - 2) bits

/-- OSR2² × y2 of the bits of a phase (R122). -/
def y2Sum (s : State) (c : Nat) (bits : List Bool) : Int := filterSum (sinc2 (osr2 s c)) (2 * osr2 s c - 1) bits

/-- R120, R122 before saturation: GAIN × (y − OFS) rounded half up to Q1.23, for the filter sum `y` of a filter
whose coefficients sum to `n`. -/
def sdmCorrect (s : State) (c p : Nat) (y : Int) (n : Nat) : Int :=
  divRound (fget s F.SDM_GAIN_GAIN c p * (y * 2 ^ 23 - fgetInt s F.SDM_OFS_OFS c p * n)) (2 ^ 22 * max 1 n)

/-- |i2| in Q1.23 of a phase whose latest bits are `bits` (R122). -/
def absI2 (s : State) (c p : Nat) (bits : List Bool) : Nat :=
  (clampInt (-(2 ^ 23)) (2 ^ 23 - 1) (sdmCorrect s c p (y2Sum s c bits) (osr2 s c ^ 2))).natAbs

/-- The evaluation of R123 with the bits of a phase from the latest on: |i2| is at least `th` / 4,096. -/
def overTh (s : State) (c p th : Nat) (bits : List Bool) : Bool := decide (th * 2 ^ 11 ≤ absI2 s c p bits)

/-- The latest `n` evaluations, one per modulator clock, all give `b` (R123); the bits have to reach back far enough. -/
def evalRun (s : State) (c p th : Nat) (b : Bool) (n : Nat) (bits : List Bool) : Bool :=
  decide (2 * osr2 s c + n ≤ bits.length + 2) && (List.range n).all (fun k => overTh s c p th (bits.drop k) == b)

/-- The trip comparator of a phase: CNT_TRIP consecutive evaluations give `b` (R123). -/
def tripRun (s : State) (c p : Nat) (b : Bool) (bits : List Bool) : Bool :=
  evalRun s c p (fget s F.SDM_OC_TH_TRIP c) b (zeroIs 16 (fget s F.SDM_OC_CNT_TRIP c)) bits

/-- The warning comparator of a phase (R124). -/
def warnRun (s : State) (c p : Nat) (b : Bool) (bits : List Bool) : Bool :=
  evalRun s c p (fget s F.SDM_OC_TH_WARN c) b (zeroIs 16 (fget s F.SDM_OC_CNT_WARN c)) bits

/-- R120 at a sample instant: the current of phase `p`, and whether it clipped. -/
def sdmPhase (s : State) (c p : Nat) (bits : List Bool) : Int × Bool :=
  let n := osr3 s c ^ 3
  let y3 := y3Sum s c bits
  let x := sdmCorrect s c p y3 n
  let v := clampInt (-(2 ^ 23)) (2 ^ 23 - 1) x
  (v, v ≠ x || decide (y3 = n) || decide (y3 = -n))

/-- R129: the status word of channel `c`, with the phases' CLIP bits of this impression. -/
def sdmStatusWord (s : State) (c clip : Nat) : Nat :=
  fget s F.SDM_STATUS_WARN_LIVE c + nget s.stuck c * 8 + clip * 64 + fget s F.SDM_STATUS_SETTLE c * 2 ^ 9 +
    (if chTripped s c then 2 ^ 10 else 0) + (if stoAsserted s (fget s F.EDG_TCFG_STOG c) then 2 ^ 11 else 0) +
    fget s F.SDM_PAGE_PAGE c * 2 ^ 23

/-- The latch of one phase: VAL, STATUS.CLIP and the page word (R120, R128); answers its CLIP bit. -/
def latchPhase (c p : Nat) (bits : List Bool) (s : State) : State × Nat :=
  let r := sdmPhase s c p bits
  let s := fset s F.SDM_VAL_I (unsgn 32 r.1) c p
  let s := if r.2 then raiseBit s F.SDM_STATUS_CLIP p c else s
  (pagePut (4 * c + p) (BitVec.ofInt 24 r.1) s, if r.2 then 2 ^ p else 0)

/-- The current words of channel `c` in the page at the sample instant (R128, R129); `bits` gives the bits
of each phase, the latest first. -/
def latchChannel (c : Nat) (bits : Nat → List Bool) (s : State) : State :=
  if flag s F.SDM_CFG_EN c then
    let u := latchPhase c 0 (bits 0) s
    let v := latchPhase c 1 (bits 1) u.1
    let w := latchPhase c 2 (bits 2) v.1
    pagePut (4 * c + 3) (BitVec.ofNat 24 (sdmStatusWord w.1 c (u.2 + v.2 + w.2))) w.1
  else forN 4 (fun i => pagePut (4 * c + i) 0#24) s

/-- R127 at a sample instant: LATCH and AVG of AIN `k` in the registers and the page. With no result since the
last sample instant the spec gives no mean: AVG is then LATCH (log entry 13). -/
def latchAin (k : Nat) (s : State) : State :=
  let x := SMap.get (fun _ => AinS.init) s.ain k
  let avg := if x.n = 0 then x.last else ((2 * x.sum + x.n) / (2 * x.n))
  let s := { s with ain := SMap.put (fun _ => AinS.init) s.ain k { x with sum := 0, n := 0 } }
  let s := fset (fset s F.SDM_AIN_VAL_LATCH x.last k) F.SDM_AIN_VAL_AVG avg k
  pagePut (0xD0 + k) (BitVec.ofNat 24 (avg * 2 ^ 7)) (pagePut (0xC0 + k) (BitVec.ofNat 24 (x.last * 2 ^ 7)) s)

/-- SETTLE rises for every channel of a set (R121). -/
def settleStart (chs : List Nat) (s : State) : State :=
  forL chs (fun c s => fset { s with settle := nput s.settle c (clk s + 1) } F.SDM_STATUS_SETTLE 1 c) s

/-- The channels whose OSR3, DIV or SDLY is not as it was in `o` settle anew (R121). -/
def settleChanged (o s : State) : State :=
  forN 48 (fun c s =>
    let clk := fun (f : Fld) => fget o f (c / 4) != fget s f (c / 4)
    if fget o F.SDM_CFG_OSR3 c != fget s F.SDM_CFG_OSR3 c || clk F.SDM_CLK_DIV || clk F.SDM_CLK_SDLY then settleStart [c] s else s) s

/-- 3·OSR3 modulator periods of channel `c`, in 1/256 ns (R117, R121). -/
def settleTime (s : State) (c : Nat) : Nat := 3 * osr3 s c * fget s F.SDM_CLK_DIV (c / 4) * 1280

/-- Whether the current-sense inputs of channel `c` can act: PD_FBK on and the channel in use. -/
def sdmLive (s : State) (c : Nat) : Bool := domainOn s 7 && flag s F.SDM_CFG_EN c

/-- OC_TRIP_ASSERT (R123): the comparator output rises after CNT_TRIP evaluations at or above TH_TRIP, and may set the latch (R164). -/
def execOcTripAssert (t : Nat) (c : Fin 48) (p : Fin 3) (bits : List Bool) (s : State) : Res :=
  let s := advance t s
  .next (if sdmLive s c.val && tripRun s c.val p.val true bits then edgRefresh (fsetBit s F.SDM_STATUS_OCT p.val true c.val) else s)

/-- OC_TRIP_DEASSERT (R123): it falls after CNT_TRIP evaluations below TH_TRIP. -/
def execOcTripDeassert (t : Nat) (c : Fin 48) (p : Fin 3) (bits : List Bool) (s : State) : Res :=
  let s := advance t s
  .next (if sdmLive s c.val && tripRun s c.val p.val false bits then edgRefresh (fsetBit s F.SDM_STATUS_OCT p.val false c.val) else s)

/-- WARN_RISE (R124): WARN_LIVE, WARN and the event with |i2| in 1/4,096, cut down to a whole number of them (DESIGN CHOICE, log entry 72:
R465 gives no rounding); it acts on no output. -/
def execWarnRise (t : Nat) (c : Fin 48) (p : Fin 3) (bits : List Bool) (s : State) : Res :=
  let s := advance t s
  .next (
    if sdmLive s c.val && !fbit s F.SDM_STATUS_WARN_LIVE p.val c.val && warnRun s c.val p.val true bits then
      raise blkSDM 0x01 c.val p.val (absI2 s c.val p.val bits / 2 ^ 11)
        (raiseBit (fsetBit s F.SDM_STATUS_WARN_LIVE p.val true c.val) F.SDM_STATUS_WARN p.val c.val)
    else s)

/-- WARN_FALL (R124). -/
def execWarnFall (t : Nat) (c : Fin 48) (p : Fin 3) (bits : List Bool) (s : State) : Res :=
  let s := advance t s
  .next (if sdmLive s c.val && warnRun s c.val p.val false bits then fsetBit s F.SDM_STATUS_WARN_LIVE p.val false c.val else s)

/-- The bits of 128 modulator periods without a transition (R126). -/
def isStuck (bits : List Bool) : Bool := decide (129 ≤ bits.length) && (bits.take 129).all (· == bits.headD false)

/-- STUCK (R126): the live bit, STATUS.STUCK and the event with the stream's level. -/
def execSdmStuck (t : Nat) (c : Fin 48) (p : Fin 3) (bits : List Bool) (s : State) : Res :=
  let s := advance t s
  .next (
    if sdmLive s c.val && !(nget s.stuck c.val).testBit p.val && isStuck bits then
      raise blkSDM 0x02 c.val p.val (bits.headD false).toNat
        (raiseBit { s with stuck := nput s.stuck c.val (putBit (nget s.stuck c.val) p.val true) } F.SDM_STATUS_STUCK p.val c.val)
    else s)

/-- STUCK_CLEAR (R126): the first transition after STUCK, between the two latest bits. -/
def execStuckClear (t : Nat) (c : Fin 48) (p : Fin 3) (latest before : Bool) (s : State) : Res :=
  let s := advance t s
  .next (
    if sdmLive s c.val && latest != before then { s with stuck := nput s.stuck c.val (putBit (nget s.stuck c.val) p.val false) } else s)

/-- SETTLE_END (R121): 3·OSR3 modulator periods have passed. -/
def execSettleEnd (t : Nat) (c : Fin 48) (s : State) : Res :=
  let s := advance t s
  .next (if domainOn s 7 && decide (nget s.settle c.val + settleTime s c.val ≤ clk s + 1) then takeStart (fset s F.SDM_STATUS_SETTLE 0 c.val) else s)

/-- AIN_CONVERSION_START (R127): at a multiple of 1,000 ns of LNS the enabled converters sample. -/
def execAinConversionStart (t : Nat) (s : State) : Res :=
  let s := advance t s
  .next (if domainOn s 7 && lns s % 1000 == 0 then
      { forN 16 (fun k s =>
        if flag s F.SDM_AIN_CFG_EN k then
          { s with ain := SMap.put (fun _ => AinS.init) s.ain k { SMap.get (fun _ => AinS.init) s.ain k with conv := some (clk s) } }
        else s) s with ainStart := (s.ainStart.1 + 1, fine s) }
    else s)

/-- R483: the code of an input voltage in µV, of a range of 3.0 V. -/
def ainCode (uV : Nat) : Nat := min (uV * 65536 / 3000000) 65535

/-- AIN_RESULT (R127, R483): the result of a conversion, of the input voltage `uV` in µV, becomes available 900 ns after its start. -/
def execAinResult (t : Nat) (k : Fin 16) (uV : Nat) (s : State) : Res :=
  let s := advance t s
  let code := ainCode uV
  let x := SMap.get (fun _ => AinS.init) s.ain k.val
  .next (
    match x.conv with
    | some b =>
      if domainOn s 7 && decide (b + 230400 ≤ clk s) then
        { s with ain := SMap.put (fun _ => AinS.init) s.ain k.val ⟨code, x.sum + code, x.n + 1, none⟩ }
      else s
    | none => s)

end Sys2Proof.Machine
end

