-- ==== Sys2Proof/Machine/Acq.lean ====
section
/-! DEFINITION. Sys2Proof/Machine/Acq.lean: recorders, triggers and records (R388 to R399). -/

namespace Sys2Proof.Machine

/-- Recorder `r`. -/
def State.arec (s : State) (r : Nat) : AcqRec := SMap.get (fun _ => AcqRec.init) s.acq.rec_ r

/-- Replace recorder `r`. -/
def setRec (r : Nat) (x : AcqRec) (s : State) : State :=
  { s with acq := { s.acq with rec_ := SMap.put (fun _ => AcqRec.init) s.acq.rec_ r x } }

/-- PD_ACQ is on. -/
def acqLive (s : State) : Bool := domainOn s 8

/-- The state of a recorder: 0 STOPPED, 1 ARMED, 2 TRIGGERED, 3 REARM, 4 WAIT_SLOT. -/
def recState (s : State) (r : Nat) : Nat := fget s F.ACQ_STATUS_STATE r

/-- Change the state of a recorder. -/
def setRecState (r n : Nat) (s : State) : State := fset s F.ACQ_STATUS_STATE n r

/-! ### Configuration as read at ARM (R391) -/

/-- Bits of word `i` of a configuration: 0 CFG, 1 to 8 SIG, 9 BASE, 10 FFT_BASE, 11 LEN, 12 PRE, 13 FFT_START,
14 NREC, 15 TMASK, 16 MEAS. -/
def cfgBits (c : List Word) (i lo w : Nat) : Nat := bitsOf (c.getD i 0#32) lo w

def cfgClock (c : List Word) : Nat := cfgBits c 0 0 2
def cfgNsig (c : List Word) : Nat := cfgBits c 0 2 3 + 1
def cfgDiv (c : List Word) : Nat := zeroIs 256 (cfgBits c 0 8 8)
def cfgOsrr (c : List Word) : Nat := cfgBits c 0 16 9
def cfgGroup (c : List Word) : Nat := cfgBits c 0 25 4
def cfgSel (c : List Word) (i : Nat) : Nat := cfgBits c (1 + i) 0 22
def cfgKind (c : List Word) (i : Nat) : Nat := cfgBits c (1 + i) 22 2
def cfgLen (c : List Word) : Nat := max 1 (cfgBits c 11 0 23)
/-- PRE, 0 to LEN - 1 (R394); a larger one, which a host write can leave, is taken as LEN - 1 (DESIGN CHOICE, log entry 72). -/
def cfgPre (c : List Word) : Nat := min (cfgBits c 12 0 23) (cfgLen c - 1)
def cfgNrec (c : List Word) : Nat := max 1 (cfgBits c 14 0 9)

/-- SLOTSZ (R390). -/
def slotSize (c : List Word) : Nat := (128 + cfgLen c * cfgNsig c * 4 + 255) / 256 * 256

/-- DRAM address of slot `k`. -/
def slotAddr (c : List Word) (k : Nat) : Nat := cfgBits c 9 0 20 * 256 + k * slotSize c

/-- The nominal sample period in ns (R389). -/
def samplePeriod (s : State) (c : List Word) : Nat :=
  match cfgClock c with
  | 0 => cfgDiv c * tImp s
  | 1 => cfgOsrr c * 5 * fget s F.SDM_CLK_DIV (cfgGroup c)
  | _ => cfgDiv c * 1000

/-- The configuration registers of recorder `r`. -/
def recRegs (s : State) (r : Nat) : List Word := (List.range 17).map (fun i => rd s (R.ACQ_CFG.at r + 4 * i))

/-- Signal `i` is of a kind that the clock permits (R388). -/
def sigOk (c : List Word) (i : Nat) : Bool :=
  let k := cfgSel c i
  match cfgKind c i with
  | 0 => cfgClock c == 0 && decide (k ≤ 0x33F)
  | 1 => cfgClock c == 0
  | 2 => cfgClock c == 1 && k / 16 == cfgGroup c && decide (k % 4 < 3) && decide (k < 192)
  | _ => cfgClock c == 2 && decide (k < 16)

/-- R388, R390: the configuration can be armed. -/
def recOk (s : State) (c : List Word) : Bool :=
  let len := cfgBits c 11 0 23
  let nrec := cfgBits c 14 0 9
  decide (16 ≤ len) && decide (len ≤ 2 ^ 22) && decide (1 ≤ nrec) && decide (nrec ≤ 256) && decide (cfgClock c ≤ 2) && (List.range (cfgNsig c)).all (sigOk c) &&
    (cfgClock c != 1 || (decide (16 ≤ cfgOsrr c) && decide (cfgOsrr c ≤ 256) && decide (cfgGroup c < 12) &&
      decide (800 ≤ samplePeriod s c))) &&
    decide (slotAddr c (cfgNrec c) ≤ 2 ^ 28)

/-! ### Slots and arming (R391, R396) -/

/-- A job of recorder `r` holds slot `k`. -/
def slotHeld (s : State) (r k : Nat) : Bool :=
  s.acq.jobs.any (fun j => j.rcd == r && j.slot == k) || (match s.acq.run with
    | some j => j.rcd == r && j.slot == k
    | none => false)

/-- Every slot holds a record that has not been released. -/
def slotsFull (s : State) (r : Nat) : Bool := decide (cfgNrec (s.arec r).cfg ≤ fget s F.ACQ_SLOT_READY r)

/-- What the sample instants of the sample clock of `c` are told apart by (R389). -/
def clockNow (s : State) (c : List Word) : Nat := if cfgClock c = 2 then s.ainStart.1 else clk s

/-- Recorder `r` arms with an empty ring. -/
def recStart (r : Nat) (s : State) : State :=
  let x := s.arec r
  setRecState r 1 (setRec r { x with n := 0, insts := [], forced := false, mask := 0, prev := [], gate := clockNow s x.cfg, born := 0 } s)

/-- Arm into the present slot, when it is free or may be taken; wait otherwise (R396). -/
def recEnter (r : Nat) (s : State) : State :=
  let c := (s.arec r).cfg
  let k := fget s F.ACQ_SLOT_WR r
  let full := slotsFull s r
  if slotHeld s r k || (full && cfgBits c 0 31 1 == 0) then
    if recState s r = 4 then s else raise blkACQ 0x04 r k 0 (setRecState r 4 s)
  else if full then
    let rd' := (fget s F.ACQ_SLOT_RD r + 1) % cfgNrec c
    recStart r (fset (fset s F.ACQ_SLOT_RD rd' r) F.ACQ_SLOT_READY (fget s F.ACQ_SLOT_READY r - 1) r)
  else recStart r s

/-- A recorder that waits for a slot looks again. -/
def recRetry (r : Nat) (s : State) : State := if recState s r = 4 then recEnter r s else s

/-- The ring position and both slot indices of recorder `r` are 0 (R391). -/
def ringZero (r : Nat) (s : State) : State :=
  setRec r { s.arec r with pos := 0 } (fset (fset (fset s F.ACQ_SLOT_WR 0 r) F.ACQ_SLOT_RD 0 r) F.ACQ_SLOT_READY 0 r)

/-- ARM reaches recorder `r` (R391). Held values apply now, as a write in STOPPED does: the model's choice is that the ring position and
the slot indices are 0 then too (log entry 72). -/
def recArm (r : Nat) (s : State) : State :=
  if recState s r ≠ 0 then s
  else
    let c := recRegs s r
    if !recOk s c then raiseFlag s F.ACQ_STATUS_ARM_REFUSED r
    else
      let s := if flag s F.ACQ_STATUS_LEN_PENDING r then ringZero r s else s
      recEnter r (setRec r { s.arec r with cfg := c, n := 0, insts := [], born := 0 } (fset s F.ACQ_STATUS_LEN_PENDING 0 r))

/-! ### Triggers (R392 to R395) -/

/-- A trigger is ignored and counted in MISSED (R395). -/
def recMissed (r t : Nat) (s : State) : State :=
  let first := decide (fget s F.ACQ_MISSED_COUNT r = 0)
  let s := bump s F.ACQ_MISSED_COUNT 1 r
  if first then raise blkACQ 0x03 r (t / 256) 0 s else s

/-- The last sample at or before `t`, counted since the ARM, with its instant (R393). -/
def sampleAt (x : AcqRec) (t : Nat) : Option (Nat × Nat) :=
  match (x.insts.zipIdx).find? (fun e => decide (e.1.1 ≤ t)) with
  | some e => some (x.n - 1 - e.2, e.1.1)
  | none => none

/-- The record is whole when sample k_T + POST − 1 has been written (R396). -/
def recCheck (r : Nat) (s : State) : State :=
  let x := s.arec r
  if recState s r = 2 ∧ x.kT + (cfgLen x.cfg - cfgPre x.cfg) ≤ x.n then setRecState r 3 s else s

/-- The fine part of a trigger of condition `c` at `t` (R392). -/
def finePart (s : State) (c t : Nat) : Nat := if fget s F.ACQ_TCN_CFG_KIND c = 3 then t % 256 else 0

/-- A trigger that does not join the record under way: counted in MISSED, but not one before the first sample since the ARM (R393,
R395). -/
def recLate (r t : Nat) (s : State) : State :=
  let x := s.arec r
  if x.born = 0 ∨ t + 1 < x.born then s else recMissed r t s

/-- FRAC of R393. -/
def fracOf (s : State) (c : List Word) (t inst : Nat) : Nat :=
  satNat 16 (divRound (((t - inst) * 256 : Nat) : Int) (max 1 (samplePeriod s c))).toNat

/-- A trigger of condition `c` with instant `t`, in 1/256 ns, reaches recorder `r` (R393 to R395). One that belongs to the sample k_T
already taken joins it until the header is written, and is never counted in MISSED. -/
def recTrigger (r c t : Nat) (s : State) : State :=
  let x := s.arec r
  match recState s r with
  | 0 => s
  | 1 =>
    match sampleAt x t with
    | none => s
    | some (k, inst) =>
      let pre := min (cfgPre x.cfg) (min k (k - (x.n - cfgLen x.cfg)))
      if cfgBits x.cfg 0 30 1 = 1 ∧ pre < cfgPre x.cfg then s
      else
        let x := { x with kT := k, pre := pre, frac := fracOf s x.cfg t inst, mask := 2 ^ c, cond := c, at_ := t, fine_ := finePart s c t, forced := false }
        recCheck r (setRecState r 2 (setRec r x s))
  | 4 =>
    match sampleAt x t with
    | some (k, _) => if k = x.kT then s else recLate r t s
    | none => recLate r t s
  | _ =>
    match sampleAt x t with
    | some (k, inst) =>
      if k = x.kT then
        let x := if x.mask = 0 ∨ c < x.cond then { x with cond := c, at_ := t, fine_ := finePart s c t, frac := fracOf s x.cfg t inst } else x
        setRec r { x with mask := putBit x.mask c true } s
      else recLate r t s
    | none => recLate r t s

/-- FORCE reaches recorder `r` (R394). -/
def recForce (r : Nat) (s : State) : State :=
  let x := s.arec r
  match recState s r, x.insts with
  | 1, (inst, _) :: _ =>
    let k := x.n - 1
    let pre := min (cfgPre x.cfg) (min k (k - (x.n - cfgLen x.cfg)))
    let x := { x with kT := k, pre := pre, frac := 0, mask := 0, cond := 31, at_ := inst, fine_ := 0, forced := true }
    recCheck r (setRecState r 2 (setRec r x s))
  | 2, (inst, _) :: _ | 3, (inst, _) :: _ => if x.kT = x.n - 1 then setRec r { x with forced := true } s else recMissed r inst s
  | 4, (inst, _) :: _ => if x.kT = x.n - 1 then s else recMissed r inst s
  | _, _ => s

/-- Condition `c` is met at `t`: every recorder that takes it sees its trigger (R392). -/
def condTrigger (c t : Nat) (s : State) : State :=
  let s := bump s F.ACQ_TCN_HITS_COUNT 1 c
  forN 16 (fun r s => if (cfgBits (s.arec r).cfg 15 0 32).testBit c then recTrigger r c t s else s) s

/-- Level conditions on a new sample of recorder `r` (R392). -/
def levelCond (r inst : Nat) (ws : List Nat) (first : Bool) (c : Nat) (s : State) : State :=
  let sig := fget s F.ACQ_TCN_CFG_SIG c
  if fget s F.ACQ_TCN_CFG_KIND c ≠ 1 ∨ fget s F.ACQ_TCN_CFG_REC c ≠ r ∨ ws.length ≤ sig then s
  else
    let v := sgn 32 (ws.getD sig 0)
    let th := fgetInt s F.ACQ_TCN_TH_TH c
    let hy : Int := fget s F.ACQ_TCN_HYS_HYS c
    let p := SMap.get (fun _ => ((0 : Int), false)) (s.arec r).prev c
    let hit := match fget s F.ACQ_TCN_CFG_MODE c with
      | 0 => decide (th ≤ v)
      | 1 => decide (v ≤ th)
      | 2 => !first && p.2 && decide (p.1 < th) && decide (th ≤ v)
      | _ => !first && p.2 && decide (th < p.1) && decide (v ≤ th)
    let back := if fget s F.ACQ_TCN_CFG_MODE c = 2 then decide (v ≤ th - hy) else decide (th + hy ≤ v)
    let x := s.arec r
    let s := setRec r { x with prev := SMap.put (fun _ => ((0 : Int), false)) x.prev c (v, if hit then false else p.2 || back) } s
    if hit then condTrigger c inst s else s

/-! ### Samples (R388 to R390) -/

/-- The sample word of signal `i`; `bits` are the modulator bits of a signal of kind 2, the latest first (R388, R118, R120). -/
def sampleWord (c : List Word) (i : Nat) (bits : List Bool) (s : State) : Nat × State :=
  let k := cfgSel c i
  match cfgKind c i with
  | 0 => (unsgn 32 (pageGet s k).toInt, s)
  | 1 => readSram 6 k s
  | 2 => (unsgn 32 (clampInt (-(2 ^ 23)) (2 ^ 23 - 1) (sdmCorrect s (k / 4) (k % 4)
      (filterSum (sinc3 (cfgOsrr c)) (3 * cfgOsrr c - 2) bits) (cfgOsrr c ^ 3))), s)
  | _ => ((SMap.get (fun _ => AinS.init) s.ain k).last, s)

/-- Read the signals of a frame in order. -/
def sampleWords (c : List Word) (ws : List (List Bool)) : Nat → List Nat → State → List Nat × State
  | 0, acc, s => (acc, s)
  | n + 1, acc, s =>
    let w := sampleWord c acc.length (ws.getD acc.length []) s
    sampleWords c ws n (acc ++ [w.1]) w.2

/-- Store a frame's words. -/
def storeFrame (a : Nat) : List Nat → State → State
  | [], s => s
  | w :: r, s => storeFrame (a + 4) r (setMemNat s (dramAt a) w 4)

/-- The results of the last conversion start are in for every channel that recorder configuration `c` samples (R127). -/
def ainReady (s : State) (c : List Word) : Bool :=
  (List.range (cfgNsig c)).all (fun i =>
    !flag s F.SDM_AIN_CFG_EN (cfgSel c i) || (SMap.get (fun _ => AinS.init) s.ain (cfgSel c i)).conv.isNone)

/-- A sample instant of the recorder with the state `x` is at hand (R388, R389, R391): the first after the ARM, and then each one
sample period after the last. -/
def sampleDue (s : State) (x : AcqRec) : Bool :=
  let c := x.cfg
  match cfgClock c with
  | 0 => s.sys.running && lns s == s.sys.s0 && impCount s % cfgDiv c == 0 && decide (x.gate < clk s)
  | 1 => if x.n = 0 then decide (x.gate < clk s) else clk s == x.gate + 256 * samplePeriod s c
  | _ => ainReady s c && decide (x.gate < s.ainStart.1) && (x.n == 0 || (s.ainStart.1 - x.gate) % cfgDiv c == 0)

/-- The instant of that sample in 1/256 ns (R389). -/
def sampleInst (s : State) (c : List Word) : Nat :=
  match cfgClock c with
  | 0 => 256 * s.sys.s0
  | 1 => fine s
  | _ => s.ainStart.2

/-- RECORDER_SAMPLE (R388, R389, R392): with the modulator bits of each signal of kind 2. -/
def execRecorderSample (t : Nat) (r : Fin 16) (ws : List (List Bool)) (errs : List MemErr) (s : State) : Res :=
  let s := noteErrs errs (advance t s)
  let r := r.val
  let x := s.arec r
  let c := x.cfg
  .next (if !(acqLive s && sampleDue s x && (recState s r == 1 || recState s r == 2)) then s
    else
      let inst := sampleInst s c
      let w := sampleWords c ws (cfgNsig c) [] s
      let a := slotAddr c (fget s F.ACQ_SLOT_WR r) + 128 + x.pos * cfgNsig c * 4
      let s := storeFrame a w.1 w.2
      let x := { x with n := x.n + 1, pos := (x.pos + 1) % cfgLen c, gate := clockNow s c, born := if x.n = 0 then inst + 1 else x.born }
      let x := { x with insts := ((inst, impCount s) :: x.insts).take (cfgLen c) }
      let first := decide (x.n = 1)
      let s := recCheck r (setRec r x s)
      forN 32 (levelCond r inst w.1 first) s)

/-- R392, kind 3: MODE takes an edge of the level that TRG_IN changes to. -/
def trgEdge (mode : Nat) (rise : Bool) : Bool := mode == 3 || (mode == 1 && rise) || (mode == 2 && !rise)

/-- The instant of an edge of the TRG_IN of condition `c`, first seen at `st`: none where that has no ball or no power; without a fine part
until the TDC is calibrated (R196). -/
def trgStamp (s : State) (c st : Nat) : Option Nat :=
  if domainOn s 7 && hasBall s 0x08 (fget s F.ACQ_TCN_CFG_IDX c) then some (if flag s F.FBK_STATUS_TDC_VALID then st else st / 256 * 256)
  else none

/-- TRIGGER (R392 to R395): the trigger of condition `c` with instant `st` in 1/256 ns arrives at ACQ. An event, a compare or a
scheduled action has sent it out; of kind 3 it is an edge of TRG_IN itself, rising or falling. -/
def execAcqTrigger (t : Nat) (c : Fin 32) (st : Nat) (rise : Bool) (s : State) : Res :=
  let s := advance t s
  .next (
    if !acqLive s then s
    else if fget s F.ACQ_TCN_CFG_KIND c = 3 then
      match trgStamp s c st with
      | some x => if trgEdge (fget s F.ACQ_TCN_CFG_MODE c) rise ∧ st ≤ fine s then condTrigger c x s else s
      | none => s
    else if (c.val, st) ∈ s.trigq then condTrigger c st { s with trigq := s.trigq.erase (c.val, st) }
    else s)

/-! ### Completion (R396, R397) -/

/-- Whether a record of recorder `r` queues a job (R400). -/
def jobWanted (s : State) (r : Nat) (c : List Word) : Bool :=
  cfgBits c 16 3 1 == 1 ||
    (List.range 4).any (fun h => (flag s F.ACQ_HIST_CFG_EN h && fget s F.ACQ_HIST_CFG_REC h == r) ||
      (flag s F.ACQ_MAP_CFG_EN h && fget s F.ACQ_MAP_CFG_REC h == r))

/-- JOBQ follows the queue. -/
def jobCount (s : State) : State :=
  fset (fset s F.ACQ_JOBQ_LEVEL s.acq.jobs.length) F.ACQ_JOBQ_BUSY s.acq.run.isSome.toNat

/-- A clock-0 interval between samples `i` and `i + 1` of the record differs from nominal (R397). -/
def realigned (ts : Nat) : List (Nat × Nat) → Bool
  | a :: b :: r => (a.1 - b.1 != 256 * ts) || realigned ts (b :: r)
  | _ => false

/-- The record of recorder `r` is complete (R396, R397): the header is written, the job queued and the slot advanced; then the recorder
stops, or arms again with AUTO. -/
def recFinish (r : Nat) (auto : Bool) (s : State) : State :=
  let x := s.arec r
  let c := x.cfg
  let k := fget s F.ACQ_SLOT_WR r
  let len := cfgLen c
  let n := x.pre + (len - cfgPre c)
  let start := (x.pos + len * 2 - (x.n - (x.kT - x.pre)) % len) % len
  let ts := samplePeriod s c
  let span := (x.insts.drop (x.n - (x.kT - x.pre + n))).take n
  let first := span.getLastD (0, 0)
  let seq := (fget s F.ACQ_SEQ_SEQ r + 1) % 2 ^ 32
  let want := jobWanted s r c
  let skip := want && decide (32 ≤ s.acq.jobs.length)
  let w5 := x.frac % 65536 + 2 ^ 16 * (decide (x.pre < cfgPre c)).toNat + 2 ^ 17 * x.forced.toNat +
    2 ^ 18 * (decide (cfgClock c = 0) && realigned ts span).toNat + 2 ^ 20 * skip.toNat
  let a := slotAddr c k
  let words := [1 + 256 * r + 4096 * (cfgNsig c - 1) + 65536 * k, seq, n, x.pre, start, w5, x.mask, first.1 / 256 % 2 ^ 32,
    x.at_ / 256 % 2 ^ 32, x.fine_ + 256 * x.cond, ts, if cfgClock c = 0 then first.2 else 0, 0, 0, 0, 0]
  let s := storeFrame (a + 20) [w5 + 2 ^ 22] (storeFrame a words s)
  let s := raise blkACQ 0x01 r seq (x.at_ / 256) (fset s F.ACQ_SEQ_SEQ seq r)
  let s := if skip then raise blkACQ 0x05 r seq 0 s
    else if want then
      jobCount { s with acq := { s.acq with jobs := s.acq.jobs ++ [⟨r, k, c, seq, n, x.pre, start, w5 + 2 ^ 22, ts⟩] } }
    else s
  let s := fset s F.ACQ_SLOT_READY (fget s F.ACQ_SLOT_READY r + 1) r
  let s := fset s F.ACQ_SLOT_WR ((k + 1) % cfgNrec c) r
  if auto then recEnter r s else setRecState r 0 (setRec r { x with n := 0, insts := [], born := 0 } s)

/-- STOP reaches recorder `r` (R391). A record that is complete is not partial: in REARM its header is written at once, which is the model's
choice within the 2 µs of R396 (log entry 72). -/
def recStop (r : Nat) (s : State) : State :=
  if recState s r = 3 then recFinish r false s
  else setRecState r 0 (setRec r { s.arec r with n := 0, insts := [], born := 0 } s)

/-- RECORD_COMPLETE (R396, R397). -/
def execRecordComplete (t : Nat) (r : Fin 16) (errs : List MemErr) (s : State) : Res :=
  let s := noteErrs errs (advance t s)
  let r := r.val
  .next (if acqLive s && recState s r == 3 then recFinish r (cfgBits (s.arec r).cfg 0 29 1 == 1) s else s)

/-- A write of SLOT.RD (R396): records are released. -/
def slotRelease (ifc : Ifc) (r v : Nat) (s : State) : State :=
  let n := cfgNrec (s.arec r).cfg
  let old := fget s F.ACQ_SLOT_RD r
  let d := if n = 1 then min 1 (fget s F.ACQ_SLOT_READY r) else (v + n - old) % n
  if n ≤ v ∨ fget s F.ACQ_SLOT_READY r < d then hostDrop ifc (R.ACQ_SLOT.at r) s
  else recRetry r (fset (fset s F.ACQ_SLOT_RD v r) F.ACQ_SLOT_READY (fget s F.ACQ_SLOT_READY r - d) r)

/-- SLOT_RELEASE (R396). -/
def execSlotRelease (h : Via) (r : Fin 16) (v : BitVec 8) (s : State) : Res :=
  .next (hostGate h (R.ACQ_SLOT.at r.val) (some (BitVec.ofNat 32 (256 * v.toNat))) (slotRelease h.ifc r.val v.toNat) s)

/-- RECORDER_ARM (R391). -/
def execRecorderArm (h : Via) (r : Fin 16) (s : State) : Res :=
  .next (hostGate h (R.ACQ_CTL.at r.val) (some 1#32) (recArm r.val) s)

/-- RECORDER_STOP (R391). -/
def execRecorderStop (h : Via) (r : Fin 16) (s : State) : Res :=
  .next (hostGate h (R.ACQ_CTL.at r.val) (some 2#32) (recStop r.val) s)

/-- FORCE (R394). -/
def execRecForce (h : Via) (r : Fin 16) (s : State) : Res :=
  .next (hostGate h (R.ACQ_CTL.at r.val) (some 4#32) (recForce r.val) s)

/-- ARM or STOP of every recorder that a mask names. -/
def recMask (f : Nat → State → State) (v : Word) (s : State) : State := forN 16 (fun r s => if v.getLsbD r then f r s else s) s

/-- ARM_ALL (R391). -/
def execArmAll (h : Via) (v : Word) (s : State) : Res := .next (hostGate h R.ACQ_ARM_ALL.addr (some v) (recMask recArm v) s)

/-- STOP_ALL (R391). -/
def execStopAll (h : Via) (v : Word) (s : State) : Res := .next (hostGate h R.ACQ_STOP_ALL.addr (some v) (recMask recStop v) s)

/-- A write to a configuration register of recorder `r` (R391). -/
def recCfgWrite (r : Nat) (s : State) : State :=
  if recState s r = 0 then
    ringZero r s
  else raiseFlag s F.ACQ_STATUS_LEN_PENDING r

/-- CLEAR of histogram `h` or map `h - 4` waits for its next job (R404, R405). -/
def accClear (h : Nat) (s : State) : State := { s with acq := { s.acq with clear := putBit s.acq.clear h true } }

/-- HIST_CLEAR (R404). -/
def execHistClear (h : Via) (i : Fin 4) (s : State) : Res :=
  .next (hostGate h (R.ACQ_HIST_CTL.at i.val) (some 1#32) (accClear i.val) s)

/-- MAP_CLEAR (R405). -/
def execMapClear (h : Via) (i : Fin 4) (s : State) : Res :=
  .next (hostGate h (R.ACQ_MAP_CTL.at i.val) (some 1#32) (accClear (i.val + 4)) s)

/-- R399: PD_ACQ is switched off: every recorder stops, jobs and DRAM are lost. -/
def acqOff (s : State) : State :=
  let s := forN 16 (fun r s => setRecState r 0 s) s
  let s := modPlt s 4 (fun p => { p with jobBusy := false })
  jobCount { s with acq := AcqS.init, trigq := [], mem := s.mem.filter (fun c => decide (c.1 < 0x10000000)),
                    poison := s.poison.filter (fun e => decide (e.1 < 0x1000000)) }

end Sys2Proof.Machine
end

