-- ==== Sys2Proof/Machine/Balls.lean ====
section
/-! DEFINITION. Sys2Proof/Machine/Balls.lean: which ball carries which signal (R489 to R494), the boundary chain (R471), and what its
cells drive in place of the functions (R472). -/

namespace Sys2Proof.Machine

/-! ### Where the signals stand -/

/-- The function at a ball of rows A to Y (R490 to R492). -/
def fixedFunc (r c : Nat) : Option Nat :=
  let code := fun (fam i : Nat) => some (fam * 1024 + i)
  if r < 8 then (if c % 4 < 3 then code 1 (6 * (12 * (r / 2) + c / 4) + 2 * (c % 4) + r % 2) else none)
  else if r < 11 then code 2 (3 * c + (r - 8))
  else if r < 14 then code 4 (3 * c + (r - 11))
  else if r = 14 then (if c % 4 = 1 then code 3 (c / 4) else none)
  else if r = 15 then code 5 c
  else if r = 16 then (if c % 2 = 0 then code 7 (c / 2) else none)
  else if r = 17 then
    if c < 32 then (if c % 4 < 2 then code 6 (2 * (c / 4) + c % 4) else none)
    else if c < 40 then code 8 (c - 32)
    else if c < 44 then code 9 (c - 40)
    else if c < 46 then code 10 (c - 44)
    else none
  else if c % 3 = 1 then code 11 (c / 3)
  else none

/-- Functions `0 … n - 1` of a family. -/
def famCodes (fam n : Nat) : List Nat := (List.range n).map (fun i => fam * 1024 + i)

/-- The signals of rows AL to AY (R489, R494). The families 0x40 and 0x41, which no FUNC can name, stand for TCK, TMS, TDI, TDO, TRSTN,
PORN and RSTN, and for the four clock inputs. Of the 30 balls of ETHA, ETHB and ETHC the model gives 8 to each of the two MDIs
(PRESUMED, log entry 22). -/
def hostSignals : List Nat :=
  famCodes 0x10 8 ++ famCodes 0x11 8 ++ famCodes 0x12 14 ++ famCodes 0x13 8 ++ famCodes 0x14 7 ++ famCodes 0x15 7 ++ famCodes 0x16 12 ++
    famCodes 0x17 13 ++ famCodes 0x40 7 ++ famCodes 0x41 4

/-- The signals of column band `g` of rows BA to BK (R493): 8 FIO, 4 SBC signals on four balls each, 2 STO and 4 KFB. -/
def bandSignals (g : Nat) : List Nat :=
  let four := (List.range 4).map (fun i => 0x0D * 1024 + 4 * g + i)
  (List.range 8).map (fun i => 0x0C * 1024 + 8 * g + i) ++ four ++ four ++ four ++ four ++
    (List.range 2).map (fun i => 0x0E * 1024 + 2 * g + i) ++ (List.range 4).map (fun i => 0x0F * 1024 + 4 * g + i)

/-- The balls of rows `r … r + n - 1`, columns `c … c + m - 1`, from 0. -/
def ballBlock (r n c m : Nat) : List Nat := (List.range n).flatMap (fun i => (List.range m).map (fun j => 48 * (r + i) + c + j))

/-- Each signal on a ball of its own out of the balls left; which one only the per-ball list says (log entry 22). -/
def placeAt (region : Nat) : List Nat → List Nat → List (Nat × Nat)
  | [], _ => []
  | f :: r, free =>
    let i := Config.ballPick region r.length % max 1 free.length
    (free.getD i 0, f) :: placeAt region r (free.eraseIdx i)

/-- The signal at ball `b`: none at one of power, ground or the return core. -/
def sigAt (b : Nat) : Option Nat :=
  let r := b / 48
  let g := b % 48 / 12
  if r < 19 then fixedFunc r (b % 48)
  else if r < 29 then none
  else
    let l := if r < 38 then placeAt 4 hostSignals (ballBlock 29 9 0 48) else placeAt g (bandSignals g) (ballBlock 38 10 (12 * g) 12)
    (l.find? (fun e => e.1 == b)).map (·.2)

/-- Ball `b` can carry function `f` (R56, R489 to R494). -/
def ballCan (b f : Nat) : Bool := sigAt b == some f && decide (f < 0x40 * 1024)

/-- Ball `b` carries a signal of family `fam`. -/
def ballFam (b fam : Nat) : Bool := (sigAt b).map (· / 1024) == some fam

/-! ### The boundary chain (R471) -/

/-- Ball `b` is in the boundary chain: a digital signal ball, PORN and RSTN among them, but none of AIN, the PCIe and mirror lanes, the
MDI, clock and TAP balls. -/
def inChain (b : Nat) : Bool :=
  match sigAt b with
  | none => false
  | some f =>
    match f / 1024 with
    | 0x0B | 0x10 | 0x11 | 0x14 | 0x41 => false
    | 0x17 => decide (f % 1024 < 5)
    | 0x40 => decide (5 ≤ f % 1024)
    | _ => true

/-- A KFB ball, whose cell is an input cell only. -/
def kfbBall (b : Nat) : Bool := ballFam b 0x0F

/-- A FIO, SBC or STO ball, whose cell controls a switch. -/
def switchBall (b : Nat) : Bool := ballFam b 0x0C || ballFam b 0x0D || ballFam b 0x0E

/-- VFLDg of the column band of ball `b` lies above 15 V (R305, R493). -/
def fieldUp (s : State) (b : Nat) : Bool := decide (150 < fget s F.FIO_GRP_STATUS_VOLT (b % 48 / 12))

/-- EXTEST, CLAMP or HIGHZ is in effect (R472). -/
def testActive (s : State) : Bool := s.tst.ir == 0#8 || s.tst.ir == 4#8 || s.tst.ir == 5#8

/-- EXTEST, SAMPLE/PRELOAD, CLAMP or HIGHZ is current: the instructions that R473 shuts out while access is blocked. -/
def testCurrent (s : State) : Bool := testActive s || s.tst.ir == 2#8

/-- The cell of ball `b`: its output bit, and whether that is enabled. -/
def tapCell (s : State) (b : Nat) : Bool × Bool := SMap.get (fun _ => (false, false)) s.tst.cells b

/-- What the cell of ball `b` drives: a switch only above 15 V, an input cell nothing. -/
def cellDrive (s : State) (b : Nat) : Option Bool :=
  let c := tapCell s b
  if !c.2 || kfbBall b then none
  else if switchBall b then (if fieldUp s b && c.1 then some true else none)
  else if Config.cellDrives b then some c.1 else none

/-- The balls that a BALL entry has given to function `fam`, index `i`. -/
def ballsOf (s : State) (fam i : Nat) : List Nat := (s.pins.balls.filter (fun e => e.2 == fam * 1024 + i + 1)).map (·.1)

/-- Whether the signal of `fam`, index `i`, is driven high where its function would drive `f`: in EXTEST and CLAMP its cells say so, in
HIGHZ nothing drives it (R472). -/
def driven (s : State) (fam i : Nat) (f : Bool) : Bool :=
  if testActive s then s.tst.ir != 5#8 && (ballsOf s fam i).any (fun b => inChain b && cellDrive s b == some true) else f

end Sys2Proof.Machine
end

