-- ==== Sys2Proof/Machine/Feedback.lean ====
section
/-! DEFINITION. Sys2Proof/Machine/Feedback.lean: position sources, latch units and compare units (R171 to R203).
A source is named by its index: Hall triplet c is c, encoder e is 64 + e, SSI channel k is 96 + k. The common
registers of the three kinds lie at one stride, so that `F.FBK_HALL_…` with the source index reaches all of
them. Stamps are LNS values in ns. -/

namespace Sys2Proof.Machine

/-- Source `i`. -/
def State.source (s : State) (i : Nat) : SrcS := SMap.get (fun _ => SrcS.init) s.src i

/-- Replace source `i`. -/
def setSrc (s : State) (i : Nat) (x : SrcS) : State := { s with src := SMap.put (fun _ => SrcS.init) s.src i x }

/-- Change source `i`. -/
def modSrc (s : State) (i : Nat) (f : SrcS → SrcS) : State := setSrc s i (f (s.source i))

/-- The indices of R171 that are in use. -/
def srcUsed (i : Nat) : Bool := decide (i < 48) || (decide (64 ≤ i) && decide (i < 80)) || (decide (96 ≤ i) && decide (i < 104))

/-- The source is in use: PD_FBK is on and CFG.EN is 1. -/
def srcOn (s : State) (i : Nat) : Bool := domainOn s 7 && srcUsed i && flag s F.FBK_HALL_CFG_EN i

/-- NAVG of source `i`. -/
def navg (s : State) (i : Nat) : Nat := zeroIs 16 (fget s F.FBK_HALL_SPD_NAVG i)

/-- The limits in force (R183). -/
def srcLimits (s : State) (i : Nat) : Int × Int :=
  let lo := fpair48 s F.FBK_HALL_LIM_LO_L_VAL F.FBK_HALL_LIM_LO_H_VAL i
  let hi := fpair48 s F.FBK_HALL_LIM_HI_L_VAL F.FBK_HALL_LIM_HI_H_VAL i
  if lo < hi then (lo, hi) else (-(2 ^ 47), 2 ^ 47 - 1)

/-- REF of source `i` (R184). -/
def srcRef (s : State) (i : Nat) : Int := fpair48 s F.FBK_HALL_REF_L_VAL F.FBK_HALL_REF_H_VAL i

/-! ### Compare units -/

/-- Compare unit `u`. -/
def State.cmpU (s : State) (u : Nat) : CmpS := SMap.get (fun _ => CmpS.init) s.cmp u

/-- Replace compare unit `u`. -/
def setCmp (s : State) (u : Nat) (x : CmpS) : State := { s with cmp := SMap.put (fun _ => CmpS.init) s.cmp u x }

/-- The armed value V of unit `u`. -/
def cmpV (s : State) (u : Nat) : Int := fpair48 s F.FBK_CMP_NEXT_L_VAL F.FBK_CMP_NEXT_H_VAL u

/-- Store V. -/
def setCmpV (u : Nat) (v : Int) (s : State) : State :=
  fset (fset s F.FBK_CMP_NEXT_L_VAL (unsgn 48 v) u) F.FBK_CMP_NEXT_H_VAL (unsgn 48 v / 2 ^ 32) u

/-- R197: V is behind the position. -/
def cmpBehind (dir : Nat) (pos v : Int) : Bool := (dir == 1 && decide (v ≤ pos)) || (dir == 2 && decide (pos ≤ v))

/-- R200: the number of further steps that bring V out of the behind range. -/
def cmpSkips (dir step : Nat) (pos v : Int) : Nat :=
  if cmpBehind dir pos v then ((if dir = 1 then pos - v else v - pos) / step).toNat + 1 else 0

/-- R199, R200: unit `u` fires with the stamp `st`, its source now at `pos`. -/
def cmpFire (u st : Nat) (pos : Int) (s : State) : State :=
  let x := s.cmpU u
  let cfg := fun lsb w => bitsOf x.cfg lsb w
  let v := cmpV s u
  let s := bump (raiseFlag s F.FBK_CMP_STATUS_FIRED u) F.FBK_CMP_STATUS_COUNT 1 u
  let s := trigNote 4 (nearStamp s st) (fun c => fget s F.ACQ_TCN_CFG_IDX c == u) (fset s F.FBK_CMP_FIRE_STAMP_T st u)
  let s := fset s F.FBK_CMP_STATUS_LEVEL (if cfg 12 1 = 1 then 1 - fget s F.FBK_CMP_STATUS_LEVEL u else 1) u
  let s := if cfg 13 1 = 1 then raise blkFBK 0x20 u st (unsgn 32 v) s else s
  let s := setCmp s u { x with late := false }
  if cfg 10 1 = 1 ∧ cfg 8 2 ≠ 3 then
    let dir := cfg 8 2
    let sgnd : Int := if dir = 1 then x.step else -(x.step : Int)
    let v1 := v + sgnd
    let k := cmpSkips dir x.step pos v1
    let s := setCmpV u (v1 + sgnd * k) s
    if k = 0 then s else raise blkFBK 0x22 u k (unsgn 32 (v1 + sgnd * k)) (raiseFlag s F.FBK_CMP_STATUS_SKIP u)
  else fset s F.FBK_CMP_STATUS_ARMED 0 u

/-- R197: whether a move of the position from `old` to `new` crosses V. -/
def cmpCrossed (dir : Nat) (old new v : Int) : Bool :=
  ((dir == 1 || dir == 3) && decide (old < v) && decide (v ≤ new)) ||
    ((dir == 2 || dir == 3) && decide (new ≤ v) && decide (v < old))

/-- A position update of source `i`: every armed unit on it that is crossed fires (R197). -/
def cmpUpdate (i st : Nat) (old new : Int) (s : State) : State :=
  forN 64 (fun u s =>
    let x := s.cmpU u
    if flag s F.FBK_CMP_STATUS_ARMED u && bitsOf x.cfg 0 7 == i && cmpCrossed (bitsOf x.cfg 8 2) old new (cmpV s u) then
      cmpFire u st new s
    else s) s

/-- R198: judge an armed unit as at an ARM write. -/
def cmpJudge (u : Nat) (s : State) : State :=
  let x := s.cmpU u
  let i := bitsOf x.cfg 0 7
  let pos := (s.source i).pos
  if srcUsed i && cmpBehind (bitsOf x.cfg 8 2) pos (cmpV s u) then
    (if bitsOf x.cfg 11 1 = 1 then setCmp s u { x with late := true }
     else raise blkFBK 0x21 u (unsgn 32 pos) (unsgn 32 (cmpV s u)) (raiseFlag s F.FBK_CMP_STATUS_BEHIND u))
  else setCmp s u { x with late := false }

/-- R197 after a re-reference of source `i`. -/
def cmpRejudge (i : Nat) (s : State) : State :=
  forN 64 (fun u s => if flag s F.FBK_CMP_STATUS_ARMED u && bitsOf (s.cmpU u).cfg 0 7 == i then cmpJudge u s else s) s

/-! ### Errors, limits and references -/

/-- R182: an error of kind `kind`. -/
def srcError (i kind : Nat) (s : State) : State :=
  let n := fget s F.FBK_HALL_ERRCNT_COUNT i
  let pos := unsgn 32 (s.source i).pos
  let s := raiseFlag s F.FBK_HALL_STATUS_ERR i
  let s := bump (bump s F.FBK_HALL_ERRCNT_COUNT 1 i) F.FBK_HALL_ERRCNT_TOTAL 1 i
  let s := modSrc s i (fun x => { x with now := putBit x.now 3 true, good := 0 })
  let s := if n = 0 then raise blkFBK 0x01 i kind pos s else s
  if fget s F.FBK_HALL_ERRCNT_ERR_MAX i ≤ fget s F.FBK_HALL_ERRCNT_COUNT i ∧ !flag s F.FBK_HALL_STATUS_LOST i then
    raise blkFBK 0x02 i (fget s F.FBK_HALL_ERRCNT_COUNT i) pos (raiseFlag s F.FBK_HALL_STATUS_LOST i)
  else s

/-- R182: the counter falls by 1. -/
def errDown (i : Nat) (s : State) : State := fset s F.FBK_HALL_ERRCNT_COUNT (fget s F.FBK_HALL_ERRCNT_COUNT i - 1) i

/-- R182: an accepted edge without an error; every 256th lowers the counter. -/
def edgeGood (i : Nat) (s : State) : State :=
  let g := (s.source i).good + 1
  if g = 256 then errDown i (modSrc s i (fun x => { x with good := 0 })) else modSrc s i (fun x => { x with good := g })

/-- Latch unit `u`. -/
def State.latU (s : State) (u : Nat) : LatS := SMap.get (fun _ => LatS.init) s.lat u

/-- Replace latch unit `u`. -/
def setLat (s : State) (u : Nat) (x : LatS) : State := { s with lat := SMap.put (fun _ => LatS.init) s.lat u x }

/-- Change the captures on source `i` that are not complete. -/
def modCaps (i : Nat) (f : LatCap → LatCap) (s : State) : State :=
  forN 32 (fun u s =>
    let x := s.latU u
    if x.pend.any (fun p => p.src == i) then setLat s u { x with pend := x.pend.map (fun p => if p.src = i then f p else p) } else s) s

/-- SAT rises (R183), with `new` beyond the limits and `v` the limit. -/
def satRise (i : Nat) (new v : Int) (s : State) : State :=
  if v = new ∨ flag s F.FBK_HALL_STATUS_SAT i then s
  else raise blkFBK 0x03 i (if new < v then 0 else 1) (unsgn 32 v) (raiseFlag s F.FBK_HALL_STATUS_SAT i)

/-- R183: the position of source `i` becomes `new`, held at the limits; the compares see the move, and so does a capture of an edge at
or after `st` on a Hall or encoder source (R193). -/
def movePos (i st : Nat) (new : Int) (s : State) : State :=
  let x := s.source i
  let lim := srcLimits s i
  let v := clampInt lim.1 lim.2 new
  let s := setSrc s i { x with pos := v, trail := (st, x.pos) :: x.trail.takeWhile (fun e => decide (st ≤ e.1 + 20000)) }
  let s := if i < 96 then modCaps i (fun p => if st ≤ p.at_ then { p with pos := some (v * 65536) } else p) s else s
  cmpUpdate i st x.pos v (satRise i new v s)

/-- R184: source `i` is re-referenced to REF, or to the limit nearer to it; SAT then stays set. An SSI source that has had no word yet
takes 0 as its present extended word (DESIGN CHOICE, log entry 72). -/
def reReference (i : Nat) (s : State) : State :=
  let r := srcRef s i
  let lim := srcLimits s i
  let v := clampInt lim.1 lim.2 r
  let s := if v = r then fset s F.FBK_HALL_STATUS_SAT 0 i else satRise i r v s
  let s := modSrc s i (fun x => { x with pos := v, zLast := none, ofs := v - x.word.getD 0 })
  cmpRejudge i s

/-! ### Speed -/

/-- R185: hold an estimate to the format of R13. -/
def setEst (i : Nat) (e : Int) (s : State) : State :=
  let v := clampInt (-0x7FFFFFFF) 0x7FFFFFFF e
  if v = e then modSrc s i (fun x => { x with est := v })
  else modSrc (raiseFlag s F.FBK_HALL_STATUS_SPD_SAT i) i (fun x => { x with est := v, now := putBit x.now 6 true })

/-- Speed estimation starts again (R186). -/
def speedRestart (i : Nat) (s : State) : State := modSrc s i (fun x => { x with hist := [], est := 0 })

/-- R185, R186: an accepted edge in direction `neg` with stamp `st`. -/
def speedEdge (i st : Nat) (neg : Bool) (s : State) : State :=
  let x := s.source i
  let still := flag s F.FBK_HALL_STATUS_STILL i
  let wasNeg := flag s F.FBK_HALL_STATUS_NEG i
  let s := fset (fset s F.FBK_HALL_STATUS_STILL 0 i) F.FBK_HALL_STATUS_NEG neg.toNat i
  let cont := !still && !x.hist.isEmpty && (wasNeg == neg)
  let hist := if cont then ((st, 0) :: x.hist).take 17 else [(st, 0)]
  let s := setSrc s i { x with stamp := st, seen := true, hist := hist, est := 0, now := putBit x.now 5 true }
  let n := min (navg s i) (hist.length - 1)
  let s := if n = 0 then s
    else
      let dt : Nat := (st + 2 ^ 32 - ((hist.getD n (0, 0)).1) % 2 ^ 32) % 2 ^ 32
      if dt = 0 then setEst i (2 ^ 31) s else setEst i (divRound (256 * n * 10 ^ 9) dt) s
  if still then raise blkFBK 0x05 i neg.toNat (unsgn 32 (s.source i).pos) s else s

/-- An accepted edge that counts (R175, R177): position, speed, then the error counter's credit. -/
def countEdge (i st : Nat) (neg : Bool) (s : State) : State :=
  edgeGood i (speedEdge i st neg (movePos i st ((s.source i).pos + (if neg then -1 else 1)) s))

/-- R187: the reported speed of a Hall or encoder source at `at_` ns. -/
def edgeSpeedAt (s : State) (i at_ : Nat) : Int :=
  let x := s.source i
  if flag s F.FBK_HALL_STATUS_STILL i ∨ x.hist.length < 2 then 0
  else
    let d : Nat := (at_ + 2 ^ 32 - x.stamp % 2 ^ 32) % 2 ^ 32
    let m := if d = 0 then x.est else min x.est (divRound (256 * 10 ^ 9) d)
    if flag s F.FBK_HALL_STATUS_NEG i then -m else m

/-- The reported speed of source `i` at `at_` (R187, R188). -/
def speedAt (s : State) (i at_ : Nat) : Int :=
  if i < 96 then edgeSpeedAt s i at_
  else if flag s F.FBK_HALL_STATUS_STILL i then 0 else (s.source i).est

/-! ### The feedback page -/

/-- R190: the status word of source `i`. -/
def srcStatusWord (s : State) (i : Nat) : Nat :=
  let b := fun f k => fget s f i * 2 ^ k
  let x := s.source i
  b F.FBK_HALL_STATUS_STILL 0 + b F.FBK_HALL_STATUS_NEG 1 + b F.FBK_HALL_STATUS_SAT 2 + b F.FBK_HALL_STATUS_LOST 4 +
    b F.FBK_HALL_STATUS_INVALID 7 + x.now % 2 ^ 11 + (if i < 48 then fget s F.FBK_HALL_CFG_STATE i * 2 ^ 20 else 0)

/-- The latch of source `i` at the sample instant `at_` ns: registers and page block (R189, R190). A source not
in use publishes position 0 and speed 0 and nothing else (R171). -/
def latchSource (at_ i : Nat) (s : State) : State :=
  let b := srcBlock i
  if srcOn s i then
    let x := s.source i
    let p := unsgn 48 x.pos
    let st := x.stamp % 2 ^ 32
    let v := unsgn 32 (speedAt s i at_)
    let age := min (at_ - x.stamp) 0x7FFFFF
    let late := x.now.testBit 8
    let put := fun k (n : Nat) s => pagePut (b + k) (BitVec.ofNat 24 n) s
    let s := put 0 (p / 2 ^ 24) (put 1 p (put 2 (st / 2 ^ 24) (put 3 st s)))
    let s := put 4 (unsgn 24 (sgn 8 (v / 2 ^ 24))) (put 5 v (put 6 age (put 7 (srcStatusWord s i) s)))
    let s := fset (fset s F.FBK_HALL_POS_L_VAL p i) F.FBK_HALL_POS_H_VAL (unsgn 32 (x.pos / 2 ^ 32)) i
    let s := fset (fset s F.FBK_HALL_STAMP_T st i) F.FBK_HALL_SPEED_V v i
    let s := if late then raiseFlag s F.FBK_HALL_STATUS_LATE i else s
    setSrc s i { x with now := 0, shown := x.seen }
  else forN 8 (fun k => pagePut (b + k) 0#24) s

/-- Every source index. -/
def srcList : List Nat := List.range 48 ++ (List.range 16).map (· + 64) ++ (List.range 8).map (· + 96)

/-- The published last-edge stamp of source `i`, in its register and its page words, moves by `d` ns (R201). -/
def shownShift (d i : Nat) (s : State) : State :=
  if srcOn s i && (s.source i).shown then
    let st := (fget s F.FBK_HALL_STAMP_T i + d) % 2 ^ 32
    let put := fun k (n : Nat) s => pagePut (srcBlock i + k) (BitVec.ofNat 24 n) s
    put 2 (st / 2 ^ 24) (put 3 st (fset s F.FBK_HALL_STAMP_T st i))
  else s

/-- R201: LNS has stepped forward by `d` ns; the stamp and the sample instant of an SSI read under way move with the history. -/
def fbkShift (d : Nat) (s : State) : State :=
  forL srcList (fun i s => modSrc (shownShift d i s) i (fun x =>
    { x with stamp := if x.seen then x.stamp + d else x.stamp, hist := x.hist.map (fun e => (e.1 + d, e.2)),
             words := x.words.map (fun e => (e.1 + d, e.2)), moved := x.moved + d,
             read := x.read.map (fun e => (e.1 + d, e.2 + 256 * d)) })) s

/-! ### Hall triplets and encoders -/

/-- The state s of R177 for accepted line levels. -/
def hallState (s : State) (c lines : Nat) : Nat := (lines ^^^ fget s F.FBK_HALL_CFG_INV c) % 8

/-- The next state in the forward sequence 1 → 3 → 2 → 6 → 4 → 5 → 1; 0 for an invalid state. -/
def hallNext : Nat → Nat
  | 1 => 3 | 3 => 2 | 2 => 6 | 6 => 4 | 4 => 5 | 5 => 1 | _ => 0

/-- State 0 or 7. -/
def hallBad (n : Nat) : Bool := n == 0 || n == 7

/-- Store the filtered state and INVALID; the mask index follows (R156, R178). -/
def setHall (c n : Nat) (s : State) : State :=
  let s := fset (fset s F.FBK_HALL_CFG_STATE n c) F.FBK_HALL_STATUS_INVALID (hallBad n).toNat c
  if domainOn s 6 then edgSettle c s else s

/-- R177: the table of state changes, from `o` to `n`. -/
def hallChange (c st o n : Nat) (s : State) : State :=
  let rev := flag s F.FBK_HALL_CFG_REV c
  if hallBad n then speedRestart c (srcError c 3 s)
  else if hallBad o then speedRestart c s
  else if hallNext o = n then countEdge c st rev s
  else if hallNext n = o then countEdge c st (!rev) s
  else speedRestart c (srcError c 2 s)

/-- R419: in STANDBY, and up to step 3 of a takeover (R424), the counter of source `i` runs. -/
def sbyOn (s : State) (i : Nat) : Bool :=
  ((s.sys.st == .standby && !domainOn s 7) || (s.sys.st == .takeover && !s.par.restored)) && flag s F.PAR_CFG_SBY_CNT &&
    flag s F.FBK_HALL_CFG_EN i

/-- The standby counter of source `i`. -/
def sbyCnt (s : State) (i : Nat) : Int := SMap.get (fun _ => 0) s.par.cnt i

/-- The standby counter of source `i` counts one. -/
def sbyCount (i : Nat) (neg : Bool) (s : State) : State :=
  { s with par := { s.par with cnt := SMap.put (fun _ => 0) s.par.cnt i (sbyCnt s i + (if neg then -1 else 1)) } }

/-- The accepted levels of standby source `i`, if any, and new ones. -/
def sbyLines (s : State) (i : Nat) : Option Nat := if nget s.par.cntLines i = 0 then none else some (nget s.par.cntLines i - 1)
def setSbyLines (i n : Nat) (s : State) : State := { s with par := { s.par with cntLines := nput s.par.cntLines i (n + 1) } }

/-- R177 and R175 for a standby counter: `fwd` and `back` tell how the new levels follow the old ones. -/
def sbyStep (i n : Nat) (rev : Bool) (fwd back : Nat → Bool) (s : State) : State :=
  let old := sbyLines s i
  let s := setSbyLines i n s
  match old with
  | none => s
  | some o => if fwd o then sbyCount i rev s else if back o then sbyCount i (!rev) s else s

/-- R177: from line levels `o` to `n` triplet `c` moves one state forward. -/
def hallMoves (s : State) (c o n : Nat) : Bool :=
  let a := hallState s c o
  let b := hallState s c n
  !hallBad a && !hallBad b && hallNext a == b

/-- HALL_STATE_CHANGE (R172, R177): the triplet's accepted line levels change, first seen at `st`. -/
def execHallStateChange (t : Nat) (c : Fin 48) (lines : BitVec 3) (st : Nat) (s : State) : Res :=
  let s := advance t s
  let l := lines.toNat
  let s := if sbyOn s c.val then
      sbyStep c.val l (flag s F.FBK_HALL_CFG_REV c.val) (fun o => hallMoves s c.val o l) (fun o => hallMoves s c.val l o) s
    else s
  .next (
    if srcOn s c.val then
      let x := s.source c.val
      let n := hallState s c.val l
      let o := fget s F.FBK_HALL_CFG_STATE c.val
      let s := setSrc s c.val { x with lines := some l }
      if x.lines.isNone then setHall c.val n s
      else if n = o then s
      else setHall c.val n (hallChange c.val st o n s)
    else s)

/-- R177: a committed change of INV or REV. -/
def hallConfig (c : Nat) (s : State) : State :=
  let s := speedRestart c s
  match (s.source c).lines with
  | some l => setHall c (hallState s c l) s
  | none => s

/-- R175: the place of (A, B) in the forward sequence 00 → 10 → 11 → 01. -/
def quadPlace (a b : Bool) : Nat :=
  match a, b with
  | false, false => 0 | true, false => 1 | true, true => 2 | false, true => 3

/-- ENCODER_EDGE (R172, R175): the accepted levels of A and B change, first seen at `st`. -/
def execEncoderEdge (t : Nat) (e : Fin 16) (a b : Bool) (st : Nat) (s : State) : Res :=
  let s := advance t s
  let i := 64 + e.val
  let n := quadPlace a b
  let s := if sbyOn s i then
      sbyStep i n (flag s F.FBK_ENC_CFG_REV e.val) (fun o => n == (o + 1) % 4) (fun o => o == (n + 1) % 4) s
    else s
  .next (
    if srcOn s i then
      let x := s.source i
      let s := setSrc s i { x with lines := some n }
      match x.lines with
      | none => s
      | some o =>
        let rev := flag s F.FBK_ENC_CFG_REV e.val
        if n = o then s
        else if n = (o + 1) % 4 then countEdge i st rev s
        else if o = (n + 1) % 4 then countEdge i st (!rev) s
        else speedRestart i (srcError i 1 s)
    else s)

/-- Z_EDGE (R176, R184): an accepted edge of the Z line; ZPOL says which direction is active. -/
def execZEdge (t : Nat) (e : Fin 16) (rise : Bool) (st : Nat) (s : State) : Res :=
  let s := advance t s
  let i := 64 + e.val
  .next (
    if srcOn s i && rise != flag s F.FBK_ENC_CFG_ZPOL e.val then
      let x := s.source i
      let dist := fget s F.FBK_ENC_ZDIST_DIST e.val
      let wrong := match x.zLast with
        | some z => dist != 0 && (x.pos - z).natAbs != dist
        | none => false
      let s := if wrong then srcError i 4 (modSrc (raiseFlag s F.FBK_HALL_STATUS_ZERR i) i (fun x => { x with now := putBit x.now 10 true })) else s
      if flag s F.FBK_HALL_STATUS_REF_ARMED i then reReference i (fset s F.FBK_HALL_STATUS_REF_ARMED 0 i)
      else modSrc s i (fun x => { x with zLast := some x.pos })
    else (let _ := st; s))

/-! ### SSI channels -/

/-- R179: LEAD × 20 ns from now an impression opens whose number is a multiple of DIV; `n` counts it from the next one on. The grid of
R20 says when it opens, to one unit of the grid. -/
def ssiDue (s : State) (k : Nat) : Bool :=
  let at_ : Int := lns s + 20 * fget s F.FBK_SSI_TIMING_LEAD k
  let e := at_ - s.sys.next
  let n := (divRound e (max 1 (tImp s) : Nat)).toNat
  let opens : Int := s.sys.next + n * tImp s + clampInt (-(20 * n)) (20 * n) s.sys.open_
  s.sys.running && decide ((at_ - opens).natAbs ≤ 20) && (nextImp s + n) % 2 ^ 32 % zeroIs 16 (fget s F.FBK_SSI_CFG_DIV k) == 0

/-- SSI_READ_START (R179): the read starts LEAD before its boundary; `dt` is the level of SSIs_DT. -/
def execSsiReadStart (t : Nat) (k : Fin 8) (dt : Bool) (s : State) : Res :=
  let s := advance t s
  let i := 96 + k.val
  .next (
    if srcOn s i && ssiDue s k.val then
      if dt then
        let st : Int := lns s + 20 * fgetInt s F.FBK_SSI_TIMING_LAT_COMP k.val
        modSrc s i (fun x => { x with read := some (st.toNat, fine s + 5120 * fget s F.FBK_SSI_TIMING_LEAD k.val) })
      else srcError i 5 (modSrc s i (fun x => { x with hist := [] }))
    else s)

/-- Gray to binary for `n` bits. -/
def grayToBin : Nat → Nat → Nat
  | 0, _ => 0
  | n + 1, g => (let r := grayToBin n (g / 2); 2 * r + (r + g) % 2)

/-- The number of ones among the low `n` bits. -/
def ones : Nat → Nat → Nat
  | 0, _ => 0
  | n + 1, g => g % 2 + ones n (g / 2)

/-- R188: speed of an SSI source from its word history, newest first. With one word since the last error or restart, n is 0 and the
formula says nothing; the estimate is 0 then, as R186 has a source report until it can form one (DEDUCED, log entry 72). -/
def ssiSpeed (i : Nat) (s : State) : State :=
  let x := s.source i
  let n := min (navg s i) (x.hist.length - 1)
  match x.hist.head?, x.hist[n]? with
  | some a, some b =>
    if n = 0 then modSrc s i (fun x => { x with est := 0 })
    else
      let dp := a.2 - b.2
      let dt := a.1 - b.1
      if dt = 0 then setEst i (if 0 < dp then 2 ^ 31 else if dp < 0 then -(2 ^ 31) else 0) s
      else setEst i (divRound (256 * dp * 10 ^ 9) dt) s
  | _, _ => s

/-- R193: interpolation between SSI words, in 1/65,536 increment, rounded toward the earlier one. -/
def interpolate (p0 p1 : Int) (t0 t1 at_ : Nat) : Int :=
  if t1 ≤ t0 ∨ at_ ≤ t0 then p0 * 65536
  else
    let d := (p1 - p0) * 65536 * ((at_ - t0 : Nat) : Int)
    p0 * 65536 + (if d < 0 then -((-d) / ((t1 - t0 : Nat) : Int)) else d / ((t1 - t0 : Nat) : Int))

/-- R193: the position at `at_` between the first of the words `l`, newest first, that is stamped after it and the valid word before that
one; with none before it its own position stands (log entry 71). -/
def ssiAt (at_ : Nat) : List (Nat × Int) → Option Int
  | b :: a :: r => if at_ < a.1 then ssiAt at_ (a :: r) else if at_ < b.1 then some (interpolate a.2 b.2 a.1 b.1 at_) else none
  | [b] => if at_ < b.1 then some (b.2 * 65536) else none
  | [] => none

/-- R193: the captures on SSI source `i` that its latest word, stamped after them, completes. -/
def ssiCaps (i : Nat) (s : State) : State :=
  let l := (s.source i).words
  modCaps i (fun p => if p.pos.isNone then { p with pos := ssiAt p.at_ l } else p) s

/-- R180, R181, R188: a valid word `w`, whose read was latched at `st` and was due at `due`. -/
def ssiWord (k w st due : Nat) (s : State) : State :=
  let i := 96 + k
  let nb := fget s F.FBK_SSI_CFG_BITS k
  let x := s.source i
  let ext : Int := match x.word with
    | some o => if nb < 48 then o + sgn nb (unsgn nb ((w : Int) - o)) else sgn 48 w
    | none => if nb < 48 then (w : Int) else sgn 48 w
  let still := flag s F.FBK_HALL_STATUS_STILL i
  let s := setSrc s i { x with
    word := some ext, read := none, stamp := st, seen := true
    hist := ((st, ext) :: x.hist).take 17
    words := ((st, clampInt (srcLimits s i).1 (srcLimits s i).2 (ext + x.ofs)) :: x.words).take 4
    now := putBit (putBit x.now 5 true) 8 (x.now.testBit 8 || decide (due < fine s)) }
  let s := errDown i s
  let s := ssiCaps i (movePos i st (ext + x.ofs) s)
  let new := (s.source i).pos
  let moved := new != x.pos
  let neg := if moved then decide (new < x.pos) else flag s F.FBK_HALL_STATUS_NEG i
  let s := if moved then modSrc s i (fun y => { y with moved := st }) else s
  let s := ssiSpeed i (fset s F.FBK_HALL_STATUS_NEG neg.toNat i)
  if still && moved then
    raise blkFBK 0x05 i neg.toNat (unsgn 32 (s.source i).pos) (fset s F.FBK_HALL_STATUS_STILL 0 i)
  else s

/-- SSI_WORD_COMPLETE (R180): the sampled bits as a number, the first sampled highest: data, parity bit, trailing
bit. -/
def execSsiWordComplete (t : Nat) (k : Fin 8) (bits : Nat) (s : State) : Res :=
  let s := advance t s
  let i := 96 + k.val
  .next (
    if srcOn s i then
      match (s.source i).read with
      | none => s
      | some (st, due) =>
        let z := fget s F.FBK_SSI_CFG_ZCHK k.val
        let p := fget s F.FBK_SSI_CFG_PAR k.val
        let nb := fget s F.FBK_SSI_CFG_BITS k.val
        let body := bits / 2 ^ z
        let data := body / 2 ^ p % 2 ^ nb
        let fail := fun kind s => srcError i kind (modSrc s i (fun x => { x with read := none, hist := [] }))
        if p = 1 ∧ ones (nb + 1) body % 2 = 1 then fail 6 s
        else if z = 1 ∧ bits % 2 = 1 then fail 7 s
        else ssiWord k.val (if flag s F.FBK_SSI_CFG_GRAY k.val then grayToBin nb data else data) st due s
    else s)

/-- STANDSTILL (R186, R188): no accepted edge, or no change of an SSI position, for TSTILL. -/
def execStandstill (t : Nat) (src : BitVec 7) (s : State) : Res :=
  let s := advance t s
  let i := src.toNat
  let x := s.source i
  let last := if i < 96 then x.stamp else x.moved
  .next (
    if srcOn s i && !flag s F.FBK_HALL_STATUS_STILL i && decide (last + 1000000 * fget s F.FBK_HALL_SPD_TSTILL i ≤ lns s) then
      raise blkFBK 0x04 i 0 (unsgn 32 x.pos) (speedRestart i (fset s F.FBK_HALL_STATUS_STILL 1 i))
    else s)

/-- R182: LOST is cleared, and with it the error counter; a LOST of the same SYS cycle stays (R4). -/
def lostClear (i : Nat) (s : State) : State :=
  if (justSet s (R.FBK_HALL_STATUS.at i)).getLsbD F.FBK_HALL_STATUS_LOST.lsb then s
  else fset (fset s F.FBK_HALL_STATUS_LOST 0 i) F.FBK_HALL_ERRCNT_COUNT 0 i

/-- LOST_CLEAR (R182). -/
def execLostClear (h : Via) (src : BitVec 7) (s : State) : Res :=
  let i := src.toNat
  .next (if srcUsed i then hostGate h (R.FBK_HALL_STATUS.at i) (some 0x10#32) (lostClear i) s
    else hostGate h (R.FBK_HALL_STATUS.at i) (some 0x10#32) (hostDrop h.ifc (R.FBK_HALL_STATUS.at i)) s)

/-- R184: an encoder is armed to re-reference at its next active Z edge. -/
def refZArm (e : Nat) (s : State) : State :=
  if srcOn s (64 + e) then fset s F.FBK_HALL_STATUS_REF_ARMED 1 (64 + e) else s

/-- REF_Z_ARM (R184). -/
def execRefZArm (h : Via) (e : Fin 16) (s : State) : Res :=
  .next (hostGate h (R.FBK_ENC_CTL.at e.val) (some 2#32) (refZArm e.val) s)

/-! ### Latch units -/

/-- R192: ARM reads CFG; modes 0 and 3 leave the unit off. -/
def latArm (u : Nat) (s : State) : State :=
  let cfg := rd s (R.FBK_LAT_CFG.at u)
  let m := bitsOf cfg 0 2
  fset (setLat s u { s.latU u with cfg := cfg }) F.FBK_LAT_STATUS_ARMED (if m = 1 ∨ m = 2 then 1 else 0) u

/-- R192: DISARM discards a pending capture. -/
def latDisarm (u : Nat) (s : State) : State :=
  fset (setLat s u { s.latU u with pend := [] }) F.FBK_LAT_STATUS_ARMED 0 u

/-- R195: POP removes the oldest entry. -/
def latPop (u : Nat) (s : State) : State := setLat s u { s.latU u with queue := (s.latU u).queue.drop 1 }

/-- R195: FLUSH empties the queue. -/
def latFlush (u : Nat) (s : State) : State := setLat s u { s.latU u with queue := [] }

/-- LAT_ARM (R192). -/
def execLatArm (h : Via) (u : Fin 32) (s : State) : Res :=
  .next (hostGate h (R.FBK_LAT_CTL.at u.val) (some 1#32) (latArm u.val) s)

/-- LAT_DISARM (R192). -/
def execLatDisarm (h : Via) (u : Fin 32) (s : State) : Res :=
  .next (hostGate h (R.FBK_LAT_CTL.at u.val) (some 2#32) (latDisarm u.val) s)

/-- LAT_POP (R195). -/
def execLatPop (h : Via) (u : Fin 32) (s : State) : Res :=
  .next (hostGate h (R.FBK_LAT_CTL.at u.val) (some 4#32) (latPop u.val) s)

/-- LAT_FLUSH (R195). -/
def execLatFlush (h : Via) (u : Fin 32) (s : State) : Res :=
  .next (hostGate h (R.FBK_LAT_CTL.at u.val) (some 8#32) (latFlush u.val) s)

/-- R192: whether the unit selects an edge of direction `rise`; EDGE 0 is treated as 1. -/
def latSelects (cfg : Word) (rise : Bool) : Bool :=
  bitsOf cfg 2 2 == 3 ||
    (match bitsOf cfg 10 2 with
     | 2 => !rise | 3 => true | _ => rise)

/-- R192: in mode 1 the unit disarms after one capture. -/
def latOnce (u : Nat) (s : State) : State :=
  if bitsOf (s.latU u).cfg 0 2 = 1 then fset s F.FBK_LAT_STATUS_ARMED 0 u else s

/-- R193: the position of an edge source at `at_`: every edge stamped at or before it counts. -/
def posAt (x : SrcS) (at_ : Nat) : Int :=
  match (x.trail.takeWhile (fun e => decide (at_ < e.1))).getLast? with
  | some e => e.2
  | none => x.pos

/-- The position of source `src` at a capture at `at_`, in 48.16, as far as it is known when the capture is made (R193). -/
def latPos (s : State) (src at_ : Nat) : Option Int :=
  if !srcUsed src then some 0
  else if src < 96 then some (posAt (s.source src) at_ * 65536)
  else ssiAt at_ (s.source src).words

/-- LATCH_CAPTURE (R193, R194): an edge of the unit's input at `st`, in 1/256 ns of LNS. For a FIO input a raw
edge away from the accepted level starts or replaces the pending capture and one back to it discards it. -/
def execLatchCapture (t : Nat) (u : Fin 32) (st : Nat) (rise : Bool) (s : State) : Res :=
  let s := advance t s
  let x := s.latU u.val
  let kind := bitsOf x.cfg 2 2
  let src := bitsOf x.cfg 12 7
  let frac := if kind = 3 ∨ !flag s F.FBK_STATUS_TDC_VALID then 0 else st % 256
  let inp := bitsOf x.cfg 4 6
  let cap : LatCap := ⟨src, latPos s src (st / 256), st / 256, frac, rise, srcUsed src && flag s F.FBK_HALL_STATUS_SAT src,
    if kind = 0 then some inp else none⟩
  .next (
    if !domainOn s 7 || !flag s F.FBK_LAT_STATUS_ARMED u.val then s
    else if kind = 0 then
      let kept := x.pend.filter (fun p => p.fio != some inp)
      let away := rise != fbit s F.FIO_IN_LEVEL (inp % 32)
      setLat s u.val { x with pend := if away && latSelects x.cfg rise then kept ++ [cap] else kept }
    else if latSelects x.cfg rise then latOnce u.val (setLat s u.val { x with pend := x.pend ++ [cap] })
    else s)

/-- R194: FIO input `i` has been accepted at `level`; captures that waited for it go on. -/
def latFioAccept (i : Nat) (level : Bool) (s : State) : State :=
  forN 32 (fun u s =>
    let x := s.latU u
    let due := fun (p : LatCap) => p.fio == some i && p.rise == level
    if x.pend.any due then
      latOnce u (setLat s u { x with pend := x.pend.map (fun p => if due p then { p with fio := none } else p) })
    else s) s

/-- The filter span of the lines of source `src` in ns, 0 where it has none (R172). -/
def filtSpan (s : State) (src : Nat) : Nat :=
  if src < 48 then 5 * fget s F.FBK_HALL_CFG_FILT src
  else if 64 ≤ src ∧ src < 80 then 5 * fget s F.FBK_ENC_CFG_FILT (src - 64)
  else 0

/-- LATCH_ENTRY_COMPLETE (R193, R195): the oldest capture completes, unless it still waits for a debounce, for the filter span of its
source or for an SSI word. -/
def execLatchEntryComplete (t : Nat) (u : Fin 32) (s : State) : Res :=
  let s := advance t s
  let x := s.latU u.val
  .next (
    match x.pend with
    | [] => s
    | p :: rest =>
      let src := p.src
      if !domainOn s 7 || p.fio.isSome || p.pos.isNone || decide (lns s < p.at_ + filtSpan s src) then s
      else
        let pos := p.pos.getD 0
        let ent : LatEnt := ⟨p.at_ % 2 ^ 32, p.frac, p.rise, false, p.sat, srcUsed src && decide (96 ≤ src), pos⟩
        let ev := bitsOf x.cfg 19 1 == 1
        if x.queue.length < 4 then
          let s := setLat s u.val { x with pend := rest, queue := x.queue ++ [ent] }
          if ev then raise blkFBK 0x10 u.val ent.stamp (unsgn 64 pos / 2 ^ 16) s else s
        else
          let s := bump (raiseFlag (setLat s u.val { x with pend := rest }) F.FBK_LAT_STATUS_OVR u.val) F.FBK_LAT_MISSED_COUNT 1 u.val
          if ev then raise blkFBK 0x11 u.val (fget s F.FBK_LAT_MISSED_COUNT u.val) 0 s else s)

/-- LATCH_ENTRY_OLD (R195): entry `i` of the queue reaches 2^31 ns of age. -/
def execLatchEntryOld (t : Nat) (u : Fin 32) (i : Fin 4) (s : State) : Res :=
  let s := advance t s
  let x := s.latU u.val
  .next (setLat s u.val { x with queue := x.queue.mapIdx (fun k e => if k = i.val then { e with old := true } else e) })

/-! ### Compare unit commands -/

/-- R198: ARM reads CFG, VAL and STEP, sets COUNT to 0 and judges the unit. DIR 0 arms a unit that never fires. -/
def cmpArm (u : Nat) (s : State) : State :=
  let s := setCmp s u ⟨rd s (R.FBK_CMP_CFG.at u), max 1 (fget s F.FBK_CMP_STEP_STEP u), false⟩
  let s := setCmpV u (fpair48 s F.FBK_CMP_VAL_L_VAL F.FBK_CMP_VAL_H_VAL u) s
  cmpJudge u (fset (fset s F.FBK_CMP_STATUS_COUNT 0 u) F.FBK_CMP_STATUS_ARMED 1 u)

/-- R200: DISARM ends a running pulse and keeps a toggled level. -/
def cmpDisarm (u : Nat) (s : State) : State :=
  let x := s.cmpU u
  let s := fset (setCmp s u { x with late := false }) F.FBK_CMP_STATUS_ARMED 0 u
  if bitsOf x.cfg 12 1 = 1 then s else fset s F.FBK_CMP_STATUS_LEVEL 0 u

/-- CMP_ARM (R198). -/
def execCmpArm (h : Via) (u : Fin 64) (s : State) : Res :=
  .next (hostGate h (R.FBK_CMP_CTL.at u.val) (some 1#32) (cmpArm u.val) s)

/-- CMP_DISARM (R200). -/
def execCmpDisarm (h : Via) (u : Fin 64) (s : State) : Res :=
  .next (hostGate h (R.FBK_CMP_CTL.at u.val) (some 2#32) (cmpDisarm u.val) s)

/-- CMP_LATE_FIRE (R198): at a servo-period boundary (R26) a unit armed behind with LATE_MODE 1 fires with its S. -/
def execCmpLateFire (t : Nat) (u : Fin 64) (s : State) : Res :=
  let s := advance t s
  .next (
    if domainOn s 7 && s.sys.running && decide (lns s = s.sys.s0) && servoBoundary s && flag s F.FBK_CMP_STATUS_ARMED u.val &&
        (s.cmpU u.val).late then
      cmpFire u.val (s.sys.s0 % 2 ^ 32) (s.source (bitsOf (s.cmpU u.val).cfg 0 7)).pos (raiseFlag s F.FBK_CMP_STATUS_LATE u.val)
    else s)

/-- CMP_PULSE_END (R199): the pulse ends after WIDTH × 20 ns. -/
def execCmpPulseEnd (t : Nat) (u : Fin 64) (s : State) : Res :=
  let s := advance t s
  .next (if bitsOf (s.cmpU u.val).cfg 12 1 = 1 then s else fset s F.FBK_CMP_STATUS_LEVEL 0 u.val)

/-- TDC_CALIBRATION (R196). -/
def execTdcCalibration (t : Nat) (s : State) : Res :=
  let s := advance t s
  .next (if domainOn s 7 then fset s F.FBK_STATUS_TDC_VALID 1 else s)

/-! ### Power -/

/-- R202 at DOZE entry: positions, offsets and SAT bits go to retention; latch queues and compares are cleared. -/
def fbkSleep (s : State) : State :=
  let s := { s with pwr := { s.pwr with savedSrc := s.src, savedSat := srcList.foldl (fun m i => nput m i (fget s F.FBK_HALL_STATUS_SAT i)) [] } }
  let s := forN 32 (fun u s => latDisarm u (latFlush u s)) s
  forN 64 (fun u s => cmpDisarm u s) s

/-- R202 at wake: the positions return, with STILL set and no history; the levels accepted since the power-up stand (R172), and the Hall
states follow them under the restored INV. -/
def fbkWake (s : State) : State :=
  forL srcList (fun i s =>
    let o := SMap.get (fun _ => SrcS.init) s.pwr.savedSrc i
    let l := (s.source i).lines
    let s := setSrc s i { SrcS.init with pos := o.pos, ofs := o.ofs, lines := l }
    let s := fset (fset s F.FBK_HALL_STATUS_STILL 1 i) F.FBK_HALL_STATUS_SAT (nget s.pwr.savedSat i) i
    match l with
    | some n => if i < 48 ∧ srcOn s i = true then setHall i (hallState s i n) s else s
    | none => s) s

end Sys2Proof.Machine
end

