-- ==== Sys2Proof/Machine/FieldIo.lean ====
section
/-! DEFINITION. Sys2Proof/Machine/FieldIo.lean: field inputs and outputs, brake pairs, torque-off outputs and contactor
feedback (R305 to R319). -/

namespace Sys2Proof.Machine

/-! ### Safety assignment -/

/-- The safety state is OPERATIONAL or DRYDOWN. -/
def safLive (s : State) : Bool := fget s F.SAF_STATE_STATE == 3 || fget s F.SAF_STATE_STATE == 4

/-- R308: channel `n` is safety-assigned as an input. -/
def safeIn (s : State) (n : Nat) : Bool :=
  let mode := fget s F.FIO_CH_CFG_MODE n
  (mode == 1 || mode == 2) &&
    (fget s F.SAF_GEN_RUN_SEL == n ||
      ((fget s F.SAF_GEN_RESET_SRC == 1 || fget s F.SAF_GEN_RESET_SRC == 2) && fget s F.SAF_GEN_RESET_SEL == n) ||
      (List.range 8).any (fun a => flag s F.SAF_AX_CFG_EN a &&
        (fget s F.SAF_AX_SEL_A_STO_PERM a == n || fget s F.SAF_AX_SEL_A_SOS_PERM a == n ||
          fget s F.SAF_AX_SEL_A_SLS_SEL0 a == n || fget s F.SAF_AX_SEL_B_SLS_SEL1 a == n)))

/-- R308: channel `n` is safety-assigned as an output. -/
def safeOut (s : State) (n : Nat) : Bool :=
  fget s F.FIO_CH_CFG_MODE n == 3 &&
    (List.range 16).any (fun k => flag s F.SAF_KFB_CFG_EN k && fget s F.SAF_KFB_CFG_CKIND k == 0 && fget s F.SAF_KFB_CFG_CIDX k == n)

/-! ### Levels -/

/-- The supply group of FIO channel `n` (R305). -/
def fioGroup (n : Nat) : Nat := n / 8

/-- The value word of process-image endpoint `e` (R352); a poisoned block reads 0. -/
def imgWord (s : State) (e : Nat) : Nat :=
  let a := sramAt (fget s F.IMP_VAL_BASE_INDEX + e)
  if poisoned s a then 0 else memNat s a 4

/-- R309: where an output takes its commanded level. -/
def fioSrc (s : State) (n : Nat) : Bool :=
  match fget s F.FIO_CH_CFG_SRC n with
  | 0 => fbit s F.FIO_OUT_CMD n
  | 1 => (imgWord s (fget s F.FIO_CH_EP_EP n)).testBit 0
  | 2 => flag s F.FBK_CMP_STATUS_LEVEL (fget s F.FIO_CH_CFG_CMP n)
  | _ => false

/-- The commanded level under the watchdog (R312: SAFE_ST 2 holds the level that the output had); in DOZE levels stand (R309). -/
def fioCmd (s : State) (n : Nat) : Bool :=
  if s.sys.st == .doze then s.fio.frozen.testBit n
  else if flag s F.FIO_STATUS_WDT_EXP && flag s F.FIO_CH_CFG_WDT_EN n && decide (fget s F.FIO_CH_CFG_SRC n ≤ 1) then
    (if safeOut s n then false
     else
       match fget s F.FIO_CH_CFG_SAFE_ST n with
       | 1 => true
       | 2 => s.fio.held.testBit n
       | _ => false)
  else fioSrc s n

/-- R314: group `g` holds the output off. -/
def uvHolds (s : State) (g : Nat) (restores : Bool) : Bool :=
  flag s F.FIO_GRP_STATUS_FIELD_UV g && !(flag s F.FIO_GRP_STATUS_RECOVERED g && restores)

/-- R309, R311: the switch of output `n` is on. OPEN holds it off where it was found with the output off. -/
def fioDriven (s : State) (n : Nat) : Bool :=
  domainOn s 13 && fget s F.FIO_CH_CFG_MODE n == 3 && hasBall s 0x0C n && fioCmd s n && !flag s F.FIO_CH_DIAG_OVL n &&
    !flag s F.FIO_CH_DIAG_OT n && !(flag s F.FIO_CH_DIAG_OPEN n && s.fio.openOff.testBit n) && !uvHolds s (fioGroup n) (flag s F.FIO_CH_CFG_RESTORE n && !safeOut s n) &&
    (!safeOut s n || safLive s) && s.sys.st != .boot && s.sys.st != .off

/-- R307: FIO.IN; that of an output is its ball's level (R472). -/
def fioIn (s : State) (n : Nat) : Bool :=
  if fget s F.FIO_CH_CFG_MODE n = 3 then driven s 0x0C n (fioDriven s n)
  else if fget s F.FIO_CH_CFG_MODE n = 0 then false
  else fbit s F.FIO_IN_LEVEL n

/-- R310: the level of TRG_OUT `i`. -/
def trgOut (s : State) (i : Nat) : Bool :=
  hasBall s 0x09 i &&
    (if flag s F.FIO_TRGOUT_SRC i then flag s F.FBK_CMP_STATUS_LEVEL (fget s F.FIO_TRGOUT_CMP i) else fbit s F.FIO_OUT_CMD (4 + i))

/-- A set of numbers below `n` as a word. -/
def bitSet (n : Nat) (f : Nat → Bool) : Nat := (List.range n).foldl (fun w i => if f i then w + 2 ^ i else w) 0

/-- DOZE begins: commanded levels stand from here (R309). -/
def fioFreeze (s : State) : State := { s with fio := { s.fio with frozen := bitSet 32 (fioCmd s) } }

/-! ### Torque-off outputs and brake pairs -/

/-- The switch of pair `p` is on: released and not off by a fault or by a sag (R315, R317). -/
def sbcOn (s : State) (p : Nat) : Bool := !fbit s F.SAF_BRAKE_APPLIED p

/-- Bring pair `p` to a state; a release starts its PULL time (R316). -/
def setSbc (p : Nat) (applied : Bool) (s : State) : State :=
  if fbit s F.SAF_BRAKE_APPLIED p = applied then s
  else
    let s := { s with fio := { s.fio with sbcHold := putBit s.fio.sbcHold p false
                                          sbcOff := if applied then s.fio.sbcOff else putBit s.fio.sbcOff p false } }
    fsetBit s F.SAF_BRAKE_APPLIED p applied

/-- R314: the torque-off outputs and brake pairs of a group switch off. -/
def groupOff (g : Nat) (s : State) : State :=
  let s := fsetBit (fsetBit s F.SAF_BRAKE_STO_ASSERTED (2 * g) true) F.SAF_BRAKE_STO_ASSERTED (2 * g + 1) true
  edgRefresh (setSbc (2 * g) true (setSbc (2 * g + 1) true s))

/-! ### Inputs -/

/-- Feed `f` is in use (R407). -/
def feedUsed (s : State) (f : Nat) : Bool := f == 0 || fget s F.PAR_CFG_MODE != 1

/-- Every feed in use reports battery operation (R429). -/
def allBatt (s : State) : Bool := (List.range 2).all (fun f => !feedUsed s f || flag s F.PAR_FEED_STATUS_BATT f)

/-- R428, sources 0 to 2: battery operation of the feeds as the FIO input or the endpoint shows it. -/
def battScan (s : State) : State :=
  let s := forN 2 (fun f s =>
    let i := fget s F.PAR_FEED_CFG_BATT_IDX f
    match fget s F.PAR_FEED_CFG_BATT_SRC f with
    | 0 => fset s F.PAR_FEED_STATUS_BATT 0 f
    | 1 => fset s F.PAR_FEED_STATUS_BATT (feedUsed s f && decide (i < 32) && fioIn s i).toNat f
    | 2 =>
      let r := readSram 6 (fget s F.IMP_VAL_BASE_INDEX + i) s
      fset r.2 F.PAR_FEED_STATUS_BATT (feedUsed s f && r.1.testBit 0).toNat f
    | _ => s) s
  holdMark Timed.allBatt (allBatt s) s

/-- The supply of group `g` is not absent: it has not measured 0 V last (R477, log entry 71). -/
def supplied (s : State) (g : Nat) : Bool := !s.fio.absent.testBit g

/-- FIO_INPUT_ACCEPT (R307): input `n` has been stable at `level` for DEB. -/
def execFioInputAccept (t : Nat) (n : Fin 32) (level : Bool) (s : State) : Res :=
  let s := advance t s
  let i := n.val
  let mode := fget s F.FIO_CH_CFG_MODE i
  .next (
    if domainOn s 13 && (mode == 1 || mode == 2) && hasBall s 0x0C i && supplied s (fioGroup i) && fbit s F.FIO_IN_LEVEL i != level then
      let s := battScan (latFioAccept i level (fsetBit s F.FIO_IN_LEVEL i level))
      if flag s F.FIO_CH_CFG_WAKE_EN i then wakeEvent 4 s else s
    else s)

/-- KFB_INPUT_CHANGE (R319): contactor feedback `k` has a new level after its filter. -/
def execKfbInputChange (t : Nat) (k : Fin 16) (level : Bool) (s : State) : Res :=
  let s := advance t s
  .next (if domainOn s 13 && hasBall s 0x0F k.val && supplied s (k.val / 4) then fsetBit s F.FIO_KFB_LEVEL k.val level else s)

/-! ### Output commands -/

/-- The output watchdog restarts (R312, R313). -/
def wdtRestart (s : State) : State := { s with fio := { s.fio with wdtAt := clk s } }

/-- The imposition engine has written endpoint `e`: the watchdog restarts when a channel with SRC 1 names it (R312). -/
def wdtEndpoint (e : Nat) (s : State) : State :=
  if (List.range 32).any (fun n => fget s F.FIO_CH_CFG_SRC n == 1 && fget s F.FIO_CH_EP_EP n == e) then wdtRestart s else s

/-- A host write of FIO.OUT (R309, R312). -/
def fioOutWrite (v : Word) (s : State) : State := wdtRestart (wr s R.FIO_OUT.addr v)

/-- FIO_OUT_WRITE (R309, R312). -/
def execFioOutWrite (h : Via) (v : Word) (s : State) : Res :=
  .next (hostGate h R.FIO_OUT.addr (some v) (fioOutWrite v) s)

/-- FIO_SET (R264, R312): a scheduled action sets the commanded level of channel `n`. -/
def fioSet (n : Nat) (level : Bool) (s : State) : State := wdtRestart (fsetBit s F.FIO_OUT_CMD n level)

/-! ### Diagnostics -/

/-- A fault rises (R311, R465). -/
def fioFault (n : Nat) (f : Fld) (s : State) : State :=
  if flag s f n then s
  else
    let s := raiseFlag s f n
    raise blkFIO 0x01 n ((rd s (R.FIO_CH_DIAG.at n)).toNat % 8) 0 s

/-- OUTPUT_OVERLOAD (R311). -/
def execOutputOverload (t : Nat) (n : Fin 32) (s : State) : Res :=
  let s := advance t s
  .next (if fioDriven s n.val then fioFault n.val F.FIO_CH_DIAG_OVL s else s)

/-- OUTPUT_OVERTEMP (R311). -/
def execOutputOvertemp (t : Nat) (n : Fin 32) (s : State) : Res :=
  let s := advance t s
  .next (if domainOn s 13 && fget s F.FIO_CH_CFG_MODE n.val == 3 then fioFault n.val F.FIO_CH_DIAG_OT s else s)

/-- R311, R314: open-wire checking of group `g` is suppressed: below 18 V, from a FIELD_UV until RECOVERED, and for 100 ms
after that. -/
def owSuppressed (s : State) (g : Nat) : Bool :=
  flag s F.FIO_GRP_STATUS_FIELD_WARN g || (flag s F.FIO_GRP_STATUS_FIELD_UV g && !flag s F.FIO_GRP_STATUS_RECOVERED g) ||
    (match s.fio.recAt.find? (fun e => e.1 == g) with
     | some e => decide (clk s < e.2 + 100 * 256000000)
     | none => false)

/-- OPEN_WIRE (R311). Found with the output off it holds the output off, also where the bit had latched with the output on (DESIGN
CHOICE, log entry 72). -/
def execOpenWire (t : Nat) (n : Fin 32) (s : State) : Res :=
  let s := advance t s
  .next (
    if domainOn s 13 && fget s F.FIO_CH_CFG_MODE n.val == 3 && flag s F.FIO_CH_CFG_OW_EN n.val &&
        !owSuppressed s (fioGroup n.val) then
      fioFault n.val F.FIO_CH_DIAG_OPEN
        (if fioDriven s n.val then s else { s with fio := { s.fio with openOff := putBit s.fio.openOff n.val true } })
    else s)

/-- R311: a clear of DIAG bits; OT stays while the junction is above 130 °C (`hot`), a bit set in the same SYS cycle too (R4). -/
def diagClear (n : Nat) (v : Word) (hot : Bool) (s : State) : State :=
  let v := v &&& ~~~justSet s (R.FIO_CH_DIAG.at n)
  let s := if v.getLsbD 0 then fset s F.FIO_CH_DIAG_OVL 0 n else s
  let s := if v.getLsbD 1 && !hot then fset s F.FIO_CH_DIAG_OT 0 n else s
  if v.getLsbD 2 then fset { s with fio := { s.fio with openOff := putBit s.fio.openOff n false } } F.FIO_CH_DIAG_OPEN 0 n else s

/-- DIAG_CLEAR (R311). -/
def execDiagClear (h : Via) (n : Fin 32) (v : Word) (hot : Bool) (s : State) : Res :=
  .next (hostGate h (R.FIO_CH_DIAG.at n.val) (some v) (diagClear n.val v hot) s)

/-! ### Watchdog -/

/-- WDT_KICK (R312): the watchdog restarts. -/
def execWdtKick (h : Via) (s : State) : Res :=
  .next (hostGate h R.FIO_WDT.addr (some (BitVec.ofNat 32 0x20000)) wdtRestart s)

/-- WDT_EXPIRE (R312): MS ms have passed since the watchdog restarted. -/
def execWdtExpire (t : Nat) (s : State) : Res :=
  let s := advance t s
  .next (
    if domainOn s 13 && flag s F.FIO_WDT_EN && !flag s F.FIO_STATUS_WDT_EXP &&
        decide (s.fio.wdtAt + 256000000 * fget s F.FIO_WDT_MS ≤ clk s) then
      raiseFlag { s with fio := { s.fio with held := bitSet 32 (fioDriven s) } } F.FIO_STATUS_WDT_EXP
    else s)

/-- R313: outputs follow their commands again, and the watchdog restarts; not in the SYS cycle that set the bit (R4). -/
def wdtExpClear (s : State) : State :=
  if (justSet s R.FIO_STATUS.addr).getLsbD 0 then s else wdtRestart (fset s F.FIO_STATUS_WDT_EXP 0)

/-- WDT_EXP_CLEAR (R313). -/
def execWdtExpClear (h : Via) (s : State) : Res := .next (hostGate h R.FIO_STATUS.addr (some 1#32) wdtExpClear s)

/-! ### Field supplies -/

/-- R477: a supply that measures 0 V is absent, and the inputs of its group read 0 (log entry 71). -/
def supplyInputs (g n : Nat) (s : State) : State :=
  let s := { s with fio := { s.fio with absent := putBit s.fio.absent g (decide (n = 0)) } }
  if n ≠ 0 then s
  else battScan (forN 4 (fun k s => fsetBit s F.FIO_KFB_LEVEL (4 * g + k) false) (forN 8 (fun k s => fsetBit s F.FIO_IN_LEVEL (8 * g + k) false) s))

/-- VFLD_MEASURE (R305, R314): supply `g` measures `v` in 0.1 V. -/
def execVfldMeasure (t : Nat) (g : Fin 4) (v : BitVec 10) (s : State) : Res :=
  let s := advance t s
  let i := g.val
  .next (
    if domainOn s 13 then
      let n := v.toNat
      let s := supplyInputs i n s
      let s := fset (fset s F.FIO_GRP_STATUS_VOLT n i) F.FIO_GRP_STATUS_FIELD_WARN (if n < 180 then 1 else 0) i
      let s := if n < 180 && !flag s F.FIO_GRP_STATUS_FIELD_WARN_SEEN i then
        raise blkFIO 0x02 i n 0 (raiseFlag s F.FIO_GRP_STATUS_FIELD_WARN_SEEN i) else s
      if n < 150 then
        let was := flag s F.FIO_GRP_STATUS_FIELD_UV i
        let s := groupOff i (fset (raiseFlag s F.FIO_GRP_STATUS_FIELD_UV i) F.FIO_GRP_STATUS_RECOVERED 0 i)
        if was then s else raise blkFIO 0x03 i n 0 s
      else s
    else s)

/-- FIELD_RECOVERED (R314): supply `g` has been above 19 V for 10 ms. -/
def execFieldRecovered (t : Nat) (g : Fin 4) (s : State) : Res :=
  let s := advance t s
  .next (
    if flag s F.FIO_GRP_STATUS_FIELD_UV g.val && decide (190 < fget s F.FIO_GRP_STATUS_VOLT g.val) then
      raiseFlag { s with fio := { s.fio with recAt := SMap.ins s.fio.recAt g.val (clk s) } } F.FIO_GRP_STATUS_RECOVERED g.val
    else s)

/-- R314: the acknowledge of a sag. -/
def uvAck (g : Nat) (s : State) : State :=
  if flag s F.FIO_GRP_STATUS_RECOVERED g then
    fset (fset s F.FIO_GRP_STATUS_FIELD_UV 0 g) F.FIO_GRP_STATUS_RECOVERED 0 g
  else raiseFlag s F.FIO_GRP_STATUS_ACK_REFUSED g

/-- UV_ACK (R314). -/
def execUvAck (h : Via) (g : Fin 4) (s : State) : Res := .next (hostGate h (R.FIO_GRP_CTL.at g.val) (some 1#32) (uvAck g.val) s)

/-! ### Brakes and torque-off outputs -/

/-- SBC_PULL_END (R316): a released pair changes to hold PWM; `mA` is the coil current. -/
def execSbcPullEnd (t : Nat) (p : Fin 8) (mA : BitVec 12) (s : State) : Res :=
  let s := advance t s
  .next (
    if domainOn s 13 && sbcOn s p.val then
      fset { s with fio := { s.fio with sbcHold := putBit s.fio.sbcHold p.val true } } F.FIO_SBC_STATUS_I mA.toNat p.val
    else s)

/-- SBC_TEST_PULSE (R317): each switch of a pair is pulsed alone; the pulse leaves no trace, and `mA` is the coil
current it finds. -/
def execSbcTestPulse (t : Nat) (p : Fin 8) (mA : BitVec 12) (s : State) : Res :=
  let s := advance t s
  .next (if domainOn s 13 then fset s F.FIO_SBC_STATUS_I mA.toNat p.val else s)

/-- SBC_FAULT (R317): over-current, or an open coil while released, switches the pair off. -/
def execSbcFault (t : Nat) (p : Fin 8) (open_ : Bool) (mA : BitVec 12) (s : State) : Res :=
  let s := advance t s
  let i := p.val
  .next (
    if domainOn s 13 && (!open_ || sbcOn s i) then
      let s := fset (raiseFlag s (if open_ then F.FIO_SBC_STATUS_OPEN else F.FIO_SBC_STATUS_OVL) i) F.FIO_SBC_STATUS_I mA.toNat i
      let s := setSbc i true s
      let s := { s with fio := { s.fio with sbcOff := putBit s.fio.sbcOff i true } }
      raise blkFIO 0x04 i ((rd s (R.FIO_SBC_STATUS.at i)).toNat % 4) mA.toNat s
    else s)

/-- STO_TEST_PULSE (R318): a released output is pulsed off for STO_TP; the pulse leaves no trace. -/
def execStoTestPulse (t : Nat) (_n : Fin 8) (s : State) : Res := .next (advance t s)

/-- STO_OVERLOAD (R318). -/
def execStoOverload (t : Nat) (n : Fin 8) (s : State) : Res :=
  let s := advance t s
  .next (
    if domainOn s 13 && !fbit s F.SAF_BRAKE_STO_ASSERTED n.val then
      let s := fsetBit (fsetBit s F.FIO_STO_OVL n.val true) F.SAF_BRAKE_STO_ASSERTED n.val true
      raise blkFIO 0x05 n.val 0 0 (edgRefresh s)
    else s)

end Sys2Proof.Machine
end

