-- ==== Sys2Proof/Machine/Crypto.lean ====
section
/-! DEFINITION. Sys2Proof/Machine/Crypto.lean: CRC-32C (R36), SHA-256 and ECDSA on P-256 (R41, R42), AES-128-GMAC
(R349), on numbers. Their algorithms are those of the standards that these rules name. -/

namespace Sys2Proof.Machine

/-! ### Bytes and numbers -/

/-- The little-endian number in a list of bytes. -/
def leNat : List Byte → Nat
  | [] => 0
  | b :: r => b.toNat + 256 * leNat r

/-- The big-endian number in a list of bytes. -/
def beNat (l : List Byte) : Nat := l.foldl (fun a b => 256 * a + b.toNat) 0

/-- The low `n` bytes of a number, least significant first. -/
def leBytes : Nat → Nat → List Byte
  | 0, _ => []
  | n + 1, v => BitVec.ofNat 8 v :: leBytes n (v / 256)

/-- The low `n` bytes of a number, most significant first. -/
def beBytes (n v : Nat) : List Byte := (leBytes n v).reverse

/-- Bytes `i … i + n - 1`, missing bytes read as 0. -/
def slice (l : List Byte) (i n : Nat) : List Byte := (List.range n).map (fun k => l.getD (i + k) 0)

/-- The little-endian number in bytes `i … i + n - 1`. -/
def leAt (l : List Byte) (i n : Nat) : Nat := leNat (slice l i n)

/-! ### CRC-32C -/

/-- `n` bits of the reflected CRC of polynomial `g`. -/
def crcBits (g : Nat) : Nat → Nat → Nat
  | 0, c => c
  | n + 1, c => crcBits g n (if c % 2 = 1 then (c / 2) ^^^ g else c / 2)

/-- A reflected 32-bit CRC of a list of bytes. -/
def crc32 (g : Nat) (l : List Byte) : Nat := l.foldl (fun c b => crcBits g 8 (c ^^^ b.toNat)) 0xFFFFFFFF ^^^ 0xFFFFFFFF

/-- CRC-32C of a list of bytes. -/
def crc32c (l : List Byte) : Nat := crc32 0x82F63B78 l

/-- The frame check sequence of Ethernet, as it follows the frame. -/
def ethFcs (l : List Byte) : List Byte := leBytes 4 (crc32 0xEDB88320 l)

/-! ### SHA-256 -/

/-- Rotate right by `n` bits. -/
def ror32 (x : Word) (n : Nat) : Word := (x >>> n) ||| (x <<< (32 - n))

/-- The round constants. -/
def shaK : List Nat :=
  [0x428a2f98, 0x71374491, 0xb5c0fbcf, 0xe9b5dba5, 0x3956c25b, 0x59f111f1, 0x923f82a4, 0xab1c5ed5] ++
  [0xd807aa98, 0x12835b01, 0x243185be, 0x550c7dc3, 0x72be5d74, 0x80deb1fe, 0x9bdc06a7, 0xc19bf174] ++
  [0xe49b69c1, 0xefbe4786, 0x0fc19dc6, 0x240ca1cc, 0x2de92c6f, 0x4a7484aa, 0x5cb0a9dc, 0x76f988da] ++
  [0x983e5152, 0xa831c66d, 0xb00327c8, 0xbf597fc7, 0xc6e00bf3, 0xd5a79147, 0x06ca6351, 0x14292967] ++
  [0x27b70a85, 0x2e1b2138, 0x4d2c6dfc, 0x53380d13, 0x650a7354, 0x766a0abb, 0x81c2c92e, 0x92722c85] ++
  [0xa2bfe8a1, 0xa81a664b, 0xc24b8b70, 0xc76c51a3, 0xd192e819, 0xd6990624, 0xf40e3585, 0x106aa070] ++
  [0x19a4c116, 0x1e376c08, 0x2748774c, 0x34b0bcb5, 0x391c0cb3, 0x4ed8aa4a, 0x5b9cca4f, 0x682e6ff3] ++
  [0x748f82ee, 0x78a5636f, 0x84c87814, 0x8cc70208, 0x90befffa, 0xa4506ceb, 0xbef9a3f7, 0xc67178f2]

/-- The eight working words. -/
structure Sha where
  a : Word
  b : Word
  c : Word
  d : Word
  e : Word
  f : Word
  g : Word
  h : Word
  deriving DecidableEq, Repr

/-- The initial hash. -/
def Sha.init : Sha := ⟨0x6a09e667, 0xbb67ae85, 0x3c6ef372, 0xa54ff53a, 0x510e527f, 0x9b05688c, 0x1f83d9ab, 0x5be0cd19⟩

/-- The rounds: constants to go, and the last 16 schedule words, oldest first. -/
def shaRounds : List Nat → List Word → Sha → Sha
  | [], _, s => s
  | k :: ks, w, s =>
    let x := w.getD 0 0
    let t1 := s.h + (ror32 s.e 6 ^^^ ror32 s.e 11 ^^^ ror32 s.e 25) + ((s.e &&& s.f) ^^^ (~~~s.e &&& s.g)) + BitVec.ofNat 32 k + x
    let t2 := (ror32 s.a 2 ^^^ ror32 s.a 13 ^^^ ror32 s.a 22) + ((s.a &&& s.b) ^^^ (s.a &&& s.c) ^^^ (s.b &&& s.c))
    let y := w.getD 1 0
    let z := w.getD 14 0
    let n := x + (ror32 y 7 ^^^ ror32 y 18 ^^^ (y >>> 3)) + w.getD 9 0 + (ror32 z 17 ^^^ ror32 z 19 ^^^ (z >>> 10))
    shaRounds ks (w.drop 1 ++ [n]) ⟨t1 + t2, s.a, s.b, s.c, s.d + t1, s.e, s.f, s.g⟩

/-- One block of 64 bytes. -/
def shaBlock (s : Sha) (blk : List Byte) : Sha :=
  let w := (List.range 16).map (fun i => BitVec.ofNat 32 (beNat (slice blk (4 * i) 4)))
  let r := shaRounds shaK w s
  ⟨s.a + r.a, s.b + r.b, s.c + r.c, s.d + r.d, s.e + r.e, s.f + r.f, s.g + r.g, s.h + r.h⟩

/-- The blocks of a padded message, `n` of them. -/
def shaBlocks : Nat → List Byte → Sha → Sha
  | 0, _, s => s
  | n + 1, l, s => shaBlocks n (l.drop 64) (shaBlock s (l.take 64))

/-- SHA-256, as 32 bytes. -/
def sha256 (l : List Byte) : List Byte :=
  let zeros := (119 - l.length % 64) % 64
  let m := l ++ [0x80#8] ++ List.replicate zeros 0#8 ++ beBytes 8 (8 * l.length)
  let s := shaBlocks (m.length / 64) m Sha.init
  [s.a, s.b, s.c, s.d, s.e, s.f, s.g, s.h].flatMap (fun w => beBytes 4 w.toNat)

/-! ### ECDSA on P-256 -/

/-- The field's prime. -/
def p256 : Nat := 0xffffffff00000001000000000000000000000000ffffffffffffffffffffffff

/-- The group's order. -/
def n256 : Nat := 0xffffffff00000000ffffffffffffffffbce6faada7179e84f3b9cac2fc632551

/-- b of the curve equation. -/
def b256 : Nat := 0x5ac635d8aa3a93e7b3ebbd55769886bc651d06b0cc53b0f63bce3c3e27d2604b

/-- The base point. -/
def g256 : Nat × Nat :=
  (0x6b17d1f2e12c4247f8bce6e563a440f277037d812deb33a0f4a13945d898c296,
   0x4fe342e2fe1a7f9b8ee7eb4a7c0f9e162bce33576b315ececbb6406837bf51f5)

/-- `a ^ e` modulo `m`, over the low `n` bits of `e`, from the highest. -/
def powMod (m a e : Nat) : Nat → Nat → Nat
  | 0, r => r
  | n + 1, r => powMod m a e n (if e.testBit n then r * r % m * a % m else r * r % m)

/-- The inverse modulo a 256-bit prime. -/
def invMod (m a : Nat) : Nat := powMod m (a % m) (m - 2) 256 1

/-- The sum of two points; `none` is the point at infinity. -/
def ecAdd (p q : Option (Nat × Nat)) : Option (Nat × Nat) :=
  match p, q with
  | none, _ => q
  | _, none => p
  | some (x1, y1), some (x2, y2) =>
    if x1 = x2 ∧ (y1 + y2) % p256 = 0 then none
    else
      let l := if x1 = x2 then (3 * x1 * x1 + p256 - 3) * invMod p256 (2 * y1) % p256
        else (y2 + p256 - y1) * invMod p256 (x2 + p256 - x1) % p256
      let x3 := (l * l + 2 * p256 - x1 - x2) % p256
      some (x3, (l * (x1 + p256 - x3) + p256 - y1) % p256)

/-- `k` times a point, over the low `n` bits of `k`. -/
def ecMul (k : Nat) (p : Option (Nat × Nat)) : Nat → Option (Nat × Nat) → Option (Nat × Nat)
  | 0, r => r
  | n + 1, r => (let d := ecAdd r r; ecMul k p n (if k.testBit n then ecAdd d p else d))

/-- Whether (r, s) is a signature of the digest `e` under the public key (x, y). -/
def ecdsaOk (x y e r s : Nat) : Bool :=
  if r = 0 ∨ n256 ≤ r ∨ s = 0 ∨ n256 ≤ s ∨ p256 ≤ x ∨ p256 ≤ y ∨ y * y % p256 ≠ (x * x * x + (p256 - 3) * x + b256) % p256 then false
  else
    let w := invMod n256 s
    match ecAdd (ecMul (e * w % n256) (some g256) 256 none) (ecMul (r * w % n256) (some (x, y)) 256 none) with
    | none => false
    | some (vx, _) => decide (vx % n256 = r)

/-! ### AES-128 and GMAC -/

/-- Multiply by x in the AES field. -/
def xtime (a : Nat) : Nat := if 128 ≤ a then (2 * a) ^^^ 0x11B else 2 * a

/-- The product in the AES field over `n` bits of `b`. -/
def gmul (a b : Nat) : Nat → Nat
  | 0 => 0
  | n + 1 => (if b % 2 = 1 then a else 0) ^^^ gmul (xtime a) (b / 2) n

/-- `a ^ 254`, the inverse in the AES field. -/
def ginv (a : Nat) : Nat :=
  let m := fun x y => gmul x y 8
  let a2 := m a a
  let a3 := m a2 a
  let a6 := m a3 a3
  let a12 := m a6 a6
  let a15 := m a12 a3
  let a30 := m a15 a15
  let a60 := m a30 a30
  let a120 := m a60 a60
  let a126 := m a120 a6
  let a127 := m a126 a
  m a127 a127

/-- Rotate a byte left. -/
def rol8 (a n : Nat) : Nat := (a * 2 ^ n ||| a / 2 ^ (8 - n)) % 256

/-- The AES substitution. -/
def sbox (a : Nat) : Nat := let b := ginv a; b ^^^ rol8 b 1 ^^^ rol8 b 2 ^^^ rol8 b 3 ^^^ rol8 b 4 ^^^ 0x63

/-- The XOR of two lists. -/
def xorL (a b : List Nat) : List Nat := List.zipWith (· ^^^ ·) a b

/-- The next round key. -/
def nextKey (k : List Nat) (rc : Nat) : List Nat :=
  let g := fun i => k.getD i 0
  let t := [sbox (g 13) ^^^ rc, sbox (g 14), sbox (g 15), sbox (g 12)]
  let w0 := xorL (k.take 4) t
  let w1 := xorL ((k.drop 4).take 4) w0
  let w2 := xorL ((k.drop 8).take 4) w1
  w0 ++ w1 ++ w2 ++ xorL (k.drop 12) w2

/-- SubBytes and ShiftRows. -/
def subShift (s : List Nat) : List Nat := (List.range 16).map (fun i => sbox (s.getD ((i + 4 * (i % 4)) % 16) 0))

/-- MixColumns. -/
def mixCols (s : List Nat) : List Nat :=
  (List.range 16).map (fun i =>
    let c := i / 4 * 4
    let g := fun k => s.getD (c + (i + k) % 4) 0
    xtime (g 0) ^^^ (xtime (g 1) ^^^ g 1) ^^^ g 2 ^^^ g 3)

/-- The rounds from the state and key of one round; the last leaves MixColumns out. -/
def aesRounds : List Nat → List Nat → List Nat → List Nat
  | [], _, s => s
  | [rc], k, s => xorL (subShift s) (nextKey k rc)
  | rc :: r, k, s => (let k' := nextKey k rc; aesRounds r k' (xorL (mixCols (subShift s)) k'))

/-- AES-128 of one block. -/
def aes128 (key blk : List Byte) : List Byte :=
  let k := key.map (·.toNat)
  (aesRounds [1, 2, 4, 8, 16, 32, 64, 128, 27, 54] k (xorL (blk.map (·.toNat)) k)).map (fun n => BitVec.ofNat 8 n)

/-- The GHASH product over `n` bits of `y` from its highest: `v` is the running multiple of x. -/
def ghMul (y : Nat) : Nat → Nat → Nat → Nat
  | 0, _, z => z
  | n + 1, v, z =>
    ghMul y n (if v % 2 = 1 then v / 2 ^^^ (0xE1 * 2 ^ 120) else v / 2) (if y.testBit n then z ^^^ v else z)

/-- GHASH over `n` blocks. -/
def ghash (h : Nat) : Nat → List Byte → Nat → Nat
  | 0, _, y => y
  | n + 1, l, y => ghash h n (l.drop 16) (ghMul (y ^^^ beNat (slice l 0 16)) 128 h 0)

/-- The AES-128-GMAC tag of the authenticated data under a 96-bit IV. -/
def gmac (key iv aad : List Byte) : List Byte :=
  let h := beNat (aes128 key (List.replicate 16 0#8))
  let n := (aad.length + 15) / 16
  let y := ghash h n aad 0
  let y := ghMul (y ^^^ (8 * aad.length) * 2 ^ 64) 128 h 0
  beBytes 16 (y ^^^ beNat (aes128 key (iv ++ [0#8, 0#8, 0#8, 1#8])))

end Sys2Proof.Machine
end

