-- ==== Sys2Proof/Machine/TimeBase.lean ====
section
/-! DEFINITION. Sys2Proof/Machine/TimeBase.lean: the time base (R320 to R341): offsets, steps, slews, holdover,
selection of the PTP instance, and pulses. Offsets are in 2^-16 ns. -/

namespace Sys2Proof.Machine

/-- One ns in the unit of offsets. -/
def nsU : Int := 65536

/-- PTP instance `p`: 0 PTA, 1 PTB. -/
def State.port (s : State) (p : Nat) : PortS := if p = 0 then s.tim.port0 else s.tim.port1

/-- Replace PTP instance `p`. -/
def setPort (p : Nat) (x : PortS) (s : State) : State :=
  if p = 0 then { s with tim := { s.tim with port0 := x } } else { s with tim := { s.tim with port1 := x } }

/-- The Sync interval of port `p` (2^logSyncInterval s), in 1/256 ns. -/
def syncIntv (s : State) (p : Nat) : Nat :=
  let k := fgetInt s F.TIM_P_INTV_LOG_SYNC p
  if 0 ≤ k then 256000000000 * 2 ^ k.toNat else 256000000000 / 2 ^ (-k).toNat

/-- The instance has computed an offset within the last three Sync intervals (R334). -/
def ofsFresh (s : State) (p : Nat) : Bool :=
  match (s.port p).ofsAt with
  | some t => decide (clk s < t + 3 * syncIntv s p)
  | none => false

/-- R334: an instance is valid. -/
def portValid (s : State) (p : Nat) : Bool := (s.port p).pstate == 9 && (s.port p).annAlive && ofsFresh s p

/-- A port is MASTER. -/
def anyMaster (s : State) : Bool := (s.port 0).pstate == 6 || (s.port 1).pstate == 6

/-- A signed offset in ns, held within 32 bits. -/
def ofs32 (x : Int) : Nat := satInt 32 (x / nsU)

/-- A clock identity as GM_ID_L shows it: bytes 0 to 3, byte 0 lowest. -/
def identLo (i : BitVec 64) : Nat :=
  (i.toNat / 2 ^ 56) % 256 + 256 * (i.toNat / 2 ^ 48 % 256) + 65536 * (i.toNat / 2 ^ 40 % 256) + 16777216 * (i.toNat / 2 ^ 32 % 256)

/-- Bytes 4 to 7. -/
def identHi (i : BitVec 64) : Nat :=
  (i.toNat / 2 ^ 24) % 256 + 256 * (i.toNat / 2 ^ 16 % 256) + 65536 * (i.toNat / 2 ^ 8 % 256) + 16777216 * (i.toNat % 256)

/-! ### INCR -/

/-- The nominal increment of 4 ns. -/
def incrNom : Nat := 0x10000000

/-- Hold an increment within ±`ppm` of nominal (R321, R325). -/
def incrClamp (ppm : Nat) (i : Nat) : Nat := max (incrNom - incrNom * ppm / 1000000) (min (incrNom + incrNom * ppm / 1000000) i)

/-- INCR during a slew (R326). -/
def slewIncr (s : State) (servo : Nat) : Nat :=
  incrClamp 1500 (servo - servo * fget s F.TIM_SLEW_SLEW_MAX / 1000000)

/-- INCR in HOLD (R333). -/
def holdIncr (s : State) : Nat :=
  match s.tim.hist with
  | [] => incrNom
  | l => l.sum / l.length

/-- What the slew has given up since `slewAt` (R326), in 2^-16 ns. -/
def slewGiven (s : State) : Nat :=
  let e := (s.tim.acc - s.tim.slewAt) / 1024
  min s.tim.slewLeft (e * (s.tim.servo - s.tim.incr) / max 1 s.tim.incr)

/-- Bring the slew's amounts up to date. -/
def slewSettle (s : State) : State :=
  let g := slewGiven s
  { s with tim := { s.tim with slewLeft := s.tim.slewLeft - g, slewDone := s.tim.slewDone + g, slewAt := s.tim.acc } }

/-- The slew ends with `left` not given up (R326, R327, event 0x07). -/
def slewEnd (done left : Nat) (s : State) : State :=
  let s := { s with tim := { s.tim with slewLeft := 0, slewDone := 0, incr := s.tim.servo } }
  raise blkTIM 0x07 0 (satNat 32 (done / 65536)) (satNat 32 (left / 65536)) s

/-- End a slew that is under way, before its amount is given up. -/
def slewCut (s : State) : State :=
  if s.tim.st != .slew then s
  else
    let s := slewSettle s
    slewEnd s.tim.slewDone s.tim.slewLeft s

/-! ### State changes -/

/-- HOLD is entered for a cause of R341: a slew ends, INCR takes the value of R333. -/
def holdEnter (cause : Nat) (s : State) : State :=
  if s.tim.st == .hold then s
  else
    let s := slewCut s
    let i := holdIncr s
    raise blkTIM 0x04 cause 0 0 { s with tim := { s.tim with st := .hold, incr := i, servo := i } }

/-- Take state `x`, which is not HOLD, with event 0x05 when HOLD is left. -/
def timTo (x : TimState) (s : State) : State :=
  let old := s.tim.st
  let s := { s with tim := { s.tim with st := x } }
  if old == .hold then raise blkTIM 0x05 x.code 0 0 s else s

/-- R20: the LNS has moved by `d` ns under a running impression generator. -/
def gridMoved (d : Nat) (s : State) : State :=
  if !s.sys.running then s
  else
    let t : Int := tImp s
    let nx := s.sys.next + d
    let ph := (20 * (fget s F.SYS_IMP_PHASE_OFFSET : Int) - nx) % t
    let dl := if 2 * ph ≤ t then ph else ph - t
    let s := { s with sys := { s.sys with next := nx, open_ := dl } }
    if dl = 0 then s else raise blkSYS 0x03 0 (unsgn 32 dl) (impCount s) s

/-- R362: silence timers are lengthened by a step of `d` ns. -/
def netShift (d : Nat) (s : State) : State :=
  { s with net := { s.net with
      ctx := s.net.ctx.map (fun e => (e.1, { e.2 with last := e.2.last + d }))
      lay := s.net.lay.map (fun e => (e.1, { e.2 with sentAt := e.2.sentAt + d })) } }

/-- A forward step by `th` (R324, R329), from the source of event 0x02. -/
def timStep (src : Nat) (th : Int) (s : State) : State :=
  let l0 := lns s
  let d := th.toNat * 1024
  let s := { s with tim := { s.tim with acc := s.tim.acc + d, slewAt := s.tim.slewAt + d, stepped := s.tim.stepped + d } }
  let d := lns s - l0
  let s := fset (fset s F.TIM_STEP_LNS_L_VAL (lns s)) F.TIM_STEP_LNS_H_VAL (lns s / 2 ^ 32)
  let s := fset (fset s F.TIM_STEP_DELTA_L_VAL d) F.TIM_STEP_DELTA_H_VAL (d / 2 ^ 32)
  let s := netShift d (fbkShift d (raiseFlag s F.SYS_IMP_STATUS_STEP_SEEN))
  gridMoved d (raise blkTIM 0x02 src d (lns s) s)

/-- The interval of the offsets of source `src`, as `Config.servoGain` numbers it: the Sync interval of an instance, 1 s of PPS_IN
and of the host. -/
def ofsIntv (src : Nat) (s : State) : Nat := if src < 2 then (fgetInt s F.TIM_P_INTV_LOG_SYNC src + 8).toNat else 8

/-- A servo update (R325): the proportional-integral loop on `th`, at the gains that SERVO_BW selects and the spec leaves open
(log entry 4), held within ±500 ppm. -/
def servoUpdate (src : Nat) (th : Int) (s : State) : State :=
  let k := fun part => (Config.servoGain part (fget s F.TIM_CFG_SERVO_BW) (ofsIntv src s) : Int)
  let integ := s.tim.integ + k 1 * th
  let i := incrClamp 500 (incrNom + (k 0 * th + integ) / 2 ^ 48).toNat
  { s with tim := { s.tim with incr := i, servo := i, integ := integ, hist := (i :: s.tim.hist).take 64 } }

/-- R327: an offset is refused under the limit in effect, in ns. -/
def refuseOfs (src : Nat) (th : Int) (lim : Nat) (s : State) : State :=
  let s := raiseFlag s F.TIM_STATUS_JUMP_REFUSED
  let r := satInt 64 (th / nsU)
  let s := fset (fset s F.TIM_REFUSED_L_VAL r) F.TIM_REFUSED_H_VAL (r / 2 ^ 32)
  holdEnter 1 (raise blkTIM 0x03 src (ofs32 th) (satNat 32 lim) s)

/-- R335: XDIFF has made the state HOLD, and its offsets are ignored. -/
def xHolds (s : State) : Bool := s.tim.xhold && flag s F.TIM_CFG_XCHK_ACT

/-- STEP_MIN in the unit of offsets. -/
def stepMin (s : State) : Int := nsU * fget s F.TIM_STEP_MIN_MIN

/-- The handling of an offset by its row of R324; `lim` is the limit in ns, if the check applies. -/
def ofsRow (src ev : Nat) (th : Int) (lim : Option Nat) (s : State) : State :=
  let big := match lim with
    | none => false
    | some l => decide (nsU * l < th) || decide (th < -(nsU * l))
  if th.natAbs < (stepMin s).natAbs then timTo .track (servoUpdate src th s)
  else if big then refuseOfs src th (lim.getD 0) s
  else if 0 < th then timTo .track (timStep ev th s)
  else
    let s := { s with tim := { s.tim with slewLeft := th.natAbs, slewDone := 0, slewAt := s.tim.acc } }
    timTo .slew { s with tim := { s.tim with incr := slewIncr s s.tim.servo } }

/-- An offset during a slew (R326). -/
def ofsSlew (src : Nat) (th : Int) (lim : Option Nat) (s : State) : State :=
  let s := slewSettle s
  let refused := match lim with
    | none => false
    | some l => decide (nsU * l < th) || decide (th < -(s.tim.slewLeft + nsU * l))
  if refused then refuseOfs src th (lim.getD 0) s
  else if th ≤ -(stepMin s) then { s with tim := { s.tim with slewLeft := th.natAbs } }
  else ofsRow src src th lim (timTo .track (slewCut s))

/-- An offset that acts on the LNS (R323 to R328, R340), from source 0 PTA, 1 PTB, 2 PPS_IN or 3 host. The HOLD of XDIFF ignores
offsets of every source (R335). -/
def ofsHandle (src : Nat) (th : Int) (s : State) : State :=
  if xHolds s then s else
  let inst := decide (src < 2)
  let take := s.tim.accept && (inst || !(portValid s 0 || portValid s 1))
  let lim := fget s F.TIM_STEP_LIMIT_LIMIT + (if inst then s.tim.widen else 0)
  let lim := if take then none else some lim
  let s := { s with tim := { s.tim with accept := s.tim.accept && !take, widen := if inst then 0 else s.tim.widen } }
  match s.tim.st with
  | .unset => if stepMin s ≤ th then timTo .track (timStep (src + 4) th s) else ofsRow src src th lim s
  | .slew => ofsSlew src th lim s
  | _ => ofsRow src src th lim s

/-! ### Selection and cross-check -/

/-- R334: the data-set comparison, then stepsRemoved: `a` is strictly better than `b`. -/
def gmBetter (a b : GmData) : Bool :=
  let k := fun (g : GmData) =>
    [g.prio1.toNat, g.clockClass.toNat, g.accuracy.toNat, g.variance.toNat, g.prio2.toNat, g.ident.toNat, g.steps.toNat]
  let la := if a.ident = b.ident then [a.steps.toNat] else k a
  let lb := if a.ident = b.ident then [b.steps.toNat] else k b
  match (la.zip lb).find? (fun x => x.1 != x.2) with
  | some x => decide (x.1 < x.2)
  | none => false

/-- A change of selection (R334, event 0x01). -/
def timSelect (p : Fin 2) (s : State) : State :=
  let old := match s.tim.sel with | some q => q.val | none => 0xFF
  let gm := match (s.port p.val).gm with | some g => identLo g.ident | none => 0
  let s := { s with tim := { s.tim with sel := some p } }
  let s := setPort 0 { s.port 0 with better := 0 } s
  let s := setPort 1 { s.port 1 with better := 0 } s
  raise blkTIM 0x01 p.val old gm (raiseFlag s F.TIM_STATUS_SEL_CHANGED)

/-- R334: judge the selection again. A slew that DOZE suspends outlives the links that DOZE and the wake take down (R339): with no valid
instance it goes on until an offset or a timeout after the wake (DESIGN CHOICE, log entry 72). -/
def selUpdate (s : State) : State :=
  let v0 := portValid s 0
  let v1 := portValid s 1
  match s.tim.sel, v0, v1 with
  | _, false, false => if s.tim.st == .unset || anyMaster s || (s.tim.dozed && s.tim.st == .slew) then s else holdEnter 2 s
  | some 0, true, _ => s
  | some 1, _, true => s
  | _, true, _ => timSelect 0 s
  | _, _, true => timSelect 1 s

/-- R334: an Announce of instance `p` has come; one that comes while not both are valid breaks the run of better ones. -/
def selAnnounce (p : Nat) (s : State) : State :=
  let other := 1 - p
  match s.tim.sel, (s.port p).gm, (s.port other).gm with
  | some q, some a, some b =>
    if q.val = p then s
    else
      let n := if portValid s 0 && portValid s 1 && gmBetter a b then (s.port p).better + 1 else 0
      let s := setPort p { s.port p with better := n } s
      if 3 ≤ n then timSelect (if p = 0 then 0 else 1) s else s
  | _, _, _ => s

/-- R335: compare an offset of the selected instance `p` with the latest offset of the other. -/
def crossCheck (p : Nat) (th : Int) (s : State) : State :=
  let o := s.port (1 - p)
  let fresh := match o.ofsAt with
    | some t => decide (clk s ≤ t + 2 * syncIntv s (1 - p))
    | none => false
  if !(portValid s 0 && portValid s 1 && fresh) then s
  else
    let lim := fget s F.TIM_XCHK_XCHK
    let above := decide (nsU.natAbs * lim < (th - o.ofs).natAbs)
    let s := { s with tim := { s.tim with
      xAbove := if above then s.tim.xAbove + 1 else 0, xWithin := if above then 0 else s.tim.xWithin + 1 } }
    if !s.tim.xdiff && decide (8 ≤ s.tim.xAbove) then
      let d := if p = 0 then th - o.ofs else o.ofs - th
      let act := flag s F.TIM_CFG_XCHK_ACT
      let s := raise blkTIM 0x06 0 (ofs32 d) lim { s with tim := { s.tim with xdiff := true, xhold := act } }
      if act then holdEnter 3 s else s
    else if s.tim.xdiff && decide (8 ≤ s.tim.xWithin) then { s with tim := { s.tim with xdiff := false, xhold := false } }
    else s

/-- Instance `p` has computed an offset (R332, R334, R335). -/
def instOffset (p : Nat) (th : Int) (s : State) : State :=
  let s := setPort p { s.port p with ofs := th, ofsAt := some (clk s) } s
  let s := selUpdate { s with tim := { s.tim with dozed := false } }
  if s.tim.sel.map (·.val) = some p ∧ portValid s p = true then
    let s := fset s F.TIM_OFFSET_VAL (ofs32 th)
    ofsHandle p th (crossCheck p th s)
  else s

/-! ### Commands -/

/-- The time base runs and its registers can be reached: PD_SYS is on and not in the retention of DOZE (R339, R442, R444). -/
def timLive (s : State) : Bool := domainOn s 1 && !s.pwr.sysRet

/-- SLEW_COMPLETE (R326): what the slew has given up has reached the amount. -/
def execSlewComplete (t : Nat) (s : State) : Res :=
  let s := advance t s
  .next (if s.tim.st == .slew && timLive s && decide (s.tim.slewLeft ≤ slewGiven s) then
      timTo .track (slewEnd (s.tim.slewDone + s.tim.slewLeft) 0 s)
    else s)

/-- A write of ACCEPT_STEP reaches TIM (R328); with no refusal pending it is ignored and counted (R64). -/
def timAccept (ifc : Ifc) (s : State) : State :=
  if flag s F.TIM_STATUS_JUMP_REFUSED then { s with tim := { s.tim with accept := true } } else hostDrop ifc R.TIM_CTL.addr s

/-- ACCEPT_STEP (R328). -/
def execAcceptStep (h : Via) (s : State) : Res := .next (hostGate h R.TIM_CTL.addr (some 1#32) (timAccept h.ifc) s)

/-- A write of SET reaches TIM (R337); one that the HOLD of XDIFF ignores is counted (R64, R335). -/
def timSet (ifc : Ifc) (s : State) : State :=
  if xHolds s then hostDrop ifc R.TIM_CTL.addr s else
  let v : Int := fget s F.TIM_SET_L_VAL + 2 ^ 32 * fget s F.TIM_SET_H_VAL
  ofsHandle 3 ((v - lns s) * nsU) s

/-- SET (R337). -/
def execTimSet (h : Via) (s : State) : Res := .next (hostGate h R.TIM_CTL.addr (some 2#32) (timSet h.ifc) s)

/-- PPS_IN_EDGE (R337, R338). -/
def execPpsInEdge (t : Nat) (s : State) : Res :=
  let s := advance t s
  .next (if flag s F.TIM_PPS_IN_EN && timLive s && hasBall s 0x0A 0 then
      let s := fset (fset s F.TIM_PPS_IN_T_T (stamp s)) F.TIM_PPS_IN_F_FRAC (fine s % 256)
      let f : Int := fine s
      let sec : Int := 256000000000
      let th := ((f + sec / 2) / sec * sec - f) * 256
      if fget s F.TIM_CFG_GM_SRC = 1 ∧ portValid s 0 = false ∧ portValid s 1 = false ∧ anyMaster s = true then ofsHandle 2 th s
      else s
    else s)

/-- PPS_OUT_RISE (R338): the LNS is a whole multiple of 10^9, within the 10 ns that the rise may lie off it. -/
def execPpsOutRise (t : Nat) (s : State) : Res :=
  let s := advance t s
  .next (if flag s F.TIM_PPS_OUT_EN && timLive s && hasBall s 0x0A 1 && decide ((lns s + 10) % 1000000000 ≤ 20) then
      holdFrom Timed.pps { s with pins := { s.pins with ppsOut := true } }
    else s)

/-- PPS_OUT_FALL (R338): PPS_OUT has been high for WIDTH ms. -/
def execPpsOutFall (t : Nat) (s : State) : Res :=
  let s := advance t s
  .next (if s.pins.ppsOut && quietFor Timed.pps (1000000 * fget s F.TIM_PPS_WIDTH) s then { s with pins := { s.pins with ppsOut := false } } else s)

/-- One cycle of the clock that LNS runs on, which is what the block does while no command waits (log entry 27): R321's TIM
cycle, in the retention of DOZE R339's X32 period, and nothing while OFF. -/
def timTick (s : State) : State :=
  if s.sys.st = .off then s
  else
    let d := if s.pwr.sysRet then fget s F.TIM_AON_INC_VAL * 1024 else s.tim.incr
    { s with tim := { s.tim with acc := s.tim.acc + d } }

/-- AON_INC_MEASURE (R339): the X32 period measured over 2^15 periods, in 2^-16 ns. -/
def execAonIncMeasure (t : Nat) (v : Word) (s : State) : Res :=
  let s := advance t s
  .next (if timLive s then wr s R.TIM_AON_INC.addr v else s)

/-! ### DOZE -/

/-- R339: the TIM clock stops (step 5 of R442); a slew in progress is suspended. -/
def timDoze (s : State) : State := if s.tim.st == .slew then slewSettle s else s

/-- R339: TIM takes over the LNS (step 2 of R444), and a suspended slew resumes with its remaining amount. -/
def timResume (s : State) : State := { s with tim := { s.tim with slewAt := s.tim.acc } }

/-- R340: after a wake the limit for the first offset of the selected instance is widened by the DOZE duration `d`, in ns. -/
def timWake (d : Nat) (s : State) : State :=
  { s with tim := { s.tim with widen := fget s F.TIM_SLEW_WAKE_PPM * d / 1000000 } }

end Sys2Proof.Machine
end

