-- ==== Sys2Proof/Machine/Partner.lean ====
section
/-! DEFINITION. Sys2Proof/Machine/Partner.lean: ports, received frames, tags, keys and the 128 partner contexts
(R342 to R349, R363 to R368). MAC addresses are numbers with byte 0 lowest. -/

namespace Sys2Proof.Machine

/-! ### Ports -/

/-- A port's MAC address. -/
def portMac (s : State) (p : Nat) : Nat := fget s F.NET_MAC_L_MAC p + 2 ^ 32 * fget s F.NET_MAC_H_MAC p

/-- Port `p` is in use, powered and linked, outside the wake mode of DOZE. -/
def portLive (s : State) (p : Nat) : Bool :=
  domainOn s 9 && !inWake s && flag s F.NET_CFG_EN p && flag s F.NET_STATUS_LINK p

/-- The broadcast address. -/
def macAll : Nat := 0xFFFFFFFFFFFF

/-- R343: VLAN tags that port `p` accepts. -/
def vlanOk (s : State) (p : Nat) (vid : Option Nat) : Bool :=
  match vid with
  | none => true
  | some v => flag s F.NET_CFG_VLAN_EN p && v == fget s F.NET_NETCFG_VID p

/-- A parsed Ethernet frame: EtherType, and for UDP in IPv4 the addresses and the destination port. -/
structure Rx where
  dst : Nat
  src : Nat
  vid : Option Nat
  et : Nat
  udp : Option (Nat × Nat × Nat)
  pay : List Byte
  deriving DecidableEq, Repr

/-- Read the UDP header of an IPv4 packet without options or fragmentation (R344). -/
def parseUdp (b : List Byte) : Option (Nat × Nat × Nat × List Byte) :=
  if beNat (slice b 0 1) = 0x45 ∧ beNat (slice b 6 2) % 0x4000 = 0 ∧ beNat (slice b 9 1) = 17 ∧ 28 ≤ b.length then
    some (beNat (slice b 12 4), beNat (slice b 16 4), beNat (slice b 22 2), (b.drop 28).take (beNat (slice b 24 2) - 8))
  else none

/-- Read the headers of a frame. -/
def parseEth (f : List Byte) : Rx :=
  let tagged := decide (beNat (slice f 12 2) = 0x8100)
  let o := if tagged then 16 else 12
  let et := beNat (slice f o 2)
  let b := f.drop (o + 2)
  let vid := if tagged then some (beNat (slice f 14 2) % 4096) else none
  let r : Rx := ⟨leNat (slice f 0 6), leNat (slice f 6 6), vid, et, none, b⟩
  if et = 0x0800 then
    match parseUdp b with
    | some (si, di, dp, pay) => { r with udp := some (si, di, dp), pay := pay }
    | none => r
  else r

/-- The longest frame without FCS (R343). -/
def frameMax (r : Rx) : Nat := if r.vid.isSome then 1518 else 1514

/-- R344: the frame carries folio headers: by Ethertype or by UDP port. -/
def isFolio (s : State) (p : Nat) (r : Rx) : Bool :=
  (r.et == fget s F.NET_ETYPE_ETYPE p) || (r.et == 0x0800 && match r.udp with
    | some (_, _, dp) => dp == fget s F.NET_ETYPE_UPORT p
    | none => false)

/-- R343, R344: the port takes in a frame with a folio header; the counters follow. `ok` is the FCS. -/
def rxFolio (p : Nat) (f : List Byte) (ok : Bool) (s : State) : Option Rx × State :=
  let r := parseEth f
  if !portLive s p then (none, s)
  else if !ok || decide (frameMax r < f.length) then (none, bump s F.NET_RX_ERR_COUNT 1 p)
  else if r.et = 0x8808 then (none, s)
  else if vlanOk s p r.vid && (r.dst == portMac s p || r.dst == macAll) && isFolio s p r then
    (some r, bump s F.NET_RX_OK_COUNT 1 p)
  else (none, bump s F.NET_RX_DROP_COUNT 1 p)

/-! ### Folio headers and tags (R346, R349) -/

/-- A key's 16 bytes: key word j holds bytes 4j to 4j + 3. -/
def keyBytes (k : BitVec 128) : List Byte := leBytes 16 k.toNat

/-- The tag of R349 for a header without TX_STAMP (bytes 0x00 to 0x0B and CAPTURE), sent from MAC `mac`. -/
def folioTag (key : BitVec 128) (mac : Nat) (head payload : List Byte) (proof : Bool) : List Byte :=
  let iv := leBytes 6 mac ++ slice head 4 2 ++ slice head 8 4
  let body := if proof then payload.take 0x14 ++ payload.drop 0x20 else payload
  gmac (keyBytes key) iv (head ++ body)

/-- The fields of a received folio header. -/
structure Folio where
  ver : Nat
  kind : Nat
  auth : Bool
  keyId : Nat
  fid : Nat
  len : Nat
  seq : Nat
  head : List Byte
  payload : List Byte
  tag : List Byte
  deriving DecidableEq, Repr

/-- Read a folio header and what follows it. -/
def parseFolio (b : List Byte) : Folio :=
  let fl := leAt b 2 1
  let len := leAt b 6 2
  { ver := leAt b 0 1, kind := leAt b 1 1, auth := fl.testBit 0, keyId := fl / 2 % 2, fid := leAt b 4 2, len := len
    seq := leAt b 8 4, head := slice b 0 12 ++ slice b 0x14 4, payload := (b.drop 24).take len
    tag := (b.drop (24 + len)).take 16 }

/-- The whole frame that LEN and AUTH announce is there. -/
def Folio.whole (x : Folio) (b : List Byte) : Bool :=
  decide (x.len ≤ 1432) && decide (24 + x.len + (if x.auth then 16 else 0) ≤ b.length)

/-- The tag verifies with a key slot, if that is loaded (R368). -/
def tagOk (x : Folio) (mac : Nat) (key : Option (BitVec 128)) : Bool :=
  match key with
  | some k => x.auth && x.tag == folioTag k mac x.head x.payload (x.kind == 2)
  | none => false

/-! ### Contexts (R363) -/

/-- Context `i`. -/
def State.ctx (s : State) (i : Nat) : CtxS := SMap.get (fun _ => CtxS.init) s.net.ctx i

/-- Replace context `i`. -/
def setCtx (i : Nat) (x : CtxS) (s : State) : State :=
  { s with net := { s.net with ctx := SMap.put (fun _ => CtxS.init) s.net.ctx i x } }

/-- Template `k`. -/
def State.tmpl (s : State) (k : Nat) : TmplS := SMap.get (fun _ => TmplS.init) s.net.tmpl k

/-- Replace template `k`. -/
def setTmpl (k : Nat) (x : TmplS) (s : State) : State :=
  { s with net := { s.net with tmpl := SMap.put (fun _ => TmplS.init) s.net.tmpl k x } }

/-- The type of context `i`, 0 when free. -/
def ctxType (s : State) (i : Nat) : Nat := fget s F.PTN_STATE_TYPE i

/-- The MAC address of context `i`. -/
def ctxMac (s : State) (i : Nat) : Nat := fget s F.PTN_MAC_L_ADDR i + 2 ^ 32 * fget s F.PTN_MAC_H_ADDR i

/-- Key slot `k` of context `i`. -/
def ctxKey (s : State) (i k : Nat) : Option (BitVec 128) := if k = 0 then (s.ctx i).key0 else (s.ctx i).key1

/-- A source matches context `i` (R363). -/
def ctxAddr (s : State) (i mac : Nat) (ip : Option Nat) : Bool :=
  ctxMac s i == mac && (match ip with | some a => fget s F.PTN_IP_ADDR i == a | none => true)

/-- A frame on port `p` belongs to context `i`. -/
def ctxMatch (s : State) (p mac : Nat) (ip : Option Nat) (i : Nat) : Bool :=
  ctxType s i != 0 && ctxType s i != 4 && !(s.ctx i).dead && fbit s F.PTN_STATE_PORTS p i && ctxAddr s i mac ip

/-- The context of type `ty` that a frame of that kind of traffic belongs to (R363, log entry 71). -/
def ctxOf (s : State) (ty p mac : Nat) (ip : Option Nat) : Option Nat :=
  (List.range 128).find? (fun i => ctxType s i == ty && ctxMatch s p mac ip i)

/-- STATUS.USED and STATUS.PINNED. -/
def ptnCount (s : State) : State :=
  let used := (List.range 128).filter (fun i => ctxType s i != 0)
  let s := fset s F.PTN_STATUS_USED used.length
  fset s F.PTN_STATUS_PINNED ((List.range 128).filter (fun i => ctxType s i != 0 && flag s F.PTN_STATE_PINNED i)).length

/-- A valid frame of context `i` (R366). -/
def ctxValid (i : Nat) (s : State) : State :=
  let s := bump s F.PTN_CNT_FRAMES 1 i
  setCtx i { s.ctx i with last := lns s } (fset s F.PTN_STATE_SILENT 0 i)

/-- The slots that are loaded, as LOADED shows them. -/
def loadedBits (k0 k1 : Option (BitVec 128)) : Nat := k0.isSome.toNat + 2 * k1.isSome.toNat

/-- Context `i` takes the settings of template `k` with the addresses given (R364, R365). -/
def ctxFill (i k mac ip : Nat) (x : TmplS) (s : State) : State :=
  let s := fset (fset (fset s F.PTN_STATE_TYPE x.ty i) F.PTN_STATE_PINNED x.pinned.toNat i) F.PTN_STATE_SILENT 0 i
  let s := fset (fset (fset s F.PTN_STATE_PORTS x.ports i) F.PTN_STATE_AUTH x.auth.toNat i) F.PTN_STATE_TEMPLATE k i
  let s := fset (fset s F.PTN_STATE_ACTIVE x.active i) F.PTN_STATE_LOADED (loadedBits x.key0 x.key1) i
  let s := fset (fset s F.PTN_MAC_L_ADDR mac i) F.PTN_MAC_H_ADDR (mac / 2 ^ 32) i
  let s := fset s F.PTN_IP_ADDR ip i
  ptnCount (setCtx i ⟨x.silence, x.key0, x.key1, lns s, false⟩ s)

/-- Context `i` becomes free. -/
def ctxFree (i : Nat) (s : State) : State :=
  let s := wr s (R.PTN_STATE.at i) 0#32
  let s := wr (wr (wr s (R.PTN_MAC_L.at i) 0#32) (R.PTN_MAC_H.at i) 0#32) (R.PTN_IP.at i) 0#32
  ptnCount (setCtx i CtxS.init s)

/-- R462: an error in the partner contexts; one that cannot be corrected leaves the context unused. -/
def ctxErr (e : LocErr) (s : State) : State :=
  let s := localErr blkPTN e s
  if e.multi && decide (e.word < 128) then setCtx e.word { s.ctx e.word with dead := true } s else s

/-! ### Open admission (R365, R367) -/

/-- MAC bytes 2 to 5, as data word 1 of the events carries them. -/
def macTail (mac : Nat) : Nat := mac / 65536 % 2 ^ 32

/-- Whether `a` and `b` agree in every bit that `m` sets. -/
def maskEq (a b m : Nat) : Bool := (a &&& m) == (b &&& m)

/-- The first template that admits a frame of type `ty`; `tag` judges the frame's tag with given key slots. -/
def tmplOf (s : State) (ty p mac : Nat) (ip : Option Nat) (tag : (Nat → Option (BitVec 128)) → Bool) : Option Nat :=
  (List.range 32).find? (fun k =>
    let x := s.tmpl k
    x.ty == ty && !x.pinned && x.ports.testBit p && maskEq mac x.mac x.macMask &&
      (match ip with | some a => maskEq a x.ip x.ipMask | none => true) &&
      (!x.auth || tag (fun j => if j = 0 then x.key0 else x.key1)))

/-- R367: no context is free for a frame that template `k` would admit. -/
def refuseFrame (k mac : Nat) (s : State) : State :=
  let s := raiseFlag (bump s F.PTN_REFUSED_COUNT) F.PTN_STATUS_REFUSED_SEEN
  let due := match s.net.refusedAt with
    | none => true
    | some t => decide (t + 1000000000 ≤ lns s)
  if due then
    raise blkPTN 0x03 k (fget s F.PTN_REFUSED_COUNT) (macTail mac) { s with net := { s.net with refusedAt := some (lns s) } }
  else s

/-- R365: admit a frame that belongs to no context. -/
def admitCtx (ty p mac : Nat) (ip : Option Nat) (tag : (Nat → Option (BitVec 128)) → Bool) (s : State) : Option Nat × State :=
  if !flag s F.PTN_OPEN_ADMIT_EN then (none, s)
  else
    match tmplOf s ty p mac ip tag with
    | none => (none, s)
    | some k =>
      match (List.range 128).find? (fun i => ctxType s i == 0 && !(s.ctx i).dead) with
      | none => (none, refuseFrame k mac s)
      | some i => (some i, raise blkPTN 0x01 i k (macTail mac) (ctxFill i k mac (ip.getD 0) (s.tmpl k) s))

/-! ### Commands -/

/-- CONTEXT_SILENCE (R366): context `i` has received no valid frame for SILENCE ms. -/
def execContextSilence (t : Nat) (i : Fin 128) (s : State) : Res :=
  let s := advance t s
  let i := i.val
  .next (if ctxType s i = 0 ∨ s.sys.st = .doze then s
    else if flag s F.PTN_STATE_PINNED i then
      if flag s F.PTN_STATE_SILENT i then s
      else raise blkPTN 0x04 i (ctxType s i) 0 (raiseFlag s F.PTN_STATE_SILENT i)
    else raise blkPTN 0x02 i (ctxType s i) (s.ctx i).silence (ctxFree i s))

/-- The key words as one 128-bit key. -/
def keyWords (s : State) : BitVec 128 :=
  BitVec.ofNat 128 (fget s F.PTN_KEY_WORD 0 + 2 ^ 32 * fget s F.PTN_KEY_WORD 1 + 2 ^ 64 * fget s F.PTN_KEY_WORD 2 +
    2 ^ 96 * fget s F.PTN_KEY_WORD 3)

/-- A write of KCTL.LOAD reaches PTN (R368). -/
def keyLoad (s : State) : State :=
  let t := fget s F.PTN_KSEL_TARGET
  let k := some (keyWords s)
  let one := !flag s F.PTN_KSEL_SLOT
  if t < 128 then
    let x := s.ctx t
    let x := if one then { x with key0 := k } else { x with key1 := k }
    setCtx t x (fset s F.PTN_STATE_LOADED (loadedBits x.key0 x.key1) t)
  else if 160 ≤ t then s
  else
    let x := s.tmpl (t - 128)
    setTmpl (t - 128) (if one then { x with key0 := k } else { x with key1 := k }) s

/-- A write of KCTL.ACTIVATE reaches PTN (R368). -/
def keyActivate (s : State) : State :=
  let t := fget s F.PTN_KSEL_TARGET
  let k := fget s F.PTN_KSEL_SLOT
  if t < 128 then fset s F.PTN_STATE_ACTIVE k t
  else if 160 ≤ t then s
  else setTmpl (t - 128) { s.tmpl (t - 128) with active := k } s

/-- KEY_LOAD (R368). -/
def execKeyLoad (h : Via) (s : State) : Res := .next (hostGate h R.PTN_KCTL.addr (some 1#32) keyLoad s)

/-- KEY_ACTIVATE (R368). -/
def execKeyActivate (h : Via) (s : State) : Res := .next (hostGate h R.PTN_KCTL.addr (some 2#32) keyActivate s)

end Sys2Proof.Machine
end

