-- ==== Sys2Proof/Machine/Ptp.lean ====
section
/-! DEFINITION. Sys2Proof/Machine/Ptp.lean: the messages of the two PTP instances (R331, R332, R334, R336).
What IEEE 1588 and 802.1AS add to the spec's words is in log entry 18. -/

namespace Sys2Proof.Machine

/-- PTP instance `p` runs. -/
def ptpOn (s : State) (p : Nat) : Bool := portLive s p && flag s F.TIM_P_CFG_EN p

/-- PROFILE: 0 E2E, 1 P2P, 2 802.1AS. -/
def profile (s : State) (p : Nat) : Nat := fget s F.TIM_P_CFG_PROFILE p

/-- The clock identity of port `p`: the EUI-64 of its MAC address. -/
def clockId (s : State) (p : Nat) : BitVec 64 :=
  let b := leBytes 6 (portMac s p)
  BitVec.ofNat 64 (beNat (b.take 3 ++ [0xFF#8, 0xFE#8] ++ b.drop 3))

/-- Its port identity, with port number 1. -/
def portId (s : State) (p : Nat) : BitVec 80 := BitVec.ofNat 80 ((clockId s p).toNat * 65536 + 1)

/-- domainNumber (R331). -/
def ptpDomain (s : State) (p : Nat) : Nat := if profile s p = 2 then 0 else fget s F.TIM_P_CFG_DOMAIN p

/-- The multicast addresses of R331, with those that carry the IPv4 groups. -/
def ptpMacs : List Nat := [0x191B01, 0x0E0000C28001, 0x8101005E0001, 0x6B00005E0001]

/-- The instance uses UDP. -/
def ptpUdp (s : State) (p : Nat) : Bool := flag s F.TIM_P_CFG_UDP p && profile s p != 2

/-- The port takes in a PTP frame (R343, R344); the counters follow. -/
def rxPtp (p : Nat) (l : Link) (s : State) : Bool × State :=
  if !portLive s p then (false, s)
  else
    let dst := l.dst.toNat
    if vlanOk s p (l.vid.map BitVec.toNat) && (dst == portMac s p || dst == macAll || ptpMacs.contains dst) then
      (true, bump s F.NET_RX_OK_COUNT 1 p)
    else (false, bump s F.NET_RX_DROP_COUNT 1 p)

/-- The instance is enabled, and its domain and transport are the message's. -/
def ptpOurs (s : State) (p : Nat) (m : PtpMsg) : Bool :=
  flag s F.TIM_P_CFG_EN p && m.domain.toNat == ptpDomain s p && m.link.ip.isSome == ptpUdp s p

/-- A message of a foreign master or Pdelay partner: its context is found or admitted (R363, R365). -/
def ptpPeer (p : Nat) (l : Link) (s : State) : Bool × State :=
  let ip := l.ip.map (fun a => a.1.toNat)
  match ctxOf s 1 p l.src.toNat ip with
  | some i => (true, ctxValid i s)
  | none =>
    let r := admitCtx 1 p l.src.toNat ip (fun _ => false) s
    match r.1 with
    | some i => (true, ctxValid i r.2)
    | none => (false, r.2)

/-- Receive a message from a peer, and act on it when it is for this instance. -/
def ptpRecv (t p : Nat) (m : PtpMsg) (f : State → State) (s : State) : State :=
  let r := rxPtp p m.link (advance t s)
  if r.1 && ptpOurs r.2 p m then
    let q := ptpPeer p m.link r.2
    if q.1 then f q.2 else q.2
  else r.2

/-- The instant of a message at the MDI, in 2^-16 ns (R332): on receipt and on departure. -/
def mdiIn (s : State) (p t : Nat) : Int := 256 * ((t : Int) - fgetInt s F.TIM_P_INGRESS_VAL p)
def mdiOut (s : State) (p t : Nat) : Int := 256 * ((t : Int) + fgetInt s F.TIM_P_EGRESS_VAL p)

/-- 802.1AS acts on Sync and Announce only on an asCapable port. -/
def asOk (s : State) (p : Nat) : Bool := profile s p != 2 || (s.port p).asCapable

/-- The neighbour rate ratio scales a time under 802.1AS (R332). -/
def ratio (s : State) (p : Nat) (x : Int) : Int :=
  if profile s p = 2 then x * (s.port p).rate.1 / (if (s.port p).rate.2 = 0 then 1 else (s.port p).rate.2) else x

/-- A Sync with its t1, c_S and t2 is complete (R332). -/
def syncDone (p : Nat) (t1 c t2 : Int) (s : State) : State :=
  let e := t1 + ratio s p c
  let s := setPort p { s.port p with last := some (e, t2), sync := none } s
  match (s.port p).mpd with
  | some d => instOffset p (e + d + 256 * fgetInt s F.TIM_P_ASYM_VAL p - t2) s
  | none => s

/-- The instance is SLAVE and the message comes from its parent. -/
def fromParent (s : State) (p : Nat) (m : PtpMsg) : Bool := (s.port p).pstate == 9 && (s.port p).parent == m.src && asOk s p

/-- PTP_SYNC_RECEIVE (R332). -/
def execPtpSyncReceive (t : Nat) (p : Fin 2) (m : PtpMsg) (s : State) : Res :=
  .next (ptpRecv t p m (fun s =>
    let t2 := mdiIn s p t
    if !fromParent s p m then s
    else if m.twoStep then setPort p { s.port p with sync := some (m.seq.toNat, t2, m.corr.toInt) } s
    else syncDone p (nsU * m.ts.toNat) m.corr.toInt t2 s) s)

/-- PTP_FOLLOW_UP_RECEIVE (R331, R332). -/
def execPtpFollowUpReceive (t : Nat) (p : Fin 2) (m : PtpMsg) (s : State) : Res :=
  .next (ptpRecv t p m (fun s =>
    match (s.port p).sync with
    | some (q, t2, c) =>
      if fromParent s p m && q == m.seq.toNat then syncDone p (nsU * m.ts.toNat) (c + m.corr.toInt) t2 s else s
    | none => s) s)

/-- PTP_DELAY_RESP_RECEIVE (R332): the E2E mean path delay. -/
def execPtpDelayRespReceive (t : Nat) (p : Fin 2) (m : PtpMsg) (s : State) : Res :=
  .next (ptpRecv t p m (fun s =>
    let x := s.port p
    match x.req, x.last with
    | some (q, t3), some (e, t2) =>
      if fromParent s p m && profile s p == 0 && q == m.seq.toNat && m.req == portId s p then
        let d := ((t2 - e) + (nsU * m.ts.toNat - t3 - m.corr.toInt)) / 2
        setPort p { x with req := none, mpd := some d } s
      else s
    | _, _ => s) s)

/-- The peer delay (R332, IEEE 1588) from the request's departure t1, the response's receipt t4 and the
turnaround; a measured peer delay makes an 802.1AS port asCapable. -/
def peerDelay (p : Nat) (t1 t4 turn : Int) (s : State) : State :=
  let d := (ratio s p (t4 - t1) - turn) / 2
  setPort p { s.port p with req := none, presp := none, mpd := some d, asCapable := profile s p == 2 } s

/-- The answer to the port's own Pdelay_Req. -/
def ownPdelay (s : State) (p : Nat) (m : PtpMsg) : Bool := profile s p != 0 && m.req == portId s p

/-- PTP_PDELAY_RESP_RECEIVE (R332). -/
def execPtpPdelayRespReceive (t : Nat) (p : Fin 2) (m : PtpMsg) (s : State) : Res :=
  .next (ptpRecv t p m (fun s =>
    match (s.port p).req with
    | some (q, t1) =>
      let t4 := mdiIn s p t
      if !(ownPdelay s p m && q == m.seq.toNat) then s
      else if m.twoStep then setPort p { s.port p with presp := some (q, nsU * m.ts.toNat, t4, m.corr.toInt) } s
      else peerDelay p t1 t4 m.corr.toInt s
    | none => s) s)

/-- PTP_PDELAY_RESP_FOLLOW_UP_RECEIVE (R332). -/
def execPtpPdelayRespFollowUpReceive (t : Nat) (p : Fin 2) (m : PtpMsg) (s : State) : Res :=
  .next (ptpRecv t p m (fun s =>
    match (s.port p).req, (s.port p).presp with
    | some (q, t1), some (r, t2, t4, c) =>
      if ownPdelay s p m && q == m.seq.toNat && r == q then
        let t3 : Int := nsU * m.ts.toNat
        let x := s.port p
        let rate := match x.resp with
          | some (a, b) => if t4 - b = 0 then x.rate else (t3 - a, t4 - b)
          | none => x.rate
        let s := setPort p { x with resp := some (t3, t4), rate := rate } s
        peerDelay p t1 t4 (t3 - t2 + c + m.corr.toInt) s
      else s
    | _, _ => s) s)

/-! ### Best-master choice (R334, R336) -/

/-- The port's own data set (GMDS). -/
def ownGm (s : State) (p : Nat) : GmData :=
  { prio1 := BitVec.ofNat 8 (fget s F.TIM_P_GMDS_PRIO1 p), clockClass := BitVec.ofNat 8 (fget s F.TIM_P_GMDS_CLASS p)
    accuracy := BitVec.ofNat 8 (fget s F.TIM_P_GMDS_ACCURACY p), variance := 0xFFFF#16
    prio2 := BitVec.ofNat 8 (fget s F.TIM_P_GMDS_PRIO2 p), ident := clockId s p, steps := 0#16 }

/-- The port state that the comparison gives against the best Announce known. -/
def bestState (s : State) (p : Nat) (g : GmData) : Nat :=
  let d := ownGm s p
  if !flag s F.TIM_P_CFG_ROLE p then 9
  else if gmBetter d g then 6
  else if 1 ≤ d.clockClass.toNat ∧ d.clockClass.toNat ≤ 127 then 7
  else 9

/-- Forget exchanges under way. -/
def PortS.fresh (x : PortS) : PortS := { x with sync := none, last := none, req := none, presp := none }

/-- An Announce message is judged (R334, R336). -/
def announceIn (p : Fin 2) (m : AnnMsg) (s : State) : State :=
  let x := s.port p
  let own := clockId s p
  let bad := m.msg.src.toNat / 65536 == own.toNat || decide (255 ≤ m.gm.steps.toNat) || m.path.contains own || !asOk s p
  let takes := match x.gm with
    | none => true
    | some g => x.parent == m.msg.src || gmBetter m.gm g
  if bad || !takes then s
  else
    let y := if x.parent == m.msg.src then x else x.fresh
    let s := setPort p { y with gm := some m.gm, parent := m.msg.src, annAlive := true, pstate := bestState s p m.gm } s
    let s :=
      if s.tim.sel = some p ∧ (s.port p).pstate = 9 then
        fset (fset (fset s F.TIM_UTC_UTC_OFS m.utc.toNat) F.TIM_UTC_UTC_VALID m.utcValid.toNat) F.TIM_UTC_LEAP m.leap.toNat
      else s
    selUpdate (selAnnounce p s)

/-- PTP_ANNOUNCE_RECEIVE (R334, R336). -/
def execPtpAnnounceReceive (t : Nat) (p : Fin 2) (m : AnnMsg) (s : State) : Res :=
  .next (ptpRecv t p m.msg (announceIn p m) s)

/-- ANNOUNCE_RECEIPT_TIMEOUT (R334, R336). -/
def execAnnounceReceiptTimeout (t : Nat) (p : Fin 2) (s : State) : Res :=
  let s := advance t s
  let x := s.port p
  .next (if ptpOn s p && (x.pstate == 4 || x.pstate == 7 || x.pstate == 9) then
      let s := { s with tim := { s.tim with dozed := false } }
      selUpdate (setPort p { x.fresh with gm := none, annAlive := false, better := 0, pstate := if flag s F.TIM_P_CFG_ROLE p then 6 else 4 } s)
    else s)

/-- OFFSET_TIMEOUT (R334): three Sync intervals have passed since the last offset. -/
def execOffsetTimeout (t : Nat) (p : Fin 2) (s : State) : Res :=
  let s := advance t s
  .next (if ptpOn s p && (s.port p).pstate == 9 && !ofsFresh s p then
      let s := { s with tim := { s.tim with dozed := false } }
      selUpdate (setPort p { s.port p with ofsAt := none, better := 0 } (bump s F.TIM_P_CNT_SYNC_TO 1 p))
    else s)

/-- The port state after EN, the link or the power of a port has changed. -/
def portRefresh (p : Nat) (s : State) : State :=
  let x := s.port p
  let live := portLive s p
  let en := flag s F.TIM_P_CFG_EN p
  if live && en then (if x.pstate = 0 ∨ x.pstate = 2 ∨ x.pstate = 3 then setPort p { x with pstate := 4 } s else s)
  else
    selUpdate (setPort p { x.fresh with
      pstate := if en then 2 else 3, gm := none, annAlive := false, better := 0, ofsAt := none, asCapable := false, mpd := none
      resp := none, rate := (1, 1) } s)

/-! ### Sending -/

/-- Addresses of a message that port `p` sends; Pdelay messages and all of 802.1AS go to the peer address. -/
def outLink (s : State) (p : Nat) (peer : Bool) : Link :=
  let peer := peer || profile s p == 2
  let udp := ptpUdp s p
  { dst := BitVec.ofNat 48 (ptpMacs.getD ((if udp then 2 else 0) + (if peer then 1 else 0)) 0)
    src := BitVec.ofNat 48 (portMac s p)
    vid := if flag s F.NET_CFG_VLAN_EN p then some (BitVec.ofNat 12 (fget s F.NET_NETCFG_VID p)) else none
    pcp := if flag s F.NET_CFG_VLAN_EN p then BitVec.ofNat 3 (fget s F.NET_NETCFG_PCP p) else 0#3
    ip := if udp then some (BitVec.ofNat 32 (fget s F.NET_IP_IP p), if peer then 0xE000006B#32 else 0xE0000181#32) else none }

/-- A message with the port's own fields. -/
def ownMsg (s : State) (p : Nat) (peer : Bool) (seq : Nat) : PtpMsg :=
  { link := outLink s p peer, domain := BitVec.ofNat 8 (ptpDomain s p), seq := BitVec.ofNat 16 seq, src := portId s p
    twoStep := false, ts := 0#80, corr := 0#64, req := 0#80 }

/-- A timestamp and the part of it below 1 ns, in 2^-16 ns. -/
def tsOf (x : Int) : BitVec 80 := BitVec.ofInt 80 (x / nsU)
def subNs (x : Int) : Int := x % nsU

/-- A PTP message leaves port `p`. -/
def sendPtp (p kind : Nat) (m : PtpMsg) (s : State) : State :=
  bump { s with out := s.out ++ [Out.ptp p kind m] } F.NET_TX_OK_COUNT 1 p

/-- PTP_SYNC_SEND (R336). -/
def execPtpSyncSend (t : Nat) (p : Fin 2) (s : State) : Res :=
  let s := advance t s
  .next (if ptpOn s p && (s.port p).pstate == 6 then
      let x := s.port p
      let o := mdiOut s p t
      let s := setPort p { x with seqSync := (x.seqSync + 1) % 65536 } s
      sendPtp p 0 { ownMsg s p false x.seqSync with ts := tsOf o, corr := BitVec.ofInt 64 (subNs o) } s
    else s)

/-- PTP_ANNOUNCE_SEND (R336). -/
def execPtpAnnounceSend (t : Nat) (p : Fin 2) (s : State) : Res :=
  let s := advance t s
  .next (if ptpOn s p && (s.port p).pstate == 6 then
      let x := s.port p
      let s := setPort p { x with seqAnn := (x.seqAnn + 1) % 65536 } s
      let o := mdiOut s p t
      let m : AnnMsg :=
        { msg := { ownMsg s p false x.seqAnn with ts := tsOf o, corr := BitVec.ofInt 64 (subNs o) }, gm := ownGm s p, utc := BitVec.ofNat 16 (fget s F.TIM_UTC_UTC_OFS)
          utcValid := flag s F.TIM_UTC_UTC_VALID, leap := BitVec.ofNat 2 (fget s F.TIM_UTC_LEAP)
          path := if profile s p = 2 then [clockId s p] else [] }
      bump { s with out := s.out ++ [Out.ann p m] } F.NET_TX_OK_COUNT 1 p
    else s)

/-- The port's next request leaves. -/
def sendReq (t p kind : Nat) (s : State) : State :=
  let x := s.port p
  let s := setPort p { x with seqReq := (x.seqReq + 1) % 65536, req := some (x.seqReq, mdiOut s p t), presp := none } s
  sendPtp p kind (ownMsg s p (kind == 2) x.seqReq) s

/-- PTP_DELAY_REQ_SEND (R331, R332). -/
def execPtpDelayReqSend (t : Nat) (p : Fin 2) (s : State) : Res :=
  let s := advance t s
  .next (if ptpOn s p && profile s p == 0 && (s.port p).pstate == 9 then sendReq t p 1 s else s)

/-- PTP_PDELAY_REQ_SEND (R331, R332). -/
def execPtpPdelayReqSend (t : Nat) (p : Fin 2) (s : State) : Res :=
  let s := advance t s
  .next (if ptpOn s p && profile s p != 0 then sendReq t p 2 s else s)

/-- PTP_DELAY_REQ_RECEIVE (R336): a port in MASTER state answers. -/
def execPtpDelayReqReceive (t : Nat) (p : Fin 2) (m : PtpMsg) (s : State) : Res :=
  let r := rxPtp p m.link (advance t s)
  let s := r.2
  .next (if r.1 && ptpOurs s p m && profile s p == 0 && (s.port p).pstate == 6 then
      let x := mdiIn s p t
      sendPtp p 9 { ownMsg s p false m.seq.toNat with
        ts := tsOf x, corr := BitVec.ofInt 64 (m.corr.toInt - subNs x), req := m.src } s
    else s)

/-- PTP_PDELAY_REQ_RECEIVE (R331): the answer leaves at `dep` with the turnaround in correctionField. -/
def execPtpPdelayReqReceive (t : Nat) (p : Fin 2) (m : PtpMsg) (dep : Nat) (s : State) : Res :=
  .next (ptpRecv t p m (fun s =>
    if profile s p = 0 then s
    else
      let turn := mdiOut s p dep - mdiIn s p t
      sendPtp p 3 { ownMsg s p true m.seq.toNat with corr := BitVec.ofInt 64 (m.corr.toInt + turn), req := m.src } s) s)

/-- PTP_OTHER_MESSAGE (R331). -/
def execPtpOtherMessage (t : Nat) (p : Fin 2) (l : Link) (s : State) : Res :=
  let r := rxPtp p l (advance t s)
  .next (if r.1 && flag r.2 F.TIM_P_CFG_EN p then bump r.2 F.TIM_P_CNT_DISC 1 p else r.2)

end Sys2Proof.Machine
end

