-- ==== Sys2Proof/Machine/Imp.lean ====
section
/-! DEFINITION. Sys2Proof/Machine/Imp.lean: the imposition engine (R350 to R362): layouts, endpoints, its work in
order, and the acceptance of received values. -/

namespace Sys2Proof.Machine

/-- The byte-addressed host address of main-SRAM byte `b`. -/
def sramByte (b : Nat) : Nat := 0x1000000 + b % 2 ^ 24

/-- Word `w` of main SRAM as the engine sees it: a poisoned word is 0 (R459). -/
def impPeek (s : State) (w : Nat) : Nat := if poisoned s (sramAt w) then 0 else memNat s (sramAt w) 4

/-- Word `j` of the entry of layout `i` (R353). -/
def layWord (s : State) (i j : Nat) : Nat := impPeek s (fget s F.IMP_LAY_BASE_INDEX + 4 * i + j)

/-- A field of a layout entry. -/
def layBits (s : State) (i j lo w : Nat) : Nat := layWord s i j / 2 ^ lo % 2 ^ w

def layRx (s : State) (i : Nat) : Bool := layBits s i 0 1 1 == 1
def layClass (s : State) (i : Nat) : Nat := layBits s i 0 2 2
def layRoute (s : State) (i : Nat) : Nat := layBits s i 0 4 3
def layCtx (s : State) (i : Nat) : Nat := layBits s i 0 7 7
def layAuth (s : State) (i : Nat) : Bool := layBits s i 0 15 1 == 1
def layLen (s : State) (i : Nat) : Nat := layBits s i 0 16 11
def layFirst (s : State) (i : Nat) : Nat := layBits s i 1 0 18
def layCount (s : State) (i : Nat) : Nat := layBits s i 1 18 14
def layWd (s : State) (i : Nat) : Nat := layBits s i 2 10 8
def layBox (s : State) (i : Nat) : Nat := layBits s i 2 18 6
def layFid (s : State) (i : Nat) : Nat := layBits s i 3 0 16
def layMark (s : State) (i : Nat) : Bool := layBits s i 3 16 1 == 1

/-- Layout `i`. -/
def State.lay (s : State) (i : Nat) : LayS := SMap.get (fun _ => LayS.init) s.net.lay i

/-- Replace layout `i`. -/
def setLay (i : Nat) (x : LayS) (s : State) : State :=
  { s with net := { s.net with lay := SMap.put (fun _ => LayS.init) s.net.lay i x } }

/-- Where R4 keeps what hardware sets in LSTAT (`r` 0) or LCNT (`r` 1) of layout `i`: IMP.LSEL shows one layout at a time, so each has
a key above the register addresses. -/
def layKey (r i : Nat) : Nat := 2 ^ 32 + 2 ^ 12 * r + i

/-- The word of LCNT. -/
def layCnt (x : LayS) : Word := BitVec.ofNat 32 (x.dup + 2 ^ 16 * x.disc)

/-- Layout `i` with its counts moved on: the bits that rise are set by hardware (R4). -/
def layBump (i : Nat) (x : LayS) (s : State) : State :=
  hwMark (layKey 1 i) (layCnt x &&& ~~~(layCnt (s.lay i))) (setLay i x s)

/-- ROUTE includes port `p`: 0 ETHA, 1 ETHB. -/
def routeHas (r p : Nat) : Bool := r == p || r == 2

/-! ### Endpoints (R351, R352) -/

/-- Word `j` of the descriptor of endpoint `e`. -/
def epWord (e j : Nat) (s : State) : Nat × State := readSram 3 (fget s F.IMP_DESC_BASE_INDEX + 2 * e + j) s

/-- The value word of endpoint `e`: its main-SRAM word index. -/
def epVal (s : State) (e : Nat) : Nat := fget s F.IMP_VAL_BASE_INDEX + e

/-- Width and first payload bit of a descriptor. -/
def epWidth (d : Nat) : Nat := d % 32 + 1
def epOfs (d : Nat) : Nat := d / 2 ^ 17 % 2 ^ 14

/-- Extend the low `w` bits of a value to 32 bits (R351). -/
def epExtend (d v : Nat) : Nat :=
  let w := epWidth d
  if d.testBit 5 then unsgn 32 (sgn w (v % 2 ^ w)) else v % 2 ^ w

/-- Write endpoint `e` of a received payload, read as one number (R351, R359). -/
def epApply (pay e : Nat) (s : State) : State :=
  let d := epWord e 0 s
  if d.1 / 64 % 4 = 1 then wdtEndpoint e (writeSram (epVal s e) (epExtend d.1 (pay / 2 ^ epOfs d.1)) d.2) else d.2

/-- The value that output endpoint `e` sends, in its place in the payload (R357, R459), whether it differs from
LAST (R351), and the state. -/
def epPack (e : Nat) (s : State) : Nat × Bool × State :=
  let d := epWord e 0 s
  if d.1 / 64 % 4 = 2 then
    let l := epWord e 1 d.2
    let v := readSram 3 (epVal s e) l.2
    let x := v.1 % 2 ^ epWidth d.1
    (x * 2 ^ epOfs d.1, x != l.1 % 2 ^ epWidth d.1, v.2)
  else (0, false, d.2)

/-- Pack the values of `n` endpoints from `e` in ascending order. -/
def packFrom (e : Nat) : Nat → Nat → Bool → State → Nat × Bool × State
  | 0, acc, ch, s => (acc, ch, s)
  | n + 1, acc, ch, s =>
    let r := epPack e s
    packFrom (e + 1) n (acc ||| r.1) (ch || r.2.1) r.2.2

/-- Write LAST of output endpoint `e` (R357). -/
def epLast (e : Nat) (s : State) : State :=
  let d := epWord e 0 s
  if d.1 / 64 % 4 = 2 then
    let v := readSram 3 (epVal s e) d.2
    writeSram (fget s F.IMP_DESC_BASE_INDEX + 2 * e + 1) (v.1 % 2 ^ epWidth d.1) v.2
  else d.2

/-! ### Work (R356) -/

/-- The rank of a class: 1 ms and on-change come first. -/
def classRank (c : Nat) : Nat := if c = 1 then 1 else if c = 2 then 2 else 0

/-- Whether work `a` is taken before work `b`. -/
def Work.before (a b : Work) : Bool :=
  decide (a.due < b.due) || (a.due == b.due && (decide (a.cls < b.cls) || (a.cls == b.cls && decide (a.lay < b.lay))))

/-- Insert into work that has not begun. -/
def workInsert (w : Work) : List Work → List Work
  | [] => [w]
  | x :: r => if w.before x then w :: x :: r else x :: workInsert w r

/-- Work falls due; the first of the list is under way. -/
def workAdd (w : Work) (s : State) : State :=
  match s.net.work with
  | [] => { s with net := { s.net with work := [w], began := fine s } }
  | x :: r => { s with net := { s.net with work := x :: workInsert w r } }

/-- The operations that work of a layout costs (R355). -/
def workCost (s : State) (w : Work) : Nat :=
  let n := layCount s w.lay
  if layClass s w.lay = 3 ∧ w.rx = none then 2 * n + 8 else n + 8 + (layMark s w.lay).toNat

/-- The work under way ends: the engine takes the next, and LOAD.MAX follows (0.1 % of 40 M/s over 100 ms). -/
def workDone (w : Work) (s : State) : State :=
  let now := lns s
  let ops := ((now, workCost s w) :: s.net.ops).filter (fun x => decide (now < x.1 + 100000000))
  let load := (ops.map (·.2)).sum * 1000 / 4000000
  let s := { s with net := { s.net with work := s.net.work.drop 1, began := fine s, ops := ops } }
  fset s F.IMP_LOAD_MAX (max (fget s F.IMP_LOAD_MAX) (min load 0xFFFF))

/-- A layout skips a due instant (R356, R383). -/
def layOverrun (i due : Nat) (s : State) : State :=
  let s := hwMark (layKey 0 i) F.IMP_LSTAT_OVERRUN.mask (setLay i { s.lay i with overrun := true } s)
  let s := raiseFlag s F.IMP_STATUS_OVERRUN
  raise blkIMP 0x05 i (due / 256) 0 s

/-! ### Reception (R358 to R361) -/

/-- The accepted copy clears the loss of its port's path (R360). -/
def pathClear (i : Nat) (p : Option Nat) (s : State) : State :=
  match p with
  | some 0 => setLay i { s.lay i with pathA := false } s
  | some 1 => setLay i { s.lay i with pathB := false } s
  | _ => s

/-- Layout `i` accepts a frame (R358, R359, R361): from port `p` with its SEQ, or from CAN with none. -/
def layAccept (i : Nat) (p seq : Option Nat) (pay : List Byte) (s : State) : State :=
  let x := s.lay i
  let was := x.lost
  let q := seq.getD 0
  let bit := match p with | some n => 2 ^ n | none => 0
  let s := setLay i { x with lost := false, last := seq, ports := bit, seq := q, t := stamp s } s
  let s := pathClear i p s
  let s := if was then raise blkIMP 0x02 i (layCtx s i) q s else s
  workAdd ⟨i, classRank (layClass s i), fine s, some (q, pay)⟩ s

/-- The enabled receive layout that filter `f` of CAN controller `k` feeds (R353, R380). -/
def layOfFilter (s : State) (k f : Nat) : Option Nat :=
  (List.range 512).find? (fun i => (s.lay i).en && layRx s i && layRoute s i == 3 + k && layBox s i == f)

/-- A frame of a layout is refused (R358). -/
def layDiscard (i : Nat) (s : State) : State := layBump i { s.lay i with disc := satNat 16 ((s.lay i).disc + 1) } s

/-- Set to 0 the inputs of layout `i` (R361). -/
def layZero (i : Nat) (s : State) : State :=
  forN (layCount s i) (fun e s =>
    let d := epWord (layFirst s i + e) 0 s
    if d.1 / 64 % 4 = 1 then wdtEndpoint (layFirst s i + e) (writeSram (epVal s (layFirst s i + e)) 0 d.2) else d.2) s

/-- R462: an uncorrectable word of the layout cache leaves the layout unused. -/
def layErr (e : LocErr) (s : State) : State :=
  let s := localErr blkIMP e s
  if e.multi then setLay (e.word / 4 % 512) { s.lay (e.word / 4 % 512) with en := false } s else s

/-- LAYOUT_DUE (R356), with what the read of the cached layout finds. -/
def execLayoutDue (t : Nat) (i : Fin 512) (err : Option LocErr) (s : State) : Res :=
  let s := advance t s
  let s := match err with
    | some e => layErr e s
    | none => s
  let i := i.val
  .next (if s.sys.st = .doze ∨ (s.lay i).en = false ∨ layRx s i = true then s
    else if s.net.work.any (fun w => w.lay == i && w.rx.isNone) then layOverrun i t s
    else workAdd ⟨i, classRank (layClass s i), t, none⟩ s)

/-- RECEIVE_APPLY (R359): the work under way is a received frame, and its values and mark are written. -/
def execReceiveApply (t : Nat) (errs : List MemErr) (s : State) : Res :=
  let s := noteErrs errs (advance t s)
  .next (match s.net.work with
    | w :: _ =>
      if s.sys.st = .doze then s
      else
      match w.rx with
      | some (q, pay) =>
        let n := layCount s w.lay
        let a := layFirst s w.lay
        let mark := layMark s w.lay && decide (layRoute s w.lay < 3)
        let s := if (s.lay w.lay).en then
            let s := forN n (fun e => epApply (leNat pay) (a + e)) s
            if mark then wdtEndpoint (a + n) (writeSram (epVal s (a + n)) q s) else s
          else s
        workDone w (battScan s)
      | none => s
    | [] => s)

/-- LAYOUT_LOST (R361). -/
def execLayoutLost (t : Nat) (i : Fin 512) (errs : List MemErr) (s : State) : Res :=
  let s := noteErrs errs (advance t s)
  let i := i.val
  let x := s.lay i
  .next (if s.sys.st = .doze ∨ x.en = false ∨ layRx s i = false ∨ layWd s i = 0 ∨ x.lost = true then s
    else
      let s := setLay i { x with lost := true } s
      let s := if layBits s i 0 14 1 = 1 then layZero i s else s
      raise blkIMP 0x01 i (layCtx s i) x.seq s)

/-- PATH_LOST (R360). -/
def execPathLost (t : Nat) (i : Fin 512) (p : Fin 2) (s : State) : Res :=
  let s := advance t s
  let i := i.val
  let x := s.lay i
  let was := if p = 0 then x.pathA else x.pathB
  .next (if s.sys.st = .doze ∨ x.en = false ∨ layRx s i = false ∨ layRoute s i ≠ 2 ∨ layWd s i = 0 ∨ was = true then s
    else
      let s := setLay i (if p = 0 then { x with pathA := true } else { x with pathB := true }) s
      raise blkIMP 0x03 i p.val x.seq s)

end Sys2Proof.Machine
end

