-- ==== Sys2Proof/Machine/Platen.lean ====
section
/-! DEFINITION. Sys2Proof/Machine/Platen.lean: the sorts of a platen (R78 to R95): operand forms, accumulator
writes, and one body per operation. -/

namespace Sys2Proof.Machine

/-! ### Memory errors of a platen (R113) -/

/-- What a read of platen `n` at window offset `off` finds. -/
def eccOf (errs : List PltErr) (n off : Nat) : Ecc :=
  match errs.find? (fun e => e.plt == n && e.off == off) with
  | some e => e.ecc
  | none => .ok

/-- R113: count a corrected error; note an uncorrectable one in UE, UE_ADDR and an event. -/
def pltEcc (errs : List PltErr) (n off : Nat) (s : State) : State :=
  match eccOf errs n off with
  | .ok => s
  | .single => bump s F.PLT_ECC_CE 1 n
  | .multi =>
    let s := raiseFlag s F.PLT_STATUS_UE n
    let s := fset s F.PLT_UE_ADDR_OFFSET off n
    raiseOpen blkPLT (Config.eventWord blkPLT 0x100 2 0) n s

/-- Whether that read delivers the word: an uncorrectable one delivers 0. -/
def pltReadable (errs : List PltErr) (n off : Nat) : Bool := eccOf errs n off != .multi

/-! ### Pointers and operands (R80, R82, R83) -/

/-- Pointer `k`: 0 to 7 XP, 8 to 15 YP, 16 to 23 CP. -/
def PltS.ptrOf (p : PltS) (k : Nat) : Ptr := SMap.get (fun _ => ⟨0, 0, 0, 0⟩) p.ptr k

/-- Replace pointer `k`. -/
def PltS.setPtr (p : PltS) (k : Nat) (q : Ptr) : PltS := { p with ptr := SMap.put (fun _ => ⟨0, 0, 0, 0⟩) p.ptr k q }

/-- The update after an IPI access (R83). -/
def ptrNext (size : Nat) (q : Ptr) : Ptr :=
  if q.m = 0 then { q with p := (((q.p : Int) + q.s) % (size : Int)).toNat }
  else { q with p := q.b + (((q.p : Int) - q.b + q.s) % (q.m : Int)).toNat }

/-- The mode of an X or Y field. -/
def fldMode (f : BitVec 16) : Nat := f.toNat / 2 ^ 14

/-- The X (`y = false`) or Y address that a field names (R82). -/
def dataAddr (p : PltS) (y : Bool) (f : BitVec 16) : Nat :=
  let low := f.toNat % 2 ^ 14
  if fldMode f = 0 then low
  else ((p.ptrOf ((if y then 8 else 0) + low / 2 ^ 11)).p + low % 2 ^ 11) % 16384

/-- The pointer update that an IPI field makes. -/
def dataStep (p : PltS) (y : Bool) (f : BitVec 16) : PltS :=
  if fldMode f = 2 then
    let k := (if y then 8 else 0) + f.toNat % 2 ^ 14 / 2 ^ 11
    p.setPtr k (ptrNext 16384 (p.ptrOf k))
  else p

/-- The word of X or Y memory. -/
def PltS.word (p : PltS) (y : Bool) (a : Nat) : W24 := SMap.get (fun _ => 0#24) (if y then p.y else p.x) a

/-- Store a word of X or Y memory. -/
def PltS.setWord (p : PltS) (y : Bool) (a : Nat) (w : W24) : PltS :=
  if y then { p with y := SMap.put (fun _ => 0#24) p.y a w } else { p with x := SMap.put (fun _ => 0#24) p.x a w }

/-- The word of C memory. -/
def PltS.cword (p : PltS) (a : Nat) : W24 := SMap.get (fun _ => 0#24) p.c (a % 8192)

/-- The window offset of an X or Y word (R62). -/
def dataOff (y : Bool) (a : Nat) : Nat := (if y then 0x10000 else 0) + 4 * a

/-- Read the X or Y operand of a sort (R82): the word and the state after the read. -/
def readXY (y : Bool) (a : Srt) (s : State) : Int × State :=
  let f := if y then a.yf else a.xf
  if fldMode f = 3 then (sgn 14 f.toNat * 2 ^ 10, s)
  else
    let n := a.plt.val
    let ad := dataAddr (s.plt n) y f
    let off := dataOff y ad
    let w : Int := if pltReadable a.errs n off then ((s.plt n).word y ad).toInt else 0
    let s := pltEcc a.errs n off s
    (w, modPlt s n (fun p => dataStep p y f))

/-- The C address that CF names, with the offset of a pointed access included (R82). -/
def coefAddr (p : PltS) (cf : BitVec 14) : Nat :=
  if cf.getLsbD 13 then ((p.ptrOf (16 + cf.toNat % 2 ^ 13 / 2 ^ 10)).p + cf.toNat % 2 ^ 10) % 8192
  else cf.toNat % 2 ^ 13

/-- The update of the pointer that CF names. -/
def coefStep (p : PltS) (cf : BitVec 14) : PltS :=
  if cf.getLsbD 13 then
    let k := 16 + cf.toNat % 2 ^ 13 / 2 ^ 10
    p.setPtr k (ptrNext 8192 (p.ptrOf k))
  else p

/-- The C word at an address, with the errors its read finds. -/
def readCAt (a : Srt) (ad : Nat) (s : State) : Int × State :=
  let n := a.plt.val
  let off := 0x20000 + 4 * (ad % 8192)
  (if pltReadable a.errs n off then ((s.plt n).cword ad).toInt else 0, pltEcc a.errs n off s)

/-- Read the C operand of a sort (R82). -/
def readC (a : Srt) (s : State) : Int × State :=
  let r := readCAt a (coefAddr (s.plt a.plt.val) a.cf) s
  (r.1, modPlt r.2 a.plt.val (fun p => coefStep p a.cf))

/-- The source of LDA, ADD, MIN and MAX: MOD[1:0] 00 X, 01 Y, 10 C (R85). -/
def readSrc (a : Srt) (s : State) : Int × State :=
  match a.md.toNat % 4 with
  | 0 => readXY false a s
  | 1 => readXY true a s
  | _ => readC a s

/-! ### Accumulators (R79, R92, R93, R94) -/

/-- Accumulator `i`. -/
def PltS.accOf (p : PltS) (i : Nat) : Accum := SMap.get (fun _ => ⟨0, false, false⟩) p.acc i

/-- Replace accumulator `i`. -/
def PltS.setAcc (p : PltS) (i : Nat) (a : Accum) : PltS := { p with acc := SMap.put (fun _ => ⟨0, false, false⟩) p.acc i a }

/-- The content of accumulator `i` of the sort's platen. -/
def accVal (a : Srt) (i : Nat) (s : State) : Int := ((s.plt a.plt.val).accOf i).v.toInt

/-- R94: the first saturation sets OVF and captures OVF_INFO. -/
def noteOvf (a : Srt) (i : Nat) (s : State) : State :=
  let n := a.plt.val
  if flag s F.PLT_STATUS_OVF n then s
  else
    let s := raiseFlag s F.PLT_STATUS_OVF n
    let s := fset s F.PLT_OVF_INFO_SORT a.idx.toNat n
    let s := fset s F.PLT_OVF_INFO_ACC i n
    fset s F.PLT_OVF_INFO_IMP (impCount s) n

/-- Write `v` to accumulator `i` (R92, R93): a clearing write clears FRZ and C; a frozen accumulator keeps its
content and C otherwise; a value out of range is held at the extreme with FRZ set. -/
def accWrite (clearing : Bool) (a : Srt) (i : Nat) (v : Int) (s : State) : State :=
  let n := a.plt.val
  let old := (s.plt n).accOf i
  if old.frz && !clearing then s
  else
    let c := if clearing then false else old.c
    if v < -(2 ^ 55 : Int) then
      noteOvf a i (modPlt s n (fun p => p.setAcc i ⟨BitVec.ofInt 56 (-(2 ^ 55)), c, true⟩))
    else if (2 ^ 55 : Int) ≤ v then
      noteOvf a i (modPlt s n (fun p => p.setAcc i ⟨BitVec.ofInt 56 (2 ^ 55 - 1), c, true⟩))
    else modPlt s n (fun p => p.setAcc i ⟨BitVec.ofInt 56 v, c, false⟩)

/-- The condition MOD[3:2] on accumulator MOD[1:0] (R86). -/
def condHolds (a : Srt) (s : State) : Bool :=
  let x := (s.plt a.plt.val).accOf (a.md.toNat % 4)
  match a.md.toNat / 4 with
  | 0 => decide (x.v.toInt < 0)
  | 1 => decide (x.v.toInt = 0)
  | 2 => decide (0 < x.v.toInt)
  | _ => x.c

/-- A signed field of MOD[2] NEG. -/
def negIf (b : Bool) (x : Int) : Int := if b then -x else x

/-! ### Stores (R87, R95) -/

/-- The redundant sign bits of a word: the bits below bit 23, from bit 22 down, that equal bit 23 (R95). -/
def redundant (w : W24) : Nat := ((List.range 23).takeWhile (fun k => w.getLsbD (22 - k) == w.getLsbD 23)).length

/-- Feed the block-exponent detector (R95). -/
def bexpFeed (n : Nat) (w : W24) (s : State) : State := modPlt s n (fun p => { p with det := min p.det (redundant w) })

/-- The store value of accumulator content `v` with shift `sh` before saturation (R87). -/
def storeRaw (v : Int) (sh : Int) : Int :=
  if 0 ≤ sh then (v * 2 ^ sh.toNat + 2 ^ 22) / 2 ^ 23
  else (v + 2 ^ 22 * 2 ^ (-sh).toNat) / (2 ^ 23 * 2 ^ (-sh).toNat)

/-- The store value of accumulator `i` (R87), with STSAT where it saturates: also with an IMM destination, to which nothing is written
(DESIGN CHOICE, log entry 71). -/
def storeVal (a : Srt) (i : Nat) (s : State) : W24 × State :=
  let r := storeRaw (accVal a i s) (sgn 4 a.md.toNat)
  if r < -(2 ^ 23 : Int) then (0x800000#24, raiseFlag s F.PLT_STATUS_STSAT a.plt.val)
  else if (2 ^ 23 : Int) ≤ r then (0x7FFFFF#24, raiseFlag s F.PLT_STATUS_STSAT a.plt.val)
  else (BitVec.ofInt 24 r, s)

/-- Store a word at the X or Y destination field; an IMM destination stores nothing (R82). -/
def storeXY (y : Bool) (a : Srt) (w : W24) (s : State) : State :=
  let f := if y then a.yf else a.xf
  if fldMode f = 3 then s
  else modPlt s a.plt.val (fun p => dataStep (p.setWord y (dataAddr p y f) w) y f)

/-- A store sort's write: the word is also fed when BEXP_AUTO is 1 (R95). -/
def storeFed (y : Bool) (a : Srt) (i : Nat) (s : State) : State :=
  let r := storeVal a i s
  let s := storeXY y a r.1 r.2
  let f := if y then a.yf else a.xf
  if flag s F.PLT_CTL_BEXP_AUTO a.plt.val && fldMode f != 3 then bexpFeed a.plt.val r.1 s else s

/-! ### One body per operation (R85) -/

/-- MAC: pairs 00 X·C, 01 Y·C, 10 X·Y, and the dual form 11, whose lane 0 is written first: when both saturate, OVF_INFO.ACC names
A[AD] (DESIGN CHOICE, log entry 71). -/
def bodyMac (a : Srt) (s : State) : State :=
  let neg := a.md.getLsbD 2
  let clr := a.md.getLsbD 3
  let ad := a.ad.toNat
  let ad1 := ad ^^^ 1
  let base (i : Nat) (s : State) : Int := if clr then 0 else accVal a i s
  match a.md.toNat % 4 with
  | 0 =>
    let x := readXY false a s
    let c := readC a x.2
    accWrite clr a ad (base ad s + negIf neg (x.1 * c.1)) c.2
  | 1 =>
    let y := readXY true a s
    let c := readC a y.2
    accWrite clr a ad (base ad s + negIf neg (y.1 * c.1)) c.2
  | 2 =>
    let x := readXY false a s
    let y := readXY true a x.2
    accWrite clr a ad (base ad s + negIf neg (x.1 * y.1)) y.2
  | _ =>
    let x := readXY false a s
    let y := readXY true a x.2
    let c := readC a y.2
    let s' := accWrite clr a ad (base ad s + negIf neg (x.1 * c.1)) c.2
    accWrite clr a ad1 (base ad1 s + negIf neg (y.1 * c.1)) s'

/-- LDA: a clearing write. -/
def bodyLda (a : Srt) (s : State) : State :=
  let r := readSrc a s
  accWrite true a a.ad.toNat (r.1 * 2 ^ 23) r.2

/-- ADD. -/
def bodyAdd (a : Srt) (s : State) : State :=
  let r := readSrc a s
  accWrite false a a.ad.toNat (accVal a a.ad.toNat s + negIf (a.md.getLsbD 2) (r.1 * 2 ^ 23)) r.2

/-- ACC: one accumulator to another. -/
def bodyAcc (a : Srt) (s : State) : State :=
  accWrite false a a.ad.toNat (accVal a a.ad.toNat s + negIf (a.md.getLsbD 2) (accVal a (a.md.toNat % 4) s)) s

/-- `v × 2^k`, a right shift rounding toward minus infinity. -/
def shiftInt (v k : Int) : Int := if 0 ≤ k then v * 2 ^ k.toNat else v / 2 ^ (-k).toNat

/-- SHF: by XF[6:0] signed. -/
def bodyShf (a : Srt) (s : State) : State :=
  accWrite false a a.ad.toNat (shiftInt (accVal a a.ad.toNat s) (sgn 7 a.xf.toNat)) s

/-- UNA: 0 NEG, 1 ABS, 2 RND, 3 CLR. -/
def bodyUna (a : Srt) (s : State) : State :=
  let i := a.ad.toNat
  let v := accVal a i s
  match a.md.toNat with
  | 0 => accWrite false a i (-v) s
  | 1 => accWrite false a i (if v < 0 then -v else v) s
  | 2 => accWrite false a i ((v + 2 ^ 22) / 2 ^ 23 * 2 ^ 23) s
  | _ => accWrite true a i 0 s

/-- MIN. -/
def bodyMin (a : Srt) (s : State) : State :=
  let r := readSrc a s
  accWrite false a a.ad.toNat (min (accVal a a.ad.toNat s) (r.1 * 2 ^ 23)) r.2

/-- MAX. -/
def bodyMax (a : Srt) (s : State) : State :=
  let r := readSrc a s
  accWrite false a a.ad.toNat (max (accVal a a.ad.toNat s) (r.1 * 2 ^ 23)) r.2

/-- LIM: clamp between X and Y; C tells whether the value changed; nothing happens to a frozen accumulator. -/
def bodyLim (a : Srt) (s : State) : State :=
  let i := a.ad.toNat
  let x := readXY false a s
  let y := readXY true a x.2
  let v := accVal a i s
  let r := max (x.1 * 2 ^ 23) (min v (y.1 * 2 ^ 23))
  let s' := accWrite false a i r y.2
  if ((s.plt a.plt.val).accOf i).frz then s'
  else modPlt s' a.plt.val (fun p => p.setAcc i { p.accOf i with c := decide (r ≠ v) })

/-- SEL: X or Y by a condition; a clearing write. -/
def bodySel (a : Srt) (s : State) : State :=
  let cond := condHolds a s
  let x := readXY false a s
  let y := readXY true a x.2
  accWrite true a a.ad.toNat ((if cond then x.1 else y.1) * 2 ^ 23) y.2

/-- LUT: interpolated table read (R88); a clearing write. -/
def bodyLut (a : Srt) (s : State) : State :=
  let n := a.md.toNat + 4
  let x := readXY false a s
  let u := unsgn 24 x.1
  let i := u / 2 ^ (24 - n)
  let f : Int := (u / 2 ^ (16 - n) % 256 : Nat)
  let t := coefAddr (x.2.plt a.plt.val) a.cf
  let t0 := readCAt a (t + i) x.2
  let t1 := readCAt a (t + i + 1) t0.2
  let s' := modPlt t1.2 a.plt.val (fun p => coefStep p a.cf)
  accWrite true a a.ad.toNat (t0.1 * 2 ^ 23 + (t1.1 - t0.1) * f * 2 ^ 15) s'

/-- DLD: the 48-bit integer of X and Y; clearing unless ADD. -/
def bodyDld (a : Srt) (s : State) : State :=
  let x := readXY false a s
  let y := readXY true a x.2
  let q := negIf (a.md.getLsbD 2) (x.1 * 2 ^ 24 + (unsgn 24 y.1 : Nat))
  if a.md.getLsbD 0 then accWrite false a a.ad.toNat (accVal a a.ad.toNat s + q) y.2
  else accWrite true a a.ad.toNat q y.2

/-- DST: the accumulator held to 48 bits, stored as two words. -/
def bodyDst (a : Srt) (s : State) : State :=
  let v := accVal a a.ad.toNat s
  let c := clampInt (-(2 ^ 47)) (2 ^ 47 - 1) v
  let s := if c = v then s else raiseFlag s F.PLT_STATUS_STSAT a.plt.val
  let s := storeXY false a (BitVec.ofInt 24 (c / 2 ^ 24)) s
  storeXY true a (BitVec.ofInt 24 c) s

/-- STX. -/
def bodyStx (a : Srt) (s : State) : State := storeFed false a a.ad.toNat s

/-- STY. -/
def bodySty (a : Srt) (s : State) : State := storeFed true a a.ad.toNat s

/-- STXY: A[AD] to X and A[AD xor 1] to Y. -/
def bodyStxy (a : Srt) (s : State) : State := storeFed true a (a.ad.toNat ^^^ 1) (storeFed false a a.ad.toNat s)

/-- MOV: 00 X←Y, 01 Y←X, 10 X←C, 11 Y←C. -/
def bodyMov (a : Srt) (s : State) : State :=
  match a.md.toNat % 4 with
  | 0 => (let r := readXY true a s; storeXY false a (BitVec.ofInt 24 r.1) r.2)
  | 1 => (let r := readXY false a s; storeXY true a (BitVec.ofInt 24 r.1) r.2)
  | 2 => (let r := readC a s; storeXY false a (BitVec.ofInt 24 r.1) r.2)
  | _ => (let r := readC a s; storeXY true a (BitVec.ofInt 24 r.1) r.2)

/-- PSET: set pointers and their bases (R83). -/
def bodyPset (a : Srt) (s : State) : State :=
  let k := a.md.toNat % 8
  modPlt s a.plt.val (fun p =>
    let p := if a.xf.getLsbD 15 then p.setPtr k { p.ptrOf k with p := a.xf.toNat % 2 ^ 14, b := a.xf.toNat % 2 ^ 14 } else p
    let p := if a.yf.getLsbD 15 then p.setPtr (8 + k) { p.ptrOf (8 + k) with p := a.yf.toNat % 2 ^ 14, b := a.yf.toNat % 2 ^ 14 } else p
    if a.cf.getLsbD 13 then p.setPtr (16 + k) { p.ptrOf (16 + k) with p := a.cf.toNat % 2 ^ 13, b := a.cf.toNat % 2 ^ 13 } else p)

/-- PMOD: set strides (MOD[3] 0) or modulo lengths (MOD[3] 1) under the enables of PSET (R83). -/
def bodyPmod (a : Srt) (s : State) : State :=
  let k := a.md.toNat % 8
  let md := a.md.getLsbD 3
  modPlt s a.plt.val (fun p =>
    let p := if a.xf.getLsbD 15 then p.setPtr k
      (if md then { p.ptrOf k with m := a.xf.toNat % 2 ^ 14 } else { p.ptrOf k with s := sgn 8 a.xf.toNat }) else p
    let p := if a.yf.getLsbD 15 then p.setPtr (8 + k)
      (if md then { p.ptrOf (8 + k) with m := a.yf.toNat % 2 ^ 14 } else { p.ptrOf (8 + k) with s := sgn 8 a.yf.toNat }) else p
    if a.cf.getLsbD 13 then p.setPtr (16 + k)
      (if md then { p.ptrOf (16 + k) with m := a.cf.toNat % 2 ^ 13 } else { p.ptrOf (16 + k) with s := sgn 8 a.cf.toNat }) else p)

/-- BEXP: 0 CLEAR, 1 FEED, 2 GET, 3 LATCH (R95). -/
def bodyBexp (a : Srt) (s : State) : State :=
  let n := a.plt.val
  match a.md.toNat with
  | 0 => modPlt s n (fun p => { p with det := 23 })
  | 1 => (let r := readXY false a s; bexpFeed n (BitVec.ofInt 24 r.1) r.2)
  | 2 => accWrite true a a.ad.toNat ((s.plt n).be * 2 ^ 23) s
  | _ => modPlt s n (fun p => { p with be := p.det, det := 23 })

/-- BSCL: by 2^BE up or down. -/
def bodyBscl (a : Srt) (s : State) : State :=
  let be := (s.plt a.plt.val).be
  let v := accVal a a.ad.toNat s
  accWrite false a a.ad.toNat (if a.md.getLsbD 0 then v / 2 ^ be else v * 2 ^ be) s

/-- Data word 0 of platen event `code`: the mover or the channel of the events that R239 lists, else a free value. -/
def sevWord0 (code : Nat) (s : State) : Nat :=
  if 0x40 ≤ code ∧ code < 0x60 then code - 0x40
  else if 0x80 ≤ code ∧ code < 0x80 + 48 then code - 0x80
  else Config.eventWord blkPLT code 0 s.free

/-- Data word 1 of platen event `code` (R239): |p_pri - p_2| of R209, whose OFS the forme keeps for itself, and the Hall state with the
state that the forme has expected by its C words (R230); both are free values, and so is the word of any other code. -/
def sevWord1 (code : Nat) (s : State) : Nat :=
  let f := Config.eventWord blkPLT code 1 s.free
  if 0x40 ≤ code ∧ code < 0x60 then
    let m := code - 0x40
    let p2 := pagePos s (fget s F.MOV_SRC_SEC m) * fgetInt s F.MOV_SEC_NUM_VAL m / (max 1 (fget s F.MOV_SEC_DEN_VAL m) : Nat) + sgn 48 f
    satNat 32 (pagePos s (fget s F.MOV_SRC_PRI m) - p2).natAbs
  else if 0x80 ≤ code ∧ code < 0x80 + 48 then
    256 * fget s F.FBK_HALL_CFG_STATE (code - 0x80) + [1, 3, 2, 6, 4, 5].getD (f % 6) 1
  else f

/-- SEV: platen event XF[7:0], always with XF[8], else on the condition; event 0x80 + c is noted for the track
unit (R230). -/
def bodySev (a : Srt) (s : State) : State :=
  if a.xf.getLsbD 8 || condHolds a s then
    let code := a.xf.toNat % 256
    let s := if 0x80 ≤ code ∧ code < 0x80 + 48 then { s with trk := { s.trk with fail := nput s.trk.fail (code - 0x80) 1 } } else s
    raise blkPLT code a.plt.val (sevWord0 code s) (sevWord1 code s) (drawn s)
  else s

/-- Encodings that are not used (R85). -/
def sortNotUsed (op : Nat) (a : Srt) : Bool :=
  let m := a.md.toNat
  match op with
  | 0x00 => false | 0x01 => false | 0x3F => false | 0x0A => false | 0x0E => false | 0x0F => false | 0x10 => false
  | 0x13 => false | 0x18 => false
  | 0x02 => m % 4 == 3 || m / 4 != 0
  | 0x03 => m % 4 == 3 || m / 8 != 0
  | 0x04 => m / 8 != 0
  | 0x05 => m != 0
  | 0x06 => decide (4 ≤ m)
  | 0x07 => m % 4 == 3 || m / 4 != 0
  | 0x08 => m % 4 == 3 || m / 4 != 0
  | 0x09 => m != 0
  | 0x0B => decide (10 ≤ m)
  | 0x0C => a.md.getLsbD 1 || a.md.getLsbD 3
  | 0x0D => m != 0
  | 0x11 => m / 4 != 0
  | 0x12 => m / 8 != 0 || a.xf.getLsbD 14 || a.yf.getLsbD 14
  | 0x14 => m != 0
  | 0x15 => m / 8 != 0
  | 0x16 => decide (4 ≤ m)
  | 0x17 => m / 2 != 0
  | _ => true

/-- The effect of an enabled sort that is no REP, REPB or END. -/
def sortBody (op : Nat) (a : Srt) (s : State) : State :=
  match op with
  | 0x01 => bodyMac a s | 0x02 => bodyLda a s | 0x03 => bodyAdd a s | 0x04 => bodyAcc a s | 0x05 => bodyShf a s
  | 0x06 => bodyUna a s | 0x07 => bodyMin a s | 0x08 => bodyMax a s | 0x09 => bodyLim a s | 0x0A => bodySel a s
  | 0x0B => bodyLut a s | 0x0C => bodyDld a s | 0x0D => bodyDst a s | 0x0E => bodyStx a s | 0x0F => bodySty a s
  | 0x10 => bodyStxy a s | 0x11 => bodyMov a s | 0x12 => bodyPset a s | 0x13 => bodyPmod a s | 0x16 => bodyBexp a s
  | 0x17 => bodyBscl a s | 0x18 => bodySev a s
  | _ => s

/-! ### The sequencer (R21, R90, R91, R97) -/

/-- The window offset of bank entry `i` of the active bank. -/
def sortOff (i : Nat) : Nat := 0x40000 + 8 * i

/-- Sort `i` of a bank. -/
def BankS.sort (b : BankS) (i : Nat) : W64 := SMap.get endWord b.sorts i

/-- The operation of an encoded sort (R81). -/
def sortOp (w : W64) : Nat := (decodeSort 0 0 [] w).1

/-- The sorts that a REP or REPB at index `i` repeats, and how often; none for any other sort (R91). -/
def repOf (w : W64) (i : Nat) : Option (Nat × Nat) :=
  let d := decodeSort 0 0 [] w
  let k := if d.1 = 0x14 then 1 else d.2.md.toNat % 8 + 1
  if (d.1 = 0x14 ∨ d.1 = 0x15) ∧ sortNotUsed d.1 d.2 = false then some (min k (8191 - i), d.2.xf.toNat % 2 ^ 12 + 1) else none

/-- The index at which the unit of sort `i` ends: past the sorts that it repeats (R90). -/
def unitEnd (w : W64) (i : Nat) : Nat :=
  match repOf w i with
  | some (k, _) => i + 1 + k
  | none => i + 1

/-- From bank index `i` on, the first END that ends the forme or the first sort whose section `on` issues (R90, R97); 8,192 when the
forme has none left. The first argument bounds the walk. -/
def nextIdx (b : BankS) (on : Nat → Bool) : Nat → Nat → Nat
  | 0, i => i
  | n + 1, i =>
    if 8192 ≤ i then 8192
    else
      let w := b.sort i
      let d := decodeSort 0 0 [] w
      if d.1 = 0x3F then i
      else if on d.2.sec.toNat then i
      else nextIdx b on n (unitEnd w i)

/-- The bank index at which the sequencer of platen `n` stands; every section of PLTM is issued (R115). -/
def nextSort (s : State) (n : Nat) : Nat :=
  nextIdx (s.plt n).act (fun sec => n == 4 || (s.plt n).sched.getLsbD sec) 8192 (s.plt n).pos

/-- Platen `n` issues sorts: a control platen between its input latch and the end of its forme, unless it runs only latch and
publish; PLTM within a job (R21, R54, R115). -/
def seqLive (s : State) (n : Nat) : Bool :=
  (if n = 4 then (s.plt n).jobBusy else (s.plt n).running && !(s.plt n).bare) && !(s.plt n).ended

/-- The forme has no sort left to issue (R90). -/
def formeDone (s : State) (n : Nat) : Bool :=
  let i := nextSort s n
  decide (8192 ≤ i) || sortOp ((s.plt n).act.sort i) == 0x3F

/-- Whether section `sec` of platen `n` is scheduled and enabled in this impression (R97, R98, R115). -/
def secOn (s : State) (n sec : Nat) : Bool :=
  n == 4 || ((s.plt n).mask.getLsbD sec && (s.plt n).sched.getLsbD sec)

/-- The command is the sort that the sequencer issues next: its index, and the bank's own word, unless the fetch cannot deliver
one (R21, R113). -/
def isNext (op : Nat) (a : Srt) (s : State) : Bool :=
  let n := a.plt.val
  let i := a.idx.toNat
  seqLive s n && nextSort s n == i && !formeDone s n &&
    (!pltReadable a.errs n (sortOff i) || decodeSort a.plt a.idx a.errs ((s.plt n).act.sort i) == (op, a))

/-- Run `body` under enable `en` unless the encoding is not used: that is a NOP with BADSORT, whatever the enable (R27, R85). -/
def perform (en : Bool) (op : Nat) (bad : Bool) (body : State → State) (a : Srt) (s : State) : State :=
  if bad || sortNotUsed op a then raiseFlag s F.PLT_STATUS_BADSORT a.plt.val
  else if en then body s else s

/-- Issue a sort under enable `en`: a fetch error makes it a NOP with UE, whatever the enable (R27, R113). -/
def issueWith (en : Bool) (op : Nat) (body : State → State) (a : Srt) (s : State) : State :=
  let n := a.plt.val
  let off := sortOff a.idx.toNat
  let s := pltEcc a.errs n off s
  if pltReadable a.errs n off then perform en op false body a s else s

/-- The sequencer of platen `n` goes on to bank index `i`. -/
def seqTo (n i : Nat) (s : State) : State := modPlt s n (fun p => { p with pos := i })

/-- Issue the sort that the command is, with `body` as its effect; a command that is not the sequencer's next sort issues nothing. -/
def issueOp (op : Nat) (body : State → State) (a : Srt) (s : State) : State :=
  if isNext op a s then
    let n := a.plt.val
    let i := a.idx.toNat
    let to_ := if pltReadable a.errs n (sortOff i) then unitEnd ((s.plt n).act.sort i) i else i + 1
    seqTo n to_ (issueWith (secOn s n a.sec.toNat) op body a s)
  else s

/-- Issue a sort of the forme. -/
def issue (op : Nat) (a : Srt) (s : State) : State := issueOp op (sortBody op a) a s

/-- NOP, and every encoding that is not used, which executes as one (R85). -/
def issueNop (a : Srt) (s : State) : State :=
  let d := decodeSort a.plt a.idx a.errs ((s.plt a.plt.val).act.sort a.idx.toNat)
  if sortNotUsed d.1 d.2 then issue d.1 d.2 s else issue 0x00 a s

/-- The fetches of a repeat's sorts, `k` of them from `i` on, made once (R91, R113). -/
def repFetch (a : Srt) (i : Nat) : Nat → State → State
  | 0, s => s
  | k + 1, s => repFetch a (i + 1) k (pltEcc a.errs a.plt.val (sortOff i) s)

/-- The sorts of a repeat from `i` on, `k` of them, once, under enable `en` (R91); one that its fetch did not deliver is a NOP. -/
def repPass (en : Bool) (a : Srt) (i : Nat) : Nat → State → State
  | 0, s => s
  | k + 1, s =>
    let d := decodeSort a.plt (BitVec.ofNat 13 i) a.errs ((s.plt a.plt.val).act.sort i)
    let nested := d.1 == 0x14 || d.1 == 0x15 || d.1 == 0x3F
    let s := if pltReadable a.errs a.plt.val (sortOff i) then perform en d.1 nested (sortBody d.1 d.2) d.2 s else s
    repPass en a (i + 1) k s

/-- A repeat: `c` passes of the `k` entries after the sort, fetched once, shortened at bank index 8,191 with BADSORT (R91). -/
def bodyRep (k : Nat) (en : Bool) (a : Srt) (s : State) : State :=
  let i := a.idx.toNat
  let c := a.xf.toNat % 2 ^ 12 + 1
  let k' := min k (8191 - i)
  let s := if k' < k then raiseFlag s F.PLT_STATUS_BADSORT a.plt.val else s
  Nat.repeat (repPass en a (i + 1) k') c (repFetch a (i + 1) k' s)

/-- Issue a REP or REPB: its own SEC governs the unit (R91), whose fetches and encodings report whatever the enable (R27). -/
def issueRep (op k : Nat) (a : Srt) (s : State) : State :=
  if isNext op a s then
    let n := a.plt.val
    let i := a.idx.toNat
    let to_ := if pltReadable a.errs n (sortOff i) then unitEnd ((s.plt n).act.sort i) i else i + 1
    seqTo n to_ (issueWith true op (bodyRep k (secOn s n a.sec.toNat) a) a s)
  else s

/-! ### The commands -/

/-- NOP, and the encodings that execute as one with BADSORT (R85). -/
def execSortNop (a : Srt) (s : State) : Res := .next (issueNop a s)
def execSortMac (a : Srt) (s : State) : Res := .next (issue 0x01 a s)
/-- MAC with pair 11. -/
def execMacDual (a : Srt) (s : State) : Res := .next (issue 0x01 { a with md := a.md ||| 3#4 } s)
def execSortLda (a : Srt) (s : State) : Res := .next (issue 0x02 a s)
def execSortAdd (a : Srt) (s : State) : Res := .next (issue 0x03 a s)
def execSortAcc (a : Srt) (s : State) : Res := .next (issue 0x04 a s)
def execSortShf (a : Srt) (s : State) : Res := .next (issue 0x05 a s)
/-- UNA with MOD 0. -/
def execUnaNeg (a : Srt) (s : State) : Res := .next (issue 0x06 { a with md := 0#4 } s)
/-- UNA with MOD 1. -/
def execUnaAbs (a : Srt) (s : State) : Res := .next (issue 0x06 { a with md := 1#4 } s)
/-- UNA with MOD 2. -/
def execUnaRnd (a : Srt) (s : State) : Res := .next (issue 0x06 { a with md := 2#4 } s)
/-- UNA with MOD 3. -/
def execUnaClr (a : Srt) (s : State) : Res := .next (issue 0x06 { a with md := 3#4 } s)
def execSortMin (a : Srt) (s : State) : Res := .next (issue 0x07 a s)
def execSortMax (a : Srt) (s : State) : Res := .next (issue 0x08 a s)
def execSortLim (a : Srt) (s : State) : Res := .next (issue 0x09 a s)
def execSortSel (a : Srt) (s : State) : Res := .next (issue 0x0A a s)
def execSortLut (a : Srt) (s : State) : Res := .next (issue 0x0B a s)
def execSortDld (a : Srt) (s : State) : Res := .next (issue 0x0C a s)
def execSortDst (a : Srt) (s : State) : Res := .next (issue 0x0D a s)
def execSortStx (a : Srt) (s : State) : Res := .next (issue 0x0E a s)
def execSortSty (a : Srt) (s : State) : Res := .next (issue 0x0F a s)
def execSortStxy (a : Srt) (s : State) : Res := .next (issue 0x10 a s)
def execSortMov (a : Srt) (s : State) : Res := .next (issue 0x11 a s)
def execSortPset (a : Srt) (s : State) : Res := .next (issue 0x12 a s)
/-- PMOD with MOD[3] 0. -/
def execPmodStride (a : Srt) (s : State) : Res := .next (issue 0x13 { a with md := a.md &&& 7#4 } s)
/-- PMOD with MOD[3] 1. -/
def execPmodModulo (a : Srt) (s : State) : Res := .next (issue 0x13 { a with md := a.md ||| 8#4 } s)
/-- REP: the next sort XF[11:0] + 1 times; its SEC governs the unit (R91). -/
def execSortRep (a : Srt) (s : State) : Res := .next (issueRep 0x14 1 a s)
/-- REPB: the next MOD[2:0] + 1 sorts as a block (R91). -/
def execSortRepb (a : Srt) (s : State) : Res := .next (issueRep 0x15 (a.md.toNat % 8 + 1) a s)
/-- BEXP with MOD 0. -/
def execBexpClear (a : Srt) (s : State) : Res := .next (issue 0x16 { a with md := 0#4 } s)
/-- BEXP with MOD 1. -/
def execBexpFeed (a : Srt) (s : State) : Res := .next (issue 0x16 { a with md := 1#4 } s)
/-- BEXP with MOD 2. -/
def execBexpGet (a : Srt) (s : State) : Res := .next (issue 0x16 { a with md := 2#4 } s)
/-- BEXP with MOD 3. -/
def execBexpLatch (a : Srt) (s : State) : Res := .next (issue 0x16 { a with md := 3#4 } s)
def execSortBscl (a : Srt) (s : State) : Res := .next (issue 0x17 a s)
def execSortSev (a : Srt) (s : State) : Res := .next (issue 0x18 a s)
/-- END: the forme of a control platen has run and its publish is due (R90, R104); on PLTM the job has run (R115). -/
def execSortEnd (a : Srt) (s : State) : Res :=
  .next (if seqLive s a.plt.val && nextSort s a.plt.val == a.idx.toNat && formeDone s a.plt.val then
      modPlt s a.plt.val (fun p => { p with ended := true })
    else s)

end Sys2Proof.Machine
end

