-- ==== Sys2Proof/Machine/Safety.lean ====
section
/-! DEFINITION. Sys2Proof/Machine/Safety.lean: the safety island (R272 to R304, R499, R504). -/

namespace Sys2Proof.Machine

/-! ### What the island reads -/

/-- Axis `a` beyond its registers. -/
def State.sax (s : State) (a : Nat) : SaxS := SMap.get (fun _ => SaxS.init) s.saf.sax a

/-- Replace it. -/
def setSax (a : Nat) (x : SaxS) (s : State) : State :=
  { s with saf := { s.saf with sax := SMap.put (fun _ => SaxS.init) s.saf.sax a x } }

/-- Proof session `n` beyond its registers. -/
def State.ps (s : State) (n : Nat) : PsS := SMap.get (fun _ => PsS.init) s.saf.ps n

/-- Replace it. -/
def setPs (n : Nat) (x : PsS) (s : State) : State :=
  { s with saf := { s.saf with ps := SMap.put (fun _ => PsS.init) s.saf.ps n x } }

/-- Reported speed of a source in the page, in 1/256 inc/s. -/
def pageSpeed (s : State) (i : Nat) : Int := sgn 32 (srcWord s i 4 % 256 * 2 ^ 24 + srcWord s i 5)

/-- Bit `b` of a source's status word (R190). -/
def pageBit (s : State) (i b : Nat) : Bool := (srcWord s i 7).testBit b

/-- R282: the source of an index can be watched. -/
def srcReal (s : State) (i : Nat) : Bool := srcUsed i && flag s F.FBK_HALL_CFG_EN i

/-- R277: the safe bit of an index. -/
def safeBit (s : State) (i : Nat) : Bool :=
  if i < 32 then
    safeIn s i && fioIn s i && (rd s (R.FIO_CH_DIAG.at i)).toNat % 8 == 0 && !flag s F.FIO_GRP_STATUS_FIELD_UV (fioGroup i)
  else if i < 48 then fbit s F.FIO_KFB_LEVEL (i - 32)
  else if 64 ≤ i ∧ i < 576 then
    flag s F.SAF_PS_STATUS_UP ((i - 64) / 64) && (s.ps ((i - 64) / 64)).payload.getLsbD ((i - 64) % 64)
  else i == 1022

/-- The island suspends monitoring (R292). -/
def monitorMode (s : State) : Bool := flag s F.SAF_STATE_MONITOR

/-- Enabled axes. -/
def axesOn (s : State) : List Nat := (List.range 8).filter (fun a => flag s F.SAF_AX_CFG_EN a)

/-- The secondary of axis `a`, if it is present (R282). -/
def secOf (s : State) (a : Nat) : Option Nat :=
  let i := fget s F.SAF_AX_CFG_SEC a
  if srcReal s i then some i else none

/-- The secondary of axis `a`, unless SEC_LOST. -/
def secLive (s : State) (a : Nat) : Option Nat := if flag s F.SAF_AXST_SEC_LOST a then none else secOf s a

/-- p_pri of axis `a`. -/
def axPos (s : State) (a : Nat) : Int := pagePos s (fget s F.SAF_AX_CFG_PRI a)

/-- SDEN. -/
def sden (s : State) (a : Nat) : Nat := max 1 (fget s F.SAF_AX_SDEN_VAL a)

/-- v_s of axis `a`, times 2^32 (R280). -/
def axSpeed (s : State) (a : Nat) : Nat :=
  let v := (pageSpeed s (fget s F.SAF_AX_CFG_PRI a)).natAbs * 2 ^ 32
  match secLive s a with
  | some i => max v ((pageSpeed s i * fgetInt s F.SAF_AX_SNUM_VAL a * 2 ^ 32 / sden s a).natAbs)
  | none => v

/-- p_pri × SDEN − p_sec × SNUM (R281). -/
def axDiff (s : State) (a i : Nat) : Int :=
  axPos s a * sden s a - pagePos s i * fgetInt s F.SAF_AX_SNUM_VAL a

/-- R281: take the plausibility offset of axis `a`. -/
def takeOfs (a : Nat) (s : State) : State :=
  match secOf s a with
  | some i => setSax a { s.sax a with ofs := axDiff s a i } s
  | none => s

/-- A rescue run is active (R429). -/
def rescueActive (s : State) : Bool := (List.range 32).any (fun m => fget s F.PAR_RSCM_STATE_STATE m == 1 || fget s F.PAR_RSCM_STATE_STATE m == 2)

/-- DRY_LIM is in force (R280). -/
def dryLim (s : State) : Bool := fget s F.SAF_STATE_STATE == 4 || rescueActive s

/-- The SLS level of axis `a` (R278). -/
def slsLevel (s : State) (a : Nat) : Nat :=
  2 * (safeBit s (fget s F.SAF_AX_SEL_B_SLS_SEL1 a)).toNat + (safeBit s (fget s F.SAF_AX_SEL_A_SLS_SEL0 a)).toNat

/-- The target limit of axis `a`, times 2^32 (R280). -/
def slsTarget (s : State) (a : Nat) : Nat :=
  let l := fget s F.SAF_AX_SLS_VAL a (slsLevel s a)
  (if dryLim s then min l (fget s F.SAF_AX_DRY_LIM_VAL a) else l) * 2 ^ 32

/-- R280 step 3 at the present instant. -/
def rampStep (a : Nat) (s : State) : State :=
  let x := s.sax a
  let tgt := slsTarget s a
  let ramp := fget s F.SAF_AX_TIMING_RAMP a * 1000000 * 256
  let at_ := fun (f : Nat × Nat) (tg : Nat) =>
    if f.2 + ramp ≤ clk s then tg else f.1 - (f.1 - tg) * (clk s - f.2) / ramp
  let lim := match x.fall with | some f => at_ f x.target | none => x.lim
  let x :=
    if tgt = x.target then
      (match x.fall with
       | some f => if f.2 + ramp ≤ clk s then { x with lim := tgt, fall := none } else { x with lim := lim }
       | none => x)
    else if lim ≤ tgt ∨ ramp = 0 then { x with lim := tgt, target := tgt, fall := none }
    else { x with lim := lim, target := tgt, fall := some (lim, clk s) }
  setSax a x s

/-- R504: the limit stands at its target. -/
def rampReset (a : Nat) (s : State) : State :=
  let tgt := slsTarget s a
  setSax a { s.sax a with lim := tgt, target := tgt, fall := none } s

/-! ### Powered hours and the brake-test interval -/

/-- H_pass of axis `a`. -/
def hPass (s : State) (a : Nat) : Int := SMap.get (fun _ => 0) s.nv.pass a

/-- Set it. -/
def setPass (a : Nat) (h : Int) (s : State) : State := { s with nv := { s.nv with pass := SMap.put (fun _ => 0) s.nv.pass a h } }

/-- R286: BT_DUE and BT_LOCK of every axis. -/
def btUpdate (s : State) : State :=
  let int := fget s F.SAF_BTI_INT
  forN 8 (fun a s =>
    let d := (s.nv.hours : Int) - hPass s a
    let due := int != 0 && decide ((int : Int) ≤ d)
    let lock := int != 0 && decide ((int + fget s F.SAF_BTI_GRACE : Int) ≤ d)
    let s := fset (fset s F.SAF_AXST_BT_DUE due.toNat a) F.SAF_AXST_BT_LOCK lock.toNat a
    fsetBit s F.SAF_BRAKE_BT_LOCK a lock) s

/-! ### Outputs -/

/-- R279, R274, R315: the island commands STO output `n` asserted. -/
def stoCmd (s : State) (n : Nat) : Bool :=
  !safLive s || monitorMode s || flag s F.FIO_GRP_STATUS_FIELD_UV (n / 2) ||
    (axesOn s).any (fun a => fget s F.SAF_AX_CFG_STO a == n && !safeBit s (fget s F.SAF_AX_SEL_A_STO_PERM a))

/-- STO output `n` is asserted: by command, by a fault (R318), or for want of its ball. -/
def stoWanted (s : State) (n : Nat) : Bool := stoCmd s n || fbit s F.FIO_STO_OVL n || !hasBall s 0x0E n

/-- R284, R315: the island commands pair `p` released; `was`: it is released now. -/
def sbcCmd (s : State) (p : Nat) : Bool :=
  let was := sbcOn s p
  let named := (axesOn s).filter (fun a => fget s F.SAF_AX_CFG_SBC a == p)
  safLive s && !monitorMode s && !named.isEmpty && !flag s F.FIO_GRP_STATUS_FIELD_UV (p / 2) &&
    named.all (fun a =>
      fbit s F.SAF_BRAKE_REL a && !fbit s F.SAF_BRAKE_STO_ASSERTED (fget s F.SAF_AX_CFG_STO a) &&
        (was || !fbit s F.SAF_BRAKE_BT_LOCK a) && !s.nv.btFail.getLsbD a)

/-- Pair `p` is released: by command, with no fault that holds it (R317), and with both its balls. -/
def sbcAllowed (s : State) (p : Nat) : Bool :=
  sbcCmd s p && !s.fio.sbcOff.testBit p && hasBall s 0x0D (2 * p) && hasBall s 0x0D (2 * p + 1)

/-- A pair that a fault switched off waits until its request ends (R317). -/
def sbcRearm (s : State) (p : Nat) : Bool :=
  (axesOn s).all (fun a => fget s F.SAF_AX_CFG_SBC a != p || fbit s F.SAF_BRAKE_REL a) && safLive s

/-- Drive the outputs (R273). -/
def safOutputs (s : State) : State :=
  let s := forN 8 (fun n s => fsetBit s F.SAF_BRAKE_STO_ASSERTED n (stoWanted s n)) s
  let s := forN 8 (fun p s =>
    let s := if sbcRearm s p then s else { s with fio := { s.fio with sbcOff := putBit s.fio.sbcOff p false } }
    setSbc p (!sbcAllowed s p) s) s
  let s := forN 8 (fun a s =>
    let s := fset s F.SAF_AXST_STO (fbit s F.SAF_BRAKE_STO_ASSERTED (fget s F.SAF_AX_CFG_STO a)).toNat a
    let p := fget s F.SAF_AX_CFG_SBC a
    fset s F.SAF_AXST_SBC_APPLIED (if 8 ≤ p then 1 else (fbit s F.SAF_BRAKE_APPLIED p).toNat) a) s
  edgRefresh s

/-! ### State changes -/

/-- A change of the safety state with its event (R275, R304). -/
def setSaf (n : Nat) (s : State) : State :=
  let o := fget s F.SAF_STATE_STATE
  if o = n then s
  else
    let s := fset (fset s F.SAF_STATE_PREV o) F.SAF_STATE_STATE n
    let s := if o = 4 then fset s F.SAF_DRY_LEFT_VAL 0 else s
    raise blkSAF 0x01 0 n o s

/-- The brake test ends (R285): 2 PASS, 3 FAIL, 4 ABORTED. -/
def btEnd (res : Nat) (s : State) : State :=
  match s.saf.bt with
  | none => s
  | some b =>
    let a := b.1
    let s := fset (fset s F.SAF_BT_STATUS_RESULT res) F.SAF_BT_STATUS_PHASE 0
    let s := { s with saf := { s.saf with bt := none } }
    let s := if res = 2 then setPass a s.nv.hours s else s
    let s := if res = 3 then { s with nv := { s.nv with btFail := s.nv.btFail ||| (1#8 <<< a) } } else s
    btUpdate (raise blkSAF (0x28 + a) a res (fget s F.SAF_BT_STATUS_MOVE) s)

/-- The event of a cause of a safe stop (R288, R304). -/
def causeLog (cause inst : Nat) (s : State) : State := raise blkSAF 0x02 inst cause (fget s F.SAF_STOP_STAMP_VAL) s

/-- The record and the device's part of a safe stop (R288): CAUSE and STOP_STAMP stay with the first cause. -/
def stopRecord (cause inst : Nat) (s : State) : State :=
  let s := if fget s F.SAF_STATE_CAUSE = 0 then fset (fset s F.SAF_STATE_CAUSE cause) F.SAF_STOP_STAMP_VAL (stamp s) else s
  let s := causeLog cause inst s
  if s.sys.st == .ready || s.sys.st == .run || s.sys.st == .takeover then setDev .safeStop s else s

/-- R288: a cause of R289 rises: it makes a safe stop in OPERATIONAL and DRYDOWN; after a first cause, and until the next
accepted reset, it is logged only. -/
def safeStop (cause inst : Nat) (s : State) : State :=
  if safLive s then safOutputs (setSaf 2 (stopRecord cause inst (btEnd 4 s)))
  else if fget s F.SAF_STATE_CAUSE ≠ 0 then causeLog cause inst s
  else s

/-- R288: causes rise at once. -/
def safeStops (cs : List (Nat × Nat)) (s : State) : State := forL cs (fun c s => safeStop c.1 c.2 s) s

/-- CONFIRMED (R301), here and in the colophon (R76). -/
def confUpdate (s : State) : State :=
  let c := (rd s R.SAF_SIG_CALC.addr == s.nv.sigConf).toNat
  fset (fset s F.SAF_STATE_CONFIRMED c) F.COL_STATUS_CONFIRMED c

/-- SIG_BUSY. -/
def busyUpdate (s : State) : State := fset s F.SAF_STATE_SIG_BUSY (s.saf.sig || s.saf.conf.isSome).toNat

/-- The parameter block's image (R301). -/
def sfImage (s : State) : List Byte := (List.range 320).flatMap (fun i => leBytes 4 (rd s (0x80100 + 4 * i)).toNat)

/-- SIG_CALC over the block as it stands, here and in the colophon (R53, R76). -/
def sigCalc (s : State) : State :=
  let v := BitVec.ofNat 32 (crc32c (sfImage s))
  confUpdate (wr (wr s R.SAF_SIG_CALC.addr v) R.COL_SIG_CALC.addr v)

/-! ### Causes -/

/-- Enabled members of a KFB group. -/
def kfbMembers (s : State) (g : Nat) : List Nat :=
  (List.range 16).filter (fun k => flag s F.SAF_KFB_CFG_EN k && fget s F.SAF_KFB_CFG_GROUP k == g)

/-- Input `k` is in discrepancy. -/
def kfbBad (s : State) (k : Nat) : Bool := flag s F.SAF_KFB_CFG_EN k && s.saf.kfb.testBit k

/-- R287: input `k`'s discrepancy is non-degradable. -/
def kfbHard (s : State) (k : Nat) : Bool :=
  kfbBad s k && (fget s F.SAF_KFB_CFG_GROUP k == 0 || (kfbMembers s (fget s F.SAF_KFB_CFG_GROUP k)).all (kfbBad s))

/-- The first element of a range that meets a condition. -/
def firstOf (n : Nat) (f : Nat → Bool) : Option Nat := (List.range n).find? f

/-- R282: the axes with PRI_LOST present. -/
def priLost (s : State) (a : Nat) : Bool :=
  flag s F.SAF_AX_CFG_EN a && (!srcReal s (fget s F.SAF_AX_CFG_PRI a) || pageBit s (fget s F.SAF_AX_CFG_PRI a) 4)

/-- Whether platen `n` shows OVF (`ue` false) or UE. -/
def pltFlag (s : State) (ue : Bool) (n : Nat) : Bool := flag s (if ue then F.PLT_STATUS_UE else F.PLT_STATUS_OVF) n

/-- The causes of R289 that are conditions of the island's inputs, with their instances, in the order of their codes:
those that a reset sees (R276), with PRI_LOST judged outside DOZE only (R504). -/
def standing (s : State) : List (Nat × Nat) :=
  let one := fun (c : Nat) (f : Option Nat) => match f with | some i => [(c, i)] | none => []
  one 0x02 (if safeBit s (fget s F.SAF_GEN_RUN_SEL) then none else some 0) ++
    one 0x06 (if monitorMode s then none else firstOf 8 (priLost s)) ++
    one 0x09 ((firstOf 16 (kfbHard s)).map (fun _ => 0)) ++
    one 0x0B (if s.saf.bad.testBit 4 then some 0 else none) ++
    one 0x0C (if s.saf.bad.testBit 0 then some 0 else none) ++
    one 0x0D (if s.saf.bad.testBit 1 then some 0 else none) ++
    one 0x0E (if s.saf.bad.testBit 2 then some 0 else none) ++
    one 0x0F (if flag s F.SAF_GEN_OVF_ACT then (firstOf 4 (pltFlag s false)).map (fun _ => 0) else none) ++
    one 0x10 (if flag s F.SAF_GEN_UE_ACT then (firstOf 4 (pltFlag s true)).map (fun _ => 0) else none) ++
    one 0x12 (if s.saf.bad.testBit 3 then some 0 else none)

/-- R283: standstill is violated on axis `a`. -/
def sosBad (s : State) (a : Nat) : Bool :=
  match (s.sax a).p0 with
  | some p => flag s F.SAF_AX_CFG_EN a && decide (fget s F.SAF_AX_SOS_WIN_WIN a < (axPos s a - p).natAbs)
  | none => false

/-- Feeds in use that PAR reports lost (R289). -/
def feedsLost (s : State) : Nat := ((List.range 2).filter (fun f => fget s F.PAR_FEED_STATUS_CLASS f == 2)).length

/-- The degradable causes present, each with an instance (R289). -/
def dryCauses (s : State) : List (Option Nat) :=
  let ps := fun f => firstOf 8 (fun n => flag s F.SAF_PSC_ID_EN n && flag s f n)
  let mode := fget s F.PAR_CFG_MODE
  [ps F.SAF_PS_STATUS_PATH_A_LOST, ps F.SAF_PS_STATUS_PATH_B_LOST,
   firstOf 8 (fun a => flag s F.SAF_AX_CFG_EN a && flag s F.SAF_AXST_SEC_LOST a),
   if (mode == 0 || mode == 2) && feedsLost s == 1 then some 0 else none,
   firstOf 16 (fun k => kfbBad s k && !kfbHard s k)]

/-- The DRY bits with their events (R289, R304). -/
def dryUpdate (s : State) : State :=
  forL (dryCauses s).zipIdx (fun e s =>
    let was := fbit s F.SAF_STATE_DRY e.2
    match e.1 with
    | some i =>
      if was then s
      else
        let s := { s with saf := { s.saf with dryIn := SMap.put (fun _ => 0) s.saf.dryIn e.2 i } }
        raise blkSAF 0x03 i e.2 0 (fsetBit s F.SAF_STATE_DRY e.2 true)
    | none =>
      if was then
        let i := SMap.get (fun _ => 0) s.saf.dryIn e.2
        let s := { s with saf := { s.saf with dryIn := SMap.put (fun _ => 0) s.saf.dryIn e.2 0 } }
        raise blkSAF 0x04 i e.2 0 (fsetBit s F.SAF_STATE_DRY e.2 false)
      else s) s

/-- DRYDOWN begins (R290): DRY_LIM applies at once. -/
def dryEnter (s : State) : State :=
  let s := btEnd 4 (setSaf 4 s)
  let s := fset s F.SAF_DRY_LEFT_VAL (fget s F.SAF_TDRY_TDRY)
  let s := { s with saf := { s.saf with dryAck := false, rescued := false } }
  let s := forL (axesOn s) (fun a s => fset (if monitorMode s then s else rampStep a s) F.SAF_AXST_DRY_LIM_IN 1 a) s
  raise blkSAF 0x07 0 (fget s F.SAF_STATE_DRY) (fget s F.SAF_TDRY_TDRY) s

/-! ### Reset -/

/-- R276, R472, R473: the conditions on a reset beside its source. -/
def resetOk (s : State) : Bool :=
  fget s F.SAF_STATE_STATE == 2 && flag s F.SAF_STATE_CONFIRMED && flag s F.SAF_STATE_DIAG_OK && (standing s).isEmpty &&
    (List.range 8).all (fun n => !flag s F.SAF_PSC_ID_EN n || flag s F.SAF_PS_STATUS_UP n) && s.sys.st == .ready &&
    !testCurrent s

/-- A reset from SAFE is accepted (R275, R276, R504). -/
def resetAccept (s : State) : State :=
  let s := fset (dryUpdate s) F.SAF_STATE_CAUSE 0
  let s := if fget s F.SAF_STATE_DRY = 0 then setSaf 3 s else dryEnter s
  let s := forN 8 (fun a s => rampReset a (takeOfs a (setSax a { s.sax a with p0 := none } s))) s
  safOutputs s

/-- A reset request whose source has acted. -/
def resetJudge (s : State) : State := if resetOk s then resetAccept s else raiseFlag s F.SAF_STATE_RESET_REFUSED

/-! ### The safety cycle -/

/-- R280, R282, R283 for axis `a`; `live`: the functions of R504 are evaluated. -/
def axisCycle (live : Bool) (a : Nat) (s : State) : State :=
  if !flag s F.SAF_AX_CFG_EN a then s
  else
    let s := match secOf s a with
      | some i => if !monitorMode s && pageBit s i 4 then raiseFlag s F.SAF_AXST_SEC_LOST a else s
      | none => fset s F.SAF_AXST_SEC_LOST 0 a
    let s := fset (fset s F.SAF_AXST_LEVEL (slsLevel s a) a) F.SAF_AXST_DRY_LIM_IN (dryLim s).toNat a
    if live then
      let s := rampStep a s
      let sos := !safeBit s (fget s F.SAF_AX_SEL_A_SOS_PERM a)
      let x := s.sax a
      let s := setSax a { x with p0 := if sos then some (x.p0.getD (axPos s a)) else none } s
      let near := decide (9 * (s.sax a).lim ≤ 10 * axSpeed s a)
      fset (fset s F.SAF_AXST_SOS_ACT sos.toNat a) F.SAF_AXST_NEAR near.toNat a
    else fset (fset s F.SAF_AXST_SOS_ACT 0 a) F.SAF_AXST_NEAR 0 a

/-- R285 step 2, in each cycle of a test under checking. -/
def btCycle (s : State) : State :=
  match s.saf.bt with
  | none => s
  | some b =>
    let a := b.1
    let mv := (axPos s a - b.2.2.1).natAbs
    let s := fset s F.SAF_BT_STATUS_MOVE (satNat 24 (max mv (fget s F.SAF_BT_STATUS_MOVE)))
    if !b.2.2.2 then s
    else
      let c := fget s F.SAF_AX_CFG_BT_CH a
      let i := fun p => (pageGet s (4 * c + p)).toInt
      let al := 2 * i 0 - i 1 - i 2
      let be := i 1 - i 2
      let cmd := fgetInt s F.SAF_AX_I_RATED_VAL a * fget s F.SAF_AX_BT1_TORQUE a
      if (al * al + 3 * be * be) * 1000000 < 729 * (cmd * cmd) then btEnd 4 s
      else if fget s F.SAF_AX_BT_MOVE_VAL a < mv then btEnd 3 s
      else s

/-- R289: a rise of OVF or UE that has no action. -/
def pltEvents (s : State) : State :=
  let now := bitSet 4 (pltFlag s false) + 16 * bitSet 4 (pltFlag s true)
  let s' := forN 8 (fun k s =>
    let act := flag s (if k < 4 then F.SAF_GEN_OVF_ACT else F.SAF_GEN_UE_ACT)
    if now.testBit k && !s.saf.plt.testBit k && !act then raise blkSAF 0x08 (k % 4) (if k < 4 then 1 else 2) 0 s else s) s
  { s' with saf := { s'.saf with plt := now } }

/-- R276: a rising edge of RESET_SEL. -/
def selEdge (s : State) : State :=
  let now := safeBit s (fget s F.SAF_GEN_RESET_SEL)
  let rose := now && !s.saf.sel
  let s := { s with saf := { s.saf with sel := now } }
  let src := fget s F.SAF_GEN_RESET_SRC
  if rose && fget s F.SAF_STATE_STATE == 2 && (src == 1 || src == 2) then
    (if src = 1 then resetJudge s else raiseFlag s F.SAF_STATE_RESET_REFUSED)
  else s

/-- A host write of RESET that waits is judged at a cycle (R276). -/
def rstCycle (s : State) : State :=
  match s.saf.rst with
  | none => s
  | some ok =>
    let s := { s with saf := { s.saf with rst := none } }
    if ok then resetJudge s else raiseFlag s F.SAF_STATE_RESET_REFUSED

/-- The drydown part of a cycle (R290, R291): a cause that is present voids an ACK. -/
def dryCycle (s : State) : State :=
  let st := fget s F.SAF_STATE_STATE
  let dry := fget s F.SAF_STATE_DRY
  let s := if dry = 0 then s else { s with saf := { s.saf with dryAck := false } }
  if st = 3 ∧ dry ≠ 0 then dryEnter s
  else if st = 4 ∧ dry = 0 then
    (if fget s F.SAF_DRY_LEFT_VAL = 0 then safeStop 0x0A 0 s
     else if flag s F.SAF_GEN_AUTO_RETURN || s.saf.dryAck then setSaf 3 { s with saf := { s.saf with dryAck := false } }
     else s)
  else s

/-- The commanded level of the output that KFB input `k` watches (R287), a switch-off by R274 or R315 included, one by a fault of
the switch not. -/
def kfbCmd (s : State) (k : Nat) : Bool :=
  let i := fget s F.SAF_KFB_CFG_CIDX k
  match fget s F.SAF_KFB_CFG_CKIND k with
  | 0 => fioCmd s i && (!safeOut s i || (safLive s && !flag s F.FIO_GRP_STATUS_FIELD_UV (fioGroup i))) && s.sys.st != .boot
  | 1 => !stoCmd s i
  | _ => sbcCmd s i

/-- The level that KFB input `k` must show (R287). -/
def kfbExpected (s : State) (k : Nat) : Bool := kfbCmd s k != flag s F.SAF_KFB_CFG_MIRROR k

/-- R287: note the inputs in discrepancy whose command has changed since. -/
def kfbScan (s : State) : State :=
  let chg := bitSet 16 (fun k => s.saf.kfbChg.testBit k || (s.saf.kfb.testBit k && kfbCmd s k != s.saf.kfbLvl.testBit k))
  { s with saf := { s.saf with kfbChg := chg } }

/-- R292: the first page after a wake gives the plausibility offsets. -/
def ofsWake (s : State) : State :=
  match s.saf.ofsDue with
  | some w => if w ≤ s.sys.s0 ∧ monitorMode s = false then forN 8 takeOfs { s with saf := { s.saf with ofsDue := none } } else s
  | none => s

/-- SAFETY_CYCLE (R273); `supply`: the window comparator on the island's supply is out of its window, `rb`: a read-back differs
from its command (R295). -/
def safetyCycle (supply rb : Bool) (s : State) : State :=
  let s := { s with saf := { s.saf with bad := putBit (putBit s.saf.bad 3 supply) 4 (s.saf.bad.testBit 4 && rb) } }
  let s := kfbScan (ofsWake s)
  let live := safLive s && !monitorMode s
  let s := forN 8 (axisCycle live) s
  let s := btCycle (dryUpdate (pltEvents s))
  let sos := if live then (match firstOf 8 (sosBad s) with | some a => [(0x04, a)] | none => []) else []
  let cs := standing s
  let rose := cs.filter (fun c => safLive s || !s.saf.stood.contains c.1)
  let s := { s with saf := { s.saf with stood := cs.map (·.1) } }
  let run := rose.filter (fun c => c.1 == 2)
  let s := safeStops (run ++ sos ++ rose.filter (fun c => c.1 != 2)) s
  let s := dryCycle s
  safOutputs (selEdge (rstCycle s))

/-- SAFETY_CYCLE (R273). -/
def execSafetyCycle (t : Nat) (supply rb : Bool) (s : State) : Res :=
  let s := advance t s
  .next (if domainOn s 12 then safetyCycle supply rb s else s)

/-! ### Conditions with a duration -/

/-- SLS_VIOLATION (R280): v_s of axis `a` has been above the monitored limit throughout SLS_T. -/
def execSlsViolation (t : Nat) (a : Fin 8) (s : State) : Res :=
  let s := advance t s
  .next (
    if flag s F.SAF_AX_CFG_EN a.val && safLive s && !monitorMode s && decide ((s.sax a.val).lim < axSpeed s a.val) then safeStop 0x03 a.val s
    else s)

/-- IMPLAUSIBLE (R281): primary and secondary of axis `a` have disagreed throughout PL_T. -/
def execSafImplausible (t : Nat) (a : Fin 8) (s : State) : Res :=
  let s := advance t s
  let i := a.val
  .next (
    match secLive s i with
    | some j =>
      if flag s F.SAF_AX_CFG_EN i && safLive s && !monitorMode s && s.saf.ofsDue.isNone &&
          decide (fget s F.SAF_AX_PL_TOL i * sden s i < (axDiff s i j - (s.sax i).ofs).natAbs) then safeStop 0x05 i s
      else s
    | none => s)

/-- SEC_LOST_CLEAR (R282): the secondary of axis `a` has shown no LOST and FRESH for 1 s. -/
def execSecLostClear (t : Nat) (a : Fin 8) (s : State) : Res :=
  let s := advance t s
  let i := a.val
  .next (
    match secOf s i with
    | some j =>
      if flag s F.SAF_AXST_SEC_LOST i && !monitorMode s && !pageBit s j 4 && pageBit s j 5 then
        takeOfs i (fset s F.SAF_AXST_SEC_LOST 0 i)
      else s
    | none => s)

/-- DRY_SECOND (R290): one second of the RC clock. -/
def execDrySecond (t : Nat) (s : State) : Res :=
  let s := advance t s
  .next (if fget s F.SAF_STATE_STATE = 4 then fset s F.SAF_DRY_LEFT_VAL (fget s F.SAF_DRY_LEFT_VAL - 1) else s)

/-- RESCUE_REQ (R290): DRY_LEFT has reached TRESQ. -/
def rescueReq (s : State) : State :=
  if fget s F.SAF_STATE_STATE = 4 ∧ fget s F.SAF_TRESQ_TRESQ ≠ 0 ∧ fget s F.SAF_DRY_LEFT_VAL ≤ fget s F.SAF_TRESQ_TRESQ ∧
      s.saf.rescued = false then
    raise blkSAF 0x05 0 (fget s F.SAF_DRY_LEFT_VAL) (fget s F.SAF_STATE_DRY) { s with saf := { s.saf with rescued := true } }
  else s

/-- DRY_EXPIRED (R290): DRY_LEFT has reached 0. -/
def execDryExpired (t : Nat) (s : State) : Res :=
  let s := advance t s
  .next (if fget s F.SAF_STATE_STATE = 4 ∧ fget s F.SAF_DRY_LEFT_VAL = 0 then safeStop 0x0A 0 s else s)

/-! ### Host commands -/

/-- R302 step 1; the KEY has been checked. -/
def enterComm (s : State) : State :=
  let st := fget s F.SAF_STATE_STATE
  if (st == 0 || st == 2) && (s.sys.st == .loaded || s.sys.st == .ready || s.sys.st == .safeStop) then safOutputs (setSaf 1 s) else s

/-- R302 step 6 (R275). -/
def exitComm (s : State) : State :=
  if fget s F.SAF_STATE_STATE = 1 then setSaf (if rd s R.SAF_SIG_CALC.addr = s.nv.sigConf then 2 else 0) s else s

/-- A host write of RESET (R276): the next safety cycle judges it. -/
def safReset (s : State) : State :=
  let src := fget s F.SAF_GEN_RESET_SRC
  let acted := src == 0 || (src == 2 && safeBit s (fget s F.SAF_GEN_RESET_SEL))
  { s with saf := { s.saf with rst := some (acted || s.saf.rst == some true) } }

/-- A host write of STOP (R288). -/
def safStop (s : State) : State := if safLive s then safeStop 0x01 0 s else stopRecord 0x01 0 s

/-- A host write of DRY_ACK (R291). -/
def dryAck (s : State) : State :=
  if fget s F.SAF_STATE_STATE = 4 ∧ (dryCauses s).all (fun c => c.isNone) then { s with saf := { s.saf with dryAck := true } } else s

/-- ENTER_COMM (R302). -/
def execEnterComm (h : Via) (s : State) : Res :=
  .next (hostGate h R.SAF_CTL.addr (some 0xC3000001#32) enterComm s)

/-- EXIT_COMM (R302). -/
def execExitComm (h : Via) (s : State) : Res := .next (hostGate h R.SAF_CTL.addr (some 2#32) exitComm s)

/-- SAF_RESET (R276). -/
def execSafReset (h : Via) (s : State) : Res := .next (hostGate h R.SAF_CTL.addr (some 4#32) safReset s)

/-- SAF_STOP (R288). -/
def execSafStop (h : Via) (s : State) : Res := .next (hostGate h R.SAF_CTL.addr (some 8#32) safStop s)

/-- DRY_ACK (R291). -/
def execDryAck (h : Via) (s : State) : Res := .next (hostGate h R.SAF_CTL.addr (some 16#32) dryAck s)

/-- A host write of CONFIRM (R302 step 4). -/
def safConfirm (v : Word) (s : State) : State :=
  if fget s F.SAF_STATE_STATE = 1 ∧ v = rd s R.SAF_SIG_CALC.addr ∧ flag s F.SAF_STATE_SIG_BUSY = false ∧
      flag s F.GLY_STATUS_SAFETY_CLAMP = false then
    raise blkSAF 0x06 0 1 v.toNat (busyUpdate { s with saf := { s.saf with conf := some v } })
  else raise blkSAF 0x06 0 0 v.toNat (raiseFlag s F.SAF_STATE_CONF_REFUSED)

/-- CONFIRM (R302). -/
def execSafConfirm (h : Via) (v : Word) (s : State) : Res := .next (hostGate h R.SAF_CONFIRM.addr (some v) (safConfirm v) s)

/-- CONFIRM_RECORD_DONE (R302, R286): the record holds the signature. -/
def execConfirmRecordDone (t : Nat) (s : State) : Res :=
  let s := advance t s
  .next (
    match s.saf.conf with
    | none => s
    | some v =>
      let s := { s with nv := { s.nv with sigConf := v }, saf := { s.saf with conf := none } }
      let s := forN 8 (fun a s => setPass a ((s.nv.hours : Int) - fget s F.SAF_BTI_INT) s) s
      btUpdate (confUpdate (busyUpdate s)))

/-- SIG_RECOMPUTE_DONE (R301). -/
def execSigRecomputeDone (t : Nat) (s : State) : Res :=
  let s := advance t s
  .next (if s.saf.sig then sigCalc (busyUpdate { s with saf := { s.saf with sig := false } }) else s)

/-! ### Brake test -/

/-- The direction of a test's first phase is negative. -/
def btNeg (s : State) (a : Nat) : Bool := fget s F.SAF_AX_BT1_DIR a == 2

/-- A host write of GO for axis `a` (R285). -/
def btGo (a : Nat) (s : State) : State :=
  let p := fget s F.SAF_AX_CFG_SBC a
  if fget s F.SAF_STATE_STATE == 3 && flag s F.SAF_AX_CFG_EN a && decide (p < 8) && fbit s F.SAF_BRAKE_APPLIED p &&
      !fbit s F.SAF_BRAKE_STO_ASSERTED (fget s F.SAF_AX_CFG_STO a) && pageBit s (fget s F.SAF_AX_CFG_PRI a) 0 && s.saf.bt.isNone &&
      decide (fgetInt s F.SAF_AX_I_RATED_VAL a * fget s F.SAF_AX_BT1_TORQUE a ≤ 95 * 2 ^ 23) then
    let neg := btNeg s a
    let s := wr s R.SAF_BT_STATUS.addr (BitVec.ofNat 32 (a + 8 + 64))
    let s := { s with saf := { s.saf with bt := some (a, neg, axPos s a, false) } }
    raise blkSAF (0x20 + a) a neg.toNat (fget s F.SAF_AX_BT1_TORQUE a) s
  else fset s F.SAF_BT_STATUS_RESULT 5

/-- BT_GO (R285). -/
def execBtGo (h : Via) (a : Fin 8) (s : State) : Res :=
  .next (hostGate h R.SAF_BT_CTL.addr (some (BitVec.ofNat 32 (a.val + 8))) (btGo a.val) s)

/-- BRAKE_TEST_CHECK_START (R285): 50 ms have passed since the test-torque event. -/
def execBrakeTestCheckStart (t : Nat) (s : State) : Res :=
  let s := advance t s
  .next (
    match s.saf.bt with
    | some b => { s with saf := { s.saf with bt := some (b.1, b.2.1, b.2.2.1, true) } }
    | none => s)

/-- BRAKE_TEST_PHASE_END (R285): BT1.TIME has passed in the present phase. -/
def execBrakeTestPhaseEnd (t : Nat) (s : State) : Res :=
  let s := advance t s
  .next (
    match s.saf.bt with
    | none => s
    | some b =>
      let a := b.1
      if fget s F.SAF_AX_BT1_DIR a = 3 ∧ fget s F.SAF_BT_STATUS_PHASE = 1 then
        let s := fset s F.SAF_BT_STATUS_PHASE 2
        let s := { s with saf := { s.saf with bt := some (a, true, b.2.2.1, false) } }
        raise blkSAF (0x20 + a) a 1 (fget s F.SAF_AX_BT1_TORQUE a) s
      else btEnd 2 s)

/-- BT_CANCEL (R285). -/
def execBtCancel (h : Via) (s : State) : Res := .next (hostGate h R.SAF_BT_CTL.addr (some 16#32) (btEnd 4) s)

/-- A host write of CLR_FAIL for axis `a` (R286). -/
def btClrFail (a : Nat) (s : State) : State :=
  if fget s F.SAF_STATE_STATE = 1 then
    let s := { s with nv := { s.nv with btFail := s.nv.btFail &&& ~~~(1#8 <<< a) } }
    btUpdate (setPass a ((s.nv.hours : Int) - fget s F.SAF_BTI_INT - fget s F.SAF_BTI_GRACE) s)
  else s

/-- BT_CLR_FAIL (R286). -/
def execBtClrFail (h : Via) (a : Fin 8) (s : State) : Res :=
  .next (hostGate h R.SAF_BT_CTL.addr (some (BitVec.ofNat 32 (a.val + 32))) (btClrFail a.val) s)

/-- POWERED_HOUR (R286). -/
def execPoweredHour (t : Nat) (s : State) : Res :=
  let s := advance t s
  .next (btUpdate { s with nv := { s.nv with hours := s.nv.hours + 1 } })

/-! ### Proof sessions -/

/-- Path A (port 0) or path B (port 1) of a session is lost. -/
def pathFld (port : Nat) : Fld := if port = 0 then F.SAF_PS_STATUS_PATH_A_LOST else F.SAF_PS_STATUS_PATH_B_LOST

/-- The payload of a PDU that this unit sends (R297). -/
def psPayload (s : State) : List Byte :=
  let b := fun n => BitVec.ofNat 8 n
  let near := bitSet 8 (fun a => flag s F.SAF_AXST_NEAR a)
  let sos := bitSet 8 (fun a => flag s F.SAF_AXST_SOS_ACT a)
  [b (fget s F.SAF_STATE_STATE + 8 * fget s F.SAF_STATE_DRY), b (fget s F.SAF_STATE_CAUSE), b (fget s F.SAF_BRAKE_STO_ASSERTED),
   b (fget s F.SAF_BRAKE_APPLIED), b near, b sos] ++ leBytes 2 (fget s F.FIO_KFB_LEVEL)

/-- Bytes 0x00 to 0x13 of the next PDU of session `n` (R296, R297), which the port completes. -/
def psPdu (n : Nat) (s : State) : List Byte × State :=
  let x := s.ps n
  let seq := match x.sent with | some q => (q + 1) % 2 ^ 32 | none => lns s / 1000 % 2 ^ 32
  let body := [1#8, 0#8] ++ leBytes 2 (fget s F.SAF_PSC_ID_SESSION n) ++ leBytes 4 seq ++ psPayload s
  (body ++ leBytes 4 (crc32c body), setPs n { x with sent := some seq } s)

/-- R298, R350: a sequence number is newer than the last one accepted. -/
def seqNew (last : Option Nat) (q : Nat) : Bool :=
  match last with
  | none => true
  | some l => (let d := (q + 2 ^ 32 - l) % 2 ^ 32; decide (1 ≤ d) && decide (d < 2 ^ 31))

/-- A copy is discarded (R298). -/
def psDiscard (n : Nat) (s : State) : State := bump s F.SAF_PS_CNT_DISCARDED 1 n

/-- Acceptance (R300). -/
def psAccept (n q : Nat) (body : List Byte) (s : State) : State :=
  let s := setPs n { s.ps n with last := some q, payload := BitVec.ofNat 64 (leAt body 8 8) } s
  raiseFlag s F.SAF_PS_STATUS_UP n

/-- R299: the pair of SEQ `q` came within the window, or did not (`ok` false); a SEQ that does not follow the last one starts the
run again. -/
def psRun (n q : Nat) (ok : Bool) (s : State) : State :=
  let x := s.ps n
  let need := max 1 (fget s F.SAF_PSC_CHECK_RECOVER_N n)
  let next := x.pair == some ((q + 2 ^ 32 - 1) % 2 ^ 32)
  let one := fun (port g : Nat) s =>
    let g := if ok then (if next then g + 1 else 1) else 0
    if ok && flag s (pathFld port) n && decide (need ≤ g) then (0, fset s (pathFld port) 0 n) else (g, s)
  let a := one 0 x.good0 s
  let b := one 1 x.good1 a.2
  setPs n { b.2.ps n with good0 := a.1, good1 := b.1, pair := if ok then some q else none } b.2

/-- Remove the window of a SEQ. -/
def psClose (n q : Nat) (s : State) : State := setPs n { s.ps n with wins := (s.ps n).wins.filter (fun w => w.seq != q) } s

/-- PROOF_COPY_RECEIVE (R298, R299): a copy of 32 bytes or more arrives on port 0 ETHA or 1 ETHB. -/
def proofCopy (n port : Nat) (bytes : List Byte) (s : State) : State :=
  let x := s.ps n
  let q := leAt bytes 4 4
  let body := bytes.take 20
  let age : Int := (lns s : Int) - leAt bytes 0x14 8
  let ageOk := decide (-100000 ≤ age) && decide (age ≤ 1000 * (fget s F.SAF_PSC_CHECK_MAX_AGE n : Int))
  let form := decide (32 ≤ bytes.length) && leAt bytes 0 1 == 1 && leAt bytes 1 1 == 0 &&
    crc32c (bytes.take 16) == leAt bytes 16 4 && crc32c (slice bytes 0x14 8) == leAt bytes 0x1C 4 &&
    leAt bytes 2 2 == fget s F.SAF_PSC_ID_SESSION n && ageOk
  let other := 1 - port
  let lostOther := flag s (pathFld other) n
  match x.wins.find? (fun w => w.seq == q) with
  | some w =>
    if !form || w.port == port || !(seqNew x.last q || w.used) then psDiscard n s
    else if w.body != body then safeStop 0x07 n (psClose n q s)
    else
      let s := psClose n q s
      let s := if seqNew x.last q then psAccept n q body s else s
      psRun n q true s
  | none =>
    if !form || !seqNew x.last q then psDiscard n s
    else
      let s := setPs n { x with wins := x.wins ++ [⟨q, port, body, lostOther⟩] } s
      if lostOther then psAccept n q body s else s

/-- PROOF_WINDOW_CLOSE (R299): WIN has passed since the first valid copy of a SEQ. -/
def execProofWindowClose (t : Nat) (n : Fin 8) (seq : Word) (s : State) : Res :=
  let s := advance t s
  let i := n.val
  .next (
    match (s.ps i).wins.find? (fun w => w.seq == seq.toNat) with
    | none => s
    | some w =>
      let s := psRun i seq.toNat false (raiseFlag (psClose i seq.toNat s) (pathFld (1 - w.port)) i)
      if !w.used && seqNew (s.ps i).last w.seq then
        bump (psAccept i w.seq w.body s) F.SAF_PS_CNT_SINGLES 1 i
      else if w.used then bump s F.SAF_PS_CNT_SINGLES 1 i
      else s)

/-- PROOF_WATCHDOG (R300): WD has passed without an acceptance. A session that is UP goes down even where EN has been taken away. -/
def execProofWatchdog (t : Nat) (n : Fin 8) (s : State) : Res :=
  let s := advance t s
  let i := n.val
  .next (
    if !monitorMode s && (flag s F.SAF_PS_STATUS_UP i || (flag s F.SAF_PSC_ID_EN i && safLive s)) then
      safeStop 0x08 i (setPs i { s.ps i with payload := 0 } (fset s F.SAF_PS_STATUS_UP 0 i))
    else s)

/-! ### Contactor feedback -/

/-- KFB_DISCREPANCY (R287): the input has differed throughout DT. -/
def execKfbDiscrepancy (t : Nat) (k : Fin 16) (s : State) : Res :=
  let s := advance t s
  .next (
    if flag s F.SAF_KFB_CFG_EN k.val && fbit s F.FIO_KFB_LEVEL k.val != kfbExpected s k.val then
      let s := if s.saf.kfb.testBit k.val then s
        else
          { s with saf := { s.saf with
              kfb := putBit s.saf.kfb k.val true, kfbLvl := putBit s.saf.kfbLvl k.val (kfbCmd s k.val)
              kfbChg := putBit s.saf.kfbChg k.val false } }
      if kfbHard s k.val && !s.saf.stood.contains 0x09 then
        safeStop 0x09 0 { s with saf := { s.saf with stood := 0x09 :: s.saf.stood } }
      else s
    else s)

/-- KFB_DISCREPANCY_CLEAR (R287): the input has matched throughout DT after a change of the command. -/
def execKfbDiscrepancyClear (t : Nat) (k : Fin 16) (s : State) : Res :=
  let s := kfbScan (advance t s)
  .next (
    if s.saf.kfbChg.testBit k.val && fbit s F.FIO_KFB_LEVEL k.val == kfbExpected s k.val then
      { s with saf := { s.saf with kfb := putBit s.saf.kfb k.val false, kfbChg := putBit s.saf.kfbChg k.val false } }
    else s)

/-! ### Diagnostics -/

/-- A test of R295 has given a result: bit `b` of the self-test causes, with its code; a rise is a cause of R289. -/
def selfTest (b code : Nat) (bad : Bool) (s : State) : State :=
  let was := s.saf.bad.testBit b
  let s := { s with saf := { s.saf with bad := putBit s.saf.bad b bad } }
  if bad && (safLive s || !was) then safeStop code 0 { s with saf := { s.saf with stood := code :: s.saf.stood } } else s

/-- DIAG_PASS (R295): a full pass ends; it found a wrong answer or ROM sum, an uncorrectable memory error, and `ce`
corrected ones. -/
def execDiagPass (t : Nat) (wrong ue : Bool) (ce : Nat) (s : State) : Res :=
  let s := advance t s
  .next (
    if domainOn s 12 then
      let s := fset (raiseFlag s F.SAF_STATE_DIAG_OK) F.SAF_DIAG_PASSES (fget s F.SAF_DIAG_PASSES + 1)
      let s := bump s F.SAF_DIAG_CE ce
      selfTest 2 0x0E wrong (selfTest 1 0x0D ue s)
    else s)

/-- CLOCK_CHECK (R295): `n` SYS cycles in 1 ms of RC time, or AON cycles in 10 ms while SYS is stopped for DOZE. -/
def execClockCheck (t n : Nat) (s : State) : Res :=
  let s := advance t s
  .next (
    if domainOn s 12 then
      let ok := if s.pwr.sysRet then decide (318 ≤ n) && decide (n ≤ 337) || s.pwr.x32Lost
        else decide (242500 ≤ n) && decide (n ≤ 257500)
      let s := if s.pwr.sysRet then s
        else fset s F.SAF_DIAG_RC_DEV (satInt 8 (divRound ((250000 - (n : Int)) * 1000) (max 1 n)))
      selfTest 0 0x0C (!ok) s
    else s)

/-- READBACK_FAULT (R295): a read-back has differed from its command for 1 ms. -/
def execReadbackFault (t : Nat) (s : State) : Res :=
  .next (selfTest 4 0x0B true (advance t s))

/-- FBK_STALL (R295): SYS.IMP_COUNT has not advanced for 1 ms. -/
def execFbkStall (t : Nat) (s : State) : Res :=
  let s := advance t s
  .next (if safLive s && !monitorMode s then safeStop 0x11 0 s else s)

/-! ### DOZE, wake and takeover -/

/-- R292: monitor mode begins. -/
def safDoze (s : State) : State := safOutputs (raiseFlag s F.SAF_STATE_MONITOR)

/-- R292: the wake ends monitor mode; offsets are taken afresh from its first page, and any SEQ is newer (R298). -/
def safWake (s : State) : State :=
  let s := { fset s F.SAF_STATE_MONITOR 0 with saf := { s.saf with ofsDue := some (lns s) } }
  forN 8 (fun n s => setPs n { s.ps n with last := none, wins := [], sent := none } s) s

/-- R275: the safety state after a galley load. -/
def safLoaded (s : State) : State :=
  let s := btUpdate (sigCalc s)
  setSaf (if flag s F.SAF_STATE_CONFIRMED then 2 else 0) s

/-- R293: a takeover brings the restored state `r` of the partner's island, or SAFE with cause SELFTEST. While a test instruction is
current the island does not enter OPERATIONAL or DRYDOWN (R473); the model's choice is SAFE then (log entry 72). -/
def safTakeover (r : Option (Nat × Nat × Nat × Bool × SMap SaxS)) (s : State) : State :=
  match r.filter (fun x => !((x.1 == 3 || x.1 == 4) && testCurrent s)) with
  | some x =>
    let s := fset (setSaf x.1 s) F.SAF_DRY_LEFT_VAL x.2.1
    safOutputs { fset s F.SAF_STATE_DRY x.2.2.1 with saf := { s.saf with rescued := x.2.2.2.1, sax := x.2.2.2.2 } }
  | none => safOutputs (setSaf 2 (fset s F.SAF_STATE_CAUSE 0x0E))

end Sys2Proof.Machine
end

