-- ==== Sys2Proof/Machine/Device.lean ====
section
/-! DEFINITION. Sys2Proof/Machine/Device.lean: device-state requests (R31, R34), and ownership as the rest of the device sees it (R420). -/

namespace Sys2Proof.Machine

/-- The redundancy mode uses the pair signals (R407). -/
def pairMode (s : State) : Bool := fget s F.PAR_CFG_MODE != 0

/-- PAR.STATUS.OWNER, and what depends on ownership (R159, R161). -/
def ownRefresh (s : State) : State :=
  edgRefresh (holdMark Timed.both (s.pins.ownOut && ownIn s)
    (fset s F.PAR_STATUS_OWNER (pairMode s && s.pins.ownOut && !ownIn s).toNat))

/-- OWN_OUT is asserted only under a claim and a heartbeat (R420), held low in FEEDS mode (R407), and driven at its ball alone (R494). -/
def ownDrive (s : State) : State :=
  ownRefresh { s with pins := { s.pins with ownOut := pairMode s && s.par.claim && s.par.beating && hasBall s 0x17 0 } }

/-- A flag of R423 rises with event 0x13. -/
def parRise (f : Fld) (k : Nat) (s : State) : State :=
  if flag s f then s else raise blkPAR 0x13 0 k (fget s F.PAR_ESS_GEN_GEN) (raiseFlag s f)

/-- Flag `f` of R423 follows its condition; its rise raises event 0x13 where `k` numbers it. -/
def parFollow (f : Fld) (k : Nat) (b : Bool) (s : State) : State :=
  if !b then fset s f 0 else if k = 0 then fset s f 1 else parRise f k s

/-- R423: what a lost link and a silent HB_IN mean in the unit's present role. -/
def roleFlags (s : State) : State :=
  let sby := s.sys.st == .standby
  let act := s.par.claim && !sby
  if !pairMode s then s
  else
    let s := parFollow F.PAR_STATUS_STANDBY_LOST 4 (act && s.par.silent) s
    let s := parFollow F.PAR_STATUS_MIRROR_LOST 3 (sby && s.par.down) s
    let s := parFollow F.PAR_STATUS_PEER_MIRROR_LOST 0 (act && s.par.down) s
    if sby && ownIn s && s.par.silent then parRise F.PAR_STATUS_HB_LOST 2 s else s

/-- Set or withdraw the claim. -/
def setClaim (b : Bool) (s : State) : State := roleFlags (ownDrive { s with par := { s.par with claim := b } })

/-- R422: the unit has withdrawn in a conflict, and stays as it is until a device reset. -/
def conflictOut (s : State) : Bool := flag s F.PAR_STATUS_OWN_CONFLICT && !flag s F.PAR_CFG_PREFERRED

/-- A device-state change that the edge engine sees (R159). -/
def toState (d : DevState) (s : State) : State := edgRefresh (setDev d s)

/-- The device enters READY with impressions running. -/
def enterReady (s : State) : State := impStart (toState .ready s)

/-- STANDBY is entered (R31): no impression opens, and the standby counters start from the last positions (R419). -/
def enterStandby (s : State) : State :=
  let s := toState .standby { s with sys := { s.sys with running := false, adjusting := false, open_ := 0 } }
  roleFlags { s with par := { s.par with
      leave := false, release := false, asked := false, handGen := none, sending := none, latches := []
      cnt := s.src.map (fun e => (e.1, e.2.pos)), cntLines := [], cntOfs := [] } }

/-- A request to leave LOADED (R31, R421). In PAIR the preferred unit claims now, and the 200 µs begin in which a claiming unit samples
OWN_IN; the other waits for its claim. -/
def leaveLoaded (s : State) : State :=
  if !pairMode s then enterReady s
  else if s.par.leave then s
  else if ownIn s then enterStandby (setClaim false s)
  else
    let s := holdFrom Timed.leave { s with par := { s.par with leave := true } }
    if flag s F.PAR_CFG_PREFERRED then setClaim true s else s

/-- R31: what RUN requires in READY. -/
def runOk (s : State) : Bool := s.sys.st == .ready && safLive s && ownOk s

/-- Every mover is idle. -/
def moversIdle (s : State) : Bool := (List.range 32).all (fun m => fget s F.PRF_STATE_STATE m == 0)

/-- SYS.CTL.REQ = READY (R31). -/
def reqReady (s : State) : State :=
  if s.sys.st = .loaded ∧ conflictOut s = false then leaveLoaded s
  else if s.sys.st = .run ∧ moversIdle s = true then toState .ready s
  else refuseReq 1 s

/-- SYS.CTL.REQ = RUN (R31): the request waits for the next boundary (R446). -/
def reqRun (s : State) : State := if runOk s then { s with sys := { s.sys with runReq := true } } else refuseReq 2 s

/-- The boundary at which a RUN request is admitted, if its conditions hold (R31). -/
def runBoundary (s : State) : State :=
  if s.sys.runReq then
    (let s := { s with sys := { s.sys with runReq := false } }
     if runOk s then toState .run s else refuseReq 2 s)
  else s

/-- SYS.CTL.REQ = DOZE (R31, R442): the entry begins at the next boundary. -/
def reqDoze (s : State) : State :=
  if s.sys.st = .ready ∧ flag s F.PWR_SAVE_DOZE_OK = true then { s with sys := { s.sys with dozeReq := 1 } } else refuseReq 3 s

/-- SYS.CTL.STOP_ACK (R31). -/
def stopAck (s : State) : State :=
  if s.sys.st = .safeStop ∧ fget s F.SAF_STATE_STATE = 2 ∧ (standing s).isEmpty = true then toState .ready s else refuseReq 8 s

/-- A write of SYS.CTL (R31): REQ, with values 4 to 7 ignored and counted (R64), then STOP_ACK. -/
def sysCtl (ifc : Ifc) (v : Word) (s : State) : State :=
  let s := match bitsOf v 0 3 with
    | 0 => s
    | 1 => reqReady s
    | 2 => reqRun s
    | 3 => reqDoze s
    | _ => hostDrop ifc R.SYS_CTL.addr s
  if bitsOf v 8 1 = 1 then stopAck s else s

/-- The plan's bit of domain `d` in the state that the device is in. A wake powers the domains of steps 3 and 4 of R444 as READY has
them, and PD_ACQ follows after RUN in a takeover (R447); the rest follow with READY. -/
def planBit (s : State) (d : Nat) : Bool :=
  let st := if s.sys.st = .doze ∧ s.pwr.waking = true ∧ (d < 8 ∨ d = 11) then DevState.ready else s.sys.st
  fbit s F.PWR_PD_PLAN_MASK d (st.code - 1) && !(d == 8 && s.sys.st == .takeover)

/-- The start policy of R34 at the end of a load. -/
def startPolicy (s : State) : State :=
  let s := { s with sys := { s.sys with startDue := s.sys.start == 2 } }
  if s.sys.start = 1 ∨ s.sys.start = 2 then leaveLoaded s else s

/-- R34: the RUN request of START 2, once, at a boundary. -/
def startRun (s : State) : State :=
  if s.sys.startDue && s.sys.running && decide (lns s = s.sys.s0) && runOk s then
    reqRun { s with sys := { s.sys with startDue := false } }
  else s

/-- REQ_READY (R31). -/
def execReqReady (h : Via) (s : State) : Res := .next (hostGate h R.SYS_CTL.addr (some 1#32) reqReady s)

/-- REQ_RUN (R31). -/
def execReqRun (h : Via) (s : State) : Res := .next (hostGate h R.SYS_CTL.addr (some 2#32) reqRun s)

/-- REQ_DOZE (R31). -/
def execReqDoze (h : Via) (s : State) : Res := .next (hostGate h R.SYS_CTL.addr (some 3#32) reqDoze s)

/-- STOP_ACK (R31). -/
def execStopAck (h : Via) (s : State) : Res := .next (hostGate h R.SYS_CTL.addr (some 256#32) stopAck s)

/-- START_POLICY_RUN (R34): a boundary at which R31 admits the request. -/
def execStartPolicyRun (t : Nat) (s : State) : Res := .next (startRun (advance t s))

end Sys2Proof.Machine
end

