-- ==== Sys2Proof/Machine/Path.lean ====
section
/-! DEFINITION. Sys2Proof/Machine/Path.lean: path groups (R259 to R263). Geometry is in 2^-32 inc, progress along a
segment in the units of Planner.lean. -/

namespace Sys2Proof.Machine

/-- 2^-32 inc in the units of a `Kin` position. -/
def p32 : Int := 6 * 2 ^ 256

/-- The length of a vector. -/
def vecLen (l : List Int) : Int := isqrtInt ((l.map (fun x => x * x)).foldl (· + ·) 0)

/-- Entry `i` of a list of coordinates. -/
def coord (l : List Int) (i : Nat) : Int := l.getD i 0

/-- END in 2^-32 inc. -/
def PSeg.ends32 (g : PSeg) : List Int := g.ends.map (· * 2 ^ 32)

/-- The segment is an arc. -/
def PSeg.arc (g : PSeg) : Bool := g.ty == 1 || g.ty == 2

/-- An arc's start relative to its centre, its radius and its sweep in 2^-64 turn (R260). -/
structure ArcGeo where
  rx : Int
  ry : Int
  r : Int
  sweep : Nat
  deriving DecidableEq, Repr

/-- The geometry of an arc that starts at `st`. -/
def arcGeo (g : PSeg) (st : List Int) : ArcGeo :=
  let rx := coord st g.pa - g.ca * 2 ^ 32
  let ry := coord st g.pb - g.cb * 2 ^ 32
  let ex := coord g.ends g.pa - g.ca
  let ey := coord g.ends g.pb - g.cb
  let a : Int := angleOf rx ry
  let b : Int := angleOf ex ey
  let d := if g.ty = 1 then a - b else b - a
  ⟨rx, ry, vecLen [rx, ry], (d % (2 ^ 64 : Nat)).toNat⟩

/-- Travel of each member that moves linearly: every member of a line, the members outside the plane of an arc. -/
def linTravel (g : PSeg) (st : List Int) : List Int :=
  st.zipIdx.map (fun e => if g.arc && (e.2 == g.pa || e.2 == g.pb) then 0 else coord g.ends32 e.2 - e.1)

/-- Path length of a segment, in 2^-32 inc (R260). -/
def segLen32 (g : PSeg) (st : List Int) : Int :=
  if g.ty = 3 then 0
  else if g.arc then
    let a := arcGeo g st
    vecLen (a.r * a.sweep * twoPi64 / 2 ^ 128 :: linTravel g st)
  else vecLen (linTravel g st)

/-- Where a segment ends. -/
def segEnd (g : PSeg) (st : List Int) : List Int :=
  if g.ty = 3 then st else st.zipIdx.map (fun e => coord g.ends32 e.2)

/-- The set-point of member `i` at progress `k` along a segment (R261). -/
def memberAt (g : PSeg) (st : List Int) (k : Kin) (i : Nat) : Kin :=
  let len := segLen32 g st
  let here := coord st i
  if g.ty = 3 ∨ len ≤ 0 then ⟨here * p32, 0, 0⟩
  else if g.arc && (i == g.pa || i == g.pb) then
    let a := arcGeo g st
    let ang := (a.sweep * k.p / (len * p32)).toNat
    let q := rotate32 a.rx a.ry (if g.ty = 1 then 2 ^ 64 - ang % 2 ^ 64 else ang)
    let qx := q.1 / 2 ^ 32
    let qy := q.2 / 2 ^ 32
    let w : Int := (if g.ty = 1 then -1 else 1) * (a.sweep * twoPi64 : Nat)
    let dir := if i = g.pa then -qy else qx
    let rel := if i = g.pa then qx else qy
    let ctr := if i = g.pa then g.ca else g.cb
    let p := if k.p = len * p32 then coord g.ends i * 2 ^ 32 else ctr * 2 ^ 32 + rel
    ⟨p * p32, dir * w * k.v / (2 ^ 128 * len),
      dir * w * k.a / (2 ^ 128 * len) -
        rel * w * w * (k.v * k.v) * (2 ^ 32 * aScale : Nat) / (2 ^ 256 * len * len * (vScale * vScale : Nat))⟩
  else
    let d := coord g.ends32 i - here
    ⟨here * p32 + d * k.p / len, d * k.v / len, d * k.a / len⟩

/-! ### The buffer and its look-ahead -/

/-- LEVEL and FULL. -/
def pthLevel (g : Nat) (s : State) : State :=
  let n := (s.pth g).buf.length
  fset (fset s F.PTH_STATUS_LEVEL n g) F.PTH_STATUS_FULL (if n = 64 then 1 else 0) g

/-- R260: the end point of an arc differs from its radius by this much, in 2^-32 inc. -/
def arcMiss (g : PSeg) (st : List Int) : Int :=
  let e := vecLen [(coord g.ends g.pa - g.ca) * 2 ^ 32, (coord g.ends g.pb - g.cb) * 2 ^ 32] - (arcGeo g st).r
  if e < 0 then -e else e

/-- R260: the segments up to the first bad arc, marked as seen, and that arc with its radius difference. -/
def checkArcs (tol : Int) : List PSeg → List Int → List PSeg × Option (PSeg × Int)
  | [], _ => ([], none)
  | g :: r, st =>
    if g.arc && !g.seen && decide (tol * 2 ^ 32 < arcMiss g st) then ([], some (g, arcMiss g st))
    else
      let x := checkArcs tol r (segEnd g st)
      ({ g with seen := true } :: x.1, x.2)

/-- A limit on the speed at a distance ahead; `hold`: the speed may not rise above it from there (an arc). -/
structure SpeedCap where
  at_ : Int
  v : Int
  hold : Bool
  deriving DecidableEq, Repr

/-- √(AP × radius) in velocity units, for a radius in 2^-32 inc (R261). -/
def arcCap (ap : Nat) (r32 : Int) : Int := 2 * isqrtInt (ap * r32 * 2 ^ 352)

/-- R261: the limits that the buffered segments set, from the present segment's start; `vp` is VP × OVR / 1,024 in
velocity units. -/
def capsOf (vp : Int) (ap : Nat) : List PSeg → List Int → Int → List SpeedCap
  | [], _, at_ => [⟨at_, 0, false⟩]
  | g :: r, st, at_ =>
    let e := at_ + segLen32 g st * p32
    let head : List SpeedCap :=
      if g.ty = 3 then [⟨at_, 0, false⟩] else if g.arc then [⟨at_, arcCap ap (arcGeo g st).r, true⟩] else []
    let tail : List SpeedCap := if g.ty = 3 then [] else [⟨e, vp * g.endV / 4096, false⟩]
    head ++ tail ++ capsOf vp ap r (segEnd g st) e

/-- The state where a trajectory of length `len` passes position `p`. -/
def crossing (k : Kin) (tr : Segs) (len : Nat) (p : Int) : Kin :=
  k.along tr (len * lastOk (fun n => decide ((k.along tr (len * n / 2 ^ 40)).p ≤ p)) 40 0 / 2 ^ 40)

/-- The speed that braking from `x` reaches first. -/
def peakV (j : Int) (x : Kin) : Int := x.v + (if 0 < x.a ∧ 0 < j then x.a * x.a / j else 0)

/-- A trajectory that ends at rest meets a speed limit ahead. -/
def capMet (j : Int) (k : Kin) (tr : Segs) (c : SpeedCap) : Bool :=
  if c.at_ < k.p ∨ (k.final tr).p ≤ c.at_ then true
  else
    let x := crossing k tr (segsLen tr) c.at_
    decide ((if c.hold then peakV j x else x.v) ≤ c.v)

/-- The fraction `n`/2^32 of a step on the way to the speed limit, then the fastest change to the speed of cap `c`. -/
def capTrack (l : Lims) (k : Kin) (t : Nat) (c : SpeedCap) (n : Nat) : Segs :=
  let ph := cutSegs (toVel l.j l.a l.d k.v k.a l.v) (t * n / 2 ^ 32)
  let y := k.final ph
  ph ++ toVel l.j l.a l.d y.v y.a (min c.v l.v)

/-- That trajectory meets cap `c`. -/
def capOk (l : Lims) (k : Kin) (t : Nat) (c : SpeedCap) (n : Nat) : Bool :=
  let y := k.final (cutSegs (toVel l.j l.a l.d k.v k.a l.v) (t * n / 2 ^ 32))
  capMet l.j k (capTrack l k t c n) c &&
    (!c.hold || decide (c.at_ ≤ k.p) || decide (y.p < c.at_) || decide (peakV l.j y ≤ c.v))

/-- The plan of each cap that limits this step: toward the speed limit until the last instant from which the cap is
still met at no acceleration. -/
def capPlans (l : Lims) (caps : List SpeedCap) (k : Kin) (t : Nat) : List (SpeedCap × Segs) :=
  (caps.filter (fun c => decide (k.p ≤ c.at_) && !capOk l k t c (2 ^ 32))).map
    (fun c => (c, capTrack l k t c (lastOk (capOk l k t c) 32 0)))

/-- The first of two states along the path. -/
def behind (x y : Kin) : Kin := if x.p < y.p ∨ (x.p = y.p ∧ x.v ≤ y.v) then x else y

/-- The plan of one step along the path under R261: toward the speed limit, or, of the plans of the limits ahead, the
slowest. A limit that the plan of a later one meets by itself does not bind (log entry 15). -/
def pathPlan (l : Lims) (caps : List SpeedCap) (k : Kin) (t : Nat) : Segs :=
  let ps := capPlans l caps k t
  let binds := fun (e : SpeedCap × Segs) => !ps.any (fun f => decide (e.1.at_ < f.1.at_) && capMet l.j k f.2 e.1)
  ((ps.filter binds).map (·.2)).foldl (fun x y => if behind (k.along x t) (k.along y t) = k.along x t then x else y)
    (toVel l.j l.a l.d k.v k.a l.v)

/-- 2^-16 inc: a stop this near to its point is taken as at it. -/
def pathEps : Int := 6 * 2 ^ 272

/-- The path stops at the end of segment `g`, which `r` follows (R261). -/
def stopAfter (g : PSeg) (r : List PSeg) : Bool :=
  match r with
  | [] => true
  | h :: _ => g.endV == 0 || h.ty == 3

/-- One step along the path (R261) from the state `k` in the first of the segments, which starts at `at_`: where the step leaves a
segment its rest is planned anew, under the limits from there on. -/
def pathProgress (l : Lims) (ap t : Nat) : List PSeg → List Int → Int → Kin → Nat → Kin
  | [], _, _, k, done => k.along (toVel l.j l.a l.d k.v k.a l.v) (t - done)
  | g :: r, st, at_, k, done =>
    let e := at_ + segLen32 g st * p32
    let here := if g.arc then { l with v := min l.v (arcCap ap (arcGeo g st).r) } else l
    let tr := pathPlan here (capsOf l.v ap (g :: r) st at_) k (t - done)
    let x := k.along tr (t - done)
    if x.p ≤ e ∨ stopAfter g r = true then x
    else
      let d := lastOk (fun n => decide ((k.along tr n).p ≤ e)) (Nat.log2 (t - done + 1) + 1) 0
      pathProgress l ap t r (segEnd g st) e (k.along tr d) (done + d)

/-- R261: the point at which the path must next stop, from the present segment's start. -/
def nextStop : List PSeg → List Int → Int → Int
  | [], _, at_ => at_
  | g :: r, st, at_ =>
    if g.ty = 3 then at_
    else if stopAfter g r then at_ + segLen32 g st * p32
    else nextStop r (segEnd g st) (at_ + segLen32 g st * p32)

/-- The path cannot come to rest at `p` under its limits without passing it. -/
def overruns (l : Lims) (k : Kin) (p : Int) : Bool :=
  decide (p + pathEps < k.p) || decide (p + pathEps < landing l k)

/-- R262 with R247's third exception: a stop that would pass `p` takes the least deceleration that does not, or
passes `p` and returns. -/
def stopBy (l : Lims) (k : Kin) (p : Int) : Segs :=
  if overruns l k p then (planTo { l with v := max l.v (max k.v (-k.v)) } k p).segs else stopSegs l k

/-- One step of a stop that `p` bounds. -/
def brakeStep (l : Lims) (k : Kin) (p : Int) (t : Nat) : Kin :=
  let tr := stopBy l k p
  let e := k.final tr
  if segsLen tr ≤ t ∧ 0 < l.j then ⟨if -pathEps ≤ e.p - p ∧ e.p - p ≤ pathEps then p else e.p, 0, 0⟩ else k.along tr t

/-! ### A step -/

/-- A segment becomes the one in progress. -/
def segStart (g : Nat) (s : State) : State :=
  match (s.pth g).buf with
  | [] => s
  | x :: _ => raise blkPTH 0x01 g x.tag (s.pth g).buf.length (fset s F.PTH_STATUS_TAG_NOW x.tag g)

/-- Segments whose end the path has passed leave the buffer, one that it stops at when it rests there; `n` bounds
the search. -/
def popPassed (g : Nat) : Nat → State → State
  | 0, s => s
  | n + 1, s =>
    let x := s.pth g
    match x.buf with
    | [] => s
    | y :: r =>
      let len := segLen32 y x.start * p32
      if y.ty = 3 ∨ x.k.p < len ∨ (stopAfter y r = true ∧ ¬(x.k.v = 0 ∧ x.k.a = 0)) then s
      else
        let x := { x with buf := r, start := segEnd y x.start, k := { x.k with p := if r.isEmpty then 0 else x.k.p - len }, dwelt := 0 }
        popPassed g n (segStart g (pthLevel g (setPth g x s)))

/-- The members' set-points. -/
def writeMembers (g : Nat) (s : State) : State :=
  let x := s.pth g
  forL x.axes.zipIdx (fun e s =>
    let k := match x.buf with
      | [] => ⟨coord x.start e.2 * p32, 0, 0⟩
      | y :: _ => memberAt y x.start x.k e.2
    setPrf e.1 { s.prf e.1 with sp := k } s) s

/-- S_REM in whole increments. -/
def segRem (x : PthS) : Nat :=
  match x.buf with
  | [] => 0
  | y :: _ => satNat 32 ((segLen32 y x.start * p32 - x.k.p) / pScale).toNat

/-- The members leave PATH with an outcome and the group is IDLE (R261, R263). -/
def pathEnd (g outcome : Nat) (s : State) : State :=
  let s := writeMembers g s
  let s := forL (s.pth g).axes (fun m s =>
    fset (fset (fset s F.PRF_STATE_STATE 0 m) F.PRF_STATE_OUTCOME outcome m) F.PRF_REMAIN_VAL 0 m) s
  raise blkPTH 0x03 g outcome 0 (pthIdle g s)

/-- Limits of a group (R261, R263). -/
def pthLims (s : State) (g : Nat) : Lims :=
  if fget s F.PTH_STATUS_STATE g = 5 then
    Lims.of 0 (fget s F.PTH_QDP_VAL g) (fget s F.PTH_QDP_VAL g) (fget s F.PTH_QJP_VAL g)
  else
    let l := Lims.of (fget s F.PTH_VP_VAL g) (fget s F.PTH_AP_VAL g) (fget s F.PTH_AP_VAL g) (fget s F.PTH_JP_VAL g)
    { l with v := l.v * fget s F.PTH_OVR_VAL g / 1024 }

/-- R260: an arc off its circle is flushed with what follows it. -/
def arcScan (g : Nat) (s : State) : State :=
  let x := s.pth g
  let c := checkArcs (fget s F.PTH_ARC_TOL_VAL g) x.buf x.start
  let s := pthLevel g (setPth g { x with buf := c.1 } s)
  match c.2 with
  | none => s
  | some b => raise blkPTH 0x04 g b.1.tag (satNat 32 (b.2 / 2 ^ 32).toNat) (raiseFlag s F.PTH_STATUS_ARC_BAD g)

/-- R261: the path has come to rest in RUN where END_V of the segment behind is not 0. -/
def starve (g : Nat) (last : Option PSeg) (s : State) : State :=
  match last with
  | some y => if y.endV != 0 then raise blkPTH 0x02 g y.tag 0 (raiseFlag s F.PTH_STATUS_STARVED g) else s
  | none => s

/-- The last segment of motion that ends at or before position `p` from the present segment's start. -/
def segBefore (p : Int) : List PSeg → List Int → Int → Option PSeg
  | [], _, _ => none
  | g :: r, st, at_ =>
    let e := at_ + segLen32 g st * p32
    if e ≤ p then (match segBefore p r (segEnd g st) e with | some x => some x | none => if g.ty = 3 then none else some g)
    else none

/-- R240 step 3 for a group in motion, over a servo period of `ns`. -/
def pathStep (ns g : Nat) (s : State) : State :=
  let st := fget s F.PTH_STATUS_STATE g
  if st = 0 then s
  else
    let t := nsT ns
    let s := arcScan g s
    let x := s.pth g
    let l := pthLims s g
    let vp := l.v
    let s := fset s F.PTH_STATUS_PAUSED (if st = 1 ∧ fget s F.PTH_OVR_VAL g = 0 then 1 else 0) g
    let dwelling := match x.buf with | y :: _ => y.ty == 3 | [] => false
    let rest := decide (x.k.v = 0) && decide (x.k.a = 0)
    let s :=
      if st = 1 && dwelling then
        (match x.buf with
         | [] => s
         | y :: r =>
           let d := x.dwelt + ns
           if y.dwell * 1000 ≤ d then segStart g (pthLevel g (setPth g { x with buf := r, dwelt := 0, k := ⟨0, 0, 0⟩ } s))
           else setPth g { x with dwelt := d } s)
      else if st = 1 then
        let p := nextStop x.buf x.start 0
        let land := landing l x.k
        let k :=
          if vp ≤ 0 ∨ overruns l x.k p = true ∨ (p ≤ land + pathEps ∧ segsLen (stopSegs l x.k) ≤ t) then brakeStep l x.k p t
          else pathProgress l (fget s F.PTH_AP_VAL g) t x.buf x.start 0 x.k 0
        let s := popPassed g 65 (setPth g { x with k := k } s)
        if k = ⟨p, 0, 0⟩ ∧ ¬(rest = true ∧ x.k.p = p) then starve g (segBefore p x.buf x.start 0) s else s
      else popPassed g 65 (setPth g { x with k := brakeStep l x.k (nextStop x.buf x.start 0) t } s)
    let x := s.pth g
    let rest := decide (x.k.v = 0) && decide (x.k.a = 0)
    let s := fset s F.PTH_S_REM_VAL (segRem x) g
    if x.buf.isEmpty ∧ (st = 1 ∨ st = 2 ∨ st = 3) then pathEnd g 1 s
    else if rest && st == 2 then writeMembers g (fset s F.PTH_STATUS_STATE 3 g)
    else if (rest || x.buf.isEmpty) && st == 4 then pathEnd g 2 s
    else if (rest || x.buf.isEmpty) && st == 5 then pathEnd g 3 s
    else writeMembers g s

/-! ### Commands -/

/-- PUSH (R260): the staging registers go into the buffer. A PUSH that is ignored is counted (R64). -/
def pthPush (ifc : Ifc) (g : Nat) (s : State) : State :=
  let x := s.pth g
  let ty := fget s F.PTH_SEG_TYPE g
  if (ty = 1 ∨ ty = 2) ∧ fget s F.PTH_SEG_PA g = fget s F.PTH_SEG_PB g then hostDrop ifc (R.PTH_CTL.at g) (raiseFlag s F.PTH_STATUS_REFUSED g)
  else if 64 ≤ x.buf.length then hostDrop ifc (R.PTH_CTL.at g) s
  else
    let y : PSeg :=
      { ty := ty, pa := fget s F.PTH_SEG_PA g, pb := fget s F.PTH_SEG_PB g
        endV := fget s F.PTH_SEG_END_V g, tag := fget s F.PTH_SEG_TAG g
        ends := (List.range 4).map (fun i => fpair48 s F.PTH_END_L_VAL F.PTH_END_H_VAL g i)
        ca := fpair48 s F.PTH_CA_L_VAL F.PTH_CA_H_VAL g, cb := fpair48 s F.PTH_CB_L_VAL F.PTH_CB_H_VAL g
        dwell := fget s F.PTH_CA_L_VAL g, seen := false }
    pthLevel g (setPth g { x with buf := x.buf ++ [y] } s)

/-- FLUSH (R260): an idle group's buffer is emptied; of another it is ignored and counted (R64). -/
def pthFlush (ifc : Ifc) (g : Nat) (s : State) : State :=
  if fget s F.PTH_STATUS_STATE g = 0 then pthLevel g (setPth g { s.pth g with buf := [] } s) else hostDrop ifc (R.PTH_CTL.at g) s

/-- A START, HOLD, RESUME, STOP or ABORT enters the group's latch (R249); `code` is its bit in CTL plus 1. -/
def pthLatch (g code skip : Nat) (s : State) : State :=
  match (s.pth g).pend with
  | some ⟨5, _, _⟩ => s
  | _ => setPth g { s.pth g with pend := some ⟨code, skip, rd s (R.PTH_CFG.at g)⟩ } s

/-- A host write of CTL. -/
def pthCmd (g code : Nat) (s : State) : State := pthLatch g code (skipServo s) s

end Sys2Proof.Machine
end

