-- ==== Sys2Proof/Machine/Motion.lean ====
section
/-! DEFINITION. Sys2Proof/Machine/Motion.lean: profile units, accords and the motion step (R240 to R263, R271). -/

namespace Sys2Proof.Machine

/-- T_S in ns (R25). -/
def servoNs (s : State) : Nat := max 1 (npOf s) * tImp s

/-! ### Mover records as the motion unit reads them -/

/-- What R242, R243, R235 and R251 take of the record of mover `m` (R220): POS_NXT, v̂ and FALLBACK. -/
structure MotRec where
  p : Int
  v : Int
  fallback : Bool
  deriving DecidableEq, Repr

/-- Read it. -/
def motRec (m : Nat) (s : State) : MotRec × State :=
  let base := fget s F.MOV_REC_INDEX m
  let r0 := readSram 6 base s
  let r1 := readSram 6 (base + 1) r0.2
  let r2 := readSram 6 (base + 2) r1.2
  let r6 := readSram 6 (base + 6) r2.2
  let r7 := readSram 6 (base + 7) r6.2
  let r14 := readSram 6 (base + 14) r7.2
  let q := sgn 48 (r0.1 % 2 ^ 24 * 2 ^ 24 + r1.1 % 2 ^ 24)
  let v := sgn 32 (r6.1 % 256 * 2 ^ 24 + r7.1 % 2 ^ 24)
  (⟨q * pScale + (r2.1 / 256 % 65536) * (pScale / 65536), v * (vScale / 256), r14.1.testBit 0⟩, r14.2)

/-- R242, R251: the position of a record carried to the next servo-period boundary. -/
def recNext (ns : Nat) (s : State) (r : MotRec) : Kin := ((⟨r.p, r.v, 0⟩ : Kin).run 0 (nsT (ns - tImp s)))

/-! ### Profiles -/

/-- The limits of unit `m` with speed limit `v`: those of a STOP and of a move (R244, R246). -/
def prfLims (s : State) (m v : Nat) : Lims :=
  Lims.of v (fget s F.PRF_AMAX_VAL m) (fget s F.PRF_DMAX_VAL m) (fget s F.PRF_JMAX_VAL m)

/-- The limits of an ABORT (R246). -/
def abortLims (s : State) (m : Nat) : Lims :=
  Lims.of (fget s F.PRF_VMAX_VAL m) (fget s F.PRF_QDEC_VAL m) (fget s F.PRF_QDEC_VAL m) (fget s F.PRF_QJERK_VAL m)

/-- V of R244: FB_VMAX bounds it in fallback. -/
def prfV (s : State) (m : Nat) (fallback : Bool) : Nat :=
  if fallback then min (fget s F.PRF_VMAX_VAL m) (fget s F.MOV_FB_VMAX_VAL m) else fget s F.PRF_VMAX_VAL m

/-- A stop that the limits do not allow has no end: it keeps its speed. -/
def stopPlan (l : Lims) (k : Kin) : Segs × Bool :=
  if k.v = 0 ∧ k.a = 0 then ([], false)
  else if l.j ≤ 0 then ([], true)
  else if l.d ≤ 0 then ([(if k.a < 0 then l.j else -l.j, durOf (if k.a < 0 then -k.a else k.a) l.j)], true)
  else (stopSegs l k, false)

/-- Plan a stop of unit `m` from its set-point (R246). -/
def planStop (m : Nat) (l : Lims) (s : State) : State :=
  let x := s.prf m
  let p := stopPlan l x.sp
  setPrf m { x with segs := p.1, base := x.sp, el := 0, goal := (x.sp.final p.1).p, endless := p.2, lims := l } s

/-- Plan a move of unit `m` to its goal, with the flags of R247. -/
def planMove (m : Nat) (l : Lims) (s : State) : State :=
  let x := s.prf m
  let r := planTo l x.sp x.goal
  let s := setPrf m { x with segs := r.segs, base := x.sp, el := 0, endless := r.endless, lims := l } s
  let s := if r.dmax then raiseFlag s F.PRF_STATE_DMAX_EXCEEDED m else s
  if r.past then
    raise blkPRF 0x03 m (unsgn 32 (x.goal / pScale)) (unsgn 32 (spInt x.sp)) (raiseFlag s F.PRF_STATE_OVERSHOOT m)
  else s

/-- Plan a jog of unit `m` (R246). -/
def planJog (m : Nat) (l : Lims) (s : State) : State :=
  let x := s.prf m
  setPrf m { x with segs := toVel l.j l.a l.d x.sp.v x.sp.a (if x.neg then -l.v else l.v), base := x.sp, el := 0
                    endless := true, lims := l } s

/-- The limits in force of unit `m` in state `st`. -/
def unitLims (s : State) (m st : Nat) (fallback : Bool) : Lims :=
  if st = 4 then abortLims s m
  else if st = 3 then prfLims s m (fget s F.PRF_VMAX_VAL m)
  else prfLims s m (prfV s m fallback)

/-- R247: plan again under limits that have changed. -/
def replan (m st : Nat) (l : Lims) (s : State) : State :=
  if (s.prf m).lims = l then s
  else if st = 1 then planMove m l s
  else if st = 2 then planJog m l s
  else planStop m l s

/-- The plan's end is reached within the present step. -/
def endsNow (x : PrfS) (ns : Nat) : Bool := !x.endless && decide (segsLen x.segs ≤ nsT (x.el + ns))

/-- The path group that mover `m` is a member of. -/
def pthOf (s : State) (m : Nat) : Option Nat :=
  (List.range 8).find? (fun g => fget s F.PTH_STATUS_STATE g != 0 && (s.pth g).axes.contains m)

/-- R245: one step along the plan. -/
def prfAdvance (m st ns : Nat) (s : State) : State :=
  let x := s.prf m
  if endsNow x ns then
    prfEnd m (if st = 1 then 1 else if st = 3 then 2 else 3) (setPrf m { x with sp := ⟨x.goal, 0, 0⟩, segs := [], el := 0 } s)
  else
    let el := x.el + ns
    let s := setPrf m { x with sp := x.base.along x.segs (nsT el), el := el } s
    if x.endless then (let v := openVal 2 s; fset v.2 F.PRF_REMAIN_VAL v.1 m)
    else
      let n := (segsLen x.segs * 1000000000 + tScale - 1) / tScale
      fset s F.PRF_REMAIN_VAL (satNat 32 ((n - el + max 1 ns - 1) / max 1 ns)) m

/-- R240 step 2 for unit `m`; a member of a path that aborts (R246) moves with its path. -/
def prfEval (ns m : Nat) (s : State) : State :=
  let st := fget s F.PRF_STATE_STATE m
  let r := if fget s F.MOV_CFG_TYPE m = 0 then ((⟨0, 0, false⟩ : MotRec), s) else motRec m s
  let s := r.2
  let s := fset s F.PRF_STATE_FB_LIMITED (r.1.fallback && decide (fget s F.MOV_FB_VMAX_VAL m < fget s F.PRF_VMAX_VAL m)).toNat m
  if st = 0 then s
  else if st ≤ 4 && (pthOf s m).isNone then prfAdvance m st ns (replan m st (unitLims s m st r.1.fallback) s)
  else (let v := openVal 2 s; fset v.2 F.PRF_REMAIN_VAL v.1 m)

/-- R248: the move of unit `m` completes in this step, under the limits now in force. -/
def moveEnds (ns m : Nat) (s : State) : Bool :=
  let x := s.prf m
  let l := unitLims s m 1 (fget s F.MOV_CFG_TYPE m != 0 && (motRec m s).1.fallback)
  if x.lims = l then endsNow x ns
  else (let r := planTo l x.sp x.goal; endsNow { x with segs := r.segs, el := 0, endless := r.endless } ns)

/-- CMDRES, with the event of a refusal. -/
def prfRes (m code res : Nat) (s : State) : State :=
  let s := fset s F.PRF_STATE_CMDRES res m
  if 2 ≤ res ∧ res ≤ 4 then raise blkPRF 0x02 m res code s else s

/-- The accord that drives mover `m` or is armed to: neither OFF nor BROKEN. -/
def acdOf (s : State) (m : Nat) : Option Nat :=
  (List.range 16).find? (fun a =>
    let st := fget s F.ACD_STATUS_STATE a
    st != 0 && st != 5 && bitsOf (s.acd a).cfg 2 5 == m)

/-- An admitted ABORT (R246, R258, R263). -/
def prfAbort (ns m st : Nat) (s : State) : State :=
  let s := match acdOf s m with | some a => acdBreak a 1 s | none => s
  if st = 0 then prfRes m 6 5 s
  else if st = 1 && moveEnds ns m s then prfRes m 6 5 s
  else if st = 4 then prfRes m 6 1 s
  else if st = 6 then
    (match pthOf s m with
     | some g => prfRes m 6 1 (fset (fset s F.PTH_STATUS_STATE 5 g) F.PRF_STATE_STATE 4 m)
     | none => prfRes m 6 1 s)
  else prfRes m 6 1 (planStop m (abortLims s m) (fset s F.PRF_STATE_STATE 4 m))

/-- An admitted STOP (R246, R248). -/
def prfStop (ns m st : Nat) (s : State) : State :=
  if st = 0 then prfRes m 5 6 s
  else if st = 1 && moveEnds ns m s then prfRes m 5 6 s
  else if st ≤ 2 then prfRes m 5 1 (planStop m (prfLims s m (fget s F.PRF_VMAX_VAL m)) (fset s F.PRF_STATE_STATE 3 m))
  else if st = 3 then prfRes m 5 1 s
  else prfRes m 5 (if st = 4 then 2 else 3) s

/-- An admitted MOVE_ABS, MOVE_REL, JOG_POS or JOG_NEG (R246). -/
def prfMove (m st code : Nat) (s : State) : State :=
  let x := s.prf m
  if 5 ≤ st then prfRes m code 3 s
  else if st != 0 then prfRes m code 2 s
  else if fget s F.PRF_VMAX_VAL m = 0 ∨ fget s F.PRF_AMAX_VAL m = 0 ∨ fget s F.PRF_DMAX_VAL m = 0 ∨ fget s F.PRF_JMAX_VAL m = 0 then
    prfRes m code 4 s
  else
    let s := prfRes m code 1 s
    let l := prfLims s m (fget s F.PRF_VMAX_VAL m)
    let tgt := fpair48 s F.PRF_TGT_L_VAL F.PRF_TGT_H_VAL m * pScale
    if code ≤ 2 then
      planMove m l (setPrf m { x with goal := if code = 1 then tgt else x.sp.p + tgt } (fset s F.PRF_STATE_STATE 1 m))
    else planJog m l (setPrf m { x with neg := decide (code = 4) } (fset s F.PRF_STATE_STATE 2 m))

/-- R246: a command is admitted. -/
def prfJudge (ns m code : Nat) (s : State) : State :=
  let st := fget s F.PRF_STATE_STATE m
  if s.sys.st != .run then prfRes m code 3 s
  else if code = 6 then prfAbort ns m st s
  else if code = 5 then prfStop ns m st s
  else prfMove m st code s

/-- R249: the pending command of unit `m` at a servo-period boundary. -/
def prfAdmit (ns m : Nat) (s : State) : State :=
  match (s.prf m).pend with
  | none => s
  | some c =>
    if c.skip = 0 then prfJudge ns m c.code (setPrf m { s.prf m with pend := none } s)
    else setPrf m { s.prf m with pend := some { c with skip := c.skip - 1 } } s

/-- R249: a command enters the latch of unit `m`, to pass `skip` boundaries first. -/
def prfLatch (m code skip : Nat) (s : State) : State :=
  if code = 0 ∨ 7 ≤ code then s
  else
    match (s.prf m).pend with
    | some c => if c.code = 6 then s else setPrf m { s.prf m with pend := some ⟨code, skip, 0⟩ } (raiseFlag s F.PRF_STATE_CMD_REPLACED m)
    | none => setPrf m { s.prf m with pend := some ⟨code, skip, 0⟩ } s

/-- A host write of CMD. -/
def prfCmd (m code : Nat) (s : State) : State := prfLatch m code (skipServo s) s

/-! ### Accords -/

/-- A cam table word, in inc. -/
def camWord (k i : Nat) (s : State) : Int × State :=
  let r := readSram 6 (fget s F.SYS_CAM_BASE_INDEX + 2048 * k + i) s
  (sgn 32 r.1, r.2)

/-- R253: y, dy/dx and d²y/dx², each times 2^80, at x (in `Kin` units) of cam table `k`. -/
def camEval (k : Nat) (cyclic : Bool) (clen : Nat) (x : Int) (s : State) : (Int × Int × Int) × State :=
  let n : Int := if cyclic then 1024 else 1023
  let cl : Int := max 1 clen
  let span : Int := cl * pScale
  let beyond := !cyclic && (decide (x < 0) || decide (span < x))
  let xr := if cyclic then x % span else clampInt 0 span x
  let w := n * xr
  let i := if cyclic then w / span else min (w / span) 1022
  let u := (w - i * span) * 2 ^ 80 / span
  let j := if cyclic then (i + 1) % 1024 else i + 1
  let y0 := camWord k (2 * i.toNat) s
  let d0 := camWord k (2 * i.toNat + 1) y0.2
  let y1 := camWord k (2 * j.toNat) d0.2
  let d1 := camWord k (2 * j.toNat + 1) y1.2
  let o : Int := 2 ^ 80
  let u2 := u * u / o
  let u3 := u2 * u / o
  let y := (2 * u3 - 3 * u2 + o) * y0.1 + (u3 - 2 * u2 + u) * d0.1 + (3 * u2 - 2 * u3) * y1.1 + (u3 - u2) * d1.1
  let dy := (6 * u2 - 6 * u) * y0.1 + (3 * u2 - 4 * u + o) * d0.1 + (6 * u - 6 * u2) * y1.1 + (3 * u2 - 2 * u) * d1.1
  let dd := (12 * u - 6 * o) * y0.1 + (6 * u - 4 * o) * d0.1 + (6 * o - 12 * u) * y1.1 + (6 * u - 2 * o) * d1.1
  (if beyond then ((if x < 0 then y0.1 else y1.1) * o, 0, 0) else (y, dy * n / cl, dd * n * n / (cl * cl)), d1.2)

/-- A field of an accord's CFG as ENGAGE read it. -/
def AcdS.kind (x : AcdS) : Nat := bitsOf x.cfg 0 2
def AcdS.slave (x : AcdS) : Nat := bitsOf x.cfg 2 5
def AcdS.mkind (x : AcdS) : Nat := bitsOf x.cfg 8 2
def AcdS.master (x : AcdS) : Nat := bitsOf x.cfg 10 7
def AcdS.engMode (x : AcdS) : Nat := bitsOf x.cfg 23 2

/-- R251: M with its speed and acceleration, and LAG. -/
def master (ns a : Nat) (s : State) : (Kin × Bool) × State :=
  let x := s.acd a
  if x.mkind = 0 then
    let m := x.master % 32
    let later := fun (n : Option Nat) => match n with | some b => decide (a < b) | none => false
    let live := match acdOf s m with | some b => if fget s F.ACD_STATUS_STATE b = 1 then none else some b | none => none
    let lag := later live || later (pthOf s m)
    ((if lag then (s.prf m).prev else (s.prf m).sp, lag), s)
  else if x.mkind = 1 then
    let r := motRec (x.master % 32) s
    ((recNext ns s r.1, false), r.2)
  else
    let b := srcBlock x.master
    let w := fun k => (pageGet s (b + k)).toNat
    let p := sgn 48 (w 0 * 2 ^ 24 + w 1)
    let v := sgn 32 (w 4 % 256 * 2 ^ 24 + w 5)
    (((⟨p * pScale, v * (vScale / 256), 0⟩ : Kin).run 0 (nsT (ns + w 6)), false), s)

/-- R252: L with its derivatives for a master value. A TANDEM accord has no law. -/
def lawOf (a : Nat) (m : Kin) (s : State) : Kin × State :=
  let x := s.acd a
  if x.kind = 1 then
    let n := x.num.toInt
    let d : Int := max 1 x.den.toNat
    (⟨x.s0 + (m.p - x.m0) * n / d, m.v * n / d, m.a * n / d⟩, s)
  else
    let mc := fpair48 s F.ACD_MC_L_VAL F.ACD_MC_H_VAL a * pScale
    let ofs := fpair48 s F.ACD_OFS_L_VAL F.ACD_OFS_H_VAL a * pScale
    let cs := fgetInt s F.ACD_CSCALE_VAL a
    let r := camEval (bitsOf x.cfg 18 4) (x.cfg.getLsbD 22) (fget s F.ACD_CLEN_VAL a) (m.p - mc) s
    let o : Int := 2 ^ 96
    (⟨ofs + cs * r.1.1 * pScale / o, cs * r.1.2.1 * m.v / o,
      cs * r.1.2.2 * (m.v * m.v) * aScale / (o * (vScale * vScale : Nat)) + cs * r.1.2.1 * m.a / o⟩, r.2)

/-- ENG limits. -/
def engLims (s : State) (a : Nat) : Lims :=
  Lims.of (fget s F.ACD_ENG_V_VAL a) (fget s F.ACD_ENG_A_VAL a) (fget s F.ACD_ENG_A_VAL a) (fget s F.ACD_ENG_J_VAL a)

/-- Plan the catch-up of accord `a` from `c` (R254). -/
def planCatch (a : Nat) (c : Kin) (s : State) : State :=
  let x := s.acd a
  let l := engLims s a
  let segs := if x.pos then (planTo l c 0).segs else (stopPlan l c).1
  let endless := if x.pos then (planTo l c 0).endless else (stopPlan l c).2
  setAcd a { x with c := c, segs := segs, base := c, el := 0, endless := endless && (c != ⟨0, 0, 0⟩), lims := l, cDone := false } s

/-- One step of the catch-up term (R254). -/
def catchStep (ns a : Nat) (s : State) : State :=
  let x := s.acd a
  if x.cDone then s
  else
    let s := if x.lims = engLims s a then s else planCatch a x.c s
    let x := s.acd a
    let el := x.el + ns
    if !x.endless && decide (segsLen x.segs ≤ nsT el) then
      let e := x.base.final x.segs
      setAcd a { x with c := if x.pos then ⟨0, 0, 0⟩ else ⟨e.p, 0, 0⟩, el := el } s
    else setAcd a { x with c := x.base.along x.segs (nsT el), el := el } s

/-- The catch-up has reached its end: SYNC 0 adds where it stands to S_0 (R254). -/
def catchEnd (a : Nat) (mp : Int) (s : State) : State :=
  let x := s.acd a
  if !x.cDone && !x.endless && decide (segsLen x.segs ≤ nsT x.el) then
    let s := setAcd a { x with s0 := x.s0 + x.c.p, c := ⟨0, 0, 0⟩, cDone := true } s
    if fget s F.ACD_STATUS_STATE a = 2 then
      raise blkACD 0x01 a x.slave (unsgn 32 (mp / pScale)) (fset s F.ACD_STATUS_STATE 3 a)
    else s
  else s

/-- LAW_L and LAW_H. -/
def putLaw (a : Nat) (l : Kin) (s : State) : State :=
  let v := unsgn 64 (spFix l)
  fset (fset s F.ACD_LAW_L_VAL v a) F.ACD_LAW_H_VAL (v / 2 ^ 32) a

/-- R257: OVER_V and OVER_A. -/
def overScan (a : Nat) (s : State) : State :=
  let x := s.acd a
  let m := x.slave
  let sp := (s.prf m).sp
  let mag := fun (v : Int) => v.natAbs
  let ov := decide (fget s F.PRF_VMAX_VAL m < mag (spVel sp))
  let oa := decide (max (fget s F.PRF_AMAX_VAL m) (fget s F.PRF_DMAX_VAL m) < mag (spAcc sp))
  let vf := unsgn 32 (spVel sp)
  let s := if ov then raiseFlag s F.ACD_STATUS_OVER_V a else s
  let s := if oa then raiseFlag s F.ACD_STATUS_OVER_A a else s
  let s := if ov && !x.overV then raise blkACD 0x03 a 1 vf s else s
  let s := if oa && !x.overA then raise blkACD 0x03 a 2 vf s else s
  setAcd a { s.acd a with overV := ov, overA := oa } s

/-- The slave's set-point is L + c (R254). -/
def follow (a : Nat) (l : Kin) (s : State) : State :=
  let x := s.acd a
  let y := s.prf x.slave
  overScan a (putLaw a l (setPrf x.slave { y with sp := ⟨l.p + x.c.p, l.v + x.c.v, l.a + x.c.a⟩ } s))

/-- R252: σ of a TANDEM accord moves toward SH_TGT, in word 10 of the slave's parameter block. -/
def tandem (a : Nat) (s : State) : State :=
  let i := fget s F.MOV_PBASE_INDEX (s.acd a).slave + 10
  let r := readSram 6 i s
  let s := r.2
  let cur := r.1 % 2 ^ 24
  let tgt := fget s F.ACD_SH_TGT_VAL a
  let rate := fget s F.ACD_SH_RATE_VAL a
  let next := if rate = 0 then tgt else if cur < tgt then min tgt (cur + rate) else max tgt (cur - rate)
  writeSram i next s

/-- R254: engagement begins. -/
def engage (a : Nat) (mk : Kin) (s : State) : State :=
  let x := s.acd a
  if x.kind = 3 then
    let s := setAcd a { x with cDone := true } (fset s F.ACD_STATUS_STATE 3 a)
    tandem a (raise blkACD 0x01 a x.slave (unsgn 32 (mk.p / pScale)) s)
  else
    let st := fget s F.PRF_STATE_STATE x.slave
    let s := if st = 0 then s else prfEnd x.slave 4 s
    let s := fset s F.PRF_STATE_STATE 5 x.slave
    let sp := (s.prf x.slave).sp
    let s := setAcd a { x with s0 := sp.p, m0 := mk.p, num := rd s (R.ACD_NUM.at a), den := rd s (R.ACD_DEN.at a)
                               pos := x.kind == 2 || x.cfg.getLsbD 17 } (fset s F.ACD_STATUS_STATE 2 a)
    let l := lawOf a mk s
    let s := planCatch a ⟨sp.p - l.1.p, sp.v - l.1.v, sp.a - l.1.a⟩ l.2
    follow a l.1 (catchEnd a mk.p s)

/-- R256: the accord goes OFF; a slave that follows it stops. -/
def acdOff (a : Nat) (s : State) : State :=
  let m := (s.acd a).slave
  let s := fset s F.ACD_STATUS_STATE 0 a
  if fget s F.PRF_STATE_STATE m = 5 then
    let sp := (s.prf m).sp
    let s := planStop m (prfLims s m (fget s F.PRF_VMAX_VAL m)) (fset s F.PRF_STATE_STATE 3 m)
    if sp.v = 0 ∧ sp.a = 0 then prfEnd m 2 s else s
  else s

/-- R255: NUM or DEN has changed. -/
def reanchor (a : Nat) (mk l : Kin) (s : State) : Kin × State :=
  let x := s.acd a
  let num := rd s (R.ACD_NUM.at a)
  let den := rd s (R.ACD_DEN.at a)
  if x.kind = 1 ∧ (x.num ≠ num ∨ x.den ≠ den) ∧ fget s F.ACD_STATUS_STATE a ≠ 4 then
    let s := setAcd a { x with s0 := l.p, m0 := mk.p, num := num, den := den, pos := false } s
    let n := lawOf a mk s
    (n.1, planCatch a ⟨x.c.p, x.c.v + l.v - n.1.v, x.c.a + l.a - n.1.a⟩ (fset n.2 F.ACD_STATUS_STATE 2 a))
  else (l, s)

/-- M crosses a position in the sense of R197 between two steps. -/
def mCross (mode : Nat) (old : Option Int) (new v : Int) : Bool :=
  match old with
  | none => false
  | some o => (mode == 1 && decide (o < v) && decide (v ≤ new)) || (mode == 2 && decide (new ≤ v) && decide (v < o))

/-- R240 step 4 for accord `a`. -/
def acdEval (ns a : Nat) (s : State) : State :=
  let st := fget s F.ACD_STATUS_STATE a
  if st = 0 ∨ st = 5 then s
  else
    let r := master ns a s
    let mk := r.1.1
    let s := fset r.2 F.ACD_STATUS_LAG r.1.2.toNat a
    let x := s.acd a
    let s := setAcd a { x with m := some mk.p } s
    if st = 1 then
      let epos := fpair48 s F.ACD_EPOS_L_VAL F.ACD_EPOS_H_VAL a * pScale
      if x.engMode = 0 ∨ x.engMode = 3 ∨ mCross x.engMode x.m mk.p epos then engage a mk s else s
    else if st = 4 ∧ mCross x.dis x.m mk.p (fpair48 s F.ACD_DPOS_L_VAL F.ACD_DPOS_H_VAL a * pScale) then
      let m := x.slave
      let led := fget s F.PRF_STATE_STATE m = 5
      let s := acdOff a s
      if led ∧ fget s F.PRF_STATE_STATE m = 3 then prfAdvance m 3 ns s else s
    else if x.kind = 3 then tandem a s
    else
      let l := lawOf a mk s
      let s := catchStep ns a l.2
      let n := reanchor a mk l.1 s
      let s := follow a n.1 n.2
      catchEnd a mk.p s

/-- A path group in motion has mover `m`, or an accord that is not OFF has it as slave (R254, R259). -/
def taken (s : State) (m : Nat) (self : Nat) : Bool :=
  (pthOf s m).isSome ||
    (List.range 16).any (fun a => a != self && fget s F.ACD_STATUS_STATE a != 0 && (s.acd a).slave == m)

/-- ENGAGE is admitted (R254). -/
def acdEngage (a : Nat) (cfg : Word) (s : State) : State :=
  let st := fget s F.ACD_STATUS_STATE a
  let x : AcdS := { s.acd a with cfg := cfg, m := none, overV := false, overA := false }
  let u := fget s F.PRF_STATE_STATE x.slave
  let badMaster := x.mkind == 3 || (decide (x.mkind ≤ 1) && decide (32 ≤ x.master))
  if s.sys.st != .run || (st != 0 && st != 5) || (u != 0 && u != 1) || taken s x.slave a || x.kind == 0 || badMaster then
    raiseFlag s F.ACD_STATUS_REFUSED a
  else setAcd a x (fset s F.ACD_STATUS_STATE 1 a)

/-- DISENGAGE is admitted (R256); `cfg` holds DIS_MODE as the write read it. -/
def acdDisengage (a : Nat) (cfg : Word) (s : State) : State :=
  let st := fget s F.ACD_STATUS_STATE a
  let dis := bitsOf cfg 25 2
  if s.sys.st != .run || st == 0 then raiseFlag s F.ACD_STATUS_REFUSED a
  else if (dis = 1 ∨ dis = 2) ∧ 2 ≤ st ∧ st ≤ 4 then setAcd a { s.acd a with dis := dis } (fset s F.ACD_STATUS_STATE 4 a)
  else acdOff a s

/-- R249: the pending command of accord `a`: 1 ENGAGE, 2 DISENGAGE. -/
def acdAdmit (a : Nat) (s : State) : State :=
  match (s.acd a).pend with
  | none => s
  | some c =>
    if c.skip != 0 then setAcd a { s.acd a with pend := some { c with skip := c.skip - 1 } } s
    else
      let s := setAcd a { s.acd a with pend := none } s
      if c.code = 1 then acdEngage a c.cfg s else acdDisengage a c.cfg s

/-- A write of ENGAGE or DISENGAGE: CFG is read, and the command enters the latch (R254, R256, R249). -/
def acdLatch (a code skip : Nat) (s : State) : State :=
  setAcd a { s.acd a with pend := some ⟨code, skip, rd s (R.ACD_CFG.at a)⟩ } s

/-- A host write of CTL. -/
def acdCmd (a code : Nat) (s : State) : State := acdLatch a code (skipServo s) s

/-! ### Path commands -/

/-- The members that CFG names. -/
def axesOf (cfg : Word) : List Nat := (List.range (bitsOf cfg 0 2 + 1)).map (fun i => bitsOf cfg (2 + 5 * i) 5)

/-- The entries of a list are distinct. -/
def distinct : List Nat → Bool
  | [] => true
  | x :: r => !r.contains x && distinct r

/-- START is admitted (R259). -/
def pthStart (g : Nat) (cfg : Word) (s : State) : State :=
  let ax := axesOf cfg
  let x := s.pth g
  if s.sys.st != .run || fget s F.PTH_STATUS_STATE g != 0 || x.buf.isEmpty || bitsOf cfg 0 2 == 0 || !distinct ax ||
      ax.any (fun m => fget s F.PRF_STATE_STATE m != 0 || taken s m 16) then raiseFlag s F.PTH_STATUS_REFUSED g
  else
    let s := setPth g { x with axes := ax, start := ax.map (fun m => (s.prf m).sp.p / p32), k := ⟨0, 0, 0⟩, dwelt := 0 } s
    let s := forL ax (fun m s => fset s F.PRF_STATE_STATE 6 m) (fset s F.PTH_STATUS_STATE 1 g)
    segStart g s

/-- HOLD, RESUME, STOP or ABORT is admitted (R263). -/
def pthJudge (g code : Nat) (s : State) : State :=
  let st := fget s F.PTH_STATUS_STATE g
  let go := fun n => fset s F.PTH_STATUS_STATE n g
  if s.sys.st != .run then raiseFlag s F.PTH_STATUS_REFUSED g
  else if code = 2 ∧ st = 1 then go 2
  else if code = 3 ∧ (st = 2 ∨ st = 3) then go 1
  else if code = 4 ∧ (1 ≤ st ∧ st ≤ 3) then go 4
  else if code = 5 ∧ (1 ≤ st ∧ st ≤ 4) then go 5
  else raiseFlag s F.PTH_STATUS_REFUSED g

/-- R249: the pending command of group `g`. -/
def pthAdmit (g : Nat) (s : State) : State :=
  match (s.pth g).pend with
  | none => s
  | some c =>
    if c.skip != 0 then setPth g { s.pth g with pend := some { c with skip := c.skip - 1 } } s
    else
      let s := setPth g { s.pth g with pend := none } s
      if c.code = 1 then pthStart g c.cfg s else pthJudge g c.code s

/-! ### The motion step -/

/-- R242: outside RUN the set-point of unit `m` tracks its mover. -/
def track (ns m : Nat) (s : State) : State :=
  if fget s F.MOV_CFG_TYPE m = 0 then s
  else
    let r := motRec m s
    let k := recNext ns r.2 r.1
    setPrf m { r.2.prf m with sp := ⟨k.p, 0, 0⟩ } r.2

/-- R241: the set-point block of mover `m`, and the registers that show it. -/
def putBlock (m : Nat) (s : State) : State :=
  if fget s F.MOV_CFG_TYPE m = 0 then s
  else
    let k := (s.prf m).sp
    let p := spFix k
    let v := satInt 32 (spVel k)
    let a := satInt 32 (spAcc k)
    let w := fun (n : Nat) => unsgn 32 (sgn 24 n)
    let hi := fun (n : Nat) => unsgn 32 (sgn 8 (n / 2 ^ 24))
    let b := fget s F.PRF_SPBASE_INDEX m
    let q := unsgn 48 (p / 65536)
    let ic := (impCount s + max 1 (npOf s)) % 2 ^ 32
    let s := forL [w (q / 2 ^ 24), w q, w (unsgn 16 p * 256), hi v, w v, hi a, w a, w ic].zipIdx (fun e s => writeSram (b + e.2) e.1 s) s
    let s := fset (fset s F.PRF_SP_L_VAL (unsgn 32 p) m) F.PRF_SP_H_VAL (unsgn 32 (p / 2 ^ 32)) m
    fset (fset s F.PRF_SPV_VAL v m) F.PRF_SPA_VAL a m

/-- R243: the first step in RUN after an essence restore. A member of a path stops along it (`afterRestore`). -/
def takeoverStop (m : Nat) (s : State) : State :=
  let st := fget s F.PRF_STATE_STATE m
  let mark := fun s => raiseFlag (fset s F.PRF_STATE_OUTCOME 2 m) F.PRF_STATE_TAKEOVER_STOP m
  if st = 0 then s
  else if (pthOf s m).isSome then mark s
  else
    let r := motRec m s
    let s := setPrf m { r.2.prf m with sp := ⟨r.1.p, r.1.v, 0⟩ } r.2
    let s := planStop m (prfLims s m (fget s F.PRF_VMAX_VAL m)) (fset s F.PRF_STATE_STATE 3 m)
    mark s

/-- R243 for all units. -/
def afterRestore (s : State) : State :=
  let s := forN 32 takeoverStop { s with mot := { s.mot with restored := false } }
  let s := forN 16 (fun a s => if fget s F.ACD_STATUS_STATE a = 0 ∨ fget s F.ACD_STATUS_STATE a = 5 then s else acdBreak a 3 s) s
  forN 8 (fun g s => if fget s F.PTH_STATUS_STATE g = 0 then s else fset s F.PTH_STATUS_STATE 4 g) s

/-- R240: the motion step at a servo-period boundary. -/
def motionStep (s : State) : State :=
  let ns := servoNs s
  let run := s.sys.st == .run
  let s := if run && s.mot.restored then afterRestore s else s
  let s := if run then s else forN 32 (track ns) s
  let s := forN 32 (fun m s => setPrf m { s.prf m with prev := (s.prf m).sp } s) s
  let s := forN 8 pthAdmit (forN 16 acdAdmit s)
  let s := forN 32 (prfAdmit ns) s
  let s := if run then forN 16 (acdEval ns) (forN 8 (pathStep ns) (forN 32 (prfEval ns) s)) else s
  forN 32 putBlock s

/-! ### Rows -/

/-- The word of a command register with one command bit or code. -/
def cmdWord (n : Nat) : Option Word := some (BitVec.ofNat 32 n)

/-- MOVE_ABS (R246, R249). -/
def execMoveAbs (h : Via) (m : Fin 32) (s : State) : Res :=
  .next (hostGate h (R.PRF_CMD.at m.val) (cmdWord 1) (prfCmd m.val 1) s)

/-- MOVE_REL (R246, R249). -/
def execMoveRel (h : Via) (m : Fin 32) (s : State) : Res :=
  .next (hostGate h (R.PRF_CMD.at m.val) (cmdWord 2) (prfCmd m.val 2) s)

/-- JOG_POS (R246, R249). -/
def execJogPos (h : Via) (m : Fin 32) (s : State) : Res :=
  .next (hostGate h (R.PRF_CMD.at m.val) (cmdWord 3) (prfCmd m.val 3) s)

/-- JOG_NEG (R246, R249). -/
def execJogNeg (h : Via) (m : Fin 32) (s : State) : Res :=
  .next (hostGate h (R.PRF_CMD.at m.val) (cmdWord 4) (prfCmd m.val 4) s)

/-- PRF_STOP (R246, R249). -/
def execPrfStop (h : Via) (m : Fin 32) (s : State) : Res :=
  .next (hostGate h (R.PRF_CMD.at m.val) (cmdWord 5) (prfCmd m.val 5) s)

/-- PRF_ABORT (R246, R249). -/
def execPrfAbort (h : Via) (m : Fin 32) (s : State) : Res :=
  .next (hostGate h (R.PRF_CMD.at m.val) (cmdWord 6) (prfCmd m.val 6) s)

/-- ENGAGE (R254, R249). -/
def execAcdEngage (h : Via) (a : Fin 16) (s : State) : Res :=
  .next (hostGate h (R.ACD_CTL.at a.val) (cmdWord 1) (acdCmd a.val 1) s)

/-- DISENGAGE (R256, R249). -/
def execAcdDisengage (h : Via) (a : Fin 16) (s : State) : Res :=
  .next (hostGate h (R.ACD_CTL.at a.val) (cmdWord 2) (acdCmd a.val 2) s)

/-- PTH_START (R259, R249). -/
def execPthStart (h : Via) (g : Fin 8) (s : State) : Res :=
  .next (hostGate h (R.PTH_CTL.at g.val) (cmdWord 1) (pthCmd g.val 1) s)

/-- PTH_HOLD (R263, R249). -/
def execPthHold (h : Via) (g : Fin 8) (s : State) : Res :=
  .next (hostGate h (R.PTH_CTL.at g.val) (cmdWord 2) (pthCmd g.val 2) s)

/-- PTH_RESUME (R263, R249). -/
def execPthResume (h : Via) (g : Fin 8) (s : State) : Res :=
  .next (hostGate h (R.PTH_CTL.at g.val) (cmdWord 4) (pthCmd g.val 3) s)

/-- PTH_STOP (R263, R249). -/
def execPthStop (h : Via) (g : Fin 8) (s : State) : Res :=
  .next (hostGate h (R.PTH_CTL.at g.val) (cmdWord 8) (pthCmd g.val 4) s)

/-- PTH_ABORT (R263, R249). -/
def execPthAbort (h : Via) (g : Fin 8) (s : State) : Res :=
  .next (hostGate h (R.PTH_CTL.at g.val) (cmdWord 16) (pthCmd g.val 5) s)

/-- PUSH (R260). -/
def execPthPush (h : Via) (g : Fin 8) (s : State) : Res :=
  .next (hostGate h (R.PTH_CTL.at g.val) (cmdWord 32) (pthPush h.ifc g.val) s)

/-- PTH_FLUSH (R260). -/
def execPthFlush (h : Via) (g : Fin 8) (s : State) : Res :=
  .next (hostGate h (R.PTH_CTL.at g.val) (cmdWord 64) (pthFlush h.ifc g.val) s)

end Sys2Proof.Machine
end

