-- ==== Sys2Proof/Machine/Rescue.lean ====
section
/-! DEFINITION. Sys2Proof/Machine/Rescue.lean: rescue runs (R428 to R430). -/

namespace Sys2Proof.Machine

/-- The state of the rescue of mover `m`. -/
def rescState (s : State) (m : Nat) : Nat := fget s F.PAR_RSCM_STATE_STATE m

/-- A rescue state change with its event (R432) and ACTIVE (R429); without a zone the second word is a free value. -/
def rescSet (m st : Nat) (zone : Option Int) (s : State) : State :=
  let s := holdMark (Timed.hold m) (st == 1) (fset s F.PAR_RSCM_STATE_STATE st m)
  let s := fset s F.PAR_STATUS_ACTIVE (rescueActive s).toNat
  match zone with
  | some z => raise blkPAR 0x20 m st (unsgn 32 z) s
  | none => raise blkPAR 0x20 m st (Config.eventWord blkPAR 0x20 1 s.free) (drawn s)

/-- The release bit of the mover's axis (R430). -/
def rescBrake (m : Nat) (rel : Bool) (s : State) : State := fsetBit s F.SAF_BRAKE_REL (fget s F.PAR_RSCM_CFG_AXIS m) rel

/-- Word `j` of the record of mover `m` (R220); a poisoned block reads 0. -/
def recPeek (s : State) (m j : Nat) : Nat :=
  let a := sramAt (fget s F.MOV_REC_INDEX m + j)
  if poisoned s a then 0 else memNat s a 4

/-- i_HOLD of the record, in 2^-23. -/
def recHold (s : State) (m : Nat) : Int := sgn 24 (recPeek s m 13)

/-- The door zones of mover `m`, in the order of the table (R430). -/
def zonesOf (m : Nat) : Nat → Nat → State → List Int × State
  | 0, _, s => ([], s)
  | n + 1, w, s =>
    let lo := readSram 6 w s
    let hi := readSram 6 (w + 1) lo.2
    let rest := zonesOf m n (w + 2) hi.2
    (if hi.1 / 2 ^ 24 % 32 = m then sgn 48 (lo.1 + hi.1 % 2 ^ 16 * 2 ^ 32) :: rest.1 else rest.1, rest.2)

/-- The first of the values nearest to `p`. -/
def nearestTo (p : Int) : List Int → Option Int
  | [] => none
  | z :: r =>
    match nearestTo p r with
    | some y => if (y - p).natAbs < (z - p).natAbs then some y else some z
    | none => some z

/-- The nearest zone from `p` in direction `neg`. -/
def zoneToward (p : Int) (neg : Bool) (zs : List Int) : Option Int :=
  nearestTo p (zs.filter (fun z => if neg then decide (z ≤ p) else decide (p ≤ z)))

/-- i_N, in 2^-23 (R430): `hold` is i_HOLD, or none when BAL stands for it in every direction. -/
def rescLoad (s : State) (m : Nat) (hold : Option Int) (neg : Bool) : Nat :=
  let fric := fget s F.PAR_RSCM_I_FRIC_VAL m
  match hold with
  | none => fric + fget s F.PAR_RSCM_BAL_VAL m
  | some h =>
    if h = 0 ∨ (0 < h ∧ neg = true) ∨ (h < 0 ∧ neg = false) then max (fric - h.natAbs) (fget s F.PAR_RSCM_I_MIN_VAL m)
    else fric + h.natAbs

/-- v_E in 1/256 inc/s (R430 step 3); a load or KPW of 0 leaves it open. -/
def rescEnergy (s : State) (m load : Nat) : Int × State :=
  let u := fget s F.SDM_AIN_VAL_AVG (fget s F.PAR_RSC_BATT_U_AIN) * fget s F.PAR_RSC_SCALE_U_SC
  let i := fget s F.SDM_AIN_VAL_AVG (fget s F.PAR_RSC_BATT_I_AIN) * fget s F.PAR_RSC_SCALE_I_SC
  let p : Int := u * (2560 * (fget s F.PAR_RSC_BATT_I_MAX : Int) - i)
  let k := fget s F.PAR_RSCM_KPW_VAL m * load
  if k = 0 then (let v := openVal 11 s; ((v.1 : Int), v.2)) else (p * 2 ^ 31 / (1000 * k), s)

/-- 0.9 of the axis's monitored limit, in 1/256 inc/s. -/
def rescLimit (s : State) (m : Nat) : Nat := 9 * (s.sax (fget s F.PAR_RSCM_CFG_AXIS m)).lim / (10 * 2 ^ 32)

/-- No rescue, and nothing planned. -/
def noResc : RescS := ⟨0, 0, false⟩

/-- A rescue of mover `m` has planned nothing that still waits for its boundary. -/
def rescTaken (s : State) (m : Nat) : Bool := (SMap.get (fun _ => noResc) s.par.rescNew m).vmax == 0

/-- Steps 2 to 5 of R430 for mover `m`: `hold` is the i_HOLD it uses, if there is one. The result waits for the next impression
boundary (R30), in `par.rescNew` with VMAX one higher, so that 0 means none. -/
def rescPlan (m : Nat) (hold : Option Int) (noHold : Bool) (s : State) : State :=
  let z := zonesOf m (fget s F.PAR_RSC_ZCOUNT) (fget s F.PAR_RSC_ZBASE_INDEX) s
  let s := fset z.2 F.PAR_RSCM_STATE_NO_HOLD noHold.toNat m
  let p := spInt (s.prf m).sp
  let near := nearestTo p z.1
  let neg := match hold with
    | none => flag s F.PAR_RSCM_CFG_FB_DIR m
    | some h =>
      if h.natAbs < fget s F.PAR_RSCM_BAL_VAL m ∨ h = 0 then (match near with | some q => decide (q < p) | none => false)
      else decide (0 < h)
  let tgt := match zoneToward p neg z.1 with
    | some q => some (q, neg)
    | none => (zoneToward p (!neg) z.1).map (fun q => (q, !neg))
  match tgt with
  | none => rescSet m 4 none (rescBrake m false s)
  | some (q, neg) =>
    let e := rescEnergy s m (rescLoad s m hold neg)
    let s := fset e.2 F.PAR_RSCM_STATE_DIR neg.toNat m
    let v := min e.1 (min (fget s F.PAR_RSCM_VRES_VAL m : Int) (rescLimit s m))
    if v < (fget s F.PAR_RSCM_VMIN_VAL m : Int) then rescSet m 5 (some q) (rescBrake m false s)
    else
      rescSet m 2 (some q) { s with par := { s.par with
        resc := SMap.put (fun _ => noResc) s.par.resc m ⟨fget s F.PRF_VMAX_VAL m, q, false⟩
        rescNew := SMap.put (fun _ => noResc) s.par.rescNew m ⟨satNat 32 v.toNat + 1, q, false⟩ } }

/-- R30: at an impression boundary what a rescue has planned for mover `m` takes effect: VMAX and MOVE_ABS (R430 step 5). -/
def rescApply (m : Nat) (s : State) : State :=
  let x := SMap.get (fun _ => noResc) s.par.rescNew m
  if x.vmax = 0 then s
  else
    let s := { s with par := { s.par with rescNew := SMap.put (fun _ => noResc) s.par.rescNew m noResc } }
    let s := fset s F.PRF_VMAX_VAL (x.vmax - 1) m
    let s := fset (fset s F.PRF_TGT_L_VAL (unsgn 32 x.zone) m) F.PRF_TGT_H_VAL (unsgn 16 (x.zone / 2 ^ 32)) m
    prfCmd m 1 s

/-- The last i_HOLD of mover `m` if it is less than 24 h old. -/
def holdKept (s : State) (m : Nat) : Option Int :=
  match SMap.get (fun _ => (0, 0)) s.par.hold m with
  | (_, 0) => none
  | (h, t) => if lns s < t - 1 + 86400000000000 then some h else none

/-- R430 step 1: mover `m` plans without a fresh measurement. -/
def rescBlind (m : Nat) (s : State) : State := rescPlan m (holdKept s m) true s

/-- HOLDING begins for mover `m` (R430 step 1); a mover in fallback does not wait. -/
def rescHold (m : Nat) (s : State) : State :=
  let s := fset (fset s F.PAR_RSCM_STATE_DIR 0 m) F.PAR_RSCM_STATE_NO_HOLD 0 m
  let s := rescSet m 1 none (rescBrake m true s)
  let s := if fget s F.PRF_STATE_STATE m = 0 then s else prfCmd m 5 s
  if (recPeek s m 14).testBit 0 then rescBlind m s else s

/-- Waiting movers begin, at most MAXPAR at once, in ascending index. -/
def rescNext : Nat → State → State
  | 0, s => s
  | n + 1, s =>
    let busy := ((List.range 32).filter (fun m => rescState s m == 1 || rescState s m == 2)).length
    match s.par.resq with
    | [] => s
    | m :: r =>
      if busy < fget s F.PAR_RSC_MAXPAR then rescNext n (rescHold m { s with par := { s.par with resq := r } }) else s

/-- A rescue trigger (R429). -/
def rescTrigger (s : State) : State :=
  if s.sys.st = .doze then wakeEvent 32 { s with par := { s.par with rescDue := true } }
  else
    let ms := (List.range 32).filter (fun m => flag s F.PAR_RSCM_CFG_EN m && rescState s m != 1 && rescState s m != 2)
    if ownOk s && safLive s then
      let s := { s with par := { s.par with resq := (List.range 32).filter (fun m => ms.contains m || s.par.resq.contains m) } }
      let s := if s.sys.st = .ready ∧ flag s F.PAR_RSC_AUTO_RUN = true then reqRun s else s
      rescNext 32 s
    else forL ms (fun m => rescSet m 6 none) s

/-- R430 steps 6 and 7, after the motion step: the move of a running rescue is over, or the STOP of a low battery has been admitted. An
end other than DONE is ABORTED; a move that completes as the STOP is admitted is DONE (R248). -/
def rescEnd (m : Nat) (s : State) : State :=
  let x := SMap.get (fun _ => noResc) s.par.resc m
  if rescState s m = 2 ∧ rescTaken s m = true ∧ (s.prf m).pend.isNone = true ∧ (fget s F.PRF_STATE_STATE m = 0 ∨ x.stop = true) then
    if fget s F.PRF_STATE_STATE m = 0 ∧ fget s F.PRF_STATE_CMDRES m = 1 ∧ fget s F.PRF_STATE_OUTCOME m = 1 then
      rescSet m 3 (some x.zone) (fset (rescBrake m false s) F.PRF_VMAX_VAL x.vmax m)
    else rescSet m 4 (some x.zone) s
  else s

/-- U_B of R430 is below U_STOP. -/
def battLow (s : State) : Bool :=
  decide (fget s F.SDM_AIN_VAL_AVG (fget s F.PAR_RSC_BATT_U_AIN) * fget s F.PAR_RSC_SCALE_U_SC < 2560 * fget s F.PAR_RSC_VOLT_U_STOP)

/-- Rescues whose move is over end, and waiting movers begin. -/
def rescScan (s : State) : State := rescNext 32 (forN 32 rescEnd s)

/-- The last i_HOLD published with HOLD_VALID, by mover (R430 step 1). -/
def holdScan1 (s : State) : State :=
  forN 32 (fun m s =>
    if fget s F.MOV_CFG_TYPE m != 0 && (recPeek s m 14).testBit 3 then
      { s with par := { s.par with hold := SMap.put (fun _ => (0, 0)) s.par.hold m (recHold s m, lns s + 1) } }
    else s) s

/-- RESCUE_TRIGGER (R429): every feed in use has reported battery operation for BATT_T. -/
def execRescueTrigger (t : Nat) (s : State) : Res :=
  let s := advance t s
  .next (if allBatt s && heldFor Timed.allBatt (1000000000 * fget s F.PAR_RSC_BATT_T) s then rescTrigger s else s)

/-- RESCUE_GO (R429). -/
def execRescueGo (h : Via) (s : State) : Res := .next (hostGate h R.PAR_RSC.addr (some 1#32) rescTrigger s)

/-- RESCUE_REQ (R290, R429): the island raises RESCUE_REQ once in a drydown. -/
def execRescueReq (t : Nat) (s : State) : Res :=
  let s := advance t s
  let s' := rescueReq s
  .next (if s'.saf.rescued && !s.saf.rescued then rescTrigger s' else s')

/-- RESCUE_HOLD_VALID (R430): the record of a holding mover shows HOLD_VALID. -/
def execRescueHoldValid (t : Nat) (m : Fin 32) (errs : List MemErr) (s : State) : Res :=
  let s := noteErrs errs (advance t s)
  .next (if rescState s m.val = 1 ∧ (recPeek s m.val 14).testBit 3 = true then
      rescNext 32 (rescPlan m.val (some (recHold s m.val)) false s) else s)

/-- RESCUE_HOLD_TIMEOUT (R430): 2 s have passed without HOLD_VALID. -/
def execRescueHoldTimeout (t : Nat) (m : Fin 32) (errs : List MemErr) (s : State) : Res :=
  let s := noteErrs errs (advance t s)
  .next (if rescState s m.val = 1 ∧ heldFor (Timed.hold m) 2000000000 s = true then rescNext 32 (rescBlind m.val s) else s)

/-- The STOP of R430 step 6 for a running rescue, which ends once that has been admitted; a move not yet admitted never is, and the rescue
ends at once. -/
def rescAbort (m : Nat) (s : State) : State :=
  let x := SMap.get (fun _ => noResc) s.par.resc m
  if rescState s m ≠ 2 ∨ x.stop = true then s
  else if rescTaken s m && (s.prf m).pend.isNone then
    prfCmd m 5 { s with par := { s.par with resc := SMap.put (fun _ => noResc) s.par.resc m { x with stop := true } } }
  else
    rescSet m 4 (some x.zone)
      (prfCmd m 5 { s with par := { s.par with rescNew := SMap.put (fun _ => noResc) s.par.rescNew m noResc } })

/-- RESCUE_UNDERVOLTAGE (R430 step 6): U_B has been below U_STOP for 100 ms. -/
def execRescueUndervoltage (t : Nat) (s : State) : Res :=
  let s := advance t s
  .next (if battLow s && heldFor Timed.stop 100000000 s then rescNext 32 (forN 32 rescAbort s) else s)

end Sys2Proof.Machine
end

