-- ==== Sys2Proof/Machine/Track.lean ====
section
/-! DEFINITION. Sys2Proof/Machine/Track.lean: movers' parameter blocks and requests, and the track unit
(R204 to R239). Lengths are in increments. -/

namespace Sys2Proof.Machine

/-- Segment `j` of track `k`. -/
def segOf (s : State) (k j : Nat) : SegS := SMap.get (fun _ => SegS.init) s.trk.seg (64 * k + j)

/-- The state of segment `j` of track `k` (R225). -/
def segSt (s : State) (k j : Nat) : Nat := nget s.trk.st (64 * k + j)

/-- Segments of track `k`. -/
def nseg (s : State) (k : Nat) : Nat := fget s F.SYS_TRK_CFG_NSEG k

/-- [B_j, B_j+1) of segment `j` (R222). -/
def segSpan (s : State) (k j : Nat) : Int × Int :=
  let b := (segOf s k j).b
  (b, if j + 1 = nseg s k then b + nget s.trk.lastLen k else (segOf s k (j + 1)).b)

/-- L_T of a closed track. -/
def trackLen (s : State) (k : Nat) : Int := (segSpan s k (nseg s k - 1)).2 - (segSpan s k 0).1

/-- CLOSED with a length to close on. -/
def trackClosed (s : State) (k : Nat) : Bool := flag s F.SYS_TRK_CFG_CLOSED k && decide (0 < trackLen s k)

/-- What the track unit reads of a mover record (R220, R223). -/
structure MovRec where
  m : Nat
  /-- integer part of POS_NXT, reduced on a closed track, and its fraction in 1/65,536 -/
  q : Int
  frac : Nat
  /-- bits [31:0] of POS_NXT's integer part as the record has it -/
  qRaw : Nat
  iF : Nat
  iD : Nat
  fallback : Bool
  w15 : Nat
  stale : Bool
  deriving DecidableEq, Repr

/-- A word of main SRAM as the track unit reads it: a poisoned block reads 0 (R459). -/
def trkWord (i : Nat) (s : State) : Nat × State := readSram 6 i s

/-- The record of mover `m` on track `k`. -/
def readRec (k m : Nat) (s : State) : MovRec × State :=
  let base := fget s F.MOV_REC_INDEX m
  let r0 := trkWord base s
  let r1 := trkWord (base + 1) r0.2
  let r2 := trkWord (base + 2) r1.2
  let r8 := trkWord (base + 8) r2.2
  let r9 := trkWord (base + 9) r8.2
  let r14 := trkWord (base + 14) r9.2
  let r15 := trkWord (base + 15) r14.2
  let s := r15.2
  let q := sgn 48 (r0.1 % 2 ^ 24 * 2 ^ 24 + r1.1 % 2 ^ 24)
  let b0 := (segSpan s k 0).1
  ({ m := m, q := if trackClosed s k then b0 + (q - b0) % trackLen s k else q, frac := r2.1 / 256 % 65536
     qRaw := unsgn 32 q, iF := r8.1, iD := r9.1, fallback := r14.1.testBit 0, w15 := r15.1
     stale := r15.1 % 2 ^ 24 != s.sys.s0 % 2 ^ 24 }, s)

/-- The movers of track `k`. -/
def moversOf (s : State) (k : Nat) : List Nat :=
  (List.range 32).filter (fun m => fget s F.MOV_CFG_TYPE m == 3 && fget s F.MOV_CFG_TRACK m == k)

/-- The records of a list of movers. -/
def readRecs (k : Nat) : List Nat → State → List MovRec × State
  | [], s => ([], s)
  | m :: ms, s =>
    let r := readRec k m s
    let rs := readRecs k ms r.2
    (r.1 :: rs.1, rs.2)

/-- The length of the intersection of two half-open intervals. -/
def overlap1 (a b c d : Int) : Nat := (min b d - max a c).toNat

/-- ℓ_j of R224. -/
def overlap (s : State) (k j : Nat) (r : MovRec) : Nat :=
  if r.stale then 0
  else
    let sp := segSpan s k j
    let la : Int := fget s F.SYS_TRK_LA_VAL k
    let one := fun q => overlap1 sp.1 sp.2 q (q + la)
    one r.q + (if trackClosed s k then one (r.q - trackLen s k) else 0)

/-- The gap between a mover's array and the span of segment `j`; 0 when they touch or overlap. -/
def nearGap (s : State) (k j : Nat) (r : MovRec) : Nat :=
  let sp := segSpan s k j
  let la : Int := fget s F.SYS_TRK_LA_VAL k
  let one := fun q => (max (sp.1 - (q + la)) (q - sp.2)).toNat
  if trackClosed s k then min (one r.q) (min (one (r.q - trackLen s k)) (one (r.q + trackLen s k))) else one r.q

/-- R226: the mover is near segment `j`. -/
def isNear (s : State) (k j : Nat) (r : MovRec) : Bool :=
  !r.stale && (overlap s k j r != 0 || decide (nearGap s k j r ≤ fget s F.SYS_TRK_APPR_VAL k))

/-- The first of the records for which `f` is least. -/
def leastBy (f : MovRec → Nat) : List MovRec → Option MovRec
  | [] => none
  | r :: rs =>
    match leastBy f rs with
    | none => some r
    | some x => if f x < f r then some x else some r

/-- R226: the serving mover. Two that overlap serve neither. -/
def serving (s : State) (k j : Nat) (rs : List MovRec) : Option MovRec :=
  match rs.filter (fun r => overlap s k j r != 0) with
  | [r] => some r
  | [] => leastBy (nearGap s k j) (rs.filter (isNear s k j))
  | _ => none

/-- R226, R225: the next state of segment `j`. -/
def nextSeg (s : State) (k j : Nat) (rs : List MovRec) : Nat :=
  let la := fget s F.SYS_TRK_LA_VAL k
  let sv := serving s k j rs
  let ov := match sv with | some r => overlap s k j r | none => 0
  let near := rs.any (isNear s k j)
  let idle := if near then 1 else 0
  let fb := match sv with | some r => r.fallback | none => false
  let drive := if fb then 5 else 2
  let reached := decide (fget s F.SYS_TRK_WIN_W_ON k * la ≤ 4096 * ov)
  let left := decide (4096 * ov < fget s F.SYS_TRK_WIN_W_OFF k * la)
  let bit := fun (lo hi : Fld) => if j < 32 then fbit s lo j k else fbit s hi (j - 32) k
  let st := segSt s k j
  if bit F.SYS_TRK_OFFLINE_L_SEG F.SYS_TRK_OFFLINE_H_SEG then 7
  else if bit F.SYS_TRK_FAULT_L_SEG F.SYS_TRK_FAULT_H_SEG then 4
  else if 2 ≤ (rs.filter (fun r => overlap s k j r != 0)).length then 6
  else if st = 4 ∨ st = 6 ∨ st = 7 ∨ st = 0 then idle
  else if st = 1 then (if reached && sv.isSome then drive else idle)
  else if (st = 2 ∨ st = 5) ∧ left then 3
  else if st = 2 then drive
  else if st = 5 then (if fb then 5 else 1)
  else if reached && sv.isSome then drive
  else if max 1 (fget s F.SYS_TRK_DRAIN_N k) ≤ nget s.trk.drain (64 * k + j) + 1 then idle
  else 3

/-- Store a segment's state, its field and its event (R226, R239). -/
def putSeg (k j n : Nat) (sv : Option MovRec) (s : State) : State :=
  let o := segSt s k j
  let key := 64 * k + j
  let ch := (segOf s k j).ch
  let d := if n = 3 ∧ o = 3 then nget s.trk.drain key + 1 else 0
  let s := { s with trk := { s.trk with st := nput s.trk.st key n, drain := nput s.trk.drain key d, next := nput s.trk.next ch n } }
  let a := R.SYS_TRK_SEGSTATE.at k (j / 8)
  let s := wr s a (setBits (rd s a) (4 * (j % 8)) 3 n)
  if n = o then s else raise blkTRK (0x10 + n) ch (256 * k + j) (match sv with | some r => r.m | none => 0xFF) s

/-- R230, R8: clears of FAULT apply, then failed Hall checks latch. -/
def faultScan (k : Nat) (s : State) : State :=
  let clr := nget s.trk.clr k
  let s := { s with trk := { s.trk with clr := nput s.trk.clr k 0 } }
  forN (nseg s k) (fun j s =>
    let one := fun (v : Bool) s => if j < 32 then fsetBit s F.SYS_TRK_FAULT_L_SEG j v k else fsetBit s F.SYS_TRK_FAULT_H_SEG (j - 32) v k
    let s := if clr.testBit j then one false s else s
    let ch := (segOf s k j).ch
    if nget s.trk.fail ch = 0 then s else one true { s with trk := { s.trk with fail := nput s.trk.fail ch 0 } }) s

/-- The segments that carry mover `r`, with their overlaps (R224). -/
def carriers (s : State) (k : Nat) (rs : List MovRec) (r : MovRec) : List (Nat × Nat) :=
  ((List.range (nseg s k)).filter (fun j =>
    (segSt s k j == 2 || segSt s k j == 5) && (match serving s k j rs with | some x => x.m == r.m | none => false))).map
      (fun j => (j, overlap s k j r))

/-- The carrier with the largest overlap, the lowest segment on a tie. -/
def largestCarrier : List (Nat × Nat) → Option (Nat × Nat)
  | [] => none
  | c :: cs =>
    match largestCarrier cs with
    | none => some c
    | some d => if c.2 < d.2 then some d else some c

/-- w_j and k_j of segment `j` for the mover that serves it (R224). -/
def weights (s : State) (k j : Nat) (rs : List MovRec) (r : MovRec) : Nat × Nat :=
  let cs := carriers s k rs r
  let le := (cs.map (·.2)).foldl (· + ·) 0
  match cs.find? (fun c => c.1 == j) with
  | none => (0, 0)
  | some c =>
    if le = 0 then (0, 0)
    else
      let fl := fun l => l * 2 ^ 22 / le
      let rest := 2 ^ 22 - (cs.map (fun c => fl c.2)).foldl (· + ·) 0
      let big := match largestCarrier cs with | some b => b.1 == j | none => false
      (fl c.2 + (if big then rest else 0), min (fget s F.SYS_TRK_LA_VAL k * 2 ^ 22 / le) 0x7FFFFF)

/-- HZONE of R228. -/
def hzone (s : State) (k j st : Nat) (r : MovRec) : Bool :=
  let g := segOf s k j
  let lam : Int := fget s F.SYS_TRK_LAMBDA_VAL k
  let la : Int := fget s F.SYS_TRK_LA_VAL k
  let x := g.b + g.aofs
  let one := fun q => decide (lam ≤ 2 * (x - q)) && decide (lam ≤ 2 * (q + la - x))
  (st == 1 || st == 2 || st == 3) && (one r.q || (trackClosed s k && one (r.q - trackLen s k)))

/-- u_j of R228. -/
def segAngle (s : State) (k j : Nat) (r : MovRec) : Nat :=
  let g := segOf s k j
  let lam := max 1 (fget s F.SYS_TRK_LAMBDA_VAL k)
  (((r.q - g.b - g.aofs) * 65536 + r.frac) % ((lam : Int) * 65536)).toNat * 2 ^ 24 / (lam * 65536)

/-- The 8 words of segment `j` (R228). -/
def tableRow (s : State) (k j : Nat) (rs : List MovRec) : List Nat :=
  let st := segSt s k j
  let off := st == 0 || st == 4 || st == 6 || st == 7
  match serving s k j rs with
  | none => [0, 0, 0, 0, 0, st, 0, 0]
  | some r =>
    let w := weights s k j rs r
    [w.1, w.2, segAngle s k j r, if off then 0 else r.iF, if off then 0 else r.iD,
     st + 8 * r.m + 256 * r.fallback.toNat + 2 ^ 23 * (hzone s k j st r).toNat,
     overlap s k j r * 2 ^ 22 / max 1 (fget s F.SYS_TRK_LA_VAL k), 0]

/-- Insertion of a record by position. -/
def insertRec (r : MovRec) : List MovRec → List MovRec
  | [] => [r]
  | x :: xs => if r.q ≤ x.q then r :: x :: xs else x :: insertRec r xs

/-- Gaps between neighbouring arrays: lower mover, upper mover, gap (R231). -/
def gapsOf (s : State) (k : Nat) (rs : List MovRec) : List (Nat × Nat × Int) :=
  let la : Int := fget s F.SYS_TRK_LA_VAL k
  let o := rs.foldr insertRec []
  let pairs := o.zip (o.drop 1)
  let base := pairs.map (fun p => (p.1.m, p.2.m, p.2.q - (p.1.q + la)))
  match o.head?, o.getLast? with
  | some a, some b => if trackClosed s k && decide (2 ≤ o.length) then base ++ [(b.m, a.m, a.q + trackLen s k - (b.q + la))] else base
  | _, _ => base

/-- The smallest gap. -/
def leastGap : List (Nat × Nat × Int) → Option (Nat × Nat × Int)
  | [] => none
  | g :: gs =>
    match leastGap gs with
    | none => some g
    | some h => if h.2.2 < g.2.2 then some h else some g

/-- R231: GAP and CLOSE. With fewer than two arrays the spec gives no gap: GAP is then a free value. -/
def closeScan (k : Nat) (rs : List MovRec) (s : State) : State :=
  match leastGap (gapsOf s k rs) with
  | none =>
    let v := openVal 1 s
    fset (fset v.2 F.SYS_TRK_GAP_VAL v.1 k) F.SYS_TRK_STATUS_CLOSE 0 k
  | some g =>
    let close := decide (g.2.2 < (fget s F.SYS_TRK_MIN_GAP_VAL k : Int))
    let was := flag s F.SYS_TRK_STATUS_CLOSE k
    let s := fset (fset s F.SYS_TRK_GAP_VAL (satInt 32 g.2.2) k) F.SYS_TRK_STATUS_CLOSE close.toNat k
    if close && !was then
      raise blkTRK 0x20 k (256 * g.1 + g.2.1) (unsgn 32 g.2.2) (raiseFlag s F.SYS_TRK_STATUS_CLOSE_SEEN k)
    else s

/-- R227, R231 for one mover: STALE, and NO_DRIVE and SHORT_COV, whose events mark their rises. -/
def moverScan (k : Nat) (rs : List MovRec) (r : MovRec) (s : State) : State :=
  let le := ((carriers s k rs r).map (·.2)).foldl (· + ·) 0
  let none_ := le == 0
  let short := decide (2 * le < fget s F.SYS_TRK_LA_VAL k)
  let s := if r.stale then raise blkTRK 0x22 r.m r.w15 (s.sys.s0 % 2 ^ 24) (raiseFlag s F.SYS_TRK_STATUS_STALE k) else s
  let s := if none_ then raiseFlag s F.SYS_TRK_STATUS_NO_DRIVE k else s
  let s := if none_ && nget s.trk.noDrive r.m == 0 then raise blkTRK 0x21 r.m k r.qRaw s else s
  let s := if short then raiseFlag s F.SYS_TRK_STATUS_SHORT_COV k else s
  let s := if short && nget s.trk.short r.m == 0 then raise blkTRK 0x23 r.m le r.qRaw s else s
  { s with trk := { s.trk with noDrive := nput s.trk.noDrive r.m none_.toNat, short := nput s.trk.short r.m short.toNat } }

/-- R223 to R231 for track `k`. -/
def evalTrack (k : Nat) (s : State) : State :=
  if flag s F.SYS_TRK_CFG_EN k then
    let r := readRecs k (moversOf s k) s
    let rs := r.1
    let s := faultScan k r.2
    let nexts := (List.range (nseg s k)).map (fun j => (j, nextSeg s k j rs, serving s k j rs))
    let s := forL nexts (fun e s => putSeg k e.1 e.2.1 e.2.2 s) s
    let rows := (List.range (nseg s k)).map (fun j => tableRow s k j rs)
    let s := forL rows.zipIdx (fun e s =>
      forL e.1.zipIdx (fun w s => writeSram (fget s F.SYS_TRK_TAB_INDEX k + 8 * e.2 + w.2) w.1 s) s) s
    let s := fset s F.SYS_TRK_STATUS_CONFLICT ((List.range (nseg s k)).any (fun j => segSt s k j == 6)).toNat k
    closeScan k rs (forL rs (moverScan k rs) s)
  else s

/-- TRACK_EVALUATION (R223): every enabled track, 420 ns before a boundary. -/
def execTrackEvaluation (t : Nat) (errs : List MemErr) (s : State) : Res :=
  let s := noteErrs errs (advance t s)
  .next (if s.sys.running then forN 8 evalTrack s else s)

/-- HALL_FAULT_CLEAR (R230): a clear of FAULT bits, applied at the next evaluation; `hi` names FAULT_H. -/
def hallFaultClear (k : Nat) (hi : Bool) (v : Word) (s : State) : State :=
  let m := if hi then v.toNat % 2 ^ 16 * 2 ^ 32 else v.toNat
  { s with trk := { s.trk with clr := nput s.trk.clr k (nget s.trk.clr k ||| m) } }

/-- HALL_FAULT_CLEAR (R230). -/
def execHallFaultClear (h : Via) (k : Fin 8) (hi : Bool) (v : Word) (s : State) : Res :=
  .next (hostGate h ((if hi then R.SYS_TRK_FAULT_H else R.SYS_TRK_FAULT_L).at k.val) (some v) (hallFaultClear k.val hi v) s)

/-- R211: MOV CTL.REQ = n raises event 0x10 + n; 0 does nothing. -/
def moverRequest (m n : Nat) (s : State) : State := if n = 0 then s else raise blkMOV (0x10 + n) m n 0 s

/-- MOVER_REQUEST (R211). -/
def execMoverRequest (h : Via) (m : Fin 32) (n : BitVec 4) (s : State) : Res :=
  .next (hostGate h (R.MOV_CTL.at m.val) (some (BitVec.ofNat 32 (16 * n.toNat))) (moverRequest m.val n.toNat) s)

/-- R223: the states of the last evaluation reach EDG at the boundary. -/
def trackToEdge (s : State) : State := { s with segOut := s.trk.next }

/-- R219: register `i` of the gain registers of mover `m` is mirrored into its parameter block. -/
def mirrorGain (m i : Nat) (s : State) : State :=
  if fget s F.MOV_CFG_TYPE m = 0 then s
  else writeSram (fget s F.MOV_PBASE_INDEX m + i) ((rd s (R.MOV_KP.at m + 4 * i)).toNat % 2 ^ 24) s

/-- R219 at the end of a load: the galley values of the gain registers of mover `m` stand in its block, and words 25 to 31 are 0. -/
def mirrorAll (m : Nat) (s : State) : State :=
  let s := forN 23 (mirrorGain m) s
  if fget s F.MOV_CFG_TYPE m = 0 then s else forN 7 (fun i s => writeSram (fget s F.MOV_PBASE_INDEX m + 25 + i) 0 s) s

/-- R218, R219: word 23, the SEC_SYNC pulse, and word 24 at every boundary. -/
def mirrorFlags (m : Nat) (pulse released idle : Bool) (s : State) : State :=
  if fget s F.MOV_CFG_TYPE m = 0 then s
  else
    let b := fget s F.MOV_PBASE_INDEX m
    writeSram (b + 24) (released.toNat + 2 * idle.toNat) (writeSram (b + 23) pulse.toNat s)

end Sys2Proof.Machine
end

