-- ==== Sys2Proof/Machine/Pair.lean ====
section
/-! DEFINITION. Sys2Proof/Machine/Pair.lean: feeds, essences, ownership and takeover (R407 to R427). -/

namespace Sys2Proof.Machine

/-- Change the part of the state that this file is about. -/
def modPar (f : ParS → ParS) (s : State) : State := { s with par := f s.par }

/-! ### Feeds -/

/-- UV_WARN of feed `f`, in 10 mV. -/
def uvWarn (s : State) (f : Nat) : Nat := 10 * fget s F.PAR_FEED_CFG_UV_WARN f

/-- The class of a feed; a change raises its event (R432). -/
def feedClass (f c : Nat) (s : State) : State :=
  if fget s F.PAR_FEED_STATUS_CLASS f = c then s
  else raise blkPAR 0x01 f c (fget s F.PAR_FEED_STATUS_VOLT f) (fset s F.PAR_FEED_STATUS_CLASS c f)

/-- The BATT_V threshold of feed `f`, in 10 mV. -/
def battV (s : State) (f : Nat) : Nat := 10 * fget s (if f = 0 then F.PAR_BATT_V_V0 else F.PAR_BATT_V_V1)

/-- A measurement `v` of feed `f`, in 10 mV (R408, R428). -/
def feedMeasure (f v : Nat) (s : State) : State :=
  if !feedUsed s f then s
  else
    let s := fset s F.PAR_FEED_STATUS_VOLT (satNat 14 v) f
    let s := holdMark (Timed.low f) (decide (v < 750)) (holdMark (Timed.good f) (decide (uvWarn s f + 50 < v)) s)
    let s := holdMark (Timed.fair f) (decide (uvWarn s f < v)) (holdMark (Timed.batt f) (decide (v < battV s f)) s)
    let s := if fget s F.PAR_FEED_STATUS_CLASS f = 0 ∧ v < uvWarn s f then feedClass f 1 s else s
    if fget s F.PAR_FEED_CFG_BATT_SRC f = 3 ∧ battV s f ≤ v then fset s F.PAR_FEED_STATUS_BATT 0 f else s

/-- R410 on the OR of the feeds, in 10 mV, against UV_WARN of the selected feed. -/
def orJudge (v : Nat) (s : State) : State :=
  let s := fset s F.PAR_STATUS_POWER_FAIL (decide (v < 750)).toNat
  let low := decide (v < uvWarn s (fget s F.PAR_STATUS_SEL_FEED))
  if low && !s.par.dip then
    let again := match s.par.dipEnd with | some t => decide (clk s < t + 25600000000) | none => false
    let s := raiseFlag (modPar (fun p => { p with dip := true }) s) F.PAR_STATUS_DIP_SEEN
    if again then bump s F.PAR_STATUS_DIP_REPEAT else raise blkPAR 0x03 0 v (fget s F.PAR_STATUS_DIP_REPEAT) s
  else if !low && s.par.dip then modPar (fun p => { p with dip := false, dipEnd := some (clk s), offDue := false }) s
  else s

/-- R409: feed `a` is better than feed `b`. -/
def feedBetter (s : State) (a b : Nat) : Bool :=
  let c := fun f => fget s F.PAR_FEED_STATUS_CLASS f
  let bt := fun f => flag s F.PAR_FEED_STATUS_BATT f
  if (c a == 2) != (c b == 2) then c b == 2
  else if (c a == 1) != (c b == 1) then c b == 1
  else if bt a != bt b then bt b
  else decide (fget s F.PAR_FEED_STATUS_VOLT b + 50 < fget s F.PAR_FEED_STATUS_VOLT a)

/-- The feed that is not selected is in use and better than the other (R409). -/
def otherBetter (s : State) : Bool :=
  let o := fget s F.PAR_STATUS_SEL_FEED % 2
  feedUsed s (1 - o) && feedBetter s (1 - o) o

/-- What R409 and R429 time follows the feeds. -/
def feedScan (s : State) : State :=
  let s := battScan s
  holdMark Timed.better (otherBetter s) s

/-- FEED_MEASURE (R408, R410): the feeds and the OR, in 10 mV. -/
def execFeedMeasure (t v0 v1 vor : Nat) (s : State) : Res :=
  let s := advance t s
  .next (if s.sys.st = .off then s else orJudge vor (feedScan (feedMeasure 1 v1 (feedMeasure 0 v0 s))))

/-- FEED_CLASS_CHANGE (R408): the condition of feed `f` has lasted for its time. -/
def execFeedClassChange (t : Nat) (f : Fin 2) (s : State) : Res :=
  let s := advance t s
  let i := f.val
  let v := fget s F.PAR_FEED_STATUS_VOLT i
  let c := fget s F.PAR_FEED_STATUS_CLASS i
  .next (
    feedScan (
      if !feedUsed s i then s
      else if v < 750 then (if heldFor (Timed.low i) 1000000 s then feedClass i 2 s else s)
      else if c = 1 ∧ uvWarn s i + 50 < v ∧ heldFor (Timed.good i) 10000000 s = true then feedClass i 0 s
      else if c = 2 ∧ uvWarn s i < v ∧ heldFor (Timed.fair i) 10000000 s = true then feedClass i 0 s
      else s))

/-- FEED_SELECT (R409): the other feed has been better for 100 ms. -/
def execFeedSelect (t : Nat) (s : State) : Res :=
  let s := advance t s
  let o := fget s F.PAR_STATUS_SEL_FEED % 2
  let n := 1 - o
  .next (if otherBetter s && heldFor Timed.better 100000000 s then
      (let s := raise blkPAR 0x02 n o 0 (fset s F.PAR_STATUS_SEL_FEED n)
       holdMark Timed.better (otherBetter s) s)
    else s)

/-- BATTERY_DETECT (R428): feed `f` has been below BATT_V for 1 s. -/
def execBatteryDetect (t : Nat) (f : Fin 2) (s : State) : Res :=
  let s := advance t s
  .next (if feedUsed s f.val && fget s F.PAR_FEED_CFG_BATT_SRC f.val == 3 && decide (fget s F.PAR_FEED_STATUS_VOLT f.val < battV s f.val) &&
        heldFor (Timed.batt f) 1000000000 s then
      feedScan (raiseFlag s F.PAR_FEED_STATUS_BATT f.val) else s)

/-! ### Essences -/

/-- The register words of MOTION (R415): states and set-points of the units, and the SCH entries. -/
def motAddrs : List Nat :=
  (List.range 32).flatMap (fun m => [R.PRF_STATE.at m, R.PRF_SP_L.at m, R.PRF_SP_H.at m, R.PRF_SPV.at m, R.PRF_SPA.at m, R.PRF_REMAIN.at m]) ++
    (List.range 16).flatMap (fun a => [R.ACD_STATUS.at a, R.ACD_LAW_L.at a, R.ACD_LAW_H.at a]) ++
    (List.range 8).flatMap (fun g => [R.PTH_STATUS.at g, R.PTH_S_REM.at g]) ++ [R.SCH_SUMMARY.addr] ++
    (List.range 64).flatMap (fun i => [R.SCH_TIME_L.at i, R.SCH_TIME_H.at i, R.SCH_ACT.at i, R.SCH_ARG.at i, R.SCH_PERIOD.at i,
      R.SCH_STAT.at i, R.SCH_LAST.at i])

/-- The register words of PARTNER. -/
def ctxAddrs : List Nat :=
  R.PTN_STATUS.addr :: (List.range 128).flatMap (fun i => [R.PTN_STATE.at i, R.PTN_MAC_L.at i, R.PTN_MAC_H.at i, R.PTN_IP.at i])

/-- The words of the registers at some addresses. -/
def wordsAt (s : State) (l : List Nat) : SMap Word := l.foldl (fun m a => SMap.put regReset m a (rd s a)) []

/-- Put them back. -/
def putWords (l : List Nat) (m : SMap Word) (s : State) : State := forL l (fun a s => wr s a (SMap.get regReset m a)) s

/-- The galley check of the colophon. -/
def galleyCheck (s : State) : Nat := fget s F.COL_CHECK_L_VAL + 2 ^ 32 * fget s F.COL_CHECK_H_VAL

/-- The number of words of map entry `i`. -/
def mapCount (s : State) (i : Nat) : Nat := fget s F.PAR_MAP1_COUNT i

/-- The main-SRAM word of element `j` of map entry `i`, for KIND 3 and 4. -/
def mapSram (s : State) (i j : Nat) : Nat :=
  let n := fget s F.PAR_MAP0_START i + j
  if fget s F.PAR_MAP0_KIND i = 4 then epVal s n else n

/-- Element `j` of map entry `i` (R415). -/
def mapWord (s : State) (i j : Nat) : Nat :=
  let p := s.plt (fget s F.PAR_MAP0_PLATEN i)
  let n := fget s F.PAR_MAP0_START i + j
  match fget s F.PAR_MAP0_KIND i with
  | 1 => (p.word false n).toNat
  | 2 => (p.word true n).toNat
  | _ => (readSram 6 (mapSram s i j) s).1

/-- The entries in use. -/
def mapsOn (s : State) : List Nat := (List.range 32).filter (fun i => decide (1 ≤ fget s F.PAR_MAP0_KIND i) && decide (fget s F.PAR_MAP0_KIND i ≤ 4))

/-- A whole number of 16-byte units. -/
def pad16 (n : Nat) : Nat := (n + 15) / 16 * 16

/-- The bytes of a record with some fixed sections and maps: header, table, bodies and trailer (R416); a map element
takes 4 bytes. -/
def recordSize (s : State) (gen : Nat) (fixed maps : List Nat) : Nat :=
  64 + 16 * (fixed.length + maps.length) + (fixed.map (fun k => pad16 (Config.sectionBody k gen).length)).sum +
    (maps.map (fun i => pad16 (4 * mapCount s i))).sum + 16

/-- R412: the FLUSH ranges that keep the record within 4 KiB. -/
def flushMaps (s : State) (gen : Nat) : List Nat :=
  ((mapsOn s).filter (fun i => flag s F.PAR_MAP0_FLUSH i)).foldl
    (fun l i => if recordSize s gen [2, 3, 5] (l ++ [i]) ≤ 4096 then l ++ [i] else l) []

/-- What a flush in DOZE takes (R412): platens and sources that have lost their power are as retention keeps them. -/
def retained (s : State) : State :=
  if s.sys.st != .doze || !s.pwr.saved then s
  else
    let off := fun n => decide (n < 4) && !domainOn s (2 + n)
    let s := { s with plts := s.plts.filter (fun e => !off e.1) ++ s.pwr.savedPlts.filter (fun e => off e.1) }
    if domainOn s 7 then s
    else forL srcList (fun i s => fset s F.FBK_HALL_STATUS_SAT (nget s.pwr.savedSat i) i) { s with src := s.pwr.savedSrc }

/-- The state as an essence or flush record of generation `gen` (R412, R415, R417). -/
def capture (gen : Nat) (handback flush : Bool) (s : State) : Essence :=
  let maps := if flush then flushMaps s gen else mapsOn s
  let all := (mapsOn s).filter (fun i => flag s F.PAR_MAP0_FLUSH i)
  let srcs := srcList.filter (fun i => flag s F.FBK_HALL_CFG_EN i)
  { gen := gen, handback := handback, flush := flush, trunc := flush && decide (maps.length < all.length)
    sE := s.sys.s0, imp := impCount s, period := fget s F.SYS_IMP_CFG_PERIOD, check := galleyCheck s
    sig := (rd s R.SAF_SIG_CALC.addr).toNat
    mot := s.mot, motRegs := wordsAt s motAddrs
    mms := (List.range 64).foldl (fun m i => nput m i (s.mm i).st) []
    src := srcs.map (fun i => (i, (s.source i).pos, (s.source i).ofs, (s.source i).stamp))
    srcBits := srcs.foldl (fun m i => nput m i (fget s F.FBK_HALL_STATUS_SAT i + 2 * fget s F.FBK_HALL_STATUS_LOST i)) []
    ctx := s.net.ctx, ctxRegs := wordsAt s ctxAddrs
    last := (List.range 512).foldl (fun m i => nput m i (match (s.lay i).last with | some q => q + 1 | none => 0)) []
    safState := fget s F.SAF_STATE_STATE, safCause := fget s F.SAF_STATE_CAUSE, safDry := fget s F.SAF_STATE_DRY
    dryLeft := fget s F.SAF_DRY_LEFT_VAL, sax := s.saf.sax, rescued := s.saf.rescued, rel := fget s F.SAF_BRAKE_REL
    maps := maps.map (fun i => (i, (List.range (mapCount s i)).map (mapWord s i))) }

/-- One section: its type, its body. -/
def sectionsOf (e : Essence) : List (Nat × List Byte) :=
  (if e.flush then [2, 3, 5] else [1, 2, 3, 4, 5]).map (fun k => (k, Config.sectionBody k e.gen)) ++
    e.maps.map (fun m => (0x10 + m.1, m.2.flatMap (leBytes 4)))

/-- Bytes of 0 up to the next multiple of 16. -/
def padTo16 (l : List Byte) : List Byte := l ++ List.replicate (pad16 l.length - l.length) 0#8

/-- The section table from body offset `ofs` (R36). -/
def tableOf : Nat → List (Nat × List Byte) → List Byte
  | _, [] => []
  | ofs, (k, b) :: r =>
    leBytes 2 k ++ [0#8, 0#8] ++ leBytes 4 ofs ++ leBytes 4 b.length ++ leBytes 4 (crc32c b) ++ tableOf (ofs + pad16 b.length) r

/-- The bytes of an essence or flush record before its trailer (R416). -/
def essHead (e : Essence) : List Byte :=
  let secs := sectionsOf e
  let body := tableOf (64 + 16 * secs.length) secs ++ secs.flatMap (fun x => padTo16 x.2)
  let head := leBytes 4 0x53534E45 ++ leBytes 2 1 ++ leBytes 2 secs.length ++ leBytes 4 e.gen ++ leBytes 4 (64 + body.length + 16) ++
    leBytes 8 e.sE ++ leBytes 4 e.imp ++ leBytes 2 e.period ++ leBytes 2 (e.handback.toNat + 2 * e.flush.toNat + 4 * e.trunc.toNat) ++
    leBytes 8 e.check ++ leBytes 4 e.sig ++ List.replicate 16 0#8
  head ++ leBytes 4 (crc32c head) ++ body

/-- The CRC that a trailer must carry: over everything before it. -/
def trailCrc (e : Essence) (marker gen pad : Nat) : Nat :=
  crc32c (essHead e ++ leBytes 4 marker ++ leBytes 4 gen ++ leBytes 4 pad)

/-- The bytes of an essence or flush record (R416). -/
def essBytes (e : Essence) : List Byte :=
  essHead e ++ leBytes 4 0x544D4D43 ++ leBytes 4 e.gen ++ leBytes 4 0 ++ leBytes 4 (trailCrc e 0x544D4D43 e.gen 0)

/-- The trailer `x` belongs to generation `e`: the marker, both copies of GEN and the CRC are right (R418). -/
def trailOk (e : Essence) (x : EssTrail) : Bool :=
  x.marker == 0x544D4D43#32 && x.gen.toNat == e.gen && x.crc.toNat == trailCrc e x.marker.toNat x.gen.toNat x.pad.toNat

/-! ### The power-fail flush -/

/-- Flush slot `k`: erased, partly programmed, or a record. -/
def flushSlot (s : State) (k : Nat) : Option (Option (Nat × List Byte)) := SMap.get (fun _ => none) s.rom.slots k

/-- The next erased slot of the active region (R413). -/
def flushNext (s : State) : Option Nat :=
  (List.range 16).map (fun i => 16 * s.rom.region + i) |>.find? (fun k => (flushSlot s k).isNone && !s.rom.erase.contains s.rom.region)

/-- The newest by generation of the whole flush records that `ok` takes. -/
def flushPick (ok : Nat × List Byte → Bool) (s : State) : Option (Nat × List Byte) :=
  (List.range 32).foldl (fun b k =>
    match flushSlot s k, b with
    | some (some r), none => if ok r then some r else b
    | some (some r), some o => if ok r && seqNew (some o.1) r.1 then some r else b
    | _, _ => b) none

/-- The newest valid flush record by generation (R414): its galley check is the unit's own (R418). -/
def flushNewest (s : State) : Option (Nat × List Byte) := flushPick (fun r => leAt r.2 0x20 8 == galleyCheck s) s

/-- The generation number of the next flush record: one more than that of the newest whole record, whatever its galley. -/
def flushGen (s : State) : Nat := match flushPick (fun _ => true) s with | some r => (r.1 + 1) % 2 ^ 32 | none => 1

/-- A flush that writes nothing (R413, R496): the event's instance and GEN are free values. -/
def flushSkip (s : State) : State :=
  let s := bump s F.PAR_FLUSH_CNT_FLUSH_SKIP
  raise blkPAR 0x04 (Config.eventWord blkPAR 4 2 s.free % 32) (Config.eventWord blkPAR 4 0 s.free) 0 (drawn s)

/-- The poisoned blocks of main SRAM that the map entries `maps` read. -/
def mapPoison (s : State) (maps : List Nat) : List Nat :=
  (maps.filter (fun i => decide (3 ≤ fget s F.PAR_MAP0_KIND i))).flatMap
    (fun i => (List.range (mapCount s i)).map (fun j => sramAt (mapSram s i j))) |>.filter (poisoned s)

/-- The flush takes its content and programming begins (R412); a word in a poisoned block is taken as 0 and reported (R459). -/
def flushStart (s : State) : State :=
  let e := capture (flushGen s) false true (retained s)
  forL (mapPoison s (e.maps.map (·.1))) (poisonedRead 6) (modPar (fun p => { p with flushDue := false, flush := some e }) s)

/-- POWER_FAIL (R410, R412, R496). -/
def execPowerFail (t : Nat) (dip : PowerDip) (s : State) : Res :=
  let s := advance t s
  let vhold := dip.vhold
  .next (
    if s.sys.st = .off then s
    else
      let s := raiseFlag (noteErrs dip.errs s) F.PAR_STATUS_POWER_FAIL
      if s.sys.st == .boot || s.par.flushDue || s.par.flush.isSome then s
      else if !vhold || (flushNext s).isNone then flushSkip s
      else if s.sys.running then modPar (fun p => { p with flushDue := true }) s
      else flushStart s)

/-- Slot `k` is used: after the last of a region the other becomes active, and the full one is erased, after an erase still under way
(R413). -/
def flushTurn (k : Nat) (s : State) : State :=
  if k % 16 = 15 then
    { s with rom := { s.rom with region := 1 - s.rom.region, erase := s.rom.erase.filter (· != s.rom.region) ++ [s.rom.region] } }
  else s

/-- A flush record has been programmed (R413). -/
def flushEnd (s : State) : State :=
  match s.par.flush, flushNext s with
  | some e, some k =>
    let s := modPar (fun p => { p with flush := none }) s
    let s := { s with rom := { s.rom with slots := SMap.put (fun _ => none) s.rom.slots k (some (some (e.gen, essBytes e))) } }
    let s := raise blkPAR 0x04 k e.gen 1 s
    flushTurn k s
  | _, _ => s

/-- A flush is cut off: its slot stays programmed in part. -/
def flushCut (s : State) : State :=
  match s.par.flush, flushNext s with
  | some _, some k => flushTurn k { s with rom := { s.rom with slots := SMap.put (fun _ => none) s.rom.slots k (some none) } }
  | _, _ => s

/-- REGION_ERASE_DONE (R413). -/
def execRegionEraseDone (t : Nat) (s : State) : Res :=
  let s := advance t s
  .next (match s.rom.erase with
    | r :: l => { s with rom := { s.rom with erase := l, slots := s.rom.slots.filter (fun e => e.1 / 16 != r) } }
    | [] => s)

/-- R414: the newest valid record goes to main SRAM. -/
def flushLoad (s : State) : State :=
  match flushNewest s with
  | some r => raiseFlag (writeMemBytes s (sramAt (fget s F.PAR_FLUSH_BASE_INDEX)) r.2) F.PAR_STATUS_FLUSH_VALID
  | none => fset s F.PAR_STATUS_FLUSH_VALID 0

/-! ### The active unit -/

/-- The unit captures essences (R417, R422). -/
def parActive (s : State) : Bool :=
  pairMode s && s.par.claim && s.sys.running && (s.sys.st == .ready || s.sys.st == .run || s.sys.st == .safeStop)

/-- N_E of R417. -/
def essEvery (s : State) : Nat := max 1 (divRound (1000000 * (fget s F.PAR_ESS_CFG_T_ESS : Int)) (tImp s)).toNat

/-- What R426 asks of the active unit at a quiet point. -/
def quietHere (s : State) : Bool :=
  moversIdle s && (List.range 32).all (fun m =>
    fget s F.MOV_CFG_TYPE m == 0 ||
      (flag s F.FBK_HALL_STATUS_STILL (fget s F.MOV_SRC_PRI m) &&
        (decide (8 ≤ fget s F.MOV_SRC_SBC m) || fbit s F.SAF_BRAKE_APPLIED (fget s F.MOV_SRC_SBC m))))

/-- R426: at the active unit a request lapses when a boundary is no quiet point. -/
def askedScan (s : State) : State := if parActive s && s.par.asked && !quietHere s then modPar (fun p => { p with asked := false }) s else s

/-- ESSENCE_CAPTURE (R417, R426, R427): a capture boundary, at its sample instant. -/
def execEssenceCapture (t : Nat) (errs : List MemErr) (s : State) : Res :=
  let s := advance t s
  .next (
    if parActive s && decide (lns s = s.sys.s0) && decide (impCount s % essEvery s = 0) && s.par.capAt != impCount s + 1 then
      let s := askedScan (modPar (fun p => { p with capAt := impCount s + 1 }) (noteErrs errs s))
      if s.par.sending.isSome then bump s F.PAR_ESS_CNT_SKIP
      else
        match mapPoison s (mapsOn s) with
        | a :: _ => bump (poisonedRead 4 a s) F.PAR_ESS_CNT_ABANDON
        | [] =>
          let g := (s.par.gen + 1) % 2 ^ 32
          let hand := s.par.asked || s.par.release
          modPar (fun p => { p with sending := some (capture g hand false s), handGen := if hand then some g else p.handGen }) s
    else s)

/-- ESSENCE_SENT (R417, R418): the generation in transit has gone out over the link, or `full`: the capture buffer has filled. -/
def execEssenceSent (t : Nat) (full : Bool) (s : State) : Res :=
  let s := advance t s
  .next (match s.par.sending with
    | none => s
    | some e =>
      let off := modPar (fun p => { p with sending := none }) s
      if full then bump off F.PAR_ESS_CNT_ABANDON
      else if !s.par.link then s
      else
        let s := off
        let s := fset (modPar (fun p => { p with gen := e.gen }) s) F.PAR_ESS_GEN_GEN e.gen
        { s with out := s.out ++ [Out.essence e.gen] })

/-- The unit withdraws and becomes the standby (R426, R427). -/
def withdraw (hold : Bool) (s : State) : State :=
  let s := enterStandby (setClaim false s)
  if hold then raiseFlag s F.PAR_CTL_HANDBACK_HOLD else s

/-- HANDBACK_CONFIRM (R426, R427): the standby has found the handback generation valid. -/
def execHandbackConfirm (t : Nat) (s : State) : Res :=
  let s := advance t s
  .next (
    if !parActive s || s.par.handGen != some s.par.gen then s
    else if s.par.release then withdraw true s
    else if s.par.asked then
      (if quietHere s && s.sys.st == .run then withdraw false s
       else modPar (fun p => { p with asked := false }) s)
    else s)

/-- A host write of RELEASE (R427). -/
def parRelease (ifc : Ifc) (s : State) : State :=
  if ownOk s && pairMode s && (s.sys.st == .ready || s.sys.st == .run || s.sys.st == .safeStop) && !flag s F.PAR_STATUS_STANDBY_LOST then
    holdFrom Timed.release (modPar (fun p => { p with release := true, handGen := none }) s)
  else hostDrop ifc R.PAR_CTL.addr (refuseReq 9 s)

/-- RELEASE (R427). -/
def execParRelease (h : Via) (s : State) : Res := .next (hostGate h R.PAR_CTL.addr (some 2#32) (parRelease h.ifc) s)

/-- RELEASE_TIMEOUT (R427): 10 ms have passed since the write. -/
def execReleaseTimeout (t : Nat) (s : State) : Res :=
  let s := advance t s
  .next (if s.par.release && heldFor Timed.release 10000000 s then withdraw true s else s)

/-! ### The standby -/

/-- The newest valid generation (R418). -/
def newest (s : State) : Option Essence := if fget s F.PAR_ESS_STATUS_SLOT = 0 then s.par.slot0 else s.par.slot1

/-- R426: the PTP time of day lies in the window of HB_WIN, in minutes with the UTC offset. -/
def inWindow (s : State) : Bool :=
  let sec : Int := (lns s / 1000000000 : Nat) - fgetInt s F.TIM_UTC_UTC_OFS
  let m := (sec % 86400) / 60
  decide ((m - fget s F.PAR_HB_WIN_START) % 1440 < fget s F.PAR_HB_WIN_LEN)

/-- R419: the counters' offsets from the latch taken at S_E. -/
def counterOffsets (e : Essence) (s : State) : State :=
  if !flag s F.PAR_CFG_SBY_CNT then s
  else
    match s.par.latches.find? (fun l => l.1 == e.sE) with
    | none => raiseFlag s F.PAR_STATUS_LATCH_MISS
    | some l =>
      let at_ := fun i => SMap.get (fun _ => 0) l.2 i
      modPar (fun p => { p with cntOfs := (e.src.filter (fun x => decide (x.1 < 80))).map (fun x => (x.1, x.2.1 - at_ x.1)) }) s

/-- R426: what the preferred standby's side of a quiet point asks, beside the boundary. -/
def takebackOk (s : State) : Bool :=
  flag s F.PAR_CFG_PREFERRED && !flag s F.PAR_CTL_HANDBACK_HOLD && (!flag s F.PAR_CFG_HB_MODE || inWindow s) && (newest s).isSome

/-- A condition of the quiet point has failed at the standby: its request lapses (R426). -/
def takebackLapse (s : State) : State :=
  if s.sys.st == .standby && s.par.asked && !takebackOk s then
    modPar (fun p => { p with asked := false }) { s with out := s.out ++ [Out.handbackOff] }
  else s

/-- A handback generation has become valid: it is confirmed (R427), but not for a request that has lapsed by now (R426). -/
def handbackValid (gen : Nat) (s : State) : State :=
  if s.par.asked && !takebackOk s then takebackLapse s else { s with out := s.out ++ [Out.confirm gen] }

/-- ESSENCE_RECEIVE (R418, R419): a generation arrives, and its trailer if that has come. -/
def execEssenceReceive (t : Nat) (e : Essence) (tr : Option EssTrail) (s : State) : Res :=
  let s := advance t s
  .next (
    if s.sys.st != .standby || !s.par.link then s
    else
      let same := e.check == galleyCheck s
      let sound := match tr with
        | some x => trailOk e x
        | none => false
      if sound && same && seqNew ((newest s).map (·.gen)) e.gen then
        let k := if (newest s).isSome then 1 - fget s F.PAR_ESS_STATUS_SLOT else fget s F.PAR_ESS_STATUS_SLOT
        let s := modPar (fun p => if k = 0 then { p with slot0 := some e } else { p with slot1 := some e }) s
        let s := counterOffsets e (fset (fset s F.PAR_ESS_STATUS_SLOT k) F.PAR_ESS_GEN_GEN e.gen)
        if e.handback then handbackValid e.gen s else s
      else
        let s := bump s F.PAR_ESS_CNT_BAD
        if !same then raiseFlag s F.PAR_STATUS_GALLEY_MISMATCH else s)

/-- STANDBY_COUNTER_LATCH (R419). -/
def execStandbyCounterLatch (t : Nat) (s : State) : Res :=
  let s := advance t s
  .next (if s.sys.st == .standby && flag s F.PAR_CFG_SBY_CNT && gridFrom s (lns s) == lns s then
      modPar (fun p => { p with latches := ((lns s, p.cnt) :: p.latches).take 4096 }) s else s)

/-- PEN_FB shows the power stages enabled (R420). -/
def penEnabled (s : State) : Bool := flag s F.PAR_CFG_PEN_EN && hasBall s 0x17 4 && penFb s != flag s F.PAR_CFG_PEN_POL

/-- R424 step 1. -/
def takeover (reason : Nat) (s : State) : State :=
  let s := fset (modPar (fun p => { p with restored := false }) s) F.PAR_STATUS_PEN_BLOCK 0
  let s := roleFlags (toState .takeover (setClaim true s))
  match newest s with
  | some e => raise blkPAR 0x10 reason e.gen (min ((lns s - e.sE) / 1000) 0xFFFFFFFF) s
  | none => raise blkPAR 0x10 reason 0xFFFFFFFF (Config.eventWord blkPAR 0x10 1 s.free) (drawn s)

/-- The table of R423 on a trigger: 1 a release, 2 silence. -/
def judge (reason : Nat) (s : State) : State :=
  if s.sys.st != .standby then s
  else if ownIn s then roleFlags s
  else if penEnabled s then parRise F.PAR_STATUS_PEN_BLOCK 1 s
  else takeover reason s

/-- OWN_IN has become asserted: a blocked takeover is over, HB_LOST is judged, and a unit that is not preferred leaves LOADED for STANDBY
where it samples OWN_IN or waits to claim (R421, R423). -/
def ownSeen (s : State) : State :=
  let s := roleFlags (fset s F.PAR_STATUS_PEN_BLOCK 0)
  if s.sys.st == .loaded && s.par.leave && !flag s F.PAR_CFG_PREFERRED then enterStandby (setClaim false s) else s

/-- OWN_IN_CHANGE (R421, R423, R161). -/
def execOwnInChange (t : Nat) (level : Bool) (s : State) : Res :=
  let s := advance t s
  let was := ownIn s
  let s := ownRefresh { s with pins := { s.pins with ownIn := level } }
  .next (
    if was && !level then judge 1 (modPar (fun p => { p with ownFree := clk s }) s)
    else if !was && ownIn s then ownSeen s
    else s)

/-- HB_SILENCE (R423): no HB_IN pulse for 300 µs. -/
def execHbSilence (t : Nat) (s : State) : Res :=
  let s := advance t s
  let still := quietFor Timed.hbIn 300000 s
  let s := if still then modPar (fun p => { p with silent := true }) s else s
  .next (
    if !still || !pairMode s then s
    else if s.sys.st = .standby then judge 2 s
    else roleFlags s)

/-- HB_IN_PULSE (R423), at the ball of HB_IN (R494). -/
def execHbInPulse (t : Nat) (s : State) : Res :=
  let s := advance t s
  .next (if hasBall s 0x17 3 then roleFlags (holdFrom Timed.hbIn (modPar (fun p => { p with silent := false }) s)) else s)

/-- PEN_FB_CHANGE (R423): a takeover that was blocked follows. -/
def execPenFbChange (t : Nat) (level : Bool) (s : State) : Res :=
  let s := advance t s
  let s := { s with pins := { s.pins with penFb := level } }
  .next (if flag s F.PAR_STATUS_PEN_BLOCK && !ownIn s && !penEnabled s && s.sys.st == .standby then
      takeover (if s.par.silent then 2 else 1) s else s)

/-- MIRROR_LINK_LOSS (R423, R418): the link has been down for 1 ms; what was in transit never becomes valid. -/
def execMirrorLinkLoss (t : Nat) (s : State) : Res :=
  .next (roleFlags (modPar (fun p => { p with link := false, down := true, sending := none }) (advance t s)))

/-- MIRROR_LINK_UP (R423). -/
def execMirrorLinkUp (t : Nat) (s : State) : Res :=
  .next (roleFlags (modPar (fun p => { p with link := true, down := false }) (advance t s)))

/-- TAKEBACK_REQUEST (R426): a boundary at which the preferred standby judges the quiet point (`quiet`: the active unit's part of it
holds) and requests handback, or lets its request lapse; or the active unit receives the request, or with `quiet` false its lapse. -/
def execTakebackRequest (t : Nat) (quiet : Bool) (s : State) : Res :=
  let s := advance t s
  .next (
    if s.sys.st = .standby then
      (if takebackOk s && quiet && s.par.link then
        modPar (fun p => { p with asked := true }) { s with out := s.out ++ [Out.handback] } else takebackLapse s)
    else if parActive s && s.par.link then modPar (fun p => { p with asked := quiet }) s
    else s)

/-! ### Ownership -/

/-- HEARTBEAT_PULSE (R420): HB_OUT's interval is over: 100 µs ± 0.1 µs, or 3 X32 periods while it comes from AON in DOZE. -/
def execHeartbeatPulse (t : Nat) (s : State) : Res :=
  let s := advance t s
  let live := (s.sys.st != .run && s.sys.st != .ready) || (s.sys.running && !quietFor Timed.boundary 200000 s)
  .next (if pairMode s && hasBall s 0x17 2 && s.sys.st != .off && live && quietFor Timed.hbOut (if s.pwr.sysRet then 91500 else 99900) s then
      ownDrive { holdFrom Timed.hbOut (modPar (fun p => { p with beating := true }) s) with out := s.out ++ [Out.beat] } else s)

/-- OWN_OUT_RELEASE (R420): HB_OUT has not pulsed for 250 µs. -/
def execOwnOutRelease (t : Nat) (s : State) : Res :=
  let s := advance t s
  .next (if quietFor Timed.hbOut 250000 s then ownDrive (modPar (fun p => { p with beating := false }) s) else s)

/-- OWN_IN has stayed released for 20 ms of LOADED (R421). -/
def ownFreeLong (s : State) : Bool := !ownIn s && decide (max s.par.ownFree s.sys.stAt + 5120000000 ≤ clk s)

/-- OWNERSHIP_CLAIM (R421): in LOADED a unit that is not preferred claims after 20 ms without OWN_IN. Once LOADED is to be left, the
200 µs in which a claiming unit samples OWN_IN end: it becomes READY, or where OWN_IN became asserted in them (`seen`) the unit that is
not preferred withdraws and becomes the standby. -/
def execOwnershipClaim (t : Nat) (seen : Bool) (s : State) : Res :=
  let s := advance t s
  .next (
    if s.sys.st != .loaded || !pairMode s || conflictOut s then s
    else if !s.par.claim then (if ownFreeLong s then holdMark Timed.leave s.par.leave (holdMark Timed.leave false (setClaim true s)) else s)
    else if !(s.par.leave && heldFor Timed.leave 200000 s) then s
    else if (seen || ownIn s) && !flag s F.PAR_CFG_PREFERRED then enterStandby (setClaim false s)
    else enterReady (modPar (fun p => { p with leave := false }) s))

/-- OWN_CONFLICT (R422): both claims have stood for 1 ms. -/
def execOwnConflict (t : Nat) (s : State) : Res :=
  let s := advance t s
  .next (
    if s.pins.ownOut && ownIn s && heldFor Timed.both 1000000 s && !flag s F.PAR_STATUS_OWN_CONFLICT then
      let pref := fget s F.PAR_CFG_PREFERRED
      let s := raise blkPAR 0x12 0 pref 0 (raiseFlag s F.PAR_STATUS_OWN_CONFLICT)
      if pref = 0 then
        setClaim false (modPar (fun p => { p with sending := none, release := false, asked := false, handGen := none, leave := false }) s)
      else s
    else s)

/-! ### Takeover -/

/-- The position that source `i` resumes from (R419, R424). -/
def takePos (s : State) (e : Essence) (i : Nat) : Int :=
  let p := (SMap.get (fun _ => ((0 : Int), (0 : Int), 0)) e.src i).1
  match s.par.cntOfs.find? (fun x => x.1 == i) with
  | some o => sbyCnt s i + o.2
  | none => p

/-- Element `j` of map entry `i` is written back. -/
def mapPut (i j v : Nat) (s : State) : State :=
  let n := fget s F.PAR_MAP0_PLATEN i
  let a := fget s F.PAR_MAP0_START i + j
  match fget s F.PAR_MAP0_KIND i with
  | 1 => modPlt s n (fun p => p.setWord false a (BitVec.ofNat 24 v))
  | 2 => modPlt s n (fun p => p.setWord true a (BitVec.ofNat 24 v))
  | _ => writeSram (mapSram s i j) v s

/-- R424 step 3: the essence goes into memories and registers. -/
def restoreEss (e : Essence) (s : State) : State :=
  let s := putWords motAddrs e.motRegs { s with mot := e.mot }
  let s := forN 64 (fun i s => setMm s i { s.mm i with st := nget e.mms i }) s
  let s := forL (e.src.map (·.1)) (fun i s =>
    let x := SMap.get (fun _ => ((0 : Int), (0 : Int), 0)) e.src i
    let l := (s.source i).lines
    let s := setSrc s i { SrcS.init with pos := takePos s e i, ofs := x.2.1, stamp := x.2.2, lines := if l.isSome then l else sbyLines s i }
    let s := match (s.source i).lines with
      | some l => if i < 48 then setHall i (hallState s i l) s else s
      | none => s
    let b := nget e.srcBits i
    fset (fset s F.FBK_HALL_STATUS_SAT (b % 2) i) F.FBK_HALL_STATUS_LOST (b / 2) i) s
  let s := putWords ctxAddrs e.ctxRegs { s with net := { s.net with ctx := e.ctx } }
  let s := forN 512 (fun i s => setLay i { s.lay i with last := if nget e.last i = 0 then none else some (nget e.last i - 1) } s) s
  forL e.maps (fun m s => forL m.2.zipIdx (fun x s => mapPut m.1 x.2 x.1 s) s) s

/-- TAKEOVER_RESTORE_DONE (R424 steps 3 to 5): the copy is complete, and impressions start. -/
def execTakeoverRestoreDone (t : Nat) (s : State) : Res :=
  let s := advance t s
  .next (
    if s.sys.st == .takeover && !s.par.restored && ((List.range 4).all (fun n => !planBit s (2 + n) || domainOn s (2 + n))) &&
        domainOn s 6 && domainOn s 7 then
      let s := match newest s with
        | some e => modPar (fun p => { p with gen := e.gen }) (restoreEss e s)
        | none => s
      takeStart (modPar (fun p => { p with restored := true }) s)
    else s)

/-- The primary source of every mover shows FRESH in the page (R190, R424 step 6). -/
def allFresh (s : State) : Bool :=
  (List.range 32).all (fun m => fget s F.MOV_CFG_TYPE m == 0 || (pageGet s (srcBlock (fget s F.MOV_SRC_PRI m) + 7)).getLsbD 5)

/-- TAKEOVER_COMPLETE (R424 step 6, R293, R243, R238): the boundary at which every primary source shows FRESH. -/
def execTakeoverComplete (t : Nat) (s : State) : Res :=
  let s := advance t s
  .next (
    if s.sys.st == .takeover && s.par.restored && s.sys.running && allFresh s then
      let s := setDev .run s
      let s := match newest s with
        | some e =>
          let s := { s with mot := { s.mot with restored := true } }
          if e.sig = (rd s R.SAF_SIG_CALC.addr).toNat ∧ flag s F.SAF_STATE_CONFIRMED = true then
            safTakeover (some (e.safState, e.dryLeft, e.safDry, e.rescued, e.sax)) (fset (fset s F.SAF_BRAKE_REL e.rel) F.SAF_STATE_CAUSE e.safCause)
          else safTakeover none s
        | none => safTakeover none (raiseFlag s F.PAR_STATUS_NO_ESSENCE)
      let s := match newest s with
        | some e => if e.handback && s.par.asked then raise blkPAR 0x11 0 e.gen 0 s else s
        | none => s
      edgRefresh (modPar (fun p => { p with asked := false }) s)
    else s)

end Sys2Proof.Machine
end

