-- ==== Sys2Proof/Machine/Quoin.lean ====
section
/-! DEFINITION. Sys2Proof/Machine/Quoin.lean: quoins and implicit transactions (R6, R70 to R75, R101, R111, R500, R503,
R505): staging, correction and report, and the application in step 1 of R29. -/

namespace Sys2Proof.Machine

/-! ### Mode-machine tables (R99, R500) -/

/-- The host address of SYS.MM_TAB. -/
def tabBase : Nat := 0x1800

/-- Host address `a` is a word of SYS.MM_TAB. -/
def inTab (a : Nat) : Bool := decide (tabBase ≤ a) && decide (a < tabBase + 164) && decide (a % 4 = 0)

/-- Byte `b` of the table of machine `m`; a word that R462 leaves unused reads 0. -/
def tabByte (s : State) (m b : Nat) : Nat :=
  if (s.mm m).dead.testBit (b / 4) then 0 else (SMap.get (fun _ => (0#8 : Byte)) (s.mm m).tab b).toNat

/-- Word `i` of that table. -/
def tabWord (s : State) (m i : Nat) : Word :=
  BitVec.ofNat 32 (tabByte s m (4 * i) + 2 ^ 8 * tabByte s m (4 * i + 1) + 2 ^ 16 * tabByte s m (4 * i + 2) +
    2 ^ 24 * tabByte s m (4 * i + 3))

/-- Replace word `i`. -/
def setTabWord (m i : Nat) (w : Word) (s : State) : State :=
  let tab := (List.range 4).foldl (fun t k => SMap.put (fun _ => (0#8 : Byte)) t (4 * i + k) (BitVec.ofNat 8 (w.toNat / 2 ^ (8 * k))))
    (s.mm m).tab
  setMm s m { s.mm m with tab := tab }

/-- STATES of machine `m`. -/
def mmStates (s : State) (m : Nat) : Nat := tabByte s m 0

/-- The fields of word `i` of a table: bit, width and the range it has by itself (R500). A block number above 0x19 in EVSEL, not used by
R464, is held at 0x19 as one out of range (DESIGN CHOICE, log entry 54). -/
def tabFlds (i : Nat) : List (Nat × Nat × Rng) :=
  if i = 0 then [(0, 8, .nat 1 16), (8, 8, .any)]
  else if i ≤ 8 then [(0, 8, .any), (8, 8, .any), (16, 8, .nat 0 0x19), (31, 1, .any)]
  else (List.range 4).flatMap (fun j => [(8 * j, 4, .any), (8 * j + 7, 1, .any)])

/-- The reserved fields of word `i`. -/
def tabReserved (i : Nat) : List (Nat × Nat) :=
  if i = 0 then [(16, 16)] else if i ≤ 8 then [(24, 7)] else (List.range 4).map (fun j => (8 * j + 4, 3))

/-! ### What may be staged -/

/-- The QS fields of the register at host address `a`: bit, width and range. -/
def qsWord (a : Nat) : List (Nat × Nat × Rng) :=
  if inTab a then tabFlds ((a - tabBase) / 4)
  else ((blockFlds a).filter (fun f => f.acc == .qs && f.reg.hits a)).map (fun f => (f.lsb, f.width, f.rng))

/-- Two staged values are of the same field. -/
def Staged.same (x y : Staged) : Bool := x.addr == y.addr && x.lsb == y.lsb && x.mach == y.mach

/-- The value in effect of the field of `x` (R5). -/
def inEffect (s : State) (x : Staged) : Nat :=
  bitsOf (if inTab x.addr then tabWord s x.mach ((x.addr - tabBase) / 4) else rd s x.addr) x.lsb x.width

/-- Every value waiting for a boundary, in the order in which they apply. -/
def waiting (s : State) : List Staged :=
  (s.quo.implicit.filter (fun e => !e.late)).map (·.st) ++ s.quo.staged ++ (s.quo.implicit.filter (·.late)).map (·.st)

/-- The value of the field of `x` as it will stand after the commit (R503). -/
def willBe (s : State) (x : Staged) : Nat :=
  (waiting s).foldl (fun v y => if y.same x then y.val else v) (inEffect s x)

/-- The field of bits `lsb` and `w` at `a`, for machine `m` where it is in a table. -/
def fieldAt (a lsb w m : Nat) : Staged := ⟨a, lsb, w, m, 0⟩

/-- A register field as it will stand. -/
def willF (s : State) (f : Fld) (i : Nat) : Nat := willBe s (fieldAt (f.reg.at i) f.lsb f.width 0)

/-- STATES of machine `m` as it will stand. -/
def willStates (s : State) (m : Nat) : Nat := willBe s (fieldAt tabBase 0 8 m)

/-- LOCK_M and LOCK_K of channel `c` as they will stand. -/
def willLock (s : State) (c : Nat) : Nat × Nat := (zeroIs 128 (willF s F.EDG_CH_LOCK_M c), zeroIs 16 (willF s F.EDG_CH_LOCK_K c))

/-- P of channel `c` as it will stand, for a lock that fits (R142). -/
def willP (s : State) (c : Nat) : Nat :=
  let p := fget s F.SYS_IMP_CFG_PERIOD
  let f := carrierFit p (willLock s c).1 (willLock s c).2
  carrierP p f.1 f.2

/-- A value held at `top` or below; the correction is of kind `k`. -/
def atMost (top : Nat) (k : Corr) (v : Nat) : Nat × Corr := if top < v then (top, k) else (v, .none)

/-- A value held below the STATES that machine `m` will have; a machine that will have none corrects nothing (R101). -/
def belowStates (s : State) (m v : Nat) : Nat × Corr :=
  if willStates s m = 0 then (v, .none) else atMost (willStates s m - 1) .clampHi v

/-- The largest LEAD with LEAD × 20 ns below DIV × T_IMP (R179). -/
def leadTop (s : State) (div : Nat) : Nat := max 1 (div * fget s F.SYS_IMP_CFG_PERIOD - 1)

/-- The ranges stated relative to another field (R503), for the field of `x` with the value `v`. -/
def relOf (s : State) (x : Staged) (v : Nat) : Nat × Corr :=
  if inTab x.addr then
    if x.addr = tabBase then (if x.lsb = 8 then belowStates s x.mach v else (v, .none))
    else if tabBase + 36 ≤ x.addr ∧ x.lsb % 8 = 0 then belowStates s x.mach v
    else (v, .none)
  else
    match R.EDG_CH.idx? x.addr with
    | some (c :: _) =>
      let l := willLock s c
      let f := carrierFit (fget s F.SYS_IMP_CFG_PERIOD) l.1 l.2
      if x.lsb = F.EDG_CH_LOCK_M.lsb ∧ f.1 ≠ l.1 then (f.1 % 128, .clampStep)
      else if x.lsb = F.EDG_CH_LOCK_K.lsb ∧ f.2 ≠ l.2 then (f.2 % 16, .clampStep)
      else (v, .none)
    | _ =>
      match R.EDG_PHASE.idx? x.addr with
      | some (c :: _) => atMost (willP s c - 1) .clampHi v
      | _ =>
        match R.SYS_TRK_WIN.idx? x.addr with
        | some (k :: _) => if x.lsb = 0 then atMost (willF s F.SYS_TRK_WIN_W_ON k - 1) .clampStep v else (v, .none)
        | _ =>
          match R.MOV_RHO.idx? x.addr with
          | some (m :: _) => if x.lsb = 0 then atMost (max 256 (willF s F.MOV_RHO_MAX m - 1)) .clampStep v else (v, .none)
          | _ =>
            if x.addr = R.SYS_MM_FORCE.addr ∧ x.lsb = F.SYS_MM_FORCE_STATE.lsb then
              belowStates s (willF s F.SYS_MM_FORCE_MACHINE 0) v
            else
              match R.FBK_SSI_TIMING.idx? x.addr with
              | some (e :: _) => if x.lsb = F.FBK_SSI_TIMING_LEAD.lsb then atMost (leadTop s (zeroIs 16 (willF s F.FBK_SSI_CFG_DIV e))) .clampStep v else (v, .none)
              | _ => (v, .none)

/-- The fields elsewhere whose range a write to `a` can change (R503). -/
def dependents (s : State) (a m : Nat) : List Staged :=
  if a = tabBase then
    ((List.range 32).flatMap (fun w => (List.range 4).map (fun j => fieldAt (tabBase + 36 + 4 * w) (8 * j) 4 m))) ++
      (if willF s F.SYS_MM_FORCE_MACHINE 0 = m then [fieldAt R.SYS_MM_FORCE.addr F.SYS_MM_FORCE_STATE.lsb 4 0] else [])
  else
    match R.EDG_CH.idx? a with
    | some (c :: _) => [fieldAt (R.EDG_PHASE.at c) F.EDG_PHASE_PHASE.lsb 22 0]
    | _ =>
      match R.FBK_SSI_CFG.idx? a with
      | some (e :: _) => [fieldAt (R.FBK_SSI_TIMING.at e) F.FBK_SSI_TIMING_LEAD.lsb F.FBK_SSI_TIMING_LEAD.width 0]
      | _ => []

/-! ### Staging -/

/-- A report entry of R59 with type byte 0 and the interface as INSTANCE (R72); after the 16th, LOST counts. -/
def quoReport (ifc : Ifc) (k : Corr) (a lsb given applied : Nat) (s : State) : State :=
  if s.quo.report.length < 16 then
    { s with quo := { s.quo with report := s.quo.report ++
        [⟨BitVec.ofNat 32 (k.kind + 2 ^ 16 * Ifc.num ifc + 2 ^ 24 * lsb), BitVec.ofNat 32 a, BitVec.ofNat 32 given,
          BitVec.ofNat 32 applied⟩] } }
  else bump s F.QUO_STATUS_LOST

/-- R71: add to the staged values, or replace the value of the same field; a 2,049th field sets FULL. -/
def stageOpen (x : Staged) (s : State) : State :=
  if s.quo.staged.any (fun y => y.same x) then
    { s with quo := { s.quo with staged := s.quo.staged.map (fun y => if y.same x then x else y) } }
  else if s.quo.staged.length < 2048 then { s with quo := { s.quo with staged := s.quo.staged ++ [x] } }
  else { s with quo := { s.quo with full := true } }

/-- R6: an implicit transaction for the boundary after R6's 2 µs. -/
def stageImplicit (ifc : Ifc) (x : Staged) (s : State) : State :=
  { s with quo := { s.quo with implicit := s.quo.implicit ++ [⟨ifc, skipImp s, s.quo.pending.isSome, x⟩] } }

/-- Stage a value: in the open quoin, else as an implicit transaction. -/
def stagePut (ifc : Ifc) (x : Staged) (s : State) : State :=
  if s.quo.owner.isSome then stageOpen x s else stageImplicit ifc x s

/-- The last element that `p` picks replaced by `f` of it. -/
def fixLast {α : Type} (p : α → Bool) (f : α → α) : List α → List α
  | [] => []
  | x :: r => if p x && !r.any p then f x :: r else x :: fixLast p f r

/-- A corrected value takes the place of the last one of its field that waits for the same boundary, and queues where there is none: a GO
of the same write finds it corrected (R505, R503, R101). -/
def implicitFix (ifc : Ifc) (x : Staged) (s : State) : State :=
  let same := fun (e : Impl) => e.st.same x && e.skip == skipImp s && e.late == s.quo.pending.isSome
  if s.quo.implicit.any same then
    { s with quo := { s.quo with implicit := fixLast same (fun e => { e with st := x }) s.quo.implicit } }
  else stageImplicit ifc x s

/-- A staged value with a correction replaces what was staged, with its report (R72). -/
def stageFix (ifc : Ifc) (x : Staged) (given : Nat) (k : Corr) (s : State) : State :=
  quoReport ifc k x.addr x.lsb given x.val (if s.quo.owner.isSome then stageOpen x s else implicitFix ifc x s)

/-- R505, R111: a staged SWAP of 1 shows as SWAP_PENDING. -/
def swapMark (xs : List Staged) (s : State) : State :=
  forN 5 (fun n s =>
    if xs.any (fun x => x.addr == R.PLT_CTL.at n && x.lsb == 0 && x.val == 1) then modPlt s n (fun p => { p with swapPending := true })
    else s) s

/-- The new fields that a write would add to an open quoin. -/
def wouldAdd (s : State) (xs : List Staged) : Nat := (xs.filter (fun x => !s.quo.staged.any (fun y => y.same x))).length

/-- R71, R72, R503: the QS fields of a write of `v` to `a` are staged, corrected and reported, and then whatever
depends on them. -/
def stageWord (ifc : Ifc) (a : Nat) (v : Word) (s : State) : State :=
  let m := if inTab a then fget s F.SYS_MM_SEL_M else 0
  let own := (qsWord a).map (fun f =>
    let g := bitsOf v f.1 f.2.1
    let j := f.2.2.judge f.2.1 g
    ((⟨a, f.1, f.2.1, m, j.1⟩ : Staged), g, j.2))
  if s.quo.owner.isSome && decide (2048 < s.quo.staged.length + wouldAdd s (own.map (·.1))) then
    { s with quo := { s.quo with full := true } }
  else
    let s := forL own (fun e s => stagePut ifc e.1 s) s
    let s := forL own (fun e s =>
      let r := relOf s e.1 e.1.val
      if r.2 ≠ .none then stageFix ifc { e.1 with val := r.1 } e.2.1 r.2 s
      else if e.2.2 ≠ .none then quoReport ifc e.2.2 a e.1.lsb e.2.1 e.1.val s
      else s) s
    let s := if inTab a then forL (tabReserved ((a - tabBase) / 4)) (fun r s =>
        if bitsOf v r.1 r.2 = 0 then s else quoReport ifc .reserved a r.1 (bitsOf v r.1 r.2) 0 s) s
      else s
    let s := forL (dependents s a m) (fun x s =>
      let v := willBe s x
      let r := relOf s x v
      if r.2 = .none then s else stageFix ifc { x with val := r.1 } v r.2 s) s
    if s.quo.owner.isSome then s else swapMark (s.quo.implicit.map (·.st)) s

/-- A host write to the QS fields of `a` (R6, R71, R75): the owner's are staged, another interface's ignored. -/
def qsWrite (ifc : Ifc) (a : Nat) (v : Word) (s : State) : State :=
  match s.quo.owner with
  | some o => if o = ifc then stageWord ifc a v s else hostDrop ifc a s
  | none => stageWord ifc a v s

/-! ### QUO.CTL -/

/-- The quoin closes and its staged values are discarded. -/
def quoClose (s : State) : State := { s with quo := { s.quo with owner := none, staged := [] } }

/-- States that admit BEGIN (R70). -/
def beginState (d : DevState) : Bool := d == .loaded || d == .ready || d == .run || d == .safeStop

/-- An empty quoin opens for an interface (R70). -/
def quoOpen (ifc : Ifc) (s : State) : State :=
  fset { s with quo := { s.quo with
    owner := some ifc, lastWrite := clk s, staged := [], full := false, report := [], began := sysCycle s } } F.QUO_STATUS_LOST 0

/-- R70: BEGIN opens a quoin, or is refused. Of two in one SYS cycle PCIe's counts, and QSPI's is ignored (R75). -/
def quoBegin (ifc : Ifc) (s : State) : State :=
  match s.quo.owner with
  | some o =>
    if o = ifc then raiseFlag s F.QUO_STATUS_REFUSED
    else if ifc = .pcie ∧ s.quo.began = sysCycle s then hostDrop o R.QUO_CTL.addr (quoOpen ifc s)
    else hostDrop ifc R.QUO_CTL.addr s
  | none =>
    if beginState s.sys.st && s.quo.pending.isNone then quoOpen ifc s else raiseFlag s F.QUO_STATUS_REFUSED

/-- The timeout's event in the input stage. -/
def timedEvt (c : Nat) (e : Nat × Event) : Bool := e.1 == c && e.2.block == blkQUO && e.2.code == 0x03

/-- What the timeout `x` has put into the event log, the pending interrupts and the triggers comes out again (R73). -/
def timedUndo (x : TimedOut) (s : State) : State :=
  let s := if s.evt.stage.any (timedEvt x.cyc) then
      { s with evt := { s.evt with stage := s.evt.stage.filter (fun e => !timedEvt x.cyc e) } }
    else
      wr { s with evt := { s.evt with overflow := x.log.1, dropped := x.log.2.1, dropMask := x.log.2.2.1 } }
        (R.EVT_DROP.at (blkQUO - 1)) x.log.2.2.2
  let new := irqPend s &&& ~~~x.pend &&& 6#32
  let back := fun (o : Out) => match o with
    | .msix v => (v == 1 || v == 2) && new.getLsbD v
    | _ => false
  wr { s with
    mmq := s.mmq.filter (fun e => !(e.block == blkQUO && e.code == 0x03 && e.at_ == lns s))
    trigq := s.trigq.filter (fun e => !x.trigs.contains e)
    out := s.out.take x.sent ++ (s.out.drop x.sent).filter (fun o => !back o) } R.SYS_IRQ_PEND.addr (irqPend s &&& ~~~new)

/-- A timeout of the present SYS cycle gives way to the owner's COMMIT (R73): the quoin stands as before it. -/
def quoUntime (ifc : Ifc) (s : State) : State :=
  match s.quo.owner, s.quo.timed with
  | none, some x =>
    if x.cyc = sysCycle s ∧ x.owner = ifc then
      fset (timedUndo x { s with quo := { s.quo with owner := some x.owner, staged := x.staged, full := x.full, timed := none } })
        F.QUO_STATUS_TIMED_OUT x.was.toNat
    else s
  | _, _ => s

/-- R73, R71: COMMIT closes the quoin; with FULL it is refused and rolled back. Without an open quoin it is ignored (R64). -/
def quoCommit (ifc : Ifc) (s : State) : State :=
  let s := quoUntime ifc s
  match s.quo.owner with
  | some o =>
    if o ≠ ifc then hostDrop ifc R.QUO_CTL.addr s
    else if s.quo.full then
      raise blkQUO 0x02 (Ifc.num ifc) 1 0 (quoClose (fset s F.QUO_STATUS_RESULT 2))
    else
      swapMark s.quo.staged { s with quo := { s.quo with
        owner := none, pending := some ifc, skip := skipImp s
        implicit := s.quo.implicit.map (fun e => { e with late := false }) } }
  | none => hostDrop ifc R.QUO_CTL.addr s

/-- R74: ROLLBACK by the owner; without an open quoin, or while PENDING is 1, it is ignored. -/
def quoRollback (ifc : Ifc) (s : State) : State :=
  match s.quo.owner with
  | some o => if o ≠ ifc ∨ s.quo.pending.isSome = true then hostDrop ifc R.QUO_CTL.addr s else quoClose s
  | none => hostDrop ifc R.QUO_CTL.addr s

/-- A write of QUO.CTL; with more than one bit set it is ignored and counted (R64), and so is any of another interface's during
an open quoin (R75). -/
def quoCtl (ifc : Ifc) (v : Word) (s : State) : State :=
  match bitsOf v 0 3 with
  | 1 => quoBegin ifc s
  | 2 => quoCommit ifc s
  | 4 => quoRollback ifc s
  | 0 =>
    match s.quo.owner with
    | some o => if o ≠ ifc then hostDrop ifc R.QUO_CTL.addr s else s
    | none => s
  | _ => hostDrop ifc R.QUO_CTL.addr s

/-- R75: no write of the owner for QUO.TIMEOUT.MS. -/
def quoTimeout (s : State) : State :=
  match s.quo.owner with
  | some o =>
    if s.quo.lastWrite + 256000000 * fget s F.QUO_TIMEOUT_MS ≤ clk s then
      let s' := raise blkQUO 0x03 (Ifc.num o) s.quo.staged.length 0 (quoClose (raiseFlag s F.QUO_STATUS_TIMED_OUT))
      let x : TimedOut := { cyc := sysCycle s, owner := o, staged := s.quo.staged, full := s.quo.full, was := flag s F.QUO_STATUS_TIMED_OUT
                            log := (s.evt.overflow, s.evt.dropped, s.evt.dropMask, rd s (R.EVT_DROP.at (blkQUO - 1)))
                            pend := irqPend s, sent := s.out.length, trigs := s'.trigq.drop s.trigq.length }
      { s' with quo := { s'.quo with timed := some x } }
    else s
  | none => s

/-! ### Application (step 1 of R29) -/

/-- The cause for which a swap of platen `n` cannot take place (R111): 3 STG_BUSY, 2 the worst case; PLTM has no
slot limit (R115). -/
def swapBad (s : State) (n : Nat) : Option Nat :=
  let p := s.plt n
  if p.stgBusy then some 3
  else if n < 4 ∧ 48 * fget s F.SYS_IMP_CFG_PERIOD / 5 < p.stgWorst then some 2
  else none

/-- R111: the banks change places with their tables, and every pointer, base, stride and modulo is 0 (R83). A measurement job of PLTM
that runs goes on at its index in the new bank (DESIGN CHOICE, log entry 72). -/
def bankSwap (n : Nat) (s : State) : State :=
  modPlt s n (fun p => { p with
    act := p.stg, stg := p.act, actBank := !p.actBank, actWorst := p.stgWorst, stgWorst := p.actWorst, ptr := [] })

/-- A staged value is SWAP of platen `n`. -/
def isSwap (n : Nat) (x : Staged) : Bool := x.addr == R.PLT_CTL.at n && x.lsb == 0

/-- A staged value takes effect. SWAP acts on its own. -/
def applyField (x : Staged) (s : State) : State :=
  if inTab x.addr then
    let i := (x.addr - tabBase) / 4
    setTabWord x.mach i (setBits (tabWord s x.mach i) x.lsb x.width x.val) s
  else if (List.range 5).any (fun n => isSwap n x) then s
  else wr s x.addr (setBits (rd s x.addr) x.lsb x.width x.val)

/-- R101: a GO that has applied sets one machine's state. -/
def forceScan (s : State) : State :=
  if flag s F.SYS_MM_FORCE_GO then
    let m := fget s F.SYS_MM_FORCE_MACHINE
    let s := fset s F.SYS_MM_FORCE_GO 0
    if mmStates s m = 0 then s else setMm s m { s.mm m with st := fget s F.SYS_MM_FORCE_STATE }
  else s

/-- R505: one implicit transaction; a SWAP is judged on its own. -/
def applyImplicit (e : Impl) (s : State) : State :=
  let x := e.st
  match (List.range 5).find? (fun n => isSwap n x) with
  | some n =>
    let s := if x.val = 1 then modPlt s n (fun p => { p with swapPending := false }) else s
    if !addrOn s x.addr then hostDrop e.ifc x.addr s
    else if x.val = 0 then s
    else if (swapBad s n).isSome then raiseFlag s F.PLT_STATUS_SWAP_REFUSED n
    else bankSwap n s
  | none => if addrOn s x.addr then forceScan (applyField x s) else hostDrop e.ifc x.addr s

/-- R73, R111: the pending commit of interface `ifc`. A commit that is refused leaves DROPPED as the last commit left it (DESIGN CHOICE, log
entry 72). -/
def applyCommit (ifc : Ifc) (s : State) : State :=
  let xs := s.quo.staged
  let swaps := (List.range 5).filter (fun n => xs.any (fun x => isSwap n x && x.val == 1))
  let live := swaps.filter (fun n => addrOn s (R.PLT_CTL.at n))
  let s := forL swaps (fun n s => modPlt s n (fun p => { p with swapPending := false })) s
  let s := { s with quo := { s.quo with pending := none, staged := [] } }
  match live.find? (fun n => (swapBad s n).isSome) with
  | some n =>
    let s := forL live (fun n s => raiseFlag s F.PLT_STATUS_SWAP_REFUSED n) s
    raise blkQUO 0x02 (Ifc.num ifc) ((swapBad s n).getD 0) n (fset s F.QUO_STATUS_RESULT 2)
  | none =>
    let on := xs.filter (fun x => addrOn s x.addr)
    let s := forceScan (forL on applyField s)
    let s := forL live bankSwap s
    let s := fset (fset s F.QUO_STATUS_RESULT 1) F.QUO_STATUS_DROPPED (satNat 12 (xs.length - on.length))
    raise blkQUO 0x01 (Ifc.num ifc) (impCount s) on.length (fset s F.QUO_APPLIED_IMP (impCount s))

/-- R500: a machine in a state at or above its STATES takes INIT. -/
def initScan (s : State) : State :=
  forN 64 (fun m s => if mmStates s m ≠ 0 ∧ mmStates s m ≤ (s.mm m).st then setMm s m { s.mm m with st := tabByte s m 1 } else s) s

/-- What applied values set going in the edge engine (R143, R162): `o` is the machine before them. -/
def applyEdge (o s : State) : State :=
  let changed := fun (r : Reg) c => rd o (r.at c) != rd s (r.at c)
  let s := forN 48 (fun c s => if changed R.EDG_CH c || changed R.EDG_PHASE c then restartChan (some s.sys.imp) c s else s) s
  forN 16 (fun a s =>
    let s := if fget o F.EDG_AUX_CH a ≠ fget s F.EDG_AUX_CH a then
        fset { s with aux := SMap.put (fun _ => AuxS.init) s.aux a { SMap.get (fun _ => AuxS.init) s.aux a with wait := true } }
          F.EDG_AUX_LEVEL 0 a
      else s
    if flag s F.EDG_AUX_EN a then s else fset s F.EDG_AUX_LEVEL 0 a)
    (forN 24 (fun x s => if flag s F.EDG_TRIPX_EN x then s else fsetBit s F.EDG_XLIVE_LIVE x false) s)

/-- An EN of the output watchdog that rises starts it (R312, log entry 71). -/
def applyWdt (o s : State) : State := if !flag o F.FIO_WDT_EN && flag s F.FIO_WDT_EN then wdtRestart s else s

/-- What applied values set going in the inputs (R121, R177, R184). REF_NOW is looked at once all values have applied: a 1 and a later 0
for one boundary re-reference nothing (DESIGN CHOICE, log entry 72). -/
def applyInputs (o s : State) : State :=
  let s := settleChanged o s
  let s := forN 48 (fun c s =>
    if fget o F.FBK_HALL_CFG_INV c != fget s F.FBK_HALL_CFG_INV c || fget o F.FBK_HALL_CFG_REV c != fget s F.FBK_HALL_CFG_REV c then
      hallConfig c s
    else s) s
  forL srcList (fun i s =>
    if flag s F.FBK_HALL_CTL_REF_NOW i then
      let s := fset s F.FBK_HALL_CTL_REF_NOW 0 i
      if srcOn s i then modSrc (reReference i s) i (fun x => { x with now := putBit x.now 9 true }) else s
    else s) s

/-- R219 for the values that have applied, and the SEC_SYNC pulse with word 24 of every block: a mover with SRC.SBC 15 has no pair that
could be released. -/
def applyMirrors (xs : List Staged) (s : State) : State :=
  let s := forL xs (fun x s =>
    match R.MOV_CFG.idx? (0x20000 + (x.addr - 0x20000) / 0x200 * 0x200) with
    | some (m :: _) =>
      let off := (x.addr - 0x20000) % 0x200
      if 0x20000 ≤ x.addr ∧ 0x40 ≤ off ∧ off ≤ 0x98 then mirrorGain m ((off - 0x40) / 4) s else s
    | _ => s) s
  forN 32 (fun m s =>
    let pulse := flag s F.MOV_CTL_SEC_SYNC m
    let s := fset s F.MOV_CTL_SEC_SYNC 0 m
    mirrorFlags m pulse (decide (fget s F.MOV_SRC_SBC m < 8) && sbcOn s (fget s F.MOV_SRC_SBC m)) (fget s F.PRF_STATE_STATE m = 0) s) s

/-- Step 1 of R29 on an impression boundary. -/
def quoApply (s : State) : State :=
  let o := s
  let due := s.quo.implicit.filter (fun e => e.skip == 0)
  let commit := s.quo.pending.isSome && s.quo.skip == 0
  let rest := (s.quo.implicit.filter (fun e => e.skip != 0)).map (fun e => { e with skip := e.skip - 1, late := e.late && !commit })
  let s := { s with quo := { s.quo with implicit := rest, skip := s.quo.skip - 1 } }
  let s := forL (due.filter (fun e => !e.late)) applyImplicit s
  let s := match o.quo.pending with
    | some ifc => if commit then applyCommit ifc s else s
    | none => s
  let s := forL (due.filter (·.late)) applyImplicit s
  let xs := (due.map (·.st)) ++ (if commit && fget s F.QUO_STATUS_RESULT == 1 then o.quo.staged else [])
  let s := swapMark ((if s.quo.pending.isSome then s.quo.staged else []) ++ s.quo.implicit.map (·.st)) s
  applyMirrors xs (applyWdt o (applyInputs o (applyEdge o (initScan s))))

/-! ### Rows -/

/-- BEGIN (R70). -/
def execQuoBegin (h : Via) (s : State) : Res := .next (hostGate h R.QUO_CTL.addr (some 1#32) (quoBegin h.ifc) s)

/-- QS_STAGED_WRITE (R71, R72, R75). -/
def execQsStagedWrite (h : Via) (a v : Word) (s : State) : Res :=
  .next (hostGate h a.toNat (some v) (qsWrite h.ifc a.toNat v) s)

/-- QS_IMPLICIT_WRITE (R6, R505): while a quoin is open the write falls under R71 and R75. -/
def execQsImplicitWrite (h : Via) (a v : Word) (s : State) : Res :=
  .next (hostGate h a.toNat (some v) (qsWrite h.ifc a.toNat v) s)

/-- COMMIT (R73). -/
def execQuoCommit (h : Via) (s : State) : Res := .next (hostGate h R.QUO_CTL.addr (some 2#32) (quoCommit h.ifc) s)

/-- ROLLBACK (R74). -/
def execQuoRollback (h : Via) (s : State) : Res := .next (hostGate h R.QUO_CTL.addr (some 4#32) (quoRollback h.ifc) s)

/-- QUOIN_TIMEOUT (R75). -/
def execQuoinTimeout (t : Nat) (s : State) : Res := .next (quoTimeout (advance t s))

end Sys2Proof.Machine
end

