-- ==== Sys2Proof/Machine/Bank.lean ====
section
/-! DEFINITION. Sys2Proof/Machine/Bank.lean: forme banks and their tables (R96 to R98, R105 to R112): the worst case,
host writes to the staged bank, the input latch and the output publish. -/

namespace Sys2Proof.Machine

/-! ### Units and slots (R90, R91, R97, R110) -/

/-- Slots by section from index `i` to the end of the forme (R90, R91); the first argument bounds the walk. -/
def slotsFrom (b : BankS) : Nat → Nat → SMap Nat → SMap Nat
  | 0, _, m => m
  | n + 1, i, m =>
    if 8192 ≤ i then m
    else
      let w := b.sort i
      let d := decodeSort 0 0 [] w
      if d.1 = 0x3F then m
      else
        let sec := d.2.sec.toNat
        match repOf w i with
        | some (k, c) => slotsFrom b n (i + 1 + k) (nput m sec (nget m sec + 1 + k * c))
        | none => slotsFrom b n (i + 1) (nput m sec (nget m sec + 1))

/-- Section-map entry `sec` of a bank. -/
def BankS.secMap (b : BankS) (sec : Nat) : W64 := SMap.get (fun _ => (0#64 : W64)) b.sec sec

/-- Bits of a table word. -/
def wbits (w : W64) (lsb width : Nat) : Nat := w.toNat / 2 ^ lsb % 2 ^ width

/-- R97: section `sec` is scheduled in phase `phi`. -/
def scheduled (b : BankS) (sec phi : Nat) : Bool :=
  let e := b.secMap sec
  let per := wbits e 8 6 + 1
  (b.phasesM1 + 1) % per == 0 && decide (wbits e 16 6 < per) && phi % per == wbits e 16 6

/-- The worst-case impression of a bank (R110). -/
def worstCase (b : BankS) : Nat :=
  let cost := slotsFrom b 8192 0 []
  let of_ := fun phi => (cost.filter (fun e => scheduled b e.1 phi)).foldl (fun n e => n + e.2) 0
  64 + ((List.range (b.phasesM1 + 1)).map of_).foldl max 0

/-! ### Schedule and mask (R96 to R98) -/

/-- R98: the mask bit of section `sec`. -/
def maskBit (s : State) (b : BankS) (sec : Nat) : Bool :=
  let e := b.secMap sec
  e.getLsbD 6 || e.getLsbD (32 + (s.mm (wbits e 0 6)).st)

/-- A word with bit `i` from `f`, for 64 bits. -/
def bits64 (f : Nat → Bool) : W64 := BitVec.ofNat 64 ((List.range 64).foldl (fun n i => if f i then n + 2 ^ i else n) 0)

/-- Step 3 of R29 for platen `n`: the phase, the sections scheduled and the enable mask. -/
def maskLatch (n : Nat) (s : State) : State :=
  modPlt s n (fun p =>
    let phi := s.sys.imp % (p.act.phasesM1 + 1)
    { p with phi := phi, mask := bits64 (maskBit s p.act), sched := bits64 (fun i => scheduled p.act i phi) })

/-! ### Descriptors (R105) -/

/-- The fields of a descriptor: ADDR, MEM is Y, words moved, TYPE, SEC, EN and word 1. -/
structure Desc where
  addr : Nat
  y : Bool
  cnt : Nat
  ty : Nat
  sec : Nat
  en : Bool
  w1 : Nat
  deriving DecidableEq, Repr

/-- A descriptor from its two words. -/
def descOf (w : W64) : Desc := ⟨wbits w 0 14, w.getLsbD 14, wbits w 16 3 + 1, wbits w 20 4, wbits w 24 6, w.getLsbD 31, wbits w 32 32⟩

/-- Store words from the descriptor's address on; addresses wrap within the memory. -/
def descPut (n : Nat) (d : Desc) (ws : List Nat) (s : State) : State :=
  forL ws.zipIdx (fun e s => modPlt s n (fun p => p.setWord d.y ((d.addr + e.2) % 16384) (BitVec.ofNat 24 e.1))) s

/-- The words that a latch descriptor copies (R105). -/
def latchWords (d : Desc) (s : State) : List Nat × State :=
  let each := fun (f : Nat → State → Nat × State) => (List.range d.cnt).foldl (fun r i => let x := f i r.2; (r.1 ++ [x.1], x.2)) (([] : List Nat), s)
  let image := fun e s => readSram 2 (fget s F.IMP_VAL_BASE_INDEX + d.w1 % 2 ^ 18 + e) s
  match d.ty with
  | 1 => each (fun i s =>
      let off := d.w1 % 2 ^ 16 + i
      (if off ≤ 0x33F ∧ domainOn s 7 = true then (pageGet s off).toNat else 0, s))
  | 2 => each (fun i s => readSram 2 (d.w1 % 2 ^ 22 + i) s)
  | 3 => each (fun i s => image i s)
  | 4 =>
    let r := (List.range (d.cnt / 2)).foldl (fun r i => let x := image i r.2; (r.1 ++ [x.1 / 2 ^ 24, x.1 % 2 ^ 24], x.2)) (([] : List Nat), s)
    (r.1, r.2)
  | 5 => ([s.sys.s0 % 2 ^ 32 / 2 ^ 24, s.sys.s0 % 2 ^ 24], s)
  | _ => ([], s)

/-- R103: latch descriptor `i` of platen `n`. -/
def latchDesc (n i : Nat) (s : State) : State :=
  let d := descOf (SMap.get (fun _ => (0#64 : W64)) (s.plt n).act.latch i)
  if d.en && secOn s n d.sec then
    let r := latchWords d s
    descPut n d r.1 r.2
  else s

/-- R103: the input latch of platen `n`. -/
def inputLatch (n : Nat) (s : State) : State :=
  forN 32 (latchDesc n) (modPlt s n (fun p => { p with running := true, ended := false, pos := 0, gap := false }))

/-- The words that a publish descriptor reads, with the errors found; an uncorrectable one moves nothing (R113). -/
def pubWords (n : Nat) (d : Desc) (errs : List PltErr) (s : State) : Option (List Nat) × State :=
  let at_ := fun i => (d.addr + i) % 16384
  let s' := forN d.cnt (fun i s => pltEcc errs n (dataOff d.y (at_ i)) s) s
  if (List.range d.cnt).all (fun i => pltReadable errs n (dataOff d.y (at_ i))) then
    (some ((List.range d.cnt).map (fun i => ((s.plt n).word d.y (at_ i)).toNat)), s')
  else (none, s')

/-- The compare values that words give: EDG_FRAC as fractions of P, EDG_RAW in pairs (R105). -/
def pubCompares (s : State) (c ty : Nat) : List Nat → List Nat
  | [] => []
  | w :: r =>
    if ty = 1 then (2 * w * chP s c + 2 ^ 18) / 2 ^ 19 :: pubCompares s c ty r
    else
      match r with
      | f :: r' => (w % 2 ^ 22 * 64 + f % 64) :: pubCompares s c ty r'
      | [] => []

/-- R104 to R106: publish descriptor `i` of platen `n`. -/
def pubDesc (n : Nat) (errs : List PltErr) (i : Nat) (s : State) : State :=
  let d := descOf (SMap.get (fun _ => (0#64 : W64)) (s.plt n).act.pub i)
  if !(d.en && secOn s n d.sec) then s
  else if d.ty = 3 then
    let r := pubWords n d errs s
    match r.1 with
    | some ws => forL ws.zipIdx (fun e s => writeSram (d.w1 % 2 ^ 22 + e.2) (unsgn 32 (sgn 24 e.1)) s) r.2
    | none => r.2
  else if d.ty = 1 ∨ d.ty = 2 then
    let c := d.w1 % 64
    let j := d.w1 / 2 ^ 8 % 16
    let k := if d.ty = 1 then d.cnt else d.cnt / 2
    if 48 ≤ c ∨ fget s F.SDM_CFG_PLATEN c ≠ n ∨ 12 < j + k then raiseFlag s F.PLT_STATUS_PUB_REFUSED n
    else
      let r := pubWords n d errs s
      match r.1 with
      | some ws =>
        let vs := pubCompares r.2 c d.ty ws
        if domainOn s 6 then modCh r.2 c (fun x => { x with part := vs.zipIdx.foldl (fun m e => nput m (j + e.2) (e.1 + 1)) x.part }) else r.2
      | none => r.2
  else s

/-- R106 at the end of the publish of platen `n`: complete sets go to EDG, each with its completion instant in LNS if `ats` gives one,
else the present one, and partial ones are discarded. -/
def pubEnd (n : Nat) (ats : List (Nat × Nat)) (s : State) : State :=
  forN 48 (fun c s =>
    let part := (s.ch c).part
    if fget s F.SDM_CFG_PLATEN c ≠ n ∨ part.isEmpty then s
    else
      let s := modCh s c (fun x => { x with part := [] })
      if (List.range 12).all (fun j => nget part j != 0) then
        setComplete c (((ats.find? (fun e => e.1 == c)).map (fun e => (e.2 * 2 ^ 18 - s.tim.stepped) / 2 ^ 18)).getD (clk s)) ((List.range 12).map (fun j => nget part j - 1)) s
      else raiseFlag s F.PLT_STATUS_PUB_PARTIAL n) s

/-- The window offset of protected word `i` (R114): X, Y, C, then the two banks. -/
def scrubOff (i : Nat) : Nat :=
  if i < 16384 then 4 * i
  else if i < 32768 then 0x10000 + 4 * (i - 16384)
  else if i < 40960 then 0x20000 + 4 * (i - 32768)
  else if i < 49152 then 0x40000 + 8 * (i - 40960)
  else 0x50000 + 8 * (i - 49152)

/-- R114: the scrubber reads and corrects 32 words in the gap. What it does on an uncorrectable word R113 does not say: it sets UE
and UE_ADDR and raises the event as the reads of R113 do (DESIGN CHOICE, log entry 71). -/
def scrub32 (n : Nat) (errs : List PltErr) (s : State) : State :=
  let p := (s.plt n).scrub
  let s := forN 32 (fun i s => pltEcc errs n (scrubOff ((p + i) % 57344)) s) s
  modPlt s n (fun x => { x with scrub := (p + 32) % 57344, gap := false })

/-- The end of a gap: the scrubber has had its words, after the accesses held for the gap (R63, R114). -/
def gapEnd (errs : List PltErr) (s : State) : State := forN 4 (fun n s => if (s.plt n).gap then scrub32 n errs s else s) s

/-- The output publish of platen `n` (R104); the gap begins. -/
def publish (n : Nat) (ats : List (Nat × Nat)) (errs : List PltErr) (s : State) : State :=
  modPlt (pubEnd n ats (forN 32 (pubDesc n errs) s)) n (fun p => { p with running := false, ended := false, gap := true })

/-! ### The staged bank (R62, R107, R110, R111) -/

/-- A 64-bit word with one of its 32-bit halves replaced. -/
def putHalf (w : W64) (hi : Bool) (v : Word) : W64 :=
  if hi then v ++ w.extractLsb' 0 32 else w.extractLsb' 32 32 ++ v

/-- Store a half of an entry of a table of 64-bit words. -/
def tabHalf (d : Nat → W64) (m : SMap W64) (off : Nat) (v : Word) : SMap W64 :=
  SMap.put d m (off / 8) (putHalf (SMap.get d m (off / 8)) (off % 8 != 0) v)

/-- A write of the staged bank: from then on its worst case is being computed (R110). -/
def stgSet (n : Nat) (f : BankS → BankS) (s : State) : State := modPlt s n (fun p => { p with stg := f p.stg, stgBusy := true })

/-- The bits of a section-map word that are not reserved. -/
def secMask (off : Nat) : Word := if off % 8 = 0 then 0x003F3F7F#32 else 0x0000FFFF#32

/-- A host write to the staged bank of platen `n`: `off` is its offset in the window (0x50000 on), in the tables
(0x1000 on) or that of STG_CFG. A pending swap refuses it (R111). -/
def stgWrite (ifc : Ifc) (n a off : Nat) (v : Word) (s : State) : State :=
  if (s.plt n).swapPending then hostDrop ifc a s
  else
    let zero : Nat → W64 := fun _ => 0#64
    if 0x50000 ≤ off then stgSet n (fun b => { b with sorts := tabHalf endWord b.sorts (off - 0x50000) v }) s
    else if off = 0xC then stgSet n (fun b => { b with phasesM1 := v.toNat % 64 }) s
    else if off < 0x1100 then stgSet n (fun b => { b with latch := tabHalf zero b.latch (off - 0x1000) v }) s
    else if off < 0x1200 then stgSet n (fun b => { b with pub := tabHalf zero b.pub (off - 0x1100) v }) s
    else stgSet n (fun b => { b with sec := tabHalf zero b.sec (off - 0x1200) (v &&& secMask off) }) s

/-- Where host address `a` lies in a staged bank or its tables: the platen and the offset of `stgWrite`. -/
def stgPlace (a : Nat) : Option (Nat × Nat) :=
  if 0x800000 ≤ a ∧ a < 0xD00000 then
    let off := a % 0x100000
    if 0x50000 ≤ off ∧ off < 0x60000 then some ((a - 0x800000) / 0x100000, off) else none
  else if 0x10000 ≤ a ∧ a < 0x1F000 then
    let off := (a - 0x10000) % 0x3000
    if off = 0xC ∨ (0x1000 ≤ off ∧ off < 0x1400) then some ((a - 0x10000) / 0x3000, off) else none
  else none

/-- STAGED_BANK_WRITE (R62, R110, R111). -/
def execStagedBankWrite (h : Via) (a v : Word) (s : State) : Res :=
  .next (hostGate h a.toNat (some v) (fun s =>
    match stgPlace a.toNat with
    | some p => if a.toNat % 4 = 0 then stgWrite h.ifc p.1 a.toNat p.2 v s else hostDrop h.ifc a.toNat s
    | none => hostDrop h.ifc a.toNat s) s)

/-- STG_WORST_DONE (R110). -/
def execStgWorstDone (t : Nat) (p : Fin 5) (s : State) : Res :=
  let s := advance t s
  .next (if (s.plt p.val).stgBusy then
      modPlt s p.val (fun x => { x with stgBusy := false, stgWorst := satNat 25 (worstCase x.stg) })
    else s)

/-- OUTPUT_PUBLISH (R104 to R106): the forme has ended; `ats` gives the instants at which channels' sets are complete in EDG, and `t`
that of the others. -/
def execOutputPublish (t : Nat) (p : Fin 4) (ats : List (Nat × Nat)) (errs : List PltErr) (merrs : List MemErr) (s : State) : Res :=
  let s := noteErrs merrs (advance t s)
  let x := s.plt p.val
  .next (if domainOn s (2 + p.val) && x.running && (x.ended || x.bare || decide (8192 ≤ nextSort s p.val)) then publish p.val ats errs s
    else s)

end Sys2Proof.Machine
end

