-- ==== Sys2Proof/Machine/Sched.lean ====
section
/-! DEFINITION. Sys2Proof/Machine/Sched.lean: scheduled actions (R264 to R271). -/

namespace Sys2Proof.Machine

/-- Schedule entry `i`. -/
def State.schE (s : State) (i : Nat) : SchS := SMap.get (fun _ => SchS.init) s.mot.sch i

/-- Replace schedule entry `i`. -/
def setSch (i : Nat) (x : SchS) (s : State) : State :=
  { s with mot := { s.mot with sch := SMap.put (fun _ => SchS.init) s.mot.sch i x } }

/-- The fields of ACT (R264). -/
def SchS.kind (x : SchS) : Nat := bitsOf x.act 0 4
def SchS.sub (x : SchS) : Nat := bitsOf x.act 4 4
def SchS.inst (x : SchS) : Nat := bitsOf x.act 8 6
def SchS.wake (x : SchS) : Bool := x.act.getLsbD 14

/-- Whether an ARM names an action (R264). -/
def schOk (x : SchS) : Bool :=
  match x.kind with
  | 1 => decide (1 ≤ x.sub) && decide (x.sub ≤ 6) && decide (x.inst < 32)
  | 2 => decide (x.sub ≤ 5) && decide (x.inst < 32)
  | 3 => decide (x.inst < 32)
  | 4 => decide (x.inst < 16)
  | 5 => decide (x.sub ≤ 1) && decide (x.inst < 16)
  | 6 => decide (x.sub ≤ 3) && decide (x.inst < 8)
  | 7 => true
  | _ => false

/-- GRACE in ns. -/
def schGrace (s : State) : Nat := 1000 * fget s F.SCH_CFG_GRACE

/-- SUMMARY.ARMED counts the entries in ARMED. -/
def schCount (s : State) : State :=
  fset s F.SCH_SUMMARY_ARMED ((List.range 64).filter (fun i => fget s F.SCH_STAT_STATE i == 1)).length

/-- The limit register that SUB names (R264). -/
def limitFld : Nat → Fld
  | 0 => F.PRF_VMAX_VAL | 1 => F.PRF_AMAX_VAL | 2 => F.PRF_DMAX_VAL | 3 => F.PRF_JMAX_VAL | 4 => F.PRF_QDEC_VAL | _ => F.PRF_QJERK_VAL

/-- The action of entry `i` (R264). -/
def schAct (i : Nat) (x : SchS) (s : State) : State :=
  match x.kind with
  | 1 => prfLatch x.inst x.sub 0 s
  | 2 => fset s (limitFld x.sub) x.arg.toNat x.inst
  | 3 => if domainOn s 13 then fioSet x.inst (x.arg.getLsbD 0) s else s
  | 4 => if domainOn s 8 then recArm x.inst s else s
  | 5 => acdLatch x.inst (x.sub + 1) 0 s
  | 6 => pthLatch x.inst (x.sub + 1) 0 s
  | 7 => raise blkSCH 0x10 x.inst x.arg.toNat i s
  | _ => s

/-- R268: after entry `i` has fired or expired at the sample instant `n`, a periodic entry's TIME moves past it and
the entry stays ARMED; a one-shot entry goes to `st`. -/
def schNext (n i st : Nat) (s : State) : State :=
  let x := s.schE i
  let x := { x with late := false }
  if x.period = 0 then fset (setSch i x s) F.SCH_STAT_STATE st i
  else
    let k := if n < x.time then 1 else (n - x.time) / x.period + 1
    bump (setSch i { x with time := x.time + k * x.period } s) F.SCH_STAT_SKIPS (k - 1) i

/-- Entry `i` fires at the sample instant `n` (R265 to R268). -/
def schFire (n i : Nat) (late : Bool) (s : State) : State :=
  let x := s.schE i
  let s := fset s F.SCH_STAT_LATE late.toNat i
  let s := fset (bump s F.SCH_STAT_FIRES 1 i) F.SCH_LAST_VAL (n % 2 ^ 32) i
  let s := trigNote 5 (256 * n) (fun c => fget s F.ACQ_TCN_CFG_IDX c == i) s
  let s := if late then raise blkSCH 0x01 i (satNat 32 (n - x.time)) 0 (bump s F.SCH_SUMMARY_LATES) else s
  schNext n i 2 (schAct i x s)

/-- Entry `i` expires, `late` ns after its time. -/
def schExpire (n i late : Nat) (s : State) : State :=
  schNext n i 3 (raise blkSCH 0x02 i (satNat 32 late) 0 (bump s F.SCH_SUMMARY_EXPIRIES))

/-- The firing check of entry `i` at the boundary with sample instant `n` (R265 to R267). -/
def schCheck (n i : Nat) (s : State) : State :=
  let x := s.schE i
  if fget s F.SCH_STAT_STATE i ≠ 1 then s
  else if x.late then schFire n i true s
  else if n < x.time then s
  else if n - x.time < tImp s then schFire n i false s
  else if n - x.time ≤ tImp s + schGrace s then schFire n i true s
  else schExpire n i (n - x.time) s

/-- A CANCEL or an ARM is processed at the sample instant `n` (R264, R266, R269). -/
def schProcess (n i : Nat) (c : SCmd) (s : State) : State :=
  match c with
  | .cancel _ => if fget s F.SCH_STAT_STATE i = 1 then fset s F.SCH_STAT_STATE 4 i else s
  | .arm _ at_ time act arg period =>
    let x : SchS := { s.schE i with time := time, act := act, arg := arg, period := period.toNat, late := decide (time < at_) }
    let s := fset (fset (setSch i x s) F.SCH_STAT_SKIPS 0 i) F.SCH_STAT_FIRES 0 i
    if !schOk x then fset s F.SCH_STAT_STATE 5 i
    else
      let s := fset s F.SCH_STAT_STATE 1 i
      if time < at_ ∧ schGrace s < at_ - time then schExpire n i (at_ - time) s else s

/-- The boundaries that a command still passes. -/
def SCmd.skip : SCmd → Nat
  | .cancel k => k
  | .arm k _ _ _ _ _ => k

/-- One boundary passed. -/
def SCmd.less : SCmd → SCmd
  | .cancel k => .cancel (k - 1)
  | .arm k a t x g p => .arm (k - 1) a t x g p

/-- R269: the commands of entry `i` that this boundary admits. -/
def schAdmit (n i : Nat) (s : State) : State :=
  let x := s.schE i
  let s := setSch i { x with pend := (x.pend.filter (fun c => c.skip != 0)).map SCmd.less } s
  forL (x.pend.filter (fun c => c.skip == 0)) (schProcess n i) s

/-- Scheduled actions at a boundary, between steps 1 and 2 of R29 (R265, R269). -/
def schBoundary (s : State) : State :=
  let n := s.sys.s0
  schCount (forN 64 (schCheck n) (forN 64 (schAdmit n) s))

/-- A write of CTL (R269): ARM reads the entry. -/
def schCtl (i : Nat) (v : Word) (s : State) : State :=
  let add := fun c s => setSch i { s.schE i with pend := (s.schE i).pend ++ [c] } s
  let s := if v.getLsbD 0 then
      add (.arm (skipImp s) (lns s) (fget s F.SCH_TIME_L_VAL i + 2 ^ 32 * fget s F.SCH_TIME_H_VAL i) (rd s (R.SCH_ACT.at i))
        (rd s (R.SCH_ARG.at i)) (rd s (R.SCH_PERIOD.at i))) s
    else s
  if v.getLsbD 1 then add (.cancel (skipImp s)) s else s

/-- SCH_ARM (R264, R266, R269). -/
def execSchArm (h : Via) (i : Fin 64) (s : State) : Res :=
  .next (hostGate h (R.SCH_CTL.at i.val) (some 1#32) (schCtl i.val 1#32) s)

/-- SCH_CANCEL (R269). -/
def execSchCancel (h : Via) (i : Fin 64) (s : State) : Res :=
  .next (hostGate h (R.SCH_CTL.at i.val) (some 2#32) (schCtl i.val 2#32) s)

/-- SCHEDULED_ACTION_FIRE (R265 to R268): the impression boundary at `t` finds entries due; at any other instant none fires. -/
def execScheduledActionFire (t : Nat) (s : State) : Res :=
  let s := advance t s
  .next (if s.sys.running ∧ lns s = s.sys.s0 then schCount (forN 64 (schCheck s.sys.s0) s) else s)

end Sys2Proof.Machine
end

