-- ==== Sys2Proof/Machine/Boundary.lean ====
section
/-! DEFINITION. Sys2Proof/Machine/Boundary.lean: the impression boundary (R20, R27 to R29, R98, R100, R103). -/

namespace Sys2Proof.Machine

/-! ### Mode machines (R99, R100, R28) -/

/-- EVSEL word `e` of machine `m` matches an event (R99). -/
def evMatches (s : State) (m e : Nat) (v : MmEvent) : Bool :=
  let w := tabWord s m (e + 1)
  w.getLsbD 31 && bitsOf w 0 8 == v.code % 256 && bitsOf w 8 8 == v.inst % 256 && bitsOf w 16 8 == v.block

/-- The transition byte of machine `m` for state `q` and input `e`. -/
def mmTrans (s : State) (m q e : Nat) : Nat := tabByte s m (0x24 + 8 * q + e)

/-- R100: the step of machine `m` on the admitted events. -/
def mmStep (evs : List MmEvent) (m : Nat) (s : State) : State :=
  if mmStates s m = 0 then setMm s m { s.mm m with stepped := false }
  else
    let x := s.mm m
    let valid := (List.range 8).filter (fun e => evs.any (evMatches s m e) && (mmTrans s m x.st e).testBit 7)
    match valid with
    | [] => setMm s m { x with stepped := false }
    | e :: r =>
      bump (setMm s m { x with st := mmTrans s m x.st e % 16, lastEv := e, stepped := true }) F.SYS_MM_STATE_DISCARDED r.length m

/-- Step 2 of R29: events that came at least 200 ns before the boundary are admitted (R28). -/
def mmStepAll (s : State) : State :=
  let evs := s.mmq.filter (fun v => decide (v.at_ + 200 ≤ s.sys.s0))
  forN 64 (mmStep evs) { s with mmq := s.mmq.filter (fun v => !decide (v.at_ + 200 ≤ s.sys.s0)) }

/-- R462: an uncorrectable word of a mode-machine table is left unused until galley load. -/
def mmErr (e : LocErr) (s : State) : State :=
  let s := localErr blkSYS e s
  let m := e.word / 41
  if e.multi && decide (e.word < 64 * 41) then setMm s m { s.mm m with dead := putBit (s.mm m).dead (e.word % 41) true } else s

/-- R462: an uncorrectable entry of the quoin staging holds zeros. -/
def quoErr (e : LocErr) (s : State) : State :=
  let s := localErr blkQUO e s
  if e.multi then
    { s with quo := { s.quo with staged := s.quo.staged.mapIdx (fun i x => if i = e.word then { x with val := 0 } else x) } }
  else s

/-! ### The boundary -/

/-- R20, R29: the impression opens at the present instant; IMP_COUNT takes its number, and its length closes at most
20 ns of what is still open of δ. -/
def impOpen (s : State) : State :=
  let o := s.sys.open_
  let a := clampInt (-20) 20 o
  { s with sys := { s.sys with
      imp := if s.sys.first then s.sys.imp + 1 else s.sys.imp
      first := true, s0 := lns s, next := ((lns s + tImp s : Nat) + a : Int).toNat, open_ := o - a, adjusting := decide (o ≠ 0), adj := a } }
  |> lockAdjust a |> holdFrom Timed.boundary

/-- R174, R189: the feedback page of the sample instant. With PD_FBK off it holds 0. -/
def pageLatch (bits : List (List Bool)) (s : State) : State :=
  if domainOn s 7 then
    let s := forN 48 (fun c s => latchChannel c (fun p => bits.getD (3 * c + p) []) s) s
    forL srcList (latchSource s.sys.s0) (forN 16 latchAin s)
  else { s with page := [] }

/-- R141, R144: a channel without a lock point has its first one here; the impression that opens belongs to its first lock interval. -/
def firstLock (s : State) : State :=
  if domainOn s 6 then
    forN 48 (fun c s => if (s.ch c).lock.isNone then modCh s c (fun x => { x with lock := some s.sys.imp, adj := s.sys.adj, adjOld := 0 }) else s) s
  else s

/-- Steps 3 and 4 of R29 for the control platens. -/
def platensStart (bits : List (List Bool)) (s : State) : State :=
  let on := (List.range 4).filter (fun n => domainOn s (2 + n))
  let s := forL on maskLatch s
  forL on inputLatch (pageLatch bits s)

/-- R240 and what follows a servo-period boundary; what rescues have planned takes effect here (R30). -/
def servoStep (s : State) : State := forN 32 rescApply (if servoBoundary s then rescScan (motionStep s) else s)

/-- One impression boundary (R29). -/
def impBoundary (bits : List (List Bool)) (scrub : List PltErr) (s : State) : State :=
  let s := quoApply (runBoundary (impOpen (gapEnd scrub s)))
  let s := mmStepAll (schBoundary s)
  let s := platensStart bits (trackToEdge s)
  let s := holdScan1 (servoStep (holdMark Timed.stop (battLow s) s))
  let s := if s.par.flushDue then flushStart s else s
  edgRefresh (firstLock (askedScan s))

/-- IMPRESSION_BOUNDARY (R29): `bits` gives the modulator bits of each phase, the latest first (R119), `errs`, `scrub` and the two
local errors what the reads of the boundary, and those of the scrubbers before it, find. -/
def execImpressionBoundary (t : Nat) (bits : List (List Bool)) (errs : List MemErr) (mm quo : Option LocErr) (scrub : List PltErr)
    (s : State) : Res :=
  let s := noteErrs errs (advance t s)
  let s := match mm with
    | some e => mmErr e s
    | none => s
  let s := match quo with
    | some e => quoErr e s
    | none => s
  .next (if s.sys.running then impBoundary bits scrub s else s)

end Sys2Proof.Machine
end

