-- ==== Sys2Proof/Machine/Can.lean ====
section
/-! DEFINITION. Sys2Proof/Machine/Can.lean: the four CAN FD controllers (R372 to R387). What ISO 11898-1 adds to
the spec's words is in log entry 19. -/

namespace Sys2Proof.Machine

/-- CAN controller `k`. -/
def State.canc (s : State) (k : Nat) : CanS := SMap.get (fun _ => CanS.init) s.can k

/-- Replace CAN controller `k`. -/
def setCan (k : Nat) (x : CanS) (s : State) : State := { s with can := SMap.put (fun _ => CanS.init) s.can k x }

/-- PD_CAN is on and the device is not in DOZE. -/
def canLive (s : State) : Bool := domainOn s 10 && !inWake s

/-- The error state: 0 active, 1 passive, 2 bus-off, 3 recovering. -/
def canState (s : State) (k : Nat) : Nat := fget s F.CAN_STATUS_ESTATE k

/-- The controller takes part in bus traffic. -/
def canOn (s : State) (k : Nat) : Bool :=
  canLive s && !(s.canc k).off && !(s.canc k).pxe && !flag s F.CAN_STATUS_INTEGRATING k && decide (canState s k < 2)

/-- Data bytes by DLC (R379). -/
def dlcLen (fdf : Bool) (d : Nat) : Nat := if fdf then [0, 1, 2, 3, 4, 5, 6, 7, 8, 12, 16, 20, 24, 32, 48, 64].getD d 64 else min d 8

/-- The least DLC for `n` bytes. -/
def lenDlc (n : Nat) : Nat := ((List.range 16).find? (fun d => n ≤ dlcLen true d)).getD 15

/-! ### Mailboxes (R377 to R379, R383) -/

/-- Mailbox `b` is pending. -/
def mbPending (s : State) (k b : Nat) : Bool := fget s F.CAN_MB_STAT_STATE k b == 1

/-- The frame of mailbox `b`. -/
def mbFrame (s : State) (k b : Nat) : CanFrame :=
  let fdf := flag s F.CAN_MB_FMT_FDF k b
  let n := if flag s F.CAN_MB_FMT_RTR k b then 0 else dlcLen fdf (fget s F.CAN_MB_FMT_DLC k b)
  { id := BitVec.ofNat 29 (fget s F.CAN_MB_ID_ID k b), ide := flag s F.CAN_MB_ID_IDE k b
    rtr := flag s F.CAN_MB_FMT_RTR k b, fdf := fdf, brs := fdf && flag s F.CAN_MB_FMT_BRS k b, esi := fdf && canState s k == 1
    dlc := BitVec.ofNat 4 (fget s F.CAN_MB_FMT_DLC k b)
    data := ((List.range 16).flatMap (fun j => leBytes 4 (fget s F.CAN_MB_DATA_BYTES k b j))).take n }

/-- The arbitration field of a frame as a number whose lowest value wins: base identifier, the bit that follows
it, the extension and its remote bit. -/
def arbKey (f : CanFrame) : Nat :=
  let base := f.id.toNat / 2 ^ 18
  let rtr := if f.rtr then 1 else 0
  if f.ide then base * 2 ^ 21 + 3 * 2 ^ 19 + f.id.toNat % 2 ^ 18 * 2 + rtr else base * 2 ^ 21 + rtr * 2 ^ 20

/-- R377: among the mailboxes that `ok` names, the one whose identifier wins, the lowest index on a tie. -/
def mbBest (s : State) (k : Nat) (ok : Nat → Bool) : Option Nat :=
  ((List.range 32).filter ok).foldl (fun r b =>
    match r with
    | none => some b
    | some c => if arbKey (mbFrame s k b) < arbKey (mbFrame s k c) then some b else some c) none

/-- The mailbox that a frame starting at `sof` carries: the winner among those requested before. -/
def mbAt (s : State) (k sof : Nat) : Option Nat :=
  mbBest s k (fun b => mbPending s k b && decide (nget (s.canc k).reqAt b ≤ sof))

/-- Mailbox `b` ends FAILED (R378). -/
def mbFail (k b cause : Nat) (s : State) : State :=
  let s := fset (fset s F.CAN_MB_STAT_STATE 3 k b) F.CAN_MB_STAT_CAUSE cause k b
  let s := fsetBit (fsetBit s F.CAN_TXREQ_REQ b false k) F.CAN_TXFAIL_MB b true k
  let s := setCan k { s.canc k with cancel := putBit (s.canc k).cancel b false } s
  if flag s F.CAN_MB_FMT_ONESHOT k b then raise blkCAN 0x04 k b cause s else s

/-- End every pending mailbox. -/
def mbFailAll (k cause : Nat) (s : State) : State := forN 32 (fun b s => if mbPending s k b then mbFail k b cause s else s) s

/-- A transmission of mailbox `b` is requested (R377, R378). -/
def mbRequest (k b : Nat) (s : State) : State :=
  if mbPending s k b then s
  else
    let s := wr s (R.CAN_MB_STAT.at k b) 1#32
    let s := fsetBit s F.CAN_TXREQ_REQ b true k
    let fdf := flag s F.CAN_MB_FMT_FDF k b
    if flag s F.CAN_CTL_INIT k || fget s F.CAN_CTL_MODE k == 1 then mbFail k b 5 s
    else if 2 ≤ canState s k then mbFail k b 4 s
    else if fdf && (!flag s F.CAN_CTL_FD_EN k || flag s F.CAN_MB_FMT_RTR k b) then mbFail k b 6 s
    else
      let x := s.canc k
      setCan k { x with reqAt := nput x.reqAt b (fine s), cancel := putBit x.cancel b false } s

/-- Mailbox `b` is cancelled (R378); `tx`: it is in transmission, which the bus shows. -/
def mbCancel (k b : Nat) (tx : Bool) (s : State) : State :=
  if !mbPending s k b then s
  else if tx && canOn s k then setCan k { s.canc k with cancel := putBit (s.canc k).cancel b true } s
  else mbFail k b 3 s

/-- A mailbox that a CAN transmit layout owns (R383). -/
def mbOwned (s : State) (k b : Nat) : Bool := flag s F.CAN_MB_FMT_LAYOUT k b

/-- A write of `v` to TXREQ or TXCANCEL at `a`: the mailboxes of the imposition engine are left out, and a write that names no
other is ignored (R383, R64). -/
def mbMask (f : Nat → Nat → State → State) (ifc : Ifc) (a k : Nat) (v : Word) (s : State) : State :=
  let named := (List.range 32).filter (fun b => v.getLsbD b)
  let own := named.filter (fun b => !mbOwned s k b)
  if named.isEmpty = false ∧ own.isEmpty = true then hostDrop ifc a s else forL own (f k) s

/-- One more attempt of the present request. -/
def mbAttempt (k b : Nat) (s : State) : State := bump s F.CAN_MB_STAT_ATTEMPTS 1 k b

/-- An attempt has not succeeded: the mailbox retries, or ends with `cause` or CANCELLED (R378). -/
def mbMiss (k b cause : Nat) (s : State) : State :=
  let s := mbAttempt k b s
  if flag s F.CAN_MB_FMT_ONESHOT k b then mbFail k b cause s
  else if (s.canc k).cancel.testBit b then mbFail k b 3 s
  else s

/-- The engine loads mailbox `b` with a payload and requests it (R383). -/
def mbLoad (k b : Nat) (pay : List Byte) (s : State) : State :=
  let s := forN ((pay.length + 3) / 4) (fun j s => fset s F.CAN_MB_DATA_BYTES (leAt pay (4 * j) 4) k b j) s
  mbRequest k b (fset s F.CAN_MB_FMT_DLC (lenDlc pay.length) k b)

/-! ### Error counters and bus-off -/

/-- TEC × 256 + REC. -/
def tecRec (s : State) (k : Nat) : Nat := fget s F.CAN_ERRCNT_TEC k * 256 + fget s F.CAN_ERRCNT_REC k

/-- ESTATE changes (event 0x01). -/
def setEstate (k n : Nat) (s : State) : State :=
  if canState s k = n then s else raise blkCAN 0x01 k n (tecRec s k) (fset s F.CAN_STATUS_ESTATE n k)

/-- R385: the controller goes bus-off. -/
def busOff (k : Nat) (s : State) : State :=
  let pend := fget s F.CAN_TXREQ_REQ k
  let s := raiseFlag (setEstate k 2 s) F.CAN_STATUS_BUSOFF_SEEN k
  let s := mbFailAll k 4 s
  raise blkCAN 0x02 k (fget s F.CAN_ERRCNT_TEC k) pend s

/-- The error counters take new values, and ESTATE follows them. -/
def setCounts (k tec rcv : Nat) (s : State) : State :=
  let s := fset (fset s F.CAN_ERRCNT_TEC (min tec 511) k) F.CAN_ERRCNT_REC (min rcv 255) k
  if 255 < tec then busOff k s
  else setEstate k (if 127 < tec ∨ 127 < rcv then 1 else 0) s

/-! ### Filters and queues (R380 to R382) -/

/-- A frame's identifier agrees with filter `f`. -/
def fltId (s : State) (k f : Nat) (id : BitVec 29) (ide : Bool) : Bool :=
  let d := (id.toNat ^^^ fget s F.CAN_FLT_MATCH_VAL k f) &&& fget s F.CAN_FLT_MASK_VAL k f
  flag s F.CAN_FLT_CFG_EN k f && flag s F.CAN_FLT_CFG_IDE k f == ide && (if ide then d else d / 2 ^ 18) == 0

/-- R380: a frame matches filter `f`. -/
def fltMatch (s : State) (k f : Nat) (x : CanFrame) : Bool :=
  let fm := fget s F.CAN_FLT_CFG_FMT k f
  fltId s k f x.id x.ide && (fm == 0 || (fm == 1 && !x.fdf) || (fm == 2 && x.fdf)) && (!x.rtr || flag s F.CAN_FLT_CFG_RTR_ACC k f)

/-- Queue `q` of controller `k`. -/
def canQueue (s : State) (k q : Nat) : List CanEnt := if q = 0 then (s.canc k).q0 else (s.canc k).q1

/-- Replace queue `q`; LEVEL follows. -/
def setQueue (k q : Nat) (l : List CanEnt) (s : State) : State :=
  let x := s.canc k
  fset (setCan k (if q = 0 then { x with q0 := l } else { x with q1 := l }) s) F.CAN_RXQ_STATUS_LEVEL l.length k q

/-- The window of queue `q` reads 0 in every field. -/
def windowClear (k q : Nat) (s : State) : State :=
  let s := wr (wr (wr s (R.CAN_H_ID.at k q) 0#32) (R.CAN_H_INFO.at k q) 0#32) (R.CAN_H_STAMP.at k q) 0#32
  forN 16 (fun j s => wr s (R.CAN_H_DATA.at k q j) 0#32) (fset s F.CAN_RXQ_STATUS_VALID 0 k q)

/-- The oldest entry is copied into the window. -/
def windowFill (k q : Nat) (s : State) : State :=
  match canQueue s k q with
  | [] => s
  | e :: _ =>
    let b := Bool.toNat
    let s := fset (fset s F.CAN_H_ID_ID e.f.id.toNat k q) F.CAN_H_ID_IDE (b e.f.ide) k q
    let i := e.f.dlc.toNat + 16 * b e.f.fdf + 32 * b e.f.brs + 64 * b e.f.esi + 128 * b e.f.rtr + 256 * e.flt
    let s := wr (wr s (R.CAN_H_INFO.at k q) (BitVec.ofNat 32 i)) (R.CAN_H_STAMP.at k q) (BitVec.ofNat 32 e.stamp)
    let s := forN 16 (fun j s => wr s (R.CAN_H_DATA.at k q j) (BitVec.ofNat 32 (leAt e.f.data (4 * j) 4))) s
    fset s F.CAN_RXQ_STATUS_VALID 1 k q

/-- A frame enters queue `q` (R382). -/
def queuePut (k q : Nat) (e : CanEnt) (s : State) : State :=
  let l := canQueue s k q
  if 64 ≤ l.length then
    let first := !flag s F.CAN_RXQ_STATUS_OVR k q
    let s := raiseFlag (bump s F.CAN_RXQ_STATUS_LOST 1 k q) F.CAN_RXQ_STATUS_OVR k q
    if first then raise blkCAN 0x05 k q (fget s F.CAN_RXQ_STATUS_LOST k q) s else s
  else
    let s := setQueue k q (l ++ [e]) s
    if l.isEmpty then windowFill k q s else s

/-- R381: contexts of watched nodes. -/
def nodeWatch (k : Nat) (x : CanFrame) (s : State) : State :=
  forN 128 (fun i s =>
    let m := fget s F.PTN_MAC_L_ADDR i
    let same := m / 2 ^ 30 == k && m.testBit 29 == x.ide &&
      (if x.ide then m % 2 ^ 29 == x.id.toNat else m % 2 ^ 29 / 2 ^ 18 == x.id.toNat / 2 ^ 18)
    if ctxType s i = 4 ∧ same = true then ctxValid i s else s) s

/-- A valid frame with its stamp is filtered (R380, R381). -/
def canDeliver (k st : Nat) (x : CanFrame) (s : State) : State :=
  let s := nodeWatch k x s
  match (List.range 64).find? (fun f => fltMatch s k f x) with
  | none => bump s F.CAN_CNT_NOMATCH 1 k
  | some f =>
    match layOfFilter s k f with
    | some i => if x.data.length = layLen s i then layAccept i none none x.data s else layDiscard i s
    | none => queuePut k (fget s F.CAN_FLT_CFG_Q k f) ⟨x, f, st⟩ s

/-! ### INIT (R376) -/

/-- NBT, DBT, MODE, FD_EN and the filters accept writes. -/
def canOpen (s : State) (k : Nat) : Bool := flag s F.CAN_CTL_INIT k && (s.canc k).off

/-- The controllers start from INIT as the galley sets it (R376): off the bus with INIT 1, else they integrate. -/
def canStart (s : State) : State :=
  forN 4 (fun k s =>
    raiseFlag (setCan k { s.canc k with off := flag s F.CAN_CTL_INIT k } s) F.CAN_STATUS_INTEGRATING k) s

/-- INIT = 1 is written: it is requested, or requested still, and it ends a recovery (R376, R385). -/
def canInitSet (k : Nat) (s : State) : State :=
  let s := if flag s F.CAN_CTL_INIT k then s else raiseFlag s F.CAN_CTL_INIT k
  if canState s k = 3 then setEstate k 2 s else s

/-- INIT = 0 starts bus integration. -/
def canInitClear (k : Nat) (s : State) : State :=
  if !flag s F.CAN_CTL_INIT k then s
  else
    let s := fset s F.CAN_CTL_INIT 0 k
    let s := if (s.canc k).off then raiseFlag s F.CAN_STATUS_INTEGRATING k else s
    setCan k { s.canc k with off := false } s

/-- CAN_INIT_SET (R376). -/
def execCanInitSet (h : Via) (k : Fin 4) (s : State) : Res :=
  .next (hostGate h (R.CAN_CTL.at k.val) (some 1#32) (canInitSet k.val) s)

/-- INIT_EFFECT (R376, R378). -/
def execInitEffect (t : Nat) (k : Fin 4) (s : State) : Res :=
  let s := advance t s
  .next (if flag s F.CAN_CTL_INIT k && !(s.canc k).off then
      let s := mbFailAll k 5 s
      setCan k { s.canc k with off := true, pxe := false } s
    else s)

/-- CAN_INIT_CLEAR (R376). -/
def execCanInitClear (h : Via) (k : Fin 4) (s : State) : Res :=
  .next (hostGate h (R.CAN_CTL.at k.val) (some 0#32) (canInitClear k.val) s)

/-- INTEGRATION_DONE (R376). -/
def execIntegrationDone (t : Nat) (k : Fin 4) (s : State) : Res :=
  let s := advance t s
  .next (if canLive s && !(s.canc k).off then fset s F.CAN_STATUS_INTEGRATING 0 k else s)

/-! ### Transmission -/

/-- TXREQ (R377, R383). -/
def execCanTxreq (h : Via) (k : Fin 4) (b : Fin 32) (s : State) : Res :=
  .next (hostGate h (R.CAN_TXREQ.at k.val) (some (1#32 <<< b.val)) (mbMask mbRequest h.ifc (R.CAN_TXREQ.at k.val) k (1#32 <<< b.val)) s)

/-- TXCANCEL (R378, R383); `tx`: the mailbox is in transmission. -/
def execCanTxcancel (h : Via) (k : Fin 4) (b : Fin 32) (tx : Bool) (s : State) : Res :=
  .next (hostGate h (R.CAN_TXCANCEL.at k.val) (some (1#32 <<< b.val))
    (mbMask (fun k b => mbCancel k b tx) h.ifc (R.CAN_TXCANCEL.at k.val) k (1#32 <<< b.val)) s)

/-- R462: an error in the mailbox that is read; one that cannot be corrected leaves zeros. -/
def mbErr (k b : Nat) (err : Option LocErr) (s : State) : State :=
  match err with
  | none => s
  | some e =>
    let s := localErr blkCAN e s
    if e.multi then
      forN 16 (fun j s => wr s (R.CAN_MB_DATA.at k b j) 0#32)
        (wr (wr s (R.CAN_MB_FMT.at k b) (rd s (R.CAN_MB_FMT.at k b) &&& F.CAN_MB_FMT_LAYOUT.mask)) (R.CAN_MB_ID.at k b) 0#32)
    else s

/-- CAN_FRAME_TRANSMITTED (R377, R378, R384): the frame that started at `sof` has succeeded. -/
def execCanFrameTransmitted (t : Nat) (k : Fin 4) (sof : Nat) (err : Option LocErr) (s : State) : Res :=
  let s := advance t s
  let k := k.val
  .next (if !canOn s k || fget s F.CAN_CTL_MODE k == 1 then s
    else
      match mbAt s k sof with
      | none => s
      | some b =>
        let s := mbAttempt k b (mbErr k b err s)
        let f := mbFrame s k b
        let s := fset (fset s F.CAN_MB_STAT_STATE 2 k b) F.CAN_MB_STAMP_T (sof / 256) k b
        let s := fsetBit (fsetBit s F.CAN_TXREQ_REQ b false k) F.CAN_TXDONE_MB b true k
        let s := setCan k { s.canc k with cancel := putBit (s.canc k).cancel b false } s
        let m := fget s F.CAN_CTL_MODE k
        let s := if m = 2 then s else { s with out := s.out ++ [Out.can k f] }
        let s := if m = 2 ∨ m = 3 then canDeliver k (sof / 256) f s else s
        setCounts k (fget s F.CAN_ERRCNT_TEC k - 1) (fget s F.CAN_ERRCNT_REC k) s)

/-- ARBITRATION_LOST (R377, R378). -/
def execArbitrationLost (t : Nat) (k : Fin 4) (sof : Nat) (s : State) : Res :=
  let s := advance t s
  .next (if !canOn s k then s
    else
      match mbAt s k sof with
      | none => s
      | some b => mbMiss k b 1 s)

/-- The rise of TEC with an error of a transmitter: none for a missing ACK while error-passive with no dominant bit during the
error flag, nor for a stuff error in arbitration. -/
def tecRise (passive : Bool) (e : CanErr) : Nat :=
  (if !e.own && ((e.kind.val == 3 && passive && !e.dom) || (e.kind.val == 1 && e.arb)) then 0 else 8) + 8 * e.runs.toNat

/-- The rise of REC with an error of a receiver. -/
def recRise (e : CanErr) : Nat := (if e.own then 8 else 1) + (if e.dom then 8 else 0) + 8 * e.runs.toNat

/-- A protocol error (R372): `tx` in a transmission that started at `sof`. -/
def canError (k : Nat) (tx : Bool) (sof : Nat) (e : CanErr) (s : State) : State :=
  let s := fset s F.CAN_STATUS_LEC e.kind.val k
  let s := if e.data then fset s F.CAN_STATUS_DLEC e.kind.val k else s
  let tec := fget s F.CAN_ERRCNT_TEC k
  let rcv := fget s F.CAN_ERRCNT_REC k
  if tx then
    let s := match mbAt s k sof with
      | some b => if e.own then s else mbMiss k b 2 s
      | none => s
    setCounts k (tec + tecRise (canState s k == 1) e) rcv s
  else setCounts k tec (rcv + recRise e) s

/-- CAN_BUS_ERROR (R372, R378, R385). -/
def execCanBusError (t : Nat) (k : Fin 4) (tx : Bool) (sof : Nat) (e : CanErr) (s : State) : Res :=
  let s := advance t s
  .next (if canOn s k then canError k tx sof e s else s)

/-- A write of RECOVER (R385); of a controller that is not bus-off it is ignored and counted (R64). -/
def canRecover (ifc : Ifc) (k : Nat) (s : State) : State :=
  if canState s k = 2 then setEstate k 3 (fset s F.CAN_STATUS_RCNT 0 k) else hostDrop ifc (R.CAN_CTL.at k) s

/-- RECOVER (R385). -/
def execCanRecover (h : Via) (k : Fin 4) (s : State) : Res :=
  .next (hostGate h (R.CAN_CTL.at k.val) (some 0x40#32) (canRecover h.ifc k.val) s)

/-- CAN_RECOVERED (R385). -/
def execCanRecovered (t : Nat) (k : Fin 4) (s : State) : Res :=
  let s := advance t s
  .next (if canLive s && canState s k == 3 then
      let s := wr s (R.CAN_ERRCNT.at k.val) 0#32
      raise blkCAN 0x03 k 0 0 (setEstate k 0 (fset s F.CAN_STATUS_RCNT 128 k))
    else s)

/-! ### Reception -/

/-- CAN_FRAME_RECEIVE (R380 to R384). -/
def execCanFrameReceive (t : Nat) (k : Fin 4) (sof : Nat) (f : CanFrame) (s : State) : Res :=
  let s := advance t s
  let k := k.val
  .next (if !canOn s k || fget s F.CAN_CTL_MODE k == 2 then s
    else
      let r := fget s F.CAN_ERRCNT_REC k
      let v := openVal 7 s
      let s := if r ≤ 127 then setCounts k (fget s F.CAN_ERRCNT_TEC k) (r - 1) s
        else setCounts k (fget s F.CAN_ERRCNT_TEC k) (119 + v.1 % 9) v.2
      canDeliver k (sof / 256 % 2 ^ 32) f s)

/-- A write of POP reaches queue `q` (R382). -/
def queuePop (k q : Nat) (s : State) : State :=
  if flag s F.CAN_RXQ_STATUS_VALID k q then windowClear k q (setQueue k q ((canQueue s k q).drop 1) s) else s

/-- POP (R382). -/
def execCanPop (h : Via) (k : Fin 4) (q : Fin 2) (s : State) : Res :=
  .next (hostGate h (R.CAN_RXQ_CTL.at k.val q.val) (some 1#32) (queuePop k.val q.val) s)

/-- An entry that holds zeros (R462). -/
def CanEnt.zero : CanEnt := ⟨⟨0, false, false, false, false, false, 0, []⟩, 0, 0⟩

/-- WINDOW_REFILL (R382, R462). -/
def execWindowRefill (t : Nat) (k : Fin 4) (q : Fin 2) (err : Option LocErr) (s : State) : Res :=
  let s := advance t s
  .next (match flag s F.CAN_RXQ_STATUS_VALID k q, canQueue s k q with
    | false, _ :: r =>
      let s := match err with
        | some e => let s := localErr blkCAN e s; if e.multi then setQueue k q (CanEnt.zero :: r) s else s
        | none => s
      windowFill k q s
    | _, _ => s)

/-- A write of FLUSH reaches queue `q` (R382). -/
def queueFlush (k q : Nat) (s : State) : State := windowClear k q (setQueue k q [] s)

/-- QUEUE_FLUSH (R382). -/
def execQueueFlush (h : Via) (k : Fin 4) (q : Fin 2) (s : State) : Res :=
  .next (hostGate h (R.CAN_RXQ_CTL.at k.val q.val) (some 2#32) (queueFlush k.val q.val) s)

/-! ### Protocol exception and wake -/

/-- PROTOCOL_EXCEPTION (R373). -/
def execProtocolException (t : Nat) (k : Fin 4) (s : State) : Res :=
  let s := advance t s
  .next (if !canOn s k then s
    else if flag s F.CAN_CTL_PXE_EN k then
      let s := raiseFlag (bump s F.CAN_CNT_PXE 1 k) F.CAN_STATUS_PXE_SEEN k
      let s := setCan k { s.canc k with pxe := true } s
      raise blkCAN 0x06 k (fget s F.CAN_CNT_PXE k) 0 s
    else canError k false 0 ⟨2, false, false, false, false, 0⟩ s)

/-- PROTOCOL_EXCEPTION_END (R373). -/
def execProtocolExceptionEnd (t : Nat) (k : Fin 4) (s : State) : Res :=
  let s := advance t s
  .next (if (s.canc k).pxe then setCan k { s.canc k with pxe := false } s else s)

/-- CAN_WAKE_MATCH (R386): the wake decoder has seen the arbitration field of a frame. -/
def execCanWakeMatch (t : Nat) (k : Fin 4) (id : BitVec 29) (ide : Bool) (s : State) : Res :=
  let s := advance t s
  .next (if !inWake s || !flag s F.CAN_CTL_WAKE_EN k then s
    else
      match (List.range 64).find? (fun f => flag s F.CAN_FLT_CFG_WAKE k f && fltId s k f id ide) with
      | none => s
      | some f => wakeEvent 1 (raise blkCAN 0x07 k f id.toNat (raiseFlag s F.CAN_STATUS_WAKE_MATCH k)))

/-- R386: at DOZE entry no controller is on the bus; after wake each integrates. -/
def canDoze (s : State) : State :=
  forN 4 (fun k s => setCan k { s.canc k with pxe := false } s) s
def canWake (s : State) : State := forN 4 (fun k s => raiseFlag s F.CAN_STATUS_INTEGRATING k) s

end Sys2Proof.Machine
end

