-- ==== Sys2Proof/Machine/EventLog.lean ====
section
/-! DEFINITION. Sys2Proof/Machine/EventLog.lean: the event log and the scrubbers (R457 to R469). -/

namespace Sys2Proof.Machine

/-! ### The event log (R463, R466 to R469) -/

/-- Word `w` of an entry (R463). -/
def Event.word (e : Event) (w : Nat) : Word :=
  match w with
  | 0 => BitVec.ofNat 32 e.stamp
  | 1 => BitVec.ofNat 32 (e.code % 256 + 2 ^ 8 * (e.inst % 256) + 2 ^ 16 * (e.block % 256) + 2 ^ 24 * (e.inst / 256 % 2))
  | 2 => BitVec.ofNat 32 e.d0
  | _ => BitVec.ofNat 32 e.d1

/-- Word `w` of the entry that EVT.RD.IDX shows; 0 beyond the entries held. -/
def evtEnt (s : State) (w : Nat) : Word :=
  match s.evt.log[fget s F.EVT_RD_IDX]? with
  | some e => e.word w
  | none => 0#32

/-- The overflow summary (R467). -/
def evtSummary (s : State) : Event := ⟨stamp s, blkEVT, 1, 0, s.evt.dropped, s.evt.dropMask % 2 ^ 32⟩

/-- The overflow summary is raised, for mode machines and trigger conditions too (R466), and entered; it clears OVERFLOW (R467). -/
def evtSummarize (s : State) : State :=
  let e := evtSummary s
  evtFlush (trigEvent e { s with mmq := s.mmq ++ [⟨e.block, e.code, e.inst, lns s⟩],
                                 evt := { s.evt with log := s.evt.log ++ [e], overflow := false, dropped := 0, dropMask := 0 } })

/-- One write into the log (R466, R467): with a free entry and OVERFLOW the summary, else the head of the stage. -/
def evtWrite (s : State) : State :=
  if s.sys.st = .doze ∨ s.evt.log.length = 1024 then evtFlush s
  else if s.evt.overflow then evtSummarize s
  else
    match s.evt.stage with
    | [] => s
    | e :: r => evtFlush { s with evt := { s.evt with log := s.evt.log ++ [e.2], stage := r } }

/-- EVT.CTL.POP_N: removes entries; the first free entry goes to the summary of an overflow (R467). -/
def evtPop (n : Nat) (s : State) : State :=
  let s := { s with evt := { s.evt with log := s.evt.log.drop n } }
  if s.evt.overflow && decide (s.evt.log.length < 1024) && s.sys.st != .doze then evtSummarize s else s

/-- EVT.CTL.CLEAR. -/
def evtClear (s : State) : State :=
  forN 25 (fun b s => fset s F.EVT_DROP_COUNT 0 b) { s with evt := EvtS.init }

/-- A write of EVT.CTL. -/
def evtCtl (v : Word) (s : State) : State :=
  if v.getLsbD 31 then evtClear s else evtPop (bitsOf v 0 11) s

/-- R10: the high words captured for an interface. -/
def setCap (ifc : Ifc) (a : Nat) (v : Word) (s : State) : State :=
  match ifc with
  | .pcie => { s with capPcie := SMap.put (fun _ => none) s.capPcie a (some v) }
  | .qspi => { s with capQspi := SMap.put (fun _ => none) s.capQspi a (some v) }

/-- A read of ENT[0] captures the entry for the interface (R10). -/
def evtCapture (ifc : Ifc) (s : State) : Word × State :=
  (evtEnt s 0, forN 3 (fun k s => setCap ifc (R.EVT_ENT.at (k + 1)) (evtEnt s (k + 1)) s) s)

/-- R462: an uncorrectable word of the entry store: the entry holds zeros. -/
def evtErr (e : LocErr) (s : State) : State :=
  let s := localErr blkEVT e s
  if e.multi then
    { s with evt := { s.evt with log := s.evt.log.mapIdx (fun i x => if i = e.word / 4 then ⟨0, 0, 0, 0, 0, 0⟩ else x) } }
  else s

/-- A completion of a host read. -/
def sendRd (ifc : Ifc) (a : Nat) (bs : List Byte) (s : State) : State := { s with out := s.out ++ [.rd ifc a bs] }

/-- EVENT_LOG_WRITE (R466, R467). -/
def execEventLogWrite (t : Nat) (s : State) : Res :=
  let s := evtWrite (advance t s)
  .next (evtIrq s)

/-- EVT_POP. -/
def execEvtPop (h : Via) (n : BitVec 11) (s : State) : Res :=
  .next (hostGate h R.EVT_CTL.addr (some (BitVec.ofNat 32 n.toNat)) (evtPop n.toNat) s)

/-- EVT_CLEAR (R467). -/
def execEvtClear (h : Via) (s : State) : Res := .next (hostGate h R.EVT_CTL.addr (some 0x80000000#32) evtClear s)

/-- EVT_ENTRY_CAPTURE (R10, R463): a read of ENT[0], with what it finds in the entry store. -/
def execEvtEntryCapture (h : Via) (err : Option LocErr) (s : State) : Res :=
  .next (hostGate h R.EVT_ENT.addr none (fun s =>
    let s := match err with
      | some e => evtErr e s
      | none => s
    let r := evtCapture h.ifc s
    sendRd h.ifc R.EVT_ENT.addr (leBytes 4 r.1.toNat) r.2) s)

/-! ### Scrubbing (R458, R459, R461) -/

/-- The blocks of a region. -/
def scrubBlocks (r : Nat) : Nat := if r = 0 then 1048576 else 16777216

/-- The host address of block `k` of a region. -/
def scrubAddr (r k : Nat) : Nat := (if r = 0 then 0x1000000 else 0x10000000) + 16 * k

/-- The scrubber of region `r` reads its next block and finds `found`; a poisoned block stays so. -/
def scrubBlock (r : Nat) (found : Ecc) (s : State) : State :=
  let k := if r = 0 then s.tst.pos0 else s.tst.pos1
  let a := scrubAddr r k
  let s := if found == .single && !poisoned s a then correctedRead a s
    else if found == .multi || poisoned s a then poisonedRead 5 a (setPoison s a true)
    else s
  let ce := if r = 0 then s.tst.passCe0 else s.tst.passCe1
  let last := k + 1 == scrubBlocks r
  let k' := if last then 0 else k + 1
  let ce' := if last then 0 else ce
  let s := if r = 0 then { s with tst := { s.tst with pos0 := k', passCe0 := ce' } }
    else { s with tst := { s.tst with pos1 := k', passCe1 := ce' } }
  if last then
    let s := raiseFlag (fset s F.TST_MEM_STATUS_PASSES (fget s F.TST_MEM_STATUS_PASSES r + 1) r) F.TST_MEM_STATUS_PASS_DONE r
    raise blkTST 0x03 r (fget s F.TST_MEM_STATUS_PASSES r) ce s
  else s

/-- SCRUB_BLOCK (R461): paused in DOZE, and for DRAM while PD_ACQ is off. -/
def execScrubBlock (t : Nat) (r : Fin 2) (found : Ecc) (s : State) : Res :=
  let s := advance t s
  .next (if (r.val = 0 ∧ domainOn s 1 = true ∧ s.sys.st ≠ .doze) ∨ (r.val = 1 ∧ domainOn s 8 = true) then scrubBlock r.val found s else s)

end Sys2Proof.Machine
end

