-- ==== Sys2Proof/Machine/Image.lean ====
section
/-! DEFINITION. Sys2Proof/Machine/Image.lean: the galley container and its checks (R35 to R38, R41 to R43, R46). Byte
strings are lists; a number read beyond their end takes 0 for the missing bytes (R502). -/

namespace Sys2Proof.Machine

/-- The little-endian number in the `n` bytes from offset `i`. -/
def u (b : List Byte) (i n : Nat) : Nat := leNat ((b.drop i).take n)

/-- `b` made `n` bytes long: what lies beyond is erased flash. -/
def flashTo (n : Nat) (b : List Byte) : List Byte := b.take n ++ List.replicate (n - b.length) 0xFF#8

/-- LENGTH of the header. -/
def imgLen (b : List Byte) : Nat := u b 0x14 4

/-- FLAGS.SIGNED. -/
def imgSigned (b : List Byte) : Bool := u b 0x0E 2 % 2 == 1

/-- The header's checks in the order of R46 (R35): the fail code, 0 when it passes. A host load also names the
length it expects (R48). R35 gives no outcome for its bytes of 0 (0x1A, 0x28 to 0x3B) and FLAGS bits other than SIGNED when they
are not 0: they are accepted without a report (DESIGN CHOICE, log entry 71). -/
def headerCode (rev : Nat) (host : Option Nat) (b : List Byte) : Nat :=
  if u b 0 4 ≠ 0x594C474E then 1
  else if u b 0x3C 4 ≠ crc32c (b.take 0x3C) then 2
  else if u b 4 2 ≠ 1 then 3
  else if u b 8 4 ≠ 0x482304 ∨ rev < u b 0x0C 2 then 4
  else if imgLen b % 16 ≠ 0 ∨ imgLen b < 0x100 ∨ 0x800000 < imgLen b ∨ (host.any (fun n => n != imgLen b)) = true then 5
  else 0

/-- A section-table entry (R36). -/
structure Sec where
  ty : Nat
  inst : Nat
  flags : Nat
  off : Nat
  size : Nat
  crc : Nat
  deriving DecidableEq, Repr

/-- The section table of an image. -/
def secTable (b : List Byte) : List Sec :=
  (List.range (u b 0x18 2)).map (fun i =>
    let e := (b.drop (u b 0x1C 4 + 16 * i)).take 16
    ⟨u e 0 2, u e 2 1, u e 3 1, u e 4 4, u e 8 4, u e 12 4⟩)

/-- The body of a section. -/
def secBody (b : List Byte) (e : Sec) : List Byte := (b.drop e.off).take e.size

/-- OPTIONAL. -/
def Sec.opt (e : Sec) : Bool := e.flags % 2 == 1

/-- The highest instance of each section type of R37. -/
def secTypes : List (Nat × Nat) :=
  [(0x01, 0), (0x02, 0), (0x03, 0), (0x04, 0), (0x05, 0), (0x10, 4), (0x11, 4), (0x12, 63), (0x20, 15), (0x21, 31),
   (0x30, 7), (0x31, 0), (0x40, 0), (0xF0, 255), (0xFE, 0)]

/-- The type and instance stand in the table of R37. -/
def Sec.known (e : Sec) : Bool := secTypes.any (fun t => t.1 == e.ty && decide (e.inst ≤ t.2))

/-- Two bodies share a byte. -/
def Sec.overlaps (a b : Sec) : Bool := decide (0 < a.size) && decide (0 < b.size) && decide (a.off < b.off + b.size) && decide (b.off < a.off + a.size)

/-- Some two of a list satisfy `f`. -/
def anyPair {α : Type} (f : α → α → Bool) : List α → Bool
  | [] => false
  | x :: r => r.any (f x) || anyPair f r

/-- The table's checks (R35 to R37). -/
def tableCode (b : List Byte) : Nat :=
  let n := imgLen b
  let cnt := u b 0x18 2
  let at_ := u b 0x1C 4
  if cnt < 1 ∨ 1024 < cnt ∨ at_ % 16 ≠ 0 ∨ at_ < 0x40 ∨ n < at_ + 16 * cnt then 6
  else
    let es := secTable b
    if es.any (fun e => decide (2 ≤ e.flags) || e.off % 16 != 0 || decide (n < e.off + e.size)) || anyPair Sec.overlaps es then 6
    else if ([1, 2, 3, 5, 0x40] ++ (if imgSigned b then [0xFE] else [])).any (fun t => !es.any (fun e => e.ty == t && e.inst == 0)) then 8
    else if anyPair (fun x y => x.ty == y.ty && x.inst == y.inst) es then 9
    else if es.any (fun e => !e.known && !e.opt) then 10
    else 0

/-- R36: some body has another CRC than its entry says. -/
def bodiesBad (b : List Byte) : Bool := (secTable b).any (fun e => crc32c (secBody b e) != e.crc)

/-- Header, table and bodies of an image `b` of LENGTH bytes. -/
def imageCode (b : List Byte) : Nat := if tableCode b ≠ 0 then tableCode b else if bodiesBad b then 7 else 0

/-- The SIGN section. -/
def signSec (b : List Byte) : Option Sec := if imgSigned b then (secTable b).find? (fun e => e.ty == 0xFE && e.inst == 0) else none

/-- The digest of R41. -/
def imgDigest (b : List Byte) : List Byte :=
  match signSec b with
  | some e => sha256 (b.take e.off)
  | none => sha256 b

/-- The galley check (R41). -/
def imgCheck (b : List Byte) : Nat := leNat ((imgDigest b).take 8)

/-- R41 to R43: the signature of a signed image: the key slots are 32-byte hashes as little-endian numbers. The SIGN body ends at
LENGTH, which R35 rounds up to a multiple of 16 (log entry 53). -/
def signCode (keys : Nat → Option Nat) (b : List Byte) : Nat :=
  match signSec b with
  | none => 11
  | some e =>
    let x := secBody b e
    if e.size ≠ 132 ∨ (e.off + e.size + 15) / 16 * 16 ≠ imgLen b ∨ ((secTable b).any (fun o => decide (e.off < o.off))) = true then 11
    else if keys (u x 0 4) ≠ some (leNat (sha256 ((x.drop 4).take 64))) then 12
    else if ecdsaOk (beNat ((x.drop 4).take 32)) (beNat ((x.drop 36).take 32)) (beNat (imgDigest b)) (beNat ((x.drop 68).take 32))
        (beNat ((x.drop 100).take 32)) then 0
    else 11

/-! ### The staged image -/

/-- The bytes of `n` host addresses from `a` on, from sparse memory. -/
def spanOf (d : Nat → Byte) : Nat → Nat → SMap Byte → List Byte
  | 0, _, _ => []
  | n + 1, a, m =>
    match m.dropWhile (fun c => decide (c.1 < a)) with
    | (k, v) :: r => if k = a then v :: spanOf d n (a + 1) r else d a :: spanOf d n (a + 1) ((k, v) :: r)
    | [] => d a :: spanOf d n (a + 1) []

/-- Bytes as sparse entries from `a` on. -/
def entriesOf (d : Nat → Byte) : Nat → List Byte → SMap Byte
  | _, [] => []
  | a, b :: r => if b = d a then entriesOf d (a + 1) r else (a, b) :: entriesOf d (a + 1) r

/-- Main SRAM holds the image from host address 0x0100_0000 on (R47); the blocks it covers stop being poisoned (R460). -/
def stageImage (b : List Byte) (s : State) : State :=
  let e := 0x1000000 + b.length
  { s with
    mem := s.mem.filter (fun c => decide (c.1 < 0x1000000)) ++ entriesOf (memDflt s) 0x1000000 b ++ s.mem.filter (fun c => decide (e ≤ c.1))
    poison := s.poison.filter (fun c => decide (c.1 < 0x100000) || decide (e / 16 ≤ c.1)) }

/-- Staged data is discarded (R49): the staging area holds nothing any more. -/
def unstage (s : State) : State :=
  { s with mem := s.mem.filter (fun c => decide (c.1 < 0x1000000) || decide (0x1800000 ≤ c.1)) }

/-- The poisoned blocks among the first `n` staged bytes, by number. -/
def stagedPoison (s : State) (n : Nat) : List Nat :=
  (s.poison.map (·.1)).filter (fun k => decide (0x100000 ≤ k) && decide (16 * k < 0x1000000 + n))

/-- The first `n` staged bytes, those of a poisoned block as 0 (R459). -/
def stagedBytes (s : State) (n : Nat) : List Byte :=
  let b := spanOf (memDflt s) n 0x1000000 s.mem
  match stagedPoison s n with
  | [] => b
  | l => b.mapIdx (fun i x => if l.contains (0x100000 + i / 16) then 0#8 else x)

end Sys2Proof.Machine
end

