-- ==== Sys2Proof/Machine/Load.lean ====
section
/-! DEFINITION. Sys2Proof/Machine/Load.lean: the clamp report (R52, R58, R59), galley values of registers (R39, R501), and
the sections CLKP, PWRP, SYSP, REGS, TABL, DMEM, FORM and MODE. -/

namespace Sys2Proof.Machine

/-! ### The report -/

/-- The STATUS flag that a report entry of a kind sets, if any. -/
def repFlag (kind : Nat) : Option Fld :=
  if (1 ≤ kind ∧ kind ≤ 6) ∨ kind = 0x32 then some F.GLY_STATUS_CLAMPED
  else if (0x10 ≤ kind ∧ kind ≤ 0x12) ∨ kind = 0x20 then some F.GLY_STATUS_CONFLICT
  else none

/-- R58, R59: write a report entry for a correction in section `ty`, `inst` (`bit` for a register field). -/
def rep (kind ty inst loc given applied bit : Nat) (s : State) : State :=
  let safe := ty == 0x40
  let s := match repFlag kind with
    | some f => raiseFlag s f
    | none => s
  let s := if safe then raiseFlag s F.GLY_STATUS_SAFETY_CLAMP else s
  if s.gly.report.length < 512 then
    let w0 := kind + 2 ^ 8 * (ty % 256) + 2 ^ 16 * (inst % 256) + 2 ^ 24 * (bit % 32) + 2 ^ 31 * safe.toNat
    fset { s with gly := { s.gly with
        report := s.gly.report ++ [⟨BitVec.ofNat 32 w0, BitVec.ofNat 32 loc, BitVec.ofNat 32 given, BitVec.ofNat 32 applied⟩] } }
      F.GLY_REPORT_COUNT_COUNT (s.gly.report.length + 1)
  else bump s F.GLY_STATUS_REPORT_LOST

/-- A report entry for a correction that was made. -/
def repCorr (k : Corr) (ty inst loc given applied bit : Nat) (s : State) : State :=
  if k = .none then s else rep k.kind ty inst loc given applied bit s

/-- R502: a body of another size than its layout requires. -/
def repSize (ty inst : Nat) (b : List Byte) (need : Nat) (s : State) : State :=
  if b.length = need then s else rep 0x32 ty inst ty b.length need 0 s

/-- R52: non-zero bytes where `n` bytes of 0 stand from offset `o`. -/
def repZero (ty inst : Nat) (b : List Byte) (o n : Nat) (s : State) : State :=
  if u b o n = 0 then s else rep 5 ty inst o (u b o n) 0 0 s

/-- R52: the value `v` held to `lo … hi`, reported at `loc`. -/
def fitTo (ty inst loc bit lo hi v : Nat) (s : State) : Nat × State :=
  let r := (Rng.nat lo hi).judge 32 v
  (r.1, repCorr r.2 ty inst loc v r.1 bit s)

/-! ### Galley values of registers (R39) -/

/-- The bits `m` of the register at `a` take those of `v`, now and at each power-up of its domain. -/
def galPut (a : Nat) (m v : Word) (s : State) : State :=
  let g := SMap.get regReset s.galley a
  wr { s with galley := SMap.put regReset s.galley a ((g &&& ~~~m) ||| (v &&& m)) } a ((rd s a &&& ~~~m) ||| (v &&& m))

/-- A field takes a galley value. -/
def galSet (f : Fld) (v : Nat) (i : Nat := 0) (j : Nat := 0) (k : Nat := 0) (s : State) : State :=
  galPut (f.reg.at i j k) f.mask (BitVec.ofNat 32 (v % 2 ^ f.width * 2 ^ f.lsb)) s

/-- A field of a register as a section sees it: bit, width, range, and whether the section sets it. -/
structure GFld where
  lsb : Nat
  width : Nat
  rng : Rng
  set : Bool
  deriving DecidableEq, Repr

/-- A word of a platen's bank tables: the platen, whether of the staged bank, and the offset. -/
def pltTab (a : Nat) : Option (Nat × Bool × Nat) :=
  if 0x10000 ≤ a ∧ a < 0x1F000 then
    let off := (a - 0x10000) % 0x3000
    if 0x800 ≤ off ∧ off < 0xC00 then some ((a - 0x10000) / 0x3000, false, off - 0x800)
    else if 0x1000 ≤ off ∧ off < 0x1400 then some ((a - 0x10000) / 0x3000, true, off - 0x1000)
    else none
  else none

/-- The fields of a word of the bank tables (R97, R98, R105): TYPE has the encodings of its table, and word 1 of a descriptor is judged
as one field. -/
def bankFlds (off : Nat) : List GFld :=
  let f := fun (x : Nat × Nat × Rng) => (⟨x.1, x.2.1, x.2.2, true⟩ : GFld)
  if off < 0x200 then
    (if off % 8 = 0 then [(0, 14, .any), (14, 1, .any), (16, 3, .any), (20, 4, Rng.notUsed (if off < 0x100 then 6 else 4) 15), (24, 6, .any),
      (31, 1, .any)] else [(0, 32, .any)]).map f
  else (if off % 8 = 0 then [(0, 6, Rng.any), (6, 1, .any), (8, 6, .any), (16, 6, .any)] else [(0, 16, .any)]).map f

/-- The fields of the register at `a`: a REGS entry sets those of access RW or QS or of reset "galley" (R39), the SAFE section
those of access SF (R301). -/
def gFlds (saf : Bool) (a : Nat) : List GFld :=
  if inTab a then (tabFlds ((a - tabBase) / 4)).map (fun f => ⟨f.1, f.2.1, f.2.2, true⟩)
  else if (pltTab a).isSome then bankFlds (((pltTab a).map (·.2.2)).getD 0)
  else ((blockFlds a).filter (fun f => f.reg.hits a)).map (fun f =>
    ⟨f.lsb, f.width, f.rng, if saf then f.acc == .sf else f.acc == .rw || f.acc == .qs || f.isGalley⟩)

/-- The reserved fields between `fs`: runs of bits from `i` on that no field holds; the first argument counts bits down. -/
def gapsFrom (fs : List GFld) : Nat → Nat → List (Nat × Nat)
  | 0, _ => []
  | n + 1, i =>
    let free := !fs.any (fun f => decide (f.lsb ≤ i) && decide (i < f.lsb + f.width))
    let r := gapsFrom fs n (i + 1)
    if !free then r
    else
      match r with
      | (l, w) :: t => if l = i + 1 then (i, w + 1) :: t else (i, 1) :: (l, w) :: t
      | [] => [(i, 1)]

/-- The platen memories that the galley fills. -/
def glyPlt (s : State) (n : Nat) : PltS := SMap.get (fun _ => PltS.init) s.gly.plts n

/-- Change them. -/
def modGly (n : Nat) (f : PltS → PltS) (s : State) : State :=
  { s with gly := { s.gly with plts := SMap.put (fun _ => PltS.init) s.gly.plts n (f (glyPlt s n)) } }

/-- Replace bits `m` of a word of a bank's tables at offset `off`. -/
def bankPut (b : BankS) (off : Nat) (m v : Word) : BankS :=
  let zero : Nat → W64 := fun _ => 0#64
  let put := fun (t : SMap W64) (o : Nat) =>
    let w := SMap.get zero t (o / 8)
    let old := if o % 8 = 0 then w.extractLsb' 0 32 else w.extractLsb' 32 32
    tabHalf zero t o ((old &&& ~~~m) ||| (v &&& m))
  if off < 0x100 then { b with latch := put b.latch off }
  else if off < 0x200 then { b with pub := put b.pub (off - 0x100) }
  else { b with sec := put b.sec (off - 0x200) }

/-- A word of a platen's bank tables or configuration or of a mode-machine table takes its value where the machine keeps it. -/
def galWord (a : Nat) (m v : Word) (s : State) : State :=
  if inTab a then
    let k := fget s F.SYS_MM_SEL_M
    setTabWord k ((a - tabBase) / 4) ((tabWord s k ((a - tabBase) / 4) &&& ~~~m) ||| (v &&& m)) s
  else
    match pltTab a, R.PLT_STG_CFG.idx? a, R.PLT_ACT_CFG.idx? a with
    | some (n, true, off), _, _ => modGly n (fun p => { p with stg := bankPut p.stg off m v }) s
    | some (n, false, off), _, _ => modGly n (fun p => { p with act := bankPut p.act off m v }) s
    | _, some (n :: _), _ => modGly n (fun p => { p with stg := { p.stg with phasesM1 := v.toNat % 64 } }) s
    | _, _, some (n :: _) => modGly n (fun p => { p with act := { p.act with phasesM1 := v.toNat % 64 } }) s
    | _, _, _ => galPut a m v s

/-- R39, R52: the word `v` for the register at `a`. -/
def galEntry (saf : Bool) (ty inst a : Nat) (v : Word) (s : State) : State :=
  let fs := gFlds saf a
  let s := forL fs (fun f s =>
    if !f.set && bitsOf v f.lsb f.width != 0 then rep 6 ty inst a (bitsOf v f.lsb f.width) 0 f.lsb s else s) s
  let s := forL (gapsFrom fs 32 0) (fun g s =>
    if bitsOf v g.1 g.2 = 0 then s else rep 5 ty inst a (bitsOf v g.1 g.2) 0 g.1 s) s
  forL fs (fun f s =>
    if !f.set then s
    else
      let g := bitsOf v f.lsb f.width
      let r := f.rng.judge f.width g
      let w := setBits 0#32 f.lsb f.width r.1
      galWord a (setBits 0#32 f.lsb f.width (2 ^ f.width - 1)) w (repCorr r.2 ty inst a g r.1 f.lsb s)) s

/-- Every instance of a register, by address. -/
def instances : List (Nat × Nat) → Nat → List Nat
  | [], a => [a]
  | (n, st) :: ds, a => (List.range n).flatMap (fun i => instances ds (a + i * st))

/-- R501: the fields whose value without a section is not 0. -/
def unsetFlds : List Fld := allFlds.filter (fun f => f.isGalley && !f.view && f.unset != 0)

/-- R501: every field of reset "galley" takes the value it has when no section sets it. -/
def galDefaults (s : State) : State :=
  forL unsetFlds (fun f s => forL (instances f.reg.dims f.reg.addr) (fun a s =>
    galPut a f.mask (BitVec.ofNat 32 (f.unset * 2 ^ f.lsb)) s) s) s

/-! ### Counted bodies (R502) -/

/-- The counted entries of a body with a header of `hd` bytes and entries of `n` bytes: a short body keeps the whole entries
present. -/
def entries (b : List Byte) (hd n cnt : Nat) : List (Nat × List Byte) :=
  (List.range (min cnt ((b.length - hd) / n))).map (fun i => (hd + n * i, (b.drop (hd + n * i)).take n))

/-- The count in bytes 0 to 3 of a 16-byte header, at most `top`. -/
def headCount (ty inst top : Nat) (b : List Byte) (s : State) : Nat × State := fitTo ty inst 0 0 0 top (u b 0 4) s

/-! ### CLKP (R439) -/

def loadClkp (b : List Byte) (s : State) : State :=
  let s := repZero 1 0 b 1 15 (repSize 1 0 b 16 s)
  let v := u b 0 1
  let s := if v / 16 = 0 then s else rep 5 1 0 R.PWR_CLK_CFG.addr (v / 16) 0 4 s
  galPut R.PWR_CLK_CFG.addr 0xF#32 (BitVec.ofNat 32 (v % 16)) s

/-! ### PWRP (R437, R438) -/

/-- The domains that R437 makes mandatory in state `st` when the platens `forms` have a FORM. -/
def pdMust (forms st : Nat) : Nat :=
  match st with
  | 1 => 0x3003 | 2 => 0x3803 | 5 => 0x3603 | 6 => 0x3E03
  | _ => 0x38C3 + 4 * (forms % 16)

/-- The domains that the plan may power in state `st`: R437 leaves PD_PLT0 to PD_PLT3, PD_ACQ, PD_NET and PD_CAN to it in BOOT and LOADED. -/
def pdMay (st : Nat) : Nat :=
  match st with
  | 1 => 0x373F | 2 => 0x3F3F | 5 => 0x3603 | 6 => 0x3E03
  | _ => 0x3FFF

/-- PWRP: `forms` has bit n when the image holds a FORM for platen n. -/
def loadPwrp (forms : Nat) (b : List Byte) (s : State) : State :=
  let s := repSize 2 0 b 64 s
  let s := forN 8 (fun i s =>
    let m := u b (2 * i) 2
    let n := (m ||| pdMust forms (i + 1)) &&& (pdMay (i + 1) ||| pdMust forms (i + 1))
    galSet F.PWR_PD_PLAN_MASK n i 0 0 (if n = m then s else rep 3 2 0 (2 * i) m n 0 s)) s
  let save := fitTo 2 0 0x10 0 0 0x3FFFFF (u b 0x10 4) s
  let s := galSet F.PWR_SAVE_DOZE_OK 1 0 0 0 (galSet F.PWR_SAVE_INDEX save.1 0 0 0 save.2)
  repZero 2 0 b 0x18 40 (galEntry false 2 0 R.PWR_DOZE_CFG.addr (BitVec.ofNat 32 (u b 0x14 4)) s)

/-- The main-SRAM words that descriptor `d` of a latch or, with `pub`, of a publish moves (R105). -/
def descUse (s : State) (pub : Bool) (d : W64) : List (Nat × Nat) :=
  let w := d.toNat
  let n := w / 2 ^ 16 % 8 + 1
  let ty := w / 2 ^ 20 % 16
  if !d.getLsbD 31 then []
  else if (if pub then ty == 3 else ty == 2) then [(w / 2 ^ 32 % 2 ^ 22, n)]
  else if !pub && (ty == 3 || ty == 4) then [(fget s F.IMP_VAL_BASE_INDEX + w / 2 ^ 32 % 2 ^ 18, n)]
  else []

/-- Those of the forme that the galley gives to each control platen. -/
def formeUses (s : State) : List (Nat × Nat) :=
  (List.range 4).flatMap (fun n =>
    let b := (glyPlt s n).act
    b.latch.flatMap (fun e => descUse s false e.2) ++ b.pub.flatMap (fun e => descUse s true e.2))

/-- Those of maps of essences (R415) and of recorded signals (R388). -/
def wordUses (s : State) : List (Nat × Nat) :=
  ((List.range 32).filter (fun i => fget s F.PAR_MAP0_KIND i == 3)).map (fun i => (fget s F.PAR_MAP0_START i, fget s F.PAR_MAP1_COUNT i)) ++
    (List.range 16).flatMap (fun r =>
      ((List.range 8).filter (fun i => fget s F.ACQ_SIG_KIND r i == 1)).map (fun i => (fget s F.ACQ_SIG_SEL r i, 1)))

/-- Main-SRAM uses of the galley as first words and lengths (R105, R228, R241, R253, R219, R220, R351 to R353, R388, R414, R415): `imp` that
it has layouts or descriptors, `cams` its cam tables. -/
def sramUses (imp : Bool) (cams : List Nat) (s : State) : List (Nat × Nat) :=
  let movers := (List.range 32).filter (fun m => fget s F.MOV_CFG_TYPE m != 0)
  let tracks := (List.range 8).filter (fun k => flag s F.SYS_TRK_CFG_EN k)
  (if imp then [(fget s F.IMP_DESC_BASE_INDEX, 524288), (fget s F.IMP_VAL_BASE_INDEX, 262144), (fget s F.IMP_LAY_BASE_INDEX, 2048)]
   else []) ++
    cams.map (fun k => (fget s F.SYS_CAM_BASE_INDEX + 2048 * k, 2048)) ++
    movers.flatMap (fun m => [(fget s F.MOV_REC_INDEX m, 16), (fget s F.MOV_PBASE_INDEX m, 25), (fget s F.PRF_SPBASE_INDEX m, 8)]) ++
    tracks.map (fun k => (fget s F.SYS_TRK_TAB_INDEX k, 8 * fget s F.SYS_TRK_CFG_NSEG k)) ++
    (if 0 < fget s F.PAR_RSC_ZCOUNT then [(fget s F.PAR_RSC_ZBASE_INDEX, 2 * fget s F.PAR_RSC_ZCOUNT)] else []) ++
    [(fget s F.PAR_FLUSH_BASE_INDEX, 1024)] ++ formeUses s ++ wordUses s

/-- R441: a save area (327,680 words) that leaves main SRAM or overlaps another use disables DOZE. -/
def dozeCheck (imp : Bool) (cams : List Nat) (save : Nat) (s : State) : State :=
  if 4194304 < save + 327680 ∨
      ((sramUses imp cams s).any (fun x => decide (x.1 < save + 327680) && decide (save < x.1 + x.2))) = true then
    galSet F.PWR_SAVE_DOZE_OK 0 0 0 0 (rep 3 2 0 0x10 save 0 0 s)
  else s

/-! ### SYSP (R34) -/

def loadSysp (b : List Byte) (s : State) : State :=
  let s := repSize 5 0 b 16 s
  let cfg := R.SYS_IMP_CFG.addr
  let per := fitTo 5 0 cfg 0 625 6250 (u b 0 2) s
  let nv := fitTo 5 0 cfg 16 1 16 (u b 4 1) per.2
  let np := fitTo 5 0 cfg 24 1 63 (u b 5 1) nv.2
  let s := galSet F.SYS_IMP_CFG_NP np.1 0 0 0 (galSet F.SYS_IMP_CFG_NV nv.1 0 0 0 (galSet F.SYS_IMP_CFG_PERIOD per.1 0 0 0 np.2))
  let s := galSet F.SYS_IMP_PHASE_OFFSET (min (u b 2 2) 8191) 0 0 0 s
  let st := (Rng.notUsed 3 255).judge 8 (u b 6 1)
  let s := repCorr st.2 5 0 6 (u b 6 1) st.1 0 { s with sys := { s.sys with start := st.1 } }
  let md := fitTo 5 0 R.PAR_CFG.addr 0 0 2 (u b 7 1) s
  let p := u b 8 1
  let s := if p / 16 = 0 then md.2 else rep 5 5 0 8 (p / 16) 0 0 md.2
  let s := galPut R.PAR_CFG.addr 0x3F#32 (BitVec.ofNat 32 (md.1 + 4 * (p % 16))) s
  repZero 5 0 b 9 7 s

/-! ### REGS (R39) -/

/-- An entry of a REGS body. -/
def regsEntry (inst a : Nat) (v : Word) (s : State) : State :=
  if a % 4 ≠ 0 ∨ (0x80100 ≤ a ∧ a < 0x80600) ∨ (gFlds false a).isEmpty = true then rep 6 0x20 inst a v.toNat 0 0 s
  else galEntry false 0x20 inst a v s

def loadRegs (inst : Nat) (b : List Byte) (s : State) : State :=
  let c := headCount 0x20 inst 65536 b s
  let s := repZero 0x20 inst b 4 12 (repSize 0x20 inst b (16 + 8 * c.1) c.2)
  forL (entries b 16 8 c.1) (fun e s => regsEntry inst (u e.2 0 4) (BitVec.ofNat 32 (u e.2 4 4)) s) s

/-! ### Relations (R25, R52, R142, R374) -/

/-- R52, R500: field `lsb`, `wd` of word `w` of the table of machine `m` held below its STATES. -/
def tabFix (src : Nat → Nat × Nat) (m w lsb wd : Nat) (s : State) : State :=
  let a := tabBase + 4 * w
  let v := bitsOf (tabWord s m w) lsb wd
  let r := relOf s (fieldAt a lsb wd m) v
  if r.2 = .none then s
  else setTabWord m w (setBits (tabWord s m w) lsb wd r.1) (repCorr r.2 (src a).1 (src a).2 a v r.1 lsb s)

/-- The relations of the tables that REGS entries have set, judged once the MODE sections, of the machines `modes`, are applied (R52); such a
machine too starts in INIT (R101). -/
def mmRelations (modes : List Nat) (src : Nat → Nat × Nat) (s : State) : State :=
  let s := forN 64 (fun m s =>
    if modes.contains m ∨ mmStates s m = 0 then s
    else
      let s := forN 32 (fun w s => forN 4 (fun j => tabFix src m (9 + w) (8 * j) 4) s) (tabFix src m 0 8 8 s)
      setMm s m { s.mm m with st := tabByte s m 1 }) s
  let f := F.SYS_MM_FORCE_STATE
  let r := relOf s (fieldAt (f.reg.at) f.lsb f.width 0) (fget s f)
  if r.2 = .none then s
  else
    let x := src f.reg.at
    fset (repCorr r.2 x.1 x.2 f.reg.at (fget s f) r.1 f.lsb s) f r.1

/-- R25: Np as a whole multiple of Nv. -/
def npFit (nv np : Nat) : Nat := if np < nv then nv else np / nv * nv

/-- The fields whose range is stated relative to another, and how many there are; those that depend on a lock come second. -/
def relFlds : List (Fld × Nat) :=
  [(F.EDG_CH_LOCK_M, 48), (F.EDG_CH_LOCK_K, 48), (F.SYS_TRK_WIN_W_OFF, 8), (F.MOV_RHO_MIN, 32)]

/-- A correction of a relation, reported under the section that set the field: `src` gives its type and instance. -/
def relFix (src : Nat → Nat × Nat) (k : Corr) (f : Fld) (i given v : Nat) (s : State) : State :=
  let a := f.reg.at i
  if k = .none then s else galSet f v i 0 0 (repCorr k (src a).1 (src a).2 a given v f.lsb s)

/-- One pass over fields: all are judged before any is corrected. A relation within one register binds nothing when no section
sets it (R52, R501). -/
def relPass (src : Nat → Nat × Nat) (fs : List (Fld × Nat)) (s : State) : State :=
  let own := fun (f : Fld) => f == F.SYS_TRK_WIN_W_OFF || f == F.MOV_RHO_MIN
  let fix := fs.flatMap (fun f => ((List.range f.2).filter (fun i => !own f.1 || src (f.1.reg.at i) != (0x05, 0))).map (fun i =>
    let v := fget s f.1 i
    (f.1, i, v, relOf s (fieldAt (f.1.reg.at i) f.1.lsb f.1.width 0) v)))
  forL fix (fun e s => relFix src e.2.2.2.2 e.1 e.2.1 e.2.2.1 e.2.2.2.1 s) s

/-- The relations judged once REGS is applied; `ofs` is OFFSET as SYSP gives it. -/
def relations (src : Nat → Nat × Nat) (ofs : Nat) (s : State) : State :=
  let np := fget s F.SYS_IMP_CFG_NP
  let s := relFix src (if npFit (nvOf s) np = np then .none else .clampStep) F.SYS_IMP_CFG_NP 0 np (npFit (nvOf s) np) s
  let per := fget s F.SYS_IMP_CFG_PERIOD
  let o := fget s F.SYS_IMP_PHASE_OFFSET
  let s := relFix src (if per ≤ o then .clampHi else .none) F.SYS_IMP_PHASE_OFFSET 0 (if o = 8191 then max o ofs else o) (per - 1) s
  let s := relPass src [(F.EDG_PHASE_PHASE, 48)] (relPass src relFlds s)
  let s := relPass src [(F.FBK_SSI_TIMING_LEAD, 8)] s
  let s := forN 16 (fun r s => relFix src (if fget s F.ACQ_LEN_VAL r ≤ fget s F.ACQ_PRE_VAL r then .clampHi else .none) F.ACQ_PRE_VAL r
    (fget s F.ACQ_PRE_VAL r) (fget s F.ACQ_LEN_VAL r - 1) s) s
  let udp := fun p s => relFix src (if fget s F.TIM_P_CFG_PROFILE p = 2 ∧ fget s F.TIM_P_CFG_UDP p = 1 then .clampStep else .none) F.TIM_P_CFG_UDP p 1 0 s
  let s := forN 2 udp s
  let sjw := fun (j t : Fld) k s => relFix src (if fget s t k < fget s j k then .clampStep else .none) j k (fget s j k) (fget s t k) s
  forN 4 (fun k s => sjw F.CAN_DBT_SJW_M1 F.CAN_DBT_TSEG2_M1 k (sjw F.CAN_NBT_SJW_M1 F.CAN_NBT_TSEG2_M1 k s)) s

/-! ### TABL (R237, R253) -/

/-- Words of 4 bytes, of which bits [23:0] are used, into a memory from `a` on. -/
def putW24 (m : SMap W24) (a : Nat) (b : List Byte) (n : Nat) : SMap W24 :=
  (List.range n).foldl (fun m i => SMap.put (fun _ => 0#24) m (a + i) (BitVec.ofNat 24 (u b (4 * i) 4))) m

def loadTabl (inst : Nat) (b : List Byte) (s : State) : State :=
  let kd := (Rng.notUsed 3 255).judge 8 (u b 0 1)
  let kind := if kd.1 = 0 then 1 else kd.1
  let s := if kind = u b 0 1 then s else rep 4 0x21 inst 0 (u b 0 1) kind 0 s
  if kind = 1 then
    let s := repSize 0x21 inst b 4116 s
    let p := fitTo 0x21 inst 1 0 0 3 (u b 1 1) s
    let a := fitTo 0x21 inst 2 0 0 7167 (u b 2 2) p.2
    modGly p.1 (fun x => { x with c := putW24 x.c a.1 (b.drop 16) 1025 }) (repZero 0x21 inst b 4 12 a.2)
  else
    let s := repSize 0x21 inst b 8208 s
    let k := fitTo 0x21 inst 1 0 0 15 (u b 1 1) s
    let s := repZero 0x21 inst b 2 14 k.2
    forN 2048 (fun i s => writeSram (fget s F.SYS_CAM_BASE_INDEX + 2048 * k.1 + i) (u b (16 + 4 * i) 4) s) s

/-! ### DMEM (R109) -/

def loadDmem (n : Nat) (b : List Byte) (s : State) : State :=
  let x := fitTo 0x11 n 0 0 0 16384 (u b 0 4) s
  let y := fitTo 0x11 n 4 0 0 16384 (u b 4 4) x.2
  let c := fitTo 0x11 n 8 0 0 8192 (u b 8 4) y.2
  let s := repSize 0x11 n b (12 + 4 * (x.1 + y.1 + c.1)) c.2
  modGly n (fun p => { p with
    x := putW24 [] 0 (b.drop 12) x.1
    y := putW24 [] 0 (b.drop (12 + 4 * x.1)) y.1
    c := putW24 [] 0 (b.drop (12 + 4 * (x.1 + y.1))) c.1 }) s

/-! ### FORM (R54, R107, R108) -/

/-- The bits of word 1 that a descriptor of a type uses (R105, R506), for the types that R105 lists. -/
def descUses (latch : Bool) (ty : Nat) : Option Nat :=
  if latch then
    match ty with
    | 0 => some 0 | 1 => some 0xFFFF | 2 => some 0x3FFFFF | 3 => some 0x3FFFF | 4 => some 0x3FFFF | 5 => some 0
    | _ => none
  else
    match ty with
    | 0 => some 0 | 1 => some 0xF3F | 2 => some 0xF3F | 3 => some 0x3FFFFF
    | _ => none

/-- A table entry with the bits outside `m0` and `m1` of its words cleared: one RESERVED_CLEARED entry a word, with the whole word as the
value given (R108; DESIGN CHOICE, log entry 72). -/
def tabEntry (inst o w0 w1 m0 m1 : Nat) (s : State) : W64 × State :=
  let fix := fun (w m : Nat) s => if w &&& m = w then s else rep 5 0x10 inst o w (w &&& m) 0 s
  (BitVec.ofNat 64 ((w0 &&& m0) + 2 ^ 32 * (w1 &&& m1)), fix w1 m1 (fix w0 m0 s))

/-- A descriptor as R108 judges it. -/
def formDesc (latch : Bool) (inst o : Nat) (b : List Byte) (s : State) : W64 × State :=
  let w0 := u b o 4
  let w1 := u b (o + 4) 4
  let ty := w0 / 2 ^ 20 % 16
  match descUses latch ty with
  | some m => tabEntry inst o w0 w1 0xBFF77FFF m s
  | none => tabEntry inst o (w0 - ty * 2 ^ 20) w1 0xBFF77FFF 0 (rep 4 0x10 inst o ty 0 0 s)

/-- A sort as R108 judges it. -/
def formSort (inst o : Nat) (b : List Byte) (s : State) : W64 × State :=
  let w := BitVec.ofNat 64 (u b o 8)
  let d := decodeSort 0 0 [] w
  if sortNotUsed d.1 d.2 then
    let n : W64 := BitVec.ofNat 64 (d.2.sec.toNat * 2 ^ 52)
    (n, rep 4 0x10 inst o (w.toNat % 2 ^ 32) (n.toNat % 2 ^ 32) 0 s)
  else (w, s)

/-- A table from a body: `f` judges the entry at a body offset. -/
def formTab (d : Nat → W64) (f : Nat → State → W64 × State) (n : Nat) (s : State) : SMap W64 × State :=
  (List.range n).foldl (fun r i => let x := f i r.2; (SMap.put d r.1 i x.1, x.2)) ([], s)

/-- The slot limit L (R112). -/
def slotLimit (s : State) : Nat := 48 * fget s F.SYS_IMP_CFG_PERIOD / 5

def loadForm (inst : Nat) (b : List Byte) (s : State) : State :=
  let c := fitTo 0x10 inst 0 0 0 8192 (u b 0 4) s
  let ph := fitTo 0x10 inst 4 0 1 64 (u b 4 4) c.2
  let s := repSize 0x10 inst b (0x410 + 8 * c.1) (repZero 0x10 inst b 8 8 ph.2)
  let zero : Nat → W64 := fun _ => 0#64
  let la := formTab zero (fun i => formDesc true inst (0x10 + 8 * i) b) 32 s
  let pu := formTab zero (fun i => formDesc false inst (0x110 + 8 * i) b) 32 la.2
  let se := formTab zero (fun i s => let o := 0x210 + 8 * i; tabEntry inst o (u b o 4) (u b (o + 4) 4) 0x3F3F7F 0xFFFF s) 64 pu.2
  let so := formTab endWord (fun i => formSort inst (0x410 + 8 * i) b) (min c.1 ((b.length - 0x410) / 8)) se.2
  let k : BankS := ⟨so.1, ph.1 - 1, la.1, pu.1, se.1⟩
  let s := so.2
  if inst < 4 ∧ slotLimit s < worstCase k then
    modGly inst (fun p => { p with foreOver := true, bare := true, actWorst := 64, stgWorst := 64 }) (rep 0x20 0x10 inst 0 (worstCase k) 0 0 s)
  else modGly inst (fun p => { p with act := k, stg := k, actWorst := satNat 25 (worstCase k), stgWorst := satNat 25 (worstCase k) }) s

/-- R107: a platen without a FORM. -/
def noForm (n : Nat) (s : State) : State :=
  modGly n (fun p => { p with
    actWorst := 64, stgWorst := 64
    act := { BankS.empty with phasesM1 := p.act.phasesM1 }
    stg := { BankS.empty with phasesM1 := p.stg.phasesM1 } }) s

/-! ### MODE (R99, R500) -/

/-- Word `i` of a table, judged; INIT and NEXT are held below `states`. -/
def modeWord (inst states i : Nat) (b : List Byte) (s : State) : Word × State :=
  let w := BitVec.ofNat 32 (u b (4 * i) 4)
  let s := forL (tabReserved i) (fun r s =>
    if bitsOf w r.1 r.2 = 0 then s else rep 5 0x12 inst (4 * i + r.1 / 8) (bitsOf w r.1 r.2) 0 0 s) s
  (tabFlds i).foldl (fun r f =>
    let v := bitsOf w f.1 f.2.1
    let below := (i = 0 ∧ f.1 = 8) ∨ (9 ≤ i ∧ f.1 % 8 = 0)
    let j := if below then atMost (states - 1) .clampHi v else f.2.2.judge f.2.1 v
    (setBits r.1 f.1 f.2.1 j.1, repCorr j.2 0x12 inst (4 * i + f.1 / 8) v j.1 0 r.2)) (0#32, s)

def loadMode (m : Nat) (b : List Byte) (s : State) : State :=
  let states := ((Rng.nat 1 16).judge 8 (u b 0 1)).1
  let s := forN 41 (fun i s => let r := modeWord m states i b s; setTabWord m i r.1 r.2) (repSize 0x12 m b 164 s)
  setMm s m { s.mm m with st := tabByte s m 1 }

end Sys2Proof.Machine
end

