-- ==== Sys2Proof/Machine/LoadMap.lean ====
section
/-! DEFINITION. Sys2Proof/Machine/LoadMap.lean: the sections BALL (R55, R56, R489 to R494) and BIND (R57, R206, R207). -/

namespace Sys2Proof.Machine

/-! ### Balls -/

/-- The transmit or the receive clock of ETHC's RGMII, whose places in the port's list only the per-ball list gives (log entry 22). -/
def rgmiiClk (f : Nat) : Bool :=
  (List.range 2).any (fun k => f == 0x12 * 1024 + Config.rgmiiClock k % 14)

/-- A function that has lost a ball. -/
def loseFunc (f : Nat) (s : State) : State :=
  { s with pins := { s.pins with funcs := SMap.put (fun _ => false) s.pins.funcs f false } }

/-- One entry of a BALL body at offset `o` (R55, R56, R494); `lost` are the functions that have lost a ball. An entry that names a
function the ball cannot carry takes the ball from an earlier claim, which R56 leaves high impedance; whether it is itself a claim for
R55 the spec does not say: a later entry may still have the ball (DESIGN CHOICE, log entry 71). -/
def ballEntry (o : Nat) (e : List Byte) (lost : List Nat) (s : State) : List Nat × State :=
  let b := fitTo 3 0 o 0 0 2303 (u e 0 2) s
  let f := u e 2 2
  let opt := u e 4 1
  let ok := if rgmiiClk f then opt % 2 else 0
  let s := if opt = ok then b.2 else rep 5 3 0 (o + 4) opt ok 0 b.2
  let s := if u e 5 3 = 0 then s else rep 5 3 0 (o + 5) (u e 5 3) 0 0 s
  let was := nget s.pins.balls b.1
  if !ballCan b.1 f then
    let s := rep 0x11 3 0 b.1 f 0 0 s
    if was = 0 ∨ 0x20000 ≤ was then (lost, s)
    else ((was - 1) :: lost, loseFunc (was - 1)
      { s with pins := { s.pins with balls := nput s.pins.balls b.1 (0x20000 + f), opts := nput s.pins.opts b.1 0 } })
  else if was = 0 then
    let s := { s with pins := { s.pins with balls := nput s.pins.balls b.1 (1 + f), opts := nput s.pins.opts b.1 ok } }
    if lost.contains f then (lost, s)
    else (lost, { s with pins := { s.pins with funcs := SMap.put (fun _ => false) s.pins.funcs f true } })
  else if 0x20000 ≤ was then (lost, rep 0x10 3 0 b.1 (was - 0x20000) f 0 s)
  else
    let old := was - 1
    let s := rep 0x10 3 0 b.1 old f 0 s
    let s := { s with pins := { s.pins with balls := nput s.pins.balls b.1 (0x20000 + f), opts := nput s.pins.opts b.1 0 } }
    (old :: f :: lost, loseFunc old (loseFunc f s))

def loadBall (b : List Byte) (s : State) : State :=
  let c := headCount 3 0 4096 b s
  let s := repZero 3 0 b 4 12 (repSize 3 0 b (16 + 8 * c.1) c.2)
  ((entries b 16 8 c.1).foldl (fun r e => ballEntry e.1 e.2 r.1 r.2) ([], s)).2

/-! ### Bindings -/

/-- What BIND entries have claimed and bound so far. Claims are numbers: resource kind × 4,096 + index. -/
structure Binds where
  claims : List Nat
  platen : SMap Nat
  /-- by mover: body offset and bytes 1 to 11 as applied -/
  mov : SMap (Nat × List Nat)
  /-- by track: body offset, NSEG, CLOSED, λ, L_A, LAST_LEN -/
  trk : SMap (Nat × List Nat)
  /-- by 64 × track + j: body offset and the segment -/
  seg : SMap (Nat × SegS)
  deriving DecidableEq, Repr

/-- Nothing bound. -/
def Binds.empty : Binds := ⟨[], [], [], [], []⟩

/-- The ranges of the bytes of an entry: byte, largest value, and whether 0xFF stands for none (R206). -/
def bindBytes (kind : Nat) : List (Nat × Nat × Nat × Bool) :=
  match kind with
  | 1 => [(1, 0, 47, false), (2, 0, 3, false)]
  | 2 => [(1, 0, 31, false), (2, 0, 3, false), (3, 0, 47, false), (4, 0, 47, true), (5, 0, 127, false), (6, 0, 127, false),
      (7, 0, 7, true), (8, 0, 3, false), (9, 0, 63, false), (10, 0, 7, true), (11, 0, 31, false)]
  | 3 => [(1, 0, 7, false), (2, 1, 48, false)]
  | 4 => [(1, 0, 7, false), (2, 0, 47, false), (3, 0, 47, false), (4, 0, 47, true), (5, 0, 63, false)]
  | _ => []

/-- A source index as R171 lists them: one that is not used is replaced by the lowest. -/
def srcFit (o v : Nat) (s : State) : Nat × State :=
  let r := fitTo 4 0 o 0 0 127 v s
  if r.1 = 127 ∨ srcList.contains r.1 = true then r else (0, rep 4 4 0 o v 0 0 s)

/-- The bytes of an entry as R52 leaves them. -/
def bindFit (o : Nat) (e : List Byte) (s : State) : List Nat × State :=
  let kind := u e 0 1
  (List.range 12).foldl (fun r i =>
    let v := u e i 1
    match (bindBytes kind).find? (fun x => x.1 == i) with
    | some x =>
      if x.2.2.2 && v == 255 then (r.1 ++ [v], r.2)
      else if kind = 2 ∧ (i = 5 ∨ i = 6) then let y := srcFit (o + i) v r.2; (r.1 ++ [y.1], y.2)
      else let y := fitTo 4 0 (o + i) 0 x.2.1 x.2.2.1 v r.2; (r.1 ++ [y.1], y.2)
    | none => (r.1 ++ [v], r.2)) ([], s)

/-- What an entry claims (R57, R206): platen bindings 1, actuators 2, primary sources 3, segment positions 5, Hall triplets 6. The
claims column of R206 asks neither a mover's TYPE nor whether it uses CH_A. That a mover's primary source, when it is a Hall triplet,
is another resource than that triplet of a SEGMENT entry is taken from R57 naming both (DEDUCED, log entry 71). -/
def bindClaims (v : List Nat) : List Nat :=
  let b := fun i => v.getD i 0
  match b 0 with
  | 1 => [4096 + b 1]
  | 2 => [2 * 4096 + b 3] ++ (if b 4 = 255 then [] else [2 * 4096 + b 4]) ++ (if b 5 = 127 then [] else [3 * 4096 + b 5])
  | 4 => [2 * 4096 + b 3, 5 * 4096 + 64 * b 1 + b 2] ++ (if b 4 = 255 then [] else [6 * 4096 + b 4])
  | _ => []

/-- The reserved bytes of an entry. -/
def bindZero (o : Nat) (e : List Byte) (s : State) : State :=
  let at_ := fun (i n : Nat) s => if u e i n = 0 then s else rep 5 4 0 (o + i) (u e i n) 0 0 s
  match u e 0 1 with
  | 1 => at_ 3 13 s
  | 2 => at_ 12 4 s
  | 3 => if u e 3 1 < 2 then s else rep 5 4 0 (o + 3) (u e 3 1) (u e 3 1 % 2) 0 s
  | _ => s

/-- One entry of a BIND body at offset `o`. -/
def bindEntry (o : Nat) (e : List Byte) (x : Binds) (s : State) : Binds × State :=
  let kind := u e 0 1
  if kind < 1 ∨ 4 < kind then (x, rep 0x12 4 0 o kind 0 0 s)
  else
    let f := bindFit o e s
    let v := f.1
    let s := bindZero o e f.2
    let b := fun i => v.getD i 0
    let cs := bindClaims v
    let put := fun {α : Type} (m : SMap α) (k : Nat) (y : α) => SMap.ins m k y
    if cs.any (fun c => x.claims.contains c) then (x, rep 0x12 4 0 o kind 0 0 s)
    else
      let x := { x with claims := cs ++ x.claims }
      (match kind with
      | 1 => { x with platen := put x.platen (b 1) (b 2) }
      | 2 => { x with mov := put x.mov (b 1) (o, v) }
      | 3 => { x with trk := put x.trk (b 1) (o, [b 2, b 3 % 2, u e 4 4, u e 8 4, u e 12 4]) }
      | _ => { x with seg := put x.seg (64 * b 1 + b 2) (o, ⟨b 3, b 4, b 5, sgn 48 (u e 6 2 * 2 ^ 32 + u e 8 4), sgn 32 (u e 12 4)⟩) }, s)

/-- The platen of channel `c`: 7 when no entry names it (R206). -/
def Binds.platenOf (x : Binds) (c : Nat) : Nat := SMap.get (fun _ => 7) x.platen c

/-- R207: movers and segments whose structure does not hold are dropped. -/
def bindDrop (x : Binds) (s : State) : Binds × State :=
  let badMov := fun (v : List Nat) =>
    let b := fun i => v.getD i 0
    let ch := fun c => x.platenOf c != b 8
    (b 2 == 1 && ch (b 3)) || (b 2 == 2 && (ch (b 3) || (b 4 != 255 && ch (b 4)))) || (b 2 == 3 && !x.trk.any (fun t => t.1 == b 7))
  let bm := x.mov.filter (fun m => badMov m.2.2)
  let bs := x.seg.filter (fun g => !x.trk.any (fun t => t.1 == g.1 / 64))
  let s := forL bm (fun m s => rep 0x12 4 0 m.2.1 2 0 0 s) s
  let s := forL bs (fun g s => rep 0x12 4 0 g.2.1 4 0 0 s) s
  ({ x with
      mov := x.mov.filter (fun m => !badMov m.2.2)
      seg := x.seg.filter (fun g => x.trk.any (fun t => t.1 == g.1 / 64)) }, s)

/-- Segment `j` of track `k`. -/
def Binds.segAt (x : Binds) (k j : Nat) : Option SegS := (x.seg.find? (fun g => g.1 == 64 * k + j)).map (·.2.2)

/-- The number of segments of a track that are present with rising boundaries, at most `n` (R207). -/
def Binds.sound (x : Binds) (k n : Nat) : Nat :=
  ((List.range n).takeWhile (fun j =>
    match x.segAt k j with
    | none => false
    | some g => j == 0 || (match x.segAt k (j - 1) with | some h => decide (h.b < g.b) | none => false))).length

/-- R207: the checks of one track, in the order of the rule; CLOSED is judged against λ as applied (R52). -/
def bindTrack (t : Nat × Nat × List Nat) (x : Binds) (s : State) : Binds × State :=
  let k := t.1
  let o := t.2.1
  let v := fun i => t.2.2.getD i 0
  let n := x.sound k (v 0)
  let s := if n = v 0 then s else rep 3 4 0 (o + 2) (v 0) n 0 s
  let out := x.seg.filter (fun g => g.1 / 64 == k && decide (n ≤ g.1 % 64))
  let x := { x with
    seg := x.seg.filter (fun g => !(g.1 / 64 == k && decide (n ≤ g.1 % 64)))
    platen := x.platen.filter (fun p => !out.any (fun g => g.2.2.ch == p.1)) }
  let bs := (List.range n).map (fun j => match x.segAt k j with | some g => g.b | none => 0)
  let last : Int := v 4
  let lens := (bs.zip (bs.drop 1)).map (fun p => p.2 - p.1) ++ [last]
  let top := (2 * (lens.foldl min (lens.headD 0))).toNat
  let la := if n ≠ 0 ∧ top < v 3 then top else v 3
  let s := if la = v 3 then s else rep 2 4 0 (o + 8) (v 3) la 0 s
  let lt := bs.getLastD 0 + last - bs.headD 0
  let lam := max 64 (v 2)
  let open_ := n != 0 && v 1 == 1 && lt % (lam : Int) != 0
  let s := if open_ then rep 3 4 0 (o + 3) 1 0 0 s else s
  let s := if lam = v 2 then s else rep 1 4 0 (o + 4) (v 2) lam 0 s
  ({ x with trk := SMap.ins x.trk k (o, [n, if open_ then 0 else v 1, lam, la, v 4]) }, s)

/-- The bindings take effect. -/
def bindApply (x : Binds) (s : State) : State :=
  let s := forN 48 (fun c s => galSet F.SDM_CFG_PLATEN (x.platenOf c) c 0 0 s) s
  let s := forL x.mov (fun m s =>
    let b := fun i => m.2.2.getD i 0
    let i := m.1
    let s := galSet F.MOV_CFG_FB_TAB (b 11) i 0 0 (galSet F.MOV_CFG_TYPE (b 2) i 0 0 s)
    let s := galSet F.MOV_CFG_CH_B (b 4) i 0 0 (galSet F.MOV_CFG_CH_A (b 3) i 0 0 s)
    let s := galSet F.MOV_CFG_PLATEN (b 8) i 0 0 (galSet F.MOV_CFG_TRACK (b 7) i 0 0 s)
    let s := galSet F.MOV_SRC_SEC (b 6) i 0 0 (galSet F.MOV_SRC_PRI (b 5) i 0 0 s)
    galSet F.MOV_SRC_SBC (b 10) i 0 0 (galSet F.MOV_SRC_MM (b 9) i 0 0 s)) s
  let s := forL x.trk (fun t s =>
    let v := fun i => t.2.2.getD i 0
    let s := galSet F.SYS_TRK_CFG_CLOSED (v 1) t.1 0 0 (galSet F.SYS_TRK_CFG_NSEG (v 0) t.1 0 0 s)
    galSet F.SYS_TRK_LA_VAL (v 3) t.1 0 0 (galSet F.SYS_TRK_LAMBDA_VAL (v 2) t.1 0 0 s)) s
  { s with trk := { s.trk with
      seg := x.seg.foldl (fun m g => SMap.put (fun _ => SegS.init) m g.1 g.2.2) []
      lastLen := x.trk.foldl (fun m t => nput m t.1 (t.2.2.getD 4 0)) [] } }

def loadBind (b : List Byte) (s : State) : State :=
  let c := headCount 4 0 512 b s
  let s := repZero 4 0 b 4 12 (repSize 4 0 b (16 + 16 * c.1) c.2)
  let r := (entries b 16 16 c.1).foldl (fun r e => bindEntry e.1 e.2 r.1 r.2) (Binds.empty, s)
  let r := bindDrop r.1 r.2
  let r := r.1.trk.foldl (fun q t => bindTrack t q.1 q.2) r
  bindApply r.1 r.2

end Sys2Proof.Machine
end

