-- ==== Sys2Proof/Machine/LoadNet.lean ====
section
/-! DEFINITION. Sys2Proof/Machine/LoadNet.lean: the sections IMPO (R351 to R355, R383), PTNT (R364) and SAFE (R301), and the checks
across sections. -/

namespace Sys2Proof.Machine

/-! ### IMPO -/

/-- A field of an entry: bit, width and range. -/
abbrev EFld := Nat × Nat × Rng

/-- A word of an entry at body offset `o` with its fields judged and the bits outside them cleared (R52). -/
def fitWord (ty inst o : Nat) (fs : List EFld) (v : Nat) (s : State) : Nat × State :=
  let w := BitVec.ofNat 32 v
  let r := fs.foldl (fun r f =>
    let g := bitsOf w f.1 f.2.1
    let j := f.2.2.judge f.2.1 g
    (setBits r.1 f.1 f.2.1 j.1, repCorr j.2 ty inst (o + f.1 / 8) g j.1 0 r.2)) (0#32, s)
  let s := forL (gapsFrom (fs.map (fun f => ⟨f.1, f.2.1, f.2.2, true⟩)) 32 0) (fun g s =>
    if bitsOf w g.1 g.2 = 0 then s else rep 5 ty inst (o + g.1 / 8) (bitsOf w g.1 g.2) 0 0 s) r.2
  (r.1.toNat, s)

/-- The words of a layout entry (R353). -/
def fitLayout (inst o : Nat) (e : List Byte) (s : State) : List Nat × State :=
  let w := fun i => u e (4 * i) 4
  let route := if w 0 / 16 % 8 = 7 then 0 else w 0 / 16 % 8
  let cls := w 0 / 4 % 4
  let len := if route < 3 then 1432 else 64
  let r0 := fitWord 0x30 inst o [(0, 1, .any), (1, 1, .any), (2, 2, .any), (4, 3, .notUsed 7 7), (7, 7, .any), (14, 1, .any), (15, 1, .any),
    (16, 11, .nat 1 len)] (w 0) s
  let r1 := fitWord 0x30 inst (o + 4) [(0, 18, .any), (18, 14, .nat 1 11456)] (w 1) r0.2
  let ph := if cls = 1 then 99 else if cls = 2 then 999 else 9
  let box := if route < 3 then Rng.any else if w 0 / 2 % 2 = 0 then Rng.nat 0 31 else Rng.nat 0 63
  let r2 := fitWord 0x30 inst (o + 8) [(0, 10, .nat 0 ph), (10, 8, .any), (18, 6, box)] (w 2) r1.2
  let r3 := fitWord 0x30 inst (o + 12) [(0, 16, .any), (16, 1, .any)] (w 3) r2.2
  ([r0.1, r1.1, r2.1, r3.1], r3.2)

/-- The words of an endpoint descriptor (R351): LAST is written as 0. -/
def fitDesc (inst o : Nat) (e : List Byte) (s : State) : List Nat × State :=
  let r0 := fitWord 0x30 inst o [(0, 5, .any), (5, 1, .any), (6, 2, .notUsed 3 3), (8, 9, .any), (17, 14, .nat 0 11455)] (u e 0 4) s
  let r1 := fitWord 0x30 inst (o + 4) [] (u e 4 4) r0.2
  ([r0.1, r1.1], r1.2)

/-- KIND, FIRST and COUNT of an IMPO body as R52 leaves them. -/
def impoHead (inst : Nat) (b : List Byte) (s : State) : (Nat × Nat × Nat) × State :=
  let k := u b 0 4
  let kind := if k = 2 then 2 else 1
  let s := if kind = k then s else rep 4 0x30 inst 0 k kind 0 s
  let top := if kind = 1 then 512 else 262144
  let f := fitTo 0x30 inst 4 0 0 (top - 1) (u b 4 4) s
  let c := fitTo 0x30 inst 8 0 0 (top - f.1) (u b 8 4) f.2
  ((kind, f.1, c.1), c.2)

/-- Store the words of an entry. -/
def putEntry (i : Nat) (ws : List Nat) (s : State) : State := forL ws.zipIdx (fun w s => writeSram (i + w.2) w.1 s) s

def loadImpo (inst : Nat) (b : List Byte) (s : State) : State :=
  let h := impoHead inst b s
  let n := if h.1.1 = 1 then 16 else 8
  let s := repZero 0x30 inst b 12 4 (repSize 0x30 inst b (16 + n * h.1.2.2) h.2)
  forL (entries b 16 n h.1.2.2).zipIdx (fun e s =>
    let i := h.1.2.1 + e.2
    if h.1.1 = 1 then
      let r := fitLayout inst e.1.1 e.1.2 s
      putEntry (fget s F.IMP_LAY_BASE_INDEX + 4 * i) r.1 r.2
    else
      let r := fitDesc inst e.1.1 e.1.2 s
      putEntry (fget s F.IMP_DESC_BASE_INDEX + 2 * i) r.1 r.2) s

/-! ### PTNT (R364) -/

/-- The settings of a template, as R52 leaves them, and the context of a pinned one. -/
def fitTmpl (o : Nat) (e : List Byte) (s : State) : (TmplS × Nat) × State :=
  let ty := fitTo 0x31 0 o 0 1 5 (u e 0 1) s
  let fl := u e 1 1
  let s := if fl / 16 = 0 then ty.2 else rep 5 0x31 0 (o + 1) (fl / 16) 0 0 ty.2
  let c := fitTo 0x31 0 (o + 2) 0 0 127 (u e 2 1) s
  let si := fitTo 0x31 0 (o + 4) 0 10 65535 (u e 4 2) c.2
  let s := forL [(3, 1), (6, 2), (14, 2), (22, 2)] (fun z s => if u e z.1 z.2 = 0 then s else rep 5 0x31 0 (o + z.1) (u e z.1 z.2) 0 0 s) si.2
  let pin := fl % 2 == 1
  let ones := fun (at_ n : Nat) s =>
    let all := 2 ^ (8 * n) - 1
    if pin && u e at_ n != all then (all, rep 1 0x31 0 (o + at_) (u e at_ n) all 0 s) else (u e at_ n, s)
  let mm := ones 16 6 s
  let im := ones 28 4 mm.2
  ((⟨ty.1, pin, fl / 2 % 4, fl / 8 % 2 == 1, si.1, u e 8 6, mm.1, u e 24 4, im.1, 0, none, none⟩, c.1), im.2)

def loadPtnt (b : List Byte) (s : State) : State :=
  let c := headCount 0x31 0 32 b s
  let s := if u b 4 1 / 2 = 0 then c.2 else rep 5 0x31 0 4 (u b 4 1 / 2) 0 0 c.2
  let s := repZero 0x31 0 b 5 11 (repSize 0x31 0 b (16 + 32 * c.1) s)
  let s := galSet F.PTN_OPEN_ADMIT_EN (u b 4 1) 0 0 0 s
  forL (entries b 16 32 c.1).zipIdx (fun e s =>
    let r := fitTmpl e.1.1 e.1.2 s
    let x := r.1.1
    let i := r.1.2
    if x.pinned && flag r.2 F.PTN_STATE_PINNED i then rep 3 0x31 0 e.1.1 i 0 0 r.2
    else
      let s := setTmpl e.2 x r.2
      if x.pinned then ctxFill i e.2 x.mac x.ip x s else s) s

/-! ### SAFE (R301) -/

/-- A relation of the parameter block: a value not below its bound is corrected to the bound minus 1. -/
def safeRel (f g : Fld) (i : Nat) (s : State) : State :=
  let v := fget s f i
  if v < fget s g i then s else galSet f (fget s g i - 1) i 0 0 (rep 3 0x40 0 (f.reg.at i) v (fget s g i - 1) f.lsb s)

def loadSafe (b : List Byte) (s : State) : State :=
  let n := u b 0 4
  let s := repSize 0x40 0 b 0x510 s
  let s := if n = 0x500 then s else rep (if n < 0x500 then 1 else 2) 0x40 0 0 n 0x500 0 s
  let s := repZero 0x40 0 b 8 8 (galSet F.SAF_SIG_EXP_VAL (u b 4 4) 0 0 0 s)
  let blk := (b.drop 16).take (min n 0x500)
  let s := forN 320 (fun i s => galEntry true 0x40 0 (0x80100 + 4 * i) (BitVec.ofNat 32 (u blk (4 * i) 4)) s) s
  forN 8 (safeRel F.SAF_PSC_TIMING_WIN F.SAF_PSC_TIMING_WD) (safeRel F.SAF_TRESQ_TRESQ F.SAF_TDRY_TDRY 0 s)

/-! ### The checks across sections (step 14 of R40) -/

/-- Where an entry for layout `i` stands: the last IMPO section, in order, that holds one, and its offset there; (0, 0) when
none does. -/
def layoutAt (secs : List (Nat × List Byte)) (s : State) (i : Nat) : Nat × Nat :=
  secs.foldl (fun r x =>
    let h := (impoHead x.1 x.2 s).1
    if h.1 = 1 ∧ h.2.1 ≤ i ∧ i < h.2.1 + min h.2.2 ((x.2.length - 16) / 16) then (x.1, 16 + 16 * (i - h.2.1)) else r) (0, 0)

/-- The endpoints of layout `i`, with its mark. -/
def layRange (s : State) (i : Nat) : Nat × Nat := (layFirst s i, layFirst s i + layCount s i + (layMark s i && layRx s i).toNat)

/-- The word 0 of each endpoint descriptor of layout `i`. -/
def layDescs (s : State) (i : Nat) : List Nat :=
  (List.range (layCount s i)).map (fun e => impPeek s (fget s F.IMP_DESC_BASE_INDEX + 2 * (layFirst s i + e)))

/-- The payload bits of the endpoints are disjoint and lie within `n` bits; `used` holds those taken. -/
def bitsApart (n : Nat) : List Nat → Nat → Bool
  | [], _ => true
  | d :: r, used =>
    let m := (2 ^ epWidth d - 1) * 2 ^ epOfs d
    decide (epOfs d + epWidth d ≤ n) && (used &&& m) == 0 && bitsApart n r (used ||| m)

/-- R364: the context of a layout is pinned, or of the type of an open template. -/
def ctxFits (s : State) (i : Nat) : Bool :=
  let ty := if layRoute s i < 3 then 2 else 4
  flag s F.PTN_STATE_PINNED (layCtx s i) || (List.range 32).any (fun k => (s.tmpl k).ty == ty && !(s.tmpl k).pinned)

/-- R383: the length of a CAN layout suits its mailbox. -/
def canFits (s : State) (i : Nat) : Bool :=
  if layRoute s i < 3 then true
  else
    let n := layLen s i
    [0, 1, 2, 3, 4, 5, 6, 7, 8, 12, 16, 20, 24, 32, 48, 64].contains n &&
      (layRx s i || decide (n ≤ 8) || flag s F.CAN_MB_FMT_FDF (layRoute s i - 3) (layBox s i))

/-- R354, R364, R383: layout `i` may stay enabled beside those of `on`. -/
def layFits (s : State) (on : List Nat) (i : Nat) : Bool :=
  let r := layRange s i
  !on.any (fun k => let q := layRange s k; decide (q.1 < r.2) && decide (r.1 < q.2)) && decide (r.2 ≤ 262144) &&
    (let ds := layDescs s i
     ds.all (fun d => d / 2 ^ 8 % 2 ^ 9 == i && d / 2 ^ 6 % 4 == (if layRx s i then 1 else 2)) && bitsApart (8 * layLen s i) ds 0) &&
    !(List.range 8).any (fun n => flag s F.SAF_PSC_ID_EN n && fget s F.SAF_PSC_ID_CTX n == layCtx s i) && canFits s i && ctxFits s i

/-- The cost of a layout in operations per 100 ms (R355). -/
def layRate (s : State) (i : Nat) : Nat :=
  let n := layCount s i + 8 + (layMark s i).toNat
  match layClass s i with
  | 0 => 100 * n
  | 1 => 10 * n
  | 2 => n
  | _ => 100 * (2 * layCount s i + 8)

/-- The sum of costs. -/
def rateSum (s : State) (l : List Nat) : Nat := (l.map (layRate s)).sum

/-- R355: those of a list (highest index first) that are disabled until the rest costs at most 40 M/s. -/
def rateOver (s : State) : List Nat → List Nat
  | [] => []
  | i :: r => if 4000000 < rateSum s (i :: r) then i :: rateOver s r else []

/-- The layouts as they stay enabled; one that no section gives is not in use. A CAN layout marks the mailbox that it owns (R383) or the
filter that feeds it (R380). -/
def layoutCheck (secs : List (Nat × List Byte)) (s : State) : State :=
  let want := (List.range 512).filter (fun i => (layoutAt secs s i).2 != 0 && layBits s i 0 0 1 == 1)
  let on := want.foldl (fun on i => if layFits s on i then on ++ [i] else on) []
  let excess := rateOver s on.reverse
  let live := on.filter (fun i => !excess.contains i)
  let off := (want.filter (fun i => !on.contains i)) ++ excess
  let s := forL off (fun i s => rep 3 0x30 (layoutAt secs s i).1 (layoutAt secs s i).2 1 0 0 s) s
  let s := forL live (fun i s =>
    let s := setLay i { LayS.init with en := true } s
    if layRoute s i < 3 then s
    else galSet (if layRx s i then F.CAN_FLT_CFG_LAYOUT else F.CAN_MB_FMT_LAYOUT) 1 (layRoute s i - 3) (layBox s i) 0 s) s
  galSet F.IMP_LOAD_CFG (rateSum s live / 4000) 0 0 0 (galSet F.IMP_STATUS_DISABLED (!off.isEmpty).toNat 0 0 0 s)

/-- The highest map entries that do not fit an essence of 4 MiB (R415); the list has the highest first. -/
def mapsOver (s : State) : List Nat → List Nat
  | [] => []
  | i :: r => if 0x400000 < recordSize s 0 [1, 2, 3, 4, 5] (i :: r) then i :: mapsOver s r else []

/-- R415: the size of an essence; `src` gives the section that set a map entry. -/
def mapCheck (src : Nat → Nat × Nat) (s : State) : State :=
  let excess := mapsOver s (mapsOn s).reverse
  let s := forL excess (fun i s =>
    let a := R.PAR_MAP0.at i
    galSet F.PAR_MAP0_KIND 0 i 0 0 (rep 3 (src a).1 (src a).2 a (fget s F.PAR_MAP0_KIND i) 0 0 s)) s
  galSet F.PAR_ESS_STATUS_SIZE (recordSize s 0 [1, 2, 3, 4, 5] (mapsOn s)) 0 0 0 s

end Sys2Proof.Machine
end

