-- ==== Sys2Proof/Machine/Galley.lean ====
section
/-! DEFINITION. Sys2Proof/Machine/Galley.lean: the boot load, the host load, the application of a galley and the key store (R40
to R49, R58, R76). -/

namespace Sys2Proof.Machine

/-! ### Progress of a load -/

/-- The loader waits for `n` in phase `ph`. -/
def glyTo (n : GlyNext) (ph : Nat) (s : State) : State := fset { s with gly := { s.gly with next := n } } F.GLY_STATUS_PHASE ph

/-- Step 1 of the load timeline (R45, R51): the PLLs run and slot A is tried. -/
def bootLoad (s : State) : State :=
  glyTo .image 1 (fset { s with pwr := { s.pwr with pllLock := true } } F.GLY_STATUS_SRC 0)

/-- The device waits for a host load, in phase `ph`. -/
def waitHost (ph : Nat) (s : State) : State := fset (glyTo .nothing ph s) F.GLY_STATUS_WAIT_HOST 1

/-- A load fails (R45, R48, R59): slot B follows slot A, except after a flash timeout, which ends the flash load. -/
def glyFail (code : Nat) (s : State) : State :=
  let src := fget s F.GLY_STATUS_SRC
  let s := raise blkGLY 0x02 src code 0 (fset s F.GLY_STATUS_FAIL_CODE code)
  let s := if src < 2 then rep 0x31 0 0 src code 0 0 s else s
  let s := if src = 0 then raiseFlag s F.GLY_STATUS_SLOT_A_BAD else if src = 1 then raiseFlag s F.GLY_STATUS_SLOT_B_BAD else s
  if src = 0 ∧ code ≠ 13 then glyTo .image 1 (fset s F.GLY_STATUS_SRC 1) else waitHost 6 s

/-- A flash load is under way. -/
def flashLoading (s : State) : Bool := s.sys.st == .boot && s.gly.next != .nothing && decide (fget s F.GLY_STATUS_SRC < 2)

/-- The staged image (R47), of the length its header gives. -/
def staged (s : State) : List Byte := stagedBytes s (imgLen (spanOf (memDflt s) 0x40 0x1000000 s.mem))

/-- What follows a completed check (R43, R47): the signature, the refusal of an unsigned image, or the application. -/
def afterCheck (b : List Byte) (s : State) : State :=
  if imgSigned b then glyTo .signature 3 s
  else if s.rom.require then glyFail 11 s
  else glyTo .apply 4 s

/-- A slot's image, of the length that its header gives. -/
def slotImage (img : List Byte) : List Byte := flashTo (imgLen (flashTo 0x40 img)) img

/-- The header and the section table of a slot's image `img`: the fail code, 0 when they pass (R35 to R37, R46). -/
def slotCode (img : List Byte) (s : State) : Nat :=
  let c := headerCode s.rom.rev.toNat none (flashTo 0x40 img)
  if c ≠ 0 then c else tableCode (slotImage img)

/-- PHASE 1 of a flash load ends: the header and the section table of the slot have been read (R45, R46, R51). -/
def slotHead (img : List Byte) (s : State) : State :=
  if slotCode img s ≠ 0 then glyFail (slotCode img s) s else glyTo .staging 2 s

/-- PHASE 2 ends: the image stands in main SRAM (R47), and the CRCs of its bodies have been judged as its bytes came. -/
def slotStage (img : List Byte) (s : State) : State :=
  if slotCode img s ≠ 0 then glyFail (slotCode img s) s
  else
    let b := slotImage img
    let s := stageImage b s
    if bodiesBad b then glyFail 7 s else glyTo (if imgSigned b then .signature else .check) 3 s

/-- The check of the host's image has ended (R48): its header stands in main SRAM whatever HOST_LEN says; blocks found poisoned are
reported (R459). -/
def hostRead (s : State) : State :=
  let n := fget s F.GLY_HOST_LEN_LEN
  let b := stagedBytes s n
  let s := forL (stagedPoison s n) (fun k => poisonedRead 6 (16 * k)) s
  let c := headerCode s.rom.rev.toNat (some n) (stagedBytes s (max 0x40 n))
  if c ≠ 0 then glyFail c s
  else if imageCode b ≠ 0 then glyFail (imageCode b) s
  else afterCheck b s

/-- The end of PHASE 3 of an unsigned or a host's image. -/
def checkEnd (s : State) : State := if fget s F.GLY_STATUS_SRC < 2 then afterCheck (staged s) s else hostRead s

/-- What IMAGE_STAGED ends: PHASE 1, 2 or 3 of the load (R48). -/
def loadStep (img : List Byte) (s : State) : State :=
  match s.gly.next with
  | .image => slotHead img s
  | .staging => slotStage img s
  | .check => checkEnd s
  | _ => s

/-! ### Application (R40) -/

/-- The order of R40. -/
def secOrder : List Nat := [0x01, 0x02, 0x03, 0x04, 0x05, 0x20, 0x21, 0x11, 0x10, 0x12, 0x30, 0x31, 0x40]

/-- The bodies of type `ty` by instance. -/
def bodiesOf (b : List Byte) (ty : Nat) : List (Nat × List Byte) :=
  let es := (secTable b).filter (fun e => e.ty == ty && e.known)
  (List.range 256).flatMap (fun i => (es.filter (fun e => e.inst == i)).map (fun e => (i, secBody b e)))

/-- The REGS section that last sets the register at `a`, else SYSP. -/
def regsSource (rs : List (Nat × List Byte)) (a : Nat) : Nat × Nat :=
  rs.foldl (fun r x =>
    if (entries x.2 16 8 (min 65536 (u x.2 0 4))).any (fun e => u e.2 0 4 == a) then (0x20, x.1) else r) (0x05, 0)

/-- R39, R83, R101, R107: what a load starts from. -/
def loadClean (s : State) : State :=
  galDefaults { s with
    mms := [], trk := TrkS.init
    pins := { s.pins with balls := [], funcs := [], opts := [] }
    net := { s.net with lay := [], tmpl := [], ctx := [] }
    gly := { s.gly with plts := [] } }

/-- The sections of one type, in order of instance. A SIGN section of an image whose FLAGS.SIGNED is 0 has no outcome in R37: nothing
applies it, and the image is unsigned (DESIGN CHOICE, log entry 71). -/
def applyType (b : List Byte) (ty : Nat) (s : State) : State :=
  let xs := bodiesOf b ty
  let each := fun (f : Nat → List Byte → State → State) => forL xs (fun x => f x.1 x.2) s
  match ty with
  | 0x01 => each (fun _ => loadClkp)
  | 0x02 => each (fun _ => loadPwrp ((bodiesOf b 0x10).foldl (fun n x => n + 2 ^ x.1) 0))
  | 0x03 => each (fun _ => loadBall)
  | 0x04 => if xs.isEmpty then bindApply Binds.empty s else each (fun _ => loadBind)
  | 0x05 => each (fun _ => loadSysp)
  | 0x20 => relations (regsSource xs) (match bodiesOf b 0x05 with | x :: _ => u x.2 2 2 | [] => 0) (each loadRegs)
  | 0x21 => each loadTabl
  | 0x11 => each loadDmem
  | 0x10 => forN 5 (fun n s => if xs.any (fun x => x.1 == n) then s else noForm n s) (each loadForm)
  | 0x12 => mmRelations (xs.map (·.1)) (regsSource (bodiesOf b 0x20)) (each loadMode)
  | 0x30 => each loadImpo
  | 0x31 => each (fun _ => loadPtnt)
  | 0x40 => each (fun _ => loadSafe)
  | _ => s

/-- Step 14 of R40, with the check of R441 on the save area. -/
def crossChecks (b : List Byte) (s : State) : State :=
  let s := mapCheck (regsSource (bodiesOf b 0x20)) (layoutCheck (bodiesOf b 0x30) s)
  let cams := ((bodiesOf b 0x21).filter (fun x => u x.2 0 1 == 2)).map (fun x => min 15 (u x.2 1 1))
  dozeCheck (!(bodiesOf b 0x30).isEmpty) cams (fget s F.PWR_SAVE_INDEX) s

/-- R38: sections that are skipped. Where their entries stand in the report the spec does not say: after those of every other section
(DESIGN CHOICE, log entry 71). -/
def skipSections (b : List Byte) (s : State) : State :=
  forL ((secTable b).filter (fun e => !e.known)) (fun e => rep 0x30 e.ty e.inst e.ty 0 0 0) s

/-- The platens of domains that are on take the galley's memories at once; the others do so at their power-up (R39). -/
def fillPlatens (s : State) : State :=
  forN 5 (fun n s => if domainOn s (if n = 4 then 8 else 2 + n) then setPlt s n (glyPlt s n) else s) s

/-- R76: the colophon. -/
def colophon (b : List Byte) (s : State) : State :=
  let c := imgCheck b
  let s := galSet F.COL_CHECK_H_VAL (c / 2 ^ 32) 0 0 0 (galSet F.COL_CHECK_L_VAL c 0 0 0 s)
  let s := galSet F.COL_GALLEY_ID_ID (u b 0x10 4) 0 0 0 s
  let ok := (imgSigned b).toNat
  fset (fset (fset s F.COL_STATUS_LOADED 1) F.COL_STATUS_SIGNED ok) F.GLY_STATUS_SIGNED_OK ok

/-- The load of image `b` ends (R47, R58): every section applied, and the device LOADED. -/
def glyApply (b : List Byte) (s : State) : State :=
  let s := forL secOrder (applyType b) (loadClean s)
  let s := forN 32 mirrorAll (colophon b (fillPlatens (skipSections b (crossChecks b s))))
  let s := fset (glyTo .nothing 5 s) F.GLY_STATUS_WAIT_HOST 0
  let s := raise blkGLY 0x01 (fget s F.GLY_STATUS_SRC) (fget s F.GLY_REPORT_COUNT_COUNT) (fget s F.GLY_STATUS_REPORT_LOST) s
  let s := ownDrive (safLoaded (wdtRestart (canStart (flushLoad s))))
  startPolicy (setDev .loaded { s with sys := { s.sys with first := false, imp := 0 } })

/-! ### Rows of a load -/

/-- FLASH_TIMEOUT (R44). -/
def execFlashTimeout (t : Nat) (s : State) : Res :=
  let s := advance t s
  .next (if flashLoading s && s.gly.next == .image then glyFail 13 s else s)

/-- IMAGE_STAGED (R45 to R48): a phase of the load ends, PHASE 1, 2 or 3. `img` is the content of the slot in boot flash; the image of a
host load stands in main SRAM, where `errs` is what its reads find. -/
def execImageStaged (t : Nat) (img : List Byte) (errs : List MemErr) (s : State) : Res :=
  let s := noteErrs errs (advance t s)
  .next (if s.sys.st = .boot then loadStep img s else s)

/-- SIGNATURE_VERIFIED (R41 to R43). -/
def execSignatureVerified (t : Nat) (s : State) : Res :=
  let s := advance t s
  .next (if s.sys.st = .boot ∧ s.gly.next = .signature then
      (let c := signCode (SMap.get (fun _ => none) s.rom.keys) (staged s)
       if c = 0 then glyTo .apply 4 s else glyFail c s)
    else s)

/-- GALLEY_APPLY (R40). -/
def execGalleyApply (t : Nat) (s : State) : Res :=
  let s := advance t s
  .next (if s.sys.st = .boot ∧ s.gly.next = .apply then glyApply (staged s) s else s)

/-! ### GLY.CTL (R48, R49) -/

/-- HOST_LOAD: ignored and counted (R64) outside BOOT and while PHASE is 1 to 4. The report of the previous load ends here. -/
def hostLoad (ifc : Ifc) (s : State) : State :=
  let ph := fget s F.GLY_STATUS_PHASE
  if s.sys.st ≠ .boot ∨ (1 ≤ ph ∧ ph ≤ 4) then hostDrop ifc R.GLY_CTL.addr s
  else
    let s := { s with gly := { s.gly with report := [] } }
    let s := forL [F.GLY_STATUS_CLAMPED, F.GLY_STATUS_CONFLICT, F.GLY_STATUS_SAFETY_CLAMP, F.GLY_STATUS_SIGNED_OK,
      F.GLY_STATUS_REPORT_LOST, F.GLY_STATUS_WAIT_HOST, F.GLY_REPORT_COUNT_COUNT] (fun f s => fset s f 0) s
    glyTo .check 3 (fset s F.GLY_STATUS_SRC 2)

/-- SKIP_FLASH: a flash attempt in progress stops, and what it has staged is discarded; ignored and counted (R64) outside BOOT. -/
def skipFlash (ifc : Ifc) (s : State) : State :=
  if s.sys.st ≠ .boot then hostDrop ifc R.GLY_CTL.addr s
  else if flashLoading s then waitHost 0 (if s.gly.next = .image ∨ s.gly.next = .staging then s else unstage s) else s

/-- A write of GLY.CTL: SKIP_FLASH acts first. -/
def glyCtl (ifc : Ifc) (v : Word) (s : State) : State :=
  let s := if v.getLsbD 1 then skipFlash ifc s else s
  if v.getLsbD 0 then hostLoad ifc s else s

/-- HOST_LOAD (R48). -/
def execHostLoad (h : Via) (s : State) : Res := .next (hostGate h R.GLY_CTL.addr (some 1#32) (hostLoad h.ifc) s)

/-- SKIP_FLASH (R49). -/
def execSkipFlash (h : Via) (s : State) : Res := .next (hostGate h R.GLY_CTL.addr (some 2#32) (skipFlash h.ifc) s)

/-! ### The key store (R43) -/

/-- The hash in KEY_DATA. -/
def keyHash (s : State) : Nat := (List.range 8).foldl (fun n i => n + 2 ^ (32 * i) * fget s F.GLY_KEY_DATA_DATA i) 0

/-- A write of GLY.KEY_CTL: acted on with KEY 0xA5, in BOOT, while nothing is being programmed; PROG only into an unprogrammed
slot. A write that asks for something and is not acted on is counted (R64). -/
def keyCtl (ifc : Ifc) (v : Word) (s : State) : State :=
  let slot := bitsOf v 0 2
  let hash := if v.getLsbD 2 && (SMap.get (fun _ => none) s.rom.keys slot).isNone then some (slot, keyHash s) else none
  let req := v.getLsbD 3
  if bitsOf v 24 8 = 0xA5 ∧ s.sys.st = .boot ∧ s.gly.prog = none ∧ (hash.isSome || req) = true then
    { s with gly := { s.gly with prog := some (hash, req) } }
  else if v.getLsbD 2 || req then hostDrop ifc R.GLY_KEY_CTL.addr s
  else s

/-- Programming has ended: no programmed bit can be cleared. -/
def keyDone (s : State) : State :=
  match s.gly.prog with
  | some p =>
    let keys := match p.1 with
      | some k => SMap.put (fun _ => none) s.rom.keys k.1 (some k.2)
      | none => s.rom.keys
    { s with gly := { s.gly with prog := none }, rom := { s.rom with keys := keys, require := s.rom.require || p.2 } }
  | none => s

/-- The word that programs slot `n`. -/
def progWord (n : Nat) : Word := BitVec.ofNat 32 (0xA5000004 + n)

/-- KEY_PROG (R43). -/
def execKeyProg (h : Via) (slot : Fin 4) (s : State) : Res :=
  .next (hostGate h R.GLY_KEY_CTL.addr (some (progWord slot.val)) (keyCtl h.ifc (progWord slot.val)) s)

/-- SET_REQUIRE (R43). -/
def execSetRequire (h : Via) (s : State) : Res :=
  .next (hostGate h R.GLY_KEY_CTL.addr (some 0xA5000008#32) (keyCtl h.ifc 0xA5000008#32) s)

/-- KEY_PROG_DONE (R43). -/
def execKeyProgDone (t : Nat) (s : State) : Res := .next (keyDone (advance t s))

end Sys2Proof.Machine
end

