-- ==== Sys2Proof/Machine/Net.lean ====
section
/-! DEFINITION. Sys2Proof/Machine/Net.lean: frames of ETHA, ETHB and ETHC (R343 to R350, R356 to R360, R369, R370). -/

namespace Sys2Proof.Machine

/-! ### Folio frames received -/

/-- The source IP address of a frame, for UDP. -/
def Rx.ip (r : Rx) : Option Nat := r.udp.map (·.1)

/-- The enabled receive layouts that a folio frame from context source `mac`, `ip` on port `p` names by its FID. -/
def layNamed (s : State) (p mac : Nat) (ip : Option Nat) (fid : Nat) : List Nat :=
  (List.range 512).filter (fun i => (s.lay i).en && layRx s i && routeHas (layRoute s i) p && layFid s i == fid &&
    ctxAddr s (layCtx s i) mac ip && ctxType s (layCtx s i) != 0 && !(s.ctx (layCtx s i)).dead)

/-- A tag fails for layout `i` (R358). -/
def layAuthFail (i seq : Nat) (s : State) : State :=
  let c := layCtx s i
  let s := hwMark (layKey 0 i) F.IMP_LSTAT_AUTH_FAIL.mask (setLay i { s.lay i with authFail := true } s)
  let s := bump (raiseFlag s F.IMP_STATUS_AUTH_FAIL) F.PTN_CNT_AUTH_FAIL 1 c
  raise blkIMP 0x04 i c seq s

/-- A frame for layout `i` on port `p` (R358, R360). -/
def layFrame (p mac : Nat) (x : Folio) (i : Nat) (s : State) : State :=
  let c := layCtx s i
  let l := s.lay i
  if x.len ≠ layLen s i ∨ x.auth ≠ layAuth s i then layDiscard i s
  else if x.auth && !tagOk x mac (ctxKey s c x.keyId) then layDiscard i (layAuthFail i x.seq s)
  else if seqNew l.last x.seq then layAccept i (some p) (some x.seq) x.payload (ctxValid c s)
  else if layRoute s i = 2 ∧ l.last = some x.seq ∧ l.ports.testBit p = false then
    let s := layBump i { l with dup := satNat 16 (l.dup + 1), ports := putBit l.ports p true } s
    pathClear i (some p) (ctxValid c s)
  else layDiscard i s

/-- R350: context `c` has been allocated, so any SEQ is new for the receive layouts that name it. -/
def layAllocated (c : Nat) (s : State) : State :=
  forN 512 (fun i s => if layRx s i && layCtx s i == c then setLay i { s.lay i with last := none } s else s) s

/-- FOLIO_FRAME_RECEIVE (R344, R346, R358, R360, R365). -/
def execFolioFrameReceive (t : Nat) (p : Fin 2) (f : List Byte) (ok : Bool) (err : Option LocErr) (s : State) : Res :=
  let s := advance t s
  let s := match err with | some e => ctxErr e s | none => s
  let r := rxFolio p f ok s
  .next (match r.1 with
    | none => r.2
    | some rx =>
      let x := parseFolio rx.pay
      let s := r.2
      if x.ver ≠ 1 ∨ x.kind ≠ 1 ∨ x.whole rx.pay = false then s
      else
        let s := match ctxOf s 2 p rx.src rx.ip with
          | some _ => s
          | none =>
            let r := admitCtx 2 p rx.src rx.ip (fun k => tagOk x rx.src (k x.keyId)) s
            match r.1 with
            | some c => layAllocated c r.2
            | none => r.2
        forL (layNamed s p rx.src rx.ip x.fid) (layFrame p rx.src x) s)

/-! ### Proof and wake frames (R369, R370) -/

/-- The enabled proof session whose context the frame belongs to and whose SESSION is `fid`. -/
def psOfFrame (s : State) (p mac : Nat) (ip : Option Nat) (fid : Nat) : Option Nat :=
  (List.range 8).find? (fun n => flag s F.SAF_PSC_ID_EN n && fget s F.SAF_PSC_ID_SESSION n == fid &&
    ctxType s (fget s F.SAF_PSC_ID_CTX n) == 3 && ctxMatch s p mac ip (fget s F.SAF_PSC_ID_CTX n))

/-- PROOF_FRAME_RECEIVE (R369, R298, R299). -/
def execProofFrameReceive (t : Nat) (p : Fin 2) (f : List Byte) (ok : Bool) (s : State) : Res :=
  let r := rxFolio p f ok (advance t s)
  .next (match r.1 with
    | none => r.2
    | some rx =>
      let x := parseFolio rx.pay
      let s := r.2
      if x.ver ≠ 1 ∨ x.kind ≠ 2 ∨ x.whole rx.pay = false then s
      else
        match psOfFrame s p rx.src rx.ip x.fid with
        | none => s
        | some n =>
          let c := fget s F.SAF_PSC_ID_CTX n
          if flag s F.PTN_STATE_AUTH c && !tagOk x rx.src (ctxKey s c x.keyId) then bump s F.PTN_CNT_AUTH_FAIL 1 c
          else
            let s := ctxValid c s
            proofCopy n p x.payload s)

/-- WAKE_FRAME (R370). -/
def execWakeFrame (t : Nat) (p : Fin 2) (f : List Byte) (s : State) : Res :=
  let s := advance t s
  let rx := parseEth f
  let x := parseFolio rx.pay
  .next (if !inWake s || !flag s F.NET_CFG_EN p || !flag s F.NET_CFG_WAKE_EN p || !flag s F.NET_STATUS_LINK p then s
    else if !(vlanOk s p rx.vid && (rx.dst == portMac s p || rx.dst == macAll) && isFolio s p rx) then s
    else if x.ver ≠ 1 ∨ x.kind ≠ 3 ∨ x.whole rx.pay = false ∨ x.fid ≠ fget s F.NET_WAKE_WAKE_FID p then s
    else
      match ctxOf s 2 p rx.src rx.ip with
      | none => s
      | some c =>
        if !flag s F.PTN_STATE_PINNED c then s
        else if flag s F.NET_CFG_WAKE_AUTH p && !tagOk x rx.src (ctxKey s c x.keyId) then bump s F.PTN_CNT_AUTH_FAIL 1 c
        else wakeEvent 2 (ctxValid c s))

/-! ### Sending (R347 to R350) -/

/-- Queue a frame on port `p`; a port without a link sends nothing. -/
def txPut (p : Nat) (x : TxFrame) (s : State) : State :=
  if !portLive s p then s
  else if p = 0 then { s with net := { s.net with tx0 := s.net.tx0 ++ [x] } }
  else { s with net := { s.net with tx1 := s.net.tx1 ++ [x] } }

/-- Build a frame for port `p` from its header and payload, with a tag when `auth` (R349). -/
def txBuild (s : State) (p c : Nat) (auth proof : Bool) (kind cls fid seq capture : Nat) (pay : List Byte) : TxFrame :=
  let slot := fget s F.PTN_STATE_ACTIVE c
  let fl := if auth then 1 + 2 * slot else 0
  let head := [1#8] ++ leBytes 1 kind ++ leBytes 1 fl ++ leBytes 1 cls ++ leBytes 2 fid ++ leBytes 2 pay.length ++
    leBytes 4 seq ++ leBytes 4 capture
  let key := (ctxKey s c slot).getD 0#128
  { mac := ctxMac s c, ip := fget s F.PTN_IP_ADDR c, proof := proof, head := head, payload := pay
    tag := if auth then folioTag key (portMac s p) head pay proof else [] }

/-- The ones'-complement sum of 16-bit big-endian words. -/
def onesSum : List Byte → Nat
  | [] => 0
  | [a] => a.toNat * 256
  | a :: b :: r => a.toNat * 256 + b.toNat + onesSum r

/-- The Internet checksum of a list of bytes. -/
def inetSum (l : List Byte) : Nat :=
  let x := onesSum l
  let x := x % 65536 + x / 65536
  let x := x % 65536 + x / 65536
  65535 - x % 65536

/-- The UDP/IPv4 packet of R347, with the identification and service octets of log entry 20. -/
def udpPacket (s : State) (p ip id tos : Nat) (body : List Byte) : List Byte :=
  let sip := beBytes 4 (fget s F.NET_IP_IP p)
  let dip := beBytes 4 ip
  let port := beBytes 2 (fget s F.NET_ETYPE_UPORT p)
  let h0 := [0x45#8] ++ beBytes 1 tos ++ beBytes 2 (28 + body.length) ++ beBytes 2 id ++ [0x40#8, 0#8] ++
    beBytes 1 (fget s F.NET_NETCFG_TTL p) ++ [17#8]
  let hs := inetSum (h0 ++ [0#8, 0#8] ++ sip ++ dip)
  let len := beBytes 2 (8 + body.length)
  let us := inetSum (sip ++ dip ++ [0#8, 17#8] ++ len ++ port ++ port ++ len ++ body)
  h0 ++ beBytes 2 hs ++ sip ++ dip ++ port ++ port ++ len ++ beBytes 2 (if us = 0 then 0xFFFF else us) ++ body

/-- The Ethernet frame around a payload: addresses, tag (R343), EtherType, padding to 60 bytes (R347). -/
def ethFrame (s : State) (p dst et : Nat) (body : List Byte) : List Byte :=
  let tag := if flag s F.NET_CFG_VLAN_EN p then
      [0x81#8, 0x00#8] ++ beBytes 2 (fget s F.NET_NETCFG_PCP p * 8192 + fget s F.NET_NETCFG_VID p)
    else []
  let f := leBytes 6 dst ++ leBytes 6 (portMac s p) ++ tag ++ beBytes 2 et ++ body
  f ++ List.replicate (60 - f.length) 0#8

/-- A frame leaves the port, with its FCS (R345, R348). -/
def sendFrame (p : Nat) (bytes : List Byte) (s : State) : State :=
  bump { s with out := s.out ++ [Out.frame p (bytes ++ ethFcs bytes)] } F.NET_TX_OK_COUNT 1 p

/-- FRAME_DEPARTURE (R347, R348). -/
def execFrameDeparture (t : Nat) (p : Fin 2) (s : State) : Res :=
  let s := advance t s
  .next (if !portLive s p then s
    else
      match (if p = 0 then s.net.tx0 else s.net.tx1) with
      | [] => s
      | x :: r =>
        let s := { s with net := if p = 0 then { s.net with tx0 := r } else { s.net with tx1 := r } }
        let st := leBytes 8 (mdiOut s p t / nsU).toNat
        let head := x.head.take 12 ++ (if x.proof then leBytes 8 0 else st) ++ x.head.drop 12
        let pay := if x.proof then x.payload.take 0x14 ++ st ++ leBytes 4 (crc32c st) else x.payload
        let body := head ++ pay ++ x.tag
        if flag s F.NET_CFG_UDP p then
          let id := openVal 5 s
          let tos := openVal 6 id.2
          sendFrame p (ethFrame tos.2 p x.mac 0x0800 (udpPacket tos.2 p x.ip (id.1 % 65536) (tos.1 % 256) body)) tos.2
        else sendFrame p (ethFrame s p x.mac (fget s F.NET_ETYPE_ETYPE p) body) s)

/-- Send layout `i` with payload bytes `pay` and the capture stamp (R346, R350, R357). -/
def laySend (i capture : Nat) (pay : List Byte) (s : State) : State :=
  let x := s.lay i
  let seq := match x.last with | some q => (q + 1) % 2 ^ 32 | none => lns s / 1000 % 2 ^ 32
  let s := setLay i { x with last := some seq, seq := seq, t := stamp s, sentAt := lns s } s
  let r := layRoute s i
  forN 2 (fun p s =>
    if routeHas r p then
      txPut p (txBuild s p (layCtx s i) (layAuth s i) false 1 (layClass s i) (layFid s i) seq capture pay) s
    else s) s

/-- The work of transmit layout `i` under way ends (R356, R357, R383). -/
def layTransmit (i due capture : Nat) (s : State) : State :=
  let r := packFrom (layFirst s i) (layCount s i) 0 false s
  let s := r.2.2
  let onChange := decide (layClass s i = 3)
  let wd := layWd s i
  let refresh := decide (wd ≠ 0) && decide ((s.lay i).sentAt + wd * 10000000 ≤ lns s)
  if onChange && !r.2.1 && !refresh then s
  else
    let pay := leBytes (layLen s i) r.1
    let rt := layRoute s i
    let lasts := fun s => if onChange then forN (layCount s i) (fun e => epLast (layFirst s i + e)) s else s
    if 3 ≤ rt then
      if mbPending s (rt - 3) (layBox s i) then layOverrun i due s
      else lasts (setLay i { s.lay i with t := stamp s, sentAt := lns s } (mbLoad (rt - 3) (layBox s i) pay s))
    else lasts (laySend i capture pay s)

/-- LAYOUT_WORK_COMPLETE (R356, R357). -/
def execLayoutWorkComplete (t : Nat) (errs : List MemErr) (s : State) : Res :=
  let s := noteErrs errs (advance t s)
  .next (match s.net.work with
    | w :: _ =>
      if w.rx.isSome || s.sys.st == .doze then s
      else workDone w (if (s.lay w.lay).en then layTransmit w.lay w.due (s.net.began / 256 % 2 ^ 32) s else s)
    | [] => s)

/-- PROOF_PDU_SEND (R297, R369). -/
def execProofPduSend (t : Nat) (n : Fin 8) (s : State) : Res :=
  let s := advance t s
  let n := n.val
  .next (if !flag s F.SAF_PSC_ID_EN n then s
    else
      let c := fget s F.SAF_PSC_ID_CTX n
      let r := psPdu n s
      let pay := r.1 ++ List.replicate 12 0#8
      forN 2 (fun p s =>
        txPut p (txBuild s p c (flag s F.PTN_STATE_AUTH c) true 2 0 (fget s F.SAF_PSC_ID_SESSION n) (leAt pay 4 4) 0 pay) s) r.2)

/-- ARP_REQUEST (R344): a request from `src`, `sip` for `tip`; the answer follows RFC 826. -/
def execArpRequest (t : Nat) (p : Fin 2) (l : Link) (sip tip : Word) (s : State) : Res :=
  let s := advance t s
  .next (if !portLive s p then s
    else if vlanOk s p (l.vid.map BitVec.toNat) && (l.dst.toNat == portMac s p || l.dst.toNat == macAll) &&
        tip.toNat == fget s F.NET_IP_IP p then
      let s := bump s F.NET_RX_OK_COUNT 1 p
      let body := [0#8, 1#8, 8#8, 0#8, 6#8, 4#8, 0#8, 2#8] ++ leBytes 6 (portMac s p) ++ beBytes 4 tip.toNat ++
        leBytes 6 l.src.toNat ++ beBytes 4 sip.toNat
      sendFrame p (ethFrame s p l.src.toNat 0x0806 body) s
    else bump s F.NET_RX_DROP_COUNT 1 p)

/-- The link of port `p` takes speed `sp`, as SPEED_NOW numbers it, and low-power idle. -/
def linkSet (p sp : Nat) (eee : Bool) (s : State) : State :=
  let old := fget s F.NET_STATUS_SPEED_NOW p
  let s := fset (fset s F.NET_STATUS_SPEED_NOW sp p) F.NET_STATUS_EEE (eee && sp != 0).toNat p
  let s := fset s F.NET_STATUS_LINK (sp != 0).toNat p
  if old = sp then s
  else
    let s := raise blkNET 0x01 p sp 0 (raiseFlag s F.NET_STATUS_LINK_CHG p)
    let s := if sp = 0 then
        { s with net := if p = 0 then { s.net with tx0 := [] } else if p = 1 then { s.net with tx1 := [] } else s.net }
      else s
    if p < 2 then portRefresh p s else s

/-- LINK_CHANGE (R343, R370): a link comes up or goes down; in DOZE only that of a port with WAKE_EN, at 100 Mbit/s. -/
def execLinkChange (t : Nat) (p : Fin 3) (sp : BitVec 2) (eee : Bool) (s : State) : Res :=
  let s := advance t s
  let p := p.val
  .next (
    if inWake s then
      (if p < 2 && flag s F.NET_CFG_EN p && flag s F.NET_CFG_WAKE_EN p && decide (sp.toNat ≤ 1) then linkSet p sp.toNat eee s
       else s)
    else if domainOn s 9 && flag s F.NET_CFG_EN p then linkSet p sp.toNat eee s
    else s)

/-- R370: DOZE begins. A port with WAKE_EN goes to 100BASE-TX, its link down while it renegotiates; the PHY of another is off. -/
def netDoze (s : State) : State :=
  forN 2 (fun p s =>
    if flag s F.NET_CFG_EN p && !(flag s F.NET_CFG_WAKE_EN p && fget s F.NET_STATUS_SPEED_NOW p == 1) then linkSet p 0 false s
    else s) s

/-- R370: a port renegotiates to its SPEED after a wake, its link down until it is up again; at 100 Mbit/s it need not. -/
def netRelink (s : State) : State :=
  forN 2 (fun p s =>
    if flag s F.NET_CFG_EN p && !(fget s F.NET_CFG_SPEED p == 1 && fget s F.NET_STATUS_SPEED_NOW p == 1) then linkSet p 0 false s
    else s) s

/-! ### ETHC (R345) -/

/-- Byte address in main SRAM of descriptor `i` of a ring. -/
def ringDesc (s : State) (base log : Fld) (i : Nat) : Nat :=
  sramByte (4 * fget s base + 8 * (i % 2 ^ fget s log))

/-- The words of a descriptor: the buffer, and the flags with the length. -/
def descAddr (d : Nat) (s : State) : Nat × State := readMem 6 d 4 s
def descWord (d : Nat) (s : State) : Nat × State := readMem 6 (sramByte (d + 4)) 4 s

/-- Write the second word of a descriptor. -/
def setDescWord (d v : Nat) (s : State) : State := setMemNat s (sramByte (d + 4)) v 4

/-- ETHC looks at the transmit descriptor of the present position: it goes on where the X48 owns that. -/
def txLook (s : State) : State :=
  let w := descWord (ringDesc s F.NET_TXRING_BASE F.NET_TXRING_LOG2 s.net.txPos) s
  { w.2 with net := { w.2.net with txScan := w.1.testBit 31 } }

/-- A write of TX_KICK reaches NET: ETHC scans the ring. -/
def txKick (s : State) : State := if s.net.txScan then s else txLook s

/-- TX_KICK (R345), with what the read of the descriptor finds. -/
def execTxKick (h : ViaErrs) (s : State) : Res :=
  .next (hostGate h.via R.NET_RING_CTL.addr (some 1#32) (fun s => txKick (noteErrs h.errs s)) (if s.pwr.sysRet then holdErrs h.errs s else s))

/-- ETHC_FRAME_SENT (R345). -/
def execEthcFrameSent (t : Nat) (errs : List MemErr) (s : State) : Res :=
  let s := noteErrs errs (advance t s)
  .next (if s.net.txScan && portLive s 2 then
      let d := ringDesc s F.NET_TXRING_BASE F.NET_TXRING_LOG2 s.net.txPos
      let w := descWord d s
      let a := descAddr d w.2
      let b := readBytes 6 a.1 (w.1 % 2048) a.2
      let s := sendFrame 2 b.1 (setDescWord d (w.1 % 2 ^ 31) b.2)
      txLook { s with net := { s.net with txPos := (s.net.txPos + 1) % 2 ^ fget s F.NET_TXRING_LOG2 } }
    else s)

/-- A frame passes the MAC address filter of ETHC: its own address, broadcast or multicast. -/
def ethcFilter (s : State) (f : List Byte) : Bool :=
  leNat (slice f 0 6) == portMac s 2 || leNat (slice f 0 1) % 2 == 1

/-- ETHC_FRAME_RECEIVE (R345): the frame without FCS, and whether FCS and length are right. -/
def execEthcFrameReceive (t : Nat) (f : List Byte) (ok : Bool) (errs : List MemErr) (s : State) : Res :=
  let s := noteErrs errs (advance t s)
  .next (if !portLive s 2 then s
    else if !ethcFilter s f then bump s F.NET_RX_DROP_COUNT 1 2
    else
      let d := ringDesc s F.NET_RXRING_BASE F.NET_RXRING_LOG2 s.net.rxPos
      let r := descWord d s
      let w := r.1
      let s := r.2
      if !(flag s F.NET_RING_CTL_RX_EN && w.testBit 31) then bump s F.NET_RX_DROP_COUNT 1 2
      else
        let s := bump s (if ok then F.NET_RX_OK_COUNT else F.NET_RX_ERR_COUNT) 1 2
        let b := descAddr d s
        let a := sramByte b.1
        let s := b.2
        let n := 0x2000000 - a
        let s := writeMemBytes (writeMemBytes s a (f.take n)) 0x1000000 (f.drop n)
        let w := w / 2048 * 2048 % 2 ^ 30 + f.length % 2048 + (if ok then 0 else 2 ^ 30)
        let s := setDescWord d w s
        { s with net := { s.net with rxPos := (s.net.rxPos + 1) % 2 ^ fget s F.NET_RXRING_LOG2 } })

/-! ### DOZE (R350, R362) -/

/-- After wake each layout's SEQ starts again, watchdogs and silence timers run from their full length, and the links are
negotiated again. -/
def netWake (s : State) : State :=
  let s := netRelink s
  { s with net := { s.net with
      lay := s.net.lay.map (fun e => (e.1, { e.2 with last := none, ports := 0, sentAt := lns s }))
      ctx := s.net.ctx.map (fun e => (e.1, { e.2 with last := lns s })) } }

end Sys2Proof.Machine
end

