-- ==== Sys2Proof/Machine/RegRead.lean ====
section
/-! DEFINITION. Sys2Proof/Machine/RegRead.lean: what a register read returns (R3, R5, R9, R10): stored fields, and the fields
whose value stands in a typed part of the state. -/

namespace Sys2Proof.Machine

/-- The fields of the register at host address `a`. -/
def regFlds (a : Nat) : List Fld := (blockFlds a).filter (fun f => f.reg.hits a)

/-! ### Fields read out of the typed parts, block by block -/

/-- A field with the value that interface `ifc` reads in instance `i`, `j`. -/
abbrev View := Fld × (Ifc → State → Nat → Nat → Nat)

/-- A view that is the same from both interfaces. -/
def vw (f : Fld) (g : State → Nat → Nat → Nat) : View := (f, fun _ => g)

/-- COL and SYS (R31, R76, R101). REALIGN reads 1 from the step itself, before the first impression that is adjusted opens (DESIGN CHOICE,
log entry 72). -/
def viewsSys : List View :=
  [vw F.COL_REV_MINOR (fun s _ _ => s.rom.rev.toNat % 256), vw F.COL_REV_MAJOR (fun s _ _ => s.rom.rev.toNat / 256),
   vw F.COL_SIG_CONF_VAL (fun s _ _ => s.nv.sigConf.toNat),
   vw F.SYS_STATE_STATE (fun s _ _ => s.sys.st.code), vw F.SYS_STATE_PREV (fun s _ _ => s.sys.prev.code),
   vw F.SYS_IMP_COUNT_COUNT (fun s _ _ => impCount s),
   vw F.SYS_IMP_STATUS_REALIGN (fun s _ _ => (s.sys.adjusting || s.sys.open_ != 0).toNat),
   vw F.SYS_MM_STATE_STATE (fun s i _ => (s.mm i).st), vw F.SYS_MM_STATE_LAST_EV (fun s i _ => (s.mm i).lastEv),
   vw F.SYS_MM_STATE_STEPPED (fun s i _ => (s.mm i).stepped.toNat)]

/-- Word `w` of a list of report entries (R59); 0 beyond them. -/
def repWord (l : List Rep) (w : Nat) : Nat :=
  match l[w / 4]? with
  | some e => (match w % 4 with
    | 0 => e.w0 | 1 => e.w1 | 2 => e.w2 | _ => e.w3).toNat
  | none => 0

/-- QUO, EVT and GLY (R58, R70, R463). -/
def viewsQuo : List View :=
  [vw F.QUO_STATUS_OPEN (fun s _ _ => s.quo.owner.isSome.toNat), vw F.QUO_STATUS_PENDING (fun s _ _ => s.quo.pending.isSome.toNat),
   (F.QUO_STATUS_BUSY, fun ifc s _ _ => (s.quo.owner.any (· ≠ ifc)).toNat),
   vw F.QUO_STATUS_OWNER (fun s _ _ => match s.quo.owner with
     | some o => Ifc.num o
     | none => 0),
   vw F.QUO_STATUS_FULL (fun s _ _ => s.quo.full.toNat), vw F.QUO_REPORT_WORD (fun s i _ => repWord s.quo.report i),
   vw F.EVT_STATUS_COUNT (fun s _ _ => s.evt.log.length), vw F.EVT_STATUS_FULL (fun s _ _ => (s.evt.log.length == 1024).toNat),
   vw F.EVT_STATUS_OVERFLOW (fun s _ _ => s.evt.overflow.toNat), vw F.EVT_STATUS_STAGE (fun s _ _ => s.evt.stage.length),
   vw F.EVT_ENT_WORD (fun s i _ => (evtEnt s i).toNat),
   vw F.GLY_KEY_CTL_VALID (fun s _ _ => bitSet 4 (fun k => (SMap.get (fun _ => none) s.rom.keys k).isSome)),
   vw F.GLY_KEY_CTL_REQUIRE (fun s _ _ => s.rom.require.toNat), vw F.GLY_KEY_CTL_BUSY (fun s _ _ => s.gly.prog.isSome.toNat),
   vw F.GLY_REPORT_WORD (fun s i _ => repWord s.gly.report i)]

/-- MASK of platen `i`: all ones on PLTM (R115). -/
def pltMask (s : State) (i : Nat) : Nat := if i = 4 then 2 ^ 64 - 1 else (s.plt i).mask.toNat

/-- PLT (chapter 04). -/
def viewsPlt : List View :=
  [vw F.PLT_STATUS_ACT_BANK (fun s i _ => (s.plt i).actBank.toNat), vw F.PLT_STATUS_STG_BUSY (fun s i _ => (s.plt i).stgBusy.toNat),
   vw F.PLT_STATUS_SWAP_PENDING (fun s i _ => (s.plt i).swapPending.toNat),
   vw F.PLT_STATUS_FORME_OVER (fun s i _ => (s.plt i).foreOver.toNat), vw F.PLT_STATUS_JOB_BUSY (fun s i _ => (s.plt i).jobBusy.toNat),
   vw F.PLT_ACT_CFG_PHASES_M1 (fun s i _ => (s.plt i).act.phasesM1), vw F.PLT_STG_CFG_PHASES_M1 (fun s i _ => (s.plt i).stg.phasesM1),
   vw F.PLT_ACT_WORST_SLOTS (fun s i _ => (s.plt i).actWorst), vw F.PLT_STG_WORST_SLOTS (fun s i _ => (s.plt i).stgWorst),
   vw F.PLT_LIMIT_L (fun s _ _ => slotLimit s), vw F.PLT_PHASE_PHI (fun s i _ => (s.plt i).phi),
   vw F.PLT_MASK_LO_BITS (fun s i _ => pltMask s i), vw F.PLT_MASK_HI_BITS (fun s i _ => pltMask s i / 2 ^ 32),
   vw F.PLT_SCHED_LO_BITS (fun s i _ => (s.plt i).sched.toNat), vw F.PLT_SCHED_HI_BITS (fun s i _ => (s.plt i).sched.toNat / 2 ^ 32),
   vw F.PLT_BEXP_BE (fun s i _ => (s.plt i).be), vw F.PLT_BEXP_D (fun s i _ => (s.plt i).det)]

/-- Row 1 or 2 of R159 holds for an output of channel `c`. -/
def chHiz (s : State) (c : Nat) : Bool := !ownOk s || (List.range 6).any (fun o => !drvBall s c o)

/-- EDG (chapter 06). -/
def viewsEdg : List View :=
  [vw F.EDG_STATUS_OWN_OK (fun s _ _ => (ownOk s).toNat), vw F.EDG_STATUS_RUN_EN (fun s _ _ => (s.sys.st == .run).toNat),
   vw F.EDG_PER_P (fun s i _ => chP s i), vw F.EDG_PER_REM (fun s i _ => chR s i),
   vw F.EDG_CST_TRIPPED (fun s i _ => (chTripped s i).toNat), vw F.EDG_CST_MIDX (fun s i _ => (s.ch i).midx),
   vw F.EDG_CST_MPEND (fun s i _ => (s.ch i).mpend.isSome.toNat), vw F.EDG_CST_LEVEL (fun s i _ => bitSet 6 (fun o => driven s 0x01 (6 * i + o) ((s.ch i).drv.testBit o))),
   vw F.EDG_CST_HIZ (fun s i _ => (chHiz s i).toNat),
   vw F.EDG_TLATCH_GRP (fun s i _ => (grpLatched s i).toNat),
   vw F.EDG_TLATCH_STO (fun s i _ => (stoAsserted s (fget s F.EDG_TCFG_STOG i)).toNat),
   vw F.EDG_TLATCH_EXT (fun s i _ => (extLatched s i).toNat), vw F.EDG_ACT_VAL (fun s i j => (s.ch i).active.getD j 0)]

/-- The oldest entry of latch unit `u`, or zeros. -/
def latHead (s : State) (u : Nat) : LatEnt := (s.latU u).queue.headD ⟨0, 0, false, false, false, false, 0⟩

/-- FBK (R128, R189, R195). -/
def viewsFbk : List View :=
  [vw F.FBK_LAT_STATUS_LEVEL (fun s i _ => (s.latU i).queue.length), vw F.FBK_LAT_STATUS_PENDING (fun s i _ => (!(s.latU i).pend.isEmpty).toNat),
   vw F.FBK_LAT_ENT_STAMP_T (fun s i _ => (latHead s i).stamp), vw F.FBK_LAT_ENT_INFO_FRAC (fun s i _ => (latHead s i).frac),
   vw F.FBK_LAT_ENT_INFO_RISE (fun s i _ => (latHead s i).rise.toNat), vw F.FBK_LAT_ENT_INFO_OLD (fun s i _ => (latHead s i).old.toNat),
   vw F.FBK_LAT_ENT_INFO_SAT (fun s i _ => (latHead s i).sat.toNat), vw F.FBK_LAT_ENT_INFO_INTERP (fun s i _ => (latHead s i).interp.toNat),
   vw F.FBK_LAT_ENT_POS_L_VAL (fun s i _ => unsgn 32 (latHead s i).pos), vw F.FBK_LAT_ENT_POS_H_VAL (fun s i _ => unsgn 64 (latHead s i).pos / 2 ^ 32),
   vw F.FBK_PAGE_W (fun s i _ => unsgn 32 (pageGet s (0x100 + i)).toInt)]

/-- FIO and SAF (chapters 10 and 11): the low side of a pair in hold PWM reads a free value (log entry 10). -/
def viewsFio : List View :=
  [vw F.FIO_IN_LEVEL (fun s _ _ => bitSet 32 (fioIn s)), vw F.FIO_CH_CFG_SAFE (fun s i _ => (safeIn s i || safeOut s i).toNat),
   vw F.FIO_CH_DIAG_DRIVEN (fun s i _ => (driven s 0x0C i (fioDriven s i)).toNat),
   vw F.FIO_SBC_STATUS_RB_HS (fun s i _ => (driven s 0x0D (2 * i) (sbcOn s i)).toNat),
   vw F.FIO_SBC_STATUS_RB_LS (fun s i _ => if testActive s then (driven s 0x0D (2 * i + 1) false).toNat else if sbcOn s i && s.fio.sbcHold.testBit i && decide (fget s F.FIO_SBC_CFG_HOLD i < 100) then Config.openWord 3 s.free % 2 else (sbcOn s i).toNat),
   vw F.FIO_STO_RB (fun s _ _ => bitSet 8 (fun n => driven s 0x0E n (!fbit s F.SAF_BRAKE_STO_ASSERTED n))),
   vw F.SAF_SIG_CONF_VAL (fun s _ _ => s.nv.sigConf.toNat), vw F.SAF_AXST_BT_FAIL (fun s i _ => (s.nv.btFail.getLsbD i).toNat)]

/-- The grandmaster identity of a PTP instance, 0 without one. -/
def gmIdent (s : State) (p : Nat) : BitVec 64 :=
  match (s.port p).gm with
  | some g => g.ident
  | none => 0#64

/-- LNS as the last read of LNS_L over `ifc` captured it. -/
def capLns (ifc : Ifc) (s : State) : Nat :=
  match ifc with
  | .pcie => s.tim.capPcie
  | .qspi => s.tim.capQspi

/-- TIM (chapter 12). -/
def viewsTim : List View :=
  [vw F.TIM_STATUS_STATE (fun s _ _ => s.tim.st.code), vw F.TIM_STATUS_SEL (fun s _ _ => (s.tim.sel.map (·.val)).getD 0),
   vw F.TIM_STATUS_VALID (fun s _ _ => bitSet 2 (portValid s)), vw F.TIM_STATUS_XDIFF (fun s _ _ => s.tim.xdiff.toNat),
   vw F.TIM_STATUS_GM (fun s _ _ => (anyMaster s).toNat), vw F.TIM_LNS_L_VAL (fun s _ _ => lns s),
   vw F.TIM_LNS_H_VAL (fun s _ _ => lns s / 2 ^ 32), (F.TIM_PTP_S_L_VAL, fun ifc s _ _ => capLns ifc s / 1000000000),
   (F.TIM_PTP_S_H_VAL, fun ifc s _ _ => capLns ifc s / 1000000000 / 2 ^ 32), (F.TIM_PTP_NS_VAL, fun ifc s _ _ => capLns ifc s % 1000000000),
   vw F.TIM_INCR_VAL (fun s _ _ => s.tim.incr), vw F.TIM_P_STATE_PSTATE (fun s i _ => (s.port i).pstate),
   vw F.TIM_P_STATE_PVALID (fun s i _ => (portValid s i).toNat), vw F.TIM_P_STATE_AS_CAPABLE (fun s i _ => (s.port i).asCapable.toNat),
   vw F.TIM_P_STATE_STEPS (fun s i _ => match (s.port i).gm with
     | some g => g.steps.toNat
     | none => 0),
   vw F.TIM_P_OFS_VAL (fun s i _ => ofs32 (s.port i).ofs), vw F.TIM_P_MPD_VAL (fun s i _ => ofs32 ((s.port i).mpd.getD 0)),
   vw F.TIM_P_GM_ID_L_VAL (fun s i _ => identLo (gmIdent s i)), vw F.TIM_P_GM_ID_H_VAL (fun s i _ => identHi (gmIdent s i))]

/-- The layout that IMP.LSEL selects. -/
def layShown (s : State) : LayS := s.lay (fget s F.IMP_LSEL_LAYOUT)

/-- NET to PTN (chapters 13 and 14). -/
def viewsNet : List View :=
  [vw F.IMP_STATUS_LOST_ANY (fun s _ _ => (s.net.lay.any (fun e => e.2.lost)).toNat),
   vw F.IMP_LSTAT_EN (fun s _ _ => (layShown s).en.toNat), vw F.IMP_LSTAT_LOST (fun s _ _ => (layShown s).lost.toNat),
   vw F.IMP_LSTAT_PATH_A_LOST (fun s _ _ => (layShown s).pathA.toNat), vw F.IMP_LSTAT_PATH_B_LOST (fun s _ _ => (layShown s).pathB.toNat),
   vw F.IMP_LSTAT_OVERRUN (fun s _ _ => (layShown s).overrun.toNat), vw F.IMP_LSTAT_AUTH_FAIL (fun s _ _ => (layShown s).authFail.toNat),
   vw F.IMP_LSEQ_SEQ (fun s _ _ => (layShown s).seq), vw F.IMP_LCNT_DUP (fun s _ _ => (layShown s).dup),
   vw F.IMP_LCNT_DISCARDED (fun s _ _ => (layShown s).disc), vw F.IMP_LTIME_T (fun s _ _ => (layShown s).t),
   vw F.PTN_AGE_MS (fun s i _ => if ctxType s i = 0 then 0 else satNat 32 ((lns s - (s.ctx i).last) / 1000000))]

/-- PAR, PWR and TST (chapters 16 to 18). -/
def viewsPwr : List View :=
  [vw F.PAR_ESS_AGE_AGE (fun s _ _ => match newest s with
     | some e => satNat 32 ((lns s - e.sE) / 1000)
     | none => 0),
   vw F.PWR_CLK_STATUS_PLLS_LOCK (fun s _ _ => s.pwr.pllLock.toNat), vw F.PWR_CLK_STATUS_PLLN_LOCK (fun s _ _ => s.pwr.pllLock.toNat),
   vw F.PWR_CLK_STATUS_XIN_LOST (fun s _ _ => s.pwr.xinLost.toNat), vw F.PWR_CLK_STATUS_X32_LOST (fun s _ _ => s.pwr.x32Lost.toNat),
   vw F.PWR_CLK_STATUS_AON_SRC (fun s _ _ => s.pwr.x32Lost.toNat), vw F.PWR_PD_STATUS_ON (fun s _ _ => s.pwr.on.toNat),
   vw F.PWR_PD_STATUS_SYS_RET (fun s _ _ => s.pwr.sysRet.toNat),
   vw F.TST_MEM_SCRUB_POS_ADDR (fun s i _ => scrubAddr i (if i = 0 then s.tst.pos0 else s.tst.pos1)),
   vw F.TST_JTAG_BLOCKED (fun s _ _ => (safLive s).toNat), vw F.TST_JTAG_TEST_ACTIVE (fun s _ _ => (testActive s).toNat),
   vw F.TST_JTAG_IR (fun s _ _ => s.tst.ir.toNat)]

/-- The views of the block that holds host address `a`. -/
def blockViews (a : Nat) : List View :=
  if a < 0x2000 then viewsSys
  else if a < 0x8000 then viewsQuo
  else if a < 0x20000 then viewsPlt
  else if a < 0x50000 then viewsEdg
  else if a < 0x70000 then viewsFbk
  else if a < 0x90000 then viewsFio
  else if a < 0xA0000 then viewsTim
  else if a < 0xE0000 then viewsNet
  else viewsPwr

/-! ### Reading a register -/

/-- The value that interface `ifc` reads in field `f` of the register at host address `a` (R3, R5): a WO field reads 0. -/
def fieldVal (ifc : Ifc) (s : State) (a : Nat) (f : Fld) : Nat :=
  if f.acc = .wo then 0
  else if f.view then
    match (blockViews a).find? (fun v => v.1 = f), f.reg.idx? a with
    | some v, some ix => v.2 ifc s (ix.getD 0 0) (ix.getD 1 0)
    | _, _ => 0
  else bitsOf (rd s a) f.lsb f.width

/-- A bank's tables at offset `off` within them (R107): latch descriptors, publish descriptors, section map. -/
def bankTab (b : BankS) (off : Nat) : Nat :=
  let w : W64 := if off < 0x100 then SMap.get (fun _ => 0#64) b.latch (off / 8)
    else if off < 0x200 then SMap.get (fun _ => 0#64) b.pub ((off - 0x100) / 8)
    else SMap.get (fun _ => 0#64) b.sec ((off - 0x200) / 8)
  w.toNat / 2 ^ (8 * (off % 8)) % 2 ^ 32

/-- The parameter block of SAF, whose unlisted words are implemented reserved registers. -/
def inParam (a : Nat) : Bool := decide (0x80100 ≤ a) && decide (a < 0x80600)

/-- A register of the map stands at host address `a` (R8, R60). -/
def implemented (a : Nat) : Bool := inTab a || (pltTab a).isSome || inParam a || !(regFlds a).isEmpty

/-- A host shadow value of a channel that a platen is bound to: it takes no write and reads 0 (R153). -/
def shdShut (s : State) (a : Nat) : Bool :=
  match R.EDG_SHD.idx? a with
  | some ix => fget s F.SDM_CFG_PLATEN (ix.getD 0 0) != 7
  | none => false

/-- The word that interface `ifc` reads at host address `a`. -/
def readWord (ifc : Ifc) (s : State) (a : Nat) : Word :=
  if inTab a then tabWord s (fget s F.SYS_MM_SEL_M) ((a - tabBase) / 4)
  else match pltTab a with
    | some (n, true, off) => BitVec.ofNat 32 (bankTab (s.plt n).stg off)
    | some (n, false, off) => BitVec.ofNat 32 (bankTab (s.plt n).act off)
    | none => if shdShut s a then 0#32 else (regFlds a).foldl (fun w f => setBits w f.lsb f.width (fieldVal ifc s a f)) 0#32

/-- RC fields of the register at `a` clear after a read (R3); TJ_MAX starts again from the present TJ (R487). -/
def readClear (a : Nat) (s : State) : State :=
  let s := forL ((regFlds a).filter (fun f => f.acc == .rc && !f.view)) (fun f s => wr s a (rd s a &&& ~~~(f.mask &&& ~~~justSet s a))) s
  if a = R.IMP_LCNT.addr then
    (let i := fget s F.IMP_LSEL_LAYOUT
     let w := layCnt (s.lay i) &&& justSet s (layKey 1 i)
     setLay i { s.lay i with dup := bitsOf w 0 16, disc := bitsOf w 16 16 } s)
  else if a = R.PWR_THERM.addr then fset s F.PWR_THERM_TJ_MAX (satNat 8 (sgn 9 (fget s F.PWR_THERM_TJ)).toNat)
  else s

/-- The captured high words of an interface (R10). -/
def caps (ifc : Ifc) (s : State) : SMap (Option Word) :=
  match ifc with
  | .pcie => s.capPcie
  | .qspi => s.capQspi

/-- A captured high word has been returned. -/
def dropCap (ifc : Ifc) (a : Nat) (s : State) : State :=
  match ifc with
  | .pcie => { s with capPcie := SMap.put (fun _ => none) s.capPcie a none }
  | .qspi => { s with capQspi := SMap.put (fun _ => none) s.capQspi a none }

/-- What a read of a low word captures (R10, R463, R330): the high word, the entry that EVT.ENT shows, or LNS for PTP_S and
PTP_NS. -/
def capture10 (ifc : Ifc) (a : Nat) (s : State) : State :=
  let s := if pairLows.any (fun r => r.hits a) then setCap ifc (a + 4) (readWord ifc s (a + 4)) s else s
  if a = R.EVT_ENT.addr then (evtCapture ifc s).2
  else if a = R.TIM_LNS_L.addr then
    (match ifc with
     | .pcie => { s with tim := { s.tim with capPcie := lns s } }
     | .qspi => { s with tim := { s.tim with capQspi := lns s } })
  else s

/-- The registers with a field whose value the spec leaves open at times; a read draws it. -/
def opensAt (a : Nat) : Bool := R.FIO_SBC_STATUS.hits a || R.CAN_STATUS.hits a

/-- R385: a read finds how far a recovery under way has counted: no less than a read before it, and below 128; how far is a free value
(log entry 19). -/
def rcntRead (a : Nat) (s : State) : State :=
  match R.CAN_STATUS.idx? a with
  | some ix =>
    let k := ix.getD 0 0
    let n := fget s F.CAN_STATUS_RCNT k
    if canState s k = 3 then fset s F.CAN_STATUS_RCNT (n + Config.openWord 13 s.free % (128 - n)) k else s
  | none => s

/-- A 32-bit read of the register at `a`, which is reachable. -/
def readReg (ifc : Ifc) (a : Nat) (s : State) : Word × State :=
  match SMap.get (fun _ => none) (caps ifc s) a with
  | some w => (w, dropCap ifc a s)
  | none =>
    let s := rcntRead a s
    let w := readWord ifc s a
    let s := readClear a (capture10 ifc a s)
    (w, if opensAt a then drawn s else s)

/-- A read in register space (R8, R61, R64): unimplemented or misaligned it returns 0 and is counted. -/
def regRead (ifc : Ifc) (a : Nat) (s : State) : Word × State :=
  if a % 4 = 0 ∧ implemented a = true ∧ addrOn s a = true then readReg ifc a s else (0#32, hostDrop ifc a s)

end Sys2Proof.Machine
end

