-- ==== Sys2Proof/Machine/HostPort.lean ====
section
/-! DEFINITION. Sys2Proof/Machine/HostPort.lean: host accesses: register writes by access code (R3, R6 to R8, R499), platen
windows (R62, R63), main SRAM and DRAM (R61, R459, R460), PCI Express and QSPI (R65 to R69), and accesses held (R33, R63). -/

namespace Sys2Proof.Machine

/-! ### Safety fields (R499) -/

/-- A value of the safety field `f` that R499 accepts. -/
def sfFieldOk (f : Fld) (v : Word) : Bool := (f.rng.judge f.width (bitsOf v f.lsb f.width)).2 == .none

/-- Every bit of `v` outside the fields `fs` is 0. -/
def reservedZero (fs : List Fld) (v : Word) : Bool := v &&& ~~~(fs.foldl (fun m f => m ||| f.mask) 0#32) == 0#32

/-- The relation that the register at `a` takes part in holds. -/
def sfRelated (a : Nat) (s : State) : Bool :=
  if a = R.SAF_TDRY.addr ∨ a = R.SAF_TRESQ.addr then decide (fget s F.SAF_TRESQ_TRESQ < fget s F.SAF_TDRY_TDRY)
  else match R.SAF_PSC_TIMING.idx? a with
    | some ix => decide (fget s F.SAF_PSC_TIMING_WIN (ix.getD 0 0) < fget s F.SAF_PSC_TIMING_WD (ix.getD 0 0))
    | none => true

/-- A write of a safety-field register in COMMISSIONING (R499): taken as a whole or refused as a whole, and then counted (R64). -/
def sfWrite (ifc : Ifc) (a : Nat) (v : Word) (s : State) : State :=
  let fs := regFlds a
  if fs.all (sfFieldOk · v) && reservedZero fs v && sfRelated a (wr s a v) then
    (let s := busyUpdate { wr s a v with saf := { s.saf with sig := true } }
     if R.SAF_BTI.hits a then btUpdate s else s)
  else hostDrop ifc a (raiseFlag s F.SAF_STATE_SF_REFUSED)

/-! ### Writes that act -/

/-- Run `f` when bit `b` of `v` is 1. -/
def onBit (v : Word) (b : Nat) (f : State → State) (s : State) : State := if v.getLsbD b then f s else s

/-- A clear of SYS.IRQ_PEND (R67): a vector whose cause remains is set again; the causes of the vectors but 2 are free values
(log entry 7). -/
def irqClear (v : Word) (s : State) : State :=
  let c := irqPend s &&& v &&& ~~~justSet s R.SYS_IRQ_PEND.addr
  let s := wr s R.SYS_IRQ_PEND.addr (irqPend s &&& ~~~c)
  forN 29 (fun k s =>
    if !c.getLsbD k then s
    else if k = 2 then evtIrq s
    else
      let s' := drawn s
      if Config.causeRemains k s.free then setPend k s' else s') s

/-- A write of SYS.IRQ_SWSET (R66). -/
def irqSwset (v : Word) (s : State) : State := forL [29, 30, 31] (fun k s => onBit v k (setPend k) s) s

/-- A write of PTH.CTL: with more than one of bits [4:0] set it is ignored and counted (R64). -/
def pthCtl (ifc : Ifc) (g : Nat) (v : Word) (s : State) : State :=
  let one := (List.range 5).filter (fun b => v.getLsbD b)
  if 1 < one.length then hostDrop ifc (R.PTH_CTL.at g) s
  else
    let s := forL one (fun b => pthCmd g (b + 1)) s
    onBit v 6 (pthFlush ifc g) (onBit v 5 (pthPush ifc g) s)

/-- A write of SAF.CTL: ENTER_COMM acts with KEY 0xC3. -/
def safCtl (v : Word) (s : State) : State :=
  let s := if v.getLsbD 0 && bitsOf v 24 8 == 0xC3 then enterComm s else s
  onBit v 4 dryAck (onBit v 3 safStop (onBit v 2 safReset (onBit v 1 exitComm s)))

/-- A write of SAF.BT_CTL. -/
def btCtl (v : Word) (s : State) : State :=
  let a := bitsOf v 0 3
  onBit v 5 (btClrFail a) (onBit v 4 (btEnd 4) (onBit v 3 (btGo a) s))

/-- A write of TIM.CTL: with both bits set it is ignored and counted (R64). -/
def timCtl (ifc : Ifc) (v : Word) (s : State) : State :=
  match bitsOf v 0 2 with
  | 1 => timAccept ifc s
  | 2 => timSet ifc s
  | 3 => hostDrop ifc R.TIM_CTL.addr s
  | _ => s

/-- A write of LAT_CTL. -/
def latCtl (u : Nat) (v : Word) (s : State) : State :=
  onBit v 3 (latFlush u) (onBit v 2 (latPop u) (onBit v 1 (latDisarm u) (onBit v 0 (latArm u) s)))

/-- A write of the CTL register of CAN controller `k` (R376, R385): on the bus MODE and FD_EN take nothing, and a write that would change
them is counted (R64). -/
def canCtl (ifc : Ifc) (k : Nat) (v : Word) (s : State) : State :=
  let s := if canOpen s k then fset (fset s F.CAN_CTL_MODE (bitsOf v 1 2) k) F.CAN_CTL_FD_EN (bitsOf v 3 1) k
    else if bitsOf v 1 2 = fget s F.CAN_CTL_MODE k ∧ bitsOf v 3 1 = fget s F.CAN_CTL_FD_EN k then s
    else hostDrop ifc (R.CAN_CTL.at k) s
  let s := fset (fset s F.CAN_CTL_PXE_EN (bitsOf v 4 1) k) F.CAN_CTL_WAKE_EN (bitsOf v 5 1) k
  let s := if v.getLsbD 0 then canInitSet k s else canInitClear k s
  onBit v 6 (canRecover ifc k) s

/-- A write to the ID, FMT or DATA word at `a` of mailbox `b` (R379, R383, R64). -/
def mbWrite (ifc : Ifc) (k b a : Nat) (m v : Word) (s : State) : State :=
  if mbPending s k b then hostDrop ifc a (raiseFlag s F.CAN_STATUS_MBWR_IGN k)
  else if mbOwned s k b then hostDrop ifc a s
  else wr s a ((rd s a &&& ~~~m) ||| (v &&& m))

/-- Clears of the W1C bits of the selected layout (R358, R4). -/
def layClear (v : Word) (s : State) : State :=
  let i := fget s F.IMP_LSEL_LAYOUT
  let x := s.lay i
  let v := v &&& ~~~justSet s (layKey 0 i)
  setLay i { x with overrun := x.overrun && !v.getLsbD 4, authFail := x.authFail && !v.getLsbD 5 } s

/-- The instance of register `r` at host address `a`, with `f` applied to it. -/
def atReg (r : Reg) (a : Nat) (f : Nat → Nat → State → State) : Option (State → State) :=
  (r.idx? a).map (fun ix => f (ix.getD 0 0) (ix.getD 1 0))

/-- The mask of the fields of the register at `a` with access `c` that are stored. -/
def accMask (a : Nat) (c : Acc) : Word := ((regFlds a).filter (fun f => f.acc == c)).foldl (fun m f => m ||| f.mask) 0#32

/-- The registers that a write acts on in one of the ways of their own blocks, with what `v` does to them. -/
def writeActs (ifc : Ifc) (a : Nat) (v : Word) : List (Option (State → State)) :=
  [atReg R.SYS_CTL a (fun _ _ => sysCtl ifc v), atReg R.SYS_IRQ_PEND a (fun _ _ => irqClear v),
   atReg R.SYS_IRQ_SWSET a (fun _ _ => irqSwset v), atReg R.SYS_TRK_FAULT_L a (fun k _ => hallFaultClear k false v),
   atReg R.SYS_TRK_FAULT_H a (fun k _ => hallFaultClear k true v), atReg R.QUO_CTL a (fun _ _ => quoCtl ifc v),
   atReg R.EVT_CTL a (fun _ _ => evtCtl v), atReg R.GLY_CTL a (fun _ _ => glyCtl ifc v), atReg R.GLY_KEY_CTL a (fun _ _ => keyCtl ifc v),
   atReg R.MOV_CTL a (fun m _ => moverRequest m (bitsOf v 4 4)), atReg R.PRF_CMD a (fun m _ => prfCmd m (bitsOf v 0 4)),
   atReg R.ACD_CTL a (fun k _ s => onBit v 1 (acdCmd k 2) (onBit v 0 (acdCmd k 1) s)), atReg R.PTH_CTL a (fun g _ => pthCtl ifc g v),
   atReg R.SCH_CTL a (fun i _ => schCtl i v), atReg R.EDG_XLATCH a (fun _ _ => xlatchClear v),
   atReg R.EDG_TLATCH a (fun c _ => tlatchClear c v), atReg R.EDG_SHD_GO a (fun c _ => shdGo ifc c v),
   atReg R.FBK_ENC_CTL a (fun e _ => onBit v 1 (refZArm e)), atReg R.FBK_LAT_CTL a (fun u _ => latCtl u v),
   atReg R.FBK_CMP_CTL a (fun u _ s => onBit v 1 (cmpDisarm u) (onBit v 0 (cmpArm u) s)),
   atReg R.FIO_OUT a (fun _ _ => fioOutWrite v), atReg R.FIO_WDT a (fun _ _ => onBit v 17 wdtRestart), atReg R.FIO_STATUS a (fun _ _ => onBit v 0 wdtExpClear),
   atReg R.FIO_GRP_CTL a (fun g _ => onBit v 0 (uvAck g)),
   atReg R.FIO_CH_DIAG a (fun n _ s => let h := openVal 12 s; diagClear n v (h.1 % 2 == 1) h.2),
   atReg R.SAF_CTL a (fun _ _ => safCtl v), atReg R.SAF_CONFIRM a (fun _ _ => safConfirm v), atReg R.SAF_BT_CTL a (fun _ _ => btCtl v),
   atReg R.TIM_CTL a (fun _ _ => timCtl ifc v), atReg R.NET_RING_CTL a (fun _ _ => onBit v 0 txKick),
   atReg R.CAN_CTL a (fun k _ => canCtl ifc k v), atReg R.CAN_TXREQ a (fun k _ => mbMask mbRequest ifc a k v),
   atReg R.CAN_TXCANCEL a (fun k _ s =>
     let x := openVal 15 s; mbMask (fun k b => mbCancel k b (x.1 % 33 == b)) ifc a k v x.2),
   atReg R.CAN_RXQ_CTL a (fun k q s => onBit v 1 (queueFlush k q) (onBit v 0 (queuePop k q) s)),
   atReg R.CAN_MB_ID a (fun k b => mbWrite ifc k b a (accMask a .rw) v), atReg R.CAN_MB_FMT a (fun k b => mbWrite ifc k b a (accMask a .rw) v),
   atReg R.CAN_MB_DATA a (fun k b => mbWrite ifc k b a (accMask a .rw) v), atReg R.IMP_LSTAT a (fun _ _ => layClear v),
   atReg R.PTN_KCTL a (fun _ _ s => onBit v 1 keyActivate (onBit v 0 keyLoad s)),
   atReg R.ACQ_ARM_ALL a (fun _ _ => recMask recArm v), atReg R.ACQ_STOP_ALL a (fun _ _ => recMask recStop v),
   atReg R.ACQ_CTL a (fun r _ s => onBit v 2 (recForce r) (onBit v 1 (recStop r) (onBit v 0 (recArm r) s))),
   atReg R.ACQ_SLOT a (fun r _ => slotRelease ifc r (bitsOf v 8 8)),
   atReg R.ACQ_HIST_CTL a (fun i _ => onBit v 0 (accClear i)), atReg R.ACQ_MAP_CTL a (fun i _ => onBit v 0 (accClear (i + 4))),
   atReg R.PAR_CTL a (fun _ _ s => takebackLapse (onBit v 1 (parRelease ifc) s)), atReg R.PAR_RSC a (fun _ _ => onBit v 0 rescTrigger)]

/-- What a write of `v` to the register at `a` sets going. -/
def writeAct (ifc : Ifc) (a : Nat) (v : Word) : Option (State → State) := (writeActs ifc a v).findSome? id

/-- The registers whose RW and W1C bits are wholly in the hands of `writeAct`. -/
def actOnly (a : Nat) : Bool :=
  [R.SYS_IRQ_PEND, R.SYS_TRK_FAULT_L, R.SYS_TRK_FAULT_H, R.EDG_XLATCH, R.EDG_TLATCH, R.FIO_OUT, R.FIO_STATUS, R.FIO_CH_DIAG, R.CAN_CTL,
    R.CAN_TXREQ, R.CAN_MB_ID, R.CAN_MB_FMT, R.CAN_MB_DATA, R.IMP_LSTAT, R.ACQ_SLOT].any (fun r => r.hits a)

/-- Write-only words that hold what is written: the key words (R43, R368). -/
def keyWord (a : Nat) : Bool := R.GLY_KEY_DATA.hits a || R.PTN_KEY.hits a

/-- The position source whose STATUS register stands at `a` (R171). -/
def statusSrc (a : Nat) : Option Nat :=
  if R.FBK_HALL_STATUS.addr ≤ a ∧ (a - R.FBK_HALL_STATUS.addr) % 0x40 = 0 ∧ srcUsed ((a - R.FBK_HALL_STATUS.addr) / 0x40) then
    some ((a - R.FBK_HALL_STATUS.addr) / 0x40)
  else none

/-! ### Writes that are ignored -/

/-- A register of a CAN controller that accepts writes only off the bus (R376). -/
def canShut (s : State) (a : Nat) : Bool :=
  [R.CAN_NBT, R.CAN_DBT, R.CAN_FLT_CFG, R.CAN_FLT_MATCH, R.CAN_FLT_MASK].any (fun r =>
    match r.idx? a with
    | some ix => !canOpen s (ix.getD 0 0)
    | none => false)

/-- The fields whose table says that a write outside their range is ignored. -/
def rangedFlds : List Fld :=
  [F.QUO_TIMEOUT_MS, F.SCH_CFG_GRACE, F.TIM_STEP_LIMIT_LIMIT, F.TIM_STEP_MIN_MIN, F.TIM_SLEW_SLEW_MAX, F.TIM_SLEW_WAKE_PPM,
   F.TIM_XCHK_XCHK, F.NET_TXRING_LOG2, F.NET_RXRING_LOG2]

/-- A write of `v` is ignored in a field of the register at `a` whose range it misses. -/
def outRange (a : Nat) (v : Word) : Bool :=
  (regFlds a).any (fun f => decide (f ∈ rangedFlds) && (f.rng.judge f.width (bitsOf v f.lsb f.width)).2 != .none)

/-- What a write of `v` leaves in a stored field. -/
def storedVal (f : Fld) (a : Nat) (v : Word) (s : State) : Nat :=
  let n := bitsOf v f.lsb f.width
  if f ∈ rangedFlds ∧ (f.rng.judge f.width n).2 ≠ .none then bitsOf (rd s a) f.lsb f.width else n

/-! ### A register write (R3) -/

/-- RW fields take the value written, and W1C bits written 1 are cleared; until a load has ended the fields of reset "galley" stay 0
(R39). -/
def storeWord (a : Nat) (v : Word) (s : State) : State :=
  let fs := (regFlds a).filter (fun f => !f.view && !(f.isGalley && s.sys.st == .boot))
  let s := forL (fs.filter (fun f => f.acc == .rw || (f.acc == .wo && keyWord a))) (fun f s =>
    wr s a (setBits (rd s a) f.lsb f.width (storedVal f a v s))) s
  wr s a (rd s a &&& ~~~(v &&& accMask a .w1c &&& ~~~justSet s a))

/-- What follows a store: a cleared LOST (R182), a recorder's configuration (R391), a PTP port's EN (R331), the cause of vector 2
(R67, R469). -/
def afterStore (a : Nat) (v : Word) (s : State) : State :=
  let s := match statusSrc a with
    | some i => onBit v 4 (lostClear i) s
    | none => s
  let s := match R.TIM_P_CFG.idx? a with
    | some ix => portRefresh (ix.getD 0 0) s
    | none => s
  let s := if a = R.EVT_CFG.addr then evtIrq s else s
  if 0xE0100 ≤ a ∧ a < 0xE0900 ∧ (a - 0xE0100) % 0x80 ≤ 0x40 then recCfgWrite ((a - 0xE0100) / 0x80) s else s

/-- The access codes through which a write can act. -/
def writable (a : Nat) : Bool :=
  (regFlds a).any (fun f => f.acc == .rw || f.acc == .wo || f.acc == .w1c || f.acc == .w1s || f.acc == .qs)

/-- A write to the register at host address `a`, which is reachable (R3, R6 to R8). -/
def writeReg (ifc : Ifc) (a : Nat) (v : Word) (s : State) : State :=
  if inTab a then qsWrite ifc a v s
  else match stgPlace a with
    | some p => stgWrite ifc p.1 a p.2 v s
    | none =>
      if (regFlds a).any (fun f => f.acc == .sf) then
        (if fget s F.SAF_STATE_STATE = 1 then sfWrite ifc a v s else hostDrop ifc a s)
      else if inParam a && (regFlds a).isEmpty then s
      else if !writable a || canShut s a || shdShut s a then hostDrop ifc a s
      else
        let s := if outRange a v then hostDrop ifc a s else s
        let s := if actOnly a then s else afterStore a v (storeWord a v s)
        let s := if (regFlds a).any (fun f => f.acc == .qs) then qsWrite ifc a v s else s
        match writeAct ifc a v with
        | some f => f s
        | none => s

/-- A write in register space (R8, R61, R64). -/
def regWrite (ifc : Ifc) (a : Nat) (v : Word) (s : State) : State :=
  if a % 4 = 0 ∧ implemented a = true ∧ addrOn s a = true then writeReg ifc a v s else hostDrop ifc a s

/-! ### Platen windows (R62, R63) -/

/-- Host address `a` lies in the window of a platen. -/
def inWindowSpace (a : Nat) : Bool := decide (0x800000 ≤ a) && decide (a < 0xD00000)

/-- The platen of a window address. -/
def winPlt (a : Nat) : Nat := (a - 0x800000) / 0x100000

/-- The word at offset `off` of the window of platen `n`, where one stands (R62). -/
def winRead (s : State) (n off : Nat) : Option Word :=
  let data := fun (w : W24) => BitVec.ofInt 32 w.toInt
  if off < 0x10000 then some (data ((s.plt n).word false (off / 4)))
  else if off < 0x20000 then some (data ((s.plt n).word true ((off - 0x10000) / 4)))
  else if off < 0x28000 then some (data ((s.plt n).cword ((off - 0x20000) / 4)))
  else if 0x40000 ≤ off ∧ off < 0x60000 then
    (let b := if off < 0x50000 then (s.plt n).act else (s.plt n).stg
     let w := b.sort (off % 0x10000 / 8)
     some (if off % 8 = 0 then w.extractLsb' 0 32 else w.extractLsb' 32 32))
  else none

/-- A write of `v` there: X, Y and C words take bits [23:0], the active bank is read-only. -/
def winWrite (ifc : Ifc) (n a off : Nat) (v : Word) (s : State) : State :=
  let w := v.setWidth 24
  if off < 0x10000 then modPlt s n (fun p => p.setWord false (off / 4) w)
  else if off < 0x20000 then modPlt s n (fun p => p.setWord true ((off - 0x10000) / 4) w)
  else if off < 0x28000 then modPlt s n (fun p => { p with c := SMap.put (fun _ => 0#24) p.c ((off - 0x20000) / 4) w })
  else if 0x50000 ≤ off ∧ off < 0x60000 then stgWrite ifc n a off v s
  else hostDrop ifc a s

/-- An access to X, Y or C memory of a running platen waits for the gap (R63). -/
def winHeld (s : State) (a : Nat) : Bool :=
  inWindowSpace a && decide (a % 0x100000 < 0x28000) && (s.plt (winPlt a)).running

/-! ### Main SRAM and DRAM (R61, R459, R460) -/

/-- A byte of main SRAM or DRAM stands at host address `a`, in a domain that is on. -/
def memOn (s : State) (a : Nat) : Bool :=
  (decide (0x1000000 ≤ a ∧ a < 0x2000000) && domainOn s 1) || (decide (0x10000000 ≤ a ∧ a < 0x20000000) && domainOn s 8)

/-- R48: the staging area takes no host writes during a load. -/
def stagingLocked (s : State) (a : Nat) : Bool :=
  decide (0x1000000 ≤ a ∧ a < 0x1800000) && decide (1 ≤ fget s F.GLY_STATUS_PHASE ∧ fget s F.GLY_STATUS_PHASE ≤ 4)

/-- Store the enabled bytes from `a` on. -/
def storeBytes (a : Nat) : List (Option Byte) → State → State
  | [], s => s
  | b :: r, s => storeBytes (a + 1) r (match b with
    | some x => setMemByte s a x
    | none => s)

/-- The bytes of a write from `a` on that memory takes. -/
def takenBytes (s : State) (a : Nat) (bs : List (Option Byte)) : List (Option Byte) :=
  bs.mapIdx (fun k b => if memOn s (a + k) && !stagingLocked s (a + k) then b else none)

/-- The blocks of which a write takes all 16 bytes (R460). -/
def fullBlocks (a : Nat) (bs : List (Option Byte)) : List Nat :=
  ((List.range ((a + bs.length) / 16 - (a + 15) / 16)).map (fun k => 16 * ((a + 15) / 16 + k))).filter
    (fun b => ((bs.drop (b - a)).take 16).all (·.isSome))

/-- A host write of bytes with their enables: a block that it writes whole stops being poisoned (R460). A byte that nothing takes is
ignored, and the write is counted (R64). -/
def memWrite (ifc : Ifc) (a : Nat) (bs : List (Option Byte)) (s : State) : State :=
  let kept := takenBytes s a bs
  let s' := forL (fullBlocks a kept) (fun b s => setPoison s b false) (storeBytes a kept s)
  if (kept.zip bs).any (fun p => p.1.isNone && p.2.isSome) then hostDrop ifc a s' else s'

/-- A host read of `n` bytes: those of a poisoned block are 0 (R459), and so are those that nothing holds (R64). -/
def memRead (ifc : Ifc) (a n : Nat) (s : State) : List Byte × State :=
  let bs := (List.range n).map (fun k => if memOn s (a + k) && !poisoned s (a + k) then memByte s (a + k) else 0#8)
  let blocks := (List.range ((a + n + 15) / 16 - a / 16)).map (fun k => 16 * (a / 16 + k))
  let hit := blocks.filter (fun b => poisoned s b && memOn s b)
  let s' := forL hit (poisonedRead 1) s
  (bs, if (List.range n).all (fun k => memOn s (a + k)) then s' else hostDrop ifc a s')

/-! ### Requests -/

/-- The word of four enabled bytes. -/
def wordOf : List (Option Byte) → Option Word
  | [some a, some b, some c, some d] => some (d ++ c ++ b ++ a)
  | _ => none

/-- One 32-bit access to register space or a platen window: a write. -/
def wordWrite (ifc : Ifc) (a : Nat) (v : Word) (s : State) : State :=
  if inWindowSpace a then
    (if a % 4 = 0 ∧ addrOn s a = true then winWrite ifc (winPlt a) a (a % 0x100000) v s else hostDrop ifc a s)
  else regWrite ifc a v s

/-- One 32-bit access to register space or a platen window: a read, with the errors it finds there. A single-bit error is corrected and
counted; what a host read of an uncorrectable word returns R113 does not say: a free value (log entry 71). -/
def wordRead (ifc : Ifc) (errs : List PltErr) (a : Nat) (s : State) : Word × State :=
  if inWindowSpace a then
    let n := winPlt a
    let off := if a % 0x100000 < 0x40000 then a % 0x100000 else a % 0x100000 / 8 * 8
    match (if a % 4 = 0 ∧ addrOn s a = true then winRead s n (a % 0x100000) else none) with
    | some w =>
      match eccOf errs n off with
      | .multi => let v := openVal 14 s; (BitVec.ofNat 32 v.1, v.2)
      | _ => (w, pltEcc errs n off s)
    | none => (0#32, hostDrop ifc a s)
  else regRead ifc a s

/-- Register space takes an aligned 32-bit access, or a 64-bit one to a register pair as two (R61). -/
def regShape (a n : Nat) : Bool := n == 4 || (n == 8 && pairLows.any (fun r => r.hits a))

/-- An access of `n` bytes to a platen window is a run of aligned 32-bit slots; one that is misaligned, or enables part of a slot's bytes,
is ignored and counted (DESIGN CHOICE, log entry 24). -/
def winShape (a n : Nat) : Bool := a % 4 == 0 && n % 4 == 0

/-- The addresses of the 32-bit accesses that a request of `n` bytes makes; none when nothing takes its shape. -/
def accesses (a n : Nat) : List Nat :=
  if (if inWindowSpace a then winShape a n else regShape a n) then (List.range (n / 4)).map (fun k => a + 4 * k) else []

/-- Whether host address `a` lies in main SRAM or DRAM space. -/
def inMem (a : Nat) : Bool := decide (0x1000000 ≤ a ∧ a < 0x2000000) || decide (0x10000000 ≤ a ∧ a < 0x20000000)

/-- One 32-bit access that may have to wait for the gap (R63). -/
def winWait (ifc : Ifc) (a : Nat) (w : Option Word) (s : State) : State :=
  modPlt s (winPlt a) (fun p => { p with held := p.held ++ [⟨ifc, a, 4, w.map (fun v => (wordBytes v).map some)⟩] })

/-- A write of 32 bits, or its wait. -/
def wordWriteHeld (ifc : Ifc) (a : Nat) (v : Word) (s : State) : State :=
  if winHeld s a && a % 4 == 0 then winWait ifc a (some v) s else wordWrite ifc a v s

/-- A host write request that reaches the device (R8, R61, R65). -/
def writeRequest (ifc : Ifc) (a : Nat) (bs : List (Option Byte)) (s : State) : State :=
  if inMem a then memWrite ifc a bs s
  else
    let l := accesses a bs.length
    if l.isEmpty then hostDrop ifc a s
    else forL l (fun x s => match wordOf ((bs.drop (x - a)).take 4) with
      | some v => wordWriteHeld ifc x v s
      | none => hostDrop ifc x s) s

/-- Bytes that a run of 32-bit reads finds. -/
def readRun (ifc : Ifc) (errs : List PltErr) : List Nat → State → List Byte × State
  | [], s => ([], s)
  | x :: r, s =>
    let w := wordRead ifc errs x s
    let rest := readRun ifc errs r w.2
    (wordBytes w.1 ++ rest.1, rest.2)

/-- A host read request that reaches the device: its completion has the bytes, zeros where an access rule is broken (R8, R65);
a read of a running platen's memory waits (R63). -/
def readRequest (ifc : Ifc) (errs : List PltErr) (a n : Nat) (s : State) : State :=
  if inMem a then (let r := memRead ifc a n s; sendRd ifc a r.1 r.2)
  else if winHeld s a && winShape a n then
    modPlt s (winPlt a) (fun p => { p with held := p.held ++ [⟨ifc, a, n, none⟩] })
  else
    let l := accesses a n
    if l.isEmpty then sendRd ifc a (List.replicate n 0#8) (hostDrop ifc a s)
    else (let r := readRun ifc errs l s; sendRd ifc a r.1 r.2)

/-- A host request, now, with the platen errors that a read finds. -/
def request (errs : List PltErr) (x : Held) (s : State) : State :=
  match x.w with
  | some bs => writeRequest x.ifc x.addr bs s
  | none => readRequest x.ifc errs x.addr x.n s

/-- A host request that reaches the device at `t` (R8, R33, R75): in OFF there is nobody to take it; in DOZE it wakes the device,
and while PD_SYS is in retention it is held. -/
def portGate (t : Nat) (errs : List PltErr) (x : Held) (s : State) : State :=
  let s := advance t s
  let s := hostSeen (if x.w.isSome then ownerWrite x.ifc s else s)
  if s.sys.st = .off then s
  else if s.pwr.sysRet then wakeEvent 16 { s with pwr := { s.pwr with held := s.pwr.held ++ [x] } }
  else request errs x (wakeEvent 16 s)

/-- A 32-bit access of the interface and instant `h`, with the platen errors that a read finds. -/
def port32 (h : Via) (errs : List PltErr) (a : Nat) (w : Option Word) (s : State) : State :=
  portGate h.t errs ⟨h.ifc, a, 4, w.map (fun v => (wordBytes v).map some)⟩ s

/-- Errors that a read finds, among the blocks it reads (R458, R459); of an access held in DOZE they wait with it (R33). -/
def readErrs (a n : Nat) (errs : List MemErr) (s : State) : State :=
  let l := errs.filter (fun e => decide (a < e.blk + 16 ∧ e.blk < a + n))
  holdErrs (if s.pwr.sysRet then l else l.filter (fun e => memOn s e.blk)) s

/-- Errors that the reads of the blocks find of which a write takes some bytes and not all (R460). -/
def writeErrs (a : Nat) (bs : List (Option Byte)) (errs : List MemErr) (s : State) : State :=
  let kept := takenBytes s a bs
  let hit := fun (b : Nat) => (List.range bs.length).any (fun k => decide ((a + k) / 16 = b / 16) && (kept.getD k none).isSome)
  readErrs a bs.length (errs.filter (fun e => hit e.blk && !(fullBlocks a kept).contains e.blk)) s

/-- The errors of a run of reads that fall into platen windows (R113). -/
def windowErrs (errs : List MemErr) : List PltErr :=
  (errs.filter (fun e => inWindowSpace e.blk)).map (fun e => ⟨winPlt e.blk, e.blk % 0x100000, e.ecc⟩)

/-! ### The commands -/

/-- REGISTER_WRITE (R3, R8). -/
def execRegisterWrite (h : Via) (a v : Word) (s : State) : Res := .next (port32 h [] a.toNat (some v) s)

/-- READ_CLEAR (R3): a read returns the value and clears the RC fields. -/
def execReadClear (h : Via) (a : Word) (s : State) : Res := .next (port32 h [] a.toNat none s)

/-- PAIR_LOW_READ (R10): a read of a low word captures the high word. -/
def execPairLowRead (h : Via) (a : Word) (s : State) : Res := .next (portGate h.t [] ⟨h.ifc, a.toNat, 4, none⟩ s)

/-- SF_WRITE (R7, R499). -/
def execSfWrite (h : Via) (a v : Word) (s : State) : Res :=
  .next (portGate h.t [] ⟨h.ifc, a.toNat, 4, some ((wordBytes v).map some)⟩ s)

/-- PCIE_WRITE_REQUEST (R61, R65). -/
def execPcieWriteRequest (t : Nat) (a : Word) (bytes : List (Option Byte)) (errs : List MemErr) (s : State) : Res :=
  .next (portGate t [] ⟨.pcie, a.toNat, bytes.length, some bytes⟩ (writeErrs a.toNat bytes errs (advance t s)))

/-- PCIE_READ_REQUEST (R61, R65). -/
def execPcieReadRequest (t : Nat) (a : Word) (n : Nat) (errs : List MemErr) (perrs : List PltErr) (s : State) : Res :=
  .next (portGate t perrs ⟨.pcie, a.toNat, n, none⟩ (readErrs a.toNat n errs (advance t s)))

/-- The words of a QSPI write at rising addresses, each an access of its own (R68). -/
def qspiWords (t : Nat) : Nat → List Word → State → State
  | a, [], s => { s with qspi := some (some a) }
  | a, w :: r, s => qspiWords t (a + 4) r (port32 ⟨.qspi, t⟩ [] a (some w) s)

/-- The word reads of a QSPI read, with the platen errors they find. -/
def qspiReads (t : Nat) (errs : List PltErr) : Nat → Nat → State → State
  | a, 0, s => { s with qspi := some (some a) }
  | a, n + 1, s => qspiReads t errs (a + 4) n (port32 ⟨.qspi, t⟩ errs a none s)

/-- A QSPI transfer with command byte `cmd` (R68): 0x02 writes, 0x0B reads, any other is ignored until HSPI_CSN rises. -/
def qspiCmd (t : Nat) (cmd : Byte) (wr rd : State → State) (s : State) : State :=
  let s := advance t s
  if s.qspi = some none then s
  else if cmd = 0x02#8 then wr s
  else if cmd = 0x0B#8 then rd s
  else { s with qspi := some none }

/-- A read of `n` words, with the errors it finds: a block of main SRAM or DRAM, or the word of a platen window, stands at `blk`
(R458, R113). -/
def qspiRead (t a n : Nat) (errs : List MemErr) (s : State) : State := qspiReads t (windowErrs errs) a n (readErrs a (4 * n) errs s)

/-- QSPI_WRITE (R68): a command byte, 0x02 for a write, with the words whose 8 clocks have passed; the transfer stays open. -/
def execQspiWrite (t : Nat) (cmd : Byte) (a : Word) (words : List Word) (errs : List MemErr) (s : State) : Res :=
  .next (qspiCmd t cmd (fun s => qspiWords t a.toNat words (readErrs a.toNat (4 * words.length) errs s)) (qspiRead t a.toNat words.length []) s)

/-- QSPI_READ (R68): a command byte, 0x0B for a read, and the clocks of `n` words; under 0x02 the lines carry no data of the host's
and the words written are free values. -/
def execQspiRead (t : Nat) (cmd : Byte) (a : Word) (n : Nat) (errs : List MemErr) (s : State) : Res :=
  .next (qspiCmd t cmd
    (fun s => qspiWords t a.toNat ((List.range n).map (fun k => BitVec.ofNat 32 (Config.openWord (40 + k) s.free))) (drawn s))
    (qspiRead t a.toNat n errs) s)

/-- QSPI_TRANSFER_END (R69): the transfer ends; a word of which fewer than 8 clocks have passed is discarded. -/
def execQspiTransferEnd (t : Nat) (_clocks : Nat) (s : State) : Res := .next { advance t s with qspi := none }

/-- IRQ_SWSET (R66). -/
def execIrqSwset (h : Via) (v : Word) (s : State) : Res := .next (hostGate h R.SYS_IRQ_SWSET.addr (some v) (irqSwset v) s)

/-- HOST_ACCESS_WAKE (R33): an access that arrives in DOZE; outside DOZE it is an access like any other. -/
def execHostAccessWake (h : Via) (a : Word) (w : Option Word) (s : State) : Res := .next (port32 h [] a.toNat w s)

/-- PLATEN_MEMORY_ACCESS (R62, R63, R113). -/
def execPlatenMemoryAccess (h : Via) (a : Word) (w : Option Word) (errs : List PltErr) (s : State) : Res :=
  .next (portGate h.t errs ⟨h.ifc, a.toNat, 4, w.map (fun v => (wordBytes v).map some)⟩ s)

/-- HELD_ACCESS_COMPLETE (R63): the oldest access held for platen `p` completes in the gap. -/
def execHeldAccessComplete (t : Nat) (p : Fin 5) (errs : List PltErr) (s : State) : Res :=
  let s := advance t s
  let x := s.plt p.val
  .next (
    match x.held with
    | [] => s
    | y :: r => if x.running then s else request errs y (setPlt s p.val { x with held := r }))

end Sys2Proof.Machine
end

