-- ==== Sys2Proof/Machine/Jtag.lean ====
section
/-! DEFINITION. Sys2Proof/Machine/Jtag.lean: the test access port and the scans of the boundary register (R470 to R473). A command stands for the
update of its instruction and, for the boundary register, one scan of it: cells are named by their balls (log entry 58). -/

namespace Sys2Proof.Machine

/-! ### Levels -/

/-- What the functional driver of ball `b` drives: none where it drives nothing, or where State does not hold the level. CANk_TX stands
at 1 while controller `k` takes no part in bus traffic (R372). -/
def funcDrive (s : State) (b : Nat) : Option Bool :=
  let k := nget s.pins.balls b
  if k = 0 ∨ 0x20000 ≤ k then none
  else
    let f := k - 1
    let i := f % 1024
    match f / 1024 with
    | 0x01 => if domainOn s 6 && ownOk s then some ((s.ch (i / 6)).drv.testBit (i % 6)) else none
    | 0x09 => some (trgOut s i)
    | 0x0A => if i = 1 then some s.pins.ppsOut else none
    | 0x0C => if fioDriven s i then some true else none
    | 0x0D => if !sbcOn s (i / 2) then none else if i % 2 = 0 then some true else if s.fio.sbcHold.testBit (i / 2) then none else some false
    | 0x0E => if stoAsserted s i then none else some true
    | 0x13 => if i % 2 = 0 ∧ canOn s (i / 2) = false then some true else none
    | 0x15 => if i = 6 ∧ intnLow s = true then some false else none
    | 0x17 => if i = 0 then some s.pins.ownOut else none
    | _ => none

/-- What ball `b` is driven to. In EXTEST and CLAMP its cell, and in HIGHZ nothing, overrides the functional driver (R472). -/
def ballDrive (s : State) (b : Nat) : Option Bool :=
  if inChain b && testActive s then (if s.tst.ir = 5#8 then none else cellDrive s b) else funcDrive s b

/-- What the cell of ball `b` captures: the level at the ball, which is `ext` where the device does not drive it. -/
def cellCapture (s : State) (b : Nat) (ext : Bool) : Bool :=
  if switchBall b && !fieldUp s b then false else (ballDrive s b).getD ext

/-- A scan of the boundary register: the balls of `levels` are captured, then the cells of `cells` are updated. -/
def tapScan (cells : List BCell) (levels : List (BitVec 12 × Bool)) (s : State) : State :=
  let capt := (levels.filter (fun e => inChain e.1.toNat)).foldl
    (fun m e => SMap.put (fun _ => false) m e.1.toNat (cellCapture s e.1.toNat e.2)) s.tst.capt
  let held := (cells.filter (fun c => inChain c.ball.toNat)).foldl
    (fun m c => SMap.put (fun _ => (false, false)) m c.ball.toNat (c.out, c.en)) s.tst.cells
  { s with tst := { s.tst with capt := capt, cells := held } }

/-! ### Instructions -/

/-- The 32-bit data register of an instruction: the identity, or the low word of the galley check (R470). -/
def tapData (s : State) (c : Nat) : Option Word :=
  if c = 1 then some 0x2D48C1E5#32 else if c = 3 then some (rd s R.COL_CHECK_L.addr) else none

/-- The Bypass register of an instruction, which captures 0: CLAMP, HIGHZ, BYPASS and every other code have it (R470). -/
def tapBypass (c : Nat) : Option Bool := if c < 4 then none else some false

/-- Instruction `c` becomes current; its data register captures. -/
def tapSet (c : Nat) (s : State) : State :=
  { s with tst := { s.tst with ir := BitVec.ofNat 8 c, data := tapData s c, bypass := tapBypass c } }

/-- The instruction register captures 0b0000_0001 before a code is shifted in (R470). -/
def irCapture (s : State) : State := { s with tst := { s.tst with irCap := 0x01#8 } }

/-- The instruction with code `c` is updated (R470, R473). -/
def tapUpdate (c : Nat) (s : State) : State :=
  if s.sys.st = .off then s
  else
  let s := irCapture s
  if (c = 0 ∨ c = 2 ∨ c = 4 ∨ c = 5) ∧ safLive s = true then
    raise blkTST 0x05 0 c (fget s F.SAF_STATE_STATE) (raiseFlag (tapSet 0xFF s) F.TST_JTAG_REFUSED)
  else
    let s := tapSet c s
    if c = 0 ∨ c = 4 ∨ c = 5 then raise blkTST 0x06 0 c 0 s else s

/-- An instruction that selects the boundary register, and one scan of that. -/
def tapBoundary (c : Nat) (cells : List BCell) (levels : List (BitVec 12 × Bool)) (s : State) : State :=
  let s := tapUpdate c s
  if s.sys.st ≠ .off ∧ s.tst.ir = BitVec.ofNat 8 c then tapScan cells levels s else s

/-- TAP_RESET (R470): Test-Logic-Reset selects IDCODE. -/
def execTapReset (t : Nat) (s : State) : Res :=
  let s := advance t s
  .next (if s.sys.st = .off then s else tapSet 0x01 s)

/-- EXTEST (R470 to R473). -/
def execTapExtest (t : Nat) (cells : List BCell) (levels : List (BitVec 12 × Bool)) (s : State) : Res :=
  .next (tapBoundary 0x00 cells levels (advance t s))
/-- IDCODE (R470). -/
def execTapIdcode (t : Nat) (s : State) : Res := .next (tapUpdate 0x01 (advance t s))
/-- SAMPLE/PRELOAD (R470, R471, R473). -/
def execSamplePreload (t : Nat) (cells : List BCell) (levels : List (BitVec 12 × Bool)) (s : State) : Res :=
  .next (tapBoundary 0x02 cells levels (advance t s))
/-- USERCODE (R470). -/
def execTapUsercode (t : Nat) (s : State) : Res := .next (tapUpdate 0x03 (advance t s))
/-- CLAMP (R470, R472, R473). -/
def execTapClamp (t : Nat) (s : State) : Res := .next (tapUpdate 0x04 (advance t s))
/-- HIGHZ (R470, R472, R473). -/
def execTapHighz (t : Nat) (s : State) : Res := .next (tapUpdate 0x05 (advance t s))
/-- BYPASS (R470). -/
def execTapBypass (t : Nat) (s : State) : Res := .next (tapUpdate 0xFF (advance t s))

end Sys2Proof.Machine
end

