-- ==== Sys2Proof/Machine/Meas.lean ====
section
/-! DEFINITION. Sys2Proof/Machine/Meas.lean: measurement jobs on PLTM (R400 to R405). Quotients are exact; a
result is rounded half up where the spec names no other rounding (log entry 21). -/

namespace Sys2Proof.Machine

/-! ### Samples of a record -/

/-- The values v of signal `sig` in record samples `i` upward (R401), read from DRAM in order. -/
def readVals (j : AcqJob) (sig : Nat) : Nat → Nat → List Int → State → List Int × State
  | 0, _, acc, s => (acc.reverse, s)
  | n + 1, i, acc, s =>
    let f := (j.start + i) % cfgLen j.cfg
    let w := readMem 6 (dramAt (slotAddr j.cfg j.slot + 128 + f * cfgNsig j.cfg * 4 + 4 * sig)) 4 s
    let v := if cfgKind j.cfg sig = 3 then ((w.1 * 128 : Nat) : Int) else sgn 24 w.1
    readVals j sig n (i + 1) (v :: acc) w.2

/-- A job's `n` samples of a signal. -/
def jobVals (j : AcqJob) (sig n : Nat) (s : State) : List Int × State := readVals j sig n 0 [] s

/-! ### Time-domain results (R401, R402) -/

/-- A quotient rounded half up, for any nonzero denominator. -/
def ratRound (a b : Int) : Int := if b < 0 then divRound (-a) (-b) else divRound a b

def listMin (l : List Int) : Int := l.foldl min (l.headD 0)
def listMax (l : List Int) : Int := l.foldl max (l.headD 0)
def listSum (l : List Int) : Int := l.foldl (· + ·) 0

/-- The square root of a quotient, rounded half up. -/
def sqrtRound (a b : Nat) : Nat := (isqrt (4 * a / max 1 b) + 1) / 2

/-- A position between samples: numerator and denominator. -/
abbrev Pos := Int × Int

/-- The crossing of level `y / m` between samples `i - 1` (`a`) and `i` (`b`) (R402). -/
def crossAt (i : Nat) (a b y m : Int) : Pos := (((i : Int) - 1) * (m * (b - a)) + (y - m * a), m * (b - a))

/-- First minus second, in 1/65,536 and divided by `n`, rounded. -/
def posDiff (p q : Pos) (n : Int) : Int := ratRound ((p.1 * q.2 - q.1 * p.2) * 65536) (p.2 * q.2 * n)

/-- Upward (or, with `dn`, downward) crossings of level `y / m`, from sample `i` upward. -/
def crossings (dn : Bool) (y m : Int) : Nat → List Int → List (Nat × Pos)
  | i, a :: b :: r =>
    let hit := if dn then decide (y < m * a) && decide (m * b ≤ y) else decide (m * a < y) && decide (y ≤ m * b)
    let rest := crossings dn y m (i + 1) (b :: r)
    if hit then (i + 1, crossAt (i + 1) a b y m) :: rest else rest
  | _, _ => []

/-- The rising crossings of mid that PERIOD counts: after a sample at or below mid − h (levels in 1/128). -/
def periodCross (mid lo : Int) : Nat → Bool → List Int → List Pos
  | i, ok, a :: b :: r =>
    let ok := ok || decide (128 * a ≤ lo)
    if ok && decide (128 * a < mid) && decide (mid ≤ 128 * b) then
      crossAt (i + 1) a b mid 128 :: periodCross mid lo (i + 1) false (b :: r)
    else periodCross mid lo (i + 1) ok (b :: r)
  | _, _, _ => []

/-- PERIOD (R402), when valid. -/
def periodOf (hys : Nat) (l : List Int) : Option Int :=
  let mx := listMax l
  let mn := listMin l
  let mid := 64 * (mx + mn)
  let c := periodCross mid (mid - 2 * hys * (mx - mn)) 0 false l
  match c, c.getLast? with
  | p :: _ :: _, some q => some (posDiff q p (c.length - 1))
  | _, _ => none

/-- The time from the first crossing of one level to the first crossing of another after it (R402). -/
def edgeTime (dn : Bool) (y1 y2 : Int) (l : List Int) : Option Int :=
  match crossings dn y1 10 0 l with
  | [] => none
  | (i, p) :: _ =>
    match (crossings dn y2 10 0 l).find? (fun e => decide (i ≤ e.1)) with
    | some (_, q) => some (posDiff q p 1)
    | none => none

/-- RISE and FALL. -/
def riseOf (l : List Int) : Option Int :=
  let mn := listMin l
  let pp := listMax l - mn
  if pp = 0 then none else edgeTime false (10 * mn + pp) (10 * mn + 9 * pp) l
def fallOf (l : List Int) : Option Int :=
  let mn := listMin l
  let pp := listMax l - mn
  if pp = 0 then none else edgeTime true (10 * mn + 9 * pp) (10 * mn + pp) l

/-- OVERSHOOT (R402), Q1.23. -/
def overshootOf (l : List Int) : Option Int :=
  let k := l.length / 8
  let b := listSum (l.take k)
  let e := listSum (l.drop (l.length - k))
  let d := e - b
  if d = 0 then none
  else some (clampInt (-(2 ^ 23)) (2 ^ 23 - 1) (ratRound (((if 0 < d then listMax l else listMin l) * k - e) * 2 ^ 23) d))

/-! ### The FFT (R403) -/

/-- Window weight n of N, in 2^-30. -/
def winW (hann : Bool) (n nf : Nat) : Int := if hann then (2 ^ 30 - (rotate32 1 0 (2 ^ 64 / nf * n)).1 / 4) / 2 else 2 ^ 30

/-- |X[k]| × 2^u in 2^-8 of a sample unit, from windowed values in 2^-30. -/
def binMag (wv : List Int) (nf k u : Nat) : Nat :=
  let z := (wv.zipIdx).foldl (fun (a : Int × Int) e =>
    let c := rotate32 1 0 (2 ^ 64 / nf * (k * e.2 % nf))
    (a.1 + e.1 * c.1, a.2 + e.1 * c.2)) (0, 0)
  isqrt (z.1 * z.1 + z.2 * z.2).toNat * 2 ^ u / (nf * 2 ^ 54)

/-- Two spectra of half the points make one (R403): a radix-2 butterfly at each place, in 2^-30 of a sample unit. -/
def fftJoin (a b : List (Int × Int)) : List (Int × Int) :=
  let m := a.length
  let t := b.zipIdx.map (fun x =>
    let w := rotate32 1 0 (2 ^ 63 / max 1 m * x.2)
    ((x.1.1 * w.1 + x.1.2 * w.2) / 2 ^ 32, (x.1.2 * w.1 - x.1.1 * w.2) / 2 ^ 32))
  List.zipWith (fun x y => (x.1 + y.1, x.2 + y.2)) a t ++ List.zipWith (fun x y => (x.1 - y.1, x.2 - y.2)) a t

/-- The block exponent of R95 is 0: a word of the stage has no redundant sign bit. -/
def fftFull (l : List (List (Int × Int))) : Bool :=
  let out := fun (v : Int) => decide (v < -(2 ^ 52)) || decide (2 ^ 52 ≤ v)
  l.any (fun z => z.any (fun x => out x.1 || out x.2))

/-- U (R403): the stages, of `n` still to come, that are not halved. Stage by stage the spectra of interleaved samples are joined; where
the words are as large as a block exponent of 0 says, they are halved first. The order of the butterflies (decimation in time) and their
rounding are the model's choice (log entry 21). -/
def fftU : Nat → List (List (Int × Int)) → Nat
  | 0, _ => 0
  | n + 1, l =>
    let full := fftFull l
    let l := if full then l.map (fun z => z.map (fun x => (x.1 / 2, x.2 / 2))) else l
    (!full).toNat + fftU n (List.zipWith fftJoin (l.take (l.length / 2)) (l.drop (l.length / 2)))

/-- M_k (R403): rounded half up, 24 bits unsigned. -/
def binM (wv : List Int) (nf k u : Nat) : Nat := min ((binMag wv nf k u + 128) / 256) (2 ^ 24 - 1)

/-- The largest M_k for k ≥ 1, the lowest k on a tie. -/
def peakOf (m : List Nat) : Nat :=
  (List.range (m.length - 1)).foldl (fun b i => if m.getD b 0 < m.getD (i + 1) 0 then i + 1 else b) 1

/-- THD's numerator squared and whether its range is not empty. -/
def thdSum (m : List Nat) (nf k1 : Nat) : Option Nat :=
  let top := min 10 (nf / (2 * k1))
  if top < 2 then none
  else some (((List.range (top - 1)).map (fun i => (m.getD ((i + 2) * k1) 0) ^ 2)).sum)

/-! ### Jobs (R400, R404, R405) -/

/-- A result word: its number from 16 and its value. -/
abbrev ResW := Nat × Int

/-- The results of the time-domain measurements that are valid. -/
def timeResults (j : AcqJob) (l : List Int) : List ResW :=
  let n := l.length
  let mn := listMin l
  let mx := listMax l
  let opt := fun (w : Nat) (o : Option Int) => match o with | some v => [(w, v)] | none => ([] : List ResW)
  let per := periodOf (cfgBits j.cfg 16 10 6) l
  let freq := match per with
    | some p => if 0 < p then some (ratRound (10 ^ 12 * 65536) (p * j.ts)) else none
    | none => none
  [(16, mn), (17, mx), (18, divRound (listSum l) n), (19, (sqrtRound (listSum (l.map (fun v => v * v))).toNat n : Nat)),
    (20, mx - mn)] ++ opt 21 per ++ opt 22 freq ++ opt 23 (riseOf l) ++ opt 24 (fallOf l) ++ opt 25 (overshootOf l)

/-- The FFT of a job: results, ZPAD, and the state with the FFT area written. THD where M_k1 is 0 is a free value (log entry 21). -/
def fftResults (j : AcqJob) (s : State) : List ResW × Bool × State :=
  let nf := if cfgBits j.cfg 16 4 2 = 1 then 1024 else 4096
  let st := cfgBits j.cfg 13 0 23
  let have_ := min nf (j.n - st)
  let v := readVals j (cfgBits j.cfg 16 7 3) have_ st [] s
  let hann := cfgBits j.cfg 16 6 1 == 1
  let wv := (v.1.zipIdx).map (fun x => x.1 * winW hann x.2 nf)
  let e := fftU (if nf = 1024 then 10 else 12) ((wv ++ List.replicate (nf - wv.length) 0).map (fun v => [(v, (0 : Int))]))
  let m := (List.range (nf / 2 + 1)).map (fun k => binM wv nf k e)
  let k1 := peakOf m
  let pm := m.getD k1 0
  let z := openVal 8 v.2
  let thd := match thdSum m nf k1 with
    | none => ([] : List ResW)
    | some q => [(29, if pm = 0 then sgn 24 z.1 else (min (2 ^ 23 - 1) ((isqrt (q * 2 ^ 48) / pm + 1) / 2) : Nat))]
  let a := cfgBits j.cfg 10 0 20 * 256
  let s := storeFrame a ([j.seq, nf, unsgn 32 (-(e : Int)), 0] ++ m) z.2
  ([(26, (k1 : Int)), (27, (pm : Int)), (28, -(e : Int))] ++ thd, decide (have_ < nf), s)

/-- Add 1 to the saturating `w`-byte cell at DRAM byte `a`. -/
def cellBump (w a : Nat) (s : State) : State :=
  let r := readMem 6 (dramAt a) w s
  setMemNat r.2 (dramAt a) (min (r.1 + 1) (256 ^ w - 1)) w

/-- A pending CLEAR acts (R404, R405): the store is set to 0. -/
def accZero (i base bytes : Nat) (s : State) : State :=
  if !s.acq.clear.testBit i then s
  else
    let s := writeMemBytes s (dramAt base) (List.replicate bytes 0#8)
    let s := if i < 4 then fset (fset s F.ACQ_HIST_UNDER_COUNT 0 i) F.ACQ_HIST_OVER_COUNT 0 i else fset s F.ACQ_MAP_RECORDS_COUNT 0 (i - 4)
    { s with acq := { s.acq with clear := putBit s.acq.clear i false } }

/-- A value enters histogram `h` (R404). -/
def histPut (h : Nat) (v : Int) (s : State) : State :=
  let b := (v - fgetInt s F.ACQ_HIST_LO_LO h) / 2 ^ fget s F.ACQ_HIST_CFG_SHIFT h
  if b < 0 then bump s F.ACQ_HIST_UNDER_COUNT 1 h
  else if 1023 < b then bump s F.ACQ_HIST_OVER_COUNT 1 h
  else cellBump 4 (fget s F.ACQ_HIST_BASE_ADDR h * 256 + 4 * b.toNat) s

/-- Histogram `h` takes a job's record with its valid results (R404). -/
def histFeed (j : AcqJob) (res : List ResW) (h : Nat) (s : State) : State :=
  if !(flag s F.ACQ_HIST_CFG_EN h && fget s F.ACQ_HIST_CFG_REC h == j.rcd) then s
  else
    let s := accZero h (fget s F.ACQ_HIST_BASE_ADDR h * 256) 4096 s
    if flag s F.ACQ_HIST_CFG_SRC h then
      match res.find? (fun e => e.1 == 16 + fget s F.ACQ_HIST_CFG_MID h) with
      | some e => histPut h e.2 s
      | none => s
    else
      let l := jobVals j (fget s F.ACQ_HIST_CFG_SIG h) j.n s
      forL l.1 (histPut h) l.2

/-- Map `m` takes a job's record (R405). -/
def mapFeed (j : AcqJob) (m : Nat) (s : State) : State :=
  if !(flag s F.ACQ_MAP_CFG_EN m && fget s F.ACQ_MAP_CFG_REC m == j.rcd) then s
  else
    let base := fget s F.ACQ_MAP_BASE_ADDR m * 256
    let s := accZero (m + 4) base 131072 s
    let l := jobVals j (fget s F.ACQ_MAP_CFG_SIG m) j.n s
    let s := forL l.1.zipIdx (fun e s =>
      let row := (e.1 - fgetInt s F.ACQ_MAP_LO_LO m) / 2 ^ fget s F.ACQ_MAP_CFG_YSHIFT m
      let col := ((e.2 : Int) - j.pre) / 2 ^ fget s F.ACQ_MAP_CFG_XSHIFT m + fget s F.ACQ_MAP_CFG_XOFS m
      if 0 ≤ row ∧ row ≤ 255 ∧ 0 ≤ col ∧ col ≤ 255 then cellBump 2 (base + 2 * (256 * row.toNat + col.toNat)) s else s) l.2
    bump s F.ACQ_MAP_RECORDS_COUNT 1 m

/-- MEAS_JOB_START (R115, R400): the oldest job starts at the bank index that the engine names. -/
def execMeasJobStart (t : Nat) (entry : BitVec 13) (s : State) : Res :=
  let s := advance t s
  .next (match s.acq.jobs, s.acq.run with
    | j :: r, none =>
      if acqLive s && !(s.plt 4).jobBusy then
        jobCount { modPlt s 4 (fun p => { p with jobBusy := true, ended := false, pos := entry.toNat }) with acq := { s.acq with jobs := r, run := some j } }
      else s
    | _, _ => s)

/-- Write result words 16 to 31 of a header: one that is not valid holds a free value (log entry 21). -/
def resultWords (res : List ResW) (w30 w31 : Nat) : Nat → List Nat → State → List Nat × State
  | 0, acc, s => (acc, s)
  | n + 1, acc, s =>
    let w := 16 + acc.length
    if w = 30 then resultWords res w30 w31 n (acc ++ [w30]) s
    else if w = 31 then resultWords res w30 w31 n (acc ++ [w31]) s
    else
      match res.find? (fun e => e.1 == w) with
      | some e => resultWords res w30 w31 n (acc ++ [unsgn 32 e.2]) s
      | none => let v := openVal 10 s; resultWords res w30 w31 n (acc ++ [v.1]) v.2

/-- The job under way ends (R400 to R405). -/
def jobFinish (j : AcqJob) (s : State) : State :=
  let en := cfgBits j.cfg 16 3 1 == 1
  let l := if en then jobVals j (cfgBits j.cfg 16 0 3) j.n s else (([] : List Int), s)
  let res := if en then timeResults j l.1 else []
  let ff := cfgBits j.cfg 16 4 2
  let fft := decide (1 ≤ ff) && decide (ff ≤ 2)
  let f := if fft then fftResults j l.2 else (([] : List ResW), false, l.2)
  let res := res ++ f.1
  let s := f.2.2
  let nf := if ff = 1 then 1024 else 4096
  let w30 := (res.map (fun e => 2 ^ (e.1 - 16))).foldl (· ||| ·) (2 ^ 15)
  let ws := resultWords res w30 (if en ∨ fft = false then j.n else nf) 16 [] s
  let a := slotAddr j.cfg j.slot
  let s := storeFrame (a + 64) ws.1 ws.2
  let s := storeFrame (a + 20) [j.w5 + 2 ^ 19 + (if f.2.1 then 2 ^ 21 else 0)] s
  let s := forN 4 (mapFeed j) (forN 4 (histFeed j res) s)
  let s := jobCount { modPlt s 4 (fun p => { p with jobBusy := false, ended := false }) with acq := { s.acq with run := none } }
  recRetry j.rcd (raise blkACQ 0x02 j.rcd j.seq w30 s)

/-- MEAS_JOB_DONE (R115, R400 to R405): the job has come to its END. -/
def execMeasJobDone (t : Nat) (errs : List MemErr) (s : State) : Res :=
  let s := noteErrs errs (advance t s)
  .next (match s.acq.run with
    | some j => if acqLive s && ((s.plt 4).ended || decide (8192 ≤ nextSort s 4)) then jobFinish j s else s
    | none => s)

end Sys2Proof.Machine
end

