-- ==== Sys2Proof/Machine/Power.lean ====
section
/-! DEFINITION. Sys2Proof/Machine/Power.lean: power-up, resets and OFF (R31, R410, R495 to R498), power domains (R437 to R440), DOZE
(R441 to R445, R456), clock loss (R435, R436) and the die temperature (R487). -/

namespace Sys2Proof.Machine

/-! ### Power-up and OFF -/

/-- The machine with nothing powered but what keeps its contents: the safety record, boot flash and fuses, the levels at the
input balls, and the model's own fields. -/
def unpowered (s : State) : State :=
  { State.reset with
    nv := s.nv, rom := s.rom, free := s.free, out := s.out, pending := s.pending
    sys := { SysS.init with st := .off }
    pins := { PinS.init with ownIn := s.pins.ownIn, penFb := s.pins.penFb, porn := s.pins.porn, rstn := s.pins.rstn }
    pwr := { PwrS.init with on := 0, orUp := s.pwr.orUp, rel := s.pwr.rel } }

/-- The device goes OFF (R31, R498): a flush still running is cut off. -/
def powerOff (s : State) : State := unpowered (flushCut s)

/-- OFF to BOOT (R495 step 4): the load begins unless RSTN is low. -/
def boot (s : State) : State :=
  let s := { unpowered s with sys := SysS.init, pwr := { PwrS.init with orUp := s.pwr.orUp, rel := s.pwr.rel } }
  if s.pins.rstn then bootLoad s else s

/-- BOOT begins when the internal reset has been released and PORN is high (R495). -/
def tryBoot (s : State) : State := if s.sys.st = .off ∧ s.pwr.orUp = true ∧ s.pwr.rel = true ∧ s.pins.porn = true then boot s else s

/-- POWER_UP (R495 step 1): the OR rises above the reset level. -/
def execPowerUp (t : Nat) (s : State) : Res :=
  let s := advance t s
  .next (if s.sys.st = .off then { s with pwr := { s.pwr with orUp := true, rel := false } } else s)

/-- RESET_RELEASE (R495 step 3). -/
def execResetRelease (t : Nat) (s : State) : Res :=
  let s := advance t s
  .next (if s.sys.st = .off ∧ s.pwr.orUp = true then tryBoot { s with pwr := { s.pwr with rel := true } } else s)

/-- PORN_RELEASE (R495 step 4, R31). -/
def execPornRelease (t : Nat) (s : State) : Res :=
  let s := advance t s
  .next (tryBoot { s with pins := { s.pins with porn := true } })

/-- PORN_LOW (R31). -/
def execPornLow (t : Nat) (s : State) : Res :=
  let s := advance t s
  .next (let s := { s with pins := { s.pins with porn := false } }
    if s.sys.st = .off then s else powerOff s)

/-- A flush runs, or waits for the boundary that gives its content. -/
def flushing (s : State) : Bool := s.par.flush.isSome || s.par.flushDue

/-- POWER_OFF (R410, R498): the OR falls below the reset level; a running flush defers OFF. -/
def execPowerOff (t : Nat) (s : State) : Res :=
  let s := advance t s
  .next (
    if s.sys.st = .off then { s with pwr := { s.pwr with orUp := false, rel := false } }
    else if flushing s then modPar (fun p => { p with offDue := true }) s
    else powerOff { s with pwr := { s.pwr with orUp := false, rel := false } })

/-- VHOLD_LOW (R410): the deferral ends. -/
def execVholdLow (t : Nat) (s : State) : Res :=
  let s := advance t s
  .next (if s.par.offDue then powerOff { s with pwr := { s.pwr with orUp := false, rel := false } } else s)

/-! ### Device reset (R497) -/

/-- Every domain but PD_AON is reset: LNS, the feed monitors, the lines of the pair, the input stage of the event log and the
TAP run on, OWN_OUT is released, and main SRAM keeps its contents (log entry 25). -/
def deviceReset (s : State) : State :=
  let keep := [R.PAR_FEED_STATUS.at 0, R.PAR_FEED_STATUS.at 1]
  let r := unpowered s
  let r := { r with
    sys := SysS.init
    tim := { TimS.init with acc := s.tim.acc, stepped := s.tim.stepped }
    evt := { EvtS.init with stage := s.evt.stage }
    tst := { TstS.init with ir := s.tst.ir, irCap := s.tst.irCap, data := s.tst.data, bypass := s.tst.bypass, cells := s.tst.cells, capt := s.tst.capt }
    pwr := { PwrS.init with orUp := s.pwr.orUp, rel := s.pwr.rel, areas := s.pwr.areas }
    par := { ParS.init with dip := s.par.dip, dipEnd := s.par.dipEnd, silent := s.par.silent }
    since := s.since.filter (fun e => decide (e.1 < 9) || e.1 == Timed.hbIn)
    mem := s.mem.filter (fun c => decide (c.1 < 0x10000000))
    poison := s.poison.filter (fun c => decide (c.1 < 0x1000000)) }
  fset (putWords keep (wordsAt s keep) r) F.PAR_STATUS_SEL_FEED (fget s F.PAR_STATUS_SEL_FEED)

/-- After a device reset the load restarts once RSTN is high. -/
def afterReset (s : State) : State := if s.pins.rstn then bootLoad s else s

/-- DEVICE_RESET (R497): RSTN low; a flush completes first. -/
def execDeviceReset (t : Nat) (s : State) : Res :=
  let s := advance t s
  .next (let s := { s with pins := { s.pins with rstn := false } }
    if s.sys.st = .off then s
    else if flushing s then modPar (fun p => { p with rstDue := true }) s
    else deviceReset s)

/-- RSTN_RELEASE (R497). -/
def execRstnRelease (t : Nat) (s : State) : Res :=
  let s := advance t s
  .next (
    if s.pins.rstn then s
    else
      let s := { s with pins := { s.pins with rstn := true } }
      if s.sys.st = .boot ∧ s.par.rstDue = false then bootLoad s else s)

/-- FLUSH_DONE (R413, R410, R497): what waited for the flush follows. -/
def execFlushDone (t : Nat) (s : State) : Res :=
  let s := advance t s
  .next (
    if s.par.flush.isNone then s
    else
      let s := flushEnd s
      if s.par.offDue then powerOff { s with pwr := { s.pwr with orUp := false, rel := false } }
      else if s.par.rstDue then afterReset (deviceReset s)
      else s)

/-! ### Power domains (R437 to R440, R447) -/

/-- The registers of domain `d` at their Reset column and galley values (R39, R9). -/
def domRegs (d : Nat) (s : State) : State :=
  forL (s.galley.filter (fun e => domainOf e.1 = some d)) (fun e s => wr s e.1 e.2)
    { s with regs := s.regs.filter (fun e => domainOf e.1 ≠ some d) }

/-- Platen `n` without power: its memories are gone; accesses held for it stay, and so does what only a galley load clears (R456). -/
def platenOff (n : Nat) (s : State) : State := setPlt s n { PltS.init with held := (s.plt n).held, bare := (s.plt n).bare }

/-- Platen `n` powers up with the galley's memories (R39). -/
def platenOn (n : Nat) (s : State) : State :=
  setPlt s n { glyPlt s n with held := (s.plt n).held, bare := (glyPlt s n).bare || (s.plt n).bare }

/-- The mirror link and the PAR registers are reset; the feed monitors and the ownership keeper lie in PD_AON. -/
def mlkReset (s : State) : State :=
  let keep := [R.PAR_FEED_STATUS.at 0, R.PAR_FEED_STATUS.at 1]
  let r := domRegs 11 (modPar (fun p => { p with link := false, down := false, sending := none, asked := false }) s)
  ownRefresh (fset (putWords keep (wordsAt s keep) r) F.PAR_STATUS_SEL_FEED (fget s F.PAR_STATUS_SEL_FEED))

/-- What domain `d` loses, and has at a power-up before anything is restored. -/
def domClear (d : Nat) (s : State) : State :=
  match d with
  | 6 => edgRefresh (domRegs 6 { s with edg := [], aux := [] })
  | 7 => domRegs 7 { s with src := [], lat := [], cmp := [], stuck := [], ain := [], page := [] }
  | 8 => platenOff 4 (domRegs 8 (acqOff s))
  | 9 => forN 2 portRefresh (domRegs 9 { s with net := { s.net with tx0 := [], tx1 := [], txPos := 0, rxPos := 0, txScan := false } })
  | 10 => domRegs 10 { s with can := [] }
  | 11 => mlkReset s
  | _ => if 2 ≤ d ∧ d ≤ 5 then platenOff (d - 2) (domRegs d s) else s

/-- The bit of domain `d` in PWR.PD_STATUS.ON. -/
def setOn (d : Nat) (b : Bool) (s : State) : State :=
  { s with pwr := { s.pwr with on := BitVec.ofNat 14 (putBit s.pwr.on.toNat d b) } }

/-- The RW and QS fields of the register at `a` are saved (R441). -/
def savedDom (a : Nat) : Bool :=
  match domainOf a with
  | some d => decide (2 ≤ d ∧ d ≤ 7)
  | none => false

/-- The save of R441: platen memories, the fields' words, and the save area in main SRAM. -/
def dozeSave (s : State) : State :=
  let b := sramAt (fget s F.PWR_SAVE_INDEX)
  let out := fun (a : Nat) => decide (a < b) || decide (b + areaSize ≤ a)
  { s with
    mem := s.mem.filter (fun c => out c.1)
    poison := s.poison.filter (fun c => out (16 * c.1))
    free := s.free + 1
    pwr := { s.pwr with
      areas := (b, s.free) :: s.pwr.areas.filter (fun p => p.1 ≠ b)
      saved := true
      savedPlts := s.plts.filter (fun e => decide (e.1 < 4) && domainOn s (2 + e.1))
      savedRegs := s.regs.filter (fun e => savedDom e.1) } }

/-- What a DOZE entry does before it switches domain `d` off (R442): after PD_ACQ the save, with what R202 keeps and clears, and before
the last domains the hand-over of ports and CAN controllers to wake mode. -/
def entryBefore (d : Nat) (s : State) : State :=
  if s.sys.st ≠ .doze ∨ s.pwr.waking = true ∨ d = 8 then s
  else
    let s := if s.pwr.saved then s else dozeSave (fbkSleep s)
    if d < 9 ∨ s.pwr.handed = true then s else canDoze (netDoze { s with pwr := { s.pwr with handed := true } })

/-- Domain `d` has been switched off (R440). In a DOZE entry the hand-over to wake mode follows PD_FBK, and with PD_MLK step 5 of R442
ends: the PLLs and the TIM clock stop and PD_SYS enters retention. -/
def domainOff (d : Nat) (s : State) : State :=
  let s := domClear d (setOn d false (entryBefore d s))
  let s := if d = 8 then { s with tst := { s.tst with pos1 := 0, passCe1 := 0 } } else s
  let s := if d = 7 then entryBefore 9 s else s
  if d = 11 ∧ s.sys.st = .doze ∧ s.pwr.waking = false then
    (let s := timDoze s
     { s with pwr := { s.pwr with sysRet := true, pllLock := false } })
  else s

/-- Domain `d` has been powered up: platens and registers take their galley values, the channels of PD_EDG start as R144 says,
and SETTLE begins with PD_FBK (R121). -/
def domainUp (d : Nat) (s : State) : State :=
  let s := setOn d true (domClear d s)
  if 2 ≤ d ∧ d ≤ 5 then platenOn (d - 2) s
  else if d = 8 then platenOn 4 s
  else if d = 7 then settleStart (List.range 48) s
  else if d = 10 then canStart s
  else if d = 11 then roleFlags s
  else edgRefresh s

/-- PD_SYS leaves retention with the PLLs locked (R444 steps 1 to 3): TIM takes over the LNS, and the accesses held since complete
(R33). -/
def sysUp (s : State) : State :=
  let s := timResume s
  let l := s.pwr.held
  let e := s.pwr.heldErrs
  forL l (request []) (noteErrs (e.filter (fun x => memOn s x.blk))
    { s with pwr := { s.pwr with sysRet := false, pllLock := true, held := [], heldErrs := [] } })

/-- The order in which a DOZE entry (R442) or a wake (R444) switches domains: those before `d` are as the plan has them. -/
def inTurn (s : State) (d : Nat) : Bool :=
  s.sys.st != .doze ||
    ((if s.pwr.waking then [11, 7, 6, 2, 3, 4, 5] else [8, 2, 3, 4, 5, 6, 7, 9, 10, 11]).takeWhile (· != d)).all
      (fun e => domainOn s e == planBit s e)

/-- Domains are switched 20 µs apart, but together in a takeover (R440, R447). -/
def spaced (s : State) : Bool := s.sys.st == .takeover || quietFor Timed.domain 20000 s

/-- DOMAIN_POWER_SWITCH (R437, R440, R442, R444): domain `d` has been switched as the plan has it; domain 1 switched on is the end
of PD_SYS retention. -/
def execDomainPowerSwitch (t : Nat) (d : Fin 14) (on : Bool) (s : State) : Res :=
  let s := advance t s
  let d := d.val
  .next (
    if s.sys.st = .off then s
    else if d = 1 then (if on && s.pwr.sysRet && s.pwr.waking then sysUp s else s)
    else if s.pwr.sysRet || on != planBit s d || on == domainOn s d || d = 0 || 12 ≤ d || !inTurn s d || !spaced s then s
    else holdFrom Timed.domain (if on then domainUp d s else domainOff d s))

/-! ### DOZE (R441 to R445, R456) -/

/-- IDLE_TIMER (R442): IDLE_S whole seconds of READY without a host access, with every profile unit and path group idle. -/
def execIdleTimer (t : Nat) (s : State) : Res :=
  let s := advance t s
  .next (
    if s.sys.st = .ready && s.sys.dozeReq = 0 && flag s F.PWR_SAVE_DOZE_OK && flag s F.PWR_DOZE_CFG_IDLE_S && moversIdle s &&
        decide (s.sys.idleAt + 256000000000 * fget s F.PWR_DOZE_CFG_IDLE_S ≤ clk s) &&
        (List.range 8).all (fun g => fget s F.PTH_STATUS_STATE g == 0) then
      { s with sys := { s.sys with dozeReq := 2 } }
    else s)

/-- DOZE_ENTRY (R442): step 1, at the boundary at which the request is taken; the other steps go with the switching of the domains. -/
def execDozeEntry (t : Nat) (s : State) : Res :=
  let s := advance t s
  .next (
    if s.sys.st = .ready ∧ s.sys.dozeReq ≠ 0 then
      let why := s.sys.dozeReq
      let s := quoApply s
      let s := if s.par.flushDue then flushStart s else s
      let s := toState .doze (fioFreeze { s with sys := { s.sys with running := false, adjusting := false, open_ := 0, dozeReq := 0 } })
      let s := raise blkPWR 0x01 0 why (impCount s) s
      let s := bump s F.PWR_WAKE_SRC_ENTRIES
      let s := { s with
        pwr := { s.pwr with dozeAt := lns s, dozeCause := why, waking := false, abort := false, handed := false, saved := false }
        tim := { s.tim with dozed := s.tim.st == .slew } }
      forN 16 recStop (safDoze s)
    else s)

/-- The RW and QS bits of the register at `a`. -/
def keptBits (a : Nat) : Word := accMask a .rw ||| accMask a .qs

/-- The bits `m` of the register at `a` take those of `v`. -/
def wrBits (a : Nat) (m v : Word) (s : State) : State := wr s a ((rd s a &&& ~~~m) ||| (v &&& m))

/-- The restore of R441: what was saved overwrites what the power-up loaded (R39). -/
def dozeRestore (s : State) : State :=
  let s := forL s.pwr.savedPlts (fun e s =>
    let p := e.2
    modPlt s e.1 (fun x => { x with
      x := p.x, y := p.y, c := p.c, act := p.act, stg := p.stg, actWorst := p.actWorst, stgWorst := p.stgWorst })) s
  let keys := (s.pwr.savedRegs.map (·.1)) ++ ((s.regs.map (·.1)).filter savedDom)
  settleChanged s (forL keys (fun a s => wrBits a (keptBits a) (SMap.get regReset s.pwr.savedRegs a) s) s)

/-- R456: an uncorrectable error in the copy of a platen, or of a register for instance 7. -/
def restoreErr (e : PltErr) (s : State) : State :=
  if e.ecc ≠ .multi then s
  else if e.plt < 4 then
    raise blkPWR 0x06 e.plt e.off 0 (edgRefresh (raiseFlag (modPlt s e.plt (fun p => { p with bare := true })) F.PLT_STATUS_UE e.plt))
  else
    raise blkPWR 0x06 7 e.off 0 (wrBits e.off (keptBits e.off) (SMap.get regReset s.galley e.off) s)

/-- The wake path of R444: the restore, the errors it finds, and what DOZE suspended. -/
def wakePath (d : Nat) (errs : List PltErr) (blks : List MemErr) (s : State) : State :=
  let s := noteErrs blks s
  let s := forL (blks.filter (fun b => poisoned s b.blk)) (fun b => poisonedRead 6 b.blk) s
  let s := edgRefresh (forL errs restoreErr (fbkWake (dozeRestore s)))
  netWake (timWake d s)

/-- The domains of steps 3 and 4 of R444 that READY has on are on (R32, R437). -/
def wakeReady (s : State) : Bool :=
  domainOn s 6 && domainOn s 7 && domainOn s 11 && (List.range 4).all (fun n => !planBit s (2 + n) || domainOn s (2 + n))

/-- WAKE_COMPLETE (R443, R444 step 6): the grid boundary at which impressions restart. -/
def execWakeComplete (t : Nat) (errs : List PltErr) (blks : List MemErr) (s : State) : Res :=
  let s := advance t s
  .next (
    if s.sys.st = .doze && s.pwr.waking && !s.pwr.sysRet && wakeReady s && gridFrom s (lns s) == lns s then
      let d := lns s - s.pwr.dozeAt
      let s := fset (fset s F.PWR_DOZE_TIME_L_VAL (d % 2 ^ 32)) F.PWR_DOZE_TIME_H_VAL (d / 2 ^ 32)
      let aborted := s.pwr.abort
      let s := if aborted then s else wakePath d errs blks s
      let s := trackDark (safWake (if s.pwr.handed then canWake s else s))
      let s := { s with pwr := { s.pwr with waking := false, abort := false, handed := false, saved := false, savedPlts := [], savedRegs := [] } }
      let s := enterReady s
      let s := if aborted then s
        else raise blkPWR 0x02 0 ((rd s R.PWR_WAKE_SRC.addr).toNat % 64) (satNat 32 (d / 1000000)) s
      let s := if flag s F.PWR_DOZE_CFG_WAKE_RUN then reqRun s else s
      if s.par.rescDue then rescTrigger (modPar (fun p => { p with rescDue := false }) s) else s
    else s)

/-- R270, R445: LNS has reached WAKE_AT, or 3 ms before the TIME of an armed entry with WAKE. -/
def aonDue (s : State) : Bool :=
  let w := fget s F.PWR_WAKE_AT_L_VAL + 2 ^ 32 * fget s F.PWR_WAKE_AT_H_VAL
  (w != 0 && decide (w ≤ lns s)) ||
    (List.range 64).any (fun i =>
      let x := SMap.get (fun _ => SchS.init) s.mot.sch i
      fget s F.SCH_STAT_STATE i == 1 && x.act.getLsbD 14 && decide (x.time ≤ lns s + 3000000))

/-- AON_WAKE_TIMER (R445). -/
def execAonWakeTimer (t : Nat) (s : State) : Res :=
  let s := advance t s
  .next (if aonDue s then wakeEvent 8 s else s)

/-! ### Clocks and temperature -/

/-- XIN_LOSS (R435). -/
def execXinLoss (t : Nat) (s : State) : Res :=
  let s := advance t s
  .next (if s.sys.st = .off ∨ s.pwr.xinLost = true then s else raise blkPWR 0x04 0 0 0 { s with pwr := { s.pwr with xinLost := true } })

/-- X32_LOSS (R436). -/
def execX32Loss (t : Nat) (s : State) : Res :=
  let s := advance t s
  .next (if s.sys.st = .off ∨ s.pwr.x32Lost = true then s else raise blkPWR 0x05 0 0 0 { s with pwr := { s.pwr with x32Lost := true } })

/-- A temperature flag `f` with its latch `seen`: it sets at `hi` and clears below `lo`; its rise raises event `code`. -/
def thermFlag (f seen : Fld) (code : Nat) (lo hi tj : Int) (region : Nat) (s : State) : State :=
  if hi ≤ tj then
    (if flag s f then s else raise blkPWR code 0 (unsgn 32 tj) region (raiseFlag (raiseFlag s f) seen))
  else if tj < lo then fset s f 0
  else s

/-- THERMAL_READ (R487): the hottest sensor reads `tj` °C, in region 0 platen, 1 system or 2 field switches. -/
def execThermalRead (t : Nat) (tj : Int) (region : Fin 3) (s : State) : Res :=
  let s := advance t s
  .next (
    if s.sys.st = .off then s
    else
      let s := fset s F.PWR_THERM_TJ (satInt 9 tj)
      let s := fset s F.PWR_THERM_TJ_MAX (max (fget s F.PWR_THERM_TJ_MAX) (satNat 8 tj.toNat))
      let s := thermFlag F.PWR_THERM_WARN F.PWR_THERM_WARN_SEEN 0x07 120 125 tj region.val s
      thermFlag F.PWR_THERM_HOT F.PWR_THERM_HOT_SEEN 0x08 130 135 tj region.val s)

end Sys2Proof.Machine
end

