-- ==== Sys2Proof/Machine/Dispatch.lean ====
section
/-! DEFINITION. Sys2Proof/Machine/Dispatch.lean: the meaning of each command, one arm per constructor of `Instr`. -/

namespace Sys2Proof.Machine

def exec (i : Instr) (s : State) : Host.Outcome State Fault Refusal :=
  match i with
  | .registerWrite h a v => Sys2Proof.Machine.execRegisterWrite h a v s
  | .readClear h a => Sys2Proof.Machine.execReadClear h a s
  | .pairLowRead h a => Sys2Proof.Machine.execPairLowRead h a s
  | .sfWrite h a v => Sys2Proof.Machine.execSfWrite h a v s
  | .qsImplicitWrite h a v => Sys2Proof.Machine.execQsImplicitWrite h a v s
  | .pcieWriteRequest t a bytes errs => Sys2Proof.Machine.execPcieWriteRequest t a bytes errs s
  | .pcieReadRequest t a n errs perrs => Sys2Proof.Machine.execPcieReadRequest t a n errs perrs s
  | .qspiWrite t cmd a words errs => Sys2Proof.Machine.execQspiWrite t cmd a words errs s
  | .qspiRead t cmd a n errs => Sys2Proof.Machine.execQspiRead t cmd a n errs s
  | .qspiTransferEnd t clocks => Sys2Proof.Machine.execQspiTransferEnd t clocks s
  | .irqSwset h v => Sys2Proof.Machine.execIrqSwset h v s
  | .hostAccessWake h a w => Sys2Proof.Machine.execHostAccessWake h a w s
  | .platenMemoryAccess h a w errs => Sys2Proof.Machine.execPlatenMemoryAccess h a w errs s
  | .heldAccessComplete t p errs => Sys2Proof.Machine.execHeldAccessComplete t p errs s
  | .quoBegin h => Sys2Proof.Machine.execQuoBegin h s
  | .qsStagedWrite h a v => Sys2Proof.Machine.execQsStagedWrite h a v s
  | .quoCommit h => Sys2Proof.Machine.execQuoCommit h s
  | .quoRollback h => Sys2Proof.Machine.execQuoRollback h s
  | .quoinTimeout t => Sys2Proof.Machine.execQuoinTimeout t s
  | .impressionBoundary t bits errs mm quo scrub => Sys2Proof.Machine.execImpressionBoundary t bits errs mm quo scrub s
  | .startPolicyRun t => Sys2Proof.Machine.execStartPolicyRun t s
  | .outputPublish t p ats errs merrs => Sys2Proof.Machine.execOutputPublish t p ats errs merrs s
  | .sortNop a => Sys2Proof.Machine.execSortNop a s
  | .sortMac a => Sys2Proof.Machine.execSortMac a s
  | .macDual a => Sys2Proof.Machine.execMacDual a s
  | .sortLda a => Sys2Proof.Machine.execSortLda a s
  | .sortAdd a => Sys2Proof.Machine.execSortAdd a s
  | .sortAcc a => Sys2Proof.Machine.execSortAcc a s
  | .sortShf a => Sys2Proof.Machine.execSortShf a s
  | .unaNeg a => Sys2Proof.Machine.execUnaNeg a s
  | .unaAbs a => Sys2Proof.Machine.execUnaAbs a s
  | .unaRnd a => Sys2Proof.Machine.execUnaRnd a s
  | .unaClr a => Sys2Proof.Machine.execUnaClr a s
  | .sortMin a => Sys2Proof.Machine.execSortMin a s
  | .sortMax a => Sys2Proof.Machine.execSortMax a s
  | .sortLim a => Sys2Proof.Machine.execSortLim a s
  | .sortSel a => Sys2Proof.Machine.execSortSel a s
  | .sortLut a => Sys2Proof.Machine.execSortLut a s
  | .sortDld a => Sys2Proof.Machine.execSortDld a s
  | .sortDst a => Sys2Proof.Machine.execSortDst a s
  | .sortStx a => Sys2Proof.Machine.execSortStx a s
  | .sortSty a => Sys2Proof.Machine.execSortSty a s
  | .sortStxy a => Sys2Proof.Machine.execSortStxy a s
  | .sortMov a => Sys2Proof.Machine.execSortMov a s
  | .sortPset a => Sys2Proof.Machine.execSortPset a s
  | .pmodStride a => Sys2Proof.Machine.execPmodStride a s
  | .pmodModulo a => Sys2Proof.Machine.execPmodModulo a s
  | .sortRep a => Sys2Proof.Machine.execSortRep a s
  | .sortRepb a => Sys2Proof.Machine.execSortRepb a s
  | .bexpClear a => Sys2Proof.Machine.execBexpClear a s
  | .bexpFeed a => Sys2Proof.Machine.execBexpFeed a s
  | .bexpGet a => Sys2Proof.Machine.execBexpGet a s
  | .bexpLatch a => Sys2Proof.Machine.execBexpLatch a s
  | .sortBscl a => Sys2Proof.Machine.execSortBscl a s
  | .sortSev a => Sys2Proof.Machine.execSortSev a s
  | .sortEnd a => Sys2Proof.Machine.execSortEnd a s
  | .stagedBankWrite h a v => Sys2Proof.Machine.execStagedBankWrite h a v s
  | .stgWorstDone t p => Sys2Proof.Machine.execStgWorstDone t p s
  | .measJobStart t entry => Sys2Proof.Machine.execMeasJobStart t entry s
  | .measJobDone t errs => Sys2Proof.Machine.execMeasJobDone t errs s
  | .ocTripAssert t c p bits => Sys2Proof.Machine.execOcTripAssert t c p bits s
  | .ocTripDeassert t c p bits => Sys2Proof.Machine.execOcTripDeassert t c p bits s
  | .warnRise t c p bits => Sys2Proof.Machine.execWarnRise t c p bits s
  | .warnFall t c p bits => Sys2Proof.Machine.execWarnFall t c p bits s
  | .sdmStuck t c p bits => Sys2Proof.Machine.execSdmStuck t c p bits s
  | .stuckClear t c p latest before => Sys2Proof.Machine.execStuckClear t c p latest before s
  | .settleEnd t c => Sys2Proof.Machine.execSettleEnd t c s
  | .ainConversionStart t => Sys2Proof.Machine.execAinConversionStart t s
  | .ainResult t k uV => Sys2Proof.Machine.execAinResult t k uV s
  | .carrierReload t c => Sys2Proof.Machine.execCarrierReload t c s
  | .compareFire t c j => Sys2Proof.Machine.execCompareFire t c j s
  | .interlockTurnOn t c => Sys2Proof.Machine.execInterlockTurnOn t c s
  | .shdGo h c => Sys2Proof.Machine.execShdGo h c s
  | .calibrationPass t resid taps => Sys2Proof.Machine.execCalibrationPass t resid taps s
  | .maskApply t c => Sys2Proof.Machine.execMaskApply t c s
  | .auxTimerFire t a on => Sys2Proof.Machine.execAuxTimerFire t a on s
  | .tripInputAssert t x => Sys2Proof.Machine.execTripInputAssert t x s
  | .tripInputDeassert t x => Sys2Proof.Machine.execTripInputDeassert t x s
  | .xlatchClear h v => Sys2Proof.Machine.execXlatchClear h v s
  | .tlatchClear h c v => Sys2Proof.Machine.execTlatchClear h c v s
  | .hallStateChange t c lines st => Sys2Proof.Machine.execHallStateChange t c lines st s
  | .encoderEdge t e a b st => Sys2Proof.Machine.execEncoderEdge t e a b st s
  | .zEdge t e rise st => Sys2Proof.Machine.execZEdge t e rise st s
  | .ssiReadStart t k dt => Sys2Proof.Machine.execSsiReadStart t k dt s
  | .ssiWordComplete t k bits => Sys2Proof.Machine.execSsiWordComplete t k bits s
  | .standstill t src => Sys2Proof.Machine.execStandstill t src s
  | .lostClear h src => Sys2Proof.Machine.execLostClear h src s
  | .refZArm h e => Sys2Proof.Machine.execRefZArm h e s
  | .latArm h u => Sys2Proof.Machine.execLatArm h u s
  | .latDisarm h u => Sys2Proof.Machine.execLatDisarm h u s
  | .latPop h u => Sys2Proof.Machine.execLatPop h u s
  | .latFlush h u => Sys2Proof.Machine.execLatFlush h u s
  | .latchCapture t u st rise => Sys2Proof.Machine.execLatchCapture t u st rise s
  | .latchEntryComplete t u => Sys2Proof.Machine.execLatchEntryComplete t u s
  | .latchEntryOld t u e => Sys2Proof.Machine.execLatchEntryOld t u e s
  | .cmpArm h u => Sys2Proof.Machine.execCmpArm h u s
  | .cmpLateFire t u => Sys2Proof.Machine.execCmpLateFire t u s
  | .cmpDisarm h u => Sys2Proof.Machine.execCmpDisarm h u s
  | .cmpPulseEnd t u => Sys2Proof.Machine.execCmpPulseEnd t u s
  | .tdcCalibration t => Sys2Proof.Machine.execTdcCalibration t s
  | .moverRequest h m n => Sys2Proof.Machine.execMoverRequest h m n s
  | .trackEvaluation t errs => Sys2Proof.Machine.execTrackEvaluation t errs s
  | .hallFaultClear h k hi v => Sys2Proof.Machine.execHallFaultClear h k hi v s
  | .moveAbs h m => Sys2Proof.Machine.execMoveAbs h m s
  | .moveRel h m => Sys2Proof.Machine.execMoveRel h m s
  | .jogPos h m => Sys2Proof.Machine.execJogPos h m s
  | .jogNeg h m => Sys2Proof.Machine.execJogNeg h m s
  | .prfStop h m => Sys2Proof.Machine.execPrfStop h m s
  | .prfAbort h m => Sys2Proof.Machine.execPrfAbort h m s
  | .acdEngage h a => Sys2Proof.Machine.execAcdEngage h a s
  | .acdDisengage h a => Sys2Proof.Machine.execAcdDisengage h a s
  | .pthStart h g => Sys2Proof.Machine.execPthStart h g s
  | .pthHold h g => Sys2Proof.Machine.execPthHold h g s
  | .pthResume h g => Sys2Proof.Machine.execPthResume h g s
  | .pthStop h g => Sys2Proof.Machine.execPthStop h g s
  | .pthAbort h g => Sys2Proof.Machine.execPthAbort h g s
  | .pthPush h g => Sys2Proof.Machine.execPthPush h g s
  | .pthFlush h g => Sys2Proof.Machine.execPthFlush h g s
  | .schArm h x => Sys2Proof.Machine.execSchArm h x s
  | .schCancel h x => Sys2Proof.Machine.execSchCancel h x s
  | .scheduledActionFire t => Sys2Proof.Machine.execScheduledActionFire t s
  | .reqReady h => Sys2Proof.Machine.execReqReady h s
  | .reqRun h => Sys2Proof.Machine.execReqRun h s
  | .reqDoze h => Sys2Proof.Machine.execReqDoze h s
  | .stopAck h => Sys2Proof.Machine.execStopAck h s
  | .safetyCycle t supply rb => Sys2Proof.Machine.execSafetyCycle t supply rb s
  | .slsViolation t a => Sys2Proof.Machine.execSlsViolation t a s
  | .safImplausible t a => Sys2Proof.Machine.execSafImplausible t a s
  | .secLostClear t a => Sys2Proof.Machine.execSecLostClear t a s
  | .drySecond t => Sys2Proof.Machine.execDrySecond t s
  | .rescueReq t => Sys2Proof.Machine.execRescueReq t s
  | .dryExpired t => Sys2Proof.Machine.execDryExpired t s
  | .enterComm h => Sys2Proof.Machine.execEnterComm h s
  | .exitComm h => Sys2Proof.Machine.execExitComm h s
  | .safReset h => Sys2Proof.Machine.execSafReset h s
  | .safStop h => Sys2Proof.Machine.execSafStop h s
  | .dryAck h => Sys2Proof.Machine.execDryAck h s
  | .safConfirm h v => Sys2Proof.Machine.execSafConfirm h v s
  | .confirmRecordDone t => Sys2Proof.Machine.execConfirmRecordDone t s
  | .sigRecomputeDone t => Sys2Proof.Machine.execSigRecomputeDone t s
  | .btGo h a => Sys2Proof.Machine.execBtGo h a s
  | .brakeTestCheckStart t => Sys2Proof.Machine.execBrakeTestCheckStart t s
  | .brakeTestPhaseEnd t => Sys2Proof.Machine.execBrakeTestPhaseEnd t s
  | .btCancel h => Sys2Proof.Machine.execBtCancel h s
  | .btClrFail h a => Sys2Proof.Machine.execBtClrFail h a s
  | .poweredHour t => Sys2Proof.Machine.execPoweredHour t s
  | .proofPduSend t n => Sys2Proof.Machine.execProofPduSend t n s
  | .proofFrameReceive t p f ok => Sys2Proof.Machine.execProofFrameReceive t p f ok s
  | .proofWindowClose t n seq => Sys2Proof.Machine.execProofWindowClose t n seq s
  | .proofWatchdog t n => Sys2Proof.Machine.execProofWatchdog t n s
  | .kfbDiscrepancy t k => Sys2Proof.Machine.execKfbDiscrepancy t k s
  | .kfbDiscrepancyClear t k => Sys2Proof.Machine.execKfbDiscrepancyClear t k s
  | .diagPass t wrong ue ce => Sys2Proof.Machine.execDiagPass t wrong ue ce s
  | .clockCheck t n => Sys2Proof.Machine.execClockCheck t n s
  | .readbackFault t => Sys2Proof.Machine.execReadbackFault t s
  | .fbkStall t => Sys2Proof.Machine.execFbkStall t s
  | .fioInputAccept t n level => Sys2Proof.Machine.execFioInputAccept t n level s
  | .fioOutWrite h v => Sys2Proof.Machine.execFioOutWrite h v s
  | .outputOverload t n => Sys2Proof.Machine.execOutputOverload t n s
  | .outputOvertemp t n => Sys2Proof.Machine.execOutputOvertemp t n s
  | .openWire t n => Sys2Proof.Machine.execOpenWire t n s
  | .diagClear h n v hot => Sys2Proof.Machine.execDiagClear h n v hot s
  | .wdtKick h => Sys2Proof.Machine.execWdtKick h s
  | .wdtExpire t => Sys2Proof.Machine.execWdtExpire t s
  | .wdtExpClear h => Sys2Proof.Machine.execWdtExpClear h s
  | .vfldMeasure t g v => Sys2Proof.Machine.execVfldMeasure t g v s
  | .fieldRecovered t g => Sys2Proof.Machine.execFieldRecovered t g s
  | .uvAck h g => Sys2Proof.Machine.execUvAck h g s
  | .sbcPullEnd t p mA => Sys2Proof.Machine.execSbcPullEnd t p mA s
  | .sbcTestPulse t p mA => Sys2Proof.Machine.execSbcTestPulse t p mA s
  | .sbcFault t p open_ mA => Sys2Proof.Machine.execSbcFault t p open_ mA s
  | .stoTestPulse t n => Sys2Proof.Machine.execStoTestPulse t n s
  | .stoOverload t n => Sys2Proof.Machine.execStoOverload t n s
  | .kfbInputChange t k level => Sys2Proof.Machine.execKfbInputChange t k level s
  | .ptpSyncReceive t p m => Sys2Proof.Machine.execPtpSyncReceive t p m s
  | .ptpFollowUpReceive t p m => Sys2Proof.Machine.execPtpFollowUpReceive t p m s
  | .ptpDelayReqReceive t p m => Sys2Proof.Machine.execPtpDelayReqReceive t p m s
  | .ptpDelayRespReceive t p m => Sys2Proof.Machine.execPtpDelayRespReceive t p m s
  | .ptpPdelayReqReceive t p m dep => Sys2Proof.Machine.execPtpPdelayReqReceive t p m dep s
  | .ptpPdelayRespReceive t p m => Sys2Proof.Machine.execPtpPdelayRespReceive t p m s
  | .ptpPdelayRespFollowUpReceive t p m => Sys2Proof.Machine.execPtpPdelayRespFollowUpReceive t p m s
  | .ptpAnnounceReceive t p m => Sys2Proof.Machine.execPtpAnnounceReceive t p m s
  | .ptpOtherMessage t p l => Sys2Proof.Machine.execPtpOtherMessage t p l s
  | .ptpSyncSend t p => Sys2Proof.Machine.execPtpSyncSend t p s
  | .ptpAnnounceSend t p => Sys2Proof.Machine.execPtpAnnounceSend t p s
  | .ptpDelayReqSend t p => Sys2Proof.Machine.execPtpDelayReqSend t p s
  | .ptpPdelayReqSend t p => Sys2Proof.Machine.execPtpPdelayReqSend t p s
  | .announceReceiptTimeout t p => Sys2Proof.Machine.execAnnounceReceiptTimeout t p s
  | .offsetTimeout t p => Sys2Proof.Machine.execOffsetTimeout t p s
  | .slewComplete t => Sys2Proof.Machine.execSlewComplete t s
  | .acceptStep h => Sys2Proof.Machine.execAcceptStep h s
  | .timSet h => Sys2Proof.Machine.execTimSet h s
  | .ppsInEdge t => Sys2Proof.Machine.execPpsInEdge t s
  | .ppsOutRise t => Sys2Proof.Machine.execPpsOutRise t s
  | .ppsOutFall t => Sys2Proof.Machine.execPpsOutFall t s
  | .aonIncMeasure t v => Sys2Proof.Machine.execAonIncMeasure t v s
  | .folioFrameReceive t p f ok err => Sys2Proof.Machine.execFolioFrameReceive t p f ok err s
  | .receiveApply t errs => Sys2Proof.Machine.execReceiveApply t errs s
  | .arpRequest t p l sip tip => Sys2Proof.Machine.execArpRequest t p l sip tip s
  | .wakeFrame t p f => Sys2Proof.Machine.execWakeFrame t p f s
  | .layoutDue t x err => Sys2Proof.Machine.execLayoutDue t x err s
  | .layoutWorkComplete t errs => Sys2Proof.Machine.execLayoutWorkComplete t errs s
  | .frameDeparture t p => Sys2Proof.Machine.execFrameDeparture t p s
  | .layoutLost t x errs => Sys2Proof.Machine.execLayoutLost t x errs s
  | .pathLost t x p => Sys2Proof.Machine.execPathLost t x p s
  | .contextSilence t x => Sys2Proof.Machine.execContextSilence t x s
  | .keyLoad h => Sys2Proof.Machine.execKeyLoad h s
  | .keyActivate h => Sys2Proof.Machine.execKeyActivate h s
  | .linkChange t p sp eee => Sys2Proof.Machine.execLinkChange t p sp eee s
  | .txKick h => Sys2Proof.Machine.execTxKick h s
  | .ethcFrameSent t errs => Sys2Proof.Machine.execEthcFrameSent t errs s
  | .ethcFrameReceive t f ok errs => Sys2Proof.Machine.execEthcFrameReceive t f ok errs s
  | .canInitSet h k => Sys2Proof.Machine.execCanInitSet h k s
  | .initEffect t k => Sys2Proof.Machine.execInitEffect t k s
  | .canInitClear h k => Sys2Proof.Machine.execCanInitClear h k s
  | .integrationDone t k => Sys2Proof.Machine.execIntegrationDone t k s
  | .canTxreq h k b => Sys2Proof.Machine.execCanTxreq h k b s
  | .canTxcancel h k b tx => Sys2Proof.Machine.execCanTxcancel h k b tx s
  | .canFrameTransmitted t k sof err => Sys2Proof.Machine.execCanFrameTransmitted t k sof err s
  | .arbitrationLost t k sof => Sys2Proof.Machine.execArbitrationLost t k sof s
  | .canBusError t k tx sof e => Sys2Proof.Machine.execCanBusError t k tx sof e s
  | .canRecover h k => Sys2Proof.Machine.execCanRecover h k s
  | .canRecovered t k => Sys2Proof.Machine.execCanRecovered t k s
  | .canFrameReceive t k sof f => Sys2Proof.Machine.execCanFrameReceive t k sof f s
  | .canPop h k q => Sys2Proof.Machine.execCanPop h k q s
  | .windowRefill t k q err => Sys2Proof.Machine.execWindowRefill t k q err s
  | .queueFlush h k q => Sys2Proof.Machine.execQueueFlush h k q s
  | .protocolException t k => Sys2Proof.Machine.execProtocolException t k s
  | .protocolExceptionEnd t k => Sys2Proof.Machine.execProtocolExceptionEnd t k s
  | .canWakeMatch t k id ide => Sys2Proof.Machine.execCanWakeMatch t k id ide s
  | .recorderArm h r => Sys2Proof.Machine.execRecorderArm h r s
  | .recorderStop h r => Sys2Proof.Machine.execRecorderStop h r s
  | .armAll h v => Sys2Proof.Machine.execArmAll h v s
  | .stopAll h v => Sys2Proof.Machine.execStopAll h v s
  | .recForce h r => Sys2Proof.Machine.execRecForce h r s
  | .recorderSample t r ws errs => Sys2Proof.Machine.execRecorderSample t r ws errs s
  | .acqTrigger t c st rise => Sys2Proof.Machine.execAcqTrigger t c st rise s
  | .recordComplete t r errs => Sys2Proof.Machine.execRecordComplete t r errs s
  | .slotRelease h r v => Sys2Proof.Machine.execSlotRelease h r v s
  | .histClear h x => Sys2Proof.Machine.execHistClear h x s
  | .mapClear h x => Sys2Proof.Machine.execMapClear h x s
  | .feedMeasure t v0 v1 vor => Sys2Proof.Machine.execFeedMeasure t v0 v1 vor s
  | .feedClassChange t f => Sys2Proof.Machine.execFeedClassChange t f s
  | .feedSelect t => Sys2Proof.Machine.execFeedSelect t s
  | .powerFail t dip => Sys2Proof.Machine.execPowerFail t dip s
  | .flushDone t => Sys2Proof.Machine.execFlushDone t s
  | .regionEraseDone t => Sys2Proof.Machine.execRegionEraseDone t s
  | .powerOff t => Sys2Proof.Machine.execPowerOff t s
  | .essenceCapture t errs => Sys2Proof.Machine.execEssenceCapture t errs s
  | .essenceSent t full => Sys2Proof.Machine.execEssenceSent t full s
  | .essenceReceive t e tr => Sys2Proof.Machine.execEssenceReceive t e tr s
  | .standbyCounterLatch t => Sys2Proof.Machine.execStandbyCounterLatch t s
  | .heartbeatPulse t => Sys2Proof.Machine.execHeartbeatPulse t s
  | .ownershipClaim t seen => Sys2Proof.Machine.execOwnershipClaim t seen s
  | .ownConflict t => Sys2Proof.Machine.execOwnConflict t s
  | .ownInChange t level => Sys2Proof.Machine.execOwnInChange t level s
  | .hbSilence t => Sys2Proof.Machine.execHbSilence t s
  | .penFbChange t level => Sys2Proof.Machine.execPenFbChange t level s
  | .mirrorLinkLoss t => Sys2Proof.Machine.execMirrorLinkLoss t s
  | .takeoverRestoreDone t => Sys2Proof.Machine.execTakeoverRestoreDone t s
  | .takeoverComplete t => Sys2Proof.Machine.execTakeoverComplete t s
  | .takebackRequest t quiet => Sys2Proof.Machine.execTakebackRequest t quiet s
  | .handbackConfirm t => Sys2Proof.Machine.execHandbackConfirm t s
  | .parRelease h => Sys2Proof.Machine.execParRelease h s
  | .releaseTimeout t => Sys2Proof.Machine.execReleaseTimeout t s
  | .batteryDetect t f => Sys2Proof.Machine.execBatteryDetect t f s
  | .rescueTrigger t => Sys2Proof.Machine.execRescueTrigger t s
  | .rescueGo h => Sys2Proof.Machine.execRescueGo h s
  | .rescueHoldValid t m errs => Sys2Proof.Machine.execRescueHoldValid t m errs s
  | .rescueHoldTimeout t m errs => Sys2Proof.Machine.execRescueHoldTimeout t m errs s
  | .rescueUndervoltage t => Sys2Proof.Machine.execRescueUndervoltage t s
  | .xinLoss t => Sys2Proof.Machine.execXinLoss t s
  | .x32Loss t => Sys2Proof.Machine.execX32Loss t s
  | .domainPowerSwitch t d on => Sys2Proof.Machine.execDomainPowerSwitch t d on s
  | .idleTimer t => Sys2Proof.Machine.execIdleTimer t s
  | .dozeEntry t => Sys2Proof.Machine.execDozeEntry t s
  | .wakeComplete t errs blks => Sys2Proof.Machine.execWakeComplete t errs blks s
  | .aonWakeTimer t => Sys2Proof.Machine.execAonWakeTimer t s
  | .thermalRead t tj region => Sys2Proof.Machine.execThermalRead t tj region s
  | .scrubBlock t r found => Sys2Proof.Machine.execScrubBlock t r found s
  | .eventLogWrite t => Sys2Proof.Machine.execEventLogWrite t s
  | .evtPop h n => Sys2Proof.Machine.execEvtPop h n s
  | .evtClear h => Sys2Proof.Machine.execEvtClear h s
  | .evtEntryCapture h err => Sys2Proof.Machine.execEvtEntryCapture h err s
  | .tapReset t => Sys2Proof.Machine.execTapReset t s
  | .tapExtest t cells levels => Sys2Proof.Machine.execTapExtest t cells levels s
  | .tapIdcode t => Sys2Proof.Machine.execTapIdcode t s
  | .samplePreload t cells levels => Sys2Proof.Machine.execSamplePreload t cells levels s
  | .tapUsercode t => Sys2Proof.Machine.execTapUsercode t s
  | .tapClamp t => Sys2Proof.Machine.execTapClamp t s
  | .tapHighz t => Sys2Proof.Machine.execTapHighz t s
  | .tapBypass t => Sys2Proof.Machine.execTapBypass t s
  | .powerUp t => Sys2Proof.Machine.execPowerUp t s
  | .resetRelease t => Sys2Proof.Machine.execResetRelease t s
  | .pornRelease t => Sys2Proof.Machine.execPornRelease t s
  | .flashTimeout t => Sys2Proof.Machine.execFlashTimeout t s
  | .imageStaged t img errs => Sys2Proof.Machine.execImageStaged t img errs s
  | .signatureVerified t => Sys2Proof.Machine.execSignatureVerified t s
  | .galleyApply t => Sys2Proof.Machine.execGalleyApply t s
  | .hostLoad h => Sys2Proof.Machine.execHostLoad h s
  | .skipFlash h => Sys2Proof.Machine.execSkipFlash h s
  | .keyProg h slot => Sys2Proof.Machine.execKeyProg h slot s
  | .setRequire h => Sys2Proof.Machine.execSetRequire h s
  | .keyProgDone t => Sys2Proof.Machine.execKeyProgDone t s
  | .pornLow t => Sys2Proof.Machine.execPornLow t s
  | .deviceReset t => Sys2Proof.Machine.execDeviceReset t s
  | .rstnRelease t => Sys2Proof.Machine.execRstnRelease t s
  | .hbInPulse t => Sys2Proof.Machine.execHbInPulse t s
  | .mirrorLinkUp t => Sys2Proof.Machine.execMirrorLinkUp t s
  | .ownOutRelease t => Sys2Proof.Machine.execOwnOutRelease t s
  | .vholdLow t => Sys2Proof.Machine.execVholdLow t s

end Sys2Proof.Machine
end

