-- ==== Sys2Proof/Laws/Data.lean ====
section
/-! SUPPORT. Sys2Proof/Laws/Data.lean: the laws of sparse data and of bit fields. -/

namespace Sys2Proof.Machine

/-! ### Sparse data: a read after a write, and the canonical form -/

variable {α : Type}

@[simp] theorem SMap.get_nil (d : Nat → α) (k : Nat) : SMap.get d [] k = d k := rfl

theorem SMap.get_cons (d : Nat → α) (a : Nat) (v : α) (r : SMap α) (k : Nat) :
    SMap.get d ((a, v) :: r) k = if a = k then v else SMap.get d r k := rfl

theorem SMap.get_ins (d : Nat → α) (m : SMap α) (k : Nat) (v : α) (j : Nat) :
    SMap.get d (SMap.ins m k v) j = if j = k then v else SMap.get d m j := by
  induction m with
  | nil => simp only [SMap.ins, SMap.get, eq_comm]
  | cons c r ih =>
    obtain ⟨a, w⟩ := c
    simp only [SMap.ins]
    split_ifs with h1 h2 <;> simp only [SMap.get_cons, ih] <;> split_ifs <;> first | rfl | (exfalso; omega)

theorem SMap.get_filter (d : Nat → α) (m : SMap α) (k j : Nat) :
    SMap.get d (m.filter (fun c => c.1 != k)) j = if j = k then d j else SMap.get d m j := by
  induction m with
  | nil => simp
  | cons c r ih =>
    obtain ⟨a, w⟩ := c
    by_cases h : a = k
    · subst h
      simp only [List.filter_cons, bne_self_eq_false, Bool.false_eq_true, ↓reduceIte, ih, SMap.get_cons]
      split_ifs with h1 h2 <;> first | rfl | (exfalso; omega)
    · simp only [List.filter_cons, bne_iff_ne, ne_eq, h, not_false_eq_true, ↓reduceIte, SMap.get_cons, ih]
      split_ifs with h1 h2 <;> first | rfl | (exfalso; omega)

/-- A read after a write gives what was written, and a write leaves every other key alone. -/
theorem SMap.get_put [DecidableEq α] (d : Nat → α) (m : SMap α) (k : Nat) (v : α) (j : Nat) :
    SMap.get d (SMap.put d m k v) j = if j = k then v else SMap.get d m j := by
  unfold SMap.put
  split_ifs with h h1 h1
  · rw [SMap.get_filter, if_pos h1, h, h1]
  · rw [SMap.get_filter, if_neg h1]
  · rw [SMap.get_ins, if_pos h1]
  · rw [SMap.get_ins, if_neg h1]

@[simp] theorem SMap.get_put_self [DecidableEq α] (d : Nat → α) (m : SMap α) (k : Nat) (v : α) :
    SMap.get d (SMap.put d m k v) k = v := by rw [SMap.get_put, if_pos rfl]

theorem SMap.get_put_ne [DecidableEq α] (d : Nat → α) (m : SMap α) (k : Nat) (v : α) {j : Nat} (h : j ≠ k) :
    SMap.get d (SMap.put d m k v) j = SMap.get d m j := by rw [SMap.get_put, if_neg h]

theorem SMap.above_trans {a b : Nat} {m : SMap α} (h : a < b) (hm : SMap.above b m = true) : SMap.above a m = true := by
  cases m with
  | nil => rfl
  | cons c r => simp only [SMap.above, decide_eq_true_eq] at *; omega

theorem SMap.above_ins {a k : Nat} {v : α} {m : SMap α} (h : a < k) (hm : SMap.above a m = true) :
    SMap.above a (SMap.ins m k v) = true := by
  cases m with
  | nil => simpa [SMap.ins, SMap.above] using h
  | cons c r =>
    obtain ⟨b, w⟩ := c
    simp only [SMap.ins]
    split_ifs <;> simp only [SMap.above, decide_eq_true_eq] at * <;> omega

theorem SMap.wf_ins [DecidableEq α] {d : Nat → α} {m : SMap α} {k : Nat} {v : α} (hv : v ≠ d k) (hm : SMap.wf d m = true) :
    SMap.wf d (SMap.ins m k v) = true := by
  induction m with
  | nil => simp [SMap.ins, SMap.wf, SMap.above, hv]
  | cons c r ih =>
    obtain ⟨a, w⟩ := c
    simp only [SMap.wf, Bool.and_eq_true, Bool.not_eq_true', decide_eq_false_iff_not] at hm
    obtain ⟨⟨h1, h2⟩, h3⟩ := hm
    simp only [SMap.ins]
    split_ifs with hk hk'
    · have ha : SMap.above k ((a, w) :: r) = true := by simpa [SMap.above] using hk
      simp [SMap.wf, ha, hv, h1, h2, h3]
    · subst hk'; simp [SMap.wf, hv, h1, h3]
    · simp only [SMap.wf, Bool.and_eq_true, Bool.not_eq_true', decide_eq_false_iff_not]
      exact ⟨⟨SMap.above_ins (by omega) h1, h2⟩, ih h3⟩

theorem SMap.above_filter [DecidableEq α] {d : Nat → α} {m : SMap α} {a : Nat} (p : Nat × α → Bool) (hm : SMap.wf d m = true)
    (h : SMap.above a m = true) : SMap.above a (m.filter p) = true := by
  induction m with
  | nil => rfl
  | cons c r ih =>
    obtain ⟨b, w⟩ := c
    simp only [SMap.wf, Bool.and_eq_true, Bool.not_eq_true', decide_eq_false_iff_not] at hm
    rw [List.filter_cons]
    split_ifs
    · exact h
    · exact ih hm.2 (SMap.above_trans (by simpa [SMap.above] using h) hm.1.1)

theorem SMap.wf_filter [DecidableEq α] {d : Nat → α} {m : SMap α} (p : Nat × α → Bool) (hm : SMap.wf d m = true) :
    SMap.wf d (m.filter p) = true := by
  induction m with
  | nil => rfl
  | cons c r ih =>
    obtain ⟨b, w⟩ := c
    have hm' := hm
    simp only [SMap.wf, Bool.and_eq_true, Bool.not_eq_true', decide_eq_false_iff_not] at hm'
    rw [List.filter_cons]
    split_ifs
    · simp only [SMap.wf, Bool.and_eq_true, Bool.not_eq_true', decide_eq_false_iff_not]
      exact ⟨⟨SMap.above_filter p hm'.2 hm'.1.1, hm'.1.2⟩, ih hm'.2⟩
    · exact ih hm'.2

/-- A write keeps the canonical form. -/
theorem SMap.wf_put [DecidableEq α] {d : Nat → α} {m : SMap α} (k : Nat) (v : α) (hm : SMap.wf d m = true) :
    SMap.wf d (SMap.put d m k v) = true := by
  unfold SMap.put
  split_ifs with h
  · exact SMap.wf_filter _ hm
  · exact SMap.wf_ins h hm

/-! ### Bit fields -/

theorem testBit_bitsOf (w : Word) (l n i : Nat) : (bitsOf w l n).testBit i = (decide (i < n) && w.getLsbD (l + i)) := by
  unfold bitsOf
  rw [Nat.testBit_mod_two_pow, Nat.testBit_div_two_pow, ← BitVec.testBit_toNat, Nat.add_comm]

theorem getLsbD_setBits (w : Word) (l n v i : Nat) (hi : i < 32) :
    (setBits w l n v).getLsbD i = if l ≤ i ∧ i < l + n then v.testBit (i - l) else w.getLsbD i := by
  unfold setBits
  simp only [BitVec.getLsbD_or, BitVec.getLsbD_and, BitVec.getLsbD_not, BitVec.getLsbD_ofNat, hi, decide_true, Bool.true_and,
    Nat.testBit_mul_two_pow, Nat.testBit_two_pow_sub_one, Nat.testBit_mod_two_pow]
  by_cases h1 : l ≤ i <;> by_cases h2 : i - l < n
  · rw [if_pos (show l ≤ i ∧ i < l + n by omega)]
    simp [h1, h2]
  all_goals
    rw [if_neg (show ¬ (l ≤ i ∧ i < l + n) by omega)]
    simp [h1, h2]

/-- A field that is written reads what was written, in its width. -/
theorem bitsOf_setBits_self (w : Word) (l n v : Nat) (h : l + n ≤ 32) : bitsOf (setBits w l n v) l n = v % 2 ^ n := by
  apply Nat.eq_of_testBit_eq
  intro i
  rw [testBit_bitsOf, Nat.testBit_mod_two_pow]
  by_cases hi : i < n
  · rw [getLsbD_setBits _ _ _ _ _ (by omega), if_pos (by omega), Nat.add_sub_cancel_left]
  · simp [hi]

/-- A write of one field leaves a field of other bits as it was. -/
theorem bitsOf_setBits_other (w : Word) (l n v l' n' : Nat) (h' : l' + n' ≤ 32) (h : l + n ≤ l' ∨ l' + n' ≤ l) :
    bitsOf (setBits w l n v) l' n' = bitsOf w l' n' := by
  apply Nat.eq_of_testBit_eq
  intro i
  rw [testBit_bitsOf, testBit_bitsOf]
  by_cases hi : i < n'
  · rw [getLsbD_setBits _ _ _ _ _ (by omega), if_neg (by omega)]
  · simp [hi]

theorem bitsOf_lt (w : Word) (l n : Nat) : bitsOf w l n < 2 ^ n := Nat.mod_lt _ (Nat.two_pow_pos n)

end Sys2Proof.Machine
end

