-- ==== Sys2Proof/Laws/State.lean ====
section
/-! SUPPORT. Sys2Proof/Laws/State.lean: what each named update of State leaves, field by field, and what a register, a field, a
memory byte or a unit reads after it. -/

namespace Sys2Proof.Machine

variable (s : State)

/-! ### `wr` writes regs only -/

@[simp] theorem wr_sys (a : Nat) (v : Word) : (wr s a v).sys = s.sys := rfl
@[simp] theorem wr_quo (a : Nat) (v : Word) : (wr s a v).quo = s.quo := rfl
@[simp] theorem wr_evt (a : Nat) (v : Word) : (wr s a v).evt = s.evt := rfl
@[simp] theorem wr_mmq (a : Nat) (v : Word) : (wr s a v).mmq = s.mmq := rfl
@[simp] theorem wr_trigq (a : Nat) (v : Word) : (wr s a v).trigq = s.trigq := rfl
@[simp] theorem wr_mms (a : Nat) (v : Word) : (wr s a v).mms = s.mms := rfl
@[simp] theorem wr_plts (a : Nat) (v : Word) : (wr s a v).plts = s.plts := rfl
@[simp] theorem wr_tim (a : Nat) (v : Word) : (wr s a v).tim = s.tim := rfl
@[simp] theorem wr_pwr (a : Nat) (v : Word) : (wr s a v).pwr = s.pwr := rfl
@[simp] theorem wr_tst (a : Nat) (v : Word) : (wr s a v).tst = s.tst := rfl
@[simp] theorem wr_pins (a : Nat) (v : Word) : (wr s a v).pins = s.pins := rfl
@[simp] theorem wr_edg (a : Nat) (v : Word) : (wr s a v).edg = s.edg := rfl
@[simp] theorem wr_aux (a : Nat) (v : Word) : (wr s a v).aux = s.aux := rfl
@[simp] theorem wr_ain (a : Nat) (v : Word) : (wr s a v).ain = s.ain := rfl
@[simp] theorem wr_ainStart (a : Nat) (v : Word) : (wr s a v).ainStart = s.ainStart := rfl
@[simp] theorem wr_segOut (a : Nat) (v : Word) : (wr s a v).segOut = s.segOut := rfl
@[simp] theorem wr_trk (a : Nat) (v : Word) : (wr s a v).trk = s.trk := rfl
@[simp] theorem wr_src (a : Nat) (v : Word) : (wr s a v).src = s.src := rfl
@[simp] theorem wr_lat (a : Nat) (v : Word) : (wr s a v).lat = s.lat := rfl
@[simp] theorem wr_cmp (a : Nat) (v : Word) : (wr s a v).cmp = s.cmp := rfl
@[simp] theorem wr_mot (a : Nat) (v : Word) : (wr s a v).mot = s.mot := rfl
@[simp] theorem wr_fio (a : Nat) (v : Word) : (wr s a v).fio = s.fio := rfl
@[simp] theorem wr_saf (a : Nat) (v : Word) : (wr s a v).saf = s.saf := rfl
@[simp] theorem wr_nv (a : Nat) (v : Word) : (wr s a v).nv = s.nv := rfl
@[simp] theorem wr_net (a : Nat) (v : Word) : (wr s a v).net = s.net := rfl
@[simp] theorem wr_can (a : Nat) (v : Word) : (wr s a v).can = s.can := rfl
@[simp] theorem wr_acq (a : Nat) (v : Word) : (wr s a v).acq = s.acq := rfl
@[simp] theorem wr_par (a : Nat) (v : Word) : (wr s a v).par = s.par := rfl
@[simp] theorem wr_rom (a : Nat) (v : Word) : (wr s a v).rom = s.rom := rfl
@[simp] theorem wr_gly (a : Nat) (v : Word) : (wr s a v).gly = s.gly := rfl
@[simp] theorem wr_stuck (a : Nat) (v : Word) : (wr s a v).stuck = s.stuck := rfl
@[simp] theorem wr_settle (a : Nat) (v : Word) : (wr s a v).settle = s.settle := rfl
@[simp] theorem wr_since (a : Nat) (v : Word) : (wr s a v).since = s.since := rfl
@[simp] theorem wr_page (a : Nat) (v : Word) : (wr s a v).page = s.page := rfl
@[simp] theorem wr_galley (a : Nat) (v : Word) : (wr s a v).galley = s.galley := rfl
@[simp] theorem wr_mem (a : Nat) (v : Word) : (wr s a v).mem = s.mem := rfl
@[simp] theorem wr_poison (a : Nat) (v : Word) : (wr s a v).poison = s.poison := rfl
@[simp] theorem wr_capPcie (a : Nat) (v : Word) : (wr s a v).capPcie = s.capPcie := rfl
@[simp] theorem wr_capQspi (a : Nat) (v : Word) : (wr s a v).capQspi = s.capQspi := rfl
@[simp] theorem wr_qspi (a : Nat) (v : Word) : (wr s a v).qspi = s.qspi := rfl
@[simp] theorem wr_hwCyc (a : Nat) (v : Word) : (wr s a v).hwCyc = s.hwCyc := rfl
@[simp] theorem wr_hwBits (a : Nat) (v : Word) : (wr s a v).hwBits = s.hwBits := rfl
@[simp] theorem wr_out (a : Nat) (v : Word) : (wr s a v).out = s.out := rfl
@[simp] theorem wr_free (a : Nat) (v : Word) : (wr s a v).free = s.free := rfl
@[simp] theorem wr_pending (a : Nat) (v : Word) : (wr s a v).pending = s.pending := rfl

/-! ### `fset` writes regs only -/

@[simp] theorem fset_sys (f : Fld) (v i j k : Nat) : (fset s f v i j k).sys = s.sys := rfl
@[simp] theorem fset_quo (f : Fld) (v i j k : Nat) : (fset s f v i j k).quo = s.quo := rfl
@[simp] theorem fset_evt (f : Fld) (v i j k : Nat) : (fset s f v i j k).evt = s.evt := rfl
@[simp] theorem fset_mmq (f : Fld) (v i j k : Nat) : (fset s f v i j k).mmq = s.mmq := rfl
@[simp] theorem fset_trigq (f : Fld) (v i j k : Nat) : (fset s f v i j k).trigq = s.trigq := rfl
@[simp] theorem fset_mms (f : Fld) (v i j k : Nat) : (fset s f v i j k).mms = s.mms := rfl
@[simp] theorem fset_plts (f : Fld) (v i j k : Nat) : (fset s f v i j k).plts = s.plts := rfl
@[simp] theorem fset_tim (f : Fld) (v i j k : Nat) : (fset s f v i j k).tim = s.tim := rfl
@[simp] theorem fset_pwr (f : Fld) (v i j k : Nat) : (fset s f v i j k).pwr = s.pwr := rfl
@[simp] theorem fset_tst (f : Fld) (v i j k : Nat) : (fset s f v i j k).tst = s.tst := rfl
@[simp] theorem fset_pins (f : Fld) (v i j k : Nat) : (fset s f v i j k).pins = s.pins := rfl
@[simp] theorem fset_edg (f : Fld) (v i j k : Nat) : (fset s f v i j k).edg = s.edg := rfl
@[simp] theorem fset_aux (f : Fld) (v i j k : Nat) : (fset s f v i j k).aux = s.aux := rfl
@[simp] theorem fset_ain (f : Fld) (v i j k : Nat) : (fset s f v i j k).ain = s.ain := rfl
@[simp] theorem fset_ainStart (f : Fld) (v i j k : Nat) : (fset s f v i j k).ainStart = s.ainStart := rfl
@[simp] theorem fset_segOut (f : Fld) (v i j k : Nat) : (fset s f v i j k).segOut = s.segOut := rfl
@[simp] theorem fset_trk (f : Fld) (v i j k : Nat) : (fset s f v i j k).trk = s.trk := rfl
@[simp] theorem fset_src (f : Fld) (v i j k : Nat) : (fset s f v i j k).src = s.src := rfl
@[simp] theorem fset_lat (f : Fld) (v i j k : Nat) : (fset s f v i j k).lat = s.lat := rfl
@[simp] theorem fset_cmp (f : Fld) (v i j k : Nat) : (fset s f v i j k).cmp = s.cmp := rfl
@[simp] theorem fset_mot (f : Fld) (v i j k : Nat) : (fset s f v i j k).mot = s.mot := rfl
@[simp] theorem fset_fio (f : Fld) (v i j k : Nat) : (fset s f v i j k).fio = s.fio := rfl
@[simp] theorem fset_saf (f : Fld) (v i j k : Nat) : (fset s f v i j k).saf = s.saf := rfl
@[simp] theorem fset_nv (f : Fld) (v i j k : Nat) : (fset s f v i j k).nv = s.nv := rfl
@[simp] theorem fset_net (f : Fld) (v i j k : Nat) : (fset s f v i j k).net = s.net := rfl
@[simp] theorem fset_can (f : Fld) (v i j k : Nat) : (fset s f v i j k).can = s.can := rfl
@[simp] theorem fset_acq (f : Fld) (v i j k : Nat) : (fset s f v i j k).acq = s.acq := rfl
@[simp] theorem fset_par (f : Fld) (v i j k : Nat) : (fset s f v i j k).par = s.par := rfl
@[simp] theorem fset_rom (f : Fld) (v i j k : Nat) : (fset s f v i j k).rom = s.rom := rfl
@[simp] theorem fset_gly (f : Fld) (v i j k : Nat) : (fset s f v i j k).gly = s.gly := rfl
@[simp] theorem fset_stuck (f : Fld) (v i j k : Nat) : (fset s f v i j k).stuck = s.stuck := rfl
@[simp] theorem fset_settle (f : Fld) (v i j k : Nat) : (fset s f v i j k).settle = s.settle := rfl
@[simp] theorem fset_since (f : Fld) (v i j k : Nat) : (fset s f v i j k).since = s.since := rfl
@[simp] theorem fset_page (f : Fld) (v i j k : Nat) : (fset s f v i j k).page = s.page := rfl
@[simp] theorem fset_galley (f : Fld) (v i j k : Nat) : (fset s f v i j k).galley = s.galley := rfl
@[simp] theorem fset_mem (f : Fld) (v i j k : Nat) : (fset s f v i j k).mem = s.mem := rfl
@[simp] theorem fset_poison (f : Fld) (v i j k : Nat) : (fset s f v i j k).poison = s.poison := rfl
@[simp] theorem fset_capPcie (f : Fld) (v i j k : Nat) : (fset s f v i j k).capPcie = s.capPcie := rfl
@[simp] theorem fset_capQspi (f : Fld) (v i j k : Nat) : (fset s f v i j k).capQspi = s.capQspi := rfl
@[simp] theorem fset_qspi (f : Fld) (v i j k : Nat) : (fset s f v i j k).qspi = s.qspi := rfl
@[simp] theorem fset_hwCyc (f : Fld) (v i j k : Nat) : (fset s f v i j k).hwCyc = s.hwCyc := rfl
@[simp] theorem fset_hwBits (f : Fld) (v i j k : Nat) : (fset s f v i j k).hwBits = s.hwBits := rfl
@[simp] theorem fset_out (f : Fld) (v i j k : Nat) : (fset s f v i j k).out = s.out := rfl
@[simp] theorem fset_free (f : Fld) (v i j k : Nat) : (fset s f v i j k).free = s.free := rfl
@[simp] theorem fset_pending (f : Fld) (v i j k : Nat) : (fset s f v i j k).pending = s.pending := rfl

/-! ### `fsetBit` writes regs only -/

@[simp] theorem fsetBit_sys (f : Fld) (b : Nat) (v : Bool) (i j k : Nat) : (fsetBit s f b v i j k).sys = s.sys := rfl
@[simp] theorem fsetBit_quo (f : Fld) (b : Nat) (v : Bool) (i j k : Nat) : (fsetBit s f b v i j k).quo = s.quo := rfl
@[simp] theorem fsetBit_evt (f : Fld) (b : Nat) (v : Bool) (i j k : Nat) : (fsetBit s f b v i j k).evt = s.evt := rfl
@[simp] theorem fsetBit_mmq (f : Fld) (b : Nat) (v : Bool) (i j k : Nat) : (fsetBit s f b v i j k).mmq = s.mmq := rfl
@[simp] theorem fsetBit_trigq (f : Fld) (b : Nat) (v : Bool) (i j k : Nat) : (fsetBit s f b v i j k).trigq = s.trigq := rfl
@[simp] theorem fsetBit_mms (f : Fld) (b : Nat) (v : Bool) (i j k : Nat) : (fsetBit s f b v i j k).mms = s.mms := rfl
@[simp] theorem fsetBit_plts (f : Fld) (b : Nat) (v : Bool) (i j k : Nat) : (fsetBit s f b v i j k).plts = s.plts := rfl
@[simp] theorem fsetBit_tim (f : Fld) (b : Nat) (v : Bool) (i j k : Nat) : (fsetBit s f b v i j k).tim = s.tim := rfl
@[simp] theorem fsetBit_pwr (f : Fld) (b : Nat) (v : Bool) (i j k : Nat) : (fsetBit s f b v i j k).pwr = s.pwr := rfl
@[simp] theorem fsetBit_tst (f : Fld) (b : Nat) (v : Bool) (i j k : Nat) : (fsetBit s f b v i j k).tst = s.tst := rfl
@[simp] theorem fsetBit_pins (f : Fld) (b : Nat) (v : Bool) (i j k : Nat) : (fsetBit s f b v i j k).pins = s.pins := rfl
@[simp] theorem fsetBit_edg (f : Fld) (b : Nat) (v : Bool) (i j k : Nat) : (fsetBit s f b v i j k).edg = s.edg := rfl
@[simp] theorem fsetBit_aux (f : Fld) (b : Nat) (v : Bool) (i j k : Nat) : (fsetBit s f b v i j k).aux = s.aux := rfl
@[simp] theorem fsetBit_ain (f : Fld) (b : Nat) (v : Bool) (i j k : Nat) : (fsetBit s f b v i j k).ain = s.ain := rfl
@[simp] theorem fsetBit_ainStart (f : Fld) (b : Nat) (v : Bool) (i j k : Nat) : (fsetBit s f b v i j k).ainStart = s.ainStart := rfl
@[simp] theorem fsetBit_segOut (f : Fld) (b : Nat) (v : Bool) (i j k : Nat) : (fsetBit s f b v i j k).segOut = s.segOut := rfl
@[simp] theorem fsetBit_trk (f : Fld) (b : Nat) (v : Bool) (i j k : Nat) : (fsetBit s f b v i j k).trk = s.trk := rfl
@[simp] theorem fsetBit_src (f : Fld) (b : Nat) (v : Bool) (i j k : Nat) : (fsetBit s f b v i j k).src = s.src := rfl
@[simp] theorem fsetBit_lat (f : Fld) (b : Nat) (v : Bool) (i j k : Nat) : (fsetBit s f b v i j k).lat = s.lat := rfl
@[simp] theorem fsetBit_cmp (f : Fld) (b : Nat) (v : Bool) (i j k : Nat) : (fsetBit s f b v i j k).cmp = s.cmp := rfl
@[simp] theorem fsetBit_mot (f : Fld) (b : Nat) (v : Bool) (i j k : Nat) : (fsetBit s f b v i j k).mot = s.mot := rfl
@[simp] theorem fsetBit_fio (f : Fld) (b : Nat) (v : Bool) (i j k : Nat) : (fsetBit s f b v i j k).fio = s.fio := rfl
@[simp] theorem fsetBit_saf (f : Fld) (b : Nat) (v : Bool) (i j k : Nat) : (fsetBit s f b v i j k).saf = s.saf := rfl
@[simp] theorem fsetBit_nv (f : Fld) (b : Nat) (v : Bool) (i j k : Nat) : (fsetBit s f b v i j k).nv = s.nv := rfl
@[simp] theorem fsetBit_net (f : Fld) (b : Nat) (v : Bool) (i j k : Nat) : (fsetBit s f b v i j k).net = s.net := rfl
@[simp] theorem fsetBit_can (f : Fld) (b : Nat) (v : Bool) (i j k : Nat) : (fsetBit s f b v i j k).can = s.can := rfl
@[simp] theorem fsetBit_acq (f : Fld) (b : Nat) (v : Bool) (i j k : Nat) : (fsetBit s f b v i j k).acq = s.acq := rfl
@[simp] theorem fsetBit_par (f : Fld) (b : Nat) (v : Bool) (i j k : Nat) : (fsetBit s f b v i j k).par = s.par := rfl
@[simp] theorem fsetBit_rom (f : Fld) (b : Nat) (v : Bool) (i j k : Nat) : (fsetBit s f b v i j k).rom = s.rom := rfl
@[simp] theorem fsetBit_gly (f : Fld) (b : Nat) (v : Bool) (i j k : Nat) : (fsetBit s f b v i j k).gly = s.gly := rfl
@[simp] theorem fsetBit_stuck (f : Fld) (b : Nat) (v : Bool) (i j k : Nat) : (fsetBit s f b v i j k).stuck = s.stuck := rfl
@[simp] theorem fsetBit_settle (f : Fld) (b : Nat) (v : Bool) (i j k : Nat) : (fsetBit s f b v i j k).settle = s.settle := rfl
@[simp] theorem fsetBit_since (f : Fld) (b : Nat) (v : Bool) (i j k : Nat) : (fsetBit s f b v i j k).since = s.since := rfl
@[simp] theorem fsetBit_page (f : Fld) (b : Nat) (v : Bool) (i j k : Nat) : (fsetBit s f b v i j k).page = s.page := rfl
@[simp] theorem fsetBit_galley (f : Fld) (b : Nat) (v : Bool) (i j k : Nat) : (fsetBit s f b v i j k).galley = s.galley := rfl
@[simp] theorem fsetBit_mem (f : Fld) (b : Nat) (v : Bool) (i j k : Nat) : (fsetBit s f b v i j k).mem = s.mem := rfl
@[simp] theorem fsetBit_poison (f : Fld) (b : Nat) (v : Bool) (i j k : Nat) : (fsetBit s f b v i j k).poison = s.poison := rfl
@[simp] theorem fsetBit_capPcie (f : Fld) (b : Nat) (v : Bool) (i j k : Nat) : (fsetBit s f b v i j k).capPcie = s.capPcie := rfl
@[simp] theorem fsetBit_capQspi (f : Fld) (b : Nat) (v : Bool) (i j k : Nat) : (fsetBit s f b v i j k).capQspi = s.capQspi := rfl
@[simp] theorem fsetBit_qspi (f : Fld) (b : Nat) (v : Bool) (i j k : Nat) : (fsetBit s f b v i j k).qspi = s.qspi := rfl
@[simp] theorem fsetBit_hwCyc (f : Fld) (b : Nat) (v : Bool) (i j k : Nat) : (fsetBit s f b v i j k).hwCyc = s.hwCyc := rfl
@[simp] theorem fsetBit_hwBits (f : Fld) (b : Nat) (v : Bool) (i j k : Nat) : (fsetBit s f b v i j k).hwBits = s.hwBits := rfl
@[simp] theorem fsetBit_out (f : Fld) (b : Nat) (v : Bool) (i j k : Nat) : (fsetBit s f b v i j k).out = s.out := rfl
@[simp] theorem fsetBit_free (f : Fld) (b : Nat) (v : Bool) (i j k : Nat) : (fsetBit s f b v i j k).free = s.free := rfl
@[simp] theorem fsetBit_pending (f : Fld) (b : Nat) (v : Bool) (i j k : Nat) : (fsetBit s f b v i j k).pending = s.pending := rfl

/-! ### `hwMark` writes hwCyc and hwBits only -/

@[simp] theorem hwMark_sys (a : Nat) (m : Word) : (hwMark a m s).sys = s.sys := rfl
@[simp] theorem hwMark_quo (a : Nat) (m : Word) : (hwMark a m s).quo = s.quo := rfl
@[simp] theorem hwMark_evt (a : Nat) (m : Word) : (hwMark a m s).evt = s.evt := rfl
@[simp] theorem hwMark_mmq (a : Nat) (m : Word) : (hwMark a m s).mmq = s.mmq := rfl
@[simp] theorem hwMark_trigq (a : Nat) (m : Word) : (hwMark a m s).trigq = s.trigq := rfl
@[simp] theorem hwMark_mms (a : Nat) (m : Word) : (hwMark a m s).mms = s.mms := rfl
@[simp] theorem hwMark_plts (a : Nat) (m : Word) : (hwMark a m s).plts = s.plts := rfl
@[simp] theorem hwMark_tim (a : Nat) (m : Word) : (hwMark a m s).tim = s.tim := rfl
@[simp] theorem hwMark_pwr (a : Nat) (m : Word) : (hwMark a m s).pwr = s.pwr := rfl
@[simp] theorem hwMark_tst (a : Nat) (m : Word) : (hwMark a m s).tst = s.tst := rfl
@[simp] theorem hwMark_pins (a : Nat) (m : Word) : (hwMark a m s).pins = s.pins := rfl
@[simp] theorem hwMark_edg (a : Nat) (m : Word) : (hwMark a m s).edg = s.edg := rfl
@[simp] theorem hwMark_aux (a : Nat) (m : Word) : (hwMark a m s).aux = s.aux := rfl
@[simp] theorem hwMark_ain (a : Nat) (m : Word) : (hwMark a m s).ain = s.ain := rfl
@[simp] theorem hwMark_ainStart (a : Nat) (m : Word) : (hwMark a m s).ainStart = s.ainStart := rfl
@[simp] theorem hwMark_segOut (a : Nat) (m : Word) : (hwMark a m s).segOut = s.segOut := rfl
@[simp] theorem hwMark_trk (a : Nat) (m : Word) : (hwMark a m s).trk = s.trk := rfl
@[simp] theorem hwMark_src (a : Nat) (m : Word) : (hwMark a m s).src = s.src := rfl
@[simp] theorem hwMark_lat (a : Nat) (m : Word) : (hwMark a m s).lat = s.lat := rfl
@[simp] theorem hwMark_cmp (a : Nat) (m : Word) : (hwMark a m s).cmp = s.cmp := rfl
@[simp] theorem hwMark_mot (a : Nat) (m : Word) : (hwMark a m s).mot = s.mot := rfl
@[simp] theorem hwMark_fio (a : Nat) (m : Word) : (hwMark a m s).fio = s.fio := rfl
@[simp] theorem hwMark_saf (a : Nat) (m : Word) : (hwMark a m s).saf = s.saf := rfl
@[simp] theorem hwMark_nv (a : Nat) (m : Word) : (hwMark a m s).nv = s.nv := rfl
@[simp] theorem hwMark_net (a : Nat) (m : Word) : (hwMark a m s).net = s.net := rfl
@[simp] theorem hwMark_can (a : Nat) (m : Word) : (hwMark a m s).can = s.can := rfl
@[simp] theorem hwMark_acq (a : Nat) (m : Word) : (hwMark a m s).acq = s.acq := rfl
@[simp] theorem hwMark_par (a : Nat) (m : Word) : (hwMark a m s).par = s.par := rfl
@[simp] theorem hwMark_rom (a : Nat) (m : Word) : (hwMark a m s).rom = s.rom := rfl
@[simp] theorem hwMark_gly (a : Nat) (m : Word) : (hwMark a m s).gly = s.gly := rfl
@[simp] theorem hwMark_stuck (a : Nat) (m : Word) : (hwMark a m s).stuck = s.stuck := rfl
@[simp] theorem hwMark_settle (a : Nat) (m : Word) : (hwMark a m s).settle = s.settle := rfl
@[simp] theorem hwMark_since (a : Nat) (m : Word) : (hwMark a m s).since = s.since := rfl
@[simp] theorem hwMark_page (a : Nat) (m : Word) : (hwMark a m s).page = s.page := rfl
@[simp] theorem hwMark_regs (a : Nat) (m : Word) : (hwMark a m s).regs = s.regs := rfl
@[simp] theorem hwMark_galley (a : Nat) (m : Word) : (hwMark a m s).galley = s.galley := rfl
@[simp] theorem hwMark_mem (a : Nat) (m : Word) : (hwMark a m s).mem = s.mem := rfl
@[simp] theorem hwMark_poison (a : Nat) (m : Word) : (hwMark a m s).poison = s.poison := rfl
@[simp] theorem hwMark_capPcie (a : Nat) (m : Word) : (hwMark a m s).capPcie = s.capPcie := rfl
@[simp] theorem hwMark_capQspi (a : Nat) (m : Word) : (hwMark a m s).capQspi = s.capQspi := rfl
@[simp] theorem hwMark_qspi (a : Nat) (m : Word) : (hwMark a m s).qspi = s.qspi := rfl
@[simp] theorem hwMark_out (a : Nat) (m : Word) : (hwMark a m s).out = s.out := rfl
@[simp] theorem hwMark_free (a : Nat) (m : Word) : (hwMark a m s).free = s.free := rfl
@[simp] theorem hwMark_pending (a : Nat) (m : Word) : (hwMark a m s).pending = s.pending := rfl

/-! ### `raiseFlag` writes regs and hwCyc and hwBits only -/

@[simp] theorem raiseFlag_sys (f : Fld) (i j k : Nat) : (raiseFlag s f i j k).sys = s.sys := rfl
@[simp] theorem raiseFlag_quo (f : Fld) (i j k : Nat) : (raiseFlag s f i j k).quo = s.quo := rfl
@[simp] theorem raiseFlag_evt (f : Fld) (i j k : Nat) : (raiseFlag s f i j k).evt = s.evt := rfl
@[simp] theorem raiseFlag_mmq (f : Fld) (i j k : Nat) : (raiseFlag s f i j k).mmq = s.mmq := rfl
@[simp] theorem raiseFlag_trigq (f : Fld) (i j k : Nat) : (raiseFlag s f i j k).trigq = s.trigq := rfl
@[simp] theorem raiseFlag_mms (f : Fld) (i j k : Nat) : (raiseFlag s f i j k).mms = s.mms := rfl
@[simp] theorem raiseFlag_plts (f : Fld) (i j k : Nat) : (raiseFlag s f i j k).plts = s.plts := rfl
@[simp] theorem raiseFlag_tim (f : Fld) (i j k : Nat) : (raiseFlag s f i j k).tim = s.tim := rfl
@[simp] theorem raiseFlag_pwr (f : Fld) (i j k : Nat) : (raiseFlag s f i j k).pwr = s.pwr := rfl
@[simp] theorem raiseFlag_tst (f : Fld) (i j k : Nat) : (raiseFlag s f i j k).tst = s.tst := rfl
@[simp] theorem raiseFlag_pins (f : Fld) (i j k : Nat) : (raiseFlag s f i j k).pins = s.pins := rfl
@[simp] theorem raiseFlag_edg (f : Fld) (i j k : Nat) : (raiseFlag s f i j k).edg = s.edg := rfl
@[simp] theorem raiseFlag_aux (f : Fld) (i j k : Nat) : (raiseFlag s f i j k).aux = s.aux := rfl
@[simp] theorem raiseFlag_ain (f : Fld) (i j k : Nat) : (raiseFlag s f i j k).ain = s.ain := rfl
@[simp] theorem raiseFlag_ainStart (f : Fld) (i j k : Nat) : (raiseFlag s f i j k).ainStart = s.ainStart := rfl
@[simp] theorem raiseFlag_segOut (f : Fld) (i j k : Nat) : (raiseFlag s f i j k).segOut = s.segOut := rfl
@[simp] theorem raiseFlag_trk (f : Fld) (i j k : Nat) : (raiseFlag s f i j k).trk = s.trk := rfl
@[simp] theorem raiseFlag_src (f : Fld) (i j k : Nat) : (raiseFlag s f i j k).src = s.src := rfl
@[simp] theorem raiseFlag_lat (f : Fld) (i j k : Nat) : (raiseFlag s f i j k).lat = s.lat := rfl
@[simp] theorem raiseFlag_cmp (f : Fld) (i j k : Nat) : (raiseFlag s f i j k).cmp = s.cmp := rfl
@[simp] theorem raiseFlag_mot (f : Fld) (i j k : Nat) : (raiseFlag s f i j k).mot = s.mot := rfl
@[simp] theorem raiseFlag_fio (f : Fld) (i j k : Nat) : (raiseFlag s f i j k).fio = s.fio := rfl
@[simp] theorem raiseFlag_saf (f : Fld) (i j k : Nat) : (raiseFlag s f i j k).saf = s.saf := rfl
@[simp] theorem raiseFlag_nv (f : Fld) (i j k : Nat) : (raiseFlag s f i j k).nv = s.nv := rfl
@[simp] theorem raiseFlag_net (f : Fld) (i j k : Nat) : (raiseFlag s f i j k).net = s.net := rfl
@[simp] theorem raiseFlag_can (f : Fld) (i j k : Nat) : (raiseFlag s f i j k).can = s.can := rfl
@[simp] theorem raiseFlag_acq (f : Fld) (i j k : Nat) : (raiseFlag s f i j k).acq = s.acq := rfl
@[simp] theorem raiseFlag_par (f : Fld) (i j k : Nat) : (raiseFlag s f i j k).par = s.par := rfl
@[simp] theorem raiseFlag_rom (f : Fld) (i j k : Nat) : (raiseFlag s f i j k).rom = s.rom := rfl
@[simp] theorem raiseFlag_gly (f : Fld) (i j k : Nat) : (raiseFlag s f i j k).gly = s.gly := rfl
@[simp] theorem raiseFlag_stuck (f : Fld) (i j k : Nat) : (raiseFlag s f i j k).stuck = s.stuck := rfl
@[simp] theorem raiseFlag_settle (f : Fld) (i j k : Nat) : (raiseFlag s f i j k).settle = s.settle := rfl
@[simp] theorem raiseFlag_since (f : Fld) (i j k : Nat) : (raiseFlag s f i j k).since = s.since := rfl
@[simp] theorem raiseFlag_page (f : Fld) (i j k : Nat) : (raiseFlag s f i j k).page = s.page := rfl
@[simp] theorem raiseFlag_galley (f : Fld) (i j k : Nat) : (raiseFlag s f i j k).galley = s.galley := rfl
@[simp] theorem raiseFlag_mem (f : Fld) (i j k : Nat) : (raiseFlag s f i j k).mem = s.mem := rfl
@[simp] theorem raiseFlag_poison (f : Fld) (i j k : Nat) : (raiseFlag s f i j k).poison = s.poison := rfl
@[simp] theorem raiseFlag_capPcie (f : Fld) (i j k : Nat) : (raiseFlag s f i j k).capPcie = s.capPcie := rfl
@[simp] theorem raiseFlag_capQspi (f : Fld) (i j k : Nat) : (raiseFlag s f i j k).capQspi = s.capQspi := rfl
@[simp] theorem raiseFlag_qspi (f : Fld) (i j k : Nat) : (raiseFlag s f i j k).qspi = s.qspi := rfl
@[simp] theorem raiseFlag_out (f : Fld) (i j k : Nat) : (raiseFlag s f i j k).out = s.out := rfl
@[simp] theorem raiseFlag_free (f : Fld) (i j k : Nat) : (raiseFlag s f i j k).free = s.free := rfl
@[simp] theorem raiseFlag_pending (f : Fld) (i j k : Nat) : (raiseFlag s f i j k).pending = s.pending := rfl

/-! ### `raiseBit` writes regs and hwCyc and hwBits only -/

@[simp] theorem raiseBit_sys (f : Fld) (b i j k : Nat) : (raiseBit s f b i j k).sys = s.sys := rfl
@[simp] theorem raiseBit_quo (f : Fld) (b i j k : Nat) : (raiseBit s f b i j k).quo = s.quo := rfl
@[simp] theorem raiseBit_evt (f : Fld) (b i j k : Nat) : (raiseBit s f b i j k).evt = s.evt := rfl
@[simp] theorem raiseBit_mmq (f : Fld) (b i j k : Nat) : (raiseBit s f b i j k).mmq = s.mmq := rfl
@[simp] theorem raiseBit_trigq (f : Fld) (b i j k : Nat) : (raiseBit s f b i j k).trigq = s.trigq := rfl
@[simp] theorem raiseBit_mms (f : Fld) (b i j k : Nat) : (raiseBit s f b i j k).mms = s.mms := rfl
@[simp] theorem raiseBit_plts (f : Fld) (b i j k : Nat) : (raiseBit s f b i j k).plts = s.plts := rfl
@[simp] theorem raiseBit_tim (f : Fld) (b i j k : Nat) : (raiseBit s f b i j k).tim = s.tim := rfl
@[simp] theorem raiseBit_pwr (f : Fld) (b i j k : Nat) : (raiseBit s f b i j k).pwr = s.pwr := rfl
@[simp] theorem raiseBit_tst (f : Fld) (b i j k : Nat) : (raiseBit s f b i j k).tst = s.tst := rfl
@[simp] theorem raiseBit_pins (f : Fld) (b i j k : Nat) : (raiseBit s f b i j k).pins = s.pins := rfl
@[simp] theorem raiseBit_edg (f : Fld) (b i j k : Nat) : (raiseBit s f b i j k).edg = s.edg := rfl
@[simp] theorem raiseBit_aux (f : Fld) (b i j k : Nat) : (raiseBit s f b i j k).aux = s.aux := rfl
@[simp] theorem raiseBit_ain (f : Fld) (b i j k : Nat) : (raiseBit s f b i j k).ain = s.ain := rfl
@[simp] theorem raiseBit_ainStart (f : Fld) (b i j k : Nat) : (raiseBit s f b i j k).ainStart = s.ainStart := rfl
@[simp] theorem raiseBit_segOut (f : Fld) (b i j k : Nat) : (raiseBit s f b i j k).segOut = s.segOut := rfl
@[simp] theorem raiseBit_trk (f : Fld) (b i j k : Nat) : (raiseBit s f b i j k).trk = s.trk := rfl
@[simp] theorem raiseBit_src (f : Fld) (b i j k : Nat) : (raiseBit s f b i j k).src = s.src := rfl
@[simp] theorem raiseBit_lat (f : Fld) (b i j k : Nat) : (raiseBit s f b i j k).lat = s.lat := rfl
@[simp] theorem raiseBit_cmp (f : Fld) (b i j k : Nat) : (raiseBit s f b i j k).cmp = s.cmp := rfl
@[simp] theorem raiseBit_mot (f : Fld) (b i j k : Nat) : (raiseBit s f b i j k).mot = s.mot := rfl
@[simp] theorem raiseBit_fio (f : Fld) (b i j k : Nat) : (raiseBit s f b i j k).fio = s.fio := rfl
@[simp] theorem raiseBit_saf (f : Fld) (b i j k : Nat) : (raiseBit s f b i j k).saf = s.saf := rfl
@[simp] theorem raiseBit_nv (f : Fld) (b i j k : Nat) : (raiseBit s f b i j k).nv = s.nv := rfl
@[simp] theorem raiseBit_net (f : Fld) (b i j k : Nat) : (raiseBit s f b i j k).net = s.net := rfl
@[simp] theorem raiseBit_can (f : Fld) (b i j k : Nat) : (raiseBit s f b i j k).can = s.can := rfl
@[simp] theorem raiseBit_acq (f : Fld) (b i j k : Nat) : (raiseBit s f b i j k).acq = s.acq := rfl
@[simp] theorem raiseBit_par (f : Fld) (b i j k : Nat) : (raiseBit s f b i j k).par = s.par := rfl
@[simp] theorem raiseBit_rom (f : Fld) (b i j k : Nat) : (raiseBit s f b i j k).rom = s.rom := rfl
@[simp] theorem raiseBit_gly (f : Fld) (b i j k : Nat) : (raiseBit s f b i j k).gly = s.gly := rfl
@[simp] theorem raiseBit_stuck (f : Fld) (b i j k : Nat) : (raiseBit s f b i j k).stuck = s.stuck := rfl
@[simp] theorem raiseBit_settle (f : Fld) (b i j k : Nat) : (raiseBit s f b i j k).settle = s.settle := rfl
@[simp] theorem raiseBit_since (f : Fld) (b i j k : Nat) : (raiseBit s f b i j k).since = s.since := rfl
@[simp] theorem raiseBit_page (f : Fld) (b i j k : Nat) : (raiseBit s f b i j k).page = s.page := rfl
@[simp] theorem raiseBit_galley (f : Fld) (b i j k : Nat) : (raiseBit s f b i j k).galley = s.galley := rfl
@[simp] theorem raiseBit_mem (f : Fld) (b i j k : Nat) : (raiseBit s f b i j k).mem = s.mem := rfl
@[simp] theorem raiseBit_poison (f : Fld) (b i j k : Nat) : (raiseBit s f b i j k).poison = s.poison := rfl
@[simp] theorem raiseBit_capPcie (f : Fld) (b i j k : Nat) : (raiseBit s f b i j k).capPcie = s.capPcie := rfl
@[simp] theorem raiseBit_capQspi (f : Fld) (b i j k : Nat) : (raiseBit s f b i j k).capQspi = s.capQspi := rfl
@[simp] theorem raiseBit_qspi (f : Fld) (b i j k : Nat) : (raiseBit s f b i j k).qspi = s.qspi := rfl
@[simp] theorem raiseBit_out (f : Fld) (b i j k : Nat) : (raiseBit s f b i j k).out = s.out := rfl
@[simp] theorem raiseBit_free (f : Fld) (b i j k : Nat) : (raiseBit s f b i j k).free = s.free := rfl
@[simp] theorem raiseBit_pending (f : Fld) (b i j k : Nat) : (raiseBit s f b i j k).pending = s.pending := rfl

/-! ### `bump` writes regs and hwCyc and hwBits only -/

@[simp] theorem bump_sys (f : Fld) (n i j k : Nat) : (bump s f n i j k).sys = s.sys := rfl
@[simp] theorem bump_quo (f : Fld) (n i j k : Nat) : (bump s f n i j k).quo = s.quo := rfl
@[simp] theorem bump_evt (f : Fld) (n i j k : Nat) : (bump s f n i j k).evt = s.evt := rfl
@[simp] theorem bump_mmq (f : Fld) (n i j k : Nat) : (bump s f n i j k).mmq = s.mmq := rfl
@[simp] theorem bump_trigq (f : Fld) (n i j k : Nat) : (bump s f n i j k).trigq = s.trigq := rfl
@[simp] theorem bump_mms (f : Fld) (n i j k : Nat) : (bump s f n i j k).mms = s.mms := rfl
@[simp] theorem bump_plts (f : Fld) (n i j k : Nat) : (bump s f n i j k).plts = s.plts := rfl
@[simp] theorem bump_tim (f : Fld) (n i j k : Nat) : (bump s f n i j k).tim = s.tim := rfl
@[simp] theorem bump_pwr (f : Fld) (n i j k : Nat) : (bump s f n i j k).pwr = s.pwr := rfl
@[simp] theorem bump_tst (f : Fld) (n i j k : Nat) : (bump s f n i j k).tst = s.tst := rfl
@[simp] theorem bump_pins (f : Fld) (n i j k : Nat) : (bump s f n i j k).pins = s.pins := rfl
@[simp] theorem bump_edg (f : Fld) (n i j k : Nat) : (bump s f n i j k).edg = s.edg := rfl
@[simp] theorem bump_aux (f : Fld) (n i j k : Nat) : (bump s f n i j k).aux = s.aux := rfl
@[simp] theorem bump_ain (f : Fld) (n i j k : Nat) : (bump s f n i j k).ain = s.ain := rfl
@[simp] theorem bump_ainStart (f : Fld) (n i j k : Nat) : (bump s f n i j k).ainStart = s.ainStart := rfl
@[simp] theorem bump_segOut (f : Fld) (n i j k : Nat) : (bump s f n i j k).segOut = s.segOut := rfl
@[simp] theorem bump_trk (f : Fld) (n i j k : Nat) : (bump s f n i j k).trk = s.trk := rfl
@[simp] theorem bump_src (f : Fld) (n i j k : Nat) : (bump s f n i j k).src = s.src := rfl
@[simp] theorem bump_lat (f : Fld) (n i j k : Nat) : (bump s f n i j k).lat = s.lat := rfl
@[simp] theorem bump_cmp (f : Fld) (n i j k : Nat) : (bump s f n i j k).cmp = s.cmp := rfl
@[simp] theorem bump_mot (f : Fld) (n i j k : Nat) : (bump s f n i j k).mot = s.mot := rfl
@[simp] theorem bump_fio (f : Fld) (n i j k : Nat) : (bump s f n i j k).fio = s.fio := rfl
@[simp] theorem bump_saf (f : Fld) (n i j k : Nat) : (bump s f n i j k).saf = s.saf := rfl
@[simp] theorem bump_nv (f : Fld) (n i j k : Nat) : (bump s f n i j k).nv = s.nv := rfl
@[simp] theorem bump_net (f : Fld) (n i j k : Nat) : (bump s f n i j k).net = s.net := rfl
@[simp] theorem bump_can (f : Fld) (n i j k : Nat) : (bump s f n i j k).can = s.can := rfl
@[simp] theorem bump_acq (f : Fld) (n i j k : Nat) : (bump s f n i j k).acq = s.acq := rfl
@[simp] theorem bump_par (f : Fld) (n i j k : Nat) : (bump s f n i j k).par = s.par := rfl
@[simp] theorem bump_rom (f : Fld) (n i j k : Nat) : (bump s f n i j k).rom = s.rom := rfl
@[simp] theorem bump_gly (f : Fld) (n i j k : Nat) : (bump s f n i j k).gly = s.gly := rfl
@[simp] theorem bump_stuck (f : Fld) (n i j k : Nat) : (bump s f n i j k).stuck = s.stuck := rfl
@[simp] theorem bump_settle (f : Fld) (n i j k : Nat) : (bump s f n i j k).settle = s.settle := rfl
@[simp] theorem bump_since (f : Fld) (n i j k : Nat) : (bump s f n i j k).since = s.since := rfl
@[simp] theorem bump_page (f : Fld) (n i j k : Nat) : (bump s f n i j k).page = s.page := rfl
@[simp] theorem bump_galley (f : Fld) (n i j k : Nat) : (bump s f n i j k).galley = s.galley := rfl
@[simp] theorem bump_mem (f : Fld) (n i j k : Nat) : (bump s f n i j k).mem = s.mem := rfl
@[simp] theorem bump_poison (f : Fld) (n i j k : Nat) : (bump s f n i j k).poison = s.poison := rfl
@[simp] theorem bump_capPcie (f : Fld) (n i j k : Nat) : (bump s f n i j k).capPcie = s.capPcie := rfl
@[simp] theorem bump_capQspi (f : Fld) (n i j k : Nat) : (bump s f n i j k).capQspi = s.capQspi := rfl
@[simp] theorem bump_qspi (f : Fld) (n i j k : Nat) : (bump s f n i j k).qspi = s.qspi := rfl
@[simp] theorem bump_out (f : Fld) (n i j k : Nat) : (bump s f n i j k).out = s.out := rfl
@[simp] theorem bump_free (f : Fld) (n i j k : Nat) : (bump s f n i j k).free = s.free := rfl
@[simp] theorem bump_pending (f : Fld) (n i j k : Nat) : (bump s f n i j k).pending = s.pending := rfl

/-! ### `setMemByte` writes mem only -/

@[simp] theorem setMemByte_sys (a : Nat) (b : Byte) : (setMemByte s a b).sys = s.sys := rfl
@[simp] theorem setMemByte_quo (a : Nat) (b : Byte) : (setMemByte s a b).quo = s.quo := rfl
@[simp] theorem setMemByte_evt (a : Nat) (b : Byte) : (setMemByte s a b).evt = s.evt := rfl
@[simp] theorem setMemByte_mmq (a : Nat) (b : Byte) : (setMemByte s a b).mmq = s.mmq := rfl
@[simp] theorem setMemByte_trigq (a : Nat) (b : Byte) : (setMemByte s a b).trigq = s.trigq := rfl
@[simp] theorem setMemByte_mms (a : Nat) (b : Byte) : (setMemByte s a b).mms = s.mms := rfl
@[simp] theorem setMemByte_plts (a : Nat) (b : Byte) : (setMemByte s a b).plts = s.plts := rfl
@[simp] theorem setMemByte_tim (a : Nat) (b : Byte) : (setMemByte s a b).tim = s.tim := rfl
@[simp] theorem setMemByte_pwr (a : Nat) (b : Byte) : (setMemByte s a b).pwr = s.pwr := rfl
@[simp] theorem setMemByte_tst (a : Nat) (b : Byte) : (setMemByte s a b).tst = s.tst := rfl
@[simp] theorem setMemByte_pins (a : Nat) (b : Byte) : (setMemByte s a b).pins = s.pins := rfl
@[simp] theorem setMemByte_edg (a : Nat) (b : Byte) : (setMemByte s a b).edg = s.edg := rfl
@[simp] theorem setMemByte_aux (a : Nat) (b : Byte) : (setMemByte s a b).aux = s.aux := rfl
@[simp] theorem setMemByte_ain (a : Nat) (b : Byte) : (setMemByte s a b).ain = s.ain := rfl
@[simp] theorem setMemByte_ainStart (a : Nat) (b : Byte) : (setMemByte s a b).ainStart = s.ainStart := rfl
@[simp] theorem setMemByte_segOut (a : Nat) (b : Byte) : (setMemByte s a b).segOut = s.segOut := rfl
@[simp] theorem setMemByte_trk (a : Nat) (b : Byte) : (setMemByte s a b).trk = s.trk := rfl
@[simp] theorem setMemByte_src (a : Nat) (b : Byte) : (setMemByte s a b).src = s.src := rfl
@[simp] theorem setMemByte_lat (a : Nat) (b : Byte) : (setMemByte s a b).lat = s.lat := rfl
@[simp] theorem setMemByte_cmp (a : Nat) (b : Byte) : (setMemByte s a b).cmp = s.cmp := rfl
@[simp] theorem setMemByte_mot (a : Nat) (b : Byte) : (setMemByte s a b).mot = s.mot := rfl
@[simp] theorem setMemByte_fio (a : Nat) (b : Byte) : (setMemByte s a b).fio = s.fio := rfl
@[simp] theorem setMemByte_saf (a : Nat) (b : Byte) : (setMemByte s a b).saf = s.saf := rfl
@[simp] theorem setMemByte_nv (a : Nat) (b : Byte) : (setMemByte s a b).nv = s.nv := rfl
@[simp] theorem setMemByte_net (a : Nat) (b : Byte) : (setMemByte s a b).net = s.net := rfl
@[simp] theorem setMemByte_can (a : Nat) (b : Byte) : (setMemByte s a b).can = s.can := rfl
@[simp] theorem setMemByte_acq (a : Nat) (b : Byte) : (setMemByte s a b).acq = s.acq := rfl
@[simp] theorem setMemByte_par (a : Nat) (b : Byte) : (setMemByte s a b).par = s.par := rfl
@[simp] theorem setMemByte_rom (a : Nat) (b : Byte) : (setMemByte s a b).rom = s.rom := rfl
@[simp] theorem setMemByte_gly (a : Nat) (b : Byte) : (setMemByte s a b).gly = s.gly := rfl
@[simp] theorem setMemByte_stuck (a : Nat) (b : Byte) : (setMemByte s a b).stuck = s.stuck := rfl
@[simp] theorem setMemByte_settle (a : Nat) (b : Byte) : (setMemByte s a b).settle = s.settle := rfl
@[simp] theorem setMemByte_since (a : Nat) (b : Byte) : (setMemByte s a b).since = s.since := rfl
@[simp] theorem setMemByte_page (a : Nat) (b : Byte) : (setMemByte s a b).page = s.page := rfl
@[simp] theorem setMemByte_regs (a : Nat) (b : Byte) : (setMemByte s a b).regs = s.regs := rfl
@[simp] theorem setMemByte_galley (a : Nat) (b : Byte) : (setMemByte s a b).galley = s.galley := rfl
@[simp] theorem setMemByte_poison (a : Nat) (b : Byte) : (setMemByte s a b).poison = s.poison := rfl
@[simp] theorem setMemByte_capPcie (a : Nat) (b : Byte) : (setMemByte s a b).capPcie = s.capPcie := rfl
@[simp] theorem setMemByte_capQspi (a : Nat) (b : Byte) : (setMemByte s a b).capQspi = s.capQspi := rfl
@[simp] theorem setMemByte_qspi (a : Nat) (b : Byte) : (setMemByte s a b).qspi = s.qspi := rfl
@[simp] theorem setMemByte_hwCyc (a : Nat) (b : Byte) : (setMemByte s a b).hwCyc = s.hwCyc := rfl
@[simp] theorem setMemByte_hwBits (a : Nat) (b : Byte) : (setMemByte s a b).hwBits = s.hwBits := rfl
@[simp] theorem setMemByte_out (a : Nat) (b : Byte) : (setMemByte s a b).out = s.out := rfl
@[simp] theorem setMemByte_free (a : Nat) (b : Byte) : (setMemByte s a b).free = s.free := rfl
@[simp] theorem setMemByte_pending (a : Nat) (b : Byte) : (setMemByte s a b).pending = s.pending := rfl

/-! ### `setPoison` writes poison only -/

@[simp] theorem setPoison_sys (a : Nat) (b : Bool) : (setPoison s a b).sys = s.sys := rfl
@[simp] theorem setPoison_quo (a : Nat) (b : Bool) : (setPoison s a b).quo = s.quo := rfl
@[simp] theorem setPoison_evt (a : Nat) (b : Bool) : (setPoison s a b).evt = s.evt := rfl
@[simp] theorem setPoison_mmq (a : Nat) (b : Bool) : (setPoison s a b).mmq = s.mmq := rfl
@[simp] theorem setPoison_trigq (a : Nat) (b : Bool) : (setPoison s a b).trigq = s.trigq := rfl
@[simp] theorem setPoison_mms (a : Nat) (b : Bool) : (setPoison s a b).mms = s.mms := rfl
@[simp] theorem setPoison_plts (a : Nat) (b : Bool) : (setPoison s a b).plts = s.plts := rfl
@[simp] theorem setPoison_tim (a : Nat) (b : Bool) : (setPoison s a b).tim = s.tim := rfl
@[simp] theorem setPoison_pwr (a : Nat) (b : Bool) : (setPoison s a b).pwr = s.pwr := rfl
@[simp] theorem setPoison_tst (a : Nat) (b : Bool) : (setPoison s a b).tst = s.tst := rfl
@[simp] theorem setPoison_pins (a : Nat) (b : Bool) : (setPoison s a b).pins = s.pins := rfl
@[simp] theorem setPoison_edg (a : Nat) (b : Bool) : (setPoison s a b).edg = s.edg := rfl
@[simp] theorem setPoison_aux (a : Nat) (b : Bool) : (setPoison s a b).aux = s.aux := rfl
@[simp] theorem setPoison_ain (a : Nat) (b : Bool) : (setPoison s a b).ain = s.ain := rfl
@[simp] theorem setPoison_ainStart (a : Nat) (b : Bool) : (setPoison s a b).ainStart = s.ainStart := rfl
@[simp] theorem setPoison_segOut (a : Nat) (b : Bool) : (setPoison s a b).segOut = s.segOut := rfl
@[simp] theorem setPoison_trk (a : Nat) (b : Bool) : (setPoison s a b).trk = s.trk := rfl
@[simp] theorem setPoison_src (a : Nat) (b : Bool) : (setPoison s a b).src = s.src := rfl
@[simp] theorem setPoison_lat (a : Nat) (b : Bool) : (setPoison s a b).lat = s.lat := rfl
@[simp] theorem setPoison_cmp (a : Nat) (b : Bool) : (setPoison s a b).cmp = s.cmp := rfl
@[simp] theorem setPoison_mot (a : Nat) (b : Bool) : (setPoison s a b).mot = s.mot := rfl
@[simp] theorem setPoison_fio (a : Nat) (b : Bool) : (setPoison s a b).fio = s.fio := rfl
@[simp] theorem setPoison_saf (a : Nat) (b : Bool) : (setPoison s a b).saf = s.saf := rfl
@[simp] theorem setPoison_nv (a : Nat) (b : Bool) : (setPoison s a b).nv = s.nv := rfl
@[simp] theorem setPoison_net (a : Nat) (b : Bool) : (setPoison s a b).net = s.net := rfl
@[simp] theorem setPoison_can (a : Nat) (b : Bool) : (setPoison s a b).can = s.can := rfl
@[simp] theorem setPoison_acq (a : Nat) (b : Bool) : (setPoison s a b).acq = s.acq := rfl
@[simp] theorem setPoison_par (a : Nat) (b : Bool) : (setPoison s a b).par = s.par := rfl
@[simp] theorem setPoison_rom (a : Nat) (b : Bool) : (setPoison s a b).rom = s.rom := rfl
@[simp] theorem setPoison_gly (a : Nat) (b : Bool) : (setPoison s a b).gly = s.gly := rfl
@[simp] theorem setPoison_stuck (a : Nat) (b : Bool) : (setPoison s a b).stuck = s.stuck := rfl
@[simp] theorem setPoison_settle (a : Nat) (b : Bool) : (setPoison s a b).settle = s.settle := rfl
@[simp] theorem setPoison_since (a : Nat) (b : Bool) : (setPoison s a b).since = s.since := rfl
@[simp] theorem setPoison_page (a : Nat) (b : Bool) : (setPoison s a b).page = s.page := rfl
@[simp] theorem setPoison_regs (a : Nat) (b : Bool) : (setPoison s a b).regs = s.regs := rfl
@[simp] theorem setPoison_galley (a : Nat) (b : Bool) : (setPoison s a b).galley = s.galley := rfl
@[simp] theorem setPoison_mem (a : Nat) (b : Bool) : (setPoison s a b).mem = s.mem := rfl
@[simp] theorem setPoison_capPcie (a : Nat) (b : Bool) : (setPoison s a b).capPcie = s.capPcie := rfl
@[simp] theorem setPoison_capQspi (a : Nat) (b : Bool) : (setPoison s a b).capQspi = s.capQspi := rfl
@[simp] theorem setPoison_qspi (a : Nat) (b : Bool) : (setPoison s a b).qspi = s.qspi := rfl
@[simp] theorem setPoison_hwCyc (a : Nat) (b : Bool) : (setPoison s a b).hwCyc = s.hwCyc := rfl
@[simp] theorem setPoison_hwBits (a : Nat) (b : Bool) : (setPoison s a b).hwBits = s.hwBits := rfl
@[simp] theorem setPoison_out (a : Nat) (b : Bool) : (setPoison s a b).out = s.out := rfl
@[simp] theorem setPoison_free (a : Nat) (b : Bool) : (setPoison s a b).free = s.free := rfl
@[simp] theorem setPoison_pending (a : Nat) (b : Bool) : (setPoison s a b).pending = s.pending := rfl

/-! ### `setPlt` writes plts only -/

@[simp] theorem setPlt_sys (n : Nat) (p : PltS) : (setPlt s n p).sys = s.sys := rfl
@[simp] theorem setPlt_quo (n : Nat) (p : PltS) : (setPlt s n p).quo = s.quo := rfl
@[simp] theorem setPlt_evt (n : Nat) (p : PltS) : (setPlt s n p).evt = s.evt := rfl
@[simp] theorem setPlt_mmq (n : Nat) (p : PltS) : (setPlt s n p).mmq = s.mmq := rfl
@[simp] theorem setPlt_trigq (n : Nat) (p : PltS) : (setPlt s n p).trigq = s.trigq := rfl
@[simp] theorem setPlt_mms (n : Nat) (p : PltS) : (setPlt s n p).mms = s.mms := rfl
@[simp] theorem setPlt_tim (n : Nat) (p : PltS) : (setPlt s n p).tim = s.tim := rfl
@[simp] theorem setPlt_pwr (n : Nat) (p : PltS) : (setPlt s n p).pwr = s.pwr := rfl
@[simp] theorem setPlt_tst (n : Nat) (p : PltS) : (setPlt s n p).tst = s.tst := rfl
@[simp] theorem setPlt_pins (n : Nat) (p : PltS) : (setPlt s n p).pins = s.pins := rfl
@[simp] theorem setPlt_edg (n : Nat) (p : PltS) : (setPlt s n p).edg = s.edg := rfl
@[simp] theorem setPlt_aux (n : Nat) (p : PltS) : (setPlt s n p).aux = s.aux := rfl
@[simp] theorem setPlt_ain (n : Nat) (p : PltS) : (setPlt s n p).ain = s.ain := rfl
@[simp] theorem setPlt_ainStart (n : Nat) (p : PltS) : (setPlt s n p).ainStart = s.ainStart := rfl
@[simp] theorem setPlt_segOut (n : Nat) (p : PltS) : (setPlt s n p).segOut = s.segOut := rfl
@[simp] theorem setPlt_trk (n : Nat) (p : PltS) : (setPlt s n p).trk = s.trk := rfl
@[simp] theorem setPlt_src (n : Nat) (p : PltS) : (setPlt s n p).src = s.src := rfl
@[simp] theorem setPlt_lat (n : Nat) (p : PltS) : (setPlt s n p).lat = s.lat := rfl
@[simp] theorem setPlt_cmp (n : Nat) (p : PltS) : (setPlt s n p).cmp = s.cmp := rfl
@[simp] theorem setPlt_mot (n : Nat) (p : PltS) : (setPlt s n p).mot = s.mot := rfl
@[simp] theorem setPlt_fio (n : Nat) (p : PltS) : (setPlt s n p).fio = s.fio := rfl
@[simp] theorem setPlt_saf (n : Nat) (p : PltS) : (setPlt s n p).saf = s.saf := rfl
@[simp] theorem setPlt_nv (n : Nat) (p : PltS) : (setPlt s n p).nv = s.nv := rfl
@[simp] theorem setPlt_net (n : Nat) (p : PltS) : (setPlt s n p).net = s.net := rfl
@[simp] theorem setPlt_can (n : Nat) (p : PltS) : (setPlt s n p).can = s.can := rfl
@[simp] theorem setPlt_acq (n : Nat) (p : PltS) : (setPlt s n p).acq = s.acq := rfl
@[simp] theorem setPlt_par (n : Nat) (p : PltS) : (setPlt s n p).par = s.par := rfl
@[simp] theorem setPlt_rom (n : Nat) (p : PltS) : (setPlt s n p).rom = s.rom := rfl
@[simp] theorem setPlt_gly (n : Nat) (p : PltS) : (setPlt s n p).gly = s.gly := rfl
@[simp] theorem setPlt_stuck (n : Nat) (p : PltS) : (setPlt s n p).stuck = s.stuck := rfl
@[simp] theorem setPlt_settle (n : Nat) (p : PltS) : (setPlt s n p).settle = s.settle := rfl
@[simp] theorem setPlt_since (n : Nat) (p : PltS) : (setPlt s n p).since = s.since := rfl
@[simp] theorem setPlt_page (n : Nat) (p : PltS) : (setPlt s n p).page = s.page := rfl
@[simp] theorem setPlt_regs (n : Nat) (p : PltS) : (setPlt s n p).regs = s.regs := rfl
@[simp] theorem setPlt_galley (n : Nat) (p : PltS) : (setPlt s n p).galley = s.galley := rfl
@[simp] theorem setPlt_mem (n : Nat) (p : PltS) : (setPlt s n p).mem = s.mem := rfl
@[simp] theorem setPlt_poison (n : Nat) (p : PltS) : (setPlt s n p).poison = s.poison := rfl
@[simp] theorem setPlt_capPcie (n : Nat) (p : PltS) : (setPlt s n p).capPcie = s.capPcie := rfl
@[simp] theorem setPlt_capQspi (n : Nat) (p : PltS) : (setPlt s n p).capQspi = s.capQspi := rfl
@[simp] theorem setPlt_qspi (n : Nat) (p : PltS) : (setPlt s n p).qspi = s.qspi := rfl
@[simp] theorem setPlt_hwCyc (n : Nat) (p : PltS) : (setPlt s n p).hwCyc = s.hwCyc := rfl
@[simp] theorem setPlt_hwBits (n : Nat) (p : PltS) : (setPlt s n p).hwBits = s.hwBits := rfl
@[simp] theorem setPlt_out (n : Nat) (p : PltS) : (setPlt s n p).out = s.out := rfl
@[simp] theorem setPlt_free (n : Nat) (p : PltS) : (setPlt s n p).free = s.free := rfl
@[simp] theorem setPlt_pending (n : Nat) (p : PltS) : (setPlt s n p).pending = s.pending := rfl

/-! ### `setMm` writes mms only -/

@[simp] theorem setMm_sys (m : Nat) (x : MmS) : (setMm s m x).sys = s.sys := rfl
@[simp] theorem setMm_quo (m : Nat) (x : MmS) : (setMm s m x).quo = s.quo := rfl
@[simp] theorem setMm_evt (m : Nat) (x : MmS) : (setMm s m x).evt = s.evt := rfl
@[simp] theorem setMm_mmq (m : Nat) (x : MmS) : (setMm s m x).mmq = s.mmq := rfl
@[simp] theorem setMm_trigq (m : Nat) (x : MmS) : (setMm s m x).trigq = s.trigq := rfl
@[simp] theorem setMm_plts (m : Nat) (x : MmS) : (setMm s m x).plts = s.plts := rfl
@[simp] theorem setMm_tim (m : Nat) (x : MmS) : (setMm s m x).tim = s.tim := rfl
@[simp] theorem setMm_pwr (m : Nat) (x : MmS) : (setMm s m x).pwr = s.pwr := rfl
@[simp] theorem setMm_tst (m : Nat) (x : MmS) : (setMm s m x).tst = s.tst := rfl
@[simp] theorem setMm_pins (m : Nat) (x : MmS) : (setMm s m x).pins = s.pins := rfl
@[simp] theorem setMm_edg (m : Nat) (x : MmS) : (setMm s m x).edg = s.edg := rfl
@[simp] theorem setMm_aux (m : Nat) (x : MmS) : (setMm s m x).aux = s.aux := rfl
@[simp] theorem setMm_ain (m : Nat) (x : MmS) : (setMm s m x).ain = s.ain := rfl
@[simp] theorem setMm_ainStart (m : Nat) (x : MmS) : (setMm s m x).ainStart = s.ainStart := rfl
@[simp] theorem setMm_segOut (m : Nat) (x : MmS) : (setMm s m x).segOut = s.segOut := rfl
@[simp] theorem setMm_trk (m : Nat) (x : MmS) : (setMm s m x).trk = s.trk := rfl
@[simp] theorem setMm_src (m : Nat) (x : MmS) : (setMm s m x).src = s.src := rfl
@[simp] theorem setMm_lat (m : Nat) (x : MmS) : (setMm s m x).lat = s.lat := rfl
@[simp] theorem setMm_cmp (m : Nat) (x : MmS) : (setMm s m x).cmp = s.cmp := rfl
@[simp] theorem setMm_mot (m : Nat) (x : MmS) : (setMm s m x).mot = s.mot := rfl
@[simp] theorem setMm_fio (m : Nat) (x : MmS) : (setMm s m x).fio = s.fio := rfl
@[simp] theorem setMm_saf (m : Nat) (x : MmS) : (setMm s m x).saf = s.saf := rfl
@[simp] theorem setMm_nv (m : Nat) (x : MmS) : (setMm s m x).nv = s.nv := rfl
@[simp] theorem setMm_net (m : Nat) (x : MmS) : (setMm s m x).net = s.net := rfl
@[simp] theorem setMm_can (m : Nat) (x : MmS) : (setMm s m x).can = s.can := rfl
@[simp] theorem setMm_acq (m : Nat) (x : MmS) : (setMm s m x).acq = s.acq := rfl
@[simp] theorem setMm_par (m : Nat) (x : MmS) : (setMm s m x).par = s.par := rfl
@[simp] theorem setMm_rom (m : Nat) (x : MmS) : (setMm s m x).rom = s.rom := rfl
@[simp] theorem setMm_gly (m : Nat) (x : MmS) : (setMm s m x).gly = s.gly := rfl
@[simp] theorem setMm_stuck (m : Nat) (x : MmS) : (setMm s m x).stuck = s.stuck := rfl
@[simp] theorem setMm_settle (m : Nat) (x : MmS) : (setMm s m x).settle = s.settle := rfl
@[simp] theorem setMm_since (m : Nat) (x : MmS) : (setMm s m x).since = s.since := rfl
@[simp] theorem setMm_page (m : Nat) (x : MmS) : (setMm s m x).page = s.page := rfl
@[simp] theorem setMm_regs (m : Nat) (x : MmS) : (setMm s m x).regs = s.regs := rfl
@[simp] theorem setMm_galley (m : Nat) (x : MmS) : (setMm s m x).galley = s.galley := rfl
@[simp] theorem setMm_mem (m : Nat) (x : MmS) : (setMm s m x).mem = s.mem := rfl
@[simp] theorem setMm_poison (m : Nat) (x : MmS) : (setMm s m x).poison = s.poison := rfl
@[simp] theorem setMm_capPcie (m : Nat) (x : MmS) : (setMm s m x).capPcie = s.capPcie := rfl
@[simp] theorem setMm_capQspi (m : Nat) (x : MmS) : (setMm s m x).capQspi = s.capQspi := rfl
@[simp] theorem setMm_qspi (m : Nat) (x : MmS) : (setMm s m x).qspi = s.qspi := rfl
@[simp] theorem setMm_hwCyc (m : Nat) (x : MmS) : (setMm s m x).hwCyc = s.hwCyc := rfl
@[simp] theorem setMm_hwBits (m : Nat) (x : MmS) : (setMm s m x).hwBits = s.hwBits := rfl
@[simp] theorem setMm_out (m : Nat) (x : MmS) : (setMm s m x).out = s.out := rfl
@[simp] theorem setMm_free (m : Nat) (x : MmS) : (setMm s m x).free = s.free := rfl
@[simp] theorem setMm_pending (m : Nat) (x : MmS) : (setMm s m x).pending = s.pending := rfl

/-! ### `setCh` writes edg only -/

@[simp] theorem setCh_sys (c : Nat) (x : ChanS) : (setCh s c x).sys = s.sys := rfl
@[simp] theorem setCh_quo (c : Nat) (x : ChanS) : (setCh s c x).quo = s.quo := rfl
@[simp] theorem setCh_evt (c : Nat) (x : ChanS) : (setCh s c x).evt = s.evt := rfl
@[simp] theorem setCh_mmq (c : Nat) (x : ChanS) : (setCh s c x).mmq = s.mmq := rfl
@[simp] theorem setCh_trigq (c : Nat) (x : ChanS) : (setCh s c x).trigq = s.trigq := rfl
@[simp] theorem setCh_mms (c : Nat) (x : ChanS) : (setCh s c x).mms = s.mms := rfl
@[simp] theorem setCh_plts (c : Nat) (x : ChanS) : (setCh s c x).plts = s.plts := rfl
@[simp] theorem setCh_tim (c : Nat) (x : ChanS) : (setCh s c x).tim = s.tim := rfl
@[simp] theorem setCh_pwr (c : Nat) (x : ChanS) : (setCh s c x).pwr = s.pwr := rfl
@[simp] theorem setCh_tst (c : Nat) (x : ChanS) : (setCh s c x).tst = s.tst := rfl
@[simp] theorem setCh_pins (c : Nat) (x : ChanS) : (setCh s c x).pins = s.pins := rfl
@[simp] theorem setCh_aux (c : Nat) (x : ChanS) : (setCh s c x).aux = s.aux := rfl
@[simp] theorem setCh_ain (c : Nat) (x : ChanS) : (setCh s c x).ain = s.ain := rfl
@[simp] theorem setCh_ainStart (c : Nat) (x : ChanS) : (setCh s c x).ainStart = s.ainStart := rfl
@[simp] theorem setCh_segOut (c : Nat) (x : ChanS) : (setCh s c x).segOut = s.segOut := rfl
@[simp] theorem setCh_trk (c : Nat) (x : ChanS) : (setCh s c x).trk = s.trk := rfl
@[simp] theorem setCh_src (c : Nat) (x : ChanS) : (setCh s c x).src = s.src := rfl
@[simp] theorem setCh_lat (c : Nat) (x : ChanS) : (setCh s c x).lat = s.lat := rfl
@[simp] theorem setCh_cmp (c : Nat) (x : ChanS) : (setCh s c x).cmp = s.cmp := rfl
@[simp] theorem setCh_mot (c : Nat) (x : ChanS) : (setCh s c x).mot = s.mot := rfl
@[simp] theorem setCh_fio (c : Nat) (x : ChanS) : (setCh s c x).fio = s.fio := rfl
@[simp] theorem setCh_saf (c : Nat) (x : ChanS) : (setCh s c x).saf = s.saf := rfl
@[simp] theorem setCh_nv (c : Nat) (x : ChanS) : (setCh s c x).nv = s.nv := rfl
@[simp] theorem setCh_net (c : Nat) (x : ChanS) : (setCh s c x).net = s.net := rfl
@[simp] theorem setCh_can (c : Nat) (x : ChanS) : (setCh s c x).can = s.can := rfl
@[simp] theorem setCh_acq (c : Nat) (x : ChanS) : (setCh s c x).acq = s.acq := rfl
@[simp] theorem setCh_par (c : Nat) (x : ChanS) : (setCh s c x).par = s.par := rfl
@[simp] theorem setCh_rom (c : Nat) (x : ChanS) : (setCh s c x).rom = s.rom := rfl
@[simp] theorem setCh_gly (c : Nat) (x : ChanS) : (setCh s c x).gly = s.gly := rfl
@[simp] theorem setCh_stuck (c : Nat) (x : ChanS) : (setCh s c x).stuck = s.stuck := rfl
@[simp] theorem setCh_settle (c : Nat) (x : ChanS) : (setCh s c x).settle = s.settle := rfl
@[simp] theorem setCh_since (c : Nat) (x : ChanS) : (setCh s c x).since = s.since := rfl
@[simp] theorem setCh_page (c : Nat) (x : ChanS) : (setCh s c x).page = s.page := rfl
@[simp] theorem setCh_regs (c : Nat) (x : ChanS) : (setCh s c x).regs = s.regs := rfl
@[simp] theorem setCh_galley (c : Nat) (x : ChanS) : (setCh s c x).galley = s.galley := rfl
@[simp] theorem setCh_mem (c : Nat) (x : ChanS) : (setCh s c x).mem = s.mem := rfl
@[simp] theorem setCh_poison (c : Nat) (x : ChanS) : (setCh s c x).poison = s.poison := rfl
@[simp] theorem setCh_capPcie (c : Nat) (x : ChanS) : (setCh s c x).capPcie = s.capPcie := rfl
@[simp] theorem setCh_capQspi (c : Nat) (x : ChanS) : (setCh s c x).capQspi = s.capQspi := rfl
@[simp] theorem setCh_qspi (c : Nat) (x : ChanS) : (setCh s c x).qspi = s.qspi := rfl
@[simp] theorem setCh_hwCyc (c : Nat) (x : ChanS) : (setCh s c x).hwCyc = s.hwCyc := rfl
@[simp] theorem setCh_hwBits (c : Nat) (x : ChanS) : (setCh s c x).hwBits = s.hwBits := rfl
@[simp] theorem setCh_out (c : Nat) (x : ChanS) : (setCh s c x).out = s.out := rfl
@[simp] theorem setCh_free (c : Nat) (x : ChanS) : (setCh s c x).free = s.free := rfl
@[simp] theorem setCh_pending (c : Nat) (x : ChanS) : (setCh s c x).pending = s.pending := rfl

/-! ### `modCh` writes edg only -/

@[simp] theorem modCh_sys (c : Nat) (f : ChanS → ChanS) : (modCh s c f).sys = s.sys := rfl
@[simp] theorem modCh_quo (c : Nat) (f : ChanS → ChanS) : (modCh s c f).quo = s.quo := rfl
@[simp] theorem modCh_evt (c : Nat) (f : ChanS → ChanS) : (modCh s c f).evt = s.evt := rfl
@[simp] theorem modCh_mmq (c : Nat) (f : ChanS → ChanS) : (modCh s c f).mmq = s.mmq := rfl
@[simp] theorem modCh_trigq (c : Nat) (f : ChanS → ChanS) : (modCh s c f).trigq = s.trigq := rfl
@[simp] theorem modCh_mms (c : Nat) (f : ChanS → ChanS) : (modCh s c f).mms = s.mms := rfl
@[simp] theorem modCh_plts (c : Nat) (f : ChanS → ChanS) : (modCh s c f).plts = s.plts := rfl
@[simp] theorem modCh_tim (c : Nat) (f : ChanS → ChanS) : (modCh s c f).tim = s.tim := rfl
@[simp] theorem modCh_pwr (c : Nat) (f : ChanS → ChanS) : (modCh s c f).pwr = s.pwr := rfl
@[simp] theorem modCh_tst (c : Nat) (f : ChanS → ChanS) : (modCh s c f).tst = s.tst := rfl
@[simp] theorem modCh_pins (c : Nat) (f : ChanS → ChanS) : (modCh s c f).pins = s.pins := rfl
@[simp] theorem modCh_aux (c : Nat) (f : ChanS → ChanS) : (modCh s c f).aux = s.aux := rfl
@[simp] theorem modCh_ain (c : Nat) (f : ChanS → ChanS) : (modCh s c f).ain = s.ain := rfl
@[simp] theorem modCh_ainStart (c : Nat) (f : ChanS → ChanS) : (modCh s c f).ainStart = s.ainStart := rfl
@[simp] theorem modCh_segOut (c : Nat) (f : ChanS → ChanS) : (modCh s c f).segOut = s.segOut := rfl
@[simp] theorem modCh_trk (c : Nat) (f : ChanS → ChanS) : (modCh s c f).trk = s.trk := rfl
@[simp] theorem modCh_src (c : Nat) (f : ChanS → ChanS) : (modCh s c f).src = s.src := rfl
@[simp] theorem modCh_lat (c : Nat) (f : ChanS → ChanS) : (modCh s c f).lat = s.lat := rfl
@[simp] theorem modCh_cmp (c : Nat) (f : ChanS → ChanS) : (modCh s c f).cmp = s.cmp := rfl
@[simp] theorem modCh_mot (c : Nat) (f : ChanS → ChanS) : (modCh s c f).mot = s.mot := rfl
@[simp] theorem modCh_fio (c : Nat) (f : ChanS → ChanS) : (modCh s c f).fio = s.fio := rfl
@[simp] theorem modCh_saf (c : Nat) (f : ChanS → ChanS) : (modCh s c f).saf = s.saf := rfl
@[simp] theorem modCh_nv (c : Nat) (f : ChanS → ChanS) : (modCh s c f).nv = s.nv := rfl
@[simp] theorem modCh_net (c : Nat) (f : ChanS → ChanS) : (modCh s c f).net = s.net := rfl
@[simp] theorem modCh_can (c : Nat) (f : ChanS → ChanS) : (modCh s c f).can = s.can := rfl
@[simp] theorem modCh_acq (c : Nat) (f : ChanS → ChanS) : (modCh s c f).acq = s.acq := rfl
@[simp] theorem modCh_par (c : Nat) (f : ChanS → ChanS) : (modCh s c f).par = s.par := rfl
@[simp] theorem modCh_rom (c : Nat) (f : ChanS → ChanS) : (modCh s c f).rom = s.rom := rfl
@[simp] theorem modCh_gly (c : Nat) (f : ChanS → ChanS) : (modCh s c f).gly = s.gly := rfl
@[simp] theorem modCh_stuck (c : Nat) (f : ChanS → ChanS) : (modCh s c f).stuck = s.stuck := rfl
@[simp] theorem modCh_settle (c : Nat) (f : ChanS → ChanS) : (modCh s c f).settle = s.settle := rfl
@[simp] theorem modCh_since (c : Nat) (f : ChanS → ChanS) : (modCh s c f).since = s.since := rfl
@[simp] theorem modCh_page (c : Nat) (f : ChanS → ChanS) : (modCh s c f).page = s.page := rfl
@[simp] theorem modCh_regs (c : Nat) (f : ChanS → ChanS) : (modCh s c f).regs = s.regs := rfl
@[simp] theorem modCh_galley (c : Nat) (f : ChanS → ChanS) : (modCh s c f).galley = s.galley := rfl
@[simp] theorem modCh_mem (c : Nat) (f : ChanS → ChanS) : (modCh s c f).mem = s.mem := rfl
@[simp] theorem modCh_poison (c : Nat) (f : ChanS → ChanS) : (modCh s c f).poison = s.poison := rfl
@[simp] theorem modCh_capPcie (c : Nat) (f : ChanS → ChanS) : (modCh s c f).capPcie = s.capPcie := rfl
@[simp] theorem modCh_capQspi (c : Nat) (f : ChanS → ChanS) : (modCh s c f).capQspi = s.capQspi := rfl
@[simp] theorem modCh_qspi (c : Nat) (f : ChanS → ChanS) : (modCh s c f).qspi = s.qspi := rfl
@[simp] theorem modCh_hwCyc (c : Nat) (f : ChanS → ChanS) : (modCh s c f).hwCyc = s.hwCyc := rfl
@[simp] theorem modCh_hwBits (c : Nat) (f : ChanS → ChanS) : (modCh s c f).hwBits = s.hwBits := rfl
@[simp] theorem modCh_out (c : Nat) (f : ChanS → ChanS) : (modCh s c f).out = s.out := rfl
@[simp] theorem modCh_free (c : Nat) (f : ChanS → ChanS) : (modCh s c f).free = s.free := rfl
@[simp] theorem modCh_pending (c : Nat) (f : ChanS → ChanS) : (modCh s c f).pending = s.pending := rfl

/-! ### `setPrf` writes mot only -/

@[simp] theorem setPrf_sys (m : Nat) (x : PrfS) : (setPrf m x s).sys = s.sys := rfl
@[simp] theorem setPrf_quo (m : Nat) (x : PrfS) : (setPrf m x s).quo = s.quo := rfl
@[simp] theorem setPrf_evt (m : Nat) (x : PrfS) : (setPrf m x s).evt = s.evt := rfl
@[simp] theorem setPrf_mmq (m : Nat) (x : PrfS) : (setPrf m x s).mmq = s.mmq := rfl
@[simp] theorem setPrf_trigq (m : Nat) (x : PrfS) : (setPrf m x s).trigq = s.trigq := rfl
@[simp] theorem setPrf_mms (m : Nat) (x : PrfS) : (setPrf m x s).mms = s.mms := rfl
@[simp] theorem setPrf_plts (m : Nat) (x : PrfS) : (setPrf m x s).plts = s.plts := rfl
@[simp] theorem setPrf_tim (m : Nat) (x : PrfS) : (setPrf m x s).tim = s.tim := rfl
@[simp] theorem setPrf_pwr (m : Nat) (x : PrfS) : (setPrf m x s).pwr = s.pwr := rfl
@[simp] theorem setPrf_tst (m : Nat) (x : PrfS) : (setPrf m x s).tst = s.tst := rfl
@[simp] theorem setPrf_pins (m : Nat) (x : PrfS) : (setPrf m x s).pins = s.pins := rfl
@[simp] theorem setPrf_edg (m : Nat) (x : PrfS) : (setPrf m x s).edg = s.edg := rfl
@[simp] theorem setPrf_aux (m : Nat) (x : PrfS) : (setPrf m x s).aux = s.aux := rfl
@[simp] theorem setPrf_ain (m : Nat) (x : PrfS) : (setPrf m x s).ain = s.ain := rfl
@[simp] theorem setPrf_ainStart (m : Nat) (x : PrfS) : (setPrf m x s).ainStart = s.ainStart := rfl
@[simp] theorem setPrf_segOut (m : Nat) (x : PrfS) : (setPrf m x s).segOut = s.segOut := rfl
@[simp] theorem setPrf_trk (m : Nat) (x : PrfS) : (setPrf m x s).trk = s.trk := rfl
@[simp] theorem setPrf_src (m : Nat) (x : PrfS) : (setPrf m x s).src = s.src := rfl
@[simp] theorem setPrf_lat (m : Nat) (x : PrfS) : (setPrf m x s).lat = s.lat := rfl
@[simp] theorem setPrf_cmp (m : Nat) (x : PrfS) : (setPrf m x s).cmp = s.cmp := rfl
@[simp] theorem setPrf_fio (m : Nat) (x : PrfS) : (setPrf m x s).fio = s.fio := rfl
@[simp] theorem setPrf_saf (m : Nat) (x : PrfS) : (setPrf m x s).saf = s.saf := rfl
@[simp] theorem setPrf_nv (m : Nat) (x : PrfS) : (setPrf m x s).nv = s.nv := rfl
@[simp] theorem setPrf_net (m : Nat) (x : PrfS) : (setPrf m x s).net = s.net := rfl
@[simp] theorem setPrf_can (m : Nat) (x : PrfS) : (setPrf m x s).can = s.can := rfl
@[simp] theorem setPrf_acq (m : Nat) (x : PrfS) : (setPrf m x s).acq = s.acq := rfl
@[simp] theorem setPrf_par (m : Nat) (x : PrfS) : (setPrf m x s).par = s.par := rfl
@[simp] theorem setPrf_rom (m : Nat) (x : PrfS) : (setPrf m x s).rom = s.rom := rfl
@[simp] theorem setPrf_gly (m : Nat) (x : PrfS) : (setPrf m x s).gly = s.gly := rfl
@[simp] theorem setPrf_stuck (m : Nat) (x : PrfS) : (setPrf m x s).stuck = s.stuck := rfl
@[simp] theorem setPrf_settle (m : Nat) (x : PrfS) : (setPrf m x s).settle = s.settle := rfl
@[simp] theorem setPrf_since (m : Nat) (x : PrfS) : (setPrf m x s).since = s.since := rfl
@[simp] theorem setPrf_page (m : Nat) (x : PrfS) : (setPrf m x s).page = s.page := rfl
@[simp] theorem setPrf_regs (m : Nat) (x : PrfS) : (setPrf m x s).regs = s.regs := rfl
@[simp] theorem setPrf_galley (m : Nat) (x : PrfS) : (setPrf m x s).galley = s.galley := rfl
@[simp] theorem setPrf_mem (m : Nat) (x : PrfS) : (setPrf m x s).mem = s.mem := rfl
@[simp] theorem setPrf_poison (m : Nat) (x : PrfS) : (setPrf m x s).poison = s.poison := rfl
@[simp] theorem setPrf_capPcie (m : Nat) (x : PrfS) : (setPrf m x s).capPcie = s.capPcie := rfl
@[simp] theorem setPrf_capQspi (m : Nat) (x : PrfS) : (setPrf m x s).capQspi = s.capQspi := rfl
@[simp] theorem setPrf_qspi (m : Nat) (x : PrfS) : (setPrf m x s).qspi = s.qspi := rfl
@[simp] theorem setPrf_hwCyc (m : Nat) (x : PrfS) : (setPrf m x s).hwCyc = s.hwCyc := rfl
@[simp] theorem setPrf_hwBits (m : Nat) (x : PrfS) : (setPrf m x s).hwBits = s.hwBits := rfl
@[simp] theorem setPrf_out (m : Nat) (x : PrfS) : (setPrf m x s).out = s.out := rfl
@[simp] theorem setPrf_free (m : Nat) (x : PrfS) : (setPrf m x s).free = s.free := rfl
@[simp] theorem setPrf_pending (m : Nat) (x : PrfS) : (setPrf m x s).pending = s.pending := rfl

/-! ### `setAcd` writes mot only -/

@[simp] theorem setAcd_sys (a : Nat) (x : AcdS) : (setAcd a x s).sys = s.sys := rfl
@[simp] theorem setAcd_quo (a : Nat) (x : AcdS) : (setAcd a x s).quo = s.quo := rfl
@[simp] theorem setAcd_evt (a : Nat) (x : AcdS) : (setAcd a x s).evt = s.evt := rfl
@[simp] theorem setAcd_mmq (a : Nat) (x : AcdS) : (setAcd a x s).mmq = s.mmq := rfl
@[simp] theorem setAcd_trigq (a : Nat) (x : AcdS) : (setAcd a x s).trigq = s.trigq := rfl
@[simp] theorem setAcd_mms (a : Nat) (x : AcdS) : (setAcd a x s).mms = s.mms := rfl
@[simp] theorem setAcd_plts (a : Nat) (x : AcdS) : (setAcd a x s).plts = s.plts := rfl
@[simp] theorem setAcd_tim (a : Nat) (x : AcdS) : (setAcd a x s).tim = s.tim := rfl
@[simp] theorem setAcd_pwr (a : Nat) (x : AcdS) : (setAcd a x s).pwr = s.pwr := rfl
@[simp] theorem setAcd_tst (a : Nat) (x : AcdS) : (setAcd a x s).tst = s.tst := rfl
@[simp] theorem setAcd_pins (a : Nat) (x : AcdS) : (setAcd a x s).pins = s.pins := rfl
@[simp] theorem setAcd_edg (a : Nat) (x : AcdS) : (setAcd a x s).edg = s.edg := rfl
@[simp] theorem setAcd_aux (a : Nat) (x : AcdS) : (setAcd a x s).aux = s.aux := rfl
@[simp] theorem setAcd_ain (a : Nat) (x : AcdS) : (setAcd a x s).ain = s.ain := rfl
@[simp] theorem setAcd_ainStart (a : Nat) (x : AcdS) : (setAcd a x s).ainStart = s.ainStart := rfl
@[simp] theorem setAcd_segOut (a : Nat) (x : AcdS) : (setAcd a x s).segOut = s.segOut := rfl
@[simp] theorem setAcd_trk (a : Nat) (x : AcdS) : (setAcd a x s).trk = s.trk := rfl
@[simp] theorem setAcd_src (a : Nat) (x : AcdS) : (setAcd a x s).src = s.src := rfl
@[simp] theorem setAcd_lat (a : Nat) (x : AcdS) : (setAcd a x s).lat = s.lat := rfl
@[simp] theorem setAcd_cmp (a : Nat) (x : AcdS) : (setAcd a x s).cmp = s.cmp := rfl
@[simp] theorem setAcd_fio (a : Nat) (x : AcdS) : (setAcd a x s).fio = s.fio := rfl
@[simp] theorem setAcd_saf (a : Nat) (x : AcdS) : (setAcd a x s).saf = s.saf := rfl
@[simp] theorem setAcd_nv (a : Nat) (x : AcdS) : (setAcd a x s).nv = s.nv := rfl
@[simp] theorem setAcd_net (a : Nat) (x : AcdS) : (setAcd a x s).net = s.net := rfl
@[simp] theorem setAcd_can (a : Nat) (x : AcdS) : (setAcd a x s).can = s.can := rfl
@[simp] theorem setAcd_acq (a : Nat) (x : AcdS) : (setAcd a x s).acq = s.acq := rfl
@[simp] theorem setAcd_par (a : Nat) (x : AcdS) : (setAcd a x s).par = s.par := rfl
@[simp] theorem setAcd_rom (a : Nat) (x : AcdS) : (setAcd a x s).rom = s.rom := rfl
@[simp] theorem setAcd_gly (a : Nat) (x : AcdS) : (setAcd a x s).gly = s.gly := rfl
@[simp] theorem setAcd_stuck (a : Nat) (x : AcdS) : (setAcd a x s).stuck = s.stuck := rfl
@[simp] theorem setAcd_settle (a : Nat) (x : AcdS) : (setAcd a x s).settle = s.settle := rfl
@[simp] theorem setAcd_since (a : Nat) (x : AcdS) : (setAcd a x s).since = s.since := rfl
@[simp] theorem setAcd_page (a : Nat) (x : AcdS) : (setAcd a x s).page = s.page := rfl
@[simp] theorem setAcd_regs (a : Nat) (x : AcdS) : (setAcd a x s).regs = s.regs := rfl
@[simp] theorem setAcd_galley (a : Nat) (x : AcdS) : (setAcd a x s).galley = s.galley := rfl
@[simp] theorem setAcd_mem (a : Nat) (x : AcdS) : (setAcd a x s).mem = s.mem := rfl
@[simp] theorem setAcd_poison (a : Nat) (x : AcdS) : (setAcd a x s).poison = s.poison := rfl
@[simp] theorem setAcd_capPcie (a : Nat) (x : AcdS) : (setAcd a x s).capPcie = s.capPcie := rfl
@[simp] theorem setAcd_capQspi (a : Nat) (x : AcdS) : (setAcd a x s).capQspi = s.capQspi := rfl
@[simp] theorem setAcd_qspi (a : Nat) (x : AcdS) : (setAcd a x s).qspi = s.qspi := rfl
@[simp] theorem setAcd_hwCyc (a : Nat) (x : AcdS) : (setAcd a x s).hwCyc = s.hwCyc := rfl
@[simp] theorem setAcd_hwBits (a : Nat) (x : AcdS) : (setAcd a x s).hwBits = s.hwBits := rfl
@[simp] theorem setAcd_out (a : Nat) (x : AcdS) : (setAcd a x s).out = s.out := rfl
@[simp] theorem setAcd_free (a : Nat) (x : AcdS) : (setAcd a x s).free = s.free := rfl
@[simp] theorem setAcd_pending (a : Nat) (x : AcdS) : (setAcd a x s).pending = s.pending := rfl

/-! ### `setPth` writes mot only -/

@[simp] theorem setPth_sys (g : Nat) (x : PthS) : (setPth g x s).sys = s.sys := rfl
@[simp] theorem setPth_quo (g : Nat) (x : PthS) : (setPth g x s).quo = s.quo := rfl
@[simp] theorem setPth_evt (g : Nat) (x : PthS) : (setPth g x s).evt = s.evt := rfl
@[simp] theorem setPth_mmq (g : Nat) (x : PthS) : (setPth g x s).mmq = s.mmq := rfl
@[simp] theorem setPth_trigq (g : Nat) (x : PthS) : (setPth g x s).trigq = s.trigq := rfl
@[simp] theorem setPth_mms (g : Nat) (x : PthS) : (setPth g x s).mms = s.mms := rfl
@[simp] theorem setPth_plts (g : Nat) (x : PthS) : (setPth g x s).plts = s.plts := rfl
@[simp] theorem setPth_tim (g : Nat) (x : PthS) : (setPth g x s).tim = s.tim := rfl
@[simp] theorem setPth_pwr (g : Nat) (x : PthS) : (setPth g x s).pwr = s.pwr := rfl
@[simp] theorem setPth_tst (g : Nat) (x : PthS) : (setPth g x s).tst = s.tst := rfl
@[simp] theorem setPth_pins (g : Nat) (x : PthS) : (setPth g x s).pins = s.pins := rfl
@[simp] theorem setPth_edg (g : Nat) (x : PthS) : (setPth g x s).edg = s.edg := rfl
@[simp] theorem setPth_aux (g : Nat) (x : PthS) : (setPth g x s).aux = s.aux := rfl
@[simp] theorem setPth_ain (g : Nat) (x : PthS) : (setPth g x s).ain = s.ain := rfl
@[simp] theorem setPth_ainStart (g : Nat) (x : PthS) : (setPth g x s).ainStart = s.ainStart := rfl
@[simp] theorem setPth_segOut (g : Nat) (x : PthS) : (setPth g x s).segOut = s.segOut := rfl
@[simp] theorem setPth_trk (g : Nat) (x : PthS) : (setPth g x s).trk = s.trk := rfl
@[simp] theorem setPth_src (g : Nat) (x : PthS) : (setPth g x s).src = s.src := rfl
@[simp] theorem setPth_lat (g : Nat) (x : PthS) : (setPth g x s).lat = s.lat := rfl
@[simp] theorem setPth_cmp (g : Nat) (x : PthS) : (setPth g x s).cmp = s.cmp := rfl
@[simp] theorem setPth_fio (g : Nat) (x : PthS) : (setPth g x s).fio = s.fio := rfl
@[simp] theorem setPth_saf (g : Nat) (x : PthS) : (setPth g x s).saf = s.saf := rfl
@[simp] theorem setPth_nv (g : Nat) (x : PthS) : (setPth g x s).nv = s.nv := rfl
@[simp] theorem setPth_net (g : Nat) (x : PthS) : (setPth g x s).net = s.net := rfl
@[simp] theorem setPth_can (g : Nat) (x : PthS) : (setPth g x s).can = s.can := rfl
@[simp] theorem setPth_acq (g : Nat) (x : PthS) : (setPth g x s).acq = s.acq := rfl
@[simp] theorem setPth_par (g : Nat) (x : PthS) : (setPth g x s).par = s.par := rfl
@[simp] theorem setPth_rom (g : Nat) (x : PthS) : (setPth g x s).rom = s.rom := rfl
@[simp] theorem setPth_gly (g : Nat) (x : PthS) : (setPth g x s).gly = s.gly := rfl
@[simp] theorem setPth_stuck (g : Nat) (x : PthS) : (setPth g x s).stuck = s.stuck := rfl
@[simp] theorem setPth_settle (g : Nat) (x : PthS) : (setPth g x s).settle = s.settle := rfl
@[simp] theorem setPth_since (g : Nat) (x : PthS) : (setPth g x s).since = s.since := rfl
@[simp] theorem setPth_page (g : Nat) (x : PthS) : (setPth g x s).page = s.page := rfl
@[simp] theorem setPth_regs (g : Nat) (x : PthS) : (setPth g x s).regs = s.regs := rfl
@[simp] theorem setPth_galley (g : Nat) (x : PthS) : (setPth g x s).galley = s.galley := rfl
@[simp] theorem setPth_mem (g : Nat) (x : PthS) : (setPth g x s).mem = s.mem := rfl
@[simp] theorem setPth_poison (g : Nat) (x : PthS) : (setPth g x s).poison = s.poison := rfl
@[simp] theorem setPth_capPcie (g : Nat) (x : PthS) : (setPth g x s).capPcie = s.capPcie := rfl
@[simp] theorem setPth_capQspi (g : Nat) (x : PthS) : (setPth g x s).capQspi = s.capQspi := rfl
@[simp] theorem setPth_qspi (g : Nat) (x : PthS) : (setPth g x s).qspi = s.qspi := rfl
@[simp] theorem setPth_hwCyc (g : Nat) (x : PthS) : (setPth g x s).hwCyc = s.hwCyc := rfl
@[simp] theorem setPth_hwBits (g : Nat) (x : PthS) : (setPth g x s).hwBits = s.hwBits := rfl
@[simp] theorem setPth_out (g : Nat) (x : PthS) : (setPth g x s).out = s.out := rfl
@[simp] theorem setPth_free (g : Nat) (x : PthS) : (setPth g x s).free = s.free := rfl
@[simp] theorem setPth_pending (g : Nat) (x : PthS) : (setPth g x s).pending = s.pending := rfl

/-! ### `pagePut` writes page only -/

@[simp] theorem pagePut_sys (o : Nat) (v : W24) : (pagePut o v s).sys = s.sys := rfl
@[simp] theorem pagePut_quo (o : Nat) (v : W24) : (pagePut o v s).quo = s.quo := rfl
@[simp] theorem pagePut_evt (o : Nat) (v : W24) : (pagePut o v s).evt = s.evt := rfl
@[simp] theorem pagePut_mmq (o : Nat) (v : W24) : (pagePut o v s).mmq = s.mmq := rfl
@[simp] theorem pagePut_trigq (o : Nat) (v : W24) : (pagePut o v s).trigq = s.trigq := rfl
@[simp] theorem pagePut_mms (o : Nat) (v : W24) : (pagePut o v s).mms = s.mms := rfl
@[simp] theorem pagePut_plts (o : Nat) (v : W24) : (pagePut o v s).plts = s.plts := rfl
@[simp] theorem pagePut_tim (o : Nat) (v : W24) : (pagePut o v s).tim = s.tim := rfl
@[simp] theorem pagePut_pwr (o : Nat) (v : W24) : (pagePut o v s).pwr = s.pwr := rfl
@[simp] theorem pagePut_tst (o : Nat) (v : W24) : (pagePut o v s).tst = s.tst := rfl
@[simp] theorem pagePut_pins (o : Nat) (v : W24) : (pagePut o v s).pins = s.pins := rfl
@[simp] theorem pagePut_edg (o : Nat) (v : W24) : (pagePut o v s).edg = s.edg := rfl
@[simp] theorem pagePut_aux (o : Nat) (v : W24) : (pagePut o v s).aux = s.aux := rfl
@[simp] theorem pagePut_ain (o : Nat) (v : W24) : (pagePut o v s).ain = s.ain := rfl
@[simp] theorem pagePut_ainStart (o : Nat) (v : W24) : (pagePut o v s).ainStart = s.ainStart := rfl
@[simp] theorem pagePut_segOut (o : Nat) (v : W24) : (pagePut o v s).segOut = s.segOut := rfl
@[simp] theorem pagePut_trk (o : Nat) (v : W24) : (pagePut o v s).trk = s.trk := rfl
@[simp] theorem pagePut_src (o : Nat) (v : W24) : (pagePut o v s).src = s.src := rfl
@[simp] theorem pagePut_lat (o : Nat) (v : W24) : (pagePut o v s).lat = s.lat := rfl
@[simp] theorem pagePut_cmp (o : Nat) (v : W24) : (pagePut o v s).cmp = s.cmp := rfl
@[simp] theorem pagePut_mot (o : Nat) (v : W24) : (pagePut o v s).mot = s.mot := rfl
@[simp] theorem pagePut_fio (o : Nat) (v : W24) : (pagePut o v s).fio = s.fio := rfl
@[simp] theorem pagePut_saf (o : Nat) (v : W24) : (pagePut o v s).saf = s.saf := rfl
@[simp] theorem pagePut_nv (o : Nat) (v : W24) : (pagePut o v s).nv = s.nv := rfl
@[simp] theorem pagePut_net (o : Nat) (v : W24) : (pagePut o v s).net = s.net := rfl
@[simp] theorem pagePut_can (o : Nat) (v : W24) : (pagePut o v s).can = s.can := rfl
@[simp] theorem pagePut_acq (o : Nat) (v : W24) : (pagePut o v s).acq = s.acq := rfl
@[simp] theorem pagePut_par (o : Nat) (v : W24) : (pagePut o v s).par = s.par := rfl
@[simp] theorem pagePut_rom (o : Nat) (v : W24) : (pagePut o v s).rom = s.rom := rfl
@[simp] theorem pagePut_gly (o : Nat) (v : W24) : (pagePut o v s).gly = s.gly := rfl
@[simp] theorem pagePut_stuck (o : Nat) (v : W24) : (pagePut o v s).stuck = s.stuck := rfl
@[simp] theorem pagePut_settle (o : Nat) (v : W24) : (pagePut o v s).settle = s.settle := rfl
@[simp] theorem pagePut_since (o : Nat) (v : W24) : (pagePut o v s).since = s.since := rfl
@[simp] theorem pagePut_regs (o : Nat) (v : W24) : (pagePut o v s).regs = s.regs := rfl
@[simp] theorem pagePut_galley (o : Nat) (v : W24) : (pagePut o v s).galley = s.galley := rfl
@[simp] theorem pagePut_mem (o : Nat) (v : W24) : (pagePut o v s).mem = s.mem := rfl
@[simp] theorem pagePut_poison (o : Nat) (v : W24) : (pagePut o v s).poison = s.poison := rfl
@[simp] theorem pagePut_capPcie (o : Nat) (v : W24) : (pagePut o v s).capPcie = s.capPcie := rfl
@[simp] theorem pagePut_capQspi (o : Nat) (v : W24) : (pagePut o v s).capQspi = s.capQspi := rfl
@[simp] theorem pagePut_qspi (o : Nat) (v : W24) : (pagePut o v s).qspi = s.qspi := rfl
@[simp] theorem pagePut_hwCyc (o : Nat) (v : W24) : (pagePut o v s).hwCyc = s.hwCyc := rfl
@[simp] theorem pagePut_hwBits (o : Nat) (v : W24) : (pagePut o v s).hwBits = s.hwBits := rfl
@[simp] theorem pagePut_out (o : Nat) (v : W24) : (pagePut o v s).out = s.out := rfl
@[simp] theorem pagePut_free (o : Nat) (v : W24) : (pagePut o v s).free = s.free := rfl
@[simp] theorem pagePut_pending (o : Nat) (v : W24) : (pagePut o v s).pending = s.pending := rfl

/-! ### `drawn` writes free only -/

@[simp] theorem drawn_sys : (drawn s).sys = s.sys := rfl
@[simp] theorem drawn_quo : (drawn s).quo = s.quo := rfl
@[simp] theorem drawn_evt : (drawn s).evt = s.evt := rfl
@[simp] theorem drawn_mmq : (drawn s).mmq = s.mmq := rfl
@[simp] theorem drawn_trigq : (drawn s).trigq = s.trigq := rfl
@[simp] theorem drawn_mms : (drawn s).mms = s.mms := rfl
@[simp] theorem drawn_plts : (drawn s).plts = s.plts := rfl
@[simp] theorem drawn_tim : (drawn s).tim = s.tim := rfl
@[simp] theorem drawn_pwr : (drawn s).pwr = s.pwr := rfl
@[simp] theorem drawn_tst : (drawn s).tst = s.tst := rfl
@[simp] theorem drawn_pins : (drawn s).pins = s.pins := rfl
@[simp] theorem drawn_edg : (drawn s).edg = s.edg := rfl
@[simp] theorem drawn_aux : (drawn s).aux = s.aux := rfl
@[simp] theorem drawn_ain : (drawn s).ain = s.ain := rfl
@[simp] theorem drawn_ainStart : (drawn s).ainStart = s.ainStart := rfl
@[simp] theorem drawn_segOut : (drawn s).segOut = s.segOut := rfl
@[simp] theorem drawn_trk : (drawn s).trk = s.trk := rfl
@[simp] theorem drawn_src : (drawn s).src = s.src := rfl
@[simp] theorem drawn_lat : (drawn s).lat = s.lat := rfl
@[simp] theorem drawn_cmp : (drawn s).cmp = s.cmp := rfl
@[simp] theorem drawn_mot : (drawn s).mot = s.mot := rfl
@[simp] theorem drawn_fio : (drawn s).fio = s.fio := rfl
@[simp] theorem drawn_saf : (drawn s).saf = s.saf := rfl
@[simp] theorem drawn_nv : (drawn s).nv = s.nv := rfl
@[simp] theorem drawn_net : (drawn s).net = s.net := rfl
@[simp] theorem drawn_can : (drawn s).can = s.can := rfl
@[simp] theorem drawn_acq : (drawn s).acq = s.acq := rfl
@[simp] theorem drawn_par : (drawn s).par = s.par := rfl
@[simp] theorem drawn_rom : (drawn s).rom = s.rom := rfl
@[simp] theorem drawn_gly : (drawn s).gly = s.gly := rfl
@[simp] theorem drawn_stuck : (drawn s).stuck = s.stuck := rfl
@[simp] theorem drawn_settle : (drawn s).settle = s.settle := rfl
@[simp] theorem drawn_since : (drawn s).since = s.since := rfl
@[simp] theorem drawn_page : (drawn s).page = s.page := rfl
@[simp] theorem drawn_regs : (drawn s).regs = s.regs := rfl
@[simp] theorem drawn_galley : (drawn s).galley = s.galley := rfl
@[simp] theorem drawn_mem : (drawn s).mem = s.mem := rfl
@[simp] theorem drawn_poison : (drawn s).poison = s.poison := rfl
@[simp] theorem drawn_capPcie : (drawn s).capPcie = s.capPcie := rfl
@[simp] theorem drawn_capQspi : (drawn s).capQspi = s.capQspi := rfl
@[simp] theorem drawn_qspi : (drawn s).qspi = s.qspi := rfl
@[simp] theorem drawn_hwCyc : (drawn s).hwCyc = s.hwCyc := rfl
@[simp] theorem drawn_hwBits : (drawn s).hwBits = s.hwBits := rfl
@[simp] theorem drawn_out : (drawn s).out = s.out := rfl
@[simp] theorem drawn_pending : (drawn s).pending = s.pending := rfl

/-! ### `advance` writes tim only -/

@[simp] theorem advance_sys (t : Nat) : (advance t s).sys = s.sys := rfl
@[simp] theorem advance_quo (t : Nat) : (advance t s).quo = s.quo := rfl
@[simp] theorem advance_evt (t : Nat) : (advance t s).evt = s.evt := rfl
@[simp] theorem advance_mmq (t : Nat) : (advance t s).mmq = s.mmq := rfl
@[simp] theorem advance_trigq (t : Nat) : (advance t s).trigq = s.trigq := rfl
@[simp] theorem advance_mms (t : Nat) : (advance t s).mms = s.mms := rfl
@[simp] theorem advance_plts (t : Nat) : (advance t s).plts = s.plts := rfl
@[simp] theorem advance_pwr (t : Nat) : (advance t s).pwr = s.pwr := rfl
@[simp] theorem advance_tst (t : Nat) : (advance t s).tst = s.tst := rfl
@[simp] theorem advance_pins (t : Nat) : (advance t s).pins = s.pins := rfl
@[simp] theorem advance_edg (t : Nat) : (advance t s).edg = s.edg := rfl
@[simp] theorem advance_aux (t : Nat) : (advance t s).aux = s.aux := rfl
@[simp] theorem advance_ain (t : Nat) : (advance t s).ain = s.ain := rfl
@[simp] theorem advance_ainStart (t : Nat) : (advance t s).ainStart = s.ainStart := rfl
@[simp] theorem advance_segOut (t : Nat) : (advance t s).segOut = s.segOut := rfl
@[simp] theorem advance_trk (t : Nat) : (advance t s).trk = s.trk := rfl
@[simp] theorem advance_src (t : Nat) : (advance t s).src = s.src := rfl
@[simp] theorem advance_lat (t : Nat) : (advance t s).lat = s.lat := rfl
@[simp] theorem advance_cmp (t : Nat) : (advance t s).cmp = s.cmp := rfl
@[simp] theorem advance_mot (t : Nat) : (advance t s).mot = s.mot := rfl
@[simp] theorem advance_fio (t : Nat) : (advance t s).fio = s.fio := rfl
@[simp] theorem advance_saf (t : Nat) : (advance t s).saf = s.saf := rfl
@[simp] theorem advance_nv (t : Nat) : (advance t s).nv = s.nv := rfl
@[simp] theorem advance_net (t : Nat) : (advance t s).net = s.net := rfl
@[simp] theorem advance_can (t : Nat) : (advance t s).can = s.can := rfl
@[simp] theorem advance_acq (t : Nat) : (advance t s).acq = s.acq := rfl
@[simp] theorem advance_par (t : Nat) : (advance t s).par = s.par := rfl
@[simp] theorem advance_rom (t : Nat) : (advance t s).rom = s.rom := rfl
@[simp] theorem advance_gly (t : Nat) : (advance t s).gly = s.gly := rfl
@[simp] theorem advance_stuck (t : Nat) : (advance t s).stuck = s.stuck := rfl
@[simp] theorem advance_settle (t : Nat) : (advance t s).settle = s.settle := rfl
@[simp] theorem advance_since (t : Nat) : (advance t s).since = s.since := rfl
@[simp] theorem advance_page (t : Nat) : (advance t s).page = s.page := rfl
@[simp] theorem advance_regs (t : Nat) : (advance t s).regs = s.regs := rfl
@[simp] theorem advance_galley (t : Nat) : (advance t s).galley = s.galley := rfl
@[simp] theorem advance_mem (t : Nat) : (advance t s).mem = s.mem := rfl
@[simp] theorem advance_poison (t : Nat) : (advance t s).poison = s.poison := rfl
@[simp] theorem advance_capPcie (t : Nat) : (advance t s).capPcie = s.capPcie := rfl
@[simp] theorem advance_capQspi (t : Nat) : (advance t s).capQspi = s.capQspi := rfl
@[simp] theorem advance_qspi (t : Nat) : (advance t s).qspi = s.qspi := rfl
@[simp] theorem advance_hwCyc (t : Nat) : (advance t s).hwCyc = s.hwCyc := rfl
@[simp] theorem advance_hwBits (t : Nat) : (advance t s).hwBits = s.hwBits := rfl
@[simp] theorem advance_out (t : Nat) : (advance t s).out = s.out := rfl
@[simp] theorem advance_free (t : Nat) : (advance t s).free = s.free := rfl
@[simp] theorem advance_pending (t : Nat) : (advance t s).pending = s.pending := rfl

/-! ### Reads of registers, fields and memory after an update elsewhere -/

@[simp] theorem memByte_wr (a : Nat) (v : Word) (ad : Nat) : memByte (wr s a v) ad = memByte s ad := rfl
@[simp] theorem memByte_fset (f : Fld) (v i j k : Nat) (ad : Nat) : memByte (fset s f v i j k) ad = memByte s ad := rfl
@[simp] theorem memByte_fsetBit (f : Fld) (b : Nat) (v : Bool) (i j k : Nat) (ad : Nat) : memByte (fsetBit s f b v i j k) ad = memByte s ad := rfl
@[simp] theorem rd_hwMark (a : Nat) (m : Word) (ad : Nat) : rd (hwMark a m s) ad = rd s ad := rfl
@[simp] theorem fget_hwMark (a : Nat) (m : Word) (fl : Fld) (i1 i2 i3 : Nat) : fget (hwMark a m s) fl i1 i2 i3 = fget s fl i1 i2 i3 := rfl
@[simp] theorem memByte_hwMark (a : Nat) (m : Word) (ad : Nat) : memByte (hwMark a m s) ad = memByte s ad := rfl
@[simp] theorem memByte_raiseFlag (f : Fld) (i j k : Nat) (ad : Nat) : memByte (raiseFlag s f i j k) ad = memByte s ad := rfl
@[simp] theorem memByte_raiseBit (f : Fld) (b i j k : Nat) (ad : Nat) : memByte (raiseBit s f b i j k) ad = memByte s ad := rfl
@[simp] theorem memByte_bump (f : Fld) (n i j k : Nat) (ad : Nat) : memByte (bump s f n i j k) ad = memByte s ad := rfl
@[simp] theorem rd_setMemByte (a : Nat) (b : Byte) (ad : Nat) : rd (setMemByte s a b) ad = rd s ad := rfl
@[simp] theorem fget_setMemByte (a : Nat) (b : Byte) (fl : Fld) (i1 i2 i3 : Nat) : fget (setMemByte s a b) fl i1 i2 i3 = fget s fl i1 i2 i3 := rfl
@[simp] theorem rd_setPoison (a : Nat) (b : Bool) (ad : Nat) : rd (setPoison s a b) ad = rd s ad := rfl
@[simp] theorem fget_setPoison (a : Nat) (b : Bool) (fl : Fld) (i1 i2 i3 : Nat) : fget (setPoison s a b) fl i1 i2 i3 = fget s fl i1 i2 i3 := rfl
@[simp] theorem memByte_setPoison (a : Nat) (b : Bool) (ad : Nat) : memByte (setPoison s a b) ad = memByte s ad := rfl
@[simp] theorem rd_setPlt (n : Nat) (p : PltS) (ad : Nat) : rd (setPlt s n p) ad = rd s ad := rfl
@[simp] theorem fget_setPlt (n : Nat) (p : PltS) (fl : Fld) (i1 i2 i3 : Nat) : fget (setPlt s n p) fl i1 i2 i3 = fget s fl i1 i2 i3 := rfl
@[simp] theorem memByte_setPlt (n : Nat) (p : PltS) (ad : Nat) : memByte (setPlt s n p) ad = memByte s ad := rfl
@[simp] theorem rd_setMm (m : Nat) (x : MmS) (ad : Nat) : rd (setMm s m x) ad = rd s ad := rfl
@[simp] theorem fget_setMm (m : Nat) (x : MmS) (fl : Fld) (i1 i2 i3 : Nat) : fget (setMm s m x) fl i1 i2 i3 = fget s fl i1 i2 i3 := rfl
@[simp] theorem memByte_setMm (m : Nat) (x : MmS) (ad : Nat) : memByte (setMm s m x) ad = memByte s ad := rfl
@[simp] theorem rd_setCh (c : Nat) (x : ChanS) (ad : Nat) : rd (setCh s c x) ad = rd s ad := rfl
@[simp] theorem fget_setCh (c : Nat) (x : ChanS) (fl : Fld) (i1 i2 i3 : Nat) : fget (setCh s c x) fl i1 i2 i3 = fget s fl i1 i2 i3 := rfl
@[simp] theorem memByte_setCh (c : Nat) (x : ChanS) (ad : Nat) : memByte (setCh s c x) ad = memByte s ad := rfl
@[simp] theorem rd_modCh (c : Nat) (f : ChanS → ChanS) (ad : Nat) : rd (modCh s c f) ad = rd s ad := rfl
@[simp] theorem fget_modCh (c : Nat) (f : ChanS → ChanS) (fl : Fld) (i1 i2 i3 : Nat) : fget (modCh s c f) fl i1 i2 i3 = fget s fl i1 i2 i3 := rfl
@[simp] theorem memByte_modCh (c : Nat) (f : ChanS → ChanS) (ad : Nat) : memByte (modCh s c f) ad = memByte s ad := rfl
@[simp] theorem rd_setPrf (m : Nat) (x : PrfS) (ad : Nat) : rd (setPrf m x s) ad = rd s ad := rfl
@[simp] theorem fget_setPrf (m : Nat) (x : PrfS) (fl : Fld) (i1 i2 i3 : Nat) : fget (setPrf m x s) fl i1 i2 i3 = fget s fl i1 i2 i3 := rfl
@[simp] theorem memByte_setPrf (m : Nat) (x : PrfS) (ad : Nat) : memByte (setPrf m x s) ad = memByte s ad := rfl
@[simp] theorem rd_setAcd (a : Nat) (x : AcdS) (ad : Nat) : rd (setAcd a x s) ad = rd s ad := rfl
@[simp] theorem fget_setAcd (a : Nat) (x : AcdS) (fl : Fld) (i1 i2 i3 : Nat) : fget (setAcd a x s) fl i1 i2 i3 = fget s fl i1 i2 i3 := rfl
@[simp] theorem memByte_setAcd (a : Nat) (x : AcdS) (ad : Nat) : memByte (setAcd a x s) ad = memByte s ad := rfl
@[simp] theorem rd_setPth (g : Nat) (x : PthS) (ad : Nat) : rd (setPth g x s) ad = rd s ad := rfl
@[simp] theorem fget_setPth (g : Nat) (x : PthS) (fl : Fld) (i1 i2 i3 : Nat) : fget (setPth g x s) fl i1 i2 i3 = fget s fl i1 i2 i3 := rfl
@[simp] theorem memByte_setPth (g : Nat) (x : PthS) (ad : Nat) : memByte (setPth g x s) ad = memByte s ad := rfl
@[simp] theorem rd_pagePut (o : Nat) (v : W24) (ad : Nat) : rd (pagePut o v s) ad = rd s ad := rfl
@[simp] theorem fget_pagePut (o : Nat) (v : W24) (fl : Fld) (i1 i2 i3 : Nat) : fget (pagePut o v s) fl i1 i2 i3 = fget s fl i1 i2 i3 := rfl
@[simp] theorem memByte_pagePut (o : Nat) (v : W24) (ad : Nat) : memByte (pagePut o v s) ad = memByte s ad := rfl
@[simp] theorem rd_drawn (ad : Nat) : rd (drawn s) ad = rd s ad := rfl
@[simp] theorem fget_drawn (fl : Fld) (i1 i2 i3 : Nat) : fget (drawn s) fl i1 i2 i3 = fget s fl i1 i2 i3 := rfl
@[simp] theorem memByte_drawn (ad : Nat) : memByte (drawn s) ad = memByte s ad := rfl
@[simp] theorem rd_advance (t : Nat) (ad : Nat) : rd (advance t s) ad = rd s ad := rfl
@[simp] theorem fget_advance (t : Nat) (fl : Fld) (i1 i2 i3 : Nat) : fget (advance t s) fl i1 i2 i3 = fget s fl i1 i2 i3 := rfl
@[simp] theorem memByte_advance (t : Nat) (ad : Nat) : memByte (advance t s) ad = memByte s ad := rfl

/-! ### Registers and fields -/

theorem rd_wr (a : Nat) (v : Word) (b : Nat) : rd (wr s a v) b = if b = a then v else rd s b := SMap.get_put _ _ _ _ _

@[simp] theorem rd_wr_self (a : Nat) (v : Word) : rd (wr s a v) a = v := SMap.get_put_self _ _ _ _

theorem rd_wr_ne (a : Nat) (v : Word) {b : Nat} (h : b ≠ a) : rd (wr s a v) b = rd s b := SMap.get_put_ne _ _ _ _ h

theorem rd_fset (f : Fld) (v i j k b : Nat) :
    rd (fset s f v i j k) b = if b = f.reg.at i j k then setBits (rd s b) f.lsb f.width v else rd s b := by
  unfold fset
  rw [rd_wr]
  split_ifs with h
  · rw [h]
  · rfl

theorem rd_fset_ne (f : Fld) (v i j k : Nat) {b : Nat} (h : b ≠ f.reg.at i j k) : rd (fset s f v i j k) b = rd s b :=
  rd_wr_ne s _ _ h

/-- A field reads what was written, in its width. -/
theorem fget_fset_self (f : Fld) (v i j k : Nat) (h : f.lsb + f.width ≤ 32) : fget (fset s f v i j k) f i j k = v % 2 ^ f.width := by
  unfold fget fset
  rw [rd_wr_self, bitsOf_setBits_self _ _ _ _ h]

/-- A write leaves the fields of other registers. -/
theorem fget_fset_ne (f : Fld) (v i j k : Nat) (g : Fld) (x y z : Nat) (h : g.reg.at x y z ≠ f.reg.at i j k) :
    fget (fset s f v i j k) g x y z = fget s g x y z := by
  unfold fget
  rw [rd_fset_ne s f v i j k h]

/-- A write leaves the other fields of its register. -/
theorem fget_fset_other (f : Fld) (v i j k : Nat) (g : Fld) (x y z : Nat) (hg : g.lsb + g.width ≤ 32)
    (h : f.lsb + f.width ≤ g.lsb ∨ g.lsb + g.width ≤ f.lsb) : fget (fset s f v i j k) g x y z = fget s g x y z := by
  unfold fget
  rw [rd_fset]
  split_ifs
  · exact bitsOf_setBits_other _ _ _ _ _ _ hg h
  · rfl

theorem fget_lt (f : Fld) (i j k : Nat) : fget s f i j k < 2 ^ f.width := bitsOf_lt _ _ _

/-- What is set by hardware reads as a written one does (R4). -/
theorem raiseFlag_regs (f : Fld) (i j k : Nat) : (raiseFlag s f i j k).regs = (fset s f 1 i j k).regs := rfl

theorem raiseBit_regs (f : Fld) (b i j k : Nat) : (raiseBit s f b i j k).regs = (fsetBit s f b true i j k).regs := rfl

theorem bump_regs (f : Fld) (n i j k : Nat) :
    (bump s f n i j k).regs = (fset s f (min (fget s f i j k + n) (2 ^ f.width - 1)) i j k).regs := rfl

@[simp] theorem rd_raiseFlag (f : Fld) (i j k b : Nat) : rd (raiseFlag s f i j k) b = rd (fset s f 1 i j k) b := rfl

@[simp] theorem fget_raiseFlag (f : Fld) (i j k : Nat) (g : Fld) (x y z : Nat) :
    fget (raiseFlag s f i j k) g x y z = fget (fset s f 1 i j k) g x y z := rfl

/-! ### SYS cycles -/

/-- A bit that hardware has just set is one that a clear of the same SYS cycle leaves (R4). -/
theorem justSet_hwMark (a : Nat) (m : Word) : justSet (hwMark a m s) a = justSet s a ||| m := by
  have h : sysCycle (hwMark a m s) = sysCycle s := rfl
  unfold justSet
  rw [h]
  simp only [hwMark, if_true, SMap.get_put_self]
  split_ifs with hc <;> simp [SMap.get]

theorem fsetBit_eq (f : Fld) (b : Nat) (v : Bool) (i j k : Nat) :
    fsetBit s f b v i j k = fset s f (putBit (fget s f i j k) b v) i j k := rfl

theorem putBit_testBit_self (w b : Nat) (v : Bool) : (putBit w b v).testBit b = v := by
  unfold putBit
  have hd : w.testBit b = decide (w / 2 ^ b % 2 = 1) := Nat.testBit_eq_decide_div_mod_eq
  split_ifs with h1 h2
  · exact h1
  · have h : w / 2 ^ b % 2 = 0 := by
      have : w.testBit b = false := by simpa [h2] using h1
      rw [hd] at this
      have := of_decide_eq_false this
      omega
    rw [Nat.testBit_eq_decide_div_mod_eq, Nat.add_div_right _ (Nat.two_pow_pos b), h2]
    exact decide_eq_true (by omega)
  · have h : w / 2 ^ b % 2 = 1 := by
      have hv : v = false := by simpa using h2
      have : w.testBit b = true := by simpa [hv] using h1
      rw [hd] at this
      exact of_decide_eq_true this
    have hv : v = false := by simpa using h2
    have hle : 2 ^ b ≤ w := by
      by_contra hc
      rw [Nat.div_eq_of_lt (by omega)] at h
      omega
    have hs : (w - 2 ^ b) / 2 ^ b = w / 2 ^ b - 1 := by
      have := Nat.sub_mul_div w (2 ^ b) 1
      simpa using this
    rw [Nat.testBit_eq_decide_div_mod_eq, hs, hv]
    exact decide_eq_false (by omega)

/-! ### Memory -/

theorem memByte_setMemByte (a : Nat) (b : Byte) (x : Nat) : memByte (setMemByte s a b) x = if x = a then b else memByte s x :=
  SMap.get_put _ _ _ _ _

@[simp] theorem memByte_setMemByte_self (a : Nat) (b : Byte) : memByte (setMemByte s a b) a = b := SMap.get_put_self _ _ _ _

theorem memByte_setMemByte_ne (a : Nat) (b : Byte) {x : Nat} (h : x ≠ a) : memByte (setMemByte s a b) x = memByte s x :=
  SMap.get_put_ne _ _ _ _ h

theorem poisoned_setPoison (a : Nat) (b : Bool) (x : Nat) :
    poisoned (setPoison s a b) x = if x / 16 = a / 16 then b else poisoned s x := SMap.get_put _ _ _ _ _

/-! ### Units -/

theorem plt_setPlt (n : Nat) (p : PltS) (m : Nat) : (setPlt s n p).plt m = if m = n then p else s.plt m := SMap.get_put _ _ _ _ _

theorem mm_setMm (n : Nat) (x : MmS) (m : Nat) : (setMm s n x).mm m = if m = n then x else s.mm m := SMap.get_put _ _ _ _ _

theorem ch_setCh (c : Nat) (x : ChanS) (d : Nat) : (setCh s c x).ch d = if d = c then x else s.ch d := SMap.get_put _ _ _ _ _

theorem ch_modCh (c : Nat) (f : ChanS → ChanS) (d : Nat) : (modCh s c f).ch d = if d = c then f (s.ch c) else s.ch d :=
  ch_setCh s c _ d

theorem prf_setPrf (m : Nat) (x : PrfS) (n : Nat) : (setPrf m x s).prf n = if n = m then x else s.prf n := SMap.get_put _ _ _ _ _

theorem acd_setAcd (a : Nat) (x : AcdS) (b : Nat) : (setAcd a x s).acd b = if b = a then x else s.acd b := SMap.get_put _ _ _ _ _

theorem pth_setPth (g : Nat) (x : PthS) (h : Nat) : (setPth g x s).pth h = if h = g then x else s.pth h := SMap.get_put _ _ _ _ _

theorem pageGet_pagePut (o : Nat) (v : W24) (x : Nat) : pageGet (pagePut o v s) x = if x = o then v else pageGet s x :=
  SMap.get_put _ _ _ _ _

/-! ### Time -/

/-- LNS never goes back at a command (R320). -/
theorem lns_le_advance (t : Nat) : lns s ≤ lns (advance t s) := Nat.div_le_div_right (Nat.le_max_left _ _)

end Sys2Proof.Machine
end

