-- ==== Sys2Proof/Safety.lean ====
section
/-! DEFINITION. Sys2Proof/Safety.lean: what counts as a safe run of the block, in the terms that claims use. -/

namespace Sys2Proof.Machine

/-- Memory is in its canonical form. -/
def State.memOk (s : State) : Prop := Memory.wf s.pwr.areas s.mem = true

/-- The event log holds at most 1,024 events and its input stage at most 16 (R463, R466). -/
def State.evtOk (s : State) : Prop := s.evt.log.length ≤ 1024 ∧ s.evt.stage.length ≤ 16

/-- Every command of the list takes effect, one after the other, with no stop. -/
def State.Runs : List Instr → State → Prop
  | [], _ => True
  | c :: r, s => ∃ t, exec c s = .next t ∧ State.Runs r t

/-- No leg of a drive channel has both its outputs on (R155): outputs 2·l and 2·l + 1 are the two of leg l. -/
def State.legsOk (s : State) : Prop := ∀ c o, ¬ ((s.ch c).drv.testBit o = true ∧ (s.ch c).drv.testBit (partner o) = true)

end Sys2Proof.Machine
end

