-- ==== Sys2Proof/Certificates/Slice0/Obligations.lean ====
section
/-! DEFINITION. Sys2Proof/Certificates/Slice0/Obligations.lean: the statements about the machine. -/

namespace Sys2Proof.Claims

open Sys2Proof.Machine

/-- Command `c` takes effect: `exec` answers a next state, and `P` holds of it. -/
abbrev Goes (c : Instr) (s : State) (P : State → Prop) : Prop := ∃ t, exec c s = .next t ∧ P t

/-- A host access to `a` reaches its block: the device is neither OFF nor in DOZE, and the domain of `a` is on (R8, R33, R64). -/
abbrev HostOn (s : State) (a : Nat) : Prop :=
  s.sys.st ≠ .off ∧ s.sys.st ≠ .doze ∧ s.pwr.sysRet = false ∧ addrOn s a = true

/-- Host requests are taken: the device is neither OFF nor in DOZE, and PD_SYS is not in retention (R8, R33). -/
abbrev HostAwake (s : State) : Prop := s.sys.st ≠ .off ∧ s.sys.st ≠ .doze ∧ s.pwr.sysRet = false

/-- The `n` bytes from `a` lie in main SRAM, or in DRAM with PD_ACQ on (R61, R399). -/
abbrev MemSpan (s : State) (a n : Nat) : Prop :=
  (0x1000000 ≤ a ∧ a + n ≤ 0x2000000 ∧ domainOn s 1 = true) ∨ (0x10000000 ≤ a ∧ a + n ≤ 0x20000000 ∧ domainOn s 8 = true)

/-- No galley load locks the bytes from `a` on: none is under way, or they lie past the staging area (R48). -/
abbrev Unstaged (s : State) (a : Nat) : Prop :=
  ¬ (1 ≤ fget s F.GLY_STATUS_PHASE ∧ fget s F.GLY_STATUS_PHASE ≤ 4) ∨ 0x1800000 ≤ a

/-- Every register outside `p` reads its stored word as before. -/
abbrev RegsKept (s t : State) (p : Nat → Bool) : Prop := ∀ a, p a = false → rd t a = rd s a

/-- Every byte of main SRAM and DRAM outside `p` is as before. -/
abbrev MemKept (s t : State) (p : Nat → Bool) : Prop := ∀ a, p a = false → memByte t a = memByte s a

/-- `a` lies from `lo` on, below `hi`. -/
abbrev within (lo hi a : Nat) : Bool := decide (lo ≤ a) && decide (a < hi)

/-- The registers of the blocks that any command may touch besides its own: the pending bits of the interrupt vectors, dropped
accesses, the abort flag of an entry into DOZE, dropped events and the wake sources. -/
abbrev commonReg (a : Nat) : Bool :=
  a == R.SYS_IRQ_PEND.addr || a == R.SYS_HOST_DROP.addr || a == R.SYS_HOST_DROP_ADDR.addr || a == R.SYS_IMP_STATUS.addr ||
    R.EVT_DROP.hits a || a == R.PWR_WAKE_SRC.addr

/-- What R92 and R93 make of accumulator `old` when `v` is written: a frozen one keeps its content unless the write clears; a value
out of range is held at the extreme with FRZ set; a clearing write clears C. -/
def accAfter (clearing : Bool) (old : Accum) (v : Int) : Accum :=
  if old.frz = true ∧ clearing = false then old
  else
    { v := BitVec.ofInt 56 (clampInt (-(2 ^ 55)) (2 ^ 55 - 1) v)
      c := if clearing then false else old.c
      frz := decide (v < -(2 ^ 55 : Int)) || decide ((2 ^ 55 : Int) ≤ v) }

/-- The sorts of R85 whose command leaves MOD as the encoding has it, with their opcodes, but REP, REPB and END. -/
def plainSorts : List (Nat × (Srt → Instr)) :=
  [(0x00, .sortNop), (0x01, .sortMac), (0x02, .sortLda), (0x03, .sortAdd), (0x04, .sortAcc), (0x05, .sortShf), (0x07, .sortMin),
   (0x08, .sortMax), (0x09, .sortLim), (0x0A, .sortSel), (0x0B, .sortLut), (0x0C, .sortDld), (0x0D, .sortDst), (0x0E, .sortStx),
   (0x0F, .sortSty), (0x10, .sortStxy), (0x11, .sortMov), (0x12, .sortPset), (0x17, .sortBscl), (0x18, .sortSev)]

/-- Sort `a` takes part with the opcode `op`: it is the one that the sequencer issues next, its encoding is used, its reads find no
error, and its section is on. -/
abbrev Issued (op : Nat) (a : Srt) (s : State) : Prop :=
  isNext op a s = true ∧ sortNotUsed op a = false ∧ a.errs = [] ∧ secOn s a.plt a.sec.toNat = true

/-- From `s` to `t` nothing changes but platen `n` and its registers PLT.STATUS and PLT.OVF_INFO. -/
abbrev PltOnly (s t : State) (n : Fin 5) : Prop :=
  t = { s with plts := t.plts, regs := t.regs, hwCyc := t.hwCyc, hwBits := t.hwBits } ∧ (∀ m : Fin 5, m ≠ n → t.plt m = s.plt m) ∧
    RegsKept s t (fun a => a == R.PLT_STATUS.at n || a == R.PLT_OVF_INFO.at n)

/-- Nothing of the platen of `a` changes but the pointers that its operands step, accumulators among `js` and the place of the
sequencer, which goes on to the next sort. -/
abbrev AccOnly (s t : State) (a : Srt) (js : List Nat) : Prop :=
  PltOnly s t a.plt ∧ t.plt a.plt = { s.plt a.plt with acc := (t.plt a.plt).acc, ptr := (t.plt a.plt).ptr, pos := a.idx.toNat + 1 } ∧
    ∀ j : Fin 4, j.val ∉ js → (t.plt a.plt).accOf j = (s.plt a.plt).accOf j

/-- The word that a store makes of accumulator content `v` with the MOD field `md` (R87). -/
def storedWord (v : Int) (md : BitVec 4) : W24 := BitVec.ofInt 24 (clampInt (-(2 ^ 23)) (2 ^ 23 - 1) (storeRaw v (sgn 4 md.toNat)))

/-- Only the word of X memory (`y` false) or Y memory that the operand field `f` names may change. -/
abbrev WordOnly (s t : State) (a : Srt) (x y : Bool) : Prop :=
  PltOnly s t a.plt ∧
    t.plt a.plt = { s.plt a.plt with x := (t.plt a.plt).x, y := (t.plt a.plt).y, ptr := (t.plt a.plt).ptr, det := (t.plt a.plt).det, pos := a.idx.toNat + 1 } ∧
    (∀ k : Fin 16384, ¬ (x = true ∧ k.val = dataAddr (s.plt a.plt) false a.xf) → (t.plt a.plt).word false k = (s.plt a.plt).word false k) ∧
    (∀ k : Fin 16384, ¬ (y = true ∧ k.val = dataAddr (s.plt a.plt) true a.yf) → (t.plt a.plt).word true k = (s.plt a.plt).word true k)

/-- Pointer `q` of a group whose memory has `size` words, after an access in mode IPI (R83). -/
abbrev ipiAfter (size : Nat) (q : Ptr) : Ptr :=
  { q with p := if q.m = 0 then (((q.p : Int) + q.s) % (size : Int)).toNat else (q.b + ((q.p : Int) - q.b + q.s) % (q.m : Int)).toNat }

/-- The pointers that the operands of `a` step in mode IPI, by R83, when it uses its field XF (`x`), YF (`y`) or CF (`c`); every other
pointer of the platen is as before. -/
abbrev PtrsBy (s t : State) (a : Srt) (x y c : Bool) : Prop :=
  ∀ j : Fin 24, (t.plt a.plt).ptrOf j =
    if (x = true ∧ fldMode a.xf = 2 ∧ j.val = a.xf.toNat % 2 ^ 14 / 2 ^ 11) ∨
        (y = true ∧ fldMode a.yf = 2 ∧ j.val = 8 + a.yf.toNat % 2 ^ 14 / 2 ^ 11) then ipiAfter 16384 ((s.plt a.plt).ptrOf j)
    else if c = true ∧ a.cf.getLsbD 13 = true ∧ j.val = 16 + a.cf.toNat % 2 ^ 13 / 2 ^ 10 then ipiAfter 8192 ((s.plt a.plt).ptrOf j)
    else (s.plt a.plt).ptrOf j

/-- The island is SAFE: both torque-off outputs and the brake pairs of every axis are applied (R274). -/
abbrev SafeNow (t : State) : Prop :=
  fget t F.SAF_STATE_STATE = 2 ∧ (∀ n : Fin 8, fbit t F.SAF_BRAKE_STO_ASSERTED n = true) ∧ ∀ p : Fin 8, sbcOn t p = false

/-- Non-degradable cause `c` of R289 stands for the next safety cycle, whose supply comparator says `sup`: SOS, PRI_LOST, KFB, PLT_OVF,
PLT_UE and SUPPLY. -/
abbrev causeSeen (s : State) (sup : Bool) (c : Nat) : Prop :=
  (c = 4 ∧ ∃ a : Fin 8, flag s F.SAF_AX_CFG_EN a = true ∧ safeBit s (fget s F.SAF_AX_SEL_A_SOS_PERM a) = false ∧
      ∃ p ∈ (s.sax a).p0, fget s F.SAF_AX_SOS_WIN_WIN a < (axPos s a - p).natAbs) ∨
    (c = 6 ∧ ∃ a : Fin 8, flag s F.SAF_AX_CFG_EN a = true ∧
      (srcReal s (fget s F.SAF_AX_CFG_PRI a) = false ∨ pageBit s (fget s F.SAF_AX_CFG_PRI a) 4 = true)) ∨
    (c = 9 ∧ ∃ k : Fin 16, kfbHard s k = true) ∨
    (c = 15 ∧ flag s F.SAF_GEN_OVF_ACT = true ∧ ∃ n : Fin 4, flag s F.PLT_STATUS_OVF n = true) ∨
    (c = 16 ∧ flag s F.SAF_GEN_UE_ACT = true ∧ ∃ n : Fin 4, flag s F.PLT_STATUS_UE n = true) ∨ (c = 18 ∧ sup = true)

/-- A register of the safety island or one that any command may touch. -/
abbrev safReg (a : Nat) : Bool := commonReg a || within 0x80000 0x90000 a

/-- The descriptor at the present position of the receive ring and of the transmit ring of ETHC (R345). -/
abbrev rxDesc (s : State) : Nat := ringDesc s F.NET_RXRING_BASE F.NET_RXRING_LOG2 s.net.rxPos
abbrev txDesc (s : State) : Nat := ringDesc s F.NET_TXRING_BASE F.NET_TXRING_LOG2 s.net.txPos

/-- The address word and the second word of the descriptor at `d`; the two lie in no poisoned block. -/
abbrev dAddr (s : State) (d : Nat) : Nat := memNat s d 4
abbrev dWord (s : State) (d : Nat) : Nat := memNat s (sramByte (d + 4)) 4
abbrev DescOk (s : State) (d : Nat) : Prop := poisoned s d = false ∧ poisoned s (sramByte (d + 4)) = false

/-- The door zones of mover `m`, as the table at RSC.ZBASE gives them (R430), and that no block of the table is poisoned. -/
def doorZones (s : State) (m : Nat) : List Int :=
  (List.range (fget s F.PAR_RSC_ZCOUNT)).filterMap (fun k =>
    let w := fun j => memNat s (sramAt (fget s F.PAR_RSC_ZBASE_INDEX + 2 * k + j)) 4
    if w 1 / 2 ^ 24 % 32 = m then some (sgn 48 (w 0 + w 1 % 2 ^ 16 * 2 ^ 32)) else none)
abbrev ZonesRead (s : State) : Prop := ∀ k < 2 * fget s F.PAR_RSC_ZCOUNT, poisoned s (sramAt (fget s F.PAR_RSC_ZBASE_INDEX + k)) = false

/-- `z` lies in direction `neg` from the set-point of mover `m`. -/
abbrev zoneSide (s : State) (m : Nat) (neg : Bool) (z : Int) : Prop :=
  if neg = true then z ≤ spInt (s.prf m).sp else spInt (s.prf m).sp ≤ z

/-- `q` is the nearest door zone of mover `m` in direction `neg` (R430 step 4). -/
abbrev NearestZone (s : State) (m : Nat) (neg : Bool) (q : Int) : Prop :=
  q ∈ doorZones s m ∧ zoneSide s m neg q ∧
    ∀ z ∈ doorZones s m, zoneSide s m neg z → (q - spInt (s.prf m).sp).natAbs ≤ (z - spInt (s.prf m).sp).natAbs

/-- v_R of R430 steps 3 and 4 for the load i_N, in 1/256 inc/s: U_B (I_MAX - I_0) / (KPW i_N), VRES and 0.9 of the axis's limit. -/
def rescueSpeed (s : State) (m load : Nat) : Int :=
  min (((fget s F.SDM_AIN_VAL_AVG (fget s F.PAR_RSC_BATT_U_AIN) * fget s F.PAR_RSC_SCALE_U_SC : Nat) : Int) *
      (2560 * (fget s F.PAR_RSC_BATT_I_MAX : Int) - (fget s F.SDM_AIN_VAL_AVG (fget s F.PAR_RSC_BATT_I_AIN) * fget s F.PAR_RSC_SCALE_I_SC : Nat)) *
      2 ^ 31 / (1000 * (fget s F.PAR_RSCM_KPW_VAL m * load : Nat)))
    (min (fget s F.PAR_RSCM_VRES_VAL m) (rescLimit s m))

/-- What R430 steps 4 and 5 make of a rescue of mover `m` to the zone `q` in direction `neg` under the load `load`. -/
abbrev RescuePlans (s t : State) (m : Nat) (q : Int) (neg : Bool) (load : Nat) : Prop :=
  fget t F.PAR_RSCM_STATE_DIR m = neg.toNat ∧
    ((fget s F.PAR_RSCM_VMIN_VAL m : Int) ≤ rescueSpeed s m load → rescState t m = 2 ∧
      SMap.get (fun _ => noResc) t.par.rescNew m = ⟨satNat 32 (rescueSpeed s m load).toNat + 1, q, false⟩ ∧
      SMap.get (fun _ => noResc) t.par.resc m = ⟨fget s F.PRF_VMAX_VAL m, q, false⟩) ∧
    (rescueSpeed s m load < fget s F.PAR_RSCM_VMIN_VAL m → rescState t m = 5 ∧ fbit t F.SAF_BRAKE_REL (fget s F.PAR_RSCM_CFG_AXIS m) = false)

/-- Input `e` of machine `m` is pending for a step at the sample instant `now`, its transition from the present state VALID (R28, R99,
R100). -/
abbrev MmPends (s : State) (now m e : Nat) : Prop :=
  (∃ v ∈ s.mmq, v.at_ + 200 ≤ now ∧ (tabWord s m (e + 1)).getLsbD 31 = true ∧ bitsOf (tabWord s m (e + 1)) 0 8 = v.code % 256 ∧
    bitsOf (tabWord s m (e + 1)) 8 8 = v.inst % 256 ∧ bitsOf (tabWord s m (e + 1)) 16 8 = v.block) ∧
  (tabByte s m (0x24 + 8 * (s.mm m).st + e)).testBit 7 = true

/-- The boundary that comes next has nothing to apply but what an impression always does: impressions run, no commit, RUN request,
essence restore or scheduled action waits. -/
abbrev PlainBoundary (s : State) : Prop :=
  s.sys.running = true ∧ s.quo.pending = none ∧ s.quo.implicit = [] ∧ s.sys.runReq = false ∧ s.mot.restored = false ∧
    ∀ i : Fin 64, fget s F.SCH_STAT_STATE i ≠ 1 ∧ (s.schE i).pend = []

/-- The boundary that comes next is a servo-period boundary (R26). -/
abbrev ServoNext (s : State) : Prop := (if s.sys.first then s.sys.imp + 1 else s.sys.imp) % 2 ^ 32 % max 1 (fget s F.SYS_IMP_CFG_NP) = 0

/-- No command of an accord or a path group waits. -/
abbrev NoLawCmd (s : State) : Prop := (∀ a : Fin 16, (s.acd a).pend = none) ∧ ∀ g : Fin 8, (s.pth g).pend = none

/-- No accord but those in `as` and no path group moves an axis, and no command waits. -/
abbrev OnlyAccords (s : State) (as : List Nat) : Prop :=
  NoLawCmd s ∧ (∀ m : Fin 32, (s.prf m).pend = none) ∧ (∀ a : Fin 16, a.val ∉ as → fget s F.ACD_STATUS_STATE a = 0) ∧
    ∀ g : Fin 8, fget s F.PTH_STATUS_STATE g = 0

/-- CMDRES of a profile command `c` that is admitted in RUN in state `st`, with a limit of the unit 0 or none (R246). -/
abbrev cmdResult (zero : Bool) (st c : Nat) : Nat :=
  if c = 6 then (if st = 0 then 5 else 1)
  else if c = 5 then (if st = 0 then 6 else if st ≤ 3 then 1 else if st = 4 then 2 else 3)
  else if 5 ≤ st then 3
  else if st ≠ 0 then 2
  else if zero = true then 4
  else 1

/-- Impressions run and track `k` is the enabled track; its movers are `ms`, and it is open. -/
abbrev OpenTrack (s : State) (k : Fin 8) (ms : List Nat) : Prop :=
  s.sys.running = true ∧ (∀ i : Fin 8, flag s F.SYS_TRK_CFG_EN i = decide (i = k)) ∧ moversOf s k = ms ∧ flag s F.SYS_TRK_CFG_CLOSED k = false

/-- The record of mover `m` as the track unit finds it (R220, R223). -/
abbrev recOf (s : State) (k : Fin 8) (m : Nat) : MovRec := (readRec k m s).1

/-- Where segment `j` of track `k` ends (R222). -/
abbrev segEnd (s : State) (k : Fin 8) (j : Nat) : Int :=
  if j + 1 = nseg s k then (segOf s k j).b + nget s.trk.lastLen k else (segOf s k (j + 1)).b

/-- The overlap ℓ_j of segment `j` with an array whose lower end is `q` (R224), on an open track. -/
abbrev ellOf (s : State) (k : Fin 8) (j : Nat) (q : Int) : Nat :=
  (min (segEnd s k j) (q + fget s F.SYS_TRK_LA_VAL k) - max (segOf s k j).b q).toNat

/-- The array is near segment `j` (R226). -/
abbrev nearOf (s : State) (k : Fin 8) (j : Nat) (q : Int) : Prop :=
  ellOf s k j q ≠ 0 ∨ (segOf s k j).b - (q + fget s F.SYS_TRK_LA_VAL k) ≤ fget s F.SYS_TRK_APPR_VAL k ∧ q - segEnd s k j ≤ fget s F.SYS_TRK_APPR_VAL k

/-- Bit `j` of a pair of segment registers. -/
abbrev segBit (s : State) (lo hi : Fld) (k : Fin 8) (j : Nat) : Bool := if j < 32 then fbit s lo j k else fbit s hi (j - 32) k

/-- The FAULT bit of segment `j` once an evaluation has applied the clears and the failed checks that wait (R230). -/
abbrev faultAfter (s : State) (k : Fin 8) (j : Nat) : Bool :=
  (segBit s F.SYS_TRK_FAULT_L_SEG F.SYS_TRK_FAULT_H_SEG k j && !(nget s.trk.clr k).testBit j) || nget s.trk.fail (segOf s k j).ch != 0

/-- The rows of R226 for a segment in state `st` that no two movers overlap: OFFLINE, HALL_FAULT, a near mover and its FALLBACK, ℓ at or
above W_ON and below W_OFF, and DRAIN_N evaluations in DRAIN. -/
def segRule (off fault near fb on low drained : Bool) (st : Nat) : Nat :=
  let idle := if near then 1 else 0
  let drive := if fb then 5 else 2
  if off then 7
  else if fault then 4
  else match st with
    | 1 => if on then drive else idle
    | 2 => if low then 3 else drive
    | 5 => if low then 3 else if fb then 5 else 1
    | 3 => if on then drive else if drained then idle else 3
    | _ => idle

/-- Word `w` of the table entry of segment `j` (R228). -/
abbrev tabWordOf (s t : State) (k : Fin 8) (j w : Nat) : Nat := memNat t (sramAt (fget s F.SYS_TRK_TAB_INDEX k + 8 * j + w)) 4

/-- ℓ_E of an array at `q` (R224): what the energised segments near it overlap. -/
abbrev ellE (s t : State) (k : Fin 8) (q : Int) : Nat :=
  (((List.range (nseg s k)).filter (fun j => decide (nearOf s k j q) && (segSt t k j == 2 || segSt t k j == 5))).map (fun j => ellOf s k j q)).sum

/-- A frame with its FCS behind it (R345, R348). -/
abbrev withFcs (b : List Byte) : List Byte := b ++ ethFcs b

/-- PTP message `m` on port `p` is received, from the partner of context `i`, and its domain and transport are those of the
enabled instance (R331, R343, R363). -/
abbrev PtpFrom (s : State) (p : Fin 2) (m : PtpMsg) (i : Fin 128) : Prop :=
  portLive s p = true ∧ flag s F.TIM_P_CFG_EN p = true ∧ vlanOk s p (m.link.vid.map BitVec.toNat) = true ∧
    (m.link.dst.toNat = portMac s p ∨ m.link.dst.toNat = macAll ∨ m.link.dst.toNat ∈ ptpMacs) ∧
    m.domain.toNat = ptpDomain s p ∧ m.link.ip.isSome = ptpUdp s p ∧
    ctxOf s 1 p m.link.src.toNat (m.link.ip.map (fun a => a.1.toNat)) = some i.val

/-- A register that the reception of a frame from context `i` counts in, or that any command may touch. -/
abbrev rxReg (p : Nat) (i : Nat) (a : Nat) : Bool :=
  commonReg a || a == R.NET_RX_OK.at p || a == R.PTN_CNT.at i || a == R.PTN_STATE.at i

/-- A register of the time base or of the impression generator's step record, beside those of `rxReg`. -/
abbrev timReg (a : Nat) : Bool := commonReg a || within 0x90000 0xA0000 a || within 0x1000 0x2000 a

end Sys2Proof.Claims

section

open Sys2Proof Sys2Proof.Machine Sys2Proof.Claims

/-- A step takes the command at the front of the queue and runs its meaning on the rest. For every command c, every
queue r and every state s, a step of s with c in front of r is exec of c on s with the queue r. -/
def Obligations.StepRunsFrontCommand : Prop :=
  ∀ (c : Instr) (r : List Instr) (s : State), step { s with pending := c :: r } = exec c { s with pending := r }

/-- With no command waiting a step is one cycle of the clock that LNS runs on. With an empty queue (the model's
choice, log entry 27) a step changes nothing but the accumulator of LNS, which gains INCR outside DOZE and OFF, the
X32 period of TIM.AON_INC in DOZE, and nothing in OFF. -/
def Obligations.IdleStepRunsTheClock : Prop :=
  ∀ s : State, s.pending = [] → ∃ t, step s = .next t ∧ t = { s with tim := { s.tim with acc := t.tim.acc } } ∧
  t.tim.acc = s.tim.acc + (if s.sys.st = .off then 0 else if s.sys.st = .doze then 1024 * fget s F.TIM_AON_INC_VAL else s.tim.incr)

/-- After a device reset the device is in BOOT with nothing open, loaded or logged. State.reset is BOOT with LNS in
UNSET at nominal INCR, no command waiting, no quoin open, an empty event log, no galley load under way, no access
open, no byte of memory listed (the model's choices, log entries 1 and 3) and the safety state LOCKED with its STO
outputs asserted and its brake pairs applied; SYS.STATE.PREV, SYS.IMP_STATUS and PWR.WAKE_SRC read 0. -/
def Obligations.ResetLeavesTheDeviceInBoot : Prop :=
  State.reset.sys.st = .boot ∧ State.reset.sys.running = false ∧ State.reset.pending = [] ∧ State.reset.quo.owner = none ∧
  State.reset.quo.pending = none ∧ State.reset.evt.log = [] ∧ State.reset.evt.stage = [] ∧ State.reset.gly.next = .nothing ∧
  State.reset.qspi = none ∧ State.reset.mem = [] ∧ State.reset.tim.st = .unset ∧ State.reset.tim.incr = 0x10000000 ∧
  fget State.reset F.SAF_STATE_STATE = 0 ∧ (∀ n : Fin 8, fbit State.reset F.SAF_BRAKE_STO_ASSERTED n = true) ∧
  (∀ p : Fin 8, sbcOn State.reset p = false) ∧ State.reset.sys.prev = .off ∧ rd State.reset R.SYS_IMP_STATUS.addr = 0 ∧
  rd State.reset R.PWR_WAKE_SRC.addr = 0

/-- The state after reset meets the invariants of memory, event log and drive legs. Memory is in its canonical form,
the event log holds at most 1,024 events and its stage at most 16, and no leg has both outputs on. -/
def Obligations.ResetMeetsTheInvariants : Prop :=
  State.reset.memOk ∧ State.reset.evtOk ∧ State.reset.legsOk

/-- Every command answers a next state and leaves the queue of waiting commands. No command faults or is refused, in
any state and with any operands, and the queue after it is the queue before it. -/
def Obligations.EveryCommandTakesEffectAndLeavesTheQueue : Prop :=
  ∀ (c : Instr) (s : State), ∃ t, exec c s = .next t ∧ t.pending = s.pending

/-- Every step keeps memory in its canonical form. From every state whose memory lists rising addresses and no byte
equal to what an unlisted address reads as, a step that answers a next state leaves one whose memory does. -/
def Obligations.MemoryStaysCanonical : Prop :=
  ∀ s t : State, s.memOk → step s = .next t → t.memOk

/-- Every step keeps the event log within 1,024 events and its input stage within 16. From every state whose event log
holds at most 1,024 events and whose input stage holds at most 16, a step that answers a next state leaves one of
which the same holds. -/
def Obligations.EventLogStaysWithinItsDepth : Prop :=
  ∀ s t : State, s.evtOk → step s = .next t → t.evtOk

/-- Every step keeps the two outputs of each drive leg from being on together. From every state in which no leg of a
drive channel has its high and its low output on, a step that answers a next state leaves one in which none has. -/
def Obligations.NoStepTurnsOnBothOutputsOfALeg : Prop :=
  ∀ s t : State, s.legsOk → step s = .next t → t.legsOk

/-- LNS never decreases while the device is powered. A step from a state outside OFF that answers a next state outside
OFF leaves LNS at its value or above it. -/
def Obligations.LnsNeverDecreases : Prop :=
  ∀ s t : State, s.sys.st ≠ .off → step s = .next t → t.sys.st ≠ .off → lns s ≤ lns t

/-- Host register accesses act by access code. A write of SYS.IRQ_EN (RW) stores the value and changes no other
register; a write of TST.MEM_STATUS clears the W1C bits written 1, but those that hardware sets in the same SYS cycle,
and no other register; a write to a register that is not implemented, or is misaligned, is ignored, counted in
SYS.HOST_DROP with its interface and address, and changes no other register and no memory byte; a read of TST.LOCAL
returns the register and clears its RC field, but for what hardware adds in the same SYS cycle; a read of SCH.TIME_L
over PCIe captures SCH.TIME_H. -/
def Obligations.HostRegisterAccess : Prop :=
  (∀ (s : State) (h : Via) (v : Word),
      HostOn s R.SYS_IRQ_EN.addr →
      Goes (.registerWrite h (BitVec.ofNat 32 R.SYS_IRQ_EN.addr) v) s (fun t => rd t R.SYS_IRQ_EN.addr = v ∧
        (RegsKept s t (fun a => a == R.SYS_IRQ_EN.addr)) ∧
        (MemKept s t (fun _ => false)))) ∧
  (∀ (s : State) (h : Via) (v : Word) (r : Fin 2),
      HostOn s (R.TST_MEM_STATUS.at r) →
      Goes (.registerWrite h (BitVec.ofNat 32 (R.TST_MEM_STATUS.at r)) v) s (fun t => rd t (R.TST_MEM_STATUS.at r) = rd s (R.TST_MEM_STATUS.at r) &&& ~~~(v &&& 3#32 &&& ~~~justSet (advance h.t s) (R.TST_MEM_STATUS.at r)) ∧
        (RegsKept s t (fun a => a == R.TST_MEM_STATUS.at r)) ∧
        (MemKept s t (fun _ => false)))) ∧
  (∀ (s : State) (h : Via) (a : Word) (v : Word),
      s.sys.st ≠ .off →
      s.sys.st ≠ .doze →
      s.pwr.sysRet = false →
      inMem a.toNat = false →
      inWindowSpace a.toNat = false →
      (a.toNat % 4 ≠ 0 ∨ implemented a.toNat = false) →
      Goes (.registerWrite h a v) s (fun t => fget t F.SYS_HOST_DROP_COUNT = min (fget s F.SYS_HOST_DROP_COUNT + 1) 65535 ∧
        fget t F.SYS_HOST_DROP_LAST_IF = Ifc.num h.ifc ∧
        fget t F.SYS_HOST_DROP_ADDR_ADDR = a.toNat ∧
        (RegsKept s t (fun x => x == R.SYS_HOST_DROP.addr || x == R.SYS_HOST_DROP_ADDR.addr)) ∧
        (MemKept s t (fun _ => false)))) ∧
  (∀ (s : State) (h : Via),
      HostOn s R.TST_LOCAL.addr →
      (SMap.get (fun _ => none) (caps h.ifc s) R.TST_LOCAL.addr = none) →
      Goes (.readClear h (BitVec.ofNat 32 R.TST_LOCAL.addr)) s (fun t => t.out = s.out ++ [Out.rd h.ifc R.TST_LOCAL.addr (wordBytes (readWord h.ifc s R.TST_LOCAL.addr))] ∧
        fget t F.TST_LOCAL_CE = bitsOf (rd s R.TST_LOCAL.addr &&& justSet (advance h.t s) R.TST_LOCAL.addr) F.TST_LOCAL_CE.lsb F.TST_LOCAL_CE.width ∧
        (RegsKept s t (fun a => a == R.TST_LOCAL.addr)) ∧
        (MemKept s t (fun _ => false)))) ∧
  (∀ (s : State) (h : Via) (x : Fin 64),
      HostOn s (R.SCH_TIME_L.at x) →
      (SMap.get (fun _ => none) (caps h.ifc s) (R.SCH_TIME_L.at x) = none) →
      Goes (.pairLowRead h (BitVec.ofNat 32 (R.SCH_TIME_L.at x))) s (fun t => t.out = s.out ++ [Out.rd h.ifc (R.SCH_TIME_L.at x) (wordBytes (readWord h.ifc s (R.SCH_TIME_L.at x)))] ∧
        (SMap.get (fun _ => none) (caps h.ifc t) (R.SCH_TIME_L.at x + 4) = some (readWord h.ifc s (R.SCH_TIME_L.at x + 4))) ∧
        t.regs = s.regs))

/-- A safety-field register is written whole in COMMISSIONING or not at all. In COMMISSIONING a write of SAF.TRESQ
with every field and reserved bit valid and TRESQ below SAF.TDRY stores the value; with an invalid one, or with a
reserved bit 1, or with TRESQ at or above SAF.TDRY, it leaves the register, sets SF_REFUSED and is counted in
SYS.HOST_DROP; outside COMMISSIONING the write of any safety-field register leaves every register but the two of
SYS.HOST_DROP as it is, and is counted there. No memory byte changes. In a clause that names or bounds the registers
it writes, every other register keeps its value. -/
def Obligations.SafetyFieldWrite : Prop :=
  (∀ (s : State) (h : Via) (v : Word),
      HostOn s R.SAF_TRESQ.addr →
      fget s F.SAF_STATE_STATE = 1 →
      (regFlds R.SAF_TRESQ.addr).all (sfFieldOk · v) = true →
      reservedZero (regFlds R.SAF_TRESQ.addr) v = true →
      bitsOf v F.SAF_TRESQ_TRESQ.lsb F.SAF_TRESQ_TRESQ.width < fget s F.SAF_TDRY_TDRY →
      Goes (.sfWrite h (BitVec.ofNat 32 R.SAF_TRESQ.addr) v) s (fun t => rd t R.SAF_TRESQ.addr = v ∧
        (MemKept s t (fun _ => false)) ∧
        (RegsKept s t (fun a => a == R.SAF_TRESQ.addr || a == R.SAF_STATE.addr)))) ∧
  (∀ (s : State) (h : Via) (v : Word),
      HostOn s R.SAF_TRESQ.addr →
      fget s F.SAF_STATE_STATE = 1 →
      ¬ ((regFlds R.SAF_TRESQ.addr).all (sfFieldOk · v) = true ∧ reservedZero (regFlds R.SAF_TRESQ.addr) v = true ∧ bitsOf v F.SAF_TRESQ_TRESQ.lsb F.SAF_TRESQ_TRESQ.width < fget s F.SAF_TDRY_TDRY) →
      Goes (.sfWrite h (BitVec.ofNat 32 R.SAF_TRESQ.addr) v) s (fun t => rd t R.SAF_TRESQ.addr = rd s R.SAF_TRESQ.addr ∧
        fget t F.SAF_STATE_SF_REFUSED = 1 ∧
        fget t F.SYS_HOST_DROP_COUNT = min (fget s F.SYS_HOST_DROP_COUNT + 1) 65535 ∧
        fget t F.SYS_HOST_DROP_ADDR_ADDR = R.SAF_TRESQ.addr ∧
        (MemKept s t (fun _ => false)) ∧
        (RegsKept s t (fun a => a == R.SAF_STATE.addr || a == R.SYS_HOST_DROP.addr || a == R.SYS_HOST_DROP_ADDR.addr)))) ∧
  (∀ (s : State) (h : Via) (a : Word) (v : Word),
      HostOn s a.toNat →
      fget s F.SAF_STATE_STATE ≠ 1 →
      inWindowSpace a.toNat = false →
      a.toNat < 0x1000000 →
      inTab a.toNat = false →
      stgPlace a.toNat = none →
      ((regFlds a.toNat).any (fun f => f.acc == .sf) = true) →
      Goes (.sfWrite h a v) s (fun t => fget t F.SYS_HOST_DROP_COUNT = min (fget s F.SYS_HOST_DROP_COUNT + 1) 65535 ∧
        fget t F.SYS_HOST_DROP_ADDR_ADDR = a.toNat ∧
        (RegsKept s t (fun x => x == R.SYS_HOST_DROP.addr || x == R.SYS_HOST_DROP_ADDR.addr)) ∧
        (MemKept s t (fun _ => false))))

/-- Host accesses to main SRAM and DRAM move bytes. On a span of main SRAM or of DRAM with PD_ACQ on, a PCIe write
puts each enabled byte at its address and leaves every other byte as it is, and, if it finds no error in a block that
it covers in part, every register; one of a whole aligned block ends its poisoning; a PCIe read of a span with no
poisoned block answers its bytes and changes no byte, and, if it finds no error, no register; a 4-byte read in a
poisoned block answers zeros and sets UE of its region; a QSPI write stores its words at rising addresses and leaves
every other byte; a QSPI read answers words from rising addresses; a transfer under any command byte but 0x02 and 0x0B
is ignored until HSPI_CSN rises; the end of a transfer closes it and changes nothing else but the time. While a galley
load is in PHASE 1 to 4 the staging area takes no write, and elsewhere all this holds then too; a write into that area
is counted in SYS.HOST_DROP and changes no byte and no other register. In a clause that names or bounds the registers
it writes, every other register keeps its value. -/
def Obligations.HostMemoryAccess : Prop :=
  (∀ (s : State) (t0 : Nat) (a : Word) (bs : List (Option Byte)) (errs : List MemErr),
      HostAwake s →
      MemSpan s a.toNat bs.length →
      Unstaged s a.toNat →
      Goes (.pcieWriteRequest t0 a bs errs) s (fun t => (∀ k, k < bs.length → memByte t (a.toNat + k) = (bs.getD k none).getD (memByte s (a.toNat + k))) ∧
        MemKept s t (within a.toNat (a.toNat + bs.length)) ∧
        (RegsKept s t (fun x => commonReg x || within 0x110000 0x120000 x)) ∧
        (errs = [] → t.regs = s.regs))) ∧
  (∀ (s : State) (t0 : Nat) (a : Word) (bs : List (Option Byte)) (errs : List MemErr),
      HostAwake s →
      domainOn s 1 = true →
      0x1000000 ≤ a.toNat ∧ a.toNat + bs.length ≤ 0x1800000 →
      1 ≤ fget s F.GLY_STATUS_PHASE ∧ fget s F.GLY_STATUS_PHASE ≤ 4 →
      bs.any (·.isSome) = true →
      Goes (.pcieWriteRequest t0 a bs errs) s (fun t => t.mem = s.mem ∧
        fget t F.SYS_HOST_DROP_COUNT = min (fget s F.SYS_HOST_DROP_COUNT + 1) 65535 ∧
        fget t F.SYS_HOST_DROP_ADDR_ADDR = a.toNat ∧
        (RegsKept s t (fun x => x == R.SYS_HOST_DROP.addr || x == R.SYS_HOST_DROP_ADDR.addr)))) ∧
  (∀ (s : State) (t0 : Nat) (a : Word) (bs : List (Option Byte)) (errs : List MemErr),
      HostAwake s →
      MemSpan s a.toNat 16 →
      Unstaged s a.toNat →
      a.toNat % 16 = 0 →
      bs.length = 16 ∧ bs.all (·.isSome) = true →
      Goes (.pcieWriteRequest t0 a bs errs) s (fun t => poisoned t a.toNat = false ∧
        t.regs = s.regs)) ∧
  (∀ (s : State) (t0 : Nat) (a : Word) (n : Nat) (errs : List MemErr) (perrs : List PltErr),
      HostAwake s →
      MemSpan s a.toNat n →
      (∀ k, k < n → poisoned (readErrs a.toNat n errs (advance t0 s)) (a.toNat + k) = false) →
      Goes (.pcieReadRequest t0 a n errs perrs) s (fun t => (t.out = (readErrs a.toNat n errs (advance t0 s)).out ++ [Out.rd .pcie a.toNat ((List.range n).map (fun k => memByte s (a.toNat + k)))]) ∧
        (RegsKept s t (fun x => commonReg x || within 0x110000 0x120000 x)) ∧
        (errs = [] → t.regs = s.regs) ∧
        t.mem = s.mem)) ∧
  (∀ (s : State) (t0 : Nat) (a : Word) (perrs : List PltErr),
      HostAwake s →
      MemSpan s a.toNat 4 →
      a.toNat % 4 = 0 →
      poisoned s a.toNat = true →
      Goes (.pcieReadRequest t0 a 4 [] perrs) s (fun t => Out.rd .pcie a.toNat [0#8, 0#8, 0#8, 0#8] ∈ t.out ∧
        fget t F.TST_MEM_STATUS_UE (memRegion a.toNat) = 1 ∧
        t.mem = s.mem ∧
        (RegsKept s t (fun a => commonReg a || R.TST_MEM_STATUS.hits a || R.TST_MEM_UE_CNT.hits a || R.TST_MEM_UE_ADDR.hits a)))) ∧
  (∀ (s : State) (t0 : Nat) (a : Word) (ws : List Word) (errs : List MemErr),
      s.qspi ≠ some none →
      HostAwake s →
      MemSpan s a.toNat (4 * ws.length) →
      Unstaged s a.toNat →
      Goes (.qspiWrite t0 0x02#8 a ws errs) s (fun t => (∀ k, k < 4 * ws.length → memByte t (a.toNat + k) = (ws.getD (k / 4) 0#32).extractLsb' (8 * (k % 4)) 8) ∧
        MemKept s t (within a.toNat (a.toNat + 4 * ws.length)) ∧
        t.qspi = some (some (a.toNat + 4 * ws.length)) ∧
        (RegsKept s t (fun x => commonReg x || within 0x110000 0x120000 x)) ∧
        (errs = [] → t.regs = s.regs))) ∧
  (∀ (s : State) (t0 : Nat) (a : Word) (n : Nat) (errs : List MemErr),
      s.qspi ≠ some none →
      HostAwake s →
      MemSpan s a.toNat (4 * n) →
      (∀ k, k < 4 * n → poisoned (readErrs a.toNat (4 * n) errs (advance t0 s)) (a.toNat + k) = false) →
      Goes (.qspiRead t0 0x0B#8 a n errs) s (fun t => (t.out = (readErrs a.toNat (4 * n) errs (advance t0 s)).out ++ (List.range n).map (fun j => Out.rd .qspi (a.toNat + 4 * j) (memBytes s (a.toNat + 4 * j) 4))) ∧
        t.qspi = some (some (a.toNat + 4 * n)) ∧
        (RegsKept s t (fun x => commonReg x || within 0x110000 0x120000 x)) ∧
        (errs = [] → t.regs = s.regs) ∧
        t.mem = s.mem)) ∧
  (∀ (s : State) (t0 : Nat) (c : Byte) (a : Word) (ws : List Word),
      c ≠ 0x02#8 ∧ c ≠ 0x0B#8 →
      Goes (.qspiWrite t0 c a ws []) s (fun t => t.qspi = some none ∧
        t = { s with qspi := some none, tim := t.tim })) ∧
  (∀ (s : State) (t0 : Nat) (c : Byte) (a : Word) (n : Nat),
      c ≠ 0x02#8 ∧ c ≠ 0x0B#8 →
      Goes (.qspiRead t0 c a n []) s (fun t => t.qspi = some none ∧
        t = { s with qspi := some none, tim := t.tim })) ∧
  (∀ (s : State) (t0 : Nat) (k : Nat),
      Goes (.qspiTransferEnd t0 k) s (fun t => t.qspi = none ∧
        t = { s with qspi := none, tim := t.tim }))

/-- Host accesses that wait, and software interrupts. An access in DOZE with PD_SYS in retention is held and starts
the wake, and changes no memory byte; an access to X, Y or C memory of a running platen joins that platen's held
accesses with no register and no memory byte changed; a write of X memory of a platen that does not run stores the low
24 bits, and a read answers the word, sign-extended, and changes no register, memory byte or platen; the oldest held
write completes once the platen has stopped, and leaves the rest held; SYS.IRQ_SWSET sets the pending bits of vectors
29 to 31 that are written 1, no other pending bit, and no other register. In a clause that names or bounds the
registers it writes, every other register keeps its value. -/
def Obligations.HostAccessWaits : Prop :=
  (∀ (s : State) (h : Via) (a : Word) (w : Option Word),
      s.sys.st = .doze →
      s.pwr.sysRet = true →
      Goes (.hostAccessWake h a w) s (fun t => (t.pwr.held = s.pwr.held ++ [⟨h.ifc, a.toNat, 4, w.map (fun v => (wordBytes v).map some)⟩]) ∧
        t.pwr.waking = true ∧
        (MemKept s t (fun _ => false)) ∧
        (RegsKept s t (fun a => a == R.PWR_WAKE_SRC.addr)))) ∧
  (∀ (s : State) (h : Via) (p : Fin 5) (i : Fin 40960) (w : Option Word) (errs : List PltErr),
      HostOn s (0x800000 + 0x100000 * p + 4 * i) →
      (s.plt p).running = true →
      Goes (.platenMemoryAccess h (BitVec.ofNat 32 (0x800000 + 0x100000 * p + 4 * i)) w errs) s (fun t => ((t.plt p).held = (s.plt p).held ++ [⟨h.ifc, 0x800000 + 0x100000 * p + 4 * i, 4, w.map (fun v => (wordBytes v).map some)⟩]) ∧
        t.regs = s.regs ∧
        t.mem = s.mem ∧
        t.out = s.out)) ∧
  (∀ (s : State) (h : Via) (p : Fin 5) (i : Fin 16384) (v : Word) (errs : List PltErr),
      HostOn s (0x800000 + 0x100000 * p + 4 * i) →
      (s.plt p).running = false →
      Goes (.platenMemoryAccess h (BitVec.ofNat 32 (0x800000 + 0x100000 * p + 4 * i)) (some v) errs) s (fun t => (t.plt p).word false i = v.setWidth 24 ∧
        t.regs = s.regs ∧
        t.mem = s.mem)) ∧
  (∀ (s : State) (h : Via) (p : Fin 5) (i : Fin 16384),
      HostOn s (0x800000 + 0x100000 * p + 4 * i) →
      (s.plt p).running = false →
      Goes (.platenMemoryAccess h (BitVec.ofNat 32 (0x800000 + 0x100000 * p + 4 * i)) none []) s (fun t => t.out = s.out ++ [Out.rd h.ifc (0x800000 + 0x100000 * p + 4 * i) (wordBytes (BitVec.ofInt 32 ((s.plt p).word false i).toInt))] ∧
        t.regs = s.regs ∧
        t.mem = s.mem ∧
        t.plts = s.plts)) ∧
  (∀ (s : State) (t0 : Nat) (p : Fin 5) (i : Fin 16384) (v : Word) (c : Ifc) (r : List Held) (errs : List PltErr),
      s.sys.st ≠ .off →
      addrOn s (0x800000 + 0x100000 * p + 4 * i) = true →
      (s.plt p).running = false →
      (s.plt p).held = ⟨c, 0x800000 + 0x100000 * p + 4 * i, 4, some ((wordBytes v).map some)⟩ :: r →
      Goes (.heldAccessComplete t0 p errs) s (fun t => (t.plt p).held = r ∧
        (t.plt p).word false i = v.setWidth 24 ∧
        t.regs = s.regs ∧
        t.mem = s.mem)) ∧
  (∀ (s : State) (h : Via) (v : Word),
      HostOn s R.SYS_IRQ_SWSET.addr →
      Goes (.irqSwset h v) s (fun t => irqPend t = irqPend s ||| (v &&& 0xE0000000#32) ∧
        (RegsKept s t (fun a => a == R.SYS_IRQ_PEND.addr)) ∧
        (MemKept s t (fun _ => false))))

/-- A rollback by the owner discards and closes, and while a commit is pending it is ignored. ROLLBACK by the owner of
an open quoin with PENDING 0 leaves no staged value and no open quoin; with PENDING 1 a rollback leaves the owner, the
staged values and the pending commit as they are. Memory keeps its contents. -/
def Obligations.RollbackRule : Prop :=
  (∀ (s : State) (h : Via),
      HostOn s R.QUO_CTL.addr →
      s.quo.owner = some h.ifc ∧ s.quo.pending = none →
      Goes (.quoRollback h) s (fun t => t.quo.staged = [] ∧ t.quo.owner = none ∧ t.quo.pending = none ∧
        t.regs = s.regs ∧
        t.mem = s.mem)) ∧
  (∀ (s : State) (h : Via),
      HostOn s R.QUO_CTL.addr →
      s.quo.pending ≠ none →
      Goes (.quoRollback h) s (fun t => t.quo.owner = s.quo.owner ∧ t.quo.staged = s.quo.staged ∧ t.quo.pending = s.quo.pending ∧
        RegsKept s t commonReg ∧
        t.mem = s.mem))

/-- The condition of SEL and SEV is judged on content and flag C at issue. For a SEL and a SEV that take part, with j
= MOD[1:0]: MOD[3:2] 00 is A[j] below 0, 01 is A[j] equal to 0, 10 is A[j] above 0 and 11 is flag C of A[j], on the
state at issue. SEL writes its X operand to A[AD] when the condition holds and its Y operand when it does not; SEV
without UNC raises its event for the mode machines when it holds and changes nothing but the sequencer's place when it
does not. In a clause that names or bounds the registers it writes, every other register keeps its value. -/
def Obligations.ConditionRule : Prop :=
  (∀ (s : State) (a : Srt),
      Issued 0x0A a s →
      Goes (.sortSel a) s (fun t => ((t.plt a.plt).accOf a.ad.toNat = accAfter true ((s.plt a.plt).accOf a.ad.toNat) ((if (if a.md.toNat / 4 = 0 then decide (((s.plt a.plt).accOf (a.md.toNat % 4)).v.toInt < 0) else if a.md.toNat / 4 = 1 then decide (((s.plt a.plt).accOf (a.md.toNat % 4)).v.toInt = 0) else if a.md.toNat / 4 = 2 then decide (0 < ((s.plt a.plt).accOf (a.md.toNat % 4)).v.toInt) else ((s.plt a.plt).accOf (a.md.toNat % 4)).c) = true then (readXY false a s).1 else (readXY true a s).1) * 2 ^ 23)) ∧
        AccOnly s t a [a.ad.toNat])) ∧
  (∀ (s : State) (a : Srt),
      Issued 0x18 a s →
      a.xf.getLsbD 8 = false →
      ((if a.md.toNat / 4 = 0 then decide (((s.plt a.plt).accOf (a.md.toNat % 4)).v.toInt < 0) else if a.md.toNat / 4 = 1 then decide (((s.plt a.plt).accOf (a.md.toNat % 4)).v.toInt = 0) else if a.md.toNat / 4 = 2 then decide (0 < ((s.plt a.plt).accOf (a.md.toNat % 4)).v.toInt) else ((s.plt a.plt).accOf (a.md.toNat % 4)).c) = true) →
      Goes (.sortSev a) s (fun t => t.mmq = s.mmq ++ [⟨blkPLT, a.xf.toNat % 256, a.plt, lns s⟩] ∧
        t.plts = (seqTo a.plt (a.idx.toNat + 1) s).plts ∧
        RegsKept s t commonReg ∧
        t.mem = s.mem)) ∧
  (∀ (s : State) (a : Srt),
      Issued 0x18 a s →
      a.xf.getLsbD 8 = false →
      ((if a.md.toNat / 4 = 0 then decide (((s.plt a.plt).accOf (a.md.toNat % 4)).v.toInt < 0) else if a.md.toNat / 4 = 1 then decide (((s.plt a.plt).accOf (a.md.toNat % 4)).v.toInt = 0) else if a.md.toNat / 4 = 2 then decide (0 < ((s.plt a.plt).accOf (a.md.toNat % 4)).v.toInt) else ((s.plt a.plt).accOf (a.md.toNat % 4)).c) = false) →
      Goes (.sortSev a) s (fun t => t = seqTo a.plt (a.idx.toNat + 1) s))

/-- An immediate operand is its 14-bit signed field times 2^10. An LDA of an X operand in the immediate form writes v
× 2^10 to A[AD], at the binary point of the accumulator, where v is the signed value of the 14 bits of its field; v ×
2^10 lies between −1.0 (−2^23) and +0.99987793 (8,191 × 2^10) in steps of 2^−13 (2^10). -/
def Obligations.ImmediateRule : Prop :=
  (∀ (s : State) (a : Srt) (v : BitVec 14),
      Issued 0x02 a s →
      a.md = 0#4 →
      a.xf = 3#2 ++ v →
      Goes (.sortLda a) s (fun t => (t.plt a.plt).accOf a.ad.toNat = ⟨BitVec.ofInt 56 (v.toInt * 2 ^ 10 * 2 ^ 23), false, false⟩ ∧
        -(2 ^ 23) ≤ v.toInt * 2 ^ 10 ∧ v.toInt * 2 ^ 10 ≤ 8191 * 2 ^ 10 ∧
        AccOnly s t a [a.ad.toNat]))

/-- BEGIN opens a quoin and writes of QS fields are staged. With no quoin open and none pending, BEGIN in LOADED,
READY, RUN or SAFE_STOP opens an empty quoin for the writing interface; in any other state it sets REFUSED and opens
none. The owner's write of EDG.DT stages DTIME, held at 64,000, with no register changed; outside a quoin the same
write becomes an implicit transaction, with no register changed; during the other interface's quoin it is dropped and
nothing is staged. No memory byte changes. In a clause that names or bounds the registers it writes, every other
register keeps its value. -/
def Obligations.QuoinOpenAndStage : Prop :=
  (∀ (s : State) (h : Via),
      HostOn s R.QUO_CTL.addr →
      s.quo.owner = none →
      s.quo.pending = none →
      beginState s.sys.st = true →
      Goes (.quoBegin h) s (fun t => t.quo.owner = some h.ifc ∧
        t.quo.staged = [] ∧ t.quo.report = [] ∧ t.quo.full = false ∧
        (RegsKept s t (fun a => a == R.QUO_STATUS.addr)) ∧
        (MemKept s t (fun _ => false)))) ∧
  (∀ (s : State) (h : Via),
      HostOn s R.QUO_CTL.addr →
      s.quo.owner = none →
      (s.quo.pending ≠ none ∨ beginState s.sys.st = false) →
      Goes (.quoBegin h) s (fun t => fget t F.QUO_STATUS_REFUSED = 1 ∧
        t.quo = s.quo ∧
        (MemKept s t (fun _ => false)) ∧
        (RegsKept s t (fun a => a == R.QUO_STATUS.addr)))) ∧
  (∀ (s : State) (h : Via) (c : Fin 48) (v : Word),
      HostOn s (R.EDG_DT.at c) →
      s.quo.owner = some h.ifc →
      s.quo.staged.length ≤ 2046 →
      Goes (.qsStagedWrite h (BitVec.ofNat 32 (R.EDG_DT.at c)) v) s (fun t => (⟨R.EDG_DT.at c, 0, 16, 0, min (bitsOf v 0 16) 64000⟩ : Staged) ∈ t.quo.staged ∧
        t.quo.owner = some h.ifc ∧
        (RegsKept s t (fun a => a == R.QUO_STATUS.addr)) ∧
        (MemKept s t (fun _ => false)))) ∧
  (∀ (s : State) (h : Via) (c : Fin 48) (v : Word),
      HostOn s (R.EDG_DT.at c) →
      s.quo.owner = none →
      Goes (.qsImplicitWrite h (BitVec.ofNat 32 (R.EDG_DT.at c)) v) s (fun t => (⟨R.EDG_DT.at c, 0, 16, 0, min (bitsOf v 0 16) 64000⟩ : Staged) ∈ t.quo.implicit.map (·.st) ∧
        t.quo.staged = s.quo.staged ∧
        (RegsKept s t (fun a => a == R.QUO_STATUS.addr)) ∧
        (MemKept s t (fun _ => false)))) ∧
  (∀ (s : State) (h : Via) (c : Fin 48) (v : Word) (o : Ifc),
      HostOn s (R.EDG_DT.at c) →
      s.quo.owner = some o →
      o ≠ h.ifc →
      Goes (.qsStagedWrite h (BitVec.ofNat 32 (R.EDG_DT.at c)) v) s (fun t => t.quo = s.quo ∧
        fget t F.SYS_HOST_DROP_COUNT = min (fget s F.SYS_HOST_DROP_COUNT + 1) 65535 ∧
        (RegsKept s t (fun a => a == R.SYS_HOST_DROP.addr || a == R.SYS_HOST_DROP_ADDR.addr)) ∧
        (MemKept s t (fun _ => false))))

/-- COMMIT and the timeout close a quoin. The owner's COMMIT closes the quoin and makes its staged values pending, and
with FULL is refused: the values are discarded and RESULT is 2; a ROLLBACK without an open quoin is ignored and, as an
access that has no effect, counted in SYS.HOST_DROP (what counts there is the model's reading of R64, log entry 28),
and changes nothing of the quoin unit; when TIMEOUT.MS have passed since the owner's last write the quoin closes, its
values are discarded and TIMED_OUT is 1. No register changes in a COMMIT that is not refused, and memory keeps its
contents in all of them. In a clause that names or bounds the registers it writes, every other register keeps its
value. -/
def Obligations.QuoinClose : Prop :=
  (∀ (s : State) (h : Via),
      HostOn s R.QUO_CTL.addr →
      s.quo.owner = some h.ifc →
      s.quo.full = false →
      Goes (.quoCommit h) s (fun t => t.quo.owner = none ∧
        t.quo.pending = some h.ifc ∧
        t.quo.staged = s.quo.staged ∧
        t.regs = s.regs ∧
        t.mem = s.mem)) ∧
  (∀ (s : State) (h : Via),
      HostOn s R.QUO_CTL.addr →
      s.quo.owner = some h.ifc →
      s.quo.full = true →
      Goes (.quoCommit h) s (fun t => t.quo.owner = none ∧
        t.quo.staged = [] ∧
        fget t F.QUO_STATUS_RESULT = 2 ∧
        t.mem = s.mem ∧
        (RegsKept s t (fun a => commonReg a || a == R.QUO_STATUS.addr)))) ∧
  (∀ (s : State) (h : Via),
      HostOn s R.QUO_CTL.addr →
      s.quo.owner = none →
      Goes (.quoRollback h) s (fun t => t.quo = s.quo ∧
        fget t F.SYS_HOST_DROP_COUNT = min (fget s F.SYS_HOST_DROP_COUNT + 1) 65535 ∧
        fget t F.SYS_HOST_DROP_ADDR_ADDR = R.QUO_CTL.addr ∧
        (RegsKept s t (fun a => a == R.SYS_HOST_DROP.addr || a == R.SYS_HOST_DROP_ADDR.addr)) ∧
        t.mem = s.mem)) ∧
  (∀ (s : State) (t0 : Nat) (o : Ifc),
      s.quo.owner = some o →
      s.quo.lastWrite + 256000000 * fget s F.QUO_TIMEOUT_MS ≤ clk (advance t0 s) →
      Goes (.quoinTimeout t0) s (fun t => t.quo.owner = none ∧
        t.quo.staged = [] ∧
        fget t F.QUO_STATUS_TIMED_OUT = 1 ∧
        t.mem = s.mem ∧
        (RegsKept s t (fun a => commonReg a || a == R.QUO_STATUS.addr))))

/-- An impression boundary opens the next impression and applies what is due. While impressions run, a boundary makes
the count one more, but the first after load leaves it as it stands (0 after load), opens the impression at the
present LNS, and ends the pending commit whose boundary it is; a quoin that stays open keeps its owner; a staged
EDG.DT applies, with RESULT 1; the scrubber of a control platen whose gap ends has read its 32 words. The queue is
untouched. With impressions stopped the boundary changes nothing but the time. -/
def Obligations.ImpressionBoundary : Prop :=
  (∀ (s : State) (t0 : Nat) (y3 : List (List Bool)) (errs : List MemErr) (mm : Option LocErr) (quo : Option LocErr) (scrub : List PltErr),
      s.sys.running = true →
      Goes (.impressionBoundary t0 y3 errs mm quo scrub) s (fun t => (t.sys.imp = (if s.sys.first then s.sys.imp + 1 else s.sys.imp)) ∧
        t.sys.first = true ∧
        t.sys.s0 = max s.tim.acc (t0 * 2 ^ 18) / 2 ^ 26 ∧
        (s.quo.skip = 0 → t.quo.pending = none) ∧
        t.quo.owner = s.quo.owner ∧
        t.pending = s.pending)) ∧
  (∀ (s : State) (t0 : Nat) (y3 : List (List Bool)) (scrub : List PltErr),
      s.sys.running = false →
      Goes (.impressionBoundary t0 y3 [] none none scrub) s (fun t => t = { s with tim := t.tim })) ∧
  (∀ (s : State) (t0 : Nat) (y3 : List (List Bool)) (errs : List MemErr) (scrub : List PltErr) (p : Fin 4),
      s.sys.running = true →
      (s.plt p).gap = true →
      Goes (.impressionBoundary t0 y3 errs none none scrub) s (fun t => (t.plt p).scrub = ((s.plt p).scrub + 32) % 57344)) ∧
  (∀ (s : State) (t0 : Nat) (y3 : List (List Bool)) (i : Ifc) (c : Fin 48) (n : Nat),
      s.sys.running = true →
      s.quo.pending = some i →
      s.quo.skip = 0 →
      s.quo.implicit = [] →
      s.quo.staged = [⟨R.EDG_DT.at c, 0, 16, 0, n⟩] →
      domainOn s 6 = true →
      n < 65536 →
      Goes (.impressionBoundary t0 y3 [] none none []) s (fun t => fget t F.EDG_DT_DTIME c = n ∧
        fget t F.QUO_STATUS_RESULT = 1))

/-- Writes of a staged bank, its worst case, and the output publish. A host write of a half of a sort of the staged
bank of a platen with no swap pending stores it and starts the worst case; with a swap pending it is dropped and no
platen changes. When the worst case is done STG_WORST takes it and STG_BUSY ends. The output publish of a running
control platen whose forme has ended begins its gap; with one enabled SRAM descriptor of one word it stores that X
word, sign-extended, in the SRAM word named and no other byte. In a clause that names or bounds the registers it
writes, every other register keeps its value. -/
def Obligations.StagedBankAndPublish : Prop :=
  (∀ (s : State) (h : Via) (p : Fin 5) (i : Fin 16384) (v : Word),
      HostOn s (0x850000 + 0x100000 * p + 4 * i) →
      (s.plt p).swapPending = false →
      Goes (.stagedBankWrite h (BitVec.ofNat 32 (0x850000 + 0x100000 * p + 4 * i)) v) s (fun t => SMap.get endWord (t.plt p).stg.sorts (i / 2) = putHalf (SMap.get endWord (s.plt p).stg.sorts (i / 2)) (i.val % 2 == 1) v ∧
        (t.plt p).stgBusy = true ∧
        (t.plt p).act = (s.plt p).act ∧
        (∀ m : Fin 5, m ≠ p → t.plt m = s.plt m) ∧
        t.regs = s.regs ∧
        t.mem = s.mem)) ∧
  (∀ (s : State) (h : Via) (p : Fin 5) (i : Fin 16384) (v : Word),
      HostOn s (0x850000 + 0x100000 * p + 4 * i) →
      (s.plt p).swapPending = true →
      Goes (.stagedBankWrite h (BitVec.ofNat 32 (0x850000 + 0x100000 * p + 4 * i)) v) s (fun t => t.plts = s.plts ∧
        fget t F.SYS_HOST_DROP_COUNT = min (fget s F.SYS_HOST_DROP_COUNT + 1) 65535 ∧
        t.mem = s.mem ∧
        RegsKept s t commonReg)) ∧
  (∀ (s : State) (t0 : Nat) (p : Fin 5),
      (s.plt p).stgBusy = true →
      Goes (.stgWorstDone t0 p) s (fun t => (t.plt p).stgBusy = false ∧
        (t.plt p).stgWorst = satNat 25 (worstCase (s.plt p).stg) ∧
        t = { s with plts := t.plts, tim := t.tim } ∧
        (∀ m : Fin 5, m ≠ p → t.plt m = s.plt m))) ∧
  (∀ (s : State) (t0 : Nat) (p : Fin 4) (ats : List (Nat × Nat)) (errs : List PltErr) (merrs : List MemErr),
      domainOn s (2 + p) = true →
      (s.plt p).running = true →
      ((s.plt p).ended = true ∨ (s.plt p).bare = true) →
      Goes (.outputPublish t0 p ats errs merrs) s (fun t => (t.plt p).running = false ∧
        (t.plt p).ended = false ∧
        (t.plt p).gap = true ∧
        (RegsKept s t (fun a => commonReg a || a == R.PLT_STATUS.at p || a == R.PLT_ECC.at p || a == R.PLT_UE_ADDR.at p || within 0x40000 0x50000 a || within 0x110000 0x120000 a)))) ∧
  (∀ (s : State) (t0 : Nat) (p : Fin 4) (ats : List (Nat × Nat)) (merrs : List MemErr),
      domainOn s (2 + p) = true →
      (s.plt p).running = true →
      ((s.plt p).ended = true ∨ (s.plt p).bare = true) →
      (∀ k : Fin 32, k ≠ 0 → (descOf (SMap.get (fun _ => (0#64 : W64)) (s.plt p).act.pub k)).en = false) →
      ((descOf (SMap.get (fun _ => (0#64 : W64)) (s.plt p).act.pub 0)).en = true) →
      ((descOf (SMap.get (fun _ => (0#64 : W64)) (s.plt p).act.pub 0)).ty = 3) →
      ((descOf (SMap.get (fun _ => (0#64 : W64)) (s.plt p).act.pub 0)).cnt = 1) →
      ((descOf (SMap.get (fun _ => (0#64 : W64)) (s.plt p).act.pub 0)).y = false) →
      (secOn s p (descOf (SMap.get (fun _ => (0#64 : W64)) (s.plt p).act.pub 0)).sec = true) →
      Goes (.outputPublish t0 p ats [] merrs) s (fun t => (memNat t (sramAt (descOf (SMap.get (fun _ => (0#64 : W64)) (s.plt p).act.pub 0)).w1) 4 = unsgn 32 ((s.plt p).word false (descOf (SMap.get (fun _ => (0#64 : W64)) (s.plt p).act.pub 0)).addr).toInt) ∧
        (MemKept s t (fun a => within (sramAt (descOf (SMap.get (fun _ => (0#64 : W64)) (s.plt p).act.pub 0)).w1) (sramAt (descOf (SMap.get (fun _ => (0#64 : W64)) (s.plt p).act.pub 0)).w1 + 4) a)) ∧
        (RegsKept s t (fun a => commonReg a || a == R.PLT_STATUS.at p || a == R.PLT_ECC.at p || a == R.PLT_UE_ADDR.at p || within 0x40000 0x50000 a || within 0x110000 0x120000 a))))

/-- MAC adds the signed product of its pair, LIM clamps and LUT interpolates. An issued MAC of pair 00, 01 or 10
writes A[AD], or 0 with CLR, plus or minus X·C, Y·C or X·Y to A[AD] under the accumulator rules of R92 and R93; the
dual form does so with X·C into A[AD] and Y·C into A[AD xor 1]. No other accumulator, memory word, platen or register
but PLT.STATUS and PLT.OVF_INFO changes. An issued LIM clamps A[AD] between X and Y, tells in C whether the value
changed, and leaves a frozen accumulator as it is; an issued LUT writes T[i] + (T[i+1] - T[i]) · f / 256 of its table
in C memory, clearing FRZ and C. No other accumulator, memory word, platen or register but PLT.STATUS and PLT.OVF_INFO
changes. -/
def Obligations.SortsMultiply : Prop :=
  (∀ (s : State) (a : Srt),
      Issued 0x01 a s →
      a.md.toNat % 4 = 0 →
      Goes (.sortMac a) s (fun t => ((t.plt a.plt).accOf a.ad.toNat = accAfter (a.md.getLsbD 3) ((s.plt a.plt).accOf a.ad.toNat) ((if a.md.getLsbD 3 then 0 else accVal a a.ad.toNat s) + negIf (a.md.getLsbD 2) ((readXY false a s).1 * (readC a s).1))) ∧
        AccOnly s t a [a.ad.toNat])) ∧
  (∀ (s : State) (a : Srt),
      Issued 0x01 a s →
      a.md.toNat % 4 = 1 →
      Goes (.sortMac a) s (fun t => ((t.plt a.plt).accOf a.ad.toNat = accAfter (a.md.getLsbD 3) ((s.plt a.plt).accOf a.ad.toNat) ((if a.md.getLsbD 3 then 0 else accVal a a.ad.toNat s) + negIf (a.md.getLsbD 2) ((readXY true a s).1 * (readC a s).1))) ∧
        AccOnly s t a [a.ad.toNat])) ∧
  (∀ (s : State) (a : Srt),
      Issued 0x01 a s →
      a.md.toNat % 4 = 2 →
      Goes (.sortMac a) s (fun t => ((t.plt a.plt).accOf a.ad.toNat = accAfter (a.md.getLsbD 3) ((s.plt a.plt).accOf a.ad.toNat) ((if a.md.getLsbD 3 then 0 else accVal a a.ad.toNat s) + negIf (a.md.getLsbD 2) ((readXY false a s).1 * (readXY true a s).1))) ∧
        AccOnly s t a [a.ad.toNat])) ∧
  (∀ (s : State) (a : Srt),
      Issued 1 { a with md := a.md ||| 3#4 } s →
      Goes (.macDual a) s (fun t => ((t.plt a.plt).accOf a.ad.toNat = accAfter (a.md.getLsbD 3) ((s.plt a.plt).accOf a.ad.toNat) ((if a.md.getLsbD 3 then 0 else accVal a a.ad.toNat s) + negIf (a.md.getLsbD 2) ((readXY false a s).1 * (readC a s).1))) ∧
        ((t.plt a.plt).accOf (a.ad.toNat ^^^ 1) = accAfter (a.md.getLsbD 3) ((s.plt a.plt).accOf (a.ad.toNat ^^^ 1)) ((if a.md.getLsbD 3 then 0 else accVal a (a.ad.toNat ^^^ 1) s) + negIf (a.md.getLsbD 2) ((readXY true a s).1 * (readC a s).1))) ∧
        AccOnly s t a [a.ad.toNat, a.ad.toNat ^^^ 1])) ∧
  (∀ (s : State) (a : Srt),
      Issued 9 a s →
      Goes (.sortLim a) s (fun t => ((t.plt a.plt).accOf a.ad.toNat = (let o := (s.plt a.plt).accOf a.ad.toNat; let r := max ((readXY false a s).1 * 2 ^ 23) (min (accVal a a.ad.toNat s) ((readXY true a s).1 * 2 ^ 23)); if o.frz then o else ⟨BitVec.ofInt 56 r, decide (r ≠ accVal a a.ad.toNat s), false⟩)) ∧
        AccOnly s t a [a.ad.toNat])) ∧
  (∀ (s : State) (a : Srt),
      Issued 0xB a s →
      Goes (.sortLut a) s (fun t => ((t.plt a.plt).accOf a.ad.toNat = accAfter true ((s.plt a.plt).accOf a.ad.toNat) (let n := a.md.toNat + 4; let u := (readXY false a s).1 % 2 ^ 24; let i := (u / 2 ^ (24 - n)).toNat; let f := u / 2 ^ (16 - n) % 256; let b := coefAddr (s.plt a.plt) a.cf; let t0 := ((s.plt a.plt).cword (b + i)).toInt; let t1 := ((s.plt a.plt).cword (b + i + 1)).toInt; (t0 * 256 + (t1 - t0) * f) * 2 ^ 15)) ∧
        AccOnly s t a [a.ad.toNat]))

/-- Accumulator sorts write what R85 says. Each issued sort writes A[AD] under the accumulator rules of R92 and R93
and changes no other accumulator, no memory word, no other platen and no register but PLT.STATUS and PLT.OVF_INFO: LDA
the source, ADD the sum, ACC the sum with a second accumulator, SHF the shifted value, NEG, ABS, RND and CLR, MIN and
MAX with the source, SEL the operand that the condition picks, DLD the 48-bit integer of X and Y loaded or added, BSCL
the value scaled by 2^BE, GET the block exponent. -/
def Obligations.SortsAccumulate : Prop :=
  (∀ (s : State) (a : Srt),
      Issued 0x02 a s →
      Goes (.sortLda a) s (fun t => (t.plt a.plt).accOf a.ad.toNat = accAfter true ((s.plt a.plt).accOf a.ad.toNat) ((readSrc a s).1 * 2 ^ 23) ∧
        AccOnly s t a [a.ad.toNat])) ∧
  (∀ (s : State) (a : Srt),
      Issued 0x03 a s →
      Goes (.sortAdd a) s (fun t => (t.plt a.plt).accOf a.ad.toNat = accAfter false ((s.plt a.plt).accOf a.ad.toNat) (accVal a a.ad.toNat s + negIf (a.md.getLsbD 2) ((readSrc a s).1 * 2 ^ 23)) ∧
        AccOnly s t a [a.ad.toNat])) ∧
  (∀ (s : State) (a : Srt),
      Issued 0x04 a s →
      Goes (.sortAcc a) s (fun t => (t.plt a.plt).accOf a.ad.toNat = accAfter false ((s.plt a.plt).accOf a.ad.toNat) (accVal a a.ad.toNat s + negIf (a.md.getLsbD 2) (accVal a (a.md.toNat % 4) s)) ∧
        AccOnly s t a [a.ad.toNat])) ∧
  (∀ (s : State) (a : Srt),
      Issued 0x05 a s →
      Goes (.sortShf a) s (fun t => (t.plt a.plt).accOf a.ad.toNat = accAfter false ((s.plt a.plt).accOf a.ad.toNat) (shiftInt (accVal a a.ad.toNat s) (sgn 7 a.xf.toNat)) ∧
        AccOnly s t a [a.ad.toNat])) ∧
  (∀ (s : State) (a : Srt),
      Issued 0x06 ({ a with md := 0#4 }) s →
      Goes (.unaNeg a) s (fun t => (t.plt a.plt).accOf a.ad.toNat = accAfter false ((s.plt a.plt).accOf a.ad.toNat) (-(accVal a a.ad.toNat s)) ∧
        AccOnly s t a [a.ad.toNat])) ∧
  (∀ (s : State) (a : Srt),
      Issued 0x06 ({ a with md := 1#4 }) s →
      Goes (.unaAbs a) s (fun t => (t.plt a.plt).accOf a.ad.toNat = accAfter false ((s.plt a.plt).accOf a.ad.toNat) (((accVal a a.ad.toNat s).natAbs : Int)) ∧
        AccOnly s t a [a.ad.toNat])) ∧
  (∀ (s : State) (a : Srt),
      Issued 0x06 ({ a with md := 2#4 }) s →
      Goes (.unaRnd a) s (fun t => (t.plt a.plt).accOf a.ad.toNat = accAfter false ((s.plt a.plt).accOf a.ad.toNat) (((accVal a a.ad.toNat s) + 2 ^ 22) / 2 ^ 23 * 2 ^ 23) ∧
        AccOnly s t a [a.ad.toNat])) ∧
  (∀ (s : State) (a : Srt),
      Issued 0x06 ({ a with md := 3#4 }) s →
      Goes (.unaClr a) s (fun t => (t.plt a.plt).accOf a.ad.toNat = accAfter true ((s.plt a.plt).accOf a.ad.toNat) (0) ∧
        AccOnly s t a [a.ad.toNat])) ∧
  (∀ (s : State) (a : Srt),
      Issued 0x07 a s →
      Goes (.sortMin a) s (fun t => (t.plt a.plt).accOf a.ad.toNat = accAfter false ((s.plt a.plt).accOf a.ad.toNat) (min (accVal a a.ad.toNat s) ((readSrc a s).1 * 2 ^ 23)) ∧
        AccOnly s t a [a.ad.toNat])) ∧
  (∀ (s : State) (a : Srt),
      Issued 0x08 a s →
      Goes (.sortMax a) s (fun t => (t.plt a.plt).accOf a.ad.toNat = accAfter false ((s.plt a.plt).accOf a.ad.toNat) (max (accVal a a.ad.toNat s) ((readSrc a s).1 * 2 ^ 23)) ∧
        AccOnly s t a [a.ad.toNat])) ∧
  (∀ (s : State) (a : Srt),
      Issued 0x0A a s →
      Goes (.sortSel a) s (fun t => ((t.plt a.plt).accOf a.ad.toNat = accAfter true ((s.plt a.plt).accOf a.ad.toNat) ((if condHolds a s then (readXY false a s).1 else (readXY true a s).1) * 2 ^ 23)) ∧
        AccOnly s t a [a.ad.toNat])) ∧
  (∀ (s : State) (a : Srt),
      Issued 0x0C a s →
      Goes (.sortDld a) s (fun t => ((t.plt a.plt).accOf a.ad.toNat = accAfter (!a.md.getLsbD 0) ((s.plt a.plt).accOf a.ad.toNat) ((if a.md.getLsbD 0 then accVal a a.ad.toNat s else 0) + negIf (a.md.getLsbD 2) ((readXY false a s).1 * 2 ^ 24 + (((readXY true a s).1 % 2 ^ 24))))) ∧
        AccOnly s t a [a.ad.toNat])) ∧
  (∀ (s : State) (a : Srt),
      Issued 0x17 a s →
      Goes (.sortBscl a) s (fun t => ((t.plt a.plt).accOf a.ad.toNat = accAfter false ((s.plt a.plt).accOf a.ad.toNat) (if a.md.getLsbD 0 then accVal a a.ad.toNat s / 2 ^ (s.plt a.plt).be else accVal a a.ad.toNat s * 2 ^ (s.plt a.plt).be)) ∧
        AccOnly s t a [a.ad.toNat])) ∧
  (∀ (s : State) (a : Srt),
      Issued 0x16 ({ a with md := 2#4 }) s →
      Goes (.bexpGet a) s (fun t => (t.plt a.plt).accOf a.ad.toNat = accAfter true ((s.plt a.plt).accOf a.ad.toNat) (((s.plt a.plt).be : Int) * 2 ^ 23) ∧
        AccOnly s t a [a.ad.toNat]))

/-- Store sorts write the words that their fields name and no other, and PSET and PMOD their pointers. For issued
sorts: STX and STY store A[AD] rounded, scaled and saturated by R87 at the X or Y word that XF or YF names, STXY A[AD]
and A[AD xor 1], DST the two halves of A[AD] held to 48 bits, MOV the word of its source; a destination field of mode
IMM stores nothing. Every other word of X and Y memory, C memory, the accumulators, every other platen and every
register but PLT.STATUS and PLT.OVF_INFO keep their contents. An issued PSET sets value and base of pointer MOD[2:0]
of each group whose enable is 1, PMOD its stride or its modulo length; the pointers of a group that is not enabled,
every other pointer, and everything else of the machine stay as they are. The dual MAC, LDA, LIM, STXY and MOV step
the pointer of each of their fields in mode IPI, a source or a destination, by R83 (p + s modulo the memory, or within
the M words from B), and no other pointer. -/
def Obligations.SortsStore : Prop :=
  (∀ (s : State) (a : Srt),
      Issued 0x0E a s →
      Goes (.sortStx a) s (fun t => (fldMode a.xf ≠ 3 → (t.plt a.plt).word false (dataAddr (s.plt a.plt) false a.xf) = storedWord (accVal a a.ad.toNat s) a.md) ∧
        WordOnly s t a (fldMode a.xf != 3) false)) ∧
  (∀ (s : State) (a : Srt),
      Issued 0x0F a s →
      Goes (.sortSty a) s (fun t => (fldMode a.yf ≠ 3 → (t.plt a.plt).word true (dataAddr (s.plt a.plt) true a.yf) = storedWord (accVal a a.ad.toNat s) a.md) ∧
        WordOnly s t a false (fldMode a.yf != 3))) ∧
  (∀ (s : State) (a : Srt),
      Issued 0x10 a s →
      Goes (.sortStxy a) s (fun t => (fldMode a.xf ≠ 3 → (t.plt a.plt).word false (dataAddr (s.plt a.plt) false a.xf) = storedWord (accVal a a.ad.toNat s) a.md) ∧
        (fldMode a.yf ≠ 3 → (t.plt a.plt).word true (dataAddr (s.plt a.plt) true a.yf) = storedWord (accVal a (a.ad.toNat ^^^ 1) s) a.md) ∧
        WordOnly s t a (fldMode a.xf != 3) (fldMode a.yf != 3))) ∧
  (∀ (s : State) (a : Srt),
      Issued 0x0D a s →
      Goes (.sortDst a) s (fun t => (fldMode a.xf ≠ 3 → (t.plt a.plt).word false (dataAddr (s.plt a.plt) false a.xf) = BitVec.ofInt 24 (clampInt (-(2 ^ 47)) (2 ^ 47 - 1) (accVal a a.ad.toNat s) / 2 ^ 24)) ∧
        (fldMode a.yf ≠ 3 → (t.plt a.plt).word true (dataAddr (s.plt a.plt) true a.yf) = BitVec.ofInt 24 (clampInt (-(2 ^ 47)) (2 ^ 47 - 1) (accVal a a.ad.toNat s))) ∧
        WordOnly s t a (fldMode a.xf != 3) (fldMode a.yf != 3))) ∧
  (∀ (s : State) (a : Srt),
      Issued 0x11 a s →
      a.md.toNat % 4 = 0 →
      Goes (.sortMov a) s (fun t => (fldMode a.xf ≠ 3 → (t.plt a.plt).word false (dataAddr (s.plt a.plt) false a.xf) = BitVec.ofInt 24 ((readXY true a s).1)) ∧
        WordOnly s t a (fldMode a.xf != 3) false)) ∧
  (∀ (s : State) (a : Srt),
      Issued 0x11 a s →
      a.md.toNat % 4 = 1 →
      Goes (.sortMov a) s (fun t => (fldMode a.yf ≠ 3 → (t.plt a.plt).word true (dataAddr (s.plt a.plt) true a.yf) = BitVec.ofInt 24 ((readXY false a s).1)) ∧
        WordOnly s t a false (fldMode a.yf != 3))) ∧
  (∀ (s : State) (a : Srt),
      Issued 0x11 a s →
      a.md.toNat % 4 = 2 →
      Goes (.sortMov a) s (fun t => (fldMode a.xf ≠ 3 → (t.plt a.plt).word false (dataAddr (s.plt a.plt) false a.xf) = BitVec.ofInt 24 ((readC a s).1)) ∧
        WordOnly s t a (fldMode a.xf != 3) false)) ∧
  (∀ (s : State) (a : Srt),
      Issued 0x11 a s →
      a.md.toNat % 4 = 3 →
      Goes (.sortMov a) s (fun t => (fldMode a.yf ≠ 3 → (t.plt a.plt).word true (dataAddr (s.plt a.plt) true a.yf) = BitVec.ofInt 24 ((readC a s).1)) ∧
        WordOnly s t a false (fldMode a.yf != 3))) ∧
  (∀ (s : State) (a : Srt),
      Issued 0x12 (a) s →
      Goes (.sortPset a) s (fun t => ((t.plt a.plt).ptrOf (a.md.toNat % 8) = (let q := (s.plt a.plt).ptrOf (a.md.toNat % 8); if a.xf.getLsbD 15 then { q with p := a.xf.toNat % 2 ^ 14, b := a.xf.toNat % 2 ^ 14 } else q)) ∧
        ((t.plt a.plt).ptrOf (8 + a.md.toNat % 8) = (let q := (s.plt a.plt).ptrOf (8 + a.md.toNat % 8); if a.yf.getLsbD 15 then { q with p := a.yf.toNat % 2 ^ 14, b := a.yf.toNat % 2 ^ 14 } else q)) ∧
        ((t.plt a.plt).ptrOf (16 + a.md.toNat % 8) = (let q := (s.plt a.plt).ptrOf (16 + a.md.toNat % 8); if a.cf.getLsbD 13 then { q with p := a.cf.toNat % 2 ^ 13, b := a.cf.toNat % 2 ^ 13 } else q)) ∧
        (∀ j : Fin 24, j.val % 8 ≠ a.md.toNat % 8 → (t.plt a.plt).ptrOf j = (s.plt a.plt).ptrOf j) ∧
        t = { s with plts := t.plts } ∧
        (∀ m : Fin 5, m ≠ a.plt → t.plt m = s.plt m) ∧
        t.plt a.plt = { s.plt a.plt with ptr := (t.plt a.plt).ptr, pos := a.idx.toNat + 1 })) ∧
  (∀ (s : State) (a : Srt),
      Issued 0x13 ({ a with md := a.md &&& 7#4 }) s →
      Goes (.pmodStride a) s (fun t => ((t.plt a.plt).ptrOf (a.md.toNat % 8) = (let q := (s.plt a.plt).ptrOf (a.md.toNat % 8); if a.xf.getLsbD 15 then { q with s := sgn 8 a.xf.toNat } else q)) ∧
        ((t.plt a.plt).ptrOf (8 + a.md.toNat % 8) = (let q := (s.plt a.plt).ptrOf (8 + a.md.toNat % 8); if a.yf.getLsbD 15 then { q with s := sgn 8 a.yf.toNat } else q)) ∧
        ((t.plt a.plt).ptrOf (16 + a.md.toNat % 8) = (let q := (s.plt a.plt).ptrOf (16 + a.md.toNat % 8); if a.cf.getLsbD 13 then { q with s := sgn 8 a.cf.toNat } else q)) ∧
        (∀ j : Fin 24, j.val % 8 ≠ a.md.toNat % 8 → (t.plt a.plt).ptrOf j = (s.plt a.plt).ptrOf j) ∧
        t = { s with plts := t.plts } ∧
        (∀ m : Fin 5, m ≠ a.plt → t.plt m = s.plt m) ∧
        t.plt a.plt = { s.plt a.plt with ptr := (t.plt a.plt).ptr, pos := a.idx.toNat + 1 })) ∧
  (∀ (s : State) (a : Srt),
      Issued 0x13 ({ a with md := a.md ||| 8#4 }) s →
      Goes (.pmodModulo a) s (fun t => ((t.plt a.plt).ptrOf (a.md.toNat % 8) = (let q := (s.plt a.plt).ptrOf (a.md.toNat % 8); if a.xf.getLsbD 15 then { q with m := a.xf.toNat % 2 ^ 14 } else q)) ∧
        ((t.plt a.plt).ptrOf (8 + a.md.toNat % 8) = (let q := (s.plt a.plt).ptrOf (8 + a.md.toNat % 8); if a.yf.getLsbD 15 then { q with m := a.yf.toNat % 2 ^ 14 } else q)) ∧
        ((t.plt a.plt).ptrOf (16 + a.md.toNat % 8) = (let q := (s.plt a.plt).ptrOf (16 + a.md.toNat % 8); if a.cf.getLsbD 13 then { q with m := a.cf.toNat % 2 ^ 13 } else q)) ∧
        (∀ j : Fin 24, j.val % 8 ≠ a.md.toNat % 8 → (t.plt a.plt).ptrOf j = (s.plt a.plt).ptrOf j) ∧
        t = { s with plts := t.plts } ∧
        (∀ m : Fin 5, m ≠ a.plt → t.plt m = s.plt m) ∧
        t.plt a.plt = { s.plt a.plt with ptr := (t.plt a.plt).ptr, pos := a.idx.toNat + 1 })) ∧
  (∀ (s : State) (a : Srt),
      Issued 1 { a with md := a.md ||| 3#4 } s →
      Goes (.macDual a) s (fun t => PtrsBy s t a true true true)) ∧
  (∀ (s : State) (a : Srt),
      Issued 0x02 a s →
      Goes (.sortLda a) s (fun t => PtrsBy s t a (a.md.toNat % 4 == 0) (a.md.toNat % 4 == 1) (a.md.toNat % 4 == 2))) ∧
  (∀ (s : State) (a : Srt),
      Issued 9 a s →
      Goes (.sortLim a) s (fun t => PtrsBy s t a true true false)) ∧
  (∀ (s : State) (a : Srt),
      Issued 0x10 a s →
      Goes (.sortStxy a) s (fun t => PtrsBy s t a true true false)) ∧
  (∀ (s : State) (a : Srt),
      Issued 0x11 a s →
      Goes (.sortMov a) s (fun t => PtrsBy s t a (a.md.toNat % 4 != 3) (a.md.toNat % 4 != 2) (decide (2 ≤ a.md.toNat % 4))))

/-- NOP, REP, REPB, SEV, BEXP and END, and sorts whose encoding is not used or whose section is off. For the sort that
the sequencer issues next, which then goes on past it and past what it repeats: NOP changes nothing else; REP performs
the next entry of the active bank XF[11:0] + 1 times, REPB a block of MOD[2:0] + 1 entries as often, shortened with
BADSORT to the entries up to index 8191; a SEV with XF[8] 1, or whose condition holds, raises the platen event
XF[7:0], and one whose condition fails changes nothing; BEXP CLEAR sets the detector to 23, FEED lowers it to the
redundant sign bits of X, LATCH moves it to BE and sets it to 23; END marks the forme as ended and changes nothing
else. With no memory error: a sort of R85 but UNA, PMOD, BEXP, REP, REPB and END that comes next and whose encoding is
not used sets PLT.STATUS.BADSORT, whatever its section, and the sequencer goes on; so does every other word of the
bank whose encoding is not used, which executes as NOP; a sort whose encoding is used, in a section that is scheduled
and not enabled, changes nothing but the sequencer's place; a sort whose fetch finds an uncorrectable error is a NOP
with UE and its offset; a command that is not the sort that comes next changes nothing (the model's own answer to such
a command, log entry 63). -/
def Obligations.SortsControl : Prop :=
  (∀ (s : State) (a : Srt),
      Issued 0x00 a s →
      Goes (.sortNop a) s (fun t => t = seqTo a.plt (a.idx.toNat + 1) s)) ∧
  (∀ (s : State) (a : Srt),
      Issued 0x14 a s →
      a.idx.toNat < 8191 →
      (decodeSort a.plt (a.idx + 1) [] (SMap.get endWord (s.plt a.plt).act.sorts (a.idx.toNat + 1))).1 ∉ [0x14, 0x15, 0x3F] →
      Goes (.sortRep a) s (fun t => t = (let d := decodeSort a.plt (a.idx + 1) [] (SMap.get endWord (s.plt a.plt).act.sorts (a.idx.toNat + 1)); seqTo a.plt (a.idx.toNat + 2) (Nat.repeat (perform true d.1 false (sortBody d.1 d.2) d.2) (a.xf.toNat % 2 ^ 12 + 1) s)))) ∧
  (∀ (s : State) (a : Srt),
      Issued 0x15 a s →
      a.idx.toNat + a.md.toNat % 8 + 1 ≤ 8191 →
      Goes (.sortRepb a) s (fun t => t = seqTo a.plt (a.idx.toNat + a.md.toNat % 8 + 2) (Nat.repeat (repPass true a (a.idx.toNat + 1) (a.md.toNat % 8 + 1)) (a.xf.toNat % 2 ^ 12 + 1) s))) ∧
  (∀ (s : State) (a : Srt),
      Issued 0x14 a s →
      a.idx.toNat = 8191 →
      Goes (.sortRep a) s (fun t => t = seqTo a.plt 8192 (raiseFlag s F.PLT_STATUS_BADSORT a.plt))) ∧
  (∀ (s : State) (a : Srt),
      Issued 0x15 a s →
      8191 < a.idx.toNat + a.md.toNat % 8 + 1 →
      Goes (.sortRepb a) s (fun t => t = seqTo a.plt 8192 (Nat.repeat (repPass true a (a.idx.toNat + 1) (8191 - a.idx.toNat)) (a.xf.toNat % 2 ^ 12 + 1) (raiseFlag s F.PLT_STATUS_BADSORT a.plt)))) ∧
  (∀ (s : State) (a : Srt),
      Issued 0x18 a s →
      (a.xf.getLsbD 8 = true ∨ condHolds a s = true) →
      Goes (.sortSev a) s (fun t => t.mmq = s.mmq ++ [⟨blkPLT, a.xf.toNat % 256, a.plt, lns s⟩] ∧
        t = { seqTo a.plt (a.idx.toNat + 1) s with evt := t.evt, mmq := t.mmq, trigq := t.trigq, trk := t.trk, regs := t.regs, hwCyc := t.hwCyc, hwBits := t.hwBits, out := t.out, free := t.free } ∧
        RegsKept s t commonReg)) ∧
  (∀ (s : State) (a : Srt),
      Issued 0x18 a s →
      a.xf.getLsbD 8 = false →
      condHolds a s = false →
      Goes (.sortSev a) s (fun t => t = seqTo a.plt (a.idx.toNat + 1) s)) ∧
  (∀ (s : State) (a : Srt),
      Issued 0x16 { a with md := 0#4 } s →
      Goes (.bexpClear a) s (fun t => t = seqTo a.plt (a.idx.toNat + 1) (modPlt s a.plt (fun p => { p with det := 23 })))) ∧
  (∀ (s : State) (a : Srt),
      Issued 0x16 { a with md := 1#4 } s →
      Goes (.bexpFeed a) s (fun t => (t.plt a.plt).det = min (s.plt a.plt).det (redundant (BitVec.ofInt 24 (readXY false a s).1)) ∧
        t = { s with plts := t.plts } ∧
        (∀ m : Fin 5, m ≠ a.plt → t.plt m = s.plt m) ∧
        t.plt a.plt = { s.plt a.plt with ptr := (t.plt a.plt).ptr, det := (t.plt a.plt).det, pos := a.idx.toNat + 1 })) ∧
  (∀ (s : State) (a : Srt),
      Issued 0x16 { a with md := 3#4 } s →
      Goes (.bexpLatch a) s (fun t => t = seqTo a.plt (a.idx.toNat + 1) (modPlt s a.plt (fun p => { p with be := p.det, det := 23 })))) ∧
  (∀ (s : State) (a : Srt),
      seqLive s a.plt = true →
      nextSort s a.plt = a.idx.toNat →
      sortOp (SMap.get endWord (s.plt a.plt).act.sorts a.idx.toNat) = 0x3F →
      Goes (.sortEnd a) s (fun t => t = modPlt s a.plt (fun p => { p with ended := true }))) ∧
  (∀ (s : State) (a : Srt) (k : Fin 20),
      a.errs = [] →
      isNext (plainSorts.getD k (0, Instr.sortNop)).1 a s = true →
      sortNotUsed (plainSorts.getD k (0, Instr.sortNop)).1 a = true →
      Goes ((plainSorts.getD k (0, Instr.sortNop)).2 a) s (fun t => t = seqTo a.plt (a.idx.toNat + 1) (raiseFlag s F.PLT_STATUS_BADSORT a.plt))) ∧
  (∀ (s : State) (a : Srt) (w : W64),
      a.errs = [] →
      seqLive s a.plt = true →
      nextSort s a.plt = a.idx.toNat →
      SMap.get endWord (s.plt a.plt).act.sorts a.idx.toNat = w →
      sortNotUsed (decodeSort a.plt a.idx [] w).1 (decodeSort a.plt a.idx [] w).2 = true →
      (decodeSort a.plt a.idx [] w).1 ∉ [0x14, 0x15, 0x3F] →
      Goes (.sortNop a) s (fun t => t = seqTo a.plt (a.idx.toNat + 1) (raiseFlag s F.PLT_STATUS_BADSORT a.plt))) ∧
  (∀ (s : State) (a : Srt) (k : Fin 20),
      a.errs = [] →
      isNext (plainSorts.getD k (0, Instr.sortNop)).1 a s = true →
      sortNotUsed (plainSorts.getD k (0, Instr.sortNop)).1 a = false →
      secOn s a.plt a.sec.toNat = false →
      Goes ((plainSorts.getD k (0, Instr.sortNop)).2 a) s (fun t => t = seqTo a.plt (a.idx.toNat + 1) s)) ∧
  (∀ (s : State) (a : Srt) (k : Fin 20),
      a.errs = [⟨a.plt, sortOff a.idx.toNat, .multi⟩] →
      isNext (plainSorts.getD k (0, Instr.sortNop)).1 a s = true →
      Goes ((plainSorts.getD k (0, Instr.sortNop)).2 a) s (fun t => fget t F.PLT_STATUS_UE a.plt = 1 ∧
        fget t F.PLT_UE_ADDR_OFFSET a.plt = sortOff a.idx.toNat ∧
        t.plts = (seqTo a.plt (a.idx.toNat + 1) s).plts ∧
        t.mem = s.mem)) ∧
  (∀ (s : State) (a : Srt) (k : Fin 20),
      k ≠ 0 →
      isNext (plainSorts.getD k (0, Instr.sortNop)).1 a s = false →
      Goes ((plainSorts.getD k (0, Instr.sortNop)).2 a) s (fun t => t = s))

/-- Comparators and monitors of the current inputs set and clear their bits. With PD_FBK on and the channel live,
CNT_TRIP consecutive evaluations of |i2| at or above TH_TRIP set the OCT bit of a phase and as many below it clear it;
a warning that was not live sets, after CNT_WARN evaluations at or above TH_WARN, WARN_LIVE and WARN and raises event
0x01, and CNT_WARN evaluations below it clear WARN_LIVE alone; 128 modulator periods without a transition set the live
bit and STATUS.STUCK, and its next transition clears the live bit alone; once 3·OSR3 modulator periods have passed the
end of settling clears SETTLE; a conversion start at a multiple of 1,000 ns of LNS has the enabled AIN channels
sample, and 900 ns later the result, floor(V × 65,536 / 3.0 V) held at 65,535 for the input voltage V, given in µV,
becomes the last result and joins the sum. Memory and platens keep their contents. In a clause that names or bounds
the registers it writes, every other register keeps its value. -/
def Obligations.CurrentInputs : Prop :=
  (∀ (s : State) (t0 : Nat) (c : Fin 48) (p : Fin 3) (bits : List Bool),
      sdmLive s c = true →
      tripRun s c p true bits = true →
      Goes (.ocTripAssert t0 c p bits) s (fun t => fbit t F.SDM_STATUS_OCT p c = true ∧
        t.plts = s.plts ∧ t.mem = s.mem ∧
        (RegsKept s t (fun a => commonReg a || a == R.SDM_STATUS.at c || within 0x40000 0x50000 a)))) ∧
  (∀ (s : State) (t0 : Nat) (c : Fin 48) (p : Fin 3) (bits : List Bool),
      sdmLive s c = true →
      tripRun s c p false bits = true →
      Goes (.ocTripDeassert t0 c p bits) s (fun t => fbit t F.SDM_STATUS_OCT p c = false ∧
        t.plts = s.plts ∧ t.mem = s.mem ∧
        (RegsKept s t (fun a => commonReg a || a == R.SDM_STATUS.at c || within 0x40000 0x50000 a)))) ∧
  (∀ (s : State) (t0 : Nat) (c : Fin 48) (p : Fin 3) (bits : List Bool),
      sdmLive s c = true →
      fbit s F.SDM_STATUS_WARN_LIVE p c = false →
      warnRun s c p true bits = true →
      Goes (.warnRise t0 c p bits) s (fun t => fbit t F.SDM_STATUS_WARN_LIVE p c = true ∧ fbit t F.SDM_STATUS_WARN p c = true ∧
        ((t.mmq.getLast?).map (fun e => (e.block, e.code, e.inst)) = some (blkSDM, 1, c.val)) ∧
        (RegsKept s t (fun a => a == R.SDM_STATUS.at c || commonReg a)) ∧
        t.plts = s.plts ∧ t.mem = s.mem)) ∧
  (∀ (s : State) (t0 : Nat) (c : Fin 48) (p : Fin 3) (bits : List Bool),
      sdmLive s c = true →
      warnRun s c p false bits = true →
      Goes (.warnFall t0 c p bits) s (fun t => fbit t F.SDM_STATUS_WARN_LIVE p c = false ∧
        fbit t F.SDM_STATUS_WARN p c = fbit s F.SDM_STATUS_WARN p c ∧
        t = { s with regs := t.regs, tim := t.tim } ∧
        (RegsKept s t (fun a => a == R.SDM_STATUS.at c)))) ∧
  (∀ (s : State) (t0 : Nat) (c : Fin 48) (p : Fin 3) (bits : List Bool),
      sdmLive s c = true →
      (nget s.stuck c).testBit p = false →
      isStuck bits = true →
      Goes (.sdmStuck t0 c p bits) s (fun t => (nget t.stuck c).testBit p = true ∧ fbit t F.SDM_STATUS_STUCK p c = true ∧
        ((t.mmq.getLast?).map (fun e => (e.block, e.code, e.inst)) = some (blkSDM, 2, c.val)) ∧
        (RegsKept s t (fun a => a == R.SDM_STATUS.at c || commonReg a)) ∧
        t.plts = s.plts ∧ t.mem = s.mem)) ∧
  (∀ (s : State) (t0 : Nat) (c : Fin 48) (p : Fin 3) (b1 : Bool) (b2 : Bool),
      sdmLive s c = true →
      b1 ≠ b2 →
      Goes (.stuckClear t0 c p b1 b2) s (fun t => (nget t.stuck c).testBit p = false ∧
        t = { s with stuck := t.stuck, tim := t.tim })) ∧
  (∀ (s : State) (t0 : Nat) (c : Fin 48),
      domainOn s 7 = true →
      nget s.settle c + settleTime s c ≤ clk (advance t0 s) + 1 →
      Goes (.settleEnd t0 c) s (fun t => fget t F.SDM_STATUS_SETTLE c = 0 ∧
        t = { s with regs := t.regs, tim := t.tim, sys := t.sys } ∧
        (s.sys.st ≠ .takeover → t.sys = s.sys) ∧
        (RegsKept s t (fun a => a == R.SDM_STATUS.at c)))) ∧
  (∀ (s : State) (t0 : Nat),
      domainOn s 7 = true →
      lns (advance t0 s) % 1000 = 0 →
      Goes (.ainConversionStart t0) s (fun t => (∀ k : Fin 16, flag s F.SDM_AIN_CFG_EN k = true → (SMap.get (fun _ => AinS.init) t.ain k).conv = some (clk (advance t0 s))) ∧
        (∀ k : Fin 16, flag s F.SDM_AIN_CFG_EN k = false → SMap.get (fun _ => AinS.init) t.ain k = SMap.get (fun _ => AinS.init) s.ain k) ∧
        t.ainStart = (s.ainStart.1 + 1, fine (advance t0 s)) ∧
        t = { s with ain := t.ain, ainStart := t.ainStart, tim := t.tim })) ∧
  (∀ (s : State) (t0 : Nat) (k : Fin 16) (v : Nat) (b : Nat),
      domainOn s 7 = true →
      ((SMap.get (fun _ => AinS.init) s.ain k).conv = some b) →
      b + 230400 ≤ clk (advance t0 s) →
      Goes (.ainResult t0 k v) s (fun t => ((SMap.get (fun _ => AinS.init) t.ain k).last = min (v * 65536 / 3000000) 65535) ∧
        ((SMap.get (fun _ => AinS.init) t.ain k).sum = (SMap.get (fun _ => AinS.init) s.ain k).sum + min (v * 65536 / 3000000) 65535) ∧
        ((SMap.get (fun _ => AinS.init) t.ain k).n = (SMap.get (fun _ => AinS.init) s.ain k).n + 1) ∧
        t = { s with ain := t.ain, tim := t.tim }))

/-- Reloads, compare events, the interlock and host sets of the edge engine. With PD_EDG on: a reload, in the lock
interval to which the present impression belongs, advances its period count and becomes its reload instant; a compare
that is reached, in a channel whose active set holds it and its opposite apart, and whose pulse is not below MINPW,
puts its output's compare level where the event puts it; when DTIME has passed, an output that is wanted alone since
the partner turned off comes on; a mask change that has waited MDLY becomes the index; SHD.GO of an unbound channel
completes the set of the shadow registers, the newest in the queue, and on a bound one is dropped with nothing
completed. Memory and platens keep their contents. In a clause that names or bounds the registers it writes, every
other register keeps its value. -/
def Obligations.EdgeReloadsAndCompares : Prop :=
  (∀ (s : State) (t0 : Nat) (c : Fin 48),
      domainOn s 6 = true →
      lockNow s c = some ((s.ch c).q / lockK s c) →
      Goes (.carrierReload t0 c) s (fun t => (t.ch c).q = (s.ch c).q + 1 ∧
        (t.ch c).reload = clk (advance t0 s) ∧
        t.plts = s.plts ∧ t.mem = s.mem ∧
        (RegsKept s t (fun a => commonReg a || within 0x40000 0x50000 a)))) ∧
  (∀ (s : State) (t0 : Nat) (c : Fin 48) (j : Fin 12),
      domainOn s 6 = true →
      compareReached s c j = true →
      (s.ch c).active[j.val]? ≠ (s.ch c).active[opposite j]? →
      (∀ d, undoAfter (advance t0 s) c j = some d → 64 * fget s F.EDG_DT_MINPW c ≤ d) →
      Goes (.compareFire t0 c j) s (fun t => (t.ch c).lvl.testBit (j / 2) = (j.val % 2 == 0) ∧
        t.plts = s.plts ∧ t.mem = s.mem ∧
        (RegsKept s t (fun a => commonReg a || within 0x40000 0x50000 a)))) ∧
  (∀ (s : State) (t0 : Nat) (c : Fin 48) (o : Fin 6),
      domainOn s 6 = true →
      wanted s c o = true →
      wanted s c (partner o) = false →
      (s.ch c).want = 2 ^ o.val →
      (s.ch c).drv = 0 →
      (s.ch c).entry = maskNow s c →
      maskIndex s c = (s.ch c).mpend.getD (s.ch c).midx →
      (nget (s.ch c).offAt (partner o) = 0 ∨ nget (s.ch c).offAt (partner o) - 1 + 10 * fget s F.EDG_DT_DTIME c ≤ clk (advance t0 s)) →
      forced s c = false →
      Goes (.interlockTurnOn t0 c) s (fun t => (t.ch c).drv.testBit o = true ∧
        t.plts = s.plts ∧ t.mem = s.mem ∧
        (RegsKept s t (fun a => commonReg a || within 0x40000 0x50000 a)))) ∧
  (∀ (s : State) (t0 : Nat) (c : Fin 48) (i : Nat),
      domainOn s 6 = true →
      (s.ch c).mpend = some i →
      (s.ch c).mAt + 5120 * fget s F.EDG_MDLY_DLY c ≤ clk (advance t0 s) →
      maskIndex s c = i →
      Goes (.maskApply t0 c) s (fun t => (t.ch c).midx = i ∧
        (t.ch c).mpend = none ∧
        t.plts = s.plts ∧ t.mem = s.mem ∧
        (RegsKept s t (fun a => commonReg a || within 0x40000 0x50000 a)))) ∧
  (∀ (s : State) (h : Via) (c : Fin 48),
      HostOn s (R.EDG_SHD_GO.at c) →
      fget s F.SDM_CFG_PLATEN c = 7 →
      Goes (.shdGo h c) s (fun t => (((t.ch c).sets.getLast?).map (·.2) = some ((List.range 12).map (fun j => fget s F.EDG_SHD_VAL c j))) ∧
        (RegsKept s t (fun a => a == R.EDG_CST.at c)) ∧
        t.plts = s.plts ∧ t.mem = s.mem)) ∧
  (∀ (s : State) (h : Via) (c : Fin 48),
      HostOn s (R.EDG_SHD_GO.at c) →
      fget s F.SDM_CFG_PLATEN c ≠ 7 →
      Goes (.shdGo h c) s (fun t => t.edg = s.edg ∧
        fget t F.SYS_HOST_DROP_COUNT = min (fget s F.SYS_HOST_DROP_COUNT + 1) 65535 ∧
        t.plts = s.plts ∧ t.mem = s.mem ∧
        RegsKept s t commonReg))

/-- Calibration, auxiliary timers, trip inputs and the clears of their latches. With PD_EDG on: a calibration pass
sets CAL_VALID, counts itself, takes RESID, and sends a channel whose replica failed to the coarse grid at its next
reload; an enabled auxiliary timer that does not wait takes its level at a value within the period of its reference,
OFF winning on equal values; an enabled trip input with its ball sets its live bit, and clears it when it ends; XLATCH
and TLATCH clears end the latch of a source that is not asserted, unless hardware sets it in the same SYS cycle, and
leave an asserted one latched with the refusal flag set. Memory and platens keep their contents. In a clause that
names or bounds the registers it writes, every other register keeps its value. -/
def Obligations.EdgeTripsAndTimers : Prop :=
  (∀ (s : State) (t0 : Nat) (r : BitVec 8) (taps : List (Option Nat)),
      domainOn s 6 = true →
      Goes (.calibrationPass t0 r taps) s (fun t => fget t F.EDG_CAL_RESID = r.toNat ∧
        fget t F.EDG_CAL_PASSES = (fget s F.EDG_CAL_PASSES + 1) % 2 ^ F.EDG_CAL_PASSES.width ∧
        fget t F.EDG_STATUS_CAL_VALID = 1 ∧
        (∀ c : Fin 48, (t.ch c).coarseNext = (taps.getD c none).isNone) ∧
        (RegsKept s t (fun a => within 0x40000 0x50000 a || commonReg a)) ∧
        t.plts = s.plts ∧ t.mem = s.mem)) ∧
  (∀ (s : State) (t0 : Nat) (a : Fin 16) (on : Bool),
      domainOn s 6 = true →
      flag s F.EDG_AUX_EN a = true →
      ((SMap.get (fun _ => AuxS.init) s.aux a).wait = false) →
      (¬ (on = true ∧ (SMap.get (fun _ => AuxS.init) s.aux a).on = (SMap.get (fun _ => AuxS.init) s.aux a).off)) →
      (auxWithin s (fget s F.EDG_AUX_CH a) (if on then (SMap.get (fun _ => AuxS.init) s.aux a).on else (SMap.get (fun _ => AuxS.init) s.aux a).off) = true) →
      Goes (.auxTimerFire t0 a on) s (fun t => auxLevel t a = on ∧
        t.plts = s.plts ∧ t.mem = s.mem ∧
        (RegsKept s t (fun a => commonReg a || within 0x40000 0x50000 a)))) ∧
  (∀ (s : State) (t0 : Nat) (x : Fin 24),
      domainOn s 6 = true →
      flag s F.EDG_TRIPX_EN x = true →
      hasBall s 7 x = true →
      Goes (.tripInputAssert t0 x) s (fun t => fbit t F.EDG_XLIVE_LIVE x = true ∧
        t.plts = s.plts ∧ t.mem = s.mem ∧
        (RegsKept s t (fun a => commonReg a || within 0x40000 0x50000 a)))) ∧
  (∀ (s : State) (t0 : Nat) (x : Fin 24),
      domainOn s 6 = true →
      Goes (.tripInputDeassert t0 x) s (fun t => fbit t F.EDG_XLIVE_LIVE x = false ∧
        t = { s with regs := t.regs, tim := t.tim } ∧
        (RegsKept s t (fun a => a == R.EDG_XLIVE.addr)))) ∧
  (∀ (s : State) (h : Via) (x : Fin 24),
      HostOn s R.EDG_XLATCH.addr →
      fbit s F.EDG_XLIVE_LIVE x = false →
      (justSet (advance h.t s) R.EDG_XLATCH.addr).getLsbD x = false →
      Goes (.xlatchClear h (1#32 <<< x.val)) s (fun t => fbit t F.EDG_XLATCH_LATCH x = false ∧
        t.plts = s.plts ∧ t.mem = s.mem ∧
        (RegsKept s t (fun a => commonReg a || within 0x40000 0x50000 a)))) ∧
  (∀ (s : State) (h : Via) (x : Fin 24),
      HostOn s R.EDG_XLATCH.addr →
      fbit s F.EDG_XLIVE_LIVE x = true →
      Goes (.xlatchClear h (1#32 <<< x.val)) s (fun t => (fbit s F.EDG_XLATCH_LATCH x = true → fbit t F.EDG_XLATCH_LATCH x = true) ∧
        fget t F.EDG_STATUS_XCLR_REFUSED = 1 ∧
        t.plts = s.plts ∧ t.mem = s.mem ∧
        (RegsKept s t (fun a => commonReg a || within 0x40000 0x50000 a)))) ∧
  (∀ (s : State) (h : Via) (c : Fin 48) (p : Fin 3),
      HostOn s (R.EDG_TLATCH.at c) →
      fbit s F.SDM_STATUS_OCT p c = false →
      (justSet (advance h.t s) (R.EDG_TLATCH.at c)).getLsbD (F.EDG_TLATCH_OC.lsb + p) = false →
      Goes (.tlatchClear h c (1#32 <<< p.val)) s (fun t => fbit t F.EDG_TLATCH_OC p c = false ∧
        t.plts = s.plts ∧ t.mem = s.mem ∧
        (RegsKept s t (fun a => commonReg a || within 0x40000 0x50000 a)))) ∧
  (∀ (s : State) (h : Via) (c : Fin 48) (p : Fin 3),
      HostOn s (R.EDG_TLATCH.at c) →
      fbit s F.SDM_STATUS_OCT p c = true →
      Goes (.tlatchClear h c (1#32 <<< p.val)) s (fun t => (fbit s F.EDG_TLATCH_OC p c = true → fbit t F.EDG_TLATCH_OC p c = true) ∧
        fget t F.EDG_CST_CLR_REFUSED c = 1 ∧
        t.plts = s.plts ∧ t.mem = s.mem ∧
        (RegsKept s t (fun a => commonReg a || within 0x40000 0x50000 a))))

/-- An impression boundary steps the mode machines, and at a servo-period boundary the motion unit. With no commit
due, a mode machine whose table has states moves by its lowest pending input that has a VALID transition, counts the
other such inputs in DISCARDED, and keeps its state when there is none; events that came less than 200 ns before the
boundary stay for the next. The enable mask of every control platen that is on then follows ALWAYS and the new states.
At a servo-period boundary with nothing but its own work: a pending profile command gets the CMDRES of R246's table in
RUN, WRONG_STATE outside RUN, but for STOP and ABORT of a running move; accord and path commands are refused outside
RUN; outside RUN a set-point of a mover has no speed; a move whose plan ends within the servo period stands at its
target, IDLE with OUTCOME DONE and its event, and one that does not end moves along its plan; the slave of a GEAR
accord in SYNC that has caught up stands at S0 + (M - M0) NUM / DEN; a path in a DWELL that is not over stays where it
is. The numbers in which R244's plan is kept are the model's (log entry 15). -/
def Obligations.BoundarySteps : Prop :=
  (∀ (s : State) (t0 : Nat) (y3 : List (List Bool)) (scrub : List PltErr) (m : Fin 64) (e : Fin 8),
      s.sys.running = true →
      s.quo.pending = none →
      s.quo.implicit = [] →
      (s.mm m).st < mmStates s m →
      MmPends s (max s.tim.acc (t0 * 2 ^ 18) / 2 ^ 26) m e →
      (∀ k : Fin 8, k.val < e.val → ¬ MmPends s (max s.tim.acc (t0 * 2 ^ 18) / 2 ^ 26) m k) →
      Goes (.impressionBoundary t0 y3 [] none none scrub) s (fun t => (t.mm m).st = tabByte s m (0x24 + 8 * (s.mm m).st + e) % 16 ∧
        (t.mm m).lastEv = e.val ∧ (t.mm m).stepped = true ∧ (t.mm m).tab = (s.mm m).tab ∧
        (fget t F.SYS_MM_STATE_DISCARDED m = min (fget s F.SYS_MM_STATE_DISCARDED m + ((List.range 8).filter (fun k => decide (e.val < k) && decide (MmPends s (max s.tim.acc (t0 * 2 ^ 18) / 2 ^ 26) m k))).length) (2 ^ F.SYS_MM_STATE_DISCARDED.width - 1)))) ∧
  (∀ (s : State) (t0 : Nat) (y3 : List (List Bool)) (scrub : List PltErr) (m : Fin 64),
      s.sys.running = true →
      s.quo.pending = none →
      s.quo.implicit = [] →
      (s.mm m).st < mmStates s m →
      (∀ k : Fin 8, ¬ MmPends s (max s.tim.acc (t0 * 2 ^ 18) / 2 ^ 26) m k) →
      Goes (.impressionBoundary t0 y3 [] none none scrub) s (fun t => t.mm m = { s.mm m with stepped := false } ∧
        (∀ v ∈ s.mmq, v.at_ + 200 ≤ max s.tim.acc (t0 * 2 ^ 18) / 2 ^ 26 ∨ v ∈ t.mmq))) ∧
  (∀ (s : State) (t0 : Nat) (y3 : List (List Bool)) (errs : List MemErr) (scrub : List PltErr) (p : Fin 4),
      s.sys.running = true →
      domainOn s (2 + p) = true →
      Goes (.impressionBoundary t0 y3 errs none none scrub) s (fun t => (∀ i : Fin 64, (t.plt p).mask.getLsbD i = ((SMap.get (fun _ => (0#64 : W64)) (t.plt p).act.sec i).getLsbD 6 || (SMap.get (fun _ => (0#64 : W64)) (t.plt p).act.sec i).getLsbD (32 + (t.mm ((SMap.get (fun _ => (0#64 : W64)) (t.plt p).act.sec i).toNat % 64)).st))) ∧
        (t.plt p).phi = t.sys.imp % ((t.plt p).act.phasesM1 + 1))) ∧
  (∀ (s : State) (t0 : Nat) (y3 : List (List Bool)) (scrub : List PltErr) (m : Fin 32) (c : MCmd),
      PlainBoundary s →
      ServoNext s →
      NoLawCmd s →
      s.sys.st = .run →
      (s.prf m).pend = some c →
      c.skip = 0 ∧ 1 ≤ c.code ∧ c.code ≤ 6 →
      fget s F.PRF_STATE_STATE m ≤ 6 →
      ¬ (fget s F.PRF_STATE_STATE m = 1 ∧ 5 ≤ c.code) →
      Goes (.impressionBoundary t0 y3 [] none none scrub) s (fun t => fget t F.PRF_STATE_CMDRES m = cmdResult (fget s F.PRF_VMAX_VAL m == 0 || fget s F.PRF_AMAX_VAL m == 0 || fget s F.PRF_DMAX_VAL m == 0 || fget s F.PRF_JMAX_VAL m == 0) (fget s F.PRF_STATE_STATE m) c.code)) ∧
  (∀ (s : State) (t0 : Nat) (y3 : List (List Bool)) (scrub : List PltErr) (m : Fin 32) (c : MCmd),
      PlainBoundary s →
      ServoNext s →
      s.sys.st ≠ .run →
      (s.prf m).pend = some c →
      c.skip = 0 ∧ 1 ≤ c.code ∧ c.code ≤ 6 →
      Goes (.impressionBoundary t0 y3 [] none none scrub) s (fun t => fget t F.PRF_STATE_CMDRES m = 3 ∧
        (fget s F.MOV_CFG_TYPE m ≠ 0 → (t.prf m).sp.v = 0 ∧ (t.prf m).sp.a = 0))) ∧
  (∀ (s : State) (t0 : Nat) (y3 : List (List Bool)) (scrub : List PltErr) (a : Fin 16) (g : Fin 8) (c : MCmd) (d : MCmd),
      PlainBoundary s →
      ServoNext s →
      s.sys.st ≠ .run →
      (s.acd a).pend = some c ∧ (s.pth g).pend = some d →
      c.skip = 0 ∧ d.skip = 0 →
      Goes (.impressionBoundary t0 y3 [] none none scrub) s (fun t => fget t F.ACD_STATUS_REFUSED a = 1 ∧ fget t F.PTH_STATUS_REFUSED g = 1 ∧
        fget t F.ACD_STATUS_STATE a = fget s F.ACD_STATUS_STATE a ∧ fget t F.PTH_STATUS_STATE g = fget s F.PTH_STATUS_STATE g ∧
        (t.acd a).pend = none ∧ (t.pth g).pend = none)) ∧
  (∀ (s : State) (t0 : Nat) (y3 : List (List Bool)) (scrub : List PltErr) (m : Fin 32),
      PlainBoundary s →
      ServoNext s →
      OnlyAccords s [] →
      s.sys.st = .run →
      fget s F.PRF_STATE_STATE m = 1 →
      (fget s F.MOV_CFG_TYPE m = 0 ∨ fget s F.PRF_VMAX_VAL m ≤ fget s F.MOV_FB_VMAX_VAL m) →
      (s.prf m).lims = unitLims s m 1 false →
      (s.prf m).endless = false →
      segsLen (s.prf m).segs ≤ nsT ((s.prf m).el + servoNs s) →
      Goes (.impressionBoundary t0 y3 [] none none scrub) s (fun t => fget t F.PRF_STATE_STATE m = 0 ∧ fget t F.PRF_STATE_OUTCOME m = 1 ∧ fget t F.PRF_REMAIN_VAL m = 0 ∧
        (t.prf m).sp = ⟨(s.prf m).goal, 0, 0⟩ ∧
        (∃ e ∈ t.mmq, e.block = blkPRF ∧ e.code = 1 ∧ e.inst = m.val) ∧
        (fget s F.MOV_CFG_TYPE m ≠ 0 → fget t F.PRF_SP_L_VAL m = unsgn 32 (spFix ⟨(s.prf m).goal, 0, 0⟩) ∧ fget t F.PRF_SPV_VAL m = 0))) ∧
  (∀ (s : State) (t0 : Nat) (y3 : List (List Bool)) (scrub : List PltErr) (m : Fin 32),
      PlainBoundary s →
      ServoNext s →
      OnlyAccords s [] →
      s.sys.st = .run →
      fget s F.PRF_STATE_STATE m = 1 →
      (fget s F.MOV_CFG_TYPE m = 0 ∨ fget s F.PRF_VMAX_VAL m ≤ fget s F.MOV_FB_VMAX_VAL m) →
      (s.prf m).lims = unitLims s m 1 false →
      (s.prf m).endless = false →
      nsT ((s.prf m).el + servoNs s) < segsLen (s.prf m).segs →
      Goes (.impressionBoundary t0 y3 [] none none scrub) s (fun t => fget t F.PRF_STATE_STATE m = 1 ∧
        (t.prf m).sp = (s.prf m).base.along (s.prf m).segs (nsT ((s.prf m).el + servoNs s)) ∧
        (t.prf m).el = (s.prf m).el + servoNs s ∧ (t.prf m).segs = (s.prf m).segs ∧ (t.prf m).goal = (s.prf m).goal)) ∧
  (∀ (s : State) (t0 : Nat) (y3 : List (List Bool)) (scrub : List PltErr) (a : Fin 16) (m : Fin 32),
      PlainBoundary s →
      ServoNext s →
      OnlyAccords s [a.val] →
      s.sys.st = .run →
      fget s F.ACD_STATUS_STATE a = 3 →
      (s.acd a).kind = 1 ∧ (s.acd a).mkind = 0 ∧ (s.acd a).master % 32 = m.val ∧ (s.acd a).slave ≠ m.val →
      fget s F.PRF_STATE_STATE m = 0 ∧ fget s F.PRF_STATE_STATE (s.acd a).slave = 5 →
      (s.acd a).num = rd s (R.ACD_NUM.at a) ∧ (s.acd a).den = rd s (R.ACD_DEN.at a) →
      (s.acd a).cDone = true ∧ (s.acd a).c = ⟨0, 0, 0⟩ →
      Goes (.impressionBoundary t0 y3 [] none none scrub) s (fun t => (t.prf (s.acd a).slave).sp.p = (s.acd a).s0 + ((s.prf m).sp.p - (s.acd a).m0) * (s.acd a).num.toInt / (max 1 (s.acd a).den.toNat : Int) ∧
        (t.prf (s.acd a).slave).sp.v = (s.prf m).sp.v * (s.acd a).num.toInt / (max 1 (s.acd a).den.toNat : Int) ∧
        fget t F.ACD_STATUS_STATE a = 3 ∧ fget t F.ACD_STATUS_LAG a = 0)) ∧
  (∀ (s : State) (t0 : Nat) (y3 : List (List Bool)) (scrub : List PltErr) (g : Fin 8) (y : PSeg) (r : List PSeg),
      PlainBoundary s →
      ServoNext s →
      NoLawCmd s →
      (∀ m : Fin 32, (s.prf m).pend = none) →
      s.sys.st = .run →
      fget s F.PTH_STATUS_STATE g = 1 →
      (s.pth g).buf = y :: r →
      y.ty = 3 ∧ (s.pth g).dwelt + servoNs s < y.dwell * 1000 →
      Goes (.impressionBoundary t0 y3 [] none none scrub) s (fun t => ((t.pth g).buf.head?.map (fun z => (z.ty, z.dwell, z.tag)) = some (3, y.dwell, y.tag) ∧ (t.pth g).k = (s.pth g).k ∧ (t.pth g).dwelt = (s.pth g).dwelt + servoNs s) ∧
        fget t F.PTH_STATUS_STATE g = 1))

/-- Edges of Hall triplets and encoders, SSI words, standstill and references. For a source in use: a Hall state
change between valid neighbouring states moves the position by one increment, forward or back by the table of R177 and
REV, held at the limits, and becomes the filtered state; an invalid state sets ERR and leaves the position. An encoder
edge to a neighbouring quadrature place counts one increment likewise and a jump over a place sets ERR and leaves the
position. An accepted Z edge in the direction that ZPOL makes active re-references an armed encoder to REF and disarms
it; of another encoder it notes the position. Only registers of FBK, EDG (for Hall) and the common ones change, and no
memory byte. For a source in use: an SSI read that is due (LEAD before an impression whose number is a multiple of
DIV) and starts with the line high is under way, one that starts with it low sets ERR; the first word of a channel,
without parity, trailing bit and Gray code, gives the position word plus offset, held at the limits, and ends the
read; standstill sets STILL and ends the speed estimate; LOST_CLEAR clears a LOST that is not set in the same SYS
cycle, and the error counter; REF_Z_ARM arms an encoder. Only registers of FBK and the common ones change, and no
memory byte. -/
def Obligations.PositionEdges : Prop :=
  (∀ (s : State) (t0 : Nat) (c : Fin 48) (l : BitVec 3) (st : Nat),
      srcOn s c = true →
      (s.source c).lines ≠ none →
      hallBad (fget s F.FBK_HALL_CFG_STATE c) = false →
      (hallNext (fget s F.FBK_HALL_CFG_STATE c) = hallState s c l.toNat ∨ hallNext (hallState s c l.toNat) = fget s F.FBK_HALL_CFG_STATE c) →
      hallBad (hallState s c l.toNat) = false →
      Goes (.hallStateChange t0 c l st) s (fun t => ((t.source c).pos = clampInt (srcLimits s c).1 (srcLimits s c).2 ((s.source c).pos + (if (hallNext (fget s F.FBK_HALL_CFG_STATE c) = hallState s c l.toNat) ↔ flag s F.FBK_HALL_CFG_REV c = true then -1 else 1))) ∧
        fget t F.FBK_HALL_CFG_STATE c = hallState s c l.toNat ∧
        (RegsKept s t (fun a => commonReg a || within 0x40000 0x60000 a)) ∧
        t.mem = s.mem)) ∧
  (∀ (s : State) (t0 : Nat) (c : Fin 48) (l : BitVec 3) (st : Nat),
      srcOn s c = true →
      (s.source c).lines ≠ none →
      hallBad (hallState s c l.toNat) = true →
      hallState s c l.toNat ≠ fget s F.FBK_HALL_CFG_STATE c →
      Goes (.hallStateChange t0 c l st) s (fun t => (t.source c).pos = (s.source c).pos ∧
        fget t F.FBK_HALL_STATUS_ERR c = 1 ∧ fget t F.FBK_HALL_STATUS_INVALID c = 1 ∧
        fget t F.FBK_HALL_CFG_STATE c = hallState s c l.toNat ∧
        (RegsKept s t (fun a => commonReg a || within 0x40000 0x60000 a)) ∧
        t.mem = s.mem)) ∧
  (∀ (s : State) (t0 : Nat) (e : Fin 16) (a : Bool) (b : Bool) (st : Nat) (o : Nat),
      srcOn s (64 + e) = true →
      (s.source (64 + e)).lines = some o →
      o < 4 →
      (quadPlace a b = (o + 1) % 4 ∨ o = (quadPlace a b + 1) % 4) →
      Goes (.encoderEdge t0 e a b st) s (fun t => ((t.source (64 + e)).pos = clampInt (srcLimits s (64 + e)).1 (srcLimits s (64 + e)).2 ((s.source (64 + e)).pos + (if quadPlace a b = (o + 1) % 4 ↔ flag s F.FBK_ENC_CFG_REV e = true then -1 else 1))) ∧
        (t.source (64 + e)).lines = some (quadPlace a b) ∧
        (RegsKept s t (fun a => commonReg a || within 0x50000 0x60000 a)) ∧
        t.mem = s.mem)) ∧
  (∀ (s : State) (t0 : Nat) (e : Fin 16) (a : Bool) (b : Bool) (st : Nat) (o : Nat),
      srcOn s (64 + e) = true →
      (s.source (64 + e)).lines = some o →
      o < 4 →
      quadPlace a b = (o + 2) % 4 →
      Goes (.encoderEdge t0 e a b st) s (fun t => (t.source (64 + e)).pos = (s.source (64 + e)).pos ∧
        fget t F.FBK_ENC_STATUS_ERR e = 1 ∧
        (RegsKept s t (fun a => commonReg a || within 0x50000 0x60000 a)) ∧
        t.mem = s.mem)) ∧
  (∀ (s : State) (t0 : Nat) (e : Fin 16) (st : Nat) (rise : Bool),
      srcOn s (64 + e) = true →
      rise ≠ flag s F.FBK_ENC_CFG_ZPOL e →
      flag s F.FBK_ENC_STATUS_REF_ARMED e = true →
      Goes (.zEdge t0 e rise st) s (fun t => (t.source (64 + e)).pos = clampInt (srcLimits s (64 + e)).1 (srcLimits s (64 + e)).2 (srcRef s (64 + e)) ∧
        flag t F.FBK_ENC_STATUS_REF_ARMED e = false ∧
        (RegsKept s t (fun a => commonReg a || within 0x50000 0x60000 a)) ∧
        t.mem = s.mem)) ∧
  (∀ (s : State) (t0 : Nat) (e : Fin 16) (st : Nat) (rise : Bool),
      srcOn s (64 + e) = true →
      rise ≠ flag s F.FBK_ENC_CFG_ZPOL e →
      flag s F.FBK_ENC_STATUS_REF_ARMED e = false →
      Goes (.zEdge t0 e rise st) s (fun t => (t.source (64 + e)).zLast = some (s.source (64 + e)).pos ∧
        (t.source (64 + e)).pos = (s.source (64 + e)).pos ∧
        (RegsKept s t (fun a => commonReg a || within 0x50000 0x60000 a)) ∧
        t.mem = s.mem)) ∧
  (∀ (s : State) (t0 : Nat) (k : Fin 8),
      srcOn s (96 + k) = true →
      ssiDue (advance t0 s) k = true →
      Goes (.ssiReadStart t0 k true) s (fun t => (t.source (96 + k)).read.isSome = true ∧
        (t.source (96 + k)).pos = (s.source (96 + k)).pos ∧
        t = { s with src := t.src, tim := t.tim })) ∧
  (∀ (s : State) (t0 : Nat) (k : Fin 8),
      srcOn s (96 + k) = true →
      ssiDue (advance t0 s) k = true →
      Goes (.ssiReadStart t0 k false) s (fun t => fget t F.FBK_SSI_STATUS_ERR k = 1 ∧
        (t.source (96 + k)).pos = (s.source (96 + k)).pos ∧
        (RegsKept s t (fun a => commonReg a || within 0x50000 0x60000 a)) ∧
        t.mem = s.mem)) ∧
  (∀ (s : State) (t0 : Nat) (k : Fin 8) (w : Nat),
      srcOn s (96 + k) = true →
      (s.source (96 + k)).read.isSome = true →
      (s.source (96 + k)).word = none →
      fget s F.FBK_SSI_CFG_PAR k = 0 →
      fget s F.FBK_SSI_CFG_ZCHK k = 0 →
      fget s F.FBK_SSI_CFG_GRAY k = 0 →
      fget s F.FBK_SSI_CFG_BITS k < 48 →
      Goes (.ssiWordComplete t0 k w) s (fun t => (t.source (96 + k)).pos = clampInt (srcLimits s (96 + k)).1 (srcLimits s (96 + k)).2 (((w % 2 ^ fget s F.FBK_SSI_CFG_BITS k : Nat) : Int) + (s.source (96 + k)).ofs) ∧
        (t.source (96 + k)).read = none ∧
        (RegsKept s t (fun a => commonReg a || within 0x50000 0x60000 a)) ∧
        t.mem = s.mem)) ∧
  (∀ (s : State) (t0 : Nat) (i : BitVec 7),
      srcOn s i.toNat = true →
      flag s F.FBK_HALL_STATUS_STILL i.toNat = false →
      ((if i.toNat < 96 then (s.source i.toNat).stamp else (s.source i.toNat).moved) + 1000000 * fget s F.FBK_HALL_SPD_TSTILL i.toNat ≤ max s.tim.acc (t0 * 2 ^ 18) / 2 ^ 26) →
      Goes (.standstill t0 i) s (fun t => flag t F.FBK_HALL_STATUS_STILL i.toNat = true ∧
        (t.source i.toNat).est = 0 ∧ (t.source i.toNat).hist = [] ∧
        (t.source i.toNat).pos = (s.source i.toNat).pos ∧
        (RegsKept s t (fun a => commonReg a || within 0x50000 0x60000 a)) ∧
        t.mem = s.mem)) ∧
  (∀ (s : State) (h : Via) (i : BitVec 7),
      srcUsed i.toNat = true →
      HostOn s (R.FBK_HALL_STATUS.at i.toNat) →
      (justSet (advance h.t s) (R.FBK_HALL_STATUS.at i.toNat)).getLsbD F.FBK_HALL_STATUS_LOST.lsb = false →
      Goes (.lostClear h i) s (fun t => fget t F.FBK_HALL_STATUS_LOST i.toNat = 0 ∧
        fget t F.FBK_HALL_ERRCNT_COUNT i.toNat = 0 ∧
        t.src = s.src ∧
        (RegsKept s t (fun a => a == R.FBK_HALL_STATUS.at i.toNat || a == R.FBK_HALL_ERRCNT.at i.toNat)) ∧
        t.mem = s.mem)) ∧
  (∀ (s : State) (h : Via) (e : Fin 16),
      HostOn s (R.FBK_ENC_CTL.at e) →
      srcOn s (64 + e) = true →
      Goes (.refZArm h e) s (fun t => flag t F.FBK_ENC_STATUS_REF_ARMED e = true ∧
        t.src = s.src ∧
        (RegsKept s t (fun a => a == R.FBK_ENC_STATUS.at e)) ∧
        t.mem = s.mem))

/-- Latch units and compare units arm, capture, fire and give up entries. ARM reads CFG and arms the unit in modes 1
and 2, DISARM disarms it and discards its captures, POP removes the oldest entry and FLUSH all. With PD_FBK on and the
unit armed: a selected edge of an input that is no FIO input is captured; of a FIO input, an edge away from the
accepted level replaces the capture that waits for it, and one back to the level takes that capture away; the oldest
capture, once its position is known and it waits neither for a debounce nor for a filter span, completes into the
queue with that position when fewer than four stand in it, and else sets OVR and is lost. An entry that grows old is
marked so. No memory byte and no register outside FBK and the common ones changes. ARM arms the unit with COUNT 0 and
its value VAL; at a servo-period boundary a unit armed behind with LATE_MODE 1 fires and is FIRED and LATE; DISARM
disarms it, and drops a level that is no toggle; the pulse end drops such a level; a TDC calibration sets TDC_VALID.
No memory byte and no register outside FBK and the common ones changes. -/
def Obligations.LatchUnits : Prop :=
  (∀ (s : State) (h : Via) (u : Fin 32),
      HostOn s (R.FBK_LAT_CTL.at u) →
      Goes (.latArm h u) s (fun t => flag t F.FBK_LAT_STATUS_ARMED u = (bitsOf (rd s (R.FBK_LAT_CFG.at u)) 0 2 == 1 || bitsOf (rd s (R.FBK_LAT_CFG.at u)) 0 2 == 2) ∧
        t.latU u = { s.latU u with cfg := rd s (R.FBK_LAT_CFG.at u) } ∧
        (RegsKept s t (fun a => a == R.FBK_LAT_STATUS.at u)) ∧
        t.mem = s.mem)) ∧
  (∀ (s : State) (h : Via) (u : Fin 32),
      HostOn s (R.FBK_LAT_CTL.at u) →
      Goes (.latDisarm h u) s (fun t => flag t F.FBK_LAT_STATUS_ARMED u = false ∧
        t.latU u = { s.latU u with pend := [] } ∧
        (RegsKept s t (fun a => a == R.FBK_LAT_STATUS.at u)) ∧
        t.mem = s.mem)) ∧
  (∀ (s : State) (h : Via) (u : Fin 32),
      HostOn s (R.FBK_LAT_CTL.at u) →
      Goes (.latPop h u) s (fun t => (t.latU u).queue = (s.latU u).queue.drop 1 ∧
        t.regs = s.regs ∧
        t.mem = s.mem)) ∧
  (∀ (s : State) (h : Via) (u : Fin 32),
      HostOn s (R.FBK_LAT_CTL.at u) →
      Goes (.latFlush h u) s (fun t => (t.latU u).queue = [] ∧
        t.regs = s.regs ∧
        t.mem = s.mem)) ∧
  (∀ (s : State) (t0 : Nat) (u : Fin 32) (st : Nat) (rise : Bool),
      domainOn s 7 = true →
      flag s F.FBK_LAT_STATUS_ARMED u = true →
      bitsOf (s.latU u).cfg 2 2 ≠ 0 →
      latSelects (s.latU u).cfg rise = true →
      Goes (.latchCapture t0 u st rise) s (fun t => (t.latU u).pend.length = (s.latU u).pend.length + 1 ∧
        (((t.latU u).pend.getLast?).map (fun p => (p.at_, p.rise)) = some (st / 256, rise)) ∧
        flag t F.FBK_LAT_STATUS_ARMED u = (bitsOf (s.latU u).cfg 0 2 != 1) ∧
        (RegsKept s t (fun a => a == R.FBK_LAT_STATUS.at u)) ∧
        t.mem = s.mem)) ∧
  (∀ (s : State) (t0 : Nat) (u : Fin 32) (st : Nat) (rise : Bool),
      domainOn s 7 = true →
      flag s F.FBK_LAT_STATUS_ARMED u = true →
      bitsOf (s.latU u).cfg 2 2 = 0 →
      Goes (.latchCapture t0 u st rise) s (fun t => (rise = fbit s F.FIO_IN_LEVEL (bitsOf (s.latU u).cfg 4 6 % 32) → (t.latU u).pend = (s.latU u).pend.filter (fun p => p.fio != some (bitsOf (s.latU u).cfg 4 6))) ∧
        (rise ≠ fbit s F.FIO_IN_LEVEL (bitsOf (s.latU u).cfg 4 6 % 32) → latSelects (s.latU u).cfg rise = true → ((t.latU u).pend.getLast?).map (fun p => (p.at_, p.rise, p.fio)) = some (st / 256, rise, some (bitsOf (s.latU u).cfg 4 6)) ∧ ((t.latU u).pend.filter (fun p => p.fio == some (bitsOf (s.latU u).cfg 4 6))).length = 1) ∧
        t = { s with lat := t.lat, tim := t.tim })) ∧
  (∀ (s : State) (t0 : Nat) (u : Fin 32) (p : LatCap) (r : List LatCap) (q : Int),
      domainOn s 7 = true →
      (s.latU u).pend = p :: r →
      p.fio = none →
      p.pos = some q →
      p.at_ + filtSpan s p.src ≤ lns (advance t0 s) →
      (s.latU u).queue.length < 4 →
      Goes (.latchEntryComplete t0 u) s (fun t => (t.latU u).pend = r ∧
        (t.latU u).queue.length = (s.latU u).queue.length + 1 ∧
        (((t.latU u).queue.getLast?).map (fun e => (e.stamp, e.frac, e.rise, e.pos)) = some (p.at_ % 2 ^ 32, p.frac, p.rise, q)) ∧
        RegsKept s t commonReg ∧
        t.mem = s.mem)) ∧
  (∀ (s : State) (t0 : Nat) (u : Fin 32) (p : LatCap) (r : List LatCap) (q : Int),
      domainOn s 7 = true →
      (s.latU u).pend = p :: r →
      p.fio = none →
      p.pos = some q →
      p.at_ + filtSpan s p.src ≤ lns (advance t0 s) →
      4 ≤ (s.latU u).queue.length →
      Goes (.latchEntryComplete t0 u) s (fun t => (t.latU u).pend = r ∧
        (t.latU u).queue = (s.latU u).queue ∧
        fget t F.FBK_LAT_STATUS_OVR u = 1 ∧
        (RegsKept s t (fun a => commonReg a || a == R.FBK_LAT_STATUS.at u || a == R.FBK_LAT_MISSED.at u)) ∧
        t.mem = s.mem)) ∧
  (∀ (s : State) (t0 : Nat) (u : Fin 32) (e : Fin 4),
      Goes (.latchEntryOld t0 u e) s (fun t => ((t.latU u).queue = (s.latU u).queue.mapIdx (fun k x => if k = e.val then { x with old := true } else x)) ∧
        t = { s with lat := t.lat, tim := t.tim })) ∧
  (∀ (s : State) (h : Via) (u : Fin 64),
      HostOn s (R.FBK_CMP_CTL.at u) →
      Goes (.cmpArm h u) s (fun t => flag t F.FBK_CMP_STATUS_ARMED u = true ∧
        fget t F.FBK_CMP_STATUS_COUNT u = 0 ∧
        cmpV t u = fpair48 s F.FBK_CMP_VAL_L_VAL F.FBK_CMP_VAL_H_VAL u ∧
        (t.cmpU u).cfg = rd s (R.FBK_CMP_CFG.at u) ∧
        (RegsKept s t (fun a => commonReg a || within 0x50000 0x60000 a)) ∧
        t.mem = s.mem)) ∧
  (∀ (s : State) (t0 : Nat) (u : Fin 64),
      domainOn s 7 = true →
      s.sys.running = true →
      lns (advance t0 s) = s.sys.s0 →
      servoBoundary s = true →
      flag s F.FBK_CMP_STATUS_ARMED u = true →
      (s.cmpU u).late = true →
      Goes (.cmpLateFire t0 u) s (fun t => flag t F.FBK_CMP_STATUS_FIRED u = true ∧ flag t F.FBK_CMP_STATUS_LATE u = true ∧
        (t.cmpU u).late = false ∧
        (RegsKept s t (fun a => commonReg a || within 0x50000 0x60000 a)) ∧
        t.mem = s.mem)) ∧
  (∀ (s : State) (h : Via) (u : Fin 64),
      HostOn s (R.FBK_CMP_CTL.at u) →
      Goes (.cmpDisarm h u) s (fun t => flag t F.FBK_CMP_STATUS_ARMED u = false ∧
        (fget t F.FBK_CMP_STATUS_LEVEL u = (if bitsOf (s.cmpU u).cfg 12 1 = 1 then fget s F.FBK_CMP_STATUS_LEVEL u else 0)) ∧
        (RegsKept s t (fun a => a == R.FBK_CMP_STATUS.at u)) ∧
        t.mem = s.mem)) ∧
  (∀ (s : State) (t0 : Nat) (u : Fin 64),
      Goes (.cmpPulseEnd t0 u) s (fun t => (fget t F.FBK_CMP_STATUS_LEVEL u = (if bitsOf (s.cmpU u).cfg 12 1 = 1 then fget s F.FBK_CMP_STATUS_LEVEL u else 0)) ∧
        (RegsKept s t (fun a => a == R.FBK_CMP_STATUS.at u)) ∧
        t = { s with regs := t.regs, tim := t.tim })) ∧
  (∀ (s : State) (t0 : Nat),
      domainOn s 7 = true →
      Goes (.tdcCalibration t0) s (fun t => fget t F.FBK_STATUS_TDC_VALID = 1 ∧
        (RegsKept s t (fun a => a == R.FBK_STATUS.addr)) ∧
        t = { s with regs := t.regs, tim := t.tim }))

/-- A track evaluation moves the segment states and writes the table of a track with segments and movers. While
impressions run and one open track is enabled: the state of a segment, on a track with one mover whose record is
fresh, is what the rows of R226 make of OFFLINE, FAULT after the clears and the failed Hall checks that wait, the
overlap of the array [q, q + L_A) with the segment, its nearness within APPR, FALLBACK and the evaluations in DRAIN,
and SEGSTATE shows it; its table entry holds coverage, share factor, i_F, i_D and state, and the weights of the
energised segments sum to 0x40_0000 when l_E is not 0, with NO_DRIVE set when it is 0 and SHORT_COV below L_A / 2; a
stale record counts for no overlap and sets STALE; two movers that overlap a segment give CONFLICT, with i_F and the
weight 0, and GAP and CLOSE tell the distance of their arrays. Only registers of SYS and TST and main SRAM of the
table change. -/
def Obligations.TrackSegments : Prop :=
  (∀ (s : State) (t0 : Nat) (k : Fin 8) (m : Fin 32) (j : Fin 64),
      OpenTrack s k [m.val] →
      (recOf s k m).stale = false →
      0 < fget s F.SYS_TRK_LA_VAL k ∧ 0 < fget s F.SYS_TRK_WIN_W_ON k →
      ((∀ i : Fin 64, i.val < nseg s k → i ≠ j → (segOf s k i).ch ≠ (segOf s k j).ch)) →
      j.val < nseg s k ∧ nseg s k ≤ 48 →
      segSt s k j ≤ 7 →
      Goes (.trackEvaluation t0 []) s (fun t => segSt t k j = segRule (segBit s F.SYS_TRK_OFFLINE_L_SEG F.SYS_TRK_OFFLINE_H_SEG k j) (faultAfter s k j) (decide (nearOf s k j (recOf s k m).q)) (recOf s k m).fallback (decide (fget s F.SYS_TRK_WIN_W_ON k * fget s F.SYS_TRK_LA_VAL k ≤ 4096 * ellOf s k j (recOf s k m).q)) (decide (4096 * ellOf s k j (recOf s k m).q < fget s F.SYS_TRK_WIN_W_OFF k * fget s F.SYS_TRK_LA_VAL k)) (decide (max 1 (fget s F.SYS_TRK_DRAIN_N k) ≤ nget s.trk.drain (64 * k + j) + 1)) (segSt s k j) ∧
        bitsOf (rd t (R.SYS_TRK_SEGSTATE.at k (j.val / 8))) (4 * (j.val % 8)) 3 = segSt t k j ∧
        segBit t F.SYS_TRK_FAULT_L_SEG F.SYS_TRK_FAULT_H_SEG k j = faultAfter s k j ∧
        t.plts = s.plts ∧ t.mot = s.mot ∧
        (RegsKept s t (fun a => commonReg a || within 0x1000 0x2000 a || within 0x110000 0x120000 a)))) ∧
  (∀ (s : State) (t0 : Nat) (k : Fin 8) (m : Fin 32) (j : Fin 64),
      OpenTrack s k [m.val] →
      (recOf s k m).stale = false →
      0 < fget s F.SYS_TRK_LA_VAL k →
      nseg s k ≤ 48 ∧ fget s F.SYS_TRK_TAB_INDEX k + 8 * nseg s k ≤ 2 ^ 22 →
      j.val < nseg s k ∧ nearOf s k j (recOf s k m).q →
      Goes (.trackEvaluation t0 []) s (fun t => tabWordOf s t k j 6 = ellOf s k j (recOf s k m).q * 2 ^ 22 / fget s F.SYS_TRK_LA_VAL k ∧
        (tabWordOf s t k j 1 = (if (segSt t k j = 2 ∨ segSt t k j = 5) ∧ ellE s t k (recOf s k m).q ≠ 0 then min (fget s F.SYS_TRK_LA_VAL k * 2 ^ 22 / ellE s t k (recOf s k m).q) 0x7FFFFF else 0)) ∧
        (tabWordOf s t k j 3 = (if segSt t k j ∈ [0, 4, 6, 7] then 0 else (recOf s k m).iF) ∧ tabWordOf s t k j 4 = (if segSt t k j ∈ [0, 4, 6, 7] then 0 else (recOf s k m).iD)) ∧
        tabWordOf s t k j 5 % 2 ^ 23 = segSt t k j + 8 * m.val + 256 * (recOf s k m).fallback.toNat ∧ tabWordOf s t k j 7 = 0 ∧
        (MemKept s t (fun a => within (sramAt (fget s F.SYS_TRK_TAB_INDEX k)) (sramAt (fget s F.SYS_TRK_TAB_INDEX k) + 32 * nseg s k) a)) ∧
        (RegsKept s t (fun a => commonReg a || within 0x1000 0x2000 a || within 0x110000 0x120000 a)))) ∧
  (∀ (s : State) (t0 : Nat) (k : Fin 8) (m : Fin 32),
      OpenTrack s k [m.val] →
      (recOf s k m).stale = false →
      0 < fget s F.SYS_TRK_LA_VAL k →
      nseg s k ≤ 48 ∧ fget s F.SYS_TRK_TAB_INDEX k + 8 * nseg s k ≤ 2 ^ 22 →
      Goes (.trackEvaluation t0 []) s (fun t => (((List.range (nseg s k)).map (fun j => tabWordOf s t k j 0)).sum = (if ellE s t k (recOf s k m).q = 0 then 0 else 0x400000)) ∧
        (ellE s t k (recOf s k m).q = 0 → fget t F.SYS_TRK_STATUS_NO_DRIVE k = 1) ∧
        (2 * ellE s t k (recOf s k m).q < fget s F.SYS_TRK_LA_VAL k → fget t F.SYS_TRK_STATUS_SHORT_COV k = 1) ∧
        (RegsKept s t (fun a => commonReg a || within 0x1000 0x2000 a || within 0x110000 0x120000 a)))) ∧
  (∀ (s : State) (t0 : Nat) (k : Fin 8) (m : Fin 32),
      OpenTrack s k [m.val] →
      (recOf s k m).stale = true →
      nseg s k ≤ 48 ∧ fget s F.SYS_TRK_TAB_INDEX k + 8 * nseg s k ≤ 2 ^ 22 →
      Goes (.trackEvaluation t0 []) s (fun t => fget t F.SYS_TRK_STATUS_STALE k = 1 ∧
        (∀ j : Fin 64, j.val < nseg s k → tabWordOf s t k j 0 = 0 ∧ tabWordOf s t k j 3 = 0 ∧ tabWordOf s t k j 6 = 0) ∧
        (∀ j : Fin 64, j.val < nseg s k → segSt t k j ≠ 2 ∨ segSt s k j = 2 ∧ fget s F.SYS_TRK_WIN_W_OFF k * fget s F.SYS_TRK_LA_VAL k = 0) ∧
        (RegsKept s t (fun a => commonReg a || within 0x1000 0x2000 a || within 0x110000 0x120000 a)))) ∧
  (∀ (s : State) (t0 : Nat) (k : Fin 8) (a : Fin 32) (b : Fin 32) (j : Fin 64),
      OpenTrack s k [a.val, b.val] →
      (recOf s k a).stale = false ∧ (recOf s k b).stale = false →
      j.val < nseg s k ∧ nseg s k ≤ 48 ∧ fget s F.SYS_TRK_TAB_INDEX k + 8 * nseg s k ≤ 2 ^ 22 →
      ((∀ i : Fin 64, i.val < nseg s k → i ≠ j → (segOf s k i).ch ≠ (segOf s k j).ch)) →
      segBit s F.SYS_TRK_OFFLINE_L_SEG F.SYS_TRK_OFFLINE_H_SEG k j = false ∧ faultAfter s k j = false →
      ellOf s k j (recOf s k a).q ≠ 0 ∧ ellOf s k j (recOf s k b).q ≠ 0 →
      Goes (.trackEvaluation t0 []) s (fun t => segSt t k j = 6 ∧ fget t F.SYS_TRK_STATUS_CONFLICT k = 1 ∧
        tabWordOf s t k j 0 = 0 ∧ tabWordOf s t k j 3 = 0 ∧ tabWordOf s t k j 5 = 6 ∧
        (RegsKept s t (fun a => commonReg a || within 0x1000 0x2000 a || within 0x110000 0x120000 a)))) ∧
  (∀ (s : State) (t0 : Nat) (k : Fin 8) (a : Fin 32) (b : Fin 32),
      OpenTrack s k [a.val, b.val] →
      (recOf s k a).stale = false ∧ (recOf s k b).stale = false →
      (recOf s k a).q ≤ (recOf s k b).q →
      a ≠ b →
      Goes (.trackEvaluation t0 []) s (fun t => fget t F.SYS_TRK_GAP_VAL k = satInt 32 ((recOf s k b).q - ((recOf s k a).q + fget s F.SYS_TRK_LA_VAL k)) ∧
        flag t F.SYS_TRK_STATUS_CLOSE k = decide ((recOf s k b).q - ((recOf s k a).q + fget s F.SYS_TRK_LA_VAL k) < (fget s F.SYS_TRK_MIN_GAP_VAL k : Int)) ∧
        (RegsKept s t (fun a => commonReg a || within 0x1000 0x2000 a || within 0x110000 0x120000 a))))

/-- A profile command is latched, and an ABORT that waits stays. MOVE_ABS, MOVE_REL, JOG_POS, JOG_NEG, PRF_STOP and
PRF_ABORT enter the latch of their unit with their code; a command that stood there is replaced and CMD_REPLACED set,
but an ABORT that waits stays whatever command follows. Nothing else of the motion unit, no other register and no
memory byte changes. -/
def Obligations.ProfileCommands : Prop :=
  (∀ (s : State) (h : Via) (m : Fin 32),
      HostOn s (R.PRF_CMD.at m) →
      (s.prf m).pend.map (·.code) ≠ some 6 →
      Goes (.moveAbs h m) s (fun t => (t.prf m).pend.map (·.code) = some 1 ∧
        t.mot = { s.mot with prf := t.mot.prf } ∧
        { t.prf m with pend := none } = { s.prf m with pend := none } ∧
        (fget t F.PRF_STATE_CMD_REPLACED m = (if (s.prf m).pend.isSome then 1 else fget s F.PRF_STATE_CMD_REPLACED m)) ∧
        (RegsKept s t (fun a => a == R.PRF_STATE.at m)) ∧
        t.mem = s.mem)) ∧
  (∀ (s : State) (h : Via) (m : Fin 32),
      HostOn s (R.PRF_CMD.at m) →
      (s.prf m).pend.map (·.code) ≠ some 6 →
      Goes (.moveRel h m) s (fun t => (t.prf m).pend.map (·.code) = some 2 ∧
        t.mot = { s.mot with prf := t.mot.prf } ∧
        { t.prf m with pend := none } = { s.prf m with pend := none } ∧
        (fget t F.PRF_STATE_CMD_REPLACED m = (if (s.prf m).pend.isSome then 1 else fget s F.PRF_STATE_CMD_REPLACED m)) ∧
        (RegsKept s t (fun a => a == R.PRF_STATE.at m)) ∧
        t.mem = s.mem)) ∧
  (∀ (s : State) (h : Via) (m : Fin 32),
      HostOn s (R.PRF_CMD.at m) →
      (s.prf m).pend.map (·.code) ≠ some 6 →
      Goes (.jogPos h m) s (fun t => (t.prf m).pend.map (·.code) = some 3 ∧
        t.mot = { s.mot with prf := t.mot.prf } ∧
        { t.prf m with pend := none } = { s.prf m with pend := none } ∧
        (fget t F.PRF_STATE_CMD_REPLACED m = (if (s.prf m).pend.isSome then 1 else fget s F.PRF_STATE_CMD_REPLACED m)) ∧
        (RegsKept s t (fun a => a == R.PRF_STATE.at m)) ∧
        t.mem = s.mem)) ∧
  (∀ (s : State) (h : Via) (m : Fin 32),
      HostOn s (R.PRF_CMD.at m) →
      (s.prf m).pend.map (·.code) ≠ some 6 →
      Goes (.jogNeg h m) s (fun t => (t.prf m).pend.map (·.code) = some 4 ∧
        t.mot = { s.mot with prf := t.mot.prf } ∧
        { t.prf m with pend := none } = { s.prf m with pend := none } ∧
        (fget t F.PRF_STATE_CMD_REPLACED m = (if (s.prf m).pend.isSome then 1 else fget s F.PRF_STATE_CMD_REPLACED m)) ∧
        (RegsKept s t (fun a => a == R.PRF_STATE.at m)) ∧
        t.mem = s.mem)) ∧
  (∀ (s : State) (h : Via) (m : Fin 32),
      HostOn s (R.PRF_CMD.at m) →
      (s.prf m).pend.map (·.code) ≠ some 6 →
      Goes (.prfStop h m) s (fun t => (t.prf m).pend.map (·.code) = some 5 ∧
        t.mot = { s.mot with prf := t.mot.prf } ∧
        { t.prf m with pend := none } = { s.prf m with pend := none } ∧
        (fget t F.PRF_STATE_CMD_REPLACED m = (if (s.prf m).pend.isSome then 1 else fget s F.PRF_STATE_CMD_REPLACED m)) ∧
        (RegsKept s t (fun a => a == R.PRF_STATE.at m)) ∧
        t.mem = s.mem)) ∧
  (∀ (s : State) (h : Via) (m : Fin 32),
      HostOn s (R.PRF_CMD.at m) →
      (s.prf m).pend.map (·.code) ≠ some 6 →
      Goes (.prfAbort h m) s (fun t => (t.prf m).pend.map (·.code) = some 6 ∧
        t.mot = { s.mot with prf := t.mot.prf } ∧
        { t.prf m with pend := none } = { s.prf m with pend := none } ∧
        (fget t F.PRF_STATE_CMD_REPLACED m = (if (s.prf m).pend.isSome then 1 else fget s F.PRF_STATE_CMD_REPLACED m)) ∧
        (RegsKept s t (fun a => a == R.PRF_STATE.at m)) ∧
        t.mem = s.mem)) ∧
  (∀ (s : State) (h : Via) (m : Fin 32),
      HostOn s (R.PRF_CMD.at m) →
      (s.prf m).pend.map (·.code) = some 6 →
      Goes (.moveAbs h m) s (fun t => t.mot = s.mot ∧
        t.regs = s.regs ∧
        t.mem = s.mem)) ∧
  (∀ (s : State) (h : Via) (m : Fin 32),
      HostOn s (R.PRF_CMD.at m) →
      (s.prf m).pend.map (·.code) = some 6 →
      Goes (.moveRel h m) s (fun t => t.mot = s.mot ∧
        t.regs = s.regs ∧
        t.mem = s.mem)) ∧
  (∀ (s : State) (h : Via) (m : Fin 32),
      HostOn s (R.PRF_CMD.at m) →
      (s.prf m).pend.map (·.code) = some 6 →
      Goes (.jogPos h m) s (fun t => t.mot = s.mot ∧
        t.regs = s.regs ∧
        t.mem = s.mem)) ∧
  (∀ (s : State) (h : Via) (m : Fin 32),
      HostOn s (R.PRF_CMD.at m) →
      (s.prf m).pend.map (·.code) = some 6 →
      Goes (.jogNeg h m) s (fun t => t.mot = s.mot ∧
        t.regs = s.regs ∧
        t.mem = s.mem)) ∧
  (∀ (s : State) (h : Via) (m : Fin 32),
      HostOn s (R.PRF_CMD.at m) →
      (s.prf m).pend.map (·.code) = some 6 →
      Goes (.prfStop h m) s (fun t => t.mot = s.mot ∧
        t.regs = s.regs ∧
        t.mem = s.mem))

/-- Accord and path commands are latched, and segments enter the buffer. ENGAGE and DISENGAGE enter the latch of their
accord with the CFG that the write reads; PTH_START, PTH_HOLD, PTH_RESUME, PTH_STOP and PTH_ABORT that of their group,
unless an ABORT stands there; PUSH of a segment other than an arc of one axis appends it to a buffer of fewer than 64,
and such an arc is refused, and counted in SYS.HOST_DROP as a write without effect (log entry 28); PTH_FLUSH empties
the buffer of an idle group. No register outside the group and no memory byte changes. -/
def Obligations.AccordAndPathCommands : Prop :=
  (∀ (s : State) (h : Via) (a : Fin 16),
      HostOn s (R.ACD_CTL.at a) →
      Goes (.acdEngage h a) s (fun t => ((t.acd a).pend.map (fun x => (x.code, x.cfg)) = some (1, rd s (R.ACD_CFG.at a))) ∧
        { t.acd a with pend := none } = { s.acd a with pend := none } ∧
        t.mot = { s.mot with acd := t.mot.acd } ∧
        t.regs = s.regs ∧
        t.mem = s.mem)) ∧
  (∀ (s : State) (h : Via) (a : Fin 16),
      HostOn s (R.ACD_CTL.at a) →
      Goes (.acdDisengage h a) s (fun t => ((t.acd a).pend.map (fun x => (x.code, x.cfg)) = some (2, rd s (R.ACD_CFG.at a))) ∧
        { t.acd a with pend := none } = { s.acd a with pend := none } ∧
        t.mot = { s.mot with acd := t.mot.acd } ∧
        t.regs = s.regs ∧
        t.mem = s.mem)) ∧
  (∀ (s : State) (h : Via) (g : Fin 8),
      HostOn s (R.PTH_CTL.at g) →
      (s.pth g).pend.map (·.code) ≠ some 5 →
      Goes (.pthStart h g) s (fun t => ((t.pth g).pend.map (fun x => (x.code, x.cfg)) = some (1, rd s (R.PTH_CFG.at g))) ∧
        { t.pth g with pend := none } = { s.pth g with pend := none } ∧
        t.mot = { s.mot with pth := t.mot.pth } ∧
        t.regs = s.regs ∧
        t.mem = s.mem)) ∧
  (∀ (s : State) (h : Via) (g : Fin 8),
      HostOn s (R.PTH_CTL.at g) →
      (s.pth g).pend.map (·.code) ≠ some 5 →
      Goes (.pthHold h g) s (fun t => ((t.pth g).pend.map (fun x => (x.code, x.cfg)) = some (2, rd s (R.PTH_CFG.at g))) ∧
        { t.pth g with pend := none } = { s.pth g with pend := none } ∧
        t.mot = { s.mot with pth := t.mot.pth } ∧
        t.regs = s.regs ∧
        t.mem = s.mem)) ∧
  (∀ (s : State) (h : Via) (g : Fin 8),
      HostOn s (R.PTH_CTL.at g) →
      (s.pth g).pend.map (·.code) ≠ some 5 →
      Goes (.pthResume h g) s (fun t => ((t.pth g).pend.map (fun x => (x.code, x.cfg)) = some (3, rd s (R.PTH_CFG.at g))) ∧
        { t.pth g with pend := none } = { s.pth g with pend := none } ∧
        t.mot = { s.mot with pth := t.mot.pth } ∧
        t.regs = s.regs ∧
        t.mem = s.mem)) ∧
  (∀ (s : State) (h : Via) (g : Fin 8),
      HostOn s (R.PTH_CTL.at g) →
      (s.pth g).pend.map (·.code) ≠ some 5 →
      Goes (.pthStop h g) s (fun t => ((t.pth g).pend.map (fun x => (x.code, x.cfg)) = some (4, rd s (R.PTH_CFG.at g))) ∧
        { t.pth g with pend := none } = { s.pth g with pend := none } ∧
        t.mot = { s.mot with pth := t.mot.pth } ∧
        t.regs = s.regs ∧
        t.mem = s.mem)) ∧
  (∀ (s : State) (h : Via) (g : Fin 8),
      HostOn s (R.PTH_CTL.at g) →
      (s.pth g).pend.map (·.code) ≠ some 5 →
      Goes (.pthAbort h g) s (fun t => ((t.pth g).pend.map (fun x => (x.code, x.cfg)) = some (5, rd s (R.PTH_CFG.at g))) ∧
        { t.pth g with pend := none } = { s.pth g with pend := none } ∧
        t.mot = { s.mot with pth := t.mot.pth } ∧
        t.regs = s.regs ∧
        t.mem = s.mem)) ∧
  (∀ (s : State) (h : Via) (g : Fin 8),
      HostOn s (R.PTH_CTL.at g) →
      (¬ ((fget s F.PTH_SEG_TYPE g = 1 ∨ fget s F.PTH_SEG_TYPE g = 2) ∧ fget s F.PTH_SEG_PA g = fget s F.PTH_SEG_PB g)) →
      (s.pth g).buf.length < 64 →
      Goes (.pthPush h g) s (fun t => (t.pth g).buf.length = (s.pth g).buf.length + 1 ∧
        (((t.pth g).buf.getLast?).map (fun y => (y.ty, y.pa, y.pb, y.tag)) = some (fget s F.PTH_SEG_TYPE g, fget s F.PTH_SEG_PA g, fget s F.PTH_SEG_PB g, fget s F.PTH_SEG_TAG g)) ∧
        (RegsKept s t (fun a => a == R.PTH_STATUS.at g)) ∧
        t.mem = s.mem)) ∧
  (∀ (s : State) (h : Via) (g : Fin 8),
      HostOn s (R.PTH_CTL.at g) →
      (fget s F.PTH_SEG_TYPE g = 1 ∨ fget s F.PTH_SEG_TYPE g = 2) →
      fget s F.PTH_SEG_PA g = fget s F.PTH_SEG_PB g →
      Goes (.pthPush h g) s (fun t => fget t F.PTH_STATUS_REFUSED g = 1 ∧
        fget t F.SYS_HOST_DROP_COUNT = min (fget s F.SYS_HOST_DROP_COUNT + 1) 65535 ∧
        t.mot = s.mot ∧
        (RegsKept s t (fun a => a == R.PTH_STATUS.at g || a == R.SYS_HOST_DROP.addr || a == R.SYS_HOST_DROP_ADDR.addr)) ∧
        t.mem = s.mem)) ∧
  (∀ (s : State) (h : Via) (g : Fin 8),
      HostOn s (R.PTH_CTL.at g) →
      fget s F.PTH_STATUS_STATE g = 0 →
      Goes (.pthFlush h g) s (fun t => (t.pth g).buf = [] ∧
        (RegsKept s t (fun a => a == R.PTH_STATUS.at g)) ∧
        t.mem = s.mem))

/-- Track evaluation, fault clears, mover requests and scheduled actions. While impressions run a track evaluation of
a machine with every track disabled changes nothing but the time, and one with track 0 alone enabled and without
segments and movers shows CONFLICT 0 and CLOSE 0 for it; outside RUN of the generator it does nothing. A clear of
FAULT bits waits for the next evaluation with no register changed; MOV.CTL.REQ = n raises event 0x10 + n of the mover
for n above 0 and does nothing for 0. ARM reads TIME, ACT, ARG and PERIOD of the entry into its waiting commands,
CANCEL adds a cancel, with no register changed; at a boundary, the sample instant, an armed one-shot track-event entry
whose TIME was reached less than one impression ago fires, and at no other instant does one: its state is FIRED, LAST
holds the sample instant and its event goes to the mode machines. Memory keeps its contents. In a clause that names or
bounds the registers it writes, every other register keeps its value. -/
def Obligations.TracksAndMovers : Prop :=
  (∀ (s : State) (t0 : Nat),
      (∀ k : Fin 8, flag s F.SYS_TRK_CFG_EN k = false) →
      Goes (.trackEvaluation t0 []) s (fun t => t = { s with tim := t.tim })) ∧
  (∀ (s : State) (t0 : Nat),
      s.sys.running = false →
      Goes (.trackEvaluation t0 []) s (fun t => t = { s with tim := t.tim })) ∧
  (∀ (s : State) (t0 : Nat),
      s.sys.running = true →
      (∀ k : Fin 8, flag s F.SYS_TRK_CFG_EN k = decide (k = 0)) →
      nseg s 0 = 0 →
      moversOf s 0 = [] →
      Goes (.trackEvaluation t0 []) s (fun t => fget t F.SYS_TRK_STATUS_CONFLICT 0 = 0 ∧
        fget t F.SYS_TRK_STATUS_CLOSE 0 = 0 ∧
        t.mem = s.mem ∧
        (RegsKept s t (fun a => a == R.SYS_TRK_STATUS.at 0 || a == R.SYS_TRK_GAP.at 0)))) ∧
  (∀ (s : State) (h : Via) (k : Fin 8) (v : Word),
      HostOn s (R.SYS_TRK_FAULT_L.at k) →
      Goes (.hallFaultClear h k false v) s (fun t => nget t.trk.clr k = nget s.trk.clr k ||| v.toNat ∧
        t.regs = s.regs ∧
        t.mem = s.mem)) ∧
  (∀ (s : State) (h : Via) (k : Fin 8) (v : Word),
      HostOn s (R.SYS_TRK_FAULT_H.at k) →
      Goes (.hallFaultClear h k true v) s (fun t => nget t.trk.clr k = nget s.trk.clr k ||| (v.toNat % 2 ^ 16 * 2 ^ 32) ∧
        t.regs = s.regs ∧
        t.mem = s.mem)) ∧
  (∀ (s : State) (h : Via) (m : Fin 32) (n : BitVec 4),
      HostOn s (R.MOV_CTL.at m) →
      n ≠ 0#4 →
      Goes (.moverRequest h m n) s (fun t => t.mmq = s.mmq ++ [⟨blkMOV, 0x10 + n.toNat, m, max s.tim.acc (h.t * 2 ^ 18) / 2 ^ 26⟩] ∧
        RegsKept s t commonReg ∧
        t.mem = s.mem)) ∧
  (∀ (s : State) (h : Via) (m : Fin 32),
      HostOn s (R.MOV_CTL.at m) →
      Goes (.moverRequest h m 0#4) s (fun t => t.mmq = s.mmq ∧
        t.regs = s.regs ∧
        t.mem = s.mem)) ∧
  (∀ (s : State) (h : Via) (x : Fin 64),
      HostOn s (R.SCH_CTL.at x) →
      Goes (.schArm h x) s (fun t => (((t.schE x).pend.getLast?).map (fun c => match c with | .arm _ _ time act arg p => (time, act, arg, p) | .cancel _ => (0, 0#32, 0#32, 0#32)) = some (fget s F.SCH_TIME_L_VAL x + 2 ^ 32 * fget s F.SCH_TIME_H_VAL x, rd s (R.SCH_ACT.at x), rd s (R.SCH_ARG.at x), rd s (R.SCH_PERIOD.at x))) ∧
        (t.schE x).pend.length = (s.schE x).pend.length + 1 ∧
        t.mot = { s.mot with sch := t.mot.sch } ∧
        t.regs = s.regs ∧
        t.mem = s.mem)) ∧
  (∀ (s : State) (h : Via) (x : Fin 64),
      HostOn s (R.SCH_CTL.at x) →
      Goes (.schCancel h x) s (fun t => (((t.schE x).pend.getLast?).map (fun c => match c with | .arm .. => false | .cancel _ => true) = some true) ∧
        (t.schE x).pend.length = (s.schE x).pend.length + 1 ∧
        t.mot = { s.mot with sch := t.mot.sch } ∧
        t.regs = s.regs ∧
        t.mem = s.mem)) ∧
  (∀ (s : State) (t0 : Nat),
      (s.sys.running = false ∨ max s.tim.acc (t0 * 2 ^ 18) / 2 ^ 26 ≠ s.sys.s0) →
      Goes (.scheduledActionFire t0) s (fun t => t = { s with tim := t.tim })) ∧
  (∀ (s : State) (t0 : Nat) (x : Fin 64),
      s.sys.running = true →
      (∀ k : Fin 64, fget s F.SCH_STAT_STATE k = (if k = x then 1 else 0)) →
      (s.schE x).late = false →
      (s.schE x).period = 0 →
      (s.schE x).kind = 7 →
      max s.tim.acc (t0 * 2 ^ 18) / 2 ^ 26 = s.sys.s0 →
      (s.schE x).time ≤ s.sys.s0 ∧ s.sys.s0 < (s.schE x).time + tImp s →
      Goes (.scheduledActionFire t0) s (fun t => fget t F.SCH_STAT_STATE x = 2 ∧
        fget t F.SCH_LAST_VAL x = s.sys.s0 % 2 ^ 32 ∧
        fget t F.SCH_SUMMARY_ARMED = 0 ∧
        (t.mmq.map (fun e => (e.block, e.code)) = s.mmq.map (fun e => (e.block, e.code)) ++ [(blkSCH, 0x10)]) ∧
        t.mem = s.mem ∧
        (RegsKept s t (fun a => commonReg a || within 0x3C000 0x40000 a))))

/-- Every cause of R289 that is present stops the machine safely. From OPERATIONAL or DRYDOWN outside monitor mode, a
safety cycle that finds the safe bit of RUN_SEL at 0, a speed above the limit, an implausible pair of sources, an
expired drydown, a watchdog of a Proof session, a read-back fault, a stalled feedback, a clock check out of its
window, a diagnostic pass that found a memory error or a wrong answer, a contactor feedback in discrepancy outside a
group, and a safety cycle that finds SOS, PRI_LOST, KFB, PLT_OVF or PLT_UE with their action on, or SUPPLY, each leave
the island SAFE, with all eight torque-off outputs asserted and all eight brake pairs applied, and CAUSE, if it was 0,
at the code of R289. A host write of STOP does the same. Memory keeps its contents. In a clause that names or bounds
the registers it writes, every other register keeps its value. -/
def Obligations.SafeStops : Prop :=
  (∀ (s : State) (t0 : Nat) (p : Bool) (rb : Bool),
      safLive s = true →
      monitorMode s = false →
      domainOn s 12 = true →
      safeBit s (fget s F.SAF_GEN_RUN_SEL) = false →
      Goes (.safetyCycle t0 p rb) s (fun t => SafeNow t ∧
        (fget s F.SAF_STATE_CAUSE = 0 → fget t F.SAF_STATE_CAUSE = 2) ∧
        t.mem = s.mem ∧
        (RegsKept s t (fun a => safReg a || a == R.SYS_STATE.addr || within 0x30000 0x3C000 a || within 0x40000 0x50000 a)))) ∧
  (∀ (s : State) (t0 : Nat) (a : Fin 8),
      safLive s = true →
      monitorMode s = false →
      flag s F.SAF_AX_CFG_EN a = true →
      (s.sax a).lim < axSpeed s a →
      Goes (.slsViolation t0 a) s (fun t => SafeNow t ∧
        (fget s F.SAF_STATE_CAUSE = 0 → fget t F.SAF_STATE_CAUSE = 3) ∧
        t.mem = s.mem ∧
        (RegsKept s t (fun a => safReg a || a == R.SYS_STATE.addr || within 0x30000 0x3C000 a || within 0x40000 0x50000 a)))) ∧
  (∀ (s : State) (t0 : Nat) (a : Fin 8) (j : Nat),
      safLive s = true →
      monitorMode s = false →
      flag s F.SAF_AX_CFG_EN a = true →
      secLive s a = some j →
      s.saf.ofsDue = none →
      fget s F.SAF_AX_PL_TOL a * sden s a < (axDiff s a j - (s.sax a).ofs).natAbs →
      Goes (.safImplausible t0 a) s (fun t => SafeNow t ∧
        (fget s F.SAF_STATE_CAUSE = 0 → fget t F.SAF_STATE_CAUSE = 5) ∧
        t.mem = s.mem ∧
        (RegsKept s t (fun a => safReg a || a == R.SYS_STATE.addr || within 0x30000 0x3C000 a || within 0x40000 0x50000 a)))) ∧
  (∀ (s : State) (t0 : Nat),
      fget s F.SAF_STATE_STATE = 4 →
      fget s F.SAF_DRY_LEFT_VAL = 0 →
      Goes (.dryExpired t0) s (fun t => SafeNow t ∧
        (fget s F.SAF_STATE_CAUSE = 0 → fget t F.SAF_STATE_CAUSE = 10) ∧
        t.mem = s.mem ∧
        (RegsKept s t (fun a => safReg a || a == R.SYS_STATE.addr || within 0x30000 0x3C000 a || within 0x40000 0x50000 a)))) ∧
  (∀ (s : State) (t0 : Nat) (n : Fin 8),
      safLive s = true →
      monitorMode s = false →
      flag s F.SAF_PSC_ID_EN n = true →
      Goes (.proofWatchdog t0 n) s (fun t => SafeNow t ∧
        (fget s F.SAF_STATE_CAUSE = 0 → fget t F.SAF_STATE_CAUSE = 8) ∧
        t.mem = s.mem ∧
        flag t F.SAF_PS_STATUS_UP n = false ∧
        (RegsKept s t (fun a => safReg a || a == R.SYS_STATE.addr || within 0x30000 0x3C000 a || within 0x40000 0x50000 a)))) ∧
  (∀ (s : State) (t0 : Nat),
      safLive s = true →
      Goes (.readbackFault t0) s (fun t => SafeNow t ∧
        (fget s F.SAF_STATE_CAUSE = 0 → fget t F.SAF_STATE_CAUSE = 11) ∧
        t.mem = s.mem ∧
        (RegsKept s t (fun a => safReg a || a == R.SYS_STATE.addr || within 0x30000 0x3C000 a || within 0x40000 0x50000 a)))) ∧
  (∀ (s : State) (t0 : Nat),
      safLive s = true →
      monitorMode s = false →
      Goes (.fbkStall t0) s (fun t => SafeNow t ∧
        (fget s F.SAF_STATE_CAUSE = 0 → fget t F.SAF_STATE_CAUSE = 17) ∧
        t.mem = s.mem ∧
        (RegsKept s t (fun a => safReg a || a == R.SYS_STATE.addr || within 0x30000 0x3C000 a || within 0x40000 0x50000 a)))) ∧
  (∀ (s : State) (h : Via),
      HostOn s R.SAF_CTL.addr →
      safLive s = true →
      Goes (.safStop h) s (fun t => SafeNow t ∧
        (fget s F.SAF_STATE_CAUSE = 0 → fget t F.SAF_STATE_CAUSE = 1) ∧
        t.mem = s.mem ∧
        (RegsKept s t (fun a => safReg a || a == R.SYS_STATE.addr || within 0x30000 0x3C000 a || within 0x40000 0x50000 a)))) ∧
  (∀ (s : State) (h : Via),
      HostOn s R.SAF_CTL.addr →
      safLive s = false →
      fget s F.SAF_STATE_CAUSE = 0 →
      Goes (.safStop h) s (fun t => fget t F.SAF_STATE_CAUSE = 1 ∧
        fget t F.SAF_STATE_STATE = fget s F.SAF_STATE_STATE ∧
        t.mem = s.mem ∧
        (RegsKept s t (fun a => safReg a || a == R.SYS_STATE.addr || within 0x30000 0x3C000 a || within 0x40000 0x50000 a)))) ∧
  (∀ (s : State) (t0 : Nat) (sup : Bool) (rb : Bool) (c : Fin 32),
      safLive s = true →
      monitorMode s = false →
      domainOn s 12 = true →
      safeBit s (fget s F.SAF_GEN_RUN_SEL) = true →
      s.saf.bad = 0 →
      causeSeen s sup c →
      (∀ d : Fin 32, d.val < c.val → ¬ causeSeen s sup d) →
      Goes (.safetyCycle t0 sup rb) s (fun t => SafeNow t ∧
        (fget s F.SAF_STATE_CAUSE = 0 → fget t F.SAF_STATE_CAUSE = c.val) ∧
        t.mem = s.mem ∧
        (RegsKept s t (fun a => safReg a || a == R.SYS_STATE.addr || within 0x30000 0x3C000 a || within 0x40000 0x50000 a)))) ∧
  (∀ (s : State) (t0 : Nat) (n : Nat),
      safLive s = true →
      domainOn s 12 = true →
      s.pwr.sysRet = false →
      (n < 242500 ∨ 257500 < n) →
      Goes (.clockCheck t0 n) s (fun t => SafeNow t ∧
        (fget s F.SAF_STATE_CAUSE = 0 → fget t F.SAF_STATE_CAUSE = 12) ∧
        t.mem = s.mem ∧
        (RegsKept s t (fun a => safReg a || a == R.SYS_STATE.addr || within 0x30000 0x3C000 a || within 0x40000 0x50000 a)))) ∧
  (∀ (s : State) (t0 : Nat) (wrong : Bool) (ue : Bool) (ce : Nat),
      safLive s = true →
      domainOn s 12 = true →
      (wrong = true ∨ ue = true) →
      Goes (.diagPass t0 wrong ue ce) s (fun t => SafeNow t ∧
        (fget s F.SAF_STATE_CAUSE = 0 → fget t F.SAF_STATE_CAUSE = (if ue then 13 else 14)) ∧
        t.mem = s.mem ∧
        (RegsKept s t (fun a => safReg a || a == R.SYS_STATE.addr || within 0x30000 0x3C000 a || within 0x40000 0x50000 a)))) ∧
  (∀ (s : State) (t0 : Nat) (k : Fin 16),
      safLive s = true →
      flag s F.SAF_KFB_CFG_EN k = true →
      fget s F.SAF_KFB_CFG_GROUP k = 0 →
      fbit s F.FIO_KFB_LEVEL k ≠ kfbExpected s k →
      9 ∉ s.saf.stood →
      Goes (.kfbDiscrepancy t0 k) s (fun t => SafeNow t ∧
        (fget s F.SAF_STATE_CAUSE = 0 → fget t F.SAF_STATE_CAUSE = 9) ∧
        t.mem = s.mem ∧
        (RegsKept s t (fun a => safReg a || a == R.SYS_STATE.addr || within 0x30000 0x3C000 a || within 0x40000 0x50000 a))))

/-- Drydown, commissioning, reset and confirmation move the safety state as the spec says. A second of drydown lowers
DRY_LEFT by 1; ENTER_COMM reaches COMMISSIONING from LOCKED and SAFE in LOADED, READY and SAFE_STOP; EXIT_COMM reaches
SAFE when SIG_CALC is the recorded signature and else LOCKED; a host write of RESET waits for the next safety cycle,
which, when the conditions of R276 hold, reaches OPERATIONAL with no degradable cause present and DRYDOWN with T_DRY
left with one, and in LOCKED sets RESET_REFUSED; a cycle in OPERATIONAL that finds a degradable cause begins DRYDOWN,
and one in DRYDOWN with no cause left returns to OPERATIONAL by AUTO_RETURN or an ACK; DRY_ACK is noted when no
degradable cause is present; CONFIRM of the calculated signature starts the write of the record, another sets
CONF_REFUSED; the end of that write records the signature, and a recomputation sets SIG_CALC and CONFIRMED from the
block. Memory keeps its contents. In a clause that names or bounds the registers it writes, every other register keeps
its value. -/
def Obligations.SafetyStates : Prop :=
  (∀ (s : State) (t0 : Nat),
      fget s F.SAF_STATE_STATE = 4 →
      0 < fget s F.SAF_DRY_LEFT_VAL →
      Goes (.drySecond t0) s (fun t => fget t F.SAF_DRY_LEFT_VAL = fget s F.SAF_DRY_LEFT_VAL - 1 ∧
        t = { s with regs := t.regs, tim := t.tim } ∧
        (RegsKept s t (fun a => a == R.SAF_DRY_LEFT.addr)))) ∧
  (∀ (s : State) (h : Via),
      HostOn s R.SAF_CTL.addr →
      (fget s F.SAF_STATE_STATE = 0 ∨ fget s F.SAF_STATE_STATE = 2) →
      (s.sys.st = .loaded ∨ s.sys.st = .ready ∨ s.sys.st = .safeStop) →
      Goes (.enterComm h) s (fun t => fget t F.SAF_STATE_STATE = 1 ∧
        fget t F.SAF_STATE_PREV = fget s F.SAF_STATE_STATE ∧
        t.mem = s.mem ∧
        (RegsKept s t (fun a => safReg a || within 0x40000 0x50000 a)))) ∧
  (∀ (s : State) (h : Via),
      HostOn s R.SAF_CTL.addr →
      fget s F.SAF_STATE_STATE = 1 →
      Goes (.exitComm h) s (fun t => (fget t F.SAF_STATE_STATE = (if rd s R.SAF_SIG_CALC.addr = s.nv.sigConf then 2 else 0)) ∧
        t.mem = s.mem ∧
        (RegsKept s t (fun a => safReg a || within 0x40000 0x50000 a)))) ∧
  (∀ (s : State) (h : Via),
      HostOn s R.SAF_CTL.addr →
      fget s F.SAF_GEN_RESET_SRC = 0 →
      Goes (.safReset h) s (fun t => t.saf = { s.saf with rst := some true } ∧
        t.regs = s.regs ∧
        t.mem = s.mem)) ∧
  (∀ (s : State) (h : Via),
      HostOn s R.SAF_CTL.addr →
      fget s F.SAF_GEN_RESET_SRC = 1 →
      s.saf.rst = none →
      Goes (.safReset h) s (fun t => t.saf = { s.saf with rst := some false } ∧
        t.regs = s.regs ∧
        t.mem = s.mem)) ∧
  (∀ (s : State) (t0 : Nat),
      domainOn s 12 = true →
      s.saf.rst = some true →
      resetOk s = true →
      s.saf.bt = none ∧ s.saf.ofsDue = none →
      (∀ n : Fin 8, ∀ i ∈ secOf s n, pageBit s i 4 = false) →
      ((dryCauses s).all (fun c => c.isNone) = true) →
      Goes (.safetyCycle t0 false false) s (fun t => fget t F.SAF_STATE_STATE = 3 ∧
        fget t F.SAF_STATE_PREV = 2 ∧ fget t F.SAF_STATE_CAUSE = 0 ∧
        t.saf.rst = none ∧
        t.mem = s.mem ∧
        (RegsKept s t (fun a => safReg a || within 0x40000 0x50000 a)))) ∧
  (∀ (s : State) (t0 : Nat) (rb : Bool),
      domainOn s 12 = true →
      fget s F.SAF_STATE_STATE = 0 →
      s.saf.rst.isSome = true →
      Goes (.safetyCycle t0 false rb) s (fun t => flag t F.SAF_STATE_RESET_REFUSED = true ∧
        fget t F.SAF_STATE_STATE = 0 ∧
        t.saf.rst = none ∧
        t.mem = s.mem ∧
        (RegsKept s t (fun a => safReg a || within 0x40000 0x50000 a)))) ∧
  (∀ (s : State) (h : Via),
      HostOn s R.SAF_CTL.addr →
      fget s F.SAF_STATE_STATE = 4 →
      ((dryCauses s).all (fun c => c.isNone) = true) →
      Goes (.dryAck h) s (fun t => t.saf = { s.saf with dryAck := true } ∧
        t.regs = s.regs ∧
        t.mem = s.mem)) ∧
  (∀ (s : State) (h : Via) (v : Word),
      HostOn s R.SAF_CONFIRM.addr →
      fget s F.SAF_STATE_STATE = 1 →
      v = rd s R.SAF_SIG_CALC.addr →
      flag s F.SAF_STATE_SIG_BUSY = false →
      flag s F.GLY_STATUS_SAFETY_CLAMP = false →
      Goes (.safConfirm h v) s (fun t => t.saf = { s.saf with conf := some v } ∧
        flag t F.SAF_STATE_SIG_BUSY = true ∧
        t.nv = s.nv ∧
        (RegsKept s t (fun a => commonReg a || a == R.SAF_STATE.addr)) ∧
        t.mem = s.mem)) ∧
  (∀ (s : State) (h : Via) (v : Word),
      HostOn s R.SAF_CONFIRM.addr →
      (fget s F.SAF_STATE_STATE ≠ 1 ∨ v ≠ rd s R.SAF_SIG_CALC.addr ∨ flag s F.SAF_STATE_SIG_BUSY = true ∨ flag s F.GLY_STATUS_SAFETY_CLAMP = true) →
      Goes (.safConfirm h v) s (fun t => flag t F.SAF_STATE_CONF_REFUSED = true ∧
        t.saf = s.saf ∧ t.nv = s.nv ∧
        (RegsKept s t (fun a => commonReg a || a == R.SAF_STATE.addr)) ∧
        t.mem = s.mem)) ∧
  (∀ (s : State) (t0 : Nat) (v : Word),
      s.saf.conf = some v →
      Goes (.confirmRecordDone t0) s (fun t => t.nv.sigConf = v ∧
        t.saf = { s.saf with conf := none } ∧
        flag t F.SAF_STATE_CONFIRMED = decide (rd s R.SAF_SIG_CALC.addr = v) ∧
        (∀ a : Fin 8, hPass t a = (s.nv.hours : Int) - fget s F.SAF_BTI_INT) ∧
        t.mem = s.mem ∧
        (RegsKept s t (fun a => safReg a || a == R.COL_STATUS.addr)))) ∧
  (∀ (s : State) (t0 : Nat),
      s.saf.sig = true →
      Goes (.sigRecomputeDone t0) s (fun t => rd t R.SAF_SIG_CALC.addr = BitVec.ofNat 32 (crc32c (sfImage s)) ∧
        t.saf = { s.saf with sig := false } ∧
        flag t F.SAF_STATE_CONFIRMED = decide (rd t R.SAF_SIG_CALC.addr = s.nv.sigConf) ∧
        t.mem = s.mem ∧
        (RegsKept s t (fun a => a == R.SAF_STATE.addr || a == R.SAF_SIG_CALC.addr || a == R.COL_SIG_CALC.addr || a == R.COL_STATUS.addr)))) ∧
  (∀ (s : State) (t0 : Nat),
      domainOn s 12 = true →
      s.saf.rst = some true →
      resetOk s = true →
      s.saf.bt = none ∧ s.saf.ofsDue = none →
      (∀ n : Fin 8, flag s F.SAF_AXST_SEC_LOST n = false) →
      ((dryCauses s).any (fun c => c.isSome) = true) →
      Goes (.safetyCycle t0 false false) s (fun t => fget t F.SAF_STATE_STATE = 4 ∧
        fget t F.SAF_DRY_LEFT_VAL = fget s F.SAF_TDRY_TDRY ∧
        fget t F.SAF_STATE_PREV = 2 ∧ fget t F.SAF_STATE_CAUSE = 0 ∧
        t.saf.rst = none ∧
        t.mem = s.mem ∧
        (RegsKept s t (fun a => safReg a || a == R.SYS_STATE.addr || within 0x30000 0x3C000 a || within 0x40000 0x50000 a || within 0x70000 0x80000 a || within 0x110000 0x120000 a)))) ∧
  (∀ (s : State) (t0 : Nat),
      domainOn s 12 = true →
      monitorMode s = false →
      fget s F.SAF_STATE_STATE = 4 ∧ fget s F.SAF_STATE_DRY = 0 ∧ fget s F.SAF_DRY_LEFT_VAL ≠ 0 →
      (flag s F.SAF_GEN_AUTO_RETURN = true ∨ s.saf.dryAck = true) →
      s.saf.rst = none ∧ s.saf.bt = none ∧ s.saf.ofsDue = none ∧ s.saf.bad = 0 →
      safeBit s (fget s F.SAF_GEN_RUN_SEL) = true →
      (∀ d : Fin 32, ¬ causeSeen s false d) →
      (∀ n : Fin 8, ∀ i ∈ secOf s n, pageBit s i 4 = false) →
      ((dryCauses s).all (fun c => c.isNone) = true) →
      Goes (.safetyCycle t0 false false) s (fun t => fget t F.SAF_STATE_STATE = 3 ∧
        fget t F.SAF_STATE_PREV = 4 ∧ t.saf.dryAck = false ∧
        t.mem = s.mem ∧
        (RegsKept s t (fun a => safReg a || a == R.SYS_STATE.addr || within 0x30000 0x3C000 a || within 0x40000 0x50000 a || within 0x70000 0x80000 a || within 0x110000 0x120000 a)))) ∧
  (∀ (s : State) (t0 : Nat),
      domainOn s 12 = true →
      monitorMode s = false →
      fget s F.SAF_STATE_STATE = 3 →
      ((dryCauses s).any (fun c => c.isSome) = true) →
      (s.saf.rst = none ∧ s.saf.ofsDue = none ∧ s.saf.bad = 0 ∧ ∀ n : Fin 8, flag s F.SAF_AXST_SEC_LOST n = false) →
      safeBit s (fget s F.SAF_GEN_RUN_SEL) = true →
      (∀ d : Fin 32, ¬ causeSeen s false d) →
      Goes (.safetyCycle t0 false false) s (fun t => fget t F.SAF_STATE_STATE = 4 ∧
        fget t F.SAF_STATE_PREV = 3 ∧ fget t F.SAF_DRY_LEFT_VAL = fget s F.SAF_TDRY_TDRY ∧ t.saf.dryAck = false ∧
        t.mem = s.mem ∧
        (RegsKept s t (fun a => safReg a || a == R.SYS_STATE.addr || within 0x30000 0x3C000 a || within 0x40000 0x50000 a || within 0x70000 0x80000 a || within 0x110000 0x120000 a))))

/-- The brake test runs phase by phase and its result is kept. GO that meets every condition of R285 starts phase 1,
with negative torque when DIR is 2, with RESULT running and takes the start position; one that misses any of them
leaves RESULT 5 refused. The end of the first phase of a test in both directions begins the second; the end of the
last one is PASS, with the powered hours recorded; BT_CANCEL is ABORTED; CLR_FAIL in COMMISSIONING clears the failure
record; a powered hour counts. Memory keeps its contents. -/
def Obligations.BrakeTests : Prop :=
  (∀ (s : State) (h : Via) (a : Fin 8),
      HostOn s R.SAF_BT_CTL.addr →
      fget s F.SAF_STATE_STATE = 3 →
      flag s F.SAF_AX_CFG_EN a = true →
      fget s F.SAF_AX_CFG_SBC a < 8 →
      fbit s F.SAF_BRAKE_APPLIED (fget s F.SAF_AX_CFG_SBC a) = true →
      fbit s F.SAF_BRAKE_STO_ASSERTED (fget s F.SAF_AX_CFG_STO a) = false →
      pageBit s (fget s F.SAF_AX_CFG_PRI a) 0 = true →
      s.saf.bt = none →
      fgetInt s F.SAF_AX_I_RATED_VAL a * fget s F.SAF_AX_BT1_TORQUE a ≤ 95 * 2 ^ 23 →
      Goes (.btGo h a) s (fun t => t.saf = { s.saf with bt := some (a.val, btNeg s a, axPos s a, false) } ∧
        fget t F.SAF_BT_STATUS_AXIS = a ∧ fget t F.SAF_BT_STATUS_RESULT = 1 ∧ fget t F.SAF_BT_STATUS_PHASE = 1 ∧ fget t F.SAF_BT_STATUS_MOVE = 0 ∧
        (RegsKept s t (fun x => commonReg x || x == R.SAF_BT_STATUS.addr)) ∧
        t.mem = s.mem)) ∧
  (∀ (s : State) (h : Via) (a : Fin 8),
      HostOn s R.SAF_BT_CTL.addr →
      ¬ (fget s F.SAF_STATE_STATE = 3 ∧ flag s F.SAF_AX_CFG_EN a = true ∧ fget s F.SAF_AX_CFG_SBC a < 8 ∧ fbit s F.SAF_BRAKE_APPLIED (fget s F.SAF_AX_CFG_SBC a) = true ∧ fbit s F.SAF_BRAKE_STO_ASSERTED (fget s F.SAF_AX_CFG_STO a) = false ∧ pageBit s (fget s F.SAF_AX_CFG_PRI a) 0 = true ∧ s.saf.bt = none ∧ fgetInt s F.SAF_AX_I_RATED_VAL a * fget s F.SAF_AX_BT1_TORQUE a ≤ 95 * 2 ^ 23) →
      Goes (.btGo h a) s (fun t => fget t F.SAF_BT_STATUS_RESULT = 5 ∧
        (RegsKept s t (fun x => x == R.SAF_BT_STATUS.addr)) ∧
        t.saf = s.saf ∧
        t.mem = s.mem)) ∧
  (∀ (s : State) (t0 : Nat) (a : Fin 8) (n : Bool) (p : Int) (k : Bool),
      s.saf.bt = some (a.val, n, p, k) →
      Goes (.brakeTestCheckStart t0) s (fun t => t = { s with saf := { s.saf with bt := some (a.val, n, p, true) }, tim := t.tim })) ∧
  (∀ (s : State) (t0 : Nat) (a : Fin 8) (n : Bool) (p : Int) (k : Bool),
      s.saf.bt = some (a.val, n, p, k) →
      fget s F.SAF_AX_BT1_DIR a = 3 →
      fget s F.SAF_BT_STATUS_PHASE = 1 →
      Goes (.brakeTestPhaseEnd t0) s (fun t => t.saf = { s.saf with bt := some (a.val, true, p, false) } ∧
        fget t F.SAF_BT_STATUS_PHASE = 2 ∧
        (RegsKept s t (fun x => commonReg x || x == R.SAF_BT_STATUS.addr)) ∧
        t.mem = s.mem)) ∧
  (∀ (s : State) (t0 : Nat) (a : Fin 8) (n : Bool) (p : Int) (k : Bool),
      s.saf.bt = some (a.val, n, p, k) →
      (fget s F.SAF_AX_BT1_DIR a ≠ 3 ∨ fget s F.SAF_BT_STATUS_PHASE = 2) →
      Goes (.brakeTestPhaseEnd t0) s (fun t => t.saf = { s.saf with bt := none } ∧
        fget t F.SAF_BT_STATUS_RESULT = 2 ∧ fget t F.SAF_BT_STATUS_PHASE = 0 ∧
        hPass t a = s.nv.hours ∧
        t.nv.btFail = s.nv.btFail ∧
        RegsKept s t safReg ∧
        t.mem = s.mem)) ∧
  (∀ (s : State) (h : Via) (a : Fin 8) (n : Bool) (p : Int) (k : Bool),
      HostOn s R.SAF_BT_CTL.addr →
      s.saf.bt = some (a.val, n, p, k) →
      Goes (.btCancel h) s (fun t => t.saf = { s.saf with bt := none } ∧
        fget t F.SAF_BT_STATUS_RESULT = 4 ∧ fget t F.SAF_BT_STATUS_PHASE = 0 ∧
        t.nv = s.nv ∧
        RegsKept s t safReg ∧
        t.mem = s.mem)) ∧
  (∀ (s : State) (h : Via) (a : Fin 8),
      HostOn s R.SAF_BT_CTL.addr →
      fget s F.SAF_STATE_STATE = 1 →
      Goes (.btClrFail h a) s (fun t => t.nv.btFail.getLsbD a = false ∧
        (∀ b : Fin 8, b ≠ a → t.nv.btFail.getLsbD b = s.nv.btFail.getLsbD b ∧ hPass t b = hPass s b) ∧
        hPass t a = (s.nv.hours : Int) - fget s F.SAF_BTI_INT - fget s F.SAF_BTI_GRACE ∧
        RegsKept s t safReg ∧
        t.saf = s.saf ∧
        t.mem = s.mem)) ∧
  (∀ (s : State) (t0 : Nat),
      Goes (.poweredHour t0) s (fun t => t.nv = { s.nv with hours := s.nv.hours + 1 } ∧
        (∀ a : Fin 8, flag t F.SAF_AXST_BT_DUE a = (fget s F.SAF_BTI_INT != 0 && decide ((fget s F.SAF_BTI_INT : Int) ≤ (s.nv.hours + 1 : Nat) - hPass s a))) ∧
        t = { s with regs := t.regs, nv := t.nv, tim := t.tim } ∧
        RegsKept s t safReg))

/-- Lost secondaries, Proof windows, contactor feedback and diagnostics. Outside monitor mode a secondary that shows
FRESH and no LOST has SEC_LOST cleared and the plausibility offset taken afresh; the close of the window of a SEQ
whose copy came on one path alone marks the other path lost, and counts it in SINGLES; an enabled feedback input that
differs from its command is noted in discrepancy, and one that matches after a change of its command is no longer; a
clean diagnostic pass counts and sets DIAG_OK; a clock check inside its window notes the measure and stops nothing.
Memory keeps its contents. In a clause that names or bounds the registers it writes, every other register keeps its
value. -/
def Obligations.SafetyDiagnostics : Prop :=
  (∀ (s : State) (t0 : Nat) (a : Fin 8) (j : Nat),
      secOf s a = some j →
      flag s F.SAF_AXST_SEC_LOST a = true →
      monitorMode s = false →
      pageBit s j 4 = false →
      pageBit s j 5 = true →
      Goes (.secLostClear t0 a) s (fun t => flag t F.SAF_AXST_SEC_LOST a = false ∧
        (t.sax a).ofs = axDiff s a j ∧
        t = { s with regs := t.regs, saf := t.saf, tim := t.tim } ∧
        (RegsKept s t (fun x => x == R.SAF_AXST.at a)))) ∧
  (∀ (s : State) (t0 : Nat) (n : Fin 8) (q : Word) (w : PWin),
      ((s.ps n).wins.find? (fun x => x.seq == q.toNat) = some w) →
      (w.used = true ∨ seqNew (s.ps n).last w.seq = true) →
      Goes (.proofWindowClose t0 n q) s (fun t => ((t.ps n).wins.find? (fun x => x.seq == q.toNat) = none) ∧
        flag t (pathFld (1 - w.port)) n = true ∧
        fget t F.SAF_PS_CNT_SINGLES n = min 65535 (fget s F.SAF_PS_CNT_SINGLES n + 1) ∧
        (w.used = false → (t.ps n).last = some w.seq) ∧
        t.mem = s.mem ∧
        (RegsKept s t (fun a => safReg a)))) ∧
  (∀ (s : State) (t0 : Nat) (k : Fin 16),
      flag s F.SAF_KFB_CFG_EN k = true →
      fbit s F.FIO_KFB_LEVEL k ≠ kfbExpected s k →
      Goes (.kfbDiscrepancy t0 k) s (fun t => t.saf.kfb.testBit k = true ∧
        t.mem = s.mem ∧
        (RegsKept s t (fun a => safReg a || a == R.SYS_STATE.addr || within 0x30000 0x3C000 a || within 0x40000 0x50000 a)))) ∧
  (∀ (s : State) (t0 : Nat) (k : Fin 16),
      fbit s F.FIO_KFB_LEVEL k = kfbExpected s k →
      s.saf.kfbChg.testBit k = true →
      Goes (.kfbDiscrepancyClear t0 k) s (fun t => t.saf.kfb.testBit k = false ∧
        (∀ j : Fin 16, j ≠ k → t.saf.kfb.testBit j = s.saf.kfb.testBit j) ∧
        t = { s with saf := { s.saf with kfb := t.saf.kfb, kfbChg := t.saf.kfbChg }, tim := t.tim })) ∧
  (∀ (s : State) (t0 : Nat),
      domainOn s 12 = true →
      Goes (.diagPass t0 false false 0) s (fun t => flag t F.SAF_STATE_DIAG_OK = true ∧
        fget t F.SAF_DIAG_PASSES = (fget s F.SAF_DIAG_PASSES + 1) % 2 ^ 8 ∧
        t = { s with regs := t.regs, saf := t.saf, tim := t.tim, hwCyc := t.hwCyc, hwBits := t.hwBits } ∧
        (RegsKept s t (fun x => x == R.SAF_DIAG.addr || x == R.SAF_STATE.addr)))) ∧
  (∀ (s : State) (t0 : Nat) (n : Nat),
      domainOn s 12 = true →
      s.pwr.sysRet = false →
      242500 ≤ n →
      n ≤ 257500 →
      Goes (.clockCheck t0 n) s (fun t => t.saf.bad.testBit 0 = false ∧
        t = { s with regs := t.regs, saf := t.saf, tim := t.tim } ∧
        (RegsKept s t (fun x => x == R.SAF_DIAG.addr))))

/-- Field inputs, outputs, diagnostics and the watchdog. With PD_FIO on: an enabled input with its ball and supply
takes the level it has held for DEB, and contactor feedback its filtered level; FIO.OUT stores the commanded levels;
overload of a driven output and overtemperature of an output set their DIAG bit and hold it off, and an open wire that
is enabled and not masked by a low supply sets its bit; DIAG_CLEAR clears the bits written, OT only when the junction
has cooled; after a sag an open wire is masked until RECOVERED and for 100 ms after; a kick restarts the watchdog; an
enabled watchdog that no restart has reached for MS sets WDT_EXP and holds the driven levels, with the outputs whose
safe state is off not driven, and before that expiry does nothing; clearing WDT_EXP ends it and restarts the watchdog.
Memory keeps its contents. -/
def Obligations.FieldInputsOutputs : Prop :=
  (∀ (s : State) (t0 : Nat) (n : Fin 32) (l : Bool),
      domainOn s 13 = true →
      (fget s F.FIO_CH_CFG_MODE n = 1 ∨ fget s F.FIO_CH_CFG_MODE n = 2) →
      hasBall s 0x0C n = true →
      s.fio.absent.testBit (fioGroup n) = false →
      Goes (.fioInputAccept t0 n l) s (fun t => fbit t F.FIO_IN_LEVEL n = l ∧
        (RegsKept s t (fun a => commonReg a || a == R.FIO_IN.addr || within 0x60000 0x70000 a || within 0x50000 0x60000 a || R.PAR_FEED_STATUS.hits a)) ∧
        t.mem = s.mem)) ∧
  (∀ (s : State) (t0 : Nat) (k : Fin 16) (l : Bool),
      domainOn s 13 = true →
      hasBall s 0x0F k = true →
      s.fio.absent.testBit (k / 4) = false →
      Goes (.kfbInputChange t0 k l) s (fun t => fbit t F.FIO_KFB_LEVEL k = l ∧
        (RegsKept s t (fun a => a == R.FIO_KFB.addr)) ∧
        t = { s with regs := t.regs, tim := t.tim })) ∧
  (∀ (s : State) (h : Via) (v : Word),
      HostOn s R.FIO_OUT.addr →
      Goes (.fioOutWrite h v) s (fun t => fget t F.FIO_OUT_CMD = v.toNat ∧
        (RegsKept s t (fun a => a == R.FIO_OUT.addr)) ∧
        t.mem = s.mem)) ∧
  (∀ (s : State) (t0 : Nat) (n : Fin 32),
      fioDriven s n = true →
      Goes (.outputOverload t0 n) s (fun t => flag t F.FIO_CH_DIAG_OVL n = true ∧ fioDriven t n = false ∧
        (RegsKept s t (fun a => commonReg a || a == R.FIO_CH_DIAG.at n)) ∧
        t.mem = s.mem)) ∧
  (∀ (s : State) (t0 : Nat) (n : Fin 32),
      domainOn s 13 = true →
      fget s F.FIO_CH_CFG_MODE n = 3 →
      Goes (.outputOvertemp t0 n) s (fun t => flag t F.FIO_CH_DIAG_OT n = true ∧ fioDriven t n = false ∧
        (RegsKept s t (fun a => commonReg a || a == R.FIO_CH_DIAG.at n)) ∧
        t.mem = s.mem)) ∧
  (∀ (s : State) (t0 : Nat) (n : Fin 32),
      domainOn s 13 = true →
      fget s F.FIO_CH_CFG_MODE n = 3 →
      flag s F.FIO_CH_CFG_OW_EN n = true →
      flag s F.FIO_GRP_STATUS_FIELD_WARN (fioGroup n) = false →
      (flag s F.FIO_GRP_STATUS_FIELD_UV (fioGroup n) = true → flag s F.FIO_GRP_STATUS_RECOVERED (fioGroup n) = true) →
      (∀ e ∈ s.fio.recAt, e.1 = fioGroup n → e.2 + 25600000000 ≤ clk (advance t0 s)) →
      Goes (.openWire t0 n) s (fun t => flag t F.FIO_CH_DIAG_OPEN n = true ∧
        fioDriven t n = fioDriven s n ∧
        (RegsKept s t (fun a => commonReg a || a == R.FIO_CH_DIAG.at n)) ∧
        t.mem = s.mem)) ∧
  (∀ (s : State) (t0 : Nat) (n : Fin 32),
      flag s F.FIO_GRP_STATUS_FIELD_UV (fioGroup n) = true →
      flag s F.FIO_GRP_STATUS_RECOVERED (fioGroup n) = false →
      Goes (.openWire t0 n) s (fun t => t = { s with tim := t.tim })) ∧
  (∀ (s : State) (t0 : Nat) (n : Fin 32) (b : Nat),
      (s.fio.recAt.find? (fun e => e.1 == fioGroup n) = some (fioGroup n, b)) →
      clk (advance t0 s) < b + 25600000000 →
      Goes (.openWire t0 n) s (fun t => t = { s with tim := t.tim })) ∧
  (∀ (s : State) (h : Via) (n : Fin 32) (v : Word) (hot : Bool),
      HostOn s (R.FIO_CH_DIAG.at n) →
      justSet (advance h.t s) (R.FIO_CH_DIAG.at n) = 0#32 →
      Goes (.diagClear h n v hot) s (fun t => flag t F.FIO_CH_DIAG_OVL n = (flag s F.FIO_CH_DIAG_OVL n && !v.getLsbD 0) ∧
        flag t F.FIO_CH_DIAG_OT n = (flag s F.FIO_CH_DIAG_OT n && !(v.getLsbD 1 && !hot)) ∧
        flag t F.FIO_CH_DIAG_OPEN n = (flag s F.FIO_CH_DIAG_OPEN n && !v.getLsbD 2) ∧
        (RegsKept s t (fun a => a == R.FIO_CH_DIAG.at n)) ∧
        t.mem = s.mem)) ∧
  (∀ (s : State) (h : Via),
      HostOn s R.FIO_WDT.addr →
      Goes (.wdtKick h) s (fun t => t.regs = s.regs ∧
        t.fio = { s.fio with wdtAt := clk t } ∧
        t.mem = s.mem)) ∧
  (∀ (s : State) (t0 : Nat),
      domainOn s 13 = true →
      flag s F.FIO_WDT_EN = true →
      flag s F.FIO_STATUS_WDT_EXP = false →
      s.fio.wdtAt + 256000000 * fget s F.FIO_WDT_MS ≤ clk (advance t0 s) →
      Goes (.wdtExpire t0) s (fun t => flag t F.FIO_STATUS_WDT_EXP = true ∧
        (∀ n : Fin 32, t.fio.held.testBit n = fioDriven s n) ∧
        (∀ n : Fin 32, flag s F.FIO_CH_CFG_WDT_EN n = true → fget s F.FIO_CH_CFG_SRC n ≤ 1 → fget s F.FIO_CH_CFG_SAFE_ST n = 0 ∨ safeOut s n = true → fioDriven t n = false) ∧
        t = { s with regs := t.regs, fio := { s.fio with held := t.fio.held }, tim := t.tim, hwCyc := t.hwCyc, hwBits := t.hwBits } ∧
        (RegsKept s t (fun a => a == R.FIO_STATUS.addr)))) ∧
  (∀ (s : State) (t0 : Nat),
      clk (advance t0 s) < s.fio.wdtAt + 256000000 * fget s F.FIO_WDT_MS →
      Goes (.wdtExpire t0) s (fun t => t = { s with tim := t.tim })) ∧
  (∀ (s : State) (h : Via),
      HostOn s R.FIO_STATUS.addr →
      (justSet (advance h.t s) R.FIO_STATUS.addr).getLsbD 0 = false →
      Goes (.wdtExpClear h) s (fun t => flag t F.FIO_STATUS_WDT_EXP = false ∧
        t.fio = { s.fio with wdtAt := clk t } ∧
        (RegsKept s t (fun a => a == R.FIO_STATUS.addr)) ∧
        t.mem = s.mem))

/-- Field supplies, brake pairs and torque-off outputs. With PD_FIO on: a supply below 15 V sets FIELD_UV, asserts
both torque-off outputs and applies both brake pairs of its group, and one of at least 18 V clears FIELD_WARN and
leaves FIELD_UV; a recovered sag sets RECOVERED, and its acknowledge clears both bits, or sets ACK_REFUSED without
recovery; a released pair goes to hold PWM when PULL ends; a test pulse stores the coil current; a coil fault applies
the pair and sets its bit; a torque-off test pulse changes nothing but the time; an overload of a released torque-off
output sets OVL and asserts it. Memory keeps its contents. In a clause that names or bounds the registers it writes,
every other register keeps its value. -/
def Obligations.SuppliesAndBrakes : Prop :=
  (∀ (s : State) (t0 : Nat) (g : Fin 4) (v : BitVec 10),
      domainOn s 13 = true →
      v.toNat < 150 →
      Goes (.vfldMeasure t0 g v) s (fun t => fget t F.FIO_GRP_STATUS_VOLT g = v.toNat ∧
        flag t F.FIO_GRP_STATUS_FIELD_UV g = true ∧ flag t F.FIO_GRP_STATUS_RECOVERED g = false ∧
        fbit t F.SAF_BRAKE_STO_ASSERTED (2 * g) = true ∧ fbit t F.SAF_BRAKE_STO_ASSERTED (2 * g + 1) = true ∧
        sbcOn t (2 * g) = false ∧ sbcOn t (2 * g + 1) = false ∧
        t.mem = s.mem ∧
        (RegsKept s t (fun a => safReg a || within 0x30000 0x3C000 a || within 0x40000 0x50000 a || within 0x70000 0x80000 a || R.PAR_FEED_STATUS.hits a)))) ∧
  (∀ (s : State) (t0 : Nat) (g : Fin 4) (v : BitVec 10),
      domainOn s 13 = true →
      180 ≤ v.toNat →
      Goes (.vfldMeasure t0 g v) s (fun t => fget t F.FIO_GRP_STATUS_VOLT g = v.toNat ∧
        flag t F.FIO_GRP_STATUS_FIELD_WARN g = false ∧
        flag t F.FIO_GRP_STATUS_FIELD_UV g = flag s F.FIO_GRP_STATUS_FIELD_UV g ∧
        t = { s with regs := t.regs, tim := t.tim } ∧
        (RegsKept s t (fun a => a == R.FIO_GRP_STATUS.at g)))) ∧
  (∀ (s : State) (t0 : Nat) (g : Fin 4),
      flag s F.FIO_GRP_STATUS_FIELD_UV g = true →
      190 < fget s F.FIO_GRP_STATUS_VOLT g →
      Goes (.fieldRecovered t0 g) s (fun t => flag t F.FIO_GRP_STATUS_RECOVERED g = true ∧
        t.fio = { s.fio with recAt := SMap.ins s.fio.recAt g (clk t) } ∧
        t = { s with regs := t.regs, fio := t.fio, tim := t.tim, hwCyc := t.hwCyc, hwBits := t.hwBits } ∧
        (RegsKept s t (fun a => a == R.FIO_GRP_STATUS.at g)))) ∧
  (∀ (s : State) (h : Via) (g : Fin 4),
      HostOn s (R.FIO_GRP_CTL.at g) →
      flag s F.FIO_GRP_STATUS_RECOVERED g = true →
      Goes (.uvAck h g) s (fun t => flag t F.FIO_GRP_STATUS_FIELD_UV g = false ∧ flag t F.FIO_GRP_STATUS_RECOVERED g = false ∧
        (RegsKept s t (fun a => a == R.FIO_GRP_STATUS.at g)) ∧
        t.mem = s.mem)) ∧
  (∀ (s : State) (h : Via) (g : Fin 4),
      HostOn s (R.FIO_GRP_CTL.at g) →
      flag s F.FIO_GRP_STATUS_RECOVERED g = false →
      Goes (.uvAck h g) s (fun t => flag t F.FIO_GRP_STATUS_ACK_REFUSED g = true ∧
        flag t F.FIO_GRP_STATUS_FIELD_UV g = flag s F.FIO_GRP_STATUS_FIELD_UV g ∧
        (RegsKept s t (fun a => a == R.FIO_GRP_STATUS.at g)) ∧
        t.mem = s.mem)) ∧
  (∀ (s : State) (t0 : Nat) (p : Fin 8) (mA : BitVec 12),
      domainOn s 13 = true →
      sbcOn s p = true →
      Goes (.sbcPullEnd t0 p mA) s (fun t => t.fio.sbcHold.testBit p = true ∧
        fget t F.FIO_SBC_STATUS_I p = mA.toNat ∧
        t = { s with regs := t.regs, fio := t.fio, tim := t.tim } ∧
        (RegsKept s t (fun a => a == R.FIO_SBC_STATUS.at p)))) ∧
  (∀ (s : State) (t0 : Nat) (p : Fin 8) (mA : BitVec 12),
      domainOn s 13 = true →
      Goes (.sbcTestPulse t0 p mA) s (fun t => fget t F.FIO_SBC_STATUS_I p = mA.toNat ∧
        t = { s with regs := t.regs, tim := t.tim } ∧
        (RegsKept s t (fun a => a == R.FIO_SBC_STATUS.at p)))) ∧
  (∀ (s : State) (t0 : Nat) (p : Fin 8) (o : Bool) (mA : BitVec 12),
      domainOn s 13 = true →
      (o = false ∨ sbcOn s p = true) →
      Goes (.sbcFault t0 p o mA) s (fun t => sbcOn t p = false ∧
        (flag t (if o then F.FIO_SBC_STATUS_OPEN else F.FIO_SBC_STATUS_OVL) p = true) ∧
        fget t F.FIO_SBC_STATUS_I p = mA.toNat ∧
        (RegsKept s t (fun a => commonReg a || a == R.FIO_SBC_STATUS.at p || a == R.SAF_BRAKE.addr)) ∧
        t.mem = s.mem)) ∧
  (∀ (s : State) (t0 : Nat) (n : Fin 8),
      Goes (.stoTestPulse t0 n) s (fun t => t = { s with tim := t.tim })) ∧
  (∀ (s : State) (t0 : Nat) (n : Fin 8),
      domainOn s 13 = true →
      fbit s F.SAF_BRAKE_STO_ASSERTED n = false →
      Goes (.stoOverload t0 n) s (fun t => fbit t F.FIO_STO_OVL n = true ∧
        fbit t F.SAF_BRAKE_STO_ASSERTED n = true ∧
        t.mem = s.mem ∧
        (RegsKept s t (fun a => safReg a || within 0x30000 0x3C000 a || within 0x40000 0x50000 a || within 0x70000 0x80000 a || R.PAR_FEED_STATUS.hits a))))

/-- SET, slews, pulses and the AON increment act on the time base as the spec says. Outside DOZE with PD_SYS on: a
slew whose given-up amount has reached its total returns to TRACK with INCR at the servo value; ACCEPT_STEP after a
refused jump lifts the limit for the next offset; SET by the host in TRACK makes LNS the value set when it is ahead by
at least STEP_MIN and within the limit, starts a slew over the whole amount when it is behind within the limit, and
beyond the limit sets JUMP_REFUSED, enters HOLD and leaves LNS; an edge of PPS_IN is stamped; PPS_OUT rises at a whole
multiple of 10^9 ns, within 10 ns, and at no other LNS, and falls when it has been high for WIDTH ms, and not before;
a measured X32 period is stored. Memory keeps its contents. -/
def Obligations.TimeBaseCommands : Prop :=
  (∀ (s : State) (t0 : Nat),
      s.tim.st = .slew →
      timLive s = true →
      s.tim.slewLeft ≤ slewGiven (advance t0 s) →
      Goes (.slewComplete t0) s (fun t => t.tim.st = .track ∧ t.tim.slewLeft = 0 ∧ t.tim.incr = s.tim.servo ∧
        t.tim.acc = max s.tim.acc (t0 * 2 ^ 18) ∧
        t.mem = s.mem ∧
        RegsKept s t commonReg)) ∧
  (∀ (s : State) (h : Via),
      HostOn s R.TIM_CTL.addr →
      flag s F.TIM_STATUS_JUMP_REFUSED = true →
      Goes (.acceptStep h) s (fun t => t.tim.accept = true ∧
        t.regs = s.regs ∧
        t.mem = s.mem)) ∧
  (∀ (s : State) (h : Via) (d : Int),
      HostOn s R.TIM_CTL.addr →
      s.tim.st = .track ∧ s.tim.accept = false ∧ s.tim.xhold = false →
      d = (fget s F.TIM_SET_L_VAL + 2 ^ 32 * fget s F.TIM_SET_H_VAL : Int) - lns (advance h.t s) →
      0 < d ∧ (fget s F.TIM_STEP_MIN_MIN : Int) ≤ d ∧ d ≤ fget s F.TIM_STEP_LIMIT_LIMIT →
      Goes (.timSet h) s (fun t => lns t = fget s F.TIM_SET_L_VAL + 2 ^ 32 * fget s F.TIM_SET_H_VAL ∧
        t.tim.st = .track ∧
        fget t F.TIM_STEP_LNS_L_VAL = lns t % 2 ^ 32 ∧ fget t F.TIM_STEP_DELTA_L_VAL = d.toNat % 2 ^ 32 ∧
        (RegsKept s t (fun a => timReg a || within 0x40000 0x50000 a)) ∧
        t.mem = s.mem)) ∧
  (∀ (s : State) (h : Via) (d : Int),
      HostOn s R.TIM_CTL.addr →
      s.tim.st = .track ∧ s.tim.accept = false ∧ s.tim.xhold = false →
      d = (fget s F.TIM_SET_L_VAL + 2 ^ 32 * fget s F.TIM_SET_H_VAL : Int) - lns (advance h.t s) →
      d < 0 ∧ (fget s F.TIM_STEP_MIN_MIN : Int) ≤ -d ∧ -d ≤ fget s F.TIM_STEP_LIMIT_LIMIT →
      Goes (.timSet h) s (fun t => t.tim.st = .slew ∧ t.tim.slewLeft = 65536 * d.natAbs ∧ t.tim.slewDone = 0 ∧
        t.tim.servo = s.tim.servo ∧ t.tim.acc = (advance h.t s).tim.acc ∧
        t.regs = s.regs ∧
        t.mem = s.mem)) ∧
  (∀ (s : State) (h : Via) (d : Int),
      HostOn s R.TIM_CTL.addr →
      s.tim.st = .track ∧ s.tim.accept = false ∧ s.tim.xhold = false →
      d = (fget s F.TIM_SET_L_VAL + 2 ^ 32 * fget s F.TIM_SET_H_VAL : Int) - lns (advance h.t s) →
      (fget s F.TIM_STEP_MIN_MIN : Int) ≤ d.natAbs ∧ (fget s F.TIM_STEP_LIMIT_LIMIT : Int) < d.natAbs →
      Goes (.timSet h) s (fun t => flag t F.TIM_STATUS_JUMP_REFUSED = true ∧
        t.tim.st = .hold ∧
        t.tim.acc = (advance h.t s).tim.acc ∧
        RegsKept s t timReg ∧
        t.mem = s.mem)) ∧
  (∀ (s : State) (t0 : Nat),
      timLive s = true →
      flag s F.TIM_PPS_IN_EN = true →
      hasBall s 0x0A 0 = true →
      Goes (.ppsInEdge t0) s (fun t => fget t F.TIM_PPS_IN_T_T = stamp (advance t0 s) ∧
        t.mem = s.mem ∧
        (RegsKept s t (fun a => timReg a || within 0x40000 0x50000 a)))) ∧
  (∀ (s : State) (t0 : Nat),
      timLive s = true →
      flag s F.TIM_PPS_OUT_EN = true →
      hasBall s 0x0A 1 = true →
      (lns (advance t0 s) + 10) % 1000000000 ≤ 20 →
      Goes (.ppsOutRise t0) s (fun t => t.pins.ppsOut = true ∧
        t = { s with pins := t.pins, tim := t.tim, since := t.since })) ∧
  (∀ (s : State) (t0 : Nat),
      20 < (lns (advance t0 s) + 10) % 1000000000 →
      Goes (.ppsOutRise t0) s (fun t => t = { s with tim := t.tim })) ∧
  (∀ (s : State) (t0 : Nat),
      s.pins.ppsOut = true →
      quietFor Timed.pps (1000000 * fget s F.TIM_PPS_WIDTH) (advance t0 s) = true →
      Goes (.ppsOutFall t0) s (fun t => t.pins.ppsOut = false ∧
        t = { s with pins := t.pins, tim := t.tim })) ∧
  (∀ (s : State) (t0 : Nat),
      quietFor Timed.pps (1000000 * fget s F.TIM_PPS_WIDTH) (advance t0 s) = false →
      Goes (.ppsOutFall t0) s (fun t => t = { s with tim := t.tim })) ∧
  (∀ (s : State) (t0 : Nat) (v : Word),
      timLive s = true →
      Goes (.aonIncMeasure t0 v) s (fun t => rd t R.TIM_AON_INC.addr = v ∧
        t = { s with regs := t.regs, tim := t.tim } ∧
        (RegsKept s t (fun a => a == R.TIM_AON_INC.addr))))

/-- PTP messages make the offset and the delay of their instance. A message of the parent of a SLAVE instance,
received from an admitted partner for its domain and transport: a one-step Sync, or the Follow_Up of a two-step Sync
with the same sequenceId, completes a Sync with t1 plus its corrections and t2 of the MDI, and with a known path delay
computes the offset of R332; a two-step Sync awaits its Follow_Up; the Delay_Resp to the port's own request sets the
mean path delay of R332; the Pdelay_Resp, in one step or two, sets the peer delay. Memory keeps its contents. -/
def Obligations.PtpMeasurement : Prop :=
  (∀ (s : State) (t0 : Nat) (p : Fin 2) (m : PtpMsg) (i : Fin 128),
      PtpFrom s p m i →
      fromParent s p m = true →
      m.twoStep = false →
      Goes (.ptpSyncReceive t0 p m) s (fun t => (t.port p).last = some (nsU * m.ts.toNat + ratio s p m.corr.toInt, mdiIn s p t0) ∧
        (t.port p).sync = none ∧
        (∀ d, (s.port p).mpd = some d → (t.port p).ofs = nsU * m.ts.toNat + ratio s p m.corr.toInt + d + 256 * fgetInt s F.TIM_P_ASYM_VAL p - mdiIn s p t0) ∧
        t.mem = s.mem ∧
        (RegsKept s t (fun a => rxReg p i a || timReg a || within 0x40000 0x50000 a)))) ∧
  (∀ (s : State) (t0 : Nat) (p : Fin 2) (m : PtpMsg) (i : Fin 128),
      PtpFrom s p m i →
      fromParent s p m = true →
      m.twoStep = true →
      Goes (.ptpSyncReceive t0 p m) s (fun t => (t.port p).sync = some (m.seq.toNat, mdiIn s p t0, m.corr.toInt) ∧
        t.mem = s.mem ∧
        t.tim.st = s.tim.st ∧
        RegsKept s t (rxReg p i))) ∧
  (∀ (s : State) (t0 : Nat) (p : Fin 2) (m : PtpMsg) (i : Fin 128) (t2 : Int) (c : Int),
      PtpFrom s p m i →
      fromParent s p m = true →
      (s.port p).sync = some (m.seq.toNat, t2, c) →
      Goes (.ptpFollowUpReceive t0 p m) s (fun t => (t.port p).last = some (nsU * m.ts.toNat + ratio s p (c + m.corr.toInt), t2) ∧
        (t.port p).sync = none ∧
        (∀ d, (s.port p).mpd = some d → (t.port p).ofs = nsU * m.ts.toNat + ratio s p (c + m.corr.toInt) + d + 256 * fgetInt s F.TIM_P_ASYM_VAL p - t2) ∧
        t.mem = s.mem ∧
        (RegsKept s t (fun a => rxReg p i a || timReg a || within 0x40000 0x50000 a)))) ∧
  (∀ (s : State) (t0 : Nat) (p : Fin 2) (m : PtpMsg) (i : Fin 128) (t3 : Int) (e : Int) (t2 : Int),
      PtpFrom s p m i →
      fromParent s p m = true →
      profile s p = 0 →
      (s.port p).req = some (m.seq.toNat, t3) →
      (s.port p).last = some (e, t2) →
      m.req = portId s p →
      Goes (.ptpDelayRespReceive t0 p m) s (fun t => t.port p = { s.port p with req := none, mpd := some (((t2 - e) + (nsU * m.ts.toNat - t3 - m.corr.toInt)) / 2) } ∧
        t.mem = s.mem ∧
        RegsKept s t (rxReg p i))) ∧
  (∀ (s : State) (t0 : Nat) (p : Fin 2) (m : PtpMsg) (i : Fin 128) (t1 : Int),
      PtpFrom s p m i →
      profile s p ≠ 0 →
      (s.port p).req = some (m.seq.toNat, t1) →
      m.req = portId s p →
      m.twoStep = false →
      Goes (.ptpPdelayRespReceive t0 p m) s (fun t => (t.port p).mpd = some ((ratio s p (mdiIn s p t0 - t1) - m.corr.toInt) / 2) ∧
        (t.port p).req = none ∧
        (t.port p).asCapable = decide (profile s p = 2) ∧
        t.mem = s.mem ∧
        RegsKept s t (rxReg p i))) ∧
  (∀ (s : State) (t0 : Nat) (p : Fin 2) (m : PtpMsg) (i : Fin 128) (t1 : Int) (t2 : Int) (t4 : Int) (c : Int),
      PtpFrom s p m i →
      profile s p ≠ 0 →
      (s.port p).req = some (m.seq.toNat, t1) →
      (s.port p).presp = some (m.seq.toNat, t2, t4, c) →
      m.req = portId s p →
      Goes (.ptpPdelayRespFollowUpReceive t0 p m) s (fun t => (t.port p).mpd = some ((ratio t p (t4 - t1) - (nsU * m.ts.toNat - t2 + c + m.corr.toInt)) / 2) ∧
        (t.port p).req = none ∧ (t.port p).presp = none ∧
        (t.port p).resp = some (nsU * m.ts.toNat, t4) ∧
        t.mem = s.mem ∧
        RegsKept s t (rxReg p i)))

/-- PTP instances choose their master, send and answer. An Announce that an instance without a parent takes makes its
sender the parent and sets the port state by the data sets; the receipt timeout of a listening, passive or slave port
forgets the parent, with MASTER or LISTENING as ROLE says, and three Sync intervals without an offset count in SYNC_TO
and clears the validity of a slave. A MASTER port sends Sync and Announce, a SLAVE port of profile 0 Delay_Req, and a
port of the other profiles Pdelay_Req, each with the next sequenceId, and answers Delay_Req and Pdelay_Req. A message
that R331 does not list counts in CNT.DISC. Memory keeps its contents. -/
def Obligations.PtpMastership : Prop :=
  (∀ (s : State) (t0 : Nat) (p : Fin 2) (m : AnnMsg) (i : Fin 128),
      PtpFrom s p m.msg i →
      (s.port p).gm = none →
      asOk s p = true →
      m.msg.src.toNat / 65536 ≠ (clockId s p).toNat ∧ m.gm.steps.toNat < 255 ∧ clockId s p ∉ m.path →
      Goes (.ptpAnnounceReceive t0 p m) s (fun t => (t.port p).gm = some m.gm ∧ (t.port p).parent = m.msg.src ∧ (t.port p).annAlive = true ∧
        (t.port p).pstate = bestState s p m.gm ∧
        t.mem = s.mem ∧
        (RegsKept s t (fun a => rxReg p i a || timReg a)))) ∧
  (∀ (s : State) (t0 : Nat) (p : Fin 2),
      ptpOn s p = true →
      ((s.port p).pstate = 4 ∨ (s.port p).pstate = 7 ∨ (s.port p).pstate = 9) →
      Goes (.announceReceiptTimeout t0 p) s (fun t => (t.port p).gm = none ∧ (t.port p).annAlive = false ∧
        ((t.port p).pstate = (if flag s F.TIM_P_CFG_ROLE p then 6 else 4)) ∧
        t.mem = s.mem ∧
        RegsKept s t timReg)) ∧
  (∀ (s : State) (t0 : Nat) (p : Fin 2),
      ptpOn s p = true →
      (s.port p).pstate = 9 →
      (∀ x, (s.port p).ofsAt = some x → x + 3 * syncIntv s p ≤ clk (advance t0 s)) →
      Goes (.offsetTimeout t0 p) s (fun t => (t.port p).ofsAt = none ∧
        fget t F.TIM_P_CNT_SYNC_TO p = min 65535 (fget s F.TIM_P_CNT_SYNC_TO p + 1) ∧
        t.mem = s.mem ∧
        RegsKept s t timReg)) ∧
  (∀ (s : State) (t0 : Nat) (p : Fin 2),
      ptpOn s p = true →
      (s.port p).pstate = 6 →
      Goes (.ptpSyncSend t0 p) s (fun t => t.out = s.out ++ [Out.ptp p 0 { ownMsg s p false (s.port p).seqSync with ts := tsOf (mdiOut s p t0), corr := BitVec.ofInt 64 (subNs (mdiOut s p t0)) }] ∧
        t.mem = s.mem ∧
        (RegsKept s t (fun a => a == R.NET_TX_OK.at p)) ∧
        t.port p = { s.port p with seqSync := ((s.port p).seqSync + 1) % 65536 })) ∧
  (∀ (s : State) (t0 : Nat) (p : Fin 2),
      ptpOn s p = true →
      (s.port p).pstate = 6 →
      Goes (.ptpAnnounceSend t0 p) s (fun t => (t.out = s.out ++ [Out.ann p { msg := { ownMsg s p false (s.port p).seqAnn with ts := tsOf (mdiOut s p t0), corr := BitVec.ofInt 64 (subNs (mdiOut s p t0)) }, gm := ownGm s p, utc := BitVec.ofNat 16 (fget s F.TIM_UTC_UTC_OFS), utcValid := flag s F.TIM_UTC_UTC_VALID, leap := BitVec.ofNat 2 (fget s F.TIM_UTC_LEAP), path := if profile s p = 2 then [clockId s p] else [] }]) ∧
        t.port p = { s.port p with seqAnn := ((s.port p).seqAnn + 1) % 65536 } ∧
        t.mem = s.mem ∧
        (RegsKept s t (fun a => a == R.NET_TX_OK.at p)))) ∧
  (∀ (s : State) (t0 : Nat) (p : Fin 2),
      ptpOn s p = true →
      profile s p = 0 →
      (s.port p).pstate = 9 →
      Goes (.ptpDelayReqSend t0 p) s (fun t => t.out = s.out ++ [Out.ptp p 1 (ownMsg s p false (s.port p).seqReq)] ∧
        t.mem = s.mem ∧
        (RegsKept s t (fun a => a == R.NET_TX_OK.at p)) ∧
        (t.port p).req = some ((s.port p).seqReq, mdiOut s p t0))) ∧
  (∀ (s : State) (t0 : Nat) (p : Fin 2),
      ptpOn s p = true →
      profile s p ≠ 0 →
      Goes (.ptpPdelayReqSend t0 p) s (fun t => t.out = s.out ++ [Out.ptp p 2 (ownMsg s p true (s.port p).seqReq)] ∧
        t.mem = s.mem ∧
        (RegsKept s t (fun a => a == R.NET_TX_OK.at p)) ∧
        (t.port p).req = some ((s.port p).seqReq, mdiOut s p t0))) ∧
  (∀ (s : State) (t0 : Nat) (p : Fin 2) (m : PtpMsg) (i : Fin 128),
      PtpFrom s p m i →
      profile s p = 0 →
      (s.port p).pstate = 6 →
      Goes (.ptpDelayReqReceive t0 p m) s (fun t => t.out = s.out ++ [Out.ptp p 9 { ownMsg s p false m.seq.toNat with ts := tsOf (mdiIn s p t0), corr := BitVec.ofInt 64 (m.corr.toInt - subNs (mdiIn s p t0)), req := m.src }] ∧
        t.mem = s.mem ∧
        (RegsKept s t (fun a => rxReg p i a || a == R.NET_TX_OK.at p)))) ∧
  (∀ (s : State) (t0 : Nat) (p : Fin 2) (m : PtpMsg) (i : Fin 128) (d : Nat),
      PtpFrom s p m i →
      profile s p ≠ 0 →
      Goes (.ptpPdelayReqReceive t0 p m d) s (fun t => t.out = s.out ++ [Out.ptp p 3 { ownMsg s p true m.seq.toNat with corr := BitVec.ofInt 64 (m.corr.toInt + (mdiOut s p d - mdiIn s p t0)), req := m.src }] ∧
        t.mem = s.mem ∧
        (RegsKept s t (fun a => rxReg p i a || a == R.NET_TX_OK.at p)))) ∧
  (∀ (s : State) (t0 : Nat) (p : Fin 2) (l : Link),
      portLive s p = true →
      flag s F.TIM_P_CFG_EN p = true →
      l.vid = none →
      l.dst.toNat ∈ ptpMacs →
      Goes (.ptpOtherMessage t0 p l) s (fun t => fget t F.TIM_P_CNT_DISC p = min 65535 (fget s F.TIM_P_CNT_DISC p + 1) ∧
        t = { s with regs := t.regs, tim := t.tim, hwCyc := t.hwCyc, hwBits := t.hwBits } ∧
        (RegsKept s t (fun a => a == R.NET_RX_OK.at p || a == R.TIM_P_CNT.at p))))

/-- The imposition engine takes, applies and sends layouts, and notices losses. Outside DOZE, an enabled transmit
layout that falls due becomes work, or is skipped with OVERRUN while its last work waits; received work of one
endpoint writes that endpoint's value and nothing else of memory, and ends; due work of a periodic layout on an
Ethernet route sends it with the next SEQ and ends; the loss of a receive layout and of one of its paths is noted
once. -/
def Obligations.ImpositionWork : Prop :=
  (∀ (s : State) (t0 : Nat) (i : Fin 512),
      s.sys.st ≠ .doze →
      (s.lay i).en = true ∧ layRx s i = false →
      s.net.work = [] →
      Goes (.layoutDue t0 i none) s (fun t => t.net.work = [⟨i.val, classRank (layClass s i), t0, none⟩] ∧
        t = { s with net := { s.net with work := t.net.work, began := t.net.began }, tim := t.tim })) ∧
  (∀ (s : State) (t0 : Nat) (i : Fin 512) (w : Work) (r : List Work),
      s.sys.st ≠ .doze →
      (s.lay i).en = true ∧ layRx s i = false →
      s.net.work = w :: r →
      w.lay = i.val ∧ w.rx = none →
      Goes (.layoutDue t0 i none) s (fun t => (t.lay i).overrun = true ∧
        t.net.work = s.net.work ∧
        fget t F.IMP_STATUS_OVERRUN = 1 ∧
        (RegsKept s t (fun a => commonReg a || a == R.IMP_STATUS.addr)) ∧
        t.mem = s.mem)) ∧
  (∀ (s : State) (t0 : Nat) (i : Fin 512) (q : Nat) (pay : List Byte) (w : Work) (r : List Work),
      s.sys.st ≠ .doze →
      s.net.work = w :: r →
      w.lay = i.val ∧ w.rx = some (q, pay) →
      (s.lay i).en = true →
      layCount s i = 1 ∧ layMark s i = false →
      impPeek s (fget s F.IMP_DESC_BASE_INDEX + 2 * layFirst s i) / 64 % 4 = 1 →
      poisoned s (sramAt (fget s F.IMP_DESC_BASE_INDEX + 2 * layFirst s i)) = false →
      Goes (.receiveApply t0 []) s (fun t => memNat t (sramAt (epVal s (layFirst s i))) 4 = epExtend (impPeek s (fget s F.IMP_DESC_BASE_INDEX + 2 * layFirst s i)) (leNat pay / 2 ^ epOfs (impPeek s (fget s F.IMP_DESC_BASE_INDEX + 2 * layFirst s i))) ∧
        (MemKept s t (fun a => within (sramAt (epVal s (layFirst s i))) (sramAt (epVal s (layFirst s i)) + 4) a)) ∧
        t.net.work = r ∧
        (RegsKept s t (fun a => a == R.IMP_LOAD.addr || R.PAR_FEED_STATUS.hits a)))) ∧
  (∀ (s : State) (t0 : Nat) (i : Fin 512) (w : Work) (r : List Work) (q : Nat),
      s.sys.st ≠ .doze →
      s.net.work = w :: r →
      w.lay = i.val ∧ w.rx = none →
      (s.lay i).en = true →
      layRoute s i < 3 ∧ layClass s i ≠ 3 →
      (s.lay i).last = some q →
      Goes (.layoutWorkComplete t0 []) s (fun t => t.net.work = r ∧
        (t.lay i).last = some ((q + 1) % 2 ^ 32) ∧ (t.lay i).seq = (q + 1) % 2 ^ 32 ∧
        (portLive s 0 = true → routeHas (layRoute s i) 0 = true → t.net.tx0.length = s.net.tx0.length + 1) ∧
        (portLive s 1 = true → routeHas (layRoute s i) 1 = true → t.net.tx1.length = s.net.tx1.length + 1) ∧
        t.mem = s.mem)) ∧
  (∀ (s : State) (t0 : Nat) (i : Fin 512),
      s.sys.st ≠ .doze →
      (s.lay i).en = true ∧ layRx s i = true ∧ layWd s i ≠ 0 ∧ (s.lay i).lost = false →
      layBits s i 0 14 1 = 0 →
      Goes (.layoutLost t0 i []) s (fun t => (t.lay i).lost = true ∧
        t.mem = s.mem ∧
        RegsKept s t commonReg ∧
        t.net.work = s.net.work)) ∧
  (∀ (s : State) (t0 : Nat) (i : Fin 512) (p : Fin 2),
      s.sys.st ≠ .doze →
      (s.lay i).en = true ∧ layRx s i = true ∧ layRoute s i = 2 ∧ layWd s i ≠ 0 →
      ((if p = 0 then (s.lay i).pathA else (s.lay i).pathB) = false) →
      Goes (.pathLost t0 i p) s (fun t => ((if p = 0 then (t.lay i).pathA else (t.lay i).pathB) = true) ∧
        (t.lay i).lost = (s.lay i).lost ∧
        t.mem = s.mem ∧
        RegsKept s t commonReg ∧
        t.net.work = s.net.work))

/-- Frames on the Ethernet ports are taken by what they carry. A broadcast folio frame of a known partner whose length
and authentication are those of the one receive layout that it names, newer than its last, is accepted: LAST takes its
SEQ, the loss ends and its application becomes work. In every safety state a Proof frame of a session counts as a
frame of its context, its first valid copy of a newer SEQ opens a window and, while the other path is lost, is
accepted and makes the session UP, the second copy with other bytes 0x00 to 0x13 makes a safe stop with cause
PROOF_MISMATCH, and a copy whose SEQ is not newer counts in DISCARDED; a wake frame of a pinned partner wakes the
device from DOZE. An ARP request for the port's address is answered. A change of link speed shows in STATUS. A frame
for ETHC goes to the next descriptor of the receive ring that ETHC owns, which takes its length, and the ring
advances. In a clause that names or bounds the registers it writes, every other register keeps its value. -/
def Obligations.FramesReceived : Prop :=
  (∀ (s : State) (t0 : Nat) (p : Fin 2) (f : List Byte) (i : Fin 512) (c : Fin 128) (q : Nat),
      portLive s p = true →
      (parseEth f).dst = macAll ∧ (parseEth f).vid = none ∧ (parseEth f).et ≠ 0x8808 →
      isFolio s p (parseEth f) = true ∧ f.length ≤ 1514 →
      (parseFolio (parseEth f).pay).ver = 1 ∧ (parseFolio (parseEth f).pay).kind = 1 ∧ (parseFolio (parseEth f).pay).whole (parseEth f).pay = true →
      ctxOf s 2 p (parseEth f).src (parseEth f).ip = some c.val →
      (s.lay i).last = some q →
      layNamed s p (parseEth f).src (parseEth f).ip (parseFolio (parseEth f).pay).fid = [i.val] →
      (parseFolio (parseEth f).pay).len = layLen s i ∧ (parseFolio (parseEth f).pay).auth = layAuth s i ∧ layAuth s i = false →
      seqNew (some q) (parseFolio (parseEth f).pay).seq = true →
      Goes (.folioFrameReceive t0 p f true none) s (fun t => (t.lay i).last = some (parseFolio (parseEth f).pay).seq ∧ (t.lay i).lost = false ∧
        t.net.work.length = s.net.work.length + 1 ∧
        (s.net.work = [] → t.net.work = [⟨i.val, classRank (layClass s i), fine (advance t0 s), some ((parseFolio (parseEth f).pay).seq, (parseFolio (parseEth f).pay).payload)⟩]) ∧
        fget t F.NET_RX_OK_COUNT p = min (2 ^ 32 - 1) (fget s F.NET_RX_OK_COUNT p + 1) ∧
        (RegsKept s t (fun a => commonReg a || a == R.NET_RX_OK.at p || a == R.PTN_CNT.at c || a == R.PTN_STATE.at c || within 0xC0000 0xD0000 a)) ∧
        t.mem = s.mem)) ∧
  (∀ (s : State) (t0 : Nat) (p : Fin 2) (f : List Byte) (n : Fin 8),
      portLive s p = true →
      (parseEth f).dst = macAll ∧ (parseEth f).vid = none ∧ (parseEth f).et ≠ 0x8808 →
      isFolio s p (parseEth f) = true ∧ f.length ≤ 1514 →
      (parseFolio (parseEth f).pay).ver = 1 ∧ (parseFolio (parseEth f).pay).kind = 2 ∧ (parseFolio (parseEth f).pay).whole (parseEth f).pay = true →
      psOfFrame s p (parseEth f).src (parseEth f).ip (parseFolio (parseEth f).pay).fid = some n.val →
      flag s F.PTN_STATE_AUTH (fget s F.SAF_PSC_ID_CTX n) = false →
      (parseFolio (parseEth f).pay).payload.length = 32 ∧ leAt (parseFolio (parseEth f).pay).payload 0 1 = 1 ∧ leAt (parseFolio (parseEth f).pay).payload 1 1 = 0 ∧ leAt (parseFolio (parseEth f).pay).payload 2 2 = fget s F.SAF_PSC_ID_SESSION n →
      crc32c ((parseFolio (parseEth f).pay).payload.take 16) = leAt (parseFolio (parseEth f).pay).payload 16 4 ∧ crc32c (slice (parseFolio (parseEth f).pay).payload 20 8) = leAt (parseFolio (parseEth f).pay).payload 28 4 →
      leAt (parseFolio (parseEth f).pay).payload 20 8 ≤ lns (advance t0 s) ∧ lns (advance t0 s) ≤ leAt (parseFolio (parseEth f).pay).payload 20 8 + 1000 * fget s F.SAF_PSC_CHECK_MAX_AGE n →
      seqNew (s.ps n).last (leAt (parseFolio (parseEth f).pay).payload 4 4) = true ∧ (s.ps n).wins = [] →
      Goes (.proofFrameReceive t0 p f true) s (fun t => fget t F.PTN_CNT_FRAMES (fget s F.SAF_PSC_ID_CTX n) = min 65535 (fget s F.PTN_CNT_FRAMES (fget s F.SAF_PSC_ID_CTX n) + 1) ∧
        (t.ctx (fget s F.SAF_PSC_ID_CTX n)).last = lns (advance t0 s) ∧
        (t.ps n).wins = [⟨leAt (parseFolio (parseEth f).pay).payload 4 4, p.val, (parseFolio (parseEth f).pay).payload.take 20, flag s (pathFld (1 - p.val)) n⟩] ∧
        flag t F.SAF_PS_STATUS_UP n = (flag s F.SAF_PS_STATUS_UP n || flag s (pathFld (1 - p.val)) n) ∧
        ((t.ps n).last = (if flag s (pathFld (1 - p.val)) n then some (leAt (parseFolio (parseEth f).pay).payload 4 4) else (s.ps n).last)) ∧
        (RegsKept s t (fun a => commonReg a || a == R.NET_RX_OK.at p || a == R.PTN_CNT.at (fget s F.SAF_PSC_ID_CTX n) || a == R.PTN_STATE.at (fget s F.SAF_PSC_ID_CTX n) || a == R.SAF_PS_STATUS.at n)) ∧
        t.mem = s.mem)) ∧
  (∀ (s : State) (t0 : Nat) (p : Fin 2) (f : List Byte) (n : Fin 8) (q : Nat),
      portLive s p = true →
      (parseEth f).dst = macAll ∧ (parseEth f).vid = none ∧ (parseEth f).et ≠ 0x8808 →
      isFolio s p (parseEth f) = true ∧ f.length ≤ 1514 →
      (parseFolio (parseEth f).pay).ver = 1 ∧ (parseFolio (parseEth f).pay).kind = 2 ∧ (parseFolio (parseEth f).pay).whole (parseEth f).pay = true →
      psOfFrame s p (parseEth f).src (parseEth f).ip (parseFolio (parseEth f).pay).fid = some n.val →
      flag s F.PTN_STATE_AUTH (fget s F.SAF_PSC_ID_CTX n) = false →
      (s.ps n).last = some q ∧ seqNew (some q) (leAt (parseFolio (parseEth f).pay).payload 4 4) = false ∧ (s.ps n).wins = [] →
      Goes (.proofFrameReceive t0 p f true) s (fun t => fget t F.SAF_PS_CNT_DISCARDED n = min 65535 (fget s F.SAF_PS_CNT_DISCARDED n + 1) ∧
        t.saf = s.saf ∧
        t.mem = s.mem ∧
        (RegsKept s t (fun a => commonReg a || within 0xA0000 0xB0000 a || within 0xD0000 0xE0000 a || a == R.SAF_PS_CNT.at n)))) ∧
  (∀ (s : State) (t0 : Nat) (p : Fin 2) (f : List Byte) (n : Fin 8) (w : PWin),
      portLive s p = true →
      (parseEth f).dst = macAll ∧ (parseEth f).vid = none ∧ (parseEth f).et ≠ 0x8808 →
      isFolio s p (parseEth f) = true ∧ f.length ≤ 1514 →
      (parseFolio (parseEth f).pay).ver = 1 ∧ (parseFolio (parseEth f).pay).kind = 2 ∧ (parseFolio (parseEth f).pay).whole (parseEth f).pay = true →
      psOfFrame s p (parseEth f).src (parseEth f).ip (parseFolio (parseEth f).pay).fid = some n.val →
      flag s F.PTN_STATE_AUTH (fget s F.SAF_PSC_ID_CTX n) = false →
      (parseFolio (parseEth f).pay).payload.length = 32 ∧ leAt (parseFolio (parseEth f).pay).payload 0 1 = 1 ∧ leAt (parseFolio (parseEth f).pay).payload 1 1 = 0 ∧ leAt (parseFolio (parseEth f).pay).payload 2 2 = fget s F.SAF_PSC_ID_SESSION n →
      crc32c ((parseFolio (parseEth f).pay).payload.take 16) = leAt (parseFolio (parseEth f).pay).payload 16 4 ∧ crc32c (slice (parseFolio (parseEth f).pay).payload 20 8) = leAt (parseFolio (parseEth f).pay).payload 28 4 →
      leAt (parseFolio (parseEth f).pay).payload 20 8 ≤ lns (advance t0 s) ∧ lns (advance t0 s) ≤ leAt (parseFolio (parseEth f).pay).payload 20 8 + 1000 * fget s F.SAF_PSC_CHECK_MAX_AGE n →
      seqNew (s.ps n).last (leAt (parseFolio (parseEth f).pay).payload 4 4) = true →
      (s.ps n).wins = [w] ∧ w.seq = leAt (parseFolio (parseEth f).pay).payload 4 4 ∧ w.port ≠ p.val ∧ w.body ≠ (parseFolio (parseEth f).pay).payload.take 20 →
      safLive s = true →
      Goes (.proofFrameReceive t0 p f true) s (fun t => SafeNow t ∧
        (fget s F.SAF_STATE_CAUSE = 0 → fget t F.SAF_STATE_CAUSE = 7) ∧
        (t.ps n).wins = [] ∧
        (RegsKept s t (fun a => safReg a || a == R.SYS_STATE.addr || within 0x30000 0x3C000 a || within 0x40000 0x50000 a || within 0xD0000 0xE0000 a || a == R.NET_RX_OK.at p)))) ∧
  (∀ (s : State) (t0 : Nat) (p : Fin 2) (f : List Byte) (c : Fin 128),
      s.sys.st = .doze →
      flag s F.NET_CFG_EN p = true ∧ flag s F.NET_CFG_WAKE_EN p = true ∧ flag s F.NET_STATUS_LINK p = true ∧ flag s F.NET_CFG_WAKE_AUTH p = false →
      (parseEth f).dst = macAll ∧ (parseEth f).vid = none →
      isFolio s p (parseEth f) = true →
      (parseFolio (parseEth f).pay).ver = 1 ∧ (parseFolio (parseEth f).pay).kind = 3 ∧ (parseFolio (parseEth f).pay).whole (parseEth f).pay = true ∧ (parseFolio (parseEth f).pay).fid = fget s F.NET_WAKE_WAKE_FID p →
      ctxOf s 2 p (parseEth f).src (parseEth f).ip = some c.val →
      ctxType s c = 2 ∧ flag s F.PTN_STATE_PINNED c = true →
      s.pwr.waking = false ∧ s.pwr.sysRet = true ∧ s.pwr.handed = true →
      Goes (.wakeFrame t0 p f) s (fun t => t.pwr = { s.pwr with waking := true, wakeAt := clk (advance t0 s), abort := false } ∧
        (rd t R.PWR_WAKE_SRC.addr) = rd s R.PWR_WAKE_SRC.addr ||| 2#32 ∧
        (RegsKept s t (fun a => commonReg a || a == R.PTN_CNT.at c || a == R.PTN_STATE.at c)) ∧
        t.mem = s.mem)) ∧
  (∀ (s : State) (t0 : Nat) (p : Fin 2) (l : Link) (a : Word) (b : Word),
      portLive s p = true →
      l.vid = none ∧ l.dst.toNat = macAll →
      b.toNat = fget s F.NET_IP_IP p →
      Goes (.arpRequest t0 p l a b) s (fun t => t.out = s.out ++ [Out.frame p (withFcs (ethFrame s p l.src.toNat 0x0806 ([0#8, 1#8, 8#8, 0#8, 6#8, 4#8, 0#8, 2#8] ++ leBytes 6 (portMac s p) ++ beBytes 4 b.toNat ++ leBytes 6 l.src.toNat ++ beBytes 4 a.toNat)))] ∧
        (RegsKept s t (fun x => x == R.NET_RX_OK.at p || x == R.NET_TX_OK.at p)) ∧
        t.mem = s.mem)) ∧
  (∀ (s : State) (t0 : Nat) (p : Fin 3) (v : BitVec 2) (e : Bool),
      s.sys.st ≠ .doze ∧ domainOn s 9 = true ∧ flag s F.NET_CFG_EN p = true →
      Goes (.linkChange t0 p v e) s (fun t => fget t F.NET_STATUS_SPEED_NOW p = v.toNat ∧ flag t F.NET_STATUS_LINK p = decide (v ≠ 0) ∧ flag t F.NET_STATUS_EEE p = (e && decide (v ≠ 0)) ∧
        (fget s F.NET_STATUS_SPEED_NOW p ≠ v.toNat → flag t F.NET_STATUS_LINK_CHG p = true) ∧
        t.mem = s.mem ∧
        (RegsKept s t (fun a => commonReg a || a == R.NET_STATUS.at p)))) ∧
  (∀ (s : State) (t0 : Nat) (f : List Byte),
      portLive s 2 = true →
      ethcFilter s f = true →
      flag s F.NET_RING_CTL_RX_EN = true →
      DescOk s (rxDesc s) ∧ (dWord s (rxDesc s)).testBit 31 = true →
      Goes (.ethcFrameReceive t0 f true []) s (fun t => t.net = { s.net with rxPos := (s.net.rxPos + 1) % 2 ^ fget s F.NET_RXRING_LOG2 } ∧
        dWord t (rxDesc s) = dWord s (rxDesc s) / 2048 * 2048 % 2 ^ 30 + f.length % 2048 ∧
        (MemKept s t (fun a => (List.range f.length).any (fun k => a == sramByte (dAddr s (rxDesc s) + k)) || within (sramByte (rxDesc s + 4)) (sramByte (rxDesc s + 4) + 4) a)) ∧
        (RegsKept s t (fun a => a == R.NET_RX_OK.at 2))))

/-- Frames leave, Proof PDUs are queued, and partner keys are loaded. The first frame waiting on a linked port whose
folios use Ethertype leaves with its addresses, its departure stamp in TX_STAMP and its tag; an enabled Proof session
sends a PDU with the next SEQ on each linked port; a kick of the idle transmit ring starts a scan exactly when ETHC
owns its present descriptor, and the frame of a scan leaves with its FCS, whatever its length, when no block of its
descriptor and buffer is poisoned; its descriptor goes back to the host and the ring advances. A silent context is
freed, or when pinned shows SILENT; KEY_LOAD stores the key words in the slot of a context and shows it LOADED, and
KEY_ACTIVATE makes a slot active. In a clause that names or bounds the registers it writes, every other register keeps
its value. -/
def Obligations.FramesSent : Prop :=
  (∀ (s : State) (t0 : Nat) (p : Fin 2) (x : TxFrame) (r : List TxFrame),
      portLive s p = true →
      flag s F.NET_CFG_UDP p = false →
      ((if p = 0 then s.net.tx0 else s.net.tx1) = x :: r) →
      x.proof = false →
      Goes (.frameDeparture t0 p) s (fun t => t.out = s.out ++ [Out.frame p (withFcs (ethFrame s p x.mac (fget s F.NET_ETYPE_ETYPE p) (x.head.take 12 ++ leBytes 8 (mdiOut s p t0 / nsU).toNat ++ x.head.drop 12 ++ x.payload ++ x.tag)))] ∧
        ((if p = 0 then t.net.tx0 else t.net.tx1) = r) ∧
        (RegsKept s t (fun a => a == R.NET_TX_OK.at p)) ∧
        t.mem = s.mem)) ∧
  (∀ (s : State) (t0 : Nat) (p : Fin 2) (x : TxFrame) (r : List TxFrame),
      portLive s p = true →
      flag s F.NET_CFG_UDP p = true →
      ((if p = 0 then s.net.tx0 else s.net.tx1) = x :: r) →
      Goes (.frameDeparture t0 p) s (fun t => t.out.length = s.out.length + 1 ∧
        ((if p = 0 then t.net.tx0 else t.net.tx1) = r) ∧
        t.free = s.free + 2 ∧
        (RegsKept s t (fun a => a == R.NET_TX_OK.at p)) ∧
        t.mem = s.mem)) ∧
  (∀ (s : State) (t0 : Nat) (n : Fin 8) (q : Nat),
      flag s F.SAF_PSC_ID_EN n = true →
      (s.ps n).sent = some q →
      Goes (.proofPduSend t0 n) s (fun t => t.ps n = { s.ps n with sent := some ((q + 1) % 2 ^ 32) } ∧
        t.net.tx0.length = s.net.tx0.length + (portLive s 0).toNat ∧ t.net.tx1.length = s.net.tx1.length + (portLive s 1).toNat ∧
        t.regs = s.regs ∧
        t.mem = s.mem)) ∧
  (∀ (s : State) (h : Via),
      HostOn s R.NET_RING_CTL.addr →
      s.net.txScan = false ∧ DescOk s (txDesc s) →
      Goes (.txKick ⟨h, []⟩) s (fun t => t.net = { s.net with txScan := (dWord s (txDesc s)).testBit 31 } ∧
        t.regs = s.regs ∧
        t.mem = s.mem)) ∧
  (∀ (s : State) (t0 : Nat),
      portLive s 2 = true →
      s.net.txScan = true →
      (DescOk s (txDesc s) ∧ (List.range (dWord s (txDesc s) % 2048)).all (fun k => !poisoned s (sramByte (dAddr s (txDesc s) + k))) = true) →
      DescOk s (ringDesc s F.NET_TXRING_BASE F.NET_TXRING_LOG2 (s.net.txPos + 1)) →
      Goes (.ethcFrameSent t0 []) s (fun t => (t.out = s.out ++ [Out.frame 2 (withFcs ((List.range (dWord s (txDesc s) % 2048)).map (fun k => memByte s (sramByte (dAddr s (txDesc s) + k)))))]) ∧
        dWord t (txDesc s) = dWord s (txDesc s) % 2 ^ 31 ∧
        t.net.txPos = (s.net.txPos + 1) % 2 ^ fget s F.NET_TXRING_LOG2 ∧
        (RegsKept s t (fun a => a == R.NET_TX_OK.at 2)) ∧
        (MemKept s t (fun a => within (sramByte (txDesc s + 4)) (sramByte (txDesc s + 4) + 4) a)))) ∧
  (∀ (s : State) (t0 : Nat) (i : Fin 128),
      s.sys.st ≠ .doze →
      ctxType s i ≠ 0 →
      flag s F.PTN_STATE_PINNED i = true →
      Goes (.contextSilence t0 i) s (fun t => flag t F.PTN_STATE_SILENT i = true ∧
        t.net = s.net ∧
        (RegsKept s t (fun a => commonReg a || a == R.PTN_STATE.at i)) ∧
        t.mem = s.mem)) ∧
  (∀ (s : State) (t0 : Nat) (i : Fin 128),
      s.sys.st ≠ .doze →
      ctxType s i ≠ 0 →
      flag s F.PTN_STATE_PINNED i = false →
      Goes (.contextSilence t0 i) s (fun t => ctxType t i = 0 ∧ t.ctx i = CtxS.init ∧
        (∀ k : Fin 128, k ≠ i → t.ctx k = s.ctx k) ∧
        t.mem = s.mem ∧
        (RegsKept s t (fun a => commonReg a || within 0xD0000 0xE0000 a)))) ∧
  (∀ (s : State) (h : Via),
      HostOn s R.PTN_KCTL.addr →
      fget s F.PTN_KSEL_TARGET < 128 →
      Goes (.keyLoad h) s (fun t => ctxKey t (fget s F.PTN_KSEL_TARGET) (fget s F.PTN_KSEL_SLOT) = some (keyWords s) ∧
        (fget t F.PTN_STATE_LOADED (fget s F.PTN_KSEL_TARGET)).testBit (fget s F.PTN_KSEL_SLOT) = true ∧
        (RegsKept s t (fun a => a == R.PTN_STATE.at (fget s F.PTN_KSEL_TARGET))) ∧
        t.mem = s.mem)) ∧
  (∀ (s : State) (h : Via),
      HostOn s R.PTN_KCTL.addr →
      128 ≤ fget s F.PTN_KSEL_TARGET ∧ fget s F.PTN_KSEL_TARGET < 160 →
      Goes (.keyLoad h) s (fun t => ((if fget s F.PTN_KSEL_SLOT = 0 then (t.tmpl (fget s F.PTN_KSEL_TARGET - 128)).key0 else (t.tmpl (fget s F.PTN_KSEL_TARGET - 128)).key1) = some (keyWords s)) ∧
        t.regs = s.regs ∧
        t.mem = s.mem)) ∧
  (∀ (s : State) (h : Via),
      HostOn s R.PTN_KCTL.addr →
      fget s F.PTN_KSEL_TARGET < 128 →
      Goes (.keyActivate h) s (fun t => fget t F.PTN_STATE_ACTIVE (fget s F.PTN_KSEL_TARGET) = fget s F.PTN_KSEL_SLOT ∧
        t.net = s.net ∧
        (RegsKept s t (fun a => a == R.PTN_STATE.at (fget s F.PTN_KSEL_TARGET))) ∧
        t.mem = s.mem))

/-- CAN mailboxes are requested, sent, cancelled and fail as the spec says. TXREQ of a mailbox that no layout owns, in
normal mode, makes it pending with no attempts; TXCANCEL of one that is not being sent ends it CANCELLED, and of one
in transmission waits for its end; a transmitted frame ends its mailbox SENT with its start-of-frame stamp and appears
on the bus; a lost arbitration ends a one-shot mailbox with cause 1, and a plain error counts 1 in REC at a receiver
and 8 in TEC at an error-active transmitter; an INIT request ends a recovery under way and reaches its effect, which
ends pending mailboxes with cause 5; INIT 0 and integration return to the bus; a recovery from bus-off starts and ends
with the counters at 0; a protocol exception is counted and ends. Memory keeps its contents. -/
def Obligations.CanTransmission : Prop :=
  (∀ (s : State) (h : Via) (k : Fin 4) (b : Fin 32),
      HostOn s (R.CAN_TXREQ.at k) →
      mbOwned s k b = false ∧ mbPending s k b = false →
      flag s F.CAN_CTL_INIT k = false ∧ fget s F.CAN_CTL_MODE k ≠ 1 ∧ canState s k < 2 →
      flag s F.CAN_MB_FMT_FDF k b = false →
      Goes (.canTxreq h k b) s (fun t => mbPending t k b = true ∧ fget t F.CAN_MB_STAT_ATTEMPTS k b = 0 ∧ fget t F.CAN_MB_STAT_CAUSE k b = 0 ∧
        fbit t F.CAN_TXREQ_REQ b k = true ∧
        t.mem = s.mem ∧
        (RegsKept s t (fun a => a == R.CAN_MB_STAT.at k b || a == R.CAN_TXREQ.at k)))) ∧
  (∀ (s : State) (h : Via) (k : Fin 4) (b : Fin 32),
      HostOn s (R.CAN_TXCANCEL.at k) →
      mbOwned s k b = false ∧ mbPending s k b = true →
      Goes (.canTxcancel h k b false) s (fun t => fget t F.CAN_MB_STAT_STATE k b = 3 ∧ fget t F.CAN_MB_STAT_CAUSE k b = 3 ∧
        fbit t F.CAN_TXREQ_REQ b k = false ∧ fbit t F.CAN_TXFAIL_MB b k = true ∧
        t.mem = s.mem ∧
        (RegsKept s t (fun a => commonReg a || a == R.CAN_MB_STAT.at k b || a == R.CAN_TXREQ.at k || a == R.CAN_TXFAIL.at k)))) ∧
  (∀ (s : State) (h : Via) (k : Fin 4) (b : Fin 32),
      HostOn s (R.CAN_TXCANCEL.at k) →
      mbOwned s k b = false ∧ mbPending s k b = true →
      canOn (advance h.t s) k = true →
      Goes (.canTxcancel h k b true) s (fun t => (t.canc k).cancel.testBit b = true ∧
        t.regs = s.regs ∧
        t.mem = s.mem)) ∧
  (∀ (s : State) (t0 : Nat) (k : Fin 4) (n : Nat) (b : Fin 32),
      canOn s k = true ∧ fget s F.CAN_CTL_MODE k = 0 →
      mbAt s k n = some b.val →
      Goes (.canFrameTransmitted t0 k n none) s (fun t => fget t F.CAN_MB_STAT_STATE k b = 2 ∧ fget t F.CAN_MB_STAMP_T k b = n / 256 % 2 ^ 32 ∧
        fbit t F.CAN_TXREQ_REQ b k = false ∧ fbit t F.CAN_TXDONE_MB b k = true ∧
        (s.out ++ [Out.can k (mbFrame s k b)]).isPrefixOf t.out = true ∧
        (fget t F.CAN_ERRCNT_TEC k = min 511 (fget s F.CAN_ERRCNT_TEC k - 1) ∨ 255 < fget s F.CAN_ERRCNT_TEC k - 1) ∧
        t.mem = s.mem ∧
        (RegsKept s t (fun a => commonReg a || within 0xB0000 0xC0000 a)))) ∧
  (∀ (s : State) (t0 : Nat) (k : Fin 4) (n : Nat) (b : Fin 32),
      canOn s k = true →
      mbAt s k n = some b.val →
      flag s F.CAN_MB_FMT_ONESHOT k b = true →
      Goes (.arbitrationLost t0 k n) s (fun t => fget t F.CAN_MB_STAT_STATE k b = 3 ∧ fget t F.CAN_MB_STAT_CAUSE k b = 1 ∧
        fget t F.CAN_MB_STAT_ATTEMPTS k b = min 255 (fget s F.CAN_MB_STAT_ATTEMPTS k b + 1) ∧
        t.mem = s.mem ∧
        (RegsKept s t (fun a => commonReg a || a == R.CAN_MB_STAT.at k b || a == R.CAN_TXREQ.at k || a == R.CAN_TXFAIL.at k)))) ∧
  (∀ (s : State) (t0 : Nat) (k : Fin 4) (n : Nat) (e : CanErr),
      canOn s k = true →
      fget s F.CAN_ERRCNT_TEC k < 128 ∧ fget s F.CAN_ERRCNT_REC k < 120 →
      e.own = false ∧ e.dom = false ∧ e.runs.toNat = 0 ∧ e.data = false →
      Goes (.canBusError t0 k false n e) s (fun t => fget t F.CAN_ERRCNT_REC k = fget s F.CAN_ERRCNT_REC k + 1 ∧ fget t F.CAN_ERRCNT_TEC k = fget s F.CAN_ERRCNT_TEC k ∧
        fget t F.CAN_STATUS_LEC k = e.kind.val ∧ canState t k = 0 ∧
        t.mem = s.mem ∧
        (RegsKept s t (fun a => commonReg a || a == R.CAN_STATUS.at k || a == R.CAN_ERRCNT.at k)))) ∧
  (∀ (s : State) (t0 : Nat) (k : Fin 4) (n : Nat) (e : CanErr),
      canOn s k = true →
      canState s k = 0 ∧ fget s F.CAN_ERRCNT_TEC k < 120 ∧ fget s F.CAN_ERRCNT_REC k < 128 →
      e.own = false ∧ e.kind.val ≠ 1 ∧ e.runs.toNat = 0 ∧ e.data = false →
      Goes (.canBusError t0 k true n e) s (fun t => fget t F.CAN_ERRCNT_TEC k = fget s F.CAN_ERRCNT_TEC k + 8 ∧ fget t F.CAN_ERRCNT_REC k = fget s F.CAN_ERRCNT_REC k ∧
        fget t F.CAN_STATUS_LEC k = e.kind.val ∧ canState t k = 0 ∧
        t.mem = s.mem ∧
        (RegsKept s t (fun a => commonReg a || within 0xB0000 0xC0000 a)))) ∧
  (∀ (s : State) (h : Via) (k : Fin 4),
      HostOn s (R.CAN_CTL.at k) →
      canState s k ≠ 3 →
      Goes (.canInitSet h k) s (fun t => flag t F.CAN_CTL_INIT k = true ∧
        t.mem = s.mem ∧
        (RegsKept s t (fun a => a == R.CAN_CTL.at k)))) ∧
  (∀ (s : State) (h : Via) (k : Fin 4),
      HostOn s (R.CAN_CTL.at k) →
      canState s k = 3 →
      Goes (.canInitSet h k) s (fun t => flag t F.CAN_CTL_INIT k = true ∧ canState t k = 2 ∧
        t.mem = s.mem ∧
        (RegsKept s t (fun a => commonReg a || a == R.CAN_CTL.at k || a == R.CAN_STATUS.at k)))) ∧
  (∀ (s : State) (t0 : Nat) (k : Fin 4),
      flag s F.CAN_CTL_INIT k = true ∧ (s.canc k).off = false →
      Goes (.initEffect t0 k) s (fun t => (t.canc k).off = true ∧ (t.canc k).pxe = false ∧
        (∀ b : Fin 32, mbPending t k b = false) ∧
        (∀ b : Fin 32, mbPending s k b = true → fget t F.CAN_MB_STAT_CAUSE k b = 5) ∧
        t.mem = s.mem ∧
        (RegsKept s t (fun a => commonReg a || within 0xB0000 0xC0000 a)))) ∧
  (∀ (s : State) (h : Via) (k : Fin 4),
      HostOn s (R.CAN_CTL.at k) →
      flag s F.CAN_CTL_INIT k = true ∧ (s.canc k).off = true →
      Goes (.canInitClear h k) s (fun t => flag t F.CAN_CTL_INIT k = false ∧ flag t F.CAN_STATUS_INTEGRATING k = true ∧ (t.canc k).off = false ∧
        t.mem = s.mem ∧
        (RegsKept s t (fun a => a == R.CAN_CTL.at k || a == R.CAN_STATUS.at k)))) ∧
  (∀ (s : State) (t0 : Nat) (k : Fin 4),
      canLive s = true ∧ (s.canc k).off = false →
      Goes (.integrationDone t0 k) s (fun t => flag t F.CAN_STATUS_INTEGRATING k = false ∧
        t.mem = s.mem ∧
        (RegsKept s t (fun a => a == R.CAN_STATUS.at k)))) ∧
  (∀ (s : State) (h : Via) (k : Fin 4),
      HostOn s (R.CAN_CTL.at k) →
      canState s k = 2 →
      Goes (.canRecover h k) s (fun t => canState t k = 3 ∧ fget t F.CAN_STATUS_RCNT k = 0 ∧
        t.mem = s.mem ∧
        (RegsKept s t (fun a => commonReg a || a == R.CAN_STATUS.at k)))) ∧
  (∀ (s : State) (t0 : Nat) (k : Fin 4),
      canLive s = true ∧ canState s k = 3 →
      Goes (.canRecovered t0 k) s (fun t => canState t k = 0 ∧ fget t F.CAN_ERRCNT_TEC k = 0 ∧ fget t F.CAN_ERRCNT_REC k = 0 ∧ fget t F.CAN_STATUS_RCNT k = 128 ∧
        t.mem = s.mem ∧
        (RegsKept s t (fun a => commonReg a || a == R.CAN_STATUS.at k || a == R.CAN_ERRCNT.at k)))) ∧
  (∀ (s : State) (t0 : Nat) (k : Fin 4),
      canOn s k = true ∧ flag s F.CAN_CTL_PXE_EN k = true →
      Goes (.protocolException t0 k) s (fun t => (t.canc k).pxe = true ∧ flag t F.CAN_STATUS_PXE_SEEN k = true ∧
        t.mem = s.mem ∧
        (RegsKept s t (fun a => commonReg a || a == R.CAN_STATUS.at k || a == R.CAN_CNT.at k)))) ∧
  (∀ (s : State) (t0 : Nat) (k : Fin 4),
      (s.canc k).pxe = true →
      Goes (.protocolExceptionEnd t0 k) s (fun t => (t.canc k).pxe = false ∧
        t = { s with can := t.can, tim := t.tim }))

/-- CAN frames received are filtered, queued, read out and wake the device. A frame that matches a filter that no
layout uses, with nothing of REC counted, enters the filter's queue, and the first entry of an empty queue fills the
window; POP of a valid window clears it and drops the oldest entry; a refill copies the oldest waiting entry; FLUSH
empties queue and window. In DOZE a frame that matches a wake filter of a controller with WAKE_EN sets WAKE_MATCH and
wakes the device. Memory keeps its contents. -/
def Obligations.CanReception : Prop :=
  (∀ (s : State) (t0 : Nat) (k : Fin 4) (n : Nat) (f : CanFrame) (i : Fin 64),
      canOn s k = true ∧ fget s F.CAN_CTL_MODE k ≠ 2 →
      fget s F.CAN_ERRCNT_TEC k < 128 ∧ fget s F.CAN_ERRCNT_REC k < 128 →
      ((List.range 64).find? (fun x => fltMatch s k x f) = some i.val) →
      layOfFilter s k i = none →
      (canQueue s k (fget s F.CAN_FLT_CFG_Q k i)).length < 64 →
      Goes (.canFrameReceive t0 k n f) s (fun t => canQueue t k (fget s F.CAN_FLT_CFG_Q k i) = canQueue s k (fget s F.CAN_FLT_CFG_Q k i) ++ [⟨f, i.val, n / 256 % 2 ^ 32⟩] ∧
        (canQueue s k (fget s F.CAN_FLT_CFG_Q k i) = [] → flag t F.CAN_RXQ_STATUS_VALID k (fget s F.CAN_FLT_CFG_Q k i) = true ∧ fget t F.CAN_H_ID_ID k (fget s F.CAN_FLT_CFG_Q k i) = f.id.toNat) ∧
        fget t F.CAN_ERRCNT_REC k = fget s F.CAN_ERRCNT_REC k - 1 ∧
        t.mem = s.mem ∧
        (RegsKept s t (fun a => commonReg a || within 0xB0000 0xC0000 a || R.PTN_CNT.hits a || R.PTN_STATE.hits a)))) ∧
  (∀ (s : State) (h : Via) (k : Fin 4) (q : Fin 2),
      HostOn s (R.CAN_RXQ_CTL.at k q) →
      flag s F.CAN_RXQ_STATUS_VALID k q = true →
      Goes (.canPop h k q) s (fun t => canQueue t k q = (canQueue s k q).drop 1 ∧
        flag t F.CAN_RXQ_STATUS_VALID k q = false ∧ rd t (R.CAN_H_ID.at k q) = 0 ∧ rd t (R.CAN_H_INFO.at k q) = 0 ∧ rd t (R.CAN_H_STAMP.at k q) = 0 ∧
        fget t F.CAN_RXQ_STATUS_LEVEL k q = ((canQueue s k q).length - 1) % 2 ^ 7 ∧
        t.mem = s.mem ∧
        (RegsKept s t (fun a => a == R.CAN_RXQ_STATUS.at k q || a == R.CAN_H_ID.at k q || a == R.CAN_H_INFO.at k q || a == R.CAN_H_STAMP.at k q || R.CAN_H_DATA.hits a)))) ∧
  (∀ (s : State) (t0 : Nat) (k : Fin 4) (q : Fin 2) (e : CanEnt) (r : List CanEnt),
      flag s F.CAN_RXQ_STATUS_VALID k q = false →
      canQueue s k q = e :: r →
      Goes (.windowRefill t0 k q none) s (fun t => flag t F.CAN_RXQ_STATUS_VALID k q = true ∧ fget t F.CAN_H_ID_ID k q = e.f.id.toNat ∧ flag t F.CAN_H_ID_IDE k q = e.f.ide ∧ rd t (R.CAN_H_STAMP.at k q) = BitVec.ofNat 32 e.stamp ∧
        t = { s with regs := t.regs, tim := t.tim } ∧
        (RegsKept s t (fun a => a == R.CAN_RXQ_STATUS.at k q || a == R.CAN_H_ID.at k q || a == R.CAN_H_INFO.at k q || a == R.CAN_H_STAMP.at k q || R.CAN_H_DATA.hits a)))) ∧
  (∀ (s : State) (h : Via) (k : Fin 4) (q : Fin 2),
      HostOn s (R.CAN_RXQ_CTL.at k q) →
      Goes (.queueFlush h k q) s (fun t => canQueue t k q = [] ∧ canQueue t k (1 - q.val) = canQueue s k (1 - q.val) ∧
        flag t F.CAN_RXQ_STATUS_VALID k q = false ∧ fget t F.CAN_RXQ_STATUS_LEVEL k q = 0 ∧
        t.mem = s.mem ∧
        (RegsKept s t (fun a => a == R.CAN_RXQ_STATUS.at k q || a == R.CAN_H_ID.at k q || a == R.CAN_H_INFO.at k q || a == R.CAN_H_STAMP.at k q || R.CAN_H_DATA.hits a)))) ∧
  (∀ (s : State) (t0 : Nat) (k : Fin 4) (x : BitVec 29) (e : Bool) (i : Fin 64),
      s.sys.st = .doze ∧ flag s F.CAN_CTL_WAKE_EN k = true →
      ((List.range 64).find? (fun f => flag s F.CAN_FLT_CFG_WAKE k f && fltId s k f x e) = some i.val) →
      s.pwr.waking = false ∧ s.pwr.sysRet = true ∧ s.pwr.handed = true →
      Goes (.canWakeMatch t0 k x e) s (fun t => flag t F.CAN_STATUS_WAKE_MATCH k = true ∧ t.pwr.waking = true ∧
        rd t R.PWR_WAKE_SRC.addr = rd s R.PWR_WAKE_SRC.addr ||| 1#32 ∧
        t.mem = s.mem ∧
        (RegsKept s t (fun a => commonReg a || a == R.CAN_STATUS.at k))))

/-- Recorders are armed, stopped, forced and released. ARM of a stopped recorder whose configuration is valid and
whose slot is free takes the configuration and leaves it ARMED with an empty ring; an ARM that finds held values takes
them and starts at ring position 0 and slot 0; one whose configuration is not valid sets ARM_REFUSED. STOP stops a
recorder that is not in REARM; in REARM its record, which is whole, is finished first. The zero positions at such an
ARM and the STOP in REARM are the model's choices (log entry 72). ARM_ALL and STOP_ALL act on the recorders named and
on no other. FORCE makes the newest sample of an armed recorder its trigger sample. A release of slots moves SLOT.RD.
Memory keeps its contents. -/
def Obligations.RecorderControl : Prop :=
  (∀ (s : State) (h : Via) (r : Fin 16),
      HostOn s (R.ACQ_CTL.at r) →
      recState s r = 0 →
      recOk s (recRegs s r) = true ∧ flag s F.ACQ_STATUS_LEN_PENDING r = false →
      slotHeld s r (fget s F.ACQ_SLOT_WR r) = false ∧ fget s F.ACQ_SLOT_READY r < cfgNrec (recRegs s r) →
      Goes (.recorderArm h r) s (fun t => recState t r = 1 ∧
        (t.arec r).cfg = recRegs s r ∧ (t.arec r).n = 0 ∧ (t.arec r).insts = [] ∧
        t.mem = s.mem ∧
        (RegsKept s t (fun a => a == R.ACQ_STATUS.at r)))) ∧
  (∀ (s : State) (h : Via) (r : Fin 16),
      HostOn s (R.ACQ_CTL.at r) →
      recState s r = 0 →
      recOk s (recRegs s r) = true ∧ flag s F.ACQ_STATUS_LEN_PENDING r = true →
      slotHeld s r 0 = false →
      Goes (.recorderArm h r) s (fun t => recState t r = 1 ∧ flag t F.ACQ_STATUS_LEN_PENDING r = false ∧
        (t.arec r).cfg = recRegs s r ∧ (t.arec r).pos = 0 ∧ fget t F.ACQ_SLOT_WR r = 0 ∧ fget t F.ACQ_SLOT_RD r = 0 ∧ fget t F.ACQ_SLOT_READY r = 0 ∧
        t.mem = s.mem ∧
        (RegsKept s t (fun a => a == R.ACQ_STATUS.at r || a == R.ACQ_SLOT.at r)))) ∧
  (∀ (s : State) (h : Via) (r : Fin 16),
      HostOn s (R.ACQ_CTL.at r) →
      recState s r = 0 →
      recOk s (recRegs s r) = false →
      Goes (.recorderArm h r) s (fun t => flag t F.ACQ_STATUS_ARM_REFUSED r = true ∧ recState t r = 0 ∧
        t.acq = s.acq ∧
        t.mem = s.mem ∧
        (RegsKept s t (fun a => a == R.ACQ_STATUS.at r)))) ∧
  (∀ (s : State) (h : Via) (r : Fin 16),
      HostOn s (R.ACQ_CTL.at r) →
      recState s r ≠ 3 →
      Goes (.recorderStop h r) s (fun t => recState t r = 0 ∧
        t.mem = s.mem ∧
        (RegsKept s t (fun a => a == R.ACQ_STATUS.at r)))) ∧
  (∀ (s : State) (h : Via) (r : Fin 16),
      HostOn s (R.ACQ_CTL.at r) →
      recState s r = 3 →
      Goes (.recorderStop h r) s (fun t => recState t r = 0 ∧
        fget t F.ACQ_SEQ_SEQ r = (fget s F.ACQ_SEQ_SEQ r + 1) % 2 ^ 32 ∧
        fget t F.ACQ_SLOT_WR r = (fget s F.ACQ_SLOT_WR r + 1) % cfgNrec (s.arec r).cfg % 2 ^ 8 ∧ fget t F.ACQ_SLOT_READY r = (fget s F.ACQ_SLOT_READY r + 1) % 2 ^ 9 ∧
        memNat t (dramAt (slotAddr (s.arec r).cfg (fget s F.ACQ_SLOT_WR r) + 4)) 4 = (fget s F.ACQ_SEQ_SEQ r + 1) % 2 ^ 32 ∧
        (MemKept s t (fun a => (List.range 64).any (fun i => a == dramAt (slotAddr (s.arec r).cfg (fget s F.ACQ_SLOT_WR r) + i)))) ∧
        (RegsKept s t (fun a => commonReg a || a == R.ACQ_STATUS.at r || a == R.ACQ_SEQ.at r || a == R.ACQ_SLOT.at r || a == R.ACQ_JOBQ.addr)))) ∧
  (∀ (s : State) (h : Via) (r : Fin 16) (e : Nat × Nat) (l : List (Nat × Nat)),
      HostOn s (R.ACQ_CTL.at r) →
      recState s r = 1 →
      (s.arec r).insts = e :: l →
      Goes (.recForce h r) s (fun t => (recState t r = 2 ∨ recState t r = 3) ∧
        (t.arec r).kT = (s.arec r).n - 1 ∧ (t.arec r).forced = true ∧ (t.arec r).at_ = e.1 ∧ (t.arec r).mask = 0 ∧
        t.mem = s.mem ∧
        (RegsKept s t (fun a => a == R.ACQ_STATUS.at r)))) ∧
  (∀ (s : State) (h : Via) (v : Word),
      HostOn s R.ACQ_STOP_ALL.addr →
      Goes (.stopAll h v) s (fun t => (∀ r : Fin 16, v.getLsbD r = true → recState t r = 0) ∧
        (∀ r : Fin 16, v.getLsbD r = false → recState t r = recState s r ∧ t.arec r = s.arec r) ∧
        ((∀ r : Fin 16, v.getLsbD r = true → recState s r ≠ 3) → t.mem = s.mem ∧ RegsKept s t (fun a => R.ACQ_STATUS.hits a)) ∧
        (RegsKept s t (fun a => commonReg a || R.ACQ_STATUS.hits a || R.ACQ_SEQ.hits a || R.ACQ_SLOT.hits a || a == R.ACQ_JOBQ.addr)))) ∧
  (∀ (s : State) (h : Via) (v : Word),
      HostOn s R.ACQ_ARM_ALL.addr →
      Goes (.armAll h v) s (fun t => (∀ r : Fin 16, v.getLsbD r = true → recState s r = 0 → recOk s (recRegs s r) = true → flag s F.ACQ_STATUS_LEN_PENDING r = false → slotHeld s r (fget s F.ACQ_SLOT_WR r) = false ∧ fget s F.ACQ_SLOT_READY r < cfgNrec (recRegs s r) → recState t r = 1) ∧
        (∀ r : Fin 16, v.getLsbD r = false → recState t r = recState s r ∧ t.arec r = s.arec r) ∧
        t.mem = s.mem ∧
        (RegsKept s t (fun a => commonReg a || R.ACQ_STATUS.hits a || R.ACQ_SLOT.hits a)))) ∧
  (∀ (s : State) (h : Via) (r : Fin 16) (v : BitVec 8),
      HostOn s (R.ACQ_SLOT.at r) →
      recState s r ≠ 4 →
      1 < cfgNrec (s.arec r).cfg ∧ v.toNat < cfgNrec (s.arec r).cfg ∧ (v.toNat + cfgNrec (s.arec r).cfg - fget s F.ACQ_SLOT_RD r) % cfgNrec (s.arec r).cfg ≤ fget s F.ACQ_SLOT_READY r →
      Goes (.slotRelease h r v) s (fun t => fget t F.ACQ_SLOT_RD r = v.toNat ∧
        fget t F.ACQ_SLOT_READY r = fget s F.ACQ_SLOT_READY r - (v.toNat + cfgNrec (s.arec r).cfg - fget s F.ACQ_SLOT_RD r) % cfgNrec (s.arec r).cfg ∧
        t.mem = s.mem ∧
        (RegsKept s t (fun a => a == R.ACQ_SLOT.at r)))) ∧
  (∀ (s : State) (h : Via) (r : Fin 16),
      HostOn s (R.ACQ_SLOT.at r) →
      recState s r ≠ 4 →
      cfgNrec (s.arec r).cfg = 1 →
      Goes (.slotRelease h r 0) s (fun t => fget t F.ACQ_SLOT_RD r = 0 ∧ fget t F.ACQ_SLOT_READY r = fget s F.ACQ_SLOT_READY r - 1 ∧
        t.mem = s.mem ∧
        (RegsKept s t (fun a => a == R.ACQ_SLOT.at r)))) ∧
  (∀ (s : State) (h : Via) (i : Fin 4),
      HostOn s (R.ACQ_HIST_CTL.at i) →
      Goes (.histClear h i) s (fun t => t.acq = { s.acq with clear := t.acq.clear } ∧ t.acq.clear.testBit i = true ∧
        t.regs = s.regs ∧
        t.mem = s.mem)) ∧
  (∀ (s : State) (h : Via) (i : Fin 4),
      HostOn s (R.ACQ_MAP_CTL.at i) →
      Goes (.mapClear h i) s (fun t => t.acq = { s.acq with clear := t.acq.clear } ∧ t.acq.clear.testBit (i + 4) = true ∧
        t.regs = s.regs ∧
        t.mem = s.mem))

/-- Recorders sample, trigger and complete, and measurement jobs run. A recorder that is armed, with one signal of the
feedback page on the impression clock and no level condition, stores its word at the sample instant S in the next
place of its slot and nothing else in memory. A trigger that arrives counts at its condition, and an armed recorder
that takes it and has a sample leaves ARMED with it as its condition. A whole record writes its header of 64 bytes,
counts in SEQ and SLOT.READY, and stops a recorder without REARM. The next job starts at its entry when PLTM is free,
and one without measurements ends after its END with its header written. In a clause that names or bounds the
registers it writes, every other register keeps its value. -/
def Obligations.RecorderRuns : Prop :=
  (∀ (s : State) (t0 : Nat) (r : Fin 16),
      acqLive s = true ∧ recState s r = 1 →
      cfgClock (s.arec r).cfg = 0 ∧ cfgNsig (s.arec r).cfg = 1 ∧ cfgKind (s.arec r).cfg 0 = 0 ∧ impCount s % cfgDiv (s.arec r).cfg = 0 →
      s.sys.running = true ∧ lns (advance t0 s) = s.sys.s0 ∧ (s.arec r).gate < clk (advance t0 s) →
      ((List.range 32).all (fun c => fget s F.ACQ_TCN_CFG_KIND c != 1) = true) →
      Goes (.recorderSample t0 r [] []) s (fun t => memNat t (dramAt (slotAddr (s.arec r).cfg (fget s F.ACQ_SLOT_WR r) + 128 + (s.arec r).pos * 4)) 4 = unsgn 32 (pageGet s (cfgSel (s.arec r).cfg 0)).toInt ∧
        (MemKept s t (fun a => within (dramAt (slotAddr (s.arec r).cfg (fget s F.ACQ_SLOT_WR r) + 128 + (s.arec r).pos * 4)) ((dramAt (slotAddr (s.arec r).cfg (fget s F.ACQ_SLOT_WR r) + 128 + (s.arec r).pos * 4)) + 4) a)) ∧
        (t.arec r).n = (s.arec r).n + 1 ∧ (t.arec r).gate = clk t ∧ (t.arec r).pos = ((s.arec r).pos + 1) % cfgLen (s.arec r).cfg ∧
        recState t r = 1 ∧
        t.regs = s.regs)) ∧
  (∀ (s : State) (t0 : Nat) (c : Fin 32) (i : Nat) (r : Fin 16) (k : Nat) (n : Nat),
      acqLive s = true →
      fget s F.ACQ_TCN_CFG_KIND c ≠ 3 ∧ (c.val, i) ∈ s.trigq →
      recState s r = 1 ∧ (cfgBits (s.arec r).cfg 15 0 32).testBit c = true ∧ cfgBits (s.arec r).cfg 0 30 1 = 0 →
      sampleAt (s.arec r) i = some (k, n) →
      Goes (.acqTrigger t0 c i false) s (fun t => (recState t r = 2 ∨ recState t r = 3) ∧
        (t.arec r).kT = k ∧ (t.arec r).cond = c ∧ (t.arec r).mask = 2 ^ c.val ∧ (t.arec r).at_ = i ∧
        fget t F.ACQ_TCN_HITS_COUNT c = min 65535 (fget s F.ACQ_TCN_HITS_COUNT c + 1) ∧
        t.mem = s.mem ∧
        (RegsKept s t (fun a => commonReg a || R.ACQ_STATUS.hits a || R.ACQ_MISSED.hits a || a == R.ACQ_TCN_HITS.at c)))) ∧
  (∀ (s : State) (t0 : Nat) (c : Fin 32) (i : Nat) (b : Bool),
      acqLive s = true →
      fget s F.ACQ_TCN_CFG_KIND c = 3 ∧ trgEdge (fget s F.ACQ_TCN_CFG_MODE c) b = true ∧ i ≤ fine (advance t0 s) →
      domainOn s 7 = true ∧ hasBall s 0x08 (fget s F.ACQ_TCN_CFG_IDX c) = true →
      Goes (.acqTrigger t0 c i b) s (fun t => fget t F.ACQ_TCN_HITS_COUNT c = min 65535 (fget s F.ACQ_TCN_HITS_COUNT c + 1) ∧
        (∀ r : Fin 16, (cfgBits (s.arec r).cfg 15 0 32).testBit c = false → t.arec r = s.arec r) ∧
        t.mem = s.mem ∧
        (RegsKept s t (fun a => commonReg a || R.ACQ_STATUS.hits a || R.ACQ_MISSED.hits a || a == R.ACQ_TCN_HITS.at c)))) ∧
  (∀ (s : State) (t0 : Nat) (r : Fin 16),
      acqLive s = true ∧ recState s r = 3 →
      cfgBits (s.arec r).cfg 0 29 1 = 0 →
      Goes (.recordComplete t0 r []) s (fun t => fget t F.ACQ_SEQ_SEQ r = (fget s F.ACQ_SEQ_SEQ r + 1) % 2 ^ 32 ∧ recState t r = 0 ∧
        fget t F.ACQ_SLOT_WR r = (fget s F.ACQ_SLOT_WR r + 1) % cfgNrec (s.arec r).cfg % 2 ^ 8 ∧ fget t F.ACQ_SLOT_READY r = (fget s F.ACQ_SLOT_READY r + 1) % 2 ^ 9 ∧
        memNat t (dramAt ((slotAddr (s.arec r).cfg (fget s F.ACQ_SLOT_WR r)) + 4)) 4 = (fget s F.ACQ_SEQ_SEQ r + 1) % 2 ^ 32 ∧
        (MemKept s t (fun a => (List.range 64).any (fun i => a == dramAt ((slotAddr (s.arec r).cfg (fget s F.ACQ_SLOT_WR r)) + i)))) ∧
        (RegsKept s t (fun a => commonReg a || within 0xE0000 0xF0000 a)))) ∧
  (∀ (s : State) (t0 : Nat) (j : AcqJob) (l : List AcqJob) (b : BitVec 13),
      acqLive s = true →
      s.acq.jobs = j :: l ∧ s.acq.run = none →
      (s.plt 4).jobBusy = false →
      Goes (.measJobStart t0 b) s (fun t => t.acq = { s.acq with jobs := l, run := some j } ∧ (t.plt 4).jobBusy = true ∧ (t.plt 4).pos = b.toNat ∧ (t.plt 4).ended = false ∧
        fget t F.ACQ_JOBQ_LEVEL = l.length % 2 ^ 6 ∧ fget t F.ACQ_JOBQ_BUSY = 1 ∧
        t.mem = s.mem ∧
        (RegsKept s t (fun a => a == R.ACQ_JOBQ.addr)))) ∧
  (∀ (s : State) (t0 : Nat) (j : AcqJob),
      acqLive s = true →
      s.acq.run = some j ∧ (s.plt 4).ended = true →
      cfgBits j.cfg 16 3 1 = 0 ∧ cfgBits j.cfg 16 4 2 = 0 ∧ recState s j.rcd ≠ 4 →
      ((List.range 4).all (fun i => !flag s F.ACQ_HIST_CFG_EN i && !flag s F.ACQ_MAP_CFG_EN i) = true) →
      Goes (.measJobDone t0 []) s (fun t => t.acq = { s.acq with run := none } ∧ (t.plt 4).jobBusy = false ∧ (t.plt 4).ended = false ∧
        memNat t (dramAt (slotAddr j.cfg j.slot + 124)) 4 = j.n % 2 ^ 32 ∧
        (MemKept s t (fun a => (List.range 128).any (fun i => a == dramAt (slotAddr j.cfg j.slot + i)))) ∧
        (RegsKept s t (fun a => commonReg a || a == R.ACQ_JOBQ.addr))))

/-- Device-state requests move the device or are refused. In FEEDS mode a READY request in LOADED enters READY and
starts impressions at the next grid instant; in a pair it enters STANDBY where OWN_IN is asserted, and else begins the
200 µs of R421, for which the preferred unit claims; one in RUN with every mover idle returns to READY; a RUN request
in READY with the safety state live and the outputs owned is kept for the next boundary; a DOZE request in READY with
DOZE_OK is kept for the next boundary; STOP_ACK leaves SAFE_STOP for READY when the island is SAFE and no cause
stands. A request that does not qualify leaves the device state. The start policy makes that request once, at a
boundary at which R31 admits it. Memory keeps its contents. In a clause that names or bounds the registers it writes,
every other register keeps its value. -/
def Obligations.DeviceRequests : Prop :=
  (∀ (s : State) (h : Via),
      HostOn s R.SYS_CTL.addr →
      s.sys.st = .loaded ∧ pairMode s = false ∧ conflictOut s = false →
      Goes (.reqReady h) s (fun t => t.sys.st = .ready ∧ t.sys.running = true ∧
        t.sys.next = gridFrom s (lns (advance h.t s)) ∧
        t.mem = s.mem ∧
        t.plts = s.plts ∧
        (RegsKept s t (fun a => commonReg a || within 0x40000 0x50000 a || within 0xF0000 0x100000 a || a == R.SYS_STATE.addr)))) ∧
  (∀ (s : State) (h : Via),
      HostOn s R.SYS_CTL.addr →
      s.sys.st = .loaded ∧ pairMode s = true ∧ conflictOut s = false ∧ s.par.leave = false ∧ ownIn s = true →
      Goes (.reqReady h) s (fun t => t.sys.st = .standby ∧ t.sys.running = false ∧ t.par.claim = false ∧
        t.mem = s.mem ∧
        t.plts = s.plts ∧
        (RegsKept s t (fun a => commonReg a || within 0x40000 0x50000 a || within 0xF0000 0x100000 a || a == R.SYS_STATE.addr)))) ∧
  (∀ (s : State) (h : Via),
      HostOn s R.SYS_CTL.addr →
      s.sys.st = .loaded ∧ pairMode s = true ∧ conflictOut s = false ∧ s.par.leave = false ∧ ownIn s = false →
      Goes (.reqReady h) s (fun t => t.sys.st = .loaded ∧ t.par.leave = true ∧ t.par.claim = (s.par.claim || flag s F.PAR_CFG_PREFERRED) ∧
        t.mem = s.mem ∧
        t.plts = s.plts ∧
        (RegsKept s t (fun a => commonReg a || within 0x40000 0x50000 a || within 0xF0000 0x100000 a || a == R.SYS_STATE.addr)))) ∧
  (∀ (s : State) (h : Via),
      HostOn s R.SYS_CTL.addr →
      s.sys.st = .run ∧ moversIdle s = true →
      Goes (.reqReady h) s (fun t => t.sys.st = .ready ∧ t.sys.running = s.sys.running ∧
        t.mem = s.mem ∧
        t.plts = s.plts ∧
        (RegsKept s t (fun a => commonReg a || within 0x30000 0x3C000 a || within 0x40000 0x50000 a || within 0xF0000 0x100000 a || a == R.SYS_STATE.addr)))) ∧
  (∀ (s : State) (h : Via),
      HostOn s R.SYS_CTL.addr →
      (s.sys.st ≠ .loaded ∧ (s.sys.st ≠ .run ∨ moversIdle s = false)) →
      Goes (.reqReady h) s (fun t => t.sys = { s.sys with idleAt := t.sys.idleAt } ∧
        t.mem = s.mem ∧
        t.plts = s.plts ∧
        (RegsKept s t (fun a => commonReg a || a == R.SYS_STATE.addr)))) ∧
  (∀ (s : State) (h : Via),
      HostOn s R.SYS_CTL.addr →
      runOk s = true →
      Goes (.reqRun h) s (fun t => t.sys = { s.sys with runReq := true, idleAt := t.sys.idleAt } ∧
        t.regs = s.regs ∧
        t.mem = s.mem ∧
        t.plts = s.plts)) ∧
  (∀ (s : State) (h : Via),
      HostOn s R.SYS_CTL.addr →
      runOk s = false →
      Goes (.reqRun h) s (fun t => t.sys = { s.sys with idleAt := t.sys.idleAt } ∧
        t.mem = s.mem ∧
        t.plts = s.plts ∧
        (RegsKept s t (fun a => commonReg a || a == R.SYS_STATE.addr)))) ∧
  (∀ (s : State) (h : Via),
      HostOn s R.SYS_CTL.addr →
      s.sys.st = .ready ∧ flag s F.PWR_SAVE_DOZE_OK = true →
      Goes (.reqDoze h) s (fun t => t.sys = { s.sys with dozeReq := 1, idleAt := t.sys.idleAt } ∧
        t.regs = s.regs ∧
        t.mem = s.mem ∧
        t.plts = s.plts)) ∧
  (∀ (s : State) (h : Via),
      HostOn s R.SYS_CTL.addr →
      s.sys.st = .safeStop ∧ fget s F.SAF_STATE_STATE = 2 ∧ standing s = [] →
      Goes (.stopAck h) s (fun t => t.sys.st = .ready ∧
        t.mem = s.mem ∧
        t.plts = s.plts ∧
        (RegsKept s t (fun a => commonReg a || within 0x40000 0x50000 a || within 0xF0000 0x100000 a || a == R.SYS_STATE.addr)))) ∧
  (∀ (s : State) (h : Via),
      HostOn s R.SYS_CTL.addr →
      s.sys.st ≠ .safeStop →
      Goes (.stopAck h) s (fun t => t.sys = { s.sys with idleAt := t.sys.idleAt } ∧
        t.mem = s.mem ∧
        t.plts = s.plts ∧
        (RegsKept s t (fun a => commonReg a || a == R.SYS_STATE.addr)))) ∧
  (∀ (s : State) (t0 : Nat),
      s.sys.startDue = true ∧ runOk s = true →
      s.sys.running = true ∧ lns (advance t0 s) = s.sys.s0 →
      Goes (.startPolicyRun t0) s (fun t => t.sys = { s.sys with runReq := true, startDue := false } ∧
        t.regs = s.regs ∧
        t.mem = s.mem ∧
        t.plts = s.plts))

/-- Rescue runs begin, plan and end. A trigger of R429 on a unit that owns its outputs with the safety state live puts
the one mover that is enabled, not in fallback and waiting for nothing into HOLDING with its brake released; one in
fallback plans at once; on another unit every enabled mover that has no active rescue is REFUSED. A holding mover
whose record shows HOLD_VALID plans with that i_HOLD; after a wait of 2 s it plans with the one kept, or without one
by FB_DIR and BAL, and shows NO_HOLD. Planning takes the nearest door zone of the lighter direction, of the other
direction when there is none, or the nearest of all when |i_HOLD| is below BAL, and forms v_R from the battery's
power, VRES and the axis's limit: at least VMIN, the rescue is RUNNING and VMAX and MOVE_ABS wait for the next
boundary, which applies them; below it, it ends as NO_ENERGY with its brake applied; without a door zone it fails with
its brake applied. At a servo-period boundary a running rescue whose move stands DONE is DONE: its brake is applied
and the VMAX it replaced is back. Undervoltage for 100 ms stops every running rescue that moves and ends one whose
move has not begun. Memory keeps its contents. In a clause that names or bounds the registers it writes, every other
register keeps its value. -/
def Obligations.RescueRuns : Prop :=
  (∀ (s : State) (t0 : Nat) (m : Fin 32),
      allBatt s = true ∧ heldFor Timed.allBatt (1000000000 * fget s F.PAR_RSC_BATT_T) (advance t0 s) = true →
      s.sys.st ≠ .doze ∧ ownOk s = true ∧ safLive s = true →
      ((List.range 32).filter (fun k => flag s F.PAR_RSCM_CFG_EN k) = [m.val] ∧ rescState s m = 0) →
      (s.par.resq = [] ∧ 0 < fget s F.PAR_RSC_MAXPAR ∧ flag s F.PAR_RSC_AUTO_RUN = false ∧ (List.range 32).all (fun k => rescState s k != 1 && rescState s k != 2) = true) →
      (recPeek s m 14).testBit 0 = false →
      Goes (.rescueTrigger t0) s (fun t => rescState t m = 1 ∧ t.par.resq = [] ∧
        fbit t F.SAF_BRAKE_REL (fget s F.PAR_RSCM_CFG_AXIS m) = true ∧
        flag t F.PAR_STATUS_ACTIVE = true ∧
        t.mem = s.mem ∧
        (RegsKept s t (fun a => commonReg a || within 0xF0000 0x100000 a || within 0x30000 0x34000 a || a == R.SAF_BRAKE.addr)))) ∧
  (∀ (s : State) (h : Via) (m : Fin 32),
      HostOn s R.PAR_RSC.addr →
      s.sys.st ≠ .doze ∧ ownOk s = true ∧ safLive s = true →
      ((List.range 32).filter (fun k => flag s F.PAR_RSCM_CFG_EN k) = [m.val] ∧ rescState s m = 0) →
      (s.par.resq = [] ∧ 0 < fget s F.PAR_RSC_MAXPAR ∧ flag s F.PAR_RSC_AUTO_RUN = false ∧ (List.range 32).all (fun k => rescState s k != 1 && rescState s k != 2) = true) →
      (recPeek s m 14).testBit 0 = false →
      Goes (.rescueGo h) s (fun t => rescState t m = 1 ∧ t.par.resq = [] ∧
        fbit t F.SAF_BRAKE_REL (fget s F.PAR_RSCM_CFG_AXIS m) = true ∧
        flag t F.PAR_STATUS_ACTIVE = true ∧
        t.mem = s.mem ∧
        (RegsKept s t (fun a => commonReg a || within 0xF0000 0x100000 a || within 0x30000 0x34000 a || a == R.SAF_BRAKE.addr)))) ∧
  (∀ (s : State) (t0 : Nat) (m : Fin 32),
      fget s F.SAF_STATE_STATE = 4 ∧ fget s F.SAF_TRESQ_TRESQ ≠ 0 ∧ fget s F.SAF_DRY_LEFT_VAL ≤ fget s F.SAF_TRESQ_TRESQ ∧ s.saf.rescued = false →
      s.sys.st ≠ .doze ∧ ownOk s = true ∧ safLive s = true →
      ((List.range 32).filter (fun k => flag s F.PAR_RSCM_CFG_EN k) = [m.val] ∧ rescState s m = 0) →
      (s.par.resq = [] ∧ 0 < fget s F.PAR_RSC_MAXPAR ∧ flag s F.PAR_RSC_AUTO_RUN = false ∧ (List.range 32).all (fun k => rescState s k != 1 && rescState s k != 2) = true) →
      (recPeek s m 14).testBit 0 = false →
      Goes (.rescueReq t0) s (fun t => rescState t m = 1 ∧ t.par.resq = [] ∧
        fbit t F.SAF_BRAKE_REL (fget s F.PAR_RSCM_CFG_AXIS m) = true ∧
        flag t F.PAR_STATUS_ACTIVE = true ∧
        t.mem = s.mem ∧
        t.saf.rescued = true ∧
        (RegsKept s t (fun a => commonReg a || within 0xF0000 0x100000 a || within 0x30000 0x34000 a || a == R.SAF_BRAKE.addr)))) ∧
  (∀ (s : State) (h : Via),
      HostOn s R.PAR_RSC.addr →
      s.sys.st ≠ .doze →
      (ownOk s = false ∨ safLive s = false) →
      Goes (.rescueGo h) s (fun t => (∀ m : Fin 32, flag s F.PAR_RSCM_CFG_EN m = true → rescState s m ≠ 1 → rescState s m ≠ 2 → rescState t m = 6) ∧
        (∀ m : Fin 32, flag s F.PAR_RSCM_CFG_EN m = false → rescState t m = rescState s m) ∧
        t.mem = s.mem ∧
        (RegsKept s t (fun a => commonReg a || a == R.PAR_STATUS.addr || R.PAR_RSCM_STATE.hits a)))) ∧
  (∀ (s : State) (t0 : Nat) (m : Fin 32),
      rescState s m = 1 ∧ (recPeek s m 14).testBit 3 = true ∧ s.par.resq = [] →
      ZonesRead s ∧ doorZones s m = [] →
      Goes (.rescueHoldValid t0 m []) s (fun t => rescState t m = 4 ∧ fbit t F.SAF_BRAKE_REL (fget s F.PAR_RSCM_CFG_AXIS m) = false ∧ flag t F.PAR_RSCM_STATE_NO_HOLD m = false ∧
        (RegsKept s t (fun a => commonReg a || a == R.PAR_STATUS.addr || a == R.PAR_RSCM_STATE.at m || a == R.SAF_BRAKE.addr)) ∧
        t.mem = s.mem)) ∧
  (∀ (s : State) (t0 : Nat) (m : Fin 32),
      rescState s m = 1 ∧ heldFor (Timed.hold m) 2000000000 (advance t0 s) = true ∧ s.par.resq = [] →
      ZonesRead s ∧ doorZones s m = [] →
      Goes (.rescueHoldTimeout t0 m []) s (fun t => rescState t m = 4 ∧ fbit t F.SAF_BRAKE_REL (fget s F.PAR_RSCM_CFG_AXIS m) = false ∧ flag t F.PAR_RSCM_STATE_NO_HOLD m = true ∧
        (RegsKept s t (fun a => commonReg a || a == R.PAR_STATUS.addr || a == R.PAR_RSCM_STATE.at m || a == R.SAF_BRAKE.addr)) ∧
        t.mem = s.mem)) ∧
  (∀ (s : State) (t0 : Nat) (m : Fin 32) (q : Int),
      rescState s m = 1 ∧ (recPeek s m 14).testBit 3 = true ∧ s.par.resq = [] →
      fget s F.PAR_RSCM_BAL_VAL m ≤ (recHold s m).natAbs ∧ (recHold s m) ≠ 0 →
      ZonesRead s ∧ NearestZone s m (decide ((0 : Int) < (recHold s m))) q →
      0 < fget s F.PAR_RSCM_KPW_VAL m * (max (fget s F.PAR_RSCM_I_FRIC_VAL m - (recHold s m).natAbs) (fget s F.PAR_RSCM_I_MIN_VAL m)) →
      Goes (.rescueHoldValid t0 m []) s (fun t => RescuePlans s t m q (decide ((0 : Int) < (recHold s m))) (max (fget s F.PAR_RSCM_I_FRIC_VAL m - (recHold s m).natAbs) (fget s F.PAR_RSCM_I_MIN_VAL m)) ∧
        flag t F.PAR_RSCM_STATE_NO_HOLD m = false ∧
        (RegsKept s t (fun a => commonReg a || a == R.PAR_STATUS.addr || a == R.PAR_RSCM_STATE.at m || a == R.SAF_BRAKE.addr)) ∧
        t.mem = s.mem)) ∧
  (∀ (s : State) (t0 : Nat) (m : Fin 32) (q : Int),
      rescState s m = 1 ∧ (recPeek s m 14).testBit 3 = true ∧ s.par.resq = [] →
      fget s F.PAR_RSCM_BAL_VAL m ≤ (recHold s m).natAbs ∧ (recHold s m) ≠ 0 →
      (ZonesRead s ∧ (∀ z ∈ doorZones s m, ¬ zoneSide s m (decide ((0 : Int) < (recHold s m))) z) ∧ NearestZone s m (!decide ((0 : Int) < (recHold s m))) q) →
      0 < fget s F.PAR_RSCM_KPW_VAL m * (fget s F.PAR_RSCM_I_FRIC_VAL m + (recHold s m).natAbs) →
      Goes (.rescueHoldValid t0 m []) s (fun t => RescuePlans s t m q (!decide ((0 : Int) < (recHold s m))) (fget s F.PAR_RSCM_I_FRIC_VAL m + (recHold s m).natAbs) ∧
        flag t F.PAR_RSCM_STATE_NO_HOLD m = false ∧
        (RegsKept s t (fun a => commonReg a || a == R.PAR_STATUS.addr || a == R.PAR_RSCM_STATE.at m || a == R.SAF_BRAKE.addr)) ∧
        t.mem = s.mem)) ∧
  (∀ (s : State) (t0 : Nat) (m : Fin 32) (q : Int),
      rescState s m = 1 ∧ (recPeek s m 14).testBit 3 = true ∧ s.par.resq = [] →
      (recHold s m).natAbs < fget s F.PAR_RSCM_BAL_VAL m ∧ (recHold s m) ≠ 0 →
      ZonesRead s ∧ q ∈ doorZones s m ∧ q ≠ spInt (s.prf m).sp →
      (∀ z ∈ doorZones s m, z = q ∨ (q - spInt (s.prf m).sp).natAbs < (z - spInt (s.prf m).sp).natAbs) →
      (0 < fget s F.PAR_RSCM_KPW_VAL m * (if (0 < (recHold s m)) = (q < spInt (s.prf m).sp) then max (fget s F.PAR_RSCM_I_FRIC_VAL m - (recHold s m).natAbs) (fget s F.PAR_RSCM_I_MIN_VAL m) else fget s F.PAR_RSCM_I_FRIC_VAL m + (recHold s m).natAbs)) →
      Goes (.rescueHoldValid t0 m []) s (fun t => (RescuePlans s t m q (decide (q < spInt (s.prf m).sp)) (if decide ((0 : Int) < (recHold s m)) = decide (q < spInt (s.prf m).sp) then max (fget s F.PAR_RSCM_I_FRIC_VAL m - (recHold s m).natAbs) (fget s F.PAR_RSCM_I_MIN_VAL m) else fget s F.PAR_RSCM_I_FRIC_VAL m + (recHold s m).natAbs)) ∧
        flag t F.PAR_RSCM_STATE_NO_HOLD m = false ∧
        (RegsKept s t (fun a => commonReg a || a == R.PAR_STATUS.addr || a == R.PAR_RSCM_STATE.at m || a == R.SAF_BRAKE.addr)) ∧
        t.mem = s.mem)) ∧
  (∀ (s : State) (t0 : Nat) (m : Fin 32) (q : Int),
      rescState s m = 1 ∧ heldFor (Timed.hold m) 2000000000 (advance t0 s) = true ∧ s.par.resq = [] →
      holdKept (advance t0 s) m = none →
      ZonesRead s ∧ NearestZone s m (flag s F.PAR_RSCM_CFG_FB_DIR m) q →
      0 < fget s F.PAR_RSCM_KPW_VAL m * (fget s F.PAR_RSCM_I_FRIC_VAL m + fget s F.PAR_RSCM_BAL_VAL m) →
      Goes (.rescueHoldTimeout t0 m []) s (fun t => RescuePlans s t m q (flag s F.PAR_RSCM_CFG_FB_DIR m) (fget s F.PAR_RSCM_I_FRIC_VAL m + fget s F.PAR_RSCM_BAL_VAL m) ∧
        flag t F.PAR_RSCM_STATE_NO_HOLD m = true ∧
        (RegsKept s t (fun a => commonReg a || a == R.PAR_STATUS.addr || a == R.PAR_RSCM_STATE.at m || a == R.SAF_BRAKE.addr)) ∧
        t.mem = s.mem)) ∧
  (∀ (s : State) (t0 : Nat) (m : Fin 32) (q : Int) (x : Int),
      rescState s m = 1 ∧ heldFor (Timed.hold m) 2000000000 (advance t0 s) = true ∧ s.par.resq = [] →
      holdKept (advance t0 s) m = some x →
      fget s F.PAR_RSCM_BAL_VAL m ≤ x.natAbs ∧ x ≠ 0 →
      ZonesRead s ∧ NearestZone s m (decide ((0 : Int) < x)) q →
      0 < fget s F.PAR_RSCM_KPW_VAL m * (max (fget s F.PAR_RSCM_I_FRIC_VAL m - x.natAbs) (fget s F.PAR_RSCM_I_MIN_VAL m)) →
      Goes (.rescueHoldTimeout t0 m []) s (fun t => RescuePlans s t m q (decide ((0 : Int) < x)) (max (fget s F.PAR_RSCM_I_FRIC_VAL m - x.natAbs) (fget s F.PAR_RSCM_I_MIN_VAL m)) ∧
        flag t F.PAR_RSCM_STATE_NO_HOLD m = true ∧
        (RegsKept s t (fun a => commonReg a || a == R.PAR_STATUS.addr || a == R.PAR_RSCM_STATE.at m || a == R.SAF_BRAKE.addr)) ∧
        t.mem = s.mem)) ∧
  (∀ (s : State) (h : Via) (m : Fin 32),
      HostOn s R.PAR_RSC.addr →
      s.sys.st ≠ .doze ∧ ownOk s = true ∧ safLive s = true →
      ((List.range 32).filter (fun k => flag s F.PAR_RSCM_CFG_EN k) = [m.val] ∧ rescState s m = 0) →
      (s.par.resq = [] ∧ 0 < fget s F.PAR_RSC_MAXPAR ∧ flag s F.PAR_RSC_AUTO_RUN = false ∧ (List.range 32).all (fun k => rescState s k != 1 && rescState s k != 2) = true) →
      (recPeek s m 14).testBit 0 = true →
      Goes (.rescueGo h) s (fun t => (rescState t m = 2 ∨ rescState t m = 4 ∨ rescState t m = 5) ∧
        flag t F.PAR_RSCM_STATE_NO_HOLD m = true ∧ t.par.resq = [] ∧
        t.mem = s.mem ∧
        (RegsKept s t (fun a => commonReg a || within 0xF0000 0x100000 a || within 0x30000 0x34000 a || a == R.SAF_BRAKE.addr)))) ∧
  (∀ (s : State) (t0 : Nat) (y3 : List (List Bool)) (scrub : List PltErr) (m : Fin 32) (v : Word) (q : Int),
      PlainBoundary s →
      (SMap.get (fun _ => noResc) s.par.rescNew m = ⟨v.toNat + 1, q, false⟩) →
      (s.prf m).pend = none →
      Goes (.impressionBoundary t0 y3 [] none none scrub) s (fun t => fget t F.PRF_VMAX_VAL m = v.toNat ∧ fget t F.PRF_TGT_L_VAL m = unsgn 32 q ∧ fget t F.PRF_TGT_H_VAL m = unsgn 16 (q / 2 ^ 32) ∧
        (((t.prf m).pend.map (fun c => c.code)) = some 1) ∧
        (SMap.get (fun _ => noResc) t.par.rescNew m = noResc))) ∧
  (∀ (s : State) (t0 : Nat) (y3 : List (List Bool)) (scrub : List PltErr) (m : Fin 32) (x : RescS),
      PlainBoundary s →
      ServoNext s →
      OnlyAccords s [] →
      (rescState s m = 2 ∧ rescTaken s m = true ∧ SMap.get (fun _ => noResc) s.par.resc m = x) →
      fget s F.PRF_STATE_STATE m = 0 ∧ fget s F.PRF_STATE_CMDRES m = 1 ∧ fget s F.PRF_STATE_OUTCOME m = 1 →
      Goes (.impressionBoundary t0 y3 [] none none scrub) s (fun t => rescState t m = 3 ∧ fget t F.PRF_VMAX_VAL m = x.vmax % 2 ^ 32 ∧
        fbit t F.SAF_BRAKE_REL (fget s F.PAR_RSCM_CFG_AXIS m) = false ∧
        (∃ e ∈ t.mmq, e.block = blkPAR ∧ e.code = 0x20 ∧ e.inst = m.val))) ∧
  (∀ (s : State) (t0 : Nat),
      s.par.resq = [] ∧ battLow s = true ∧ heldFor Timed.stop 100000000 (advance t0 s) = true →
      Goes (.rescueUndervoltage t0) s (fun t => (∀ m : Fin 32, rescState s m ≠ 2 → rescState t m = rescState s m) ∧
        (∀ m : Fin 32, rescState s m = 2 → rescTaken s m = true → (s.prf m).pend = none → (SMap.get (fun _ => noResc) s.par.resc m).stop = false → rescState t m = 2 ∧ ((t.prf m).pend.map (fun c => c.code)) = some 5 ∧ (SMap.get (fun _ => noResc) t.par.resc m).stop = true) ∧
        (∀ m : Fin 32, rescState s m = 2 → rescTaken s m = false → (SMap.get (fun _ => noResc) s.par.resc m).stop = false → rescState t m = 4 ∧ SMap.get (fun _ => noResc) t.par.rescNew m = noResc) ∧
        t.mem = s.mem ∧
        (RegsKept s t (fun a => commonReg a || within 0xF0000 0x100000 a || within 0x30000 0x34000 a || a == R.SAF_BRAKE.addr))))

/-- Feeds are measured, classed and chosen, and a power failure starts the flush. A measurement stores the voltages of
the feeds in use and POWER_FAIL of the OR; a feed below 7.5 V for its time is lost; the feed that has been better for
100 ms is selected; a feed in use below BATT_V for 1 s with that source shows battery operation. A power failure with
the hold-up charged and a free slot keeps a flush for the next boundary while impressions run, and starts it at once
otherwise; without the charge it is skipped and counted. An erased region has no slots. Memory keeps its contents. -/
def Obligations.FeedsAndFlush : Prop :=
  (∀ (s : State) (t0 : Nat) (a : Nat) (b : Nat) (c : Nat),
      s.sys.st ≠ .off →
      feedUsed s 0 = true ∧ feedUsed s 1 = true →
      Goes (.feedMeasure t0 a b c) s (fun t => fget t F.PAR_FEED_STATUS_VOLT 0 = min 16383 a ∧ fget t F.PAR_FEED_STATUS_VOLT 1 = min 16383 b ∧
        flag t F.PAR_STATUS_POWER_FAIL = decide (c < 750) ∧
        t.mem = s.mem ∧
        (RegsKept s t (fun a => commonReg a || within 0xF0000 0x100000 a)))) ∧
  (∀ (s : State) (t0 : Nat) (f : Fin 2),
      feedUsed s f = true →
      fget s F.PAR_FEED_STATUS_VOLT f < 750 ∧ heldFor (Timed.low f) 1000000 (advance t0 s) = true →
      Goes (.feedClassChange t0 f) s (fun t => fget t F.PAR_FEED_STATUS_CLASS f = 2 ∧
        t.mem = s.mem ∧
        (RegsKept s t (fun a => commonReg a || R.PAR_FEED_STATUS.hits a)))) ∧
  (∀ (s : State) (t0 : Nat) (f : Fin 2),
      feedUsed s f = true →
      fget s F.PAR_STATUS_SEL_FEED = 1 - f.val ∧ feedBetter s f (1 - f.val) = true ∧ heldFor Timed.better 100000000 (advance t0 s) = true →
      Goes (.feedSelect t0) s (fun t => fget t F.PAR_STATUS_SEL_FEED = f ∧
        t.mem = s.mem ∧
        (RegsKept s t (fun a => commonReg a || a == R.PAR_STATUS.addr)))) ∧
  (∀ (s : State) (t0 : Nat) (f : Fin 2),
      feedUsed s f = true →
      fget s F.PAR_FEED_CFG_BATT_SRC f = 3 ∧ fget s F.PAR_FEED_STATUS_VOLT f < battV s f ∧ heldFor (Timed.batt f) 1000000000 (advance t0 s) = true →
      Goes (.batteryDetect t0 f) s (fun t => flag t F.PAR_FEED_STATUS_BATT f = true ∧
        t.mem = s.mem ∧
        (RegsKept s t (fun a => R.PAR_FEED_STATUS.hits a)))) ∧
  (∀ (s : State) (t0 : Nat),
      s.sys.st ≠ .off ∧ s.sys.st ≠ .boot ∧ s.par.flushDue = false ∧ s.par.flush = none →
      (flushNext s).isSome = true ∧ s.sys.running = true →
      Goes (.powerFail t0 ⟨true, []⟩) s (fun t => t.par = { s.par with flushDue := true } ∧
        flag t F.PAR_STATUS_POWER_FAIL = true ∧
        t.mem = s.mem ∧
        (RegsKept s t (fun a => a == R.PAR_STATUS.addr)))) ∧
  (∀ (s : State) (t0 : Nat),
      s.sys.st ≠ .off ∧ s.sys.st ≠ .boot ∧ s.par.flushDue = false ∧ s.par.flush = none →
      (flushNext s).isSome = true ∧ s.sys.running = false ∧ mapPoison s (mapsOn s) = [] ∧ s.sys.st ≠ .doze →
      Goes (.powerFail t0 ⟨true, []⟩) s (fun t => ((t.par.flush.map (fun e => (e.gen, e.flush, e.handback))) = some (flushGen s, true, false)) ∧
        flag t F.PAR_STATUS_POWER_FAIL = true ∧
        t.mem = s.mem ∧
        (RegsKept s t (fun a => a == R.PAR_STATUS.addr)))) ∧
  (∀ (s : State) (t0 : Nat),
      s.sys.st ≠ .off ∧ s.sys.st ≠ .boot ∧ s.par.flushDue = false ∧ s.par.flush = none →
      Goes (.powerFail t0 ⟨false, []⟩) s (fun t => t.par = s.par ∧
        flag t F.PAR_STATUS_POWER_FAIL = true ∧ fget t F.PAR_FLUSH_CNT_FLUSH_SKIP = min 65535 (fget s F.PAR_FLUSH_CNT_FLUSH_SKIP + 1) ∧
        t.mem = s.mem ∧
        (RegsKept s t (fun a => commonReg a || a == R.PAR_STATUS.addr || a == R.PAR_FLUSH_CNT.addr)))) ∧
  (∀ (s : State) (t0 : Nat) (r : Nat) (l : List Nat),
      s.rom.erase = r :: l →
      Goes (.regionEraseDone t0) s (fun t => t.rom.erase = l ∧
        (∀ k : Fin 32, k.val / 16 = r → flushSlot t k = none) ∧
        (∀ k : Fin 32, k.val / 16 ≠ r → flushSlot t k = flushSlot s k) ∧
        t.mem = s.mem ∧
        t.regs = s.regs))

/-- Essences are captured, sent, received and handed back. At the sample instant of a capture boundary of the active
unit with nothing in transit and no poisoned word the next generation is captured; one still in transit counts SKIP, a
poisoned word ABANDON. A generation that has gone out over the link becomes the last one, one stays in transit while
the link is down, and one that filled the buffer is abandoned and counted. A standby takes a generation of its own
galley whose trailer is right and that is newer by the half-range rule into the slot that does not hold its newest,
and confirms a handback, or lets its request lapse when a condition of the quiet point has failed; a generation of
another galley counts as bad and sets GALLEY_MISMATCH, and one with a wrong or missing trailer or one not newer counts
as bad. The standby counters are latched at each boundary. Loss of the mirror link discards what was in transit and,
in a standby, sets MIRROR_LOST; its return clears the flags. A preferred standby asks for the handback at a quiet
point and lets the request lapse (the lapse message is the model's, log entry 72); the active unit keeps the request,
and withdraws at the confirmation. RELEASE is accepted by the owner in READY, RUN and SAFE_STOP, and its confirmation
or its timeout of 10 ms makes the unit the standby. Memory keeps its contents. In a clause that names or bounds the
registers it writes, every other register keeps its value. -/
def Obligations.EssenceExchange : Prop :=
  (∀ (s : State) (t0 : Nat),
      parActive s = true ∧ lns (advance t0 s) = s.sys.s0 ∧ impCount s % essEvery s = 0 ∧ s.par.capAt ≠ impCount s + 1 →
      s.par.sending = none ∧ s.par.asked = false ∧ mapPoison s (mapsOn s) = [] →
      Goes (.essenceCapture t0 []) s (fun t => ((t.par.sending.map (fun e => (e.gen, e.handback, e.flush, e.sE, e.imp, e.check))) = some ((s.par.gen + 1) % 2 ^ 32, s.par.release, false, s.sys.s0, impCount s, galleyCheck s)) ∧
        (t.par.handGen = if s.par.release = true then some ((s.par.gen + 1) % 2 ^ 32) else s.par.handGen) ∧
        t = { s with par := t.par, tim := t.tim })) ∧
  (∀ (s : State) (t0 : Nat) (e : Essence),
      parActive s = true ∧ lns (advance t0 s) = s.sys.s0 ∧ impCount s % essEvery s = 0 ∧ s.par.capAt ≠ impCount s + 1 →
      s.par.sending = some e ∧ s.par.asked = false →
      Goes (.essenceCapture t0 []) s (fun t => t.par = { s.par with capAt := impCount s + 1 } ∧ fget t F.PAR_ESS_CNT_SKIP = min 65535 (fget s F.PAR_ESS_CNT_SKIP + 1) ∧
        t.mem = s.mem ∧
        (RegsKept s t (fun a => a == R.PAR_ESS_CNT.addr)))) ∧
  (∀ (s : State) (t0 : Nat) (a : Nat) (l : List Nat),
      parActive s = true ∧ lns (advance t0 s) = s.sys.s0 ∧ impCount s % essEvery s = 0 ∧ s.par.capAt ≠ impCount s + 1 →
      s.par.sending = none ∧ s.par.asked = false ∧ mapPoison s (mapsOn s) = a :: l →
      Goes (.essenceCapture t0 []) s (fun t => t.par = { s.par with capAt := impCount s + 1 } ∧ fget t F.PAR_ESS_CNT_ABANDON = min 255 (fget s F.PAR_ESS_CNT_ABANDON + 1) ∧
        t.mem = s.mem ∧
        (RegsKept s t (fun a => commonReg a || a == R.PAR_ESS_CNT.addr || within 0x110000 0x120000 a)))) ∧
  (∀ (s : State) (t0 : Nat) (e : Essence),
      s.par.sending = some e ∧ s.par.link = true →
      Goes (.essenceSent t0 false) s (fun t => t.par = { s.par with sending := none, gen := e.gen } ∧
        t.out = s.out ++ [Out.essence e.gen] ∧
        fget t F.PAR_ESS_GEN_GEN = e.gen % 2 ^ 32 ∧
        t.mem = s.mem ∧
        (RegsKept s t (fun a => a == R.PAR_ESS_GEN.addr)))) ∧
  (∀ (s : State) (t0 : Nat) (e : Essence),
      s.par.sending = some e ∧ s.par.link = false →
      Goes (.essenceSent t0 false) s (fun t => t = { s with tim := t.tim })) ∧
  (∀ (s : State) (t0 : Nat) (e : Essence),
      s.par.sending = some e →
      Goes (.essenceSent t0 true) s (fun t => t.par = { s.par with sending := none } ∧
        t.out = s.out ∧
        fget t F.PAR_ESS_CNT_ABANDON = min 255 (fget s F.PAR_ESS_CNT_ABANDON + 1) ∧
        t.mem = s.mem ∧
        (RegsKept s t (fun a => a == R.PAR_ESS_CNT.addr)))) ∧
  (∀ (s : State) (t0 : Nat) (e : Essence) (x : EssTrail),
      s.sys.st = .standby ∧ s.par.link = true →
      trailOk e x = true ∧ e.check = galleyCheck s ∧ newest s = none ∧ e.handback = false ∧ flag s F.PAR_CFG_SBY_CNT = false →
      Goes (.essenceReceive t0 e (some x)) s (fun t => newest t = some e ∧ fget t F.PAR_ESS_GEN_GEN = e.gen % 2 ^ 32 ∧
        t.out = s.out ∧
        t.mem = s.mem ∧
        (RegsKept s t (fun a => a == R.PAR_ESS_GEN.addr || a == R.PAR_ESS_STATUS.addr)))) ∧
  (∀ (s : State) (t0 : Nat) (e : Essence) (x : EssTrail) (o : Essence),
      s.sys.st = .standby ∧ s.par.link = true →
      trailOk e x = true ∧ e.check = galleyCheck s ∧ e.handback = false ∧ flag s F.PAR_CFG_SBY_CNT = false →
      newest s = some o →
      seqNew (some o.gen) e.gen = true →
      Goes (.essenceReceive t0 e (some x)) s (fun t => newest t = some e ∧ fget t F.PAR_ESS_GEN_GEN = e.gen % 2 ^ 32 ∧
        (fget t F.PAR_ESS_STATUS_SLOT ≠ fget s F.PAR_ESS_STATUS_SLOT ∧ (if fget s F.PAR_ESS_STATUS_SLOT = 0 then t.par.slot0 else t.par.slot1) = some o) ∧
        t.out = s.out ∧
        t.mem = s.mem ∧
        (RegsKept s t (fun a => a == R.PAR_ESS_GEN.addr || a == R.PAR_ESS_STATUS.addr)))) ∧
  (∀ (s : State) (t0 : Nat) (e : Essence) (x : EssTrail) (o : Essence),
      s.sys.st = .standby ∧ s.par.link = true →
      e.check = galleyCheck s →
      newest s = some o →
      seqNew (some o.gen) e.gen = false →
      Goes (.essenceReceive t0 e (some x)) s (fun t => fget t F.PAR_ESS_CNT_BAD = min 255 (fget s F.PAR_ESS_CNT_BAD + 1) ∧
        t.par = s.par ∧ t.out = s.out ∧
        t.mem = s.mem ∧
        (RegsKept s t (fun a => a == R.PAR_ESS_CNT.addr || a == R.PAR_STATUS.addr)))) ∧
  (∀ (s : State) (t0 : Nat) (e : Essence) (x : Option EssTrail),
      s.sys.st = .standby ∧ s.par.link = true →
      e.check ≠ galleyCheck s →
      Goes (.essenceReceive t0 e x) s (fun t => flag t F.PAR_STATUS_GALLEY_MISMATCH = true ∧
        fget t F.PAR_ESS_CNT_BAD = min 255 (fget s F.PAR_ESS_CNT_BAD + 1) ∧
        t.par = s.par ∧ t.out = s.out ∧
        t.mem = s.mem ∧
        (RegsKept s t (fun a => a == R.PAR_ESS_CNT.addr || a == R.PAR_STATUS.addr)))) ∧
  (∀ (s : State) (t0 : Nat) (e : Essence) (x : Option EssTrail),
      s.sys.st = .standby ∧ s.par.link = true →
      e.check = galleyCheck s →
      (∀ y, x = some y → trailOk e y = false) →
      Goes (.essenceReceive t0 e x) s (fun t => fget t F.PAR_ESS_CNT_BAD = min 255 (fget s F.PAR_ESS_CNT_BAD + 1) ∧
        t.par = s.par ∧ t.out = s.out ∧
        t.mem = s.mem ∧
        (RegsKept s t (fun a => a == R.PAR_ESS_CNT.addr || a == R.PAR_STATUS.addr)))) ∧
  (∀ (s : State) (t0 : Nat) (e : Essence) (x : EssTrail),
      s.sys.st = .standby ∧ s.par.link = true →
      trailOk e x = true ∧ e.check = galleyCheck s ∧ newest s = none ∧ e.handback = true ∧ flag s F.PAR_CFG_SBY_CNT = false →
      s.par.asked = false →
      Goes (.essenceReceive t0 e (some x)) s (fun t => newest t = some e ∧ fget t F.PAR_ESS_GEN_GEN = e.gen % 2 ^ 32 ∧
        t.out = s.out ++ [Out.confirm e.gen] ∧
        t.mem = s.mem ∧
        (RegsKept s t (fun a => a == R.PAR_ESS_GEN.addr || a == R.PAR_ESS_STATUS.addr)))) ∧
  (∀ (s : State) (t0 : Nat) (e : Essence) (x : EssTrail),
      s.sys.st = .standby ∧ s.par.link = true →
      trailOk e x = true ∧ e.check = galleyCheck s ∧ newest s = none ∧ e.handback = true ∧ flag s F.PAR_CFG_SBY_CNT = false →
      (s.par.asked = true ∧ (flag s F.PAR_CFG_PREFERRED = false ∨ flag s F.PAR_CTL_HANDBACK_HOLD = true)) →
      Goes (.essenceReceive t0 e (some x)) s (fun t => newest t = some e ∧ t.par.asked = false ∧
        t.out = s.out ++ [Out.handbackOff] ∧
        t.mem = s.mem ∧
        (RegsKept s t (fun a => a == R.PAR_ESS_GEN.addr || a == R.PAR_ESS_STATUS.addr)))) ∧
  (∀ (s : State) (t0 : Nat),
      s.sys.st = .standby ∧ flag s F.PAR_CFG_SBY_CNT = true ∧ gridFrom (advance t0 s) (lns (advance t0 s)) = lns (advance t0 s) →
      Goes (.standbyCounterLatch t0) s (fun t => t.par.latches = ((lns (advance t0 s), s.par.cnt) :: s.par.latches).take 4096 ∧
        t = { s with par := { s.par with latches := t.par.latches }, tim := t.tim })) ∧
  (∀ (s : State) (t0 : Nat),
      pairMode s = true ∧ s.sys.st = .standby →
      Goes (.mirrorLinkLoss t0) s (fun t => t.par = { s.par with link := false, down := true, sending := none } ∧
        flag t F.PAR_STATUS_MIRROR_LOST = true ∧
        t.mem = s.mem ∧
        (RegsKept s t (fun a => commonReg a || a == R.PAR_STATUS.addr)))) ∧
  (∀ (s : State) (t0 : Nat),
      (pairMode s = true ∧ (s.sys.st = .standby ∨ s.par.claim = true) ∧ s.par.silent = false) →
      Goes (.mirrorLinkUp t0) s (fun t => t.par = { s.par with link := true, down := false } ∧
        flag t F.PAR_STATUS_MIRROR_LOST = false ∧ flag t F.PAR_STATUS_PEER_MIRROR_LOST = false ∧
        t.mem = s.mem ∧
        (RegsKept s t (fun a => a == R.PAR_STATUS.addr)))) ∧
  (∀ (s : State) (t0 : Nat),
      s.sys.st = .standby ∧ s.par.link = true →
      flag s F.PAR_CFG_PREFERRED = true ∧ flag s F.PAR_CTL_HANDBACK_HOLD = false ∧ flag s F.PAR_CFG_HB_MODE = false ∧ (newest s).isSome = true →
      Goes (.takebackRequest t0 true) s (fun t => t = { s with out := s.out ++ [Out.handback], par := { s.par with asked := true }, tim := t.tim })) ∧
  (∀ (s : State) (t0 : Nat) (b : Bool),
      s.sys.st = .standby ∧ s.par.asked = true →
      (flag s F.PAR_CFG_PREFERRED = false ∨ flag s F.PAR_CTL_HANDBACK_HOLD = true ∨ newest s = none) →
      Goes (.takebackRequest t0 b) s (fun t => t = { s with out := s.out ++ [Out.handbackOff], par := { s.par with asked := false }, tim := t.tim })) ∧
  (∀ (s : State) (t0 : Nat) (b : Bool),
      parActive s = true ∧ s.par.link = true →
      Goes (.takebackRequest t0 b) s (fun t => t = { s with par := { s.par with asked := b }, tim := t.tim })) ∧
  (∀ (s : State) (t0 : Nat),
      parActive s = true ∧ s.par.handGen = some s.par.gen ∧ s.par.release = false ∧ s.par.asked = true →
      quietHere s = true ∧ s.sys.st = .run →
      Goes (.handbackConfirm t0) s (fun t => t.sys.st = .standby ∧ t.sys.running = false ∧ t.par.claim = false ∧ t.par.asked = false ∧
        flag t F.PAR_CTL_HANDBACK_HOLD = flag s F.PAR_CTL_HANDBACK_HOLD ∧
        t.mem = s.mem ∧
        t.plts = s.plts ∧
        (RegsKept s t (fun a => commonReg a || within 0x30000 0x3C000 a || within 0x40000 0x50000 a || within 0xF0000 0x100000 a || a == R.SYS_STATE.addr)))) ∧
  (∀ (s : State) (t0 : Nat),
      parActive s = true ∧ s.par.handGen = some s.par.gen ∧ s.par.release = true →
      Goes (.handbackConfirm t0) s (fun t => t.sys.st = .standby ∧ t.sys.running = false ∧ t.par.claim = false ∧ t.par.release = false ∧
        flag t F.PAR_CTL_HANDBACK_HOLD = true ∧
        t.mem = s.mem ∧
        t.plts = s.plts ∧
        (RegsKept s t (fun a => commonReg a || within 0x30000 0x3C000 a || within 0x40000 0x50000 a || within 0xF0000 0x100000 a || a == R.SYS_STATE.addr)))) ∧
  (∀ (s : State) (h : Via),
      HostOn s R.PAR_CTL.addr →
      (ownOk s = true ∧ pairMode s = true ∧ (s.sys.st = .ready ∨ s.sys.st = .run ∨ s.sys.st = .safeStop) ∧ flag s F.PAR_STATUS_STANDBY_LOST = false) →
      Goes (.parRelease h) s (fun t => t.par = { s.par with release := true, handGen := none } ∧
        t.regs = s.regs ∧
        t.mem = s.mem)) ∧
  (∀ (s : State) (t0 : Nat),
      s.par.release = true ∧ heldFor Timed.release 10000000 (advance t0 s) = true →
      Goes (.releaseTimeout t0) s (fun t => t.sys.st = .standby ∧ t.sys.running = false ∧ t.par.claim = false ∧ t.par.release = false ∧
        flag t F.PAR_CTL_HANDBACK_HOLD = true ∧
        t.mem = s.mem ∧
        t.plts = s.plts ∧
        (RegsKept s t (fun a => commonReg a || within 0x30000 0x3C000 a || within 0x40000 0x50000 a || within 0xF0000 0x100000 a || a == R.SYS_STATE.addr))))

/-- Heartbeat, ownership and takeover follow the pair signals. A heartbeat pulse of a live unit in a pair asserts
OWN_OUT for a claim, and a missing one releases it; after 20 ms of LOADED without OWN_IN an unpreferred unit that sees
another claim in its window of 200 µs becomes the standby once LOADED is to be left, and one that sees none claims; a
preferred unit claims, and enters READY, when LOADED is to be left. With both claims standing for 1 ms the conflict is
flagged and the unpreferred unit gives up. In a standby OWN_IN falling with the power stages not enabled begins a
takeover; silence of HB_IN with OWN_IN asserted sets HB_LOST, and a pulse clears STANDBY_LOST; a blocked takeover
follows when PEN_FB shows the stages off. The end of the restore, with calibration valid and SETTLE over, starts
impressions, and the end of the takeover is RUN. Memory keeps its contents. In a clause that names or bounds the
registers it writes, every other register keeps its value. -/
def Obligations.OwnershipAndTakeover : Prop :=
  (∀ (s : State) (t0 : Nat),
      pairMode s = true ∧ hasBall s 0x17 2 = true ∧ s.sys.st = .loaded ∧ s.pwr.sysRet = false ∧ quietFor Timed.hbOut 99900 (advance t0 s) = true →
      Goes (.heartbeatPulse t0) s (fun t => t.par = { s.par with beating := true } ∧ (s.out ++ [Out.beat]).isPrefixOf t.out = true ∧ t.pins.ownOut = (s.par.claim && hasBall s 0x17 0) ∧
        t.mem = s.mem ∧
        t.plts = s.plts ∧
        (RegsKept s t (fun a => commonReg a || within 0x40000 0x50000 a || a == R.PAR_STATUS.addr)))) ∧
  (∀ (s : State) (t0 : Nat),
      quietFor Timed.hbOut 250000 (advance t0 s) = true →
      Goes (.ownOutRelease t0) s (fun t => t.par = { s.par with beating := false } ∧ t.pins.ownOut = false ∧ flag t F.PAR_STATUS_OWNER = false ∧
        t.mem = s.mem ∧
        t.plts = s.plts ∧
        (RegsKept s t (fun a => commonReg a || within 0x40000 0x50000 a || a == R.PAR_STATUS.addr)))) ∧
  (∀ (s : State) (t0 : Nat) (b : Bool),
      s.sys.st = .loaded ∧ pairMode s = true ∧ conflictOut s = false ∧ s.par.claim = false ∧ ownFreeLong (advance t0 s) = true →
      Goes (.ownershipClaim t0 b) s (fun t => t.par = { s.par with claim := true } ∧ t.pins.ownOut = (s.par.beating && hasBall s 0x17 0) ∧ t.sys.st = .loaded ∧
        t.mem = s.mem ∧
        t.plts = s.plts ∧
        (RegsKept s t (fun a => commonReg a || within 0x40000 0x50000 a || a == R.PAR_STATUS.addr)))) ∧
  (∀ (s : State) (t0 : Nat) (b : Bool),
      s.sys.st = .loaded ∧ pairMode s = true ∧ conflictOut s = false ∧ s.par.claim = true ∧ s.par.leave = true ∧ heldFor Timed.leave 200000 (advance t0 s) = true →
      ((b = false ∧ ownIn s = false) ∨ flag s F.PAR_CFG_PREFERRED = true) →
      Goes (.ownershipClaim t0 b) s (fun t => t.par = { s.par with leave := false } ∧ t.sys.st = .ready ∧ t.sys.running = true ∧
        t.mem = s.mem ∧
        t.plts = s.plts ∧
        (RegsKept s t (fun a => commonReg a || within 0x40000 0x50000 a || within 0xF0000 0x100000 a || a == R.SYS_STATE.addr)))) ∧
  (∀ (s : State) (t0 : Nat) (b : Bool),
      s.sys.st = .loaded ∧ pairMode s = true ∧ conflictOut s = false ∧ s.par.claim = true ∧ s.par.leave = true ∧ heldFor Timed.leave 200000 (advance t0 s) = true →
      ((b = true ∨ ownIn s = true) ∧ flag s F.PAR_CFG_PREFERRED = false) →
      Goes (.ownershipClaim t0 b) s (fun t => t.sys.st = .standby ∧ t.sys.running = false ∧ t.par.claim = false ∧
        t.mem = s.mem ∧
        t.plts = s.plts ∧
        (RegsKept s t (fun a => commonReg a || within 0x40000 0x50000 a || within 0xF0000 0x100000 a)))) ∧
  (∀ (s : State) (t0 : Nat),
      s.pins.ownOut = true ∧ ownIn s = true ∧ flag s F.PAR_STATUS_OWN_CONFLICT = false ∧ heldFor Timed.both 1000000 (advance t0 s) = true →
      Goes (.ownConflict t0) s (fun t => flag t F.PAR_STATUS_OWN_CONFLICT = true ∧
        t.par.claim = (s.par.claim && flag s F.PAR_CFG_PREFERRED) ∧
        (flag s F.PAR_CFG_PREFERRED = false → t.par.sending = none ∧ t.par.leave = false) ∧
        t.sys.st = s.sys.st ∧
        t.mem = s.mem ∧
        t.plts = s.plts ∧
        (RegsKept s t (fun a => commonReg a || within 0x40000 0x50000 a || within 0xF0000 0x100000 a)))) ∧
  (∀ (s : State) (t0 : Nat),
      s.sys.st = .standby ∧ ownIn s = true ∧ penEnabled s = false →
      Goes (.ownInChange t0 false) s (fun t => t.sys.st = .takeover ∧ t.par.claim = true ∧ t.par.restored = false ∧ t.pins.ownIn = false ∧
        t.mem = s.mem ∧
        t.plts = s.plts ∧
        (RegsKept s t (fun a => commonReg a || within 0x40000 0x50000 a || within 0xF0000 0x100000 a || a == R.SYS_STATE.addr)))) ∧
  (∀ (s : State) (t0 : Nat),
      pairMode s = true ∧ s.sys.st = .standby ∧ ownIn s = true ∧ quietFor Timed.hbIn 300000 (advance t0 s) = true →
      Goes (.hbSilence t0) s (fun t => t.par = { s.par with silent := true } ∧ t.sys.st = .standby ∧
        flag t F.PAR_STATUS_HB_LOST = true ∧
        t.mem = s.mem ∧
        (RegsKept s t (fun a => commonReg a || a == R.PAR_STATUS.addr)))) ∧
  (∀ (s : State) (t0 : Nat),
      pairMode s = true ∧ s.sys.st = .standby ∧ ownIn s = false ∧ penEnabled s = false ∧ quietFor Timed.hbIn 300000 (advance t0 s) = true →
      Goes (.hbSilence t0) s (fun t => t.sys.st = .takeover ∧ t.par.claim = true ∧ t.par.restored = false ∧
        t.mem = s.mem ∧
        t.plts = s.plts ∧
        (RegsKept s t (fun a => commonReg a || within 0x40000 0x50000 a || within 0xF0000 0x100000 a || a == R.SYS_STATE.addr)))) ∧
  (∀ (s : State) (t0 : Nat),
      (hasBall s 0x17 3 = true ∧ pairMode s = true ∧ (s.sys.st = .standby ∨ s.par.down = false)) →
      Goes (.hbInPulse t0) s (fun t => t.par = { s.par with silent := false } ∧ flag t F.PAR_STATUS_STANDBY_LOST = false ∧
        t.mem = s.mem ∧
        (RegsKept s t (fun a => commonReg a || a == R.PAR_STATUS.addr)))) ∧
  (∀ (s : State) (t0 : Nat) (l : Bool),
      s.sys.st = .standby ∧ flag s F.PAR_STATUS_PEN_BLOCK = true ∧ ownIn s = false ∧ l = flag s F.PAR_CFG_PEN_POL →
      Goes (.penFbChange t0 l) s (fun t => t.sys.st = .takeover ∧ t.par.claim = true ∧ t.par.restored = false ∧ t.pins.penFb = l ∧ flag t F.PAR_STATUS_PEN_BLOCK = false ∧
        t.mem = s.mem ∧
        t.plts = s.plts ∧
        (RegsKept s t (fun a => commonReg a || within 0x40000 0x50000 a || within 0xF0000 0x100000 a || a == R.SYS_STATE.addr)))) ∧
  (∀ (s : State) (t0 : Nat),
      (s.sys.st = .takeover ∧ s.par.restored = false ∧ domainOn s 6 = true ∧ domainOn s 7 = true ∧ (∀ n : Fin 4, planBit s (2 + n) = true → domainOn s (2 + n) = true) ∧ newest s = none) →
      s.sys.running = false ∧ flag s F.EDG_STATUS_CAL_VALID = true →
      (∀ c : Fin 48, flag s F.SDM_CFG_EN c = true → flag s F.SDM_STATUS_SETTLE c = false) →
      Goes (.takeoverRestoreDone t0) s (fun t => t.par = { s.par with restored := true } ∧ t.sys.running = true ∧ t.sys.next = gridFrom s (lns (advance t0 s)) ∧
        (∀ (k : Fin 8) (i : Fin 6), rd t (R.SYS_TRK_SEGSTATE.at k i) = 0#32) ∧
        (RegsKept s t (fun a => R.SYS_TRK_SEGSTATE.hits a)) ∧
        t.mem = s.mem)) ∧
  (∀ (s : State) (t0 : Nat) (e : Essence),
      (s.sys.st = .takeover ∧ s.par.restored = false ∧ domainOn s 6 = true ∧ domainOn s 7 = true ∧ (∀ n : Fin 4, planBit s (2 + n) = true → domainOn s (2 + n) = true) ∧ newest s = some e) →
      e.maps = [] →
      s.sys.running = false ∧ flag s F.EDG_STATUS_CAL_VALID = true →
      (∀ c : Fin 48, flag s F.SDM_CFG_EN c = true → flag s F.SDM_STATUS_SETTLE c = false) →
      Goes (.takeoverRestoreDone t0) s (fun t => t.par = { s.par with restored := true, gen := e.gen } ∧ t.sys.running = true ∧ t.mot = e.mot ∧
        (∀ i : Fin 64, (t.mm i).st = nget e.mms i) ∧
        t.mem = s.mem ∧
        (RegsKept s t (fun a => commonReg a || within 0x3C000 0x40000 a || within 0x30000 0x3C000 a || within 0xD0000 0xE0000 a || within 0xF0000 0x100000 a || within 0x50000 0x60000 a || R.SYS_TRK_SEGSTATE.hits a)))) ∧
  (∀ (s : State) (t0 : Nat),
      s.sys.st = .takeover ∧ s.par.restored = true ∧ s.sys.running = true ∧ newest s = none ∧ allFresh s = true →
      Goes (.takeoverComplete t0) s (fun t => t.sys.st = .run ∧
        fget t F.SAF_STATE_STATE = 2 ∧ flag t F.PAR_STATUS_NO_ESSENCE = true ∧
        t.mem = s.mem ∧
        t.plts = s.plts ∧
        (RegsKept s t (fun a => safReg a || a == R.SYS_STATE.addr || within 0x30000 0x3C000 a || within 0x40000 0x50000 a || within 0xF0000 0x100000 a || within 0x70000 0x80000 a || within 0x110000 0x120000 a))))

/-- The event log takes, gives up and shows events in order. Outside DOZE, with no overflow standing and fewer than
1,024 entries held, a log write moves the head of the input stage to the end of the log; with an overflow standing and
a free entry it appends the summary and ends the overflow. POP discards the oldest n entries, and at once enters the
summary of an overflow that stands; CLEAR empties log and stage, ends the overflow and zeroes the 25 drop counters; a
read of ENT[0] answers word 0 of the entry that RD.IDX shows and captures words 1 to 3 for the interface. POP and the
read change no register. In a clause that names or bounds the registers it writes, every other register keeps its
value. -/
def Obligations.EventLog : Prop :=
  (∀ (s : State) (t0 : Nat) (e : Nat × Event) (r : List (Nat × Event)),
      s.sys.st ≠ .doze →
      s.evt.log.length < 1024 →
      s.evt.overflow = false →
      s.evt.stage = e :: r →
      Goes (.eventLogWrite t0) s (fun t => t.evt.log = s.evt.log ++ [e.2] ∧
        (s.evt.log.length < 1023 → t.evt.stage = r) ∧
        t.plts = s.plts ∧ t.mem = s.mem ∧
        RegsKept s t commonReg)) ∧
  (∀ (s : State) (t0 : Nat),
      s.sys.st ≠ .doze →
      s.evt.log.length < 1023 →
      s.evt.overflow = true →
      Goes (.eventLogWrite t0) s (fun t => t.evt.log.length = s.evt.log.length + 1 ∧
        ((t.evt.log.getLast?).map (fun e => (e.block, e.code, e.d0, e.d1)) = some (blkEVT, 1, s.evt.dropped, s.evt.dropMask % 2 ^ 32)) ∧
        t.evt.overflow = false ∧
        t.evt.stage = s.evt.stage ∧
        t.plts = s.plts ∧ t.mem = s.mem ∧
        RegsKept s t commonReg)) ∧
  (∀ (s : State) (h : Via) (n : BitVec 11),
      HostOn s R.EVT_CTL.addr →
      s.evt.overflow = true ∧ s.evt.log.length - n.toNat < 1023 →
      Goes (.evtPop h n) s (fun t => t.evt.log.take (s.evt.log.length - n.toNat) = s.evt.log.drop n.toNat ∧ t.evt.log.length = s.evt.log.length - n.toNat + 1 ∧
        ((t.evt.log.getLast?).map (fun e => (e.block, e.code, e.d0, e.d1)) = some (blkEVT, 1, s.evt.dropped, s.evt.dropMask % 2 ^ 32)) ∧
        t.evt.overflow = false ∧ t.evt.stage = s.evt.stage ∧
        t.regs = s.regs ∧
        t.mem = s.mem)) ∧
  (∀ (s : State) (h : Via) (n : BitVec 11),
      HostOn s R.EVT_CTL.addr →
      s.evt.overflow = false →
      Goes (.evtPop h n) s (fun t => t.evt = { s.evt with log := s.evt.log.drop n.toNat } ∧
        t.regs = s.regs ∧
        t.mem = s.mem)) ∧
  (∀ (s : State) (h : Via),
      HostOn s R.EVT_CTL.addr →
      Goes (.evtClear h) s (fun t => t.evt = EvtS.init ∧
        (∀ b : Fin 25, fget t F.EVT_DROP_COUNT b = 0) ∧
        (RegsKept s t (fun a => R.EVT_DROP.hits a)) ∧
        t.mem = s.mem)) ∧
  (∀ (s : State) (h : Via),
      HostOn s R.EVT_ENT.addr →
      Goes (.evtEntryCapture h none) s (fun t => t.out = s.out ++ [Out.rd h.ifc R.EVT_ENT.addr (leBytes 4 (evtEnt s 0).toNat)] ∧
        (∀ k : Fin 3, SMap.get (fun _ => none) (caps h.ifc t) (R.EVT_ENT.at (k + 1)) = some (evtEnt s (k + 1))) ∧
        t.regs = s.regs ∧
        t.evt = s.evt ∧
        t.mem = s.mem))

/-- The scrubbers walk their regions and the TAP takes instructions. Outside DOZE, with its domain on, the scrubber of
main SRAM that finds nothing moves to its next block, and ends the pass at the last one with PASS_DONE; a block that
it finds uncorrectable becomes poisoned. Test-Logic-Reset selects IDCODE; every instruction that is shifted in follows
a capture of 0b0000_0001; IDCODE, USERCODE and BYPASS become current with their data registers, of which Bypass holds
0; EXTEST, SAMPLE/PRELOAD, CLAMP and HIGHZ do so, the first two with a scan of the boundary register that captures and
updates the cells of its balls, while the safety state is not LIVE, and else select BYPASS and set JTAG_REFUSED; in
OFF none acts. None of them changes memory. In a clause that names or bounds the registers it writes, every other
register keeps its value. -/
def Obligations.ScrubbersAndTap : Prop :=
  (∀ (s : State) (t0 : Nat),
      s.sys.st ≠ .doze →
      domainOn s 1 = true →
      s.tst.pos0 + 1 < 1048576 →
      poisoned s (0x1000000 + 16 * s.tst.pos0) = false →
      Goes (.scrubBlock t0 0 .ok) s (fun t => t.tst = { s.tst with pos0 := s.tst.pos0 + 1 } ∧
        t = { s with tst := t.tst, tim := t.tim })) ∧
  (∀ (s : State) (t0 : Nat),
      s.sys.st ≠ .doze →
      domainOn s 1 = true →
      s.tst.pos0 = 1048575 →
      poisoned s (0x1000000 + 16 * s.tst.pos0) = false →
      Goes (.scrubBlock t0 0 .ok) s (fun t => t.tst.pos0 = 0 ∧ t.tst.passCe0 = 0 ∧
        fget t F.TST_MEM_STATUS_PASS_DONE 0 = 1 ∧
        t.mem = s.mem ∧ t.poison = s.poison ∧
        (RegsKept s t (fun a => commonReg a || within 0x110000 0x120000 a)))) ∧
  (∀ (s : State) (t0 : Nat) (r : Fin 2),
      s.sys.st ≠ .doze →
      (domainOn s (if r.val = 0 then 1 else 8) = true) →
      Goes (.scrubBlock t0 r .multi) s (fun t => (poisoned t (scrubAddr r (if r.val = 0 then s.tst.pos0 else s.tst.pos1)) = true) ∧
        t.mem = s.mem ∧
        (RegsKept s t (fun a => commonReg a || within 0x110000 0x120000 a)))) ∧
  (∀ (s : State) (t0 : Nat),
      s.sys.st ≠ .off →
      Goes (.tapReset t0) s (fun t => t = { s with tst := { s.tst with ir := 1#8, data := some 0x2D48C1E5#32, bypass := none }, tim := t.tim })) ∧
  (∀ (s : State) (t0 : Nat),
      s.sys.st ≠ .off →
      Goes (.tapIdcode t0) s (fun t => t = { s with tst := { s.tst with ir := 0x01#8, data := some 0x2D48C1E5#32, bypass := none, irCap := 0x01#8 }, tim := t.tim })) ∧
  (∀ (s : State) (t0 : Nat),
      s.sys.st ≠ .off →
      Goes (.tapUsercode t0) s (fun t => t = { s with tst := { s.tst with ir := 0x03#8, data := some (rd s R.COL_CHECK_L.addr), bypass := none, irCap := 0x01#8 }, tim := t.tim })) ∧
  (∀ (s : State) (t0 : Nat),
      s.sys.st ≠ .off →
      Goes (.tapBypass t0) s (fun t => t = { s with tst := { s.tst with ir := 0xFF#8, data := none, bypass := some false, irCap := 0x01#8 }, tim := t.tim })) ∧
  (∀ (s : State) (t0 : Nat) (cells : List BCell) (levels : List (BitVec 12 × Bool)),
      s.sys.st ≠ .off →
      safLive s = false →
      Goes (.tapExtest t0 cells levels) s (fun t => t.tst = { s.tst with ir := 0x00#8, data := none, bypass := none, irCap := 0x01#8, cells := t.tst.cells, capt := t.tst.capt } ∧
        (∀ b : Fin 2304, cells.all (fun c => c.ball.toNat != b.val) = true → tapCell t b = tapCell s b) ∧
        (cells.getLast?.all (fun c => !inChain c.ball.toNat || tapCell t c.ball.toNat == (c.out, c.en)) = true) ∧
        (levels.getLast?.all (fun e => !inChain e.1.toNat || SMap.get (fun _ => false) t.tst.capt e.1.toNat == cellCapture { s with tst := { s.tst with ir := 0x00#8 } } e.1.toNat e.2) = true) ∧
        t.mem = s.mem ∧
        t.plts = s.plts ∧
        fget t F.TST_JTAG_REFUSED = fget s F.TST_JTAG_REFUSED ∧
        RegsKept s t commonReg)) ∧
  (∀ (s : State) (t0 : Nat) (cells : List BCell) (levels : List (BitVec 12 × Bool)),
      s.sys.st ≠ .off →
      safLive s = false →
      Goes (.samplePreload t0 cells levels) s (fun t => t.tst = { s.tst with ir := 0x02#8, data := none, bypass := none, irCap := 0x01#8, cells := t.tst.cells, capt := t.tst.capt } ∧
        (∀ b : Fin 2304, cells.all (fun c => c.ball.toNat != b.val) = true → tapCell t b = tapCell s b) ∧
        (cells.getLast?.all (fun c => !inChain c.ball.toNat || tapCell t c.ball.toNat == (c.out, c.en)) = true) ∧
        (levels.getLast?.all (fun e => !inChain e.1.toNat || SMap.get (fun _ => false) t.tst.capt e.1.toNat == cellCapture { s with tst := { s.tst with ir := 0x02#8 } } e.1.toNat e.2) = true) ∧
        t.mem = s.mem ∧
        t.plts = s.plts ∧
        fget t F.TST_JTAG_REFUSED = fget s F.TST_JTAG_REFUSED ∧
        RegsKept s t commonReg)) ∧
  (∀ (s : State) (t0 : Nat),
      s.sys.st ≠ .off →
      safLive s = false →
      Goes (.tapClamp t0) s (fun t => t.tst = { s.tst with ir := 0x04#8, data := none, bypass := some false, irCap := 0x01#8 } ∧
        t.mem = s.mem ∧
        t.plts = s.plts ∧
        fget t F.TST_JTAG_REFUSED = fget s F.TST_JTAG_REFUSED ∧
        RegsKept s t commonReg)) ∧
  (∀ (s : State) (t0 : Nat),
      s.sys.st ≠ .off →
      safLive s = false →
      Goes (.tapHighz t0) s (fun t => t.tst = { s.tst with ir := 0x05#8, data := none, bypass := some false, irCap := 0x01#8 } ∧
        t.mem = s.mem ∧
        t.plts = s.plts ∧
        fget t F.TST_JTAG_REFUSED = fget s F.TST_JTAG_REFUSED ∧
        RegsKept s t commonReg)) ∧
  (∀ (s : State) (t0 : Nat) (cells : List BCell) (levels : List (BitVec 12 × Bool)),
      s.sys.st ≠ .off →
      safLive s = true →
      Goes (.tapExtest t0 cells levels) s (fun t => t.tst = { s.tst with ir := 0xFF#8, data := none, bypass := some false, irCap := 0x01#8 } ∧
        fget t F.TST_JTAG_REFUSED = 1 ∧
        t.mem = s.mem ∧
        (RegsKept s t (fun a => commonReg a || a == R.TST_JTAG.addr)))) ∧
  (∀ (s : State) (t0 : Nat) (cells : List BCell) (levels : List (BitVec 12 × Bool)),
      s.sys.st ≠ .off →
      safLive s = true →
      Goes (.samplePreload t0 cells levels) s (fun t => t.tst = { s.tst with ir := 0xFF#8, data := none, bypass := some false, irCap := 0x01#8 } ∧
        fget t F.TST_JTAG_REFUSED = 1 ∧
        t.mem = s.mem ∧
        (RegsKept s t (fun a => commonReg a || a == R.TST_JTAG.addr)))) ∧
  (∀ (s : State) (t0 : Nat),
      s.sys.st ≠ .off →
      safLive s = true →
      Goes (.tapClamp t0) s (fun t => t.tst = { s.tst with ir := 0xFF#8, data := none, bypass := some false, irCap := 0x01#8 } ∧
        fget t F.TST_JTAG_REFUSED = 1 ∧
        t.mem = s.mem ∧
        (RegsKept s t (fun a => commonReg a || a == R.TST_JTAG.addr)))) ∧
  (∀ (s : State) (t0 : Nat),
      s.sys.st ≠ .off →
      safLive s = true →
      Goes (.tapHighz t0) s (fun t => t.tst = { s.tst with ir := 0xFF#8, data := none, bypass := some false, irCap := 0x01#8 } ∧
        fget t F.TST_JTAG_REFUSED = 1 ∧
        t.mem = s.mem ∧
        (RegsKept s t (fun a => commonReg a || a == R.TST_JTAG.addr))))

/-- A galley is staged, verified, applied, and keys are programmed. A flash timeout, an image whose header is not
right and a signature that does not verify fail the load: slot B follows slot A, except after the timeout, when the
loader waits for the host with PHASE 6. A signature that verifies leads to the application, which leaves PHASE 5, no
load under way and the colophon with the galley's check and the signature bit. HOST_LOAD in BOOT outside PHASE 1 to 4
starts a load of the staged image with PHASE 3 and is ignored and counted otherwise, SKIP_FLASH stops a flash attempt
and discards what it has staged. An image that passes moves the load on from PHASE 1 to 2, to 3 with the image in main
SRAM, and, unsigned and checked, to 4. KEY_PROG and SET_REQUIRE with nothing being programmed start the programming,
whose end stores the hash in the slot and never clears REQUIRE. -/
def Obligations.GalleyLoading : Prop :=
  (∀ (s : State) (t0 : Nat),
      flashLoading s = true →
      s.gly.next = .image →
      Goes (.flashTimeout t0) s (fun t => fget t F.GLY_STATUS_FAIL_CODE = 13 ∧ fget t F.GLY_STATUS_PHASE = 6 ∧ flag t F.GLY_STATUS_WAIT_HOST = true ∧
        t.gly.next = .nothing ∧
        t.mem = s.mem ∧
        t.plts = s.plts ∧
        (RegsKept s t (fun a => commonReg a || within 0x4000 0x7000 a)))) ∧
  (∀ (s : State) (t0 : Nat) (b : List Byte),
      s.sys.st = .boot →
      s.gly.next = .image ∧ fget s F.GLY_STATUS_SRC = 0 →
      headerCode s.rom.rev.toNat none (flashTo 0x40 b) ≠ 0 ∧ headerCode s.rom.rev.toNat none (flashTo 0x40 b) ≠ 13 →
      Goes (.imageStaged t0 b []) s (fun t => fget t F.GLY_STATUS_FAIL_CODE = headerCode s.rom.rev.toNat none (flashTo 0x40 b) ∧
        fget t F.GLY_STATUS_SRC = 1 ∧ fget t F.GLY_STATUS_PHASE = 1 ∧ flag t F.GLY_STATUS_SLOT_A_BAD = true ∧
        t.gly.next = .image ∧
        t.mem = s.mem ∧
        t.plts = s.plts ∧
        (RegsKept s t (fun a => commonReg a || within 0x4000 0x7000 a)))) ∧
  (∀ (s : State) (t0 : Nat) (b : List Byte),
      s.sys.st = .boot →
      s.gly.next = .image →
      slotCode b s = 0 →
      Goes (.imageStaged t0 b []) s (fun t => t.gly = { s.gly with next := .staging } ∧ fget t F.GLY_STATUS_PHASE = 2 ∧
        t.mem = s.mem ∧
        t.plts = s.plts ∧
        (RegsKept s t (fun a => a == R.GLY_STATUS.addr)))) ∧
  (∀ (s : State) (t0 : Nat) (b : List Byte),
      s.sys.st = .boot →
      s.gly.next = .staging →
      slotCode b s = 0 ∧ bodiesBad (slotImage b) = false →
      Goes (.imageStaged t0 b []) s (fun t => (t.gly = { s.gly with next := if imgSigned b then .signature else .check } ∧ fget t F.GLY_STATUS_PHASE = 3) ∧
        stagedBytes t (imgLen b) = slotImage b ∧
        t.plts = s.plts ∧
        (RegsKept s t (fun a => a == R.GLY_STATUS.addr)))) ∧
  (∀ (s : State) (t0 : Nat) (b : List Byte),
      s.sys.st = .boot →
      s.gly.next = .check ∧ fget s F.GLY_STATUS_SRC < 2 →
      imgSigned (staged s) = false ∧ s.rom.require = false →
      Goes (.imageStaged t0 b []) s (fun t => t.gly = { s.gly with next := .apply } ∧ fget t F.GLY_STATUS_PHASE = 4 ∧
        t.mem = s.mem ∧
        t.plts = s.plts ∧
        (RegsKept s t (fun a => a == R.GLY_STATUS.addr)))) ∧
  (∀ (s : State) (t0 : Nat),
      s.sys.st = .boot →
      s.gly.next = .signature →
      (signCode (SMap.get (fun _ => none) s.rom.keys) (staged s) = 0) →
      Goes (.signatureVerified t0) s (fun t => t.gly = { s.gly with next := .apply } ∧ fget t F.GLY_STATUS_PHASE = 4 ∧
        t.mem = s.mem ∧
        t.plts = s.plts ∧
        (RegsKept s t (fun a => a == R.GLY_STATUS.addr)))) ∧
  (∀ (s : State) (t0 : Nat) (c : Nat),
      s.sys.st = .boot →
      s.gly.next = .signature ∧ fget s F.GLY_STATUS_SRC = 2 →
      (signCode (SMap.get (fun _ => none) s.rom.keys) (staged s) = c ∧ c ≠ 0) →
      Goes (.signatureVerified t0) s (fun t => fget t F.GLY_STATUS_FAIL_CODE = c % 16 ∧ fget t F.GLY_STATUS_PHASE = 6 ∧ flag t F.GLY_STATUS_WAIT_HOST = true ∧ t.gly.next = .nothing ∧
        t.mem = s.mem ∧
        t.plts = s.plts ∧
        (RegsKept s t (fun a => commonReg a || a == R.GLY_STATUS.addr)))) ∧
  (∀ (s : State) (t0 : Nat),
      s.sys.st = .boot →
      s.gly.next = .apply →
      Goes (.galleyApply t0) s (fun t => t.gly.next = .nothing ∧ fget t F.GLY_STATUS_PHASE = 5 ∧
        flag t F.COL_STATUS_LOADED = true ∧ flag t F.COL_STATUS_SIGNED = imgSigned (staged s) ∧
        galleyCheck t = imgCheck (staged s) % 2 ^ 64)) ∧
  (∀ (s : State) (h : Via),
      HostOn s R.GLY_CTL.addr →
      s.sys.st = .boot →
      (fget s F.GLY_STATUS_PHASE = 0 ∨ 5 ≤ fget s F.GLY_STATUS_PHASE) →
      Goes (.hostLoad h) s (fun t => t.gly = { s.gly with next := .check, report := [] } ∧ fget t F.GLY_STATUS_SRC = 2 ∧ fget t F.GLY_STATUS_PHASE = 3 ∧
        t.mem = s.mem ∧
        t.plts = s.plts ∧
        (RegsKept s t (fun a => within 0x4000 0x7000 a)))) ∧
  (∀ (s : State) (h : Via),
      HostOn s R.GLY_CTL.addr →
      (s.sys.st ≠ .boot ∨ (1 ≤ fget s F.GLY_STATUS_PHASE ∧ fget s F.GLY_STATUS_PHASE ≤ 4)) →
      Goes (.hostLoad h) s (fun t => t.gly = s.gly ∧
        (RegsKept s t (fun a => a == R.SYS_HOST_DROP.addr || a == R.SYS_HOST_DROP_ADDR.addr)) ∧
        t.mem = s.mem ∧
        t.plts = s.plts)) ∧
  (∀ (s : State) (h : Via),
      HostOn s R.GLY_CTL.addr →
      flashLoading s = true →
      Goes (.skipFlash h) s (fun t => t.gly = { s.gly with next := .nothing } ∧ flag t F.GLY_STATUS_WAIT_HOST = true ∧ fget t F.GLY_STATUS_PHASE = 0 ∧
        (t.mem = if s.gly.next = .image ∨ s.gly.next = .staging then s.mem else s.mem.filter (fun c => decide (c.1 < 0x1000000) || decide (0x1800000 ≤ c.1))) ∧
        t.plts = s.plts ∧
        (RegsKept s t (fun a => a == R.GLY_STATUS.addr)))) ∧
  (∀ (s : State) (h : Via) (n : Fin 4),
      HostOn s R.GLY_KEY_CTL.addr →
      s.sys.st = .boot →
      (s.gly.prog = none ∧ SMap.get (fun _ => none) s.rom.keys n.val = none) →
      Goes (.keyProg h n) s (fun t => t.gly = { s.gly with prog := some (some (n.val, keyHash s), false) } ∧
        t.rom = s.rom ∧ t.regs = s.regs ∧
        t.mem = s.mem)) ∧
  (∀ (s : State) (h : Via),
      HostOn s R.GLY_KEY_CTL.addr →
      s.sys.st = .boot →
      s.gly.prog = none →
      Goes (.setRequire h) s (fun t => t.gly = { s.gly with prog := some (none, true) } ∧
        t.rom = s.rom ∧ t.regs = s.regs ∧
        t.mem = s.mem)) ∧
  (∀ (s : State) (t0 : Nat) (n : Nat) (x : Nat) (b : Bool),
      s.gly.prog = some (some (n, x), b) →
      Goes (.keyProgDone t0) s (fun t => (t.gly = { s.gly with prog := none } ∧ SMap.get (fun _ => none) t.rom.keys n = some x ∧ t.rom.require = (s.rom.require || b)) ∧
        (∀ k : Fin 4, k.val ≠ n → SMap.get (fun _ => none) t.rom.keys k.val = SMap.get (fun _ => none) s.rom.keys k.val) ∧
        t.regs = s.regs ∧
        t.mem = s.mem))

/-- Power, reset and clock events take the device to the states the spec gives. POWER_UP in OFF notes the OR; the
release of the reset with PORN high, and PORN released later, take the device to BOOT, with the flash load begun when
RSTN is high. PORN low, and the loss of power without a flush under way, are OFF; with a flush it is deferred until
the flush ends or VHOLD falls. A device reset without a flush is BOOT with no load and keeps main SRAM, LNS, the
safety record and boot flash; the release of RSTN begins the load. The first loss of XIN and of X32 is noted. A
temperature reading shows in THERM and sets WARN at 125 °C and HOT at 135 °C. -/
def Obligations.PowerAndReset : Prop :=
  (∀ (s : State) (t0 : Nat),
      s.sys.st = .off →
      Goes (.powerUp t0) s (fun t => t = { s with pwr := { s.pwr with orUp := true, rel := false }, tim := t.tim })) ∧
  (∀ (s : State) (t0 : Nat),
      s.sys.st = .off ∧ s.pwr.orUp = true ∧ s.pins.porn = true →
      Goes (.resetRelease t0) s (fun t => t.sys.st = .boot ∧ t.nv = s.nv ∧ t.rom = s.rom ∧ (s.pins.rstn = true → t.gly.next = .image ∧ fget t F.GLY_STATUS_PHASE = 1 ∧ fget t F.GLY_STATUS_SRC = 0))) ∧
  (∀ (s : State) (t0 : Nat),
      s.sys.st = .off ∧ s.pwr.orUp = true ∧ s.pwr.rel = true →
      Goes (.pornRelease t0) s (fun t => (t.sys.st = .boot ∧ t.nv = s.nv ∧ t.rom = s.rom ∧ (s.pins.rstn = true → t.gly.next = .image ∧ fget t F.GLY_STATUS_PHASE = 1 ∧ fget t F.GLY_STATUS_SRC = 0)) ∧
        t.pins.porn = true)) ∧
  (∀ (s : State) (t0 : Nat),
      s.sys.st ≠ .off →
      Goes (.pornLow t0) s (fun t => t.sys.st = .off ∧ t.pwr.on = 0 ∧ t.nv = s.nv ∧ t.pins.porn = false)) ∧
  (∀ (s : State) (t0 : Nat),
      s.sys.st ≠ .off →
      s.par.flush = none ∧ s.par.flushDue = false →
      Goes (.powerOff t0) s (fun t => t.sys.st = .off ∧ t.pwr.on = 0 ∧ t.nv = s.nv ∧ t.pwr.orUp = false ∧ t.rom = s.rom)) ∧
  (∀ (s : State) (t0 : Nat),
      s.sys.st ≠ .off →
      (s.par.flush.isSome = true ∨ s.par.flushDue = true) →
      Goes (.powerOff t0) s (fun t => t = { s with par := { s.par with offDue := true }, tim := t.tim })) ∧
  (∀ (s : State) (t0 : Nat),
      s.par.offDue = true →
      Goes (.vholdLow t0) s (fun t => t.sys.st = .off ∧ t.pwr.on = 0 ∧ t.nv = s.nv ∧ t.pwr.orUp = false)) ∧
  (∀ (s : State) (t0 : Nat),
      s.sys.st ≠ .off →
      s.par.flush = none ∧ s.par.flushDue = false →
      Goes (.deviceReset t0) s (fun t => t.sys.st = .boot ∧ t.gly.next = .nothing ∧ t.pins.rstn = false ∧ t.pins.ownOut = false ∧
        t.nv = s.nv ∧ t.rom = s.rom ∧ t.tim.acc = max s.tim.acc (t0 * 2 ^ 18) ∧
        (MemKept s t (fun a => decide (0x10000000 ≤ a))))) ∧
  (∀ (s : State) (t0 : Nat),
      s.pins.rstn = false ∧ s.sys.st = .boot ∧ s.par.rstDue = false →
      Goes (.rstnRelease t0) s (fun t => t.pins.rstn = true ∧ t.gly.next = .image ∧ t.pwr.pllLock = true ∧
        fget t F.GLY_STATUS_PHASE = 1 ∧ fget t F.GLY_STATUS_SRC = 0 ∧
        t.mem = s.mem ∧
        t.plts = s.plts ∧
        (RegsKept s t (fun a => a == R.GLY_STATUS.addr)))) ∧
  (∀ (s : State) (t0 : Nat) (e : Essence) (k : Nat),
      s.par.flush = some e ∧ flushNext s = some k →
      s.par.offDue = false ∧ s.par.rstDue = false →
      Goes (.flushDone t0) s (fun t => t.par = { s.par with flush := none } ∧ flushSlot t k = some (some (e.gen, essBytes e)) ∧
        t.mem = s.mem ∧
        t.plts = s.plts ∧
        (RegsKept s t (fun a => commonReg a)))) ∧
  (∀ (s : State) (t0 : Nat) (e : Essence),
      s.par.flush = some e ∧ (flushNext s).isSome = true →
      s.par.offDue = true →
      Goes (.flushDone t0) s (fun t => t.sys.st = .off ∧ t.pwr.on = 0 ∧ t.nv = s.nv)) ∧
  (∀ (s : State) (t0 : Nat),
      s.sys.st ≠ .off ∧ s.pwr.xinLost = false →
      Goes (.xinLoss t0) s (fun t => t.pwr = { s.pwr with xinLost := true } ∧
        t.mem = s.mem ∧
        (RegsKept s t (fun a => commonReg a)))) ∧
  (∀ (s : State) (t0 : Nat),
      s.sys.st ≠ .off ∧ s.pwr.x32Lost = false →
      Goes (.x32Loss t0) s (fun t => t.pwr = { s.pwr with x32Lost := true } ∧
        t.mem = s.mem ∧
        (RegsKept s t (fun a => commonReg a)))) ∧
  (∀ (s : State) (t0 : Nat) (x : Int) (r : Fin 3),
      s.sys.st ≠ .off →
      -256 ≤ x ∧ x ≤ 255 →
      Goes (.thermalRead t0 x r) s (fun t => fgetInt t F.PWR_THERM_TJ = x ∧
        flag t F.PWR_THERM_WARN = (decide (125 ≤ x) || (flag s F.PWR_THERM_WARN && decide (120 ≤ x))) ∧
        flag t F.PWR_THERM_HOT = (decide (135 ≤ x) || (flag s F.PWR_THERM_HOT && decide (130 ≤ x))) ∧
        t.mem = s.mem ∧
        (RegsKept s t (fun a => commonReg a || a == R.PWR_THERM.addr))))

/-- Domains are switched as planned, and DOZE is entered and left. Outside OFF and retention a domain that the plan
wants off loses what it holds, and one that it wants on powers up, in the order of an entry or a wake and 20 µs after
the last. After IDLE_S without host access with nothing moving the entry into DOZE is requested; at its boundary the
state is DOZE, no impression runs, monitor mode is on and every recorder is stopped, with nothing saved yet. The
switching of domains takes the entry on: the first domain after PD_ACQ makes the save, PD_FBK hands ports and
controllers over to wake mode, and with PD_MLK PD_SYS enters retention. The wake timer starts the wake; PD_SYS on is
the end of retention; the end of the wake is READY with impressions running and DOZE_TIME at the time since the entry,
and nothing saved any more. In a clause that names or bounds the registers it writes, every other register keeps its
value. -/
def Obligations.DozeAndDomains : Prop :=
  (∀ (s : State) (t0 : Nat) (d : Fin 14),
      s.sys.st ≠ .off ∧ s.pwr.sysRet = false →
      2 ≤ d.val ∧ d.val ≤ 11 →
      domainOn s d = true ∧ planBit s d = false →
      inTurn s d = true ∧ spaced (advance t0 s) = true →
      Goes (.domainPowerSwitch t0 d false) s (fun t => domainOn t d = false ∧
        (∀ e : Fin 14, e ≠ d → domainOn t e = domainOn s e) ∧
        ((d.val = 10 → t.can = []) ∧ (d.val = 7 → t.src = [] ∧ t.page = []) ∧ (d.val = 6 → ∀ c : Fin 48, (t.ch c).sets = [])) ∧
        (d.val ≠ 8 → t.mem = s.mem) ∧
        (RegsKept s t (fun a => commonReg a || domainOf a == some d.val || within 0x40000 0x50000 a)))) ∧
  (∀ (s : State) (t0 : Nat) (d : Fin 14),
      s.sys.st ≠ .off ∧ s.pwr.sysRet = false →
      2 ≤ d.val ∧ d.val ≤ 11 →
      domainOn s d = false ∧ planBit s d = true →
      inTurn s d = true ∧ spaced (advance t0 s) = true →
      Goes (.domainPowerSwitch t0 d true) s (fun t => domainOn t d = true ∧
        (∀ e : Fin 14, e ≠ d → domainOn t e = domainOn s e) ∧
        (d.val ≠ 8 → t.mem = s.mem) ∧
        (∀ n : Fin 4, d.val = 2 + n.val → (t.plt n).x = (glyPlt s n).x ∧ (t.plt n).act = (glyPlt s n).act) ∧
        (RegsKept s t (fun a => commonReg a || domainOf a == some d.val || within 0x40000 0x50000 a || within 0xF0000 0x100000 a)))) ∧
  (∀ (s : State) (t0 : Nat),
      s.sys.st = .ready ∧ s.sys.dozeReq = 0 →
      (flag s F.PWR_SAVE_DOZE_OK = true ∧ flag s F.PWR_DOZE_CFG_IDLE_S = true ∧ moversIdle s = true ∧ (List.range 8).all (fun g => fget s F.PTH_STATUS_STATE g == 0) = true) →
      s.sys.idleAt + 256000000000 * fget s F.PWR_DOZE_CFG_IDLE_S ≤ clk (advance t0 s) →
      Goes (.idleTimer t0) s (fun t => t = { s with sys := { s.sys with dozeReq := 2 }, tim := t.tim })) ∧
  (∀ (s : State) (t0 : Nat),
      s.sys.st = .ready ∧ s.sys.dozeReq ≠ 0 →
      Goes (.dozeEntry t0) s (fun t => t.sys.st = .doze ∧ t.sys.running = false ∧ t.sys.dozeReq = 0 ∧
        t.pwr.saved = false ∧ t.pwr.handed = false ∧ t.pwr.waking = false ∧ t.pwr.abort = false ∧ t.pwr.dozeCause = s.sys.dozeReq ∧ t.pwr.on = s.pwr.on ∧
        flag t F.SAF_STATE_MONITOR = true ∧
        (∀ r : Fin 16, recState t r = 0) ∧
        (s.quo.pending = none ∧ s.quo.implicit = [] → RegsKept s t (fun a => safReg a || a == R.SYS_STATE.addr || R.MOV_CTL.hits a || within 0x70000 0x80000 a || within 0x40000 0x60000 a || within 0x30000 0x3C000 a || within 0xE0000 0xF0000 a || within 0x100000 0x120000 a)))) ∧
  (∀ (s : State) (t0 : Nat) (d : Fin 14),
      s.sys.st = .doze ∧ s.pwr.waking = false ∧ s.pwr.sysRet = false →
      2 ≤ d.val ∧ d.val ≤ 11 →
      domainOn s d = true ∧ planBit s d = false →
      inTurn s d = true ∧ spaced (advance t0 s) = true →
      Goes (.domainPowerSwitch t0 d false) s (fun t => domainOn t d = false ∧
        (∀ e : Fin 14, e ≠ d → domainOn t e = domainOn s e) ∧
        t.pwr.saved = (s.pwr.saved || decide (d.val ≠ 8)) ∧
        (s.pwr.saved = true → t.pwr.savedPlts = s.pwr.savedPlts ∧ t.pwr.savedRegs = s.pwr.savedRegs) ∧
        (s.pwr.saved = false → d.val ≠ 8 → ∀ n : Fin 4, domainOn s (2 + n) = true → SMap.get (fun _ => PltS.init) t.pwr.savedPlts n = s.plt n) ∧
        t.pwr.handed = (s.pwr.handed || decide (7 ≤ d.val ∧ d.val ≠ 8)) ∧
        t.pwr.sysRet = decide (d.val = 11) ∧
        t.sys = s.sys ∧
        (RegsKept s t (fun a => commonReg a || domainOf a == some d.val || within 0x40000 0x50000 a || within 0xF0000 0x100000 a || within 0xA0000 0xB0000 a || a == R.PWR_CLK_STATUS.addr)))) ∧
  (∀ (s : State) (t0 : Nat),
      s.sys.st = .doze ∧ s.pwr.waking = true ∧ s.pwr.sysRet = true ∧ s.pwr.held = [] →
      Goes (.domainPowerSwitch t0 1 true) s (fun t => t.pwr = { s.pwr with sysRet := false, pllLock := true, held := [], heldErrs := [] } ∧
        (s.pwr.heldErrs = [] → t.regs = s.regs) ∧
        t.mem = s.mem)) ∧
  (∀ (s : State) (t0 : Nat),
      s.sys.st = .doze ∧ s.pwr.waking = false ∧ s.pwr.sysRet = true →
      aonDue (advance t0 s) = true →
      Goes (.aonWakeTimer t0) s (fun t => t.pwr = { s.pwr with waking := true, wakeAt := clk (advance t0 s), abort := false } ∧
        rd t R.PWR_WAKE_SRC.addr = rd s R.PWR_WAKE_SRC.addr ||| 8#32 ∧
        t.mem = s.mem ∧
        (RegsKept s t (fun a => a == R.PWR_WAKE_SRC.addr)))) ∧
  (∀ (s : State) (t0 : Nat),
      s.sys.st = .doze ∧ s.pwr.waking = true ∧ s.pwr.sysRet = false ∧ wakeReady s = true →
      gridFrom s (lns (advance t0 s)) = lns (advance t0 s) →
      flag s F.PWR_DOZE_CFG_WAKE_RUN = false ∧ s.par.rescDue = false →
      Goes (.wakeComplete t0 [] []) s (fun t => t.sys.st = .ready ∧ t.sys.running = true ∧
        t.pwr.saved = false ∧ t.pwr.savedPlts = [] ∧ t.pwr.savedRegs = [] ∧ t.pwr.waking = false ∧ t.pwr.handed = false ∧
        fget t F.PWR_DOZE_TIME_L_VAL = (lns (advance t0 s) - s.pwr.dozeAt) % 2 ^ 32 ∧
        flag t F.SAF_STATE_MONITOR = false ∧
        t.mem = s.mem ∧
        (RegsKept s t (fun a => safReg a || savedDom a || a == R.SYS_STATE.addr || within 0xA000 0xB000 a || R.SYS_TRK_SEGSTATE.hits a || within 0x70000 0x80000 a || within 0x30000 0x3C000 a || within 0x90000 0xE0000 a || within 0xF0000 0x110000 a))))

end
end

