-- ==== Sys2Proof/Laws/Memory.lean ====
section
/-! SUPPORT. Sys2Proof/Laws/Memory.lean: what the memory operations write, and that each keeps memory in its canonical form. -/

namespace Sys2Proof.Machine

/-! ### Loops -/

theorem forL_inv {α : Type} {P : State → Prop} {f : α → State → State} (h : ∀ x s, P s → P (f x s)) (l : List α) (s : State)
    (hs : P s) : P (forL l f s) := by
  unfold forL
  induction l generalizing s with
  | nil => exact hs
  | cons x r ih => exact ih _ (h x s hs)

theorem forN_inv {P : State → Prop} {f : Nat → State → State} (h : ∀ i s, P s → P (f i s)) (n : Nat) (s : State) (hs : P s) :
    P (forN n f s) := forL_inv h (List.range n) s hs

/-- A projection of the state that every round leaves is left by the loop. -/
theorem forL_keeps {α β : Type} (φ : State → β) {f : α → State → State} (h : ∀ x s, φ (f x s) = φ s) (l : List α) (s : State) :
    φ (forL l f s) = φ s := forL_inv (P := fun t => φ t = φ s) (fun x t ht => (h x t).trans ht) l s rfl

theorem forN_keeps {β : Type} (φ : State → β) {f : Nat → State → State} (h : ∀ i s, φ (f i s) = φ s) (n : Nat) (s : State) :
    φ (forN n f s) = φ s := forL_keeps φ h (List.range n) s

/-! ### Frames -/

theorem setMemNat_frame (s : State) (a v n : Nat) : setMemNat s a v n = { s with mem := (setMemNat s a v n).mem } := by
  induction n generalizing s a v with
  | zero => rfl
  | succ n ih => unfold setMemNat; rw [ih]; rfl

theorem setMemBytes_frame (s : State) (a : Nat) (bs : List Byte) : setMemBytes s a bs = { s with mem := (setMemBytes s a bs).mem } := by
  induction bs generalizing s a with
  | nil => rfl
  | cons b r ih => unfold setMemBytes; rw [ih]; rfl

theorem writeSram_frame (i v : Nat) (s : State) : writeSram i v s = { s with mem := (writeSram i v s).mem } := setMemNat_frame _ _ _ _

theorem writeMemBytes_frame (s : State) (a : Nat) (bs : List Byte) :
    writeMemBytes s a bs = { s with mem := (setMemBytes s a bs).mem, poison := (writeMemBytes s a bs).poison } := by
  have h : ∀ (l : List Nat) (t : State), l.foldl (fun s k => setPoison s (((a + 15) / 16 + k) * 16) false) t =
      { t with poison := (l.foldl (fun s k => setPoison s (((a + 15) / 16 + k) * 16) false) t).poison } := by
    intro l
    induction l with
    | nil => intro t; rfl
    | cons k r ih => intro t; rw [List.foldl_cons, ih]; rfl
  have h1 := h (List.range ((a + bs.length) / 16 - (a + 15) / 16)) (setMemBytes s a bs)
  have h2 := setMemBytes_frame s a bs
  exact h1.trans (congrArg (fun u : State => { u with poison := (writeMemBytes s a bs).poison }) h2)

/-! ### What is read after a write -/

theorem memByte_setMemNat_outside (s : State) (a v n : Nat) {x : Nat} (h : x < a ∨ a + n ≤ x) :
    memByte (setMemNat s a v n) x = memByte s x := by
  induction n generalizing s a v with
  | zero => rfl
  | succ n ih => unfold setMemNat; rw [ih _ _ _ (by omega), memByte_setMemByte_ne _ _ _ (by omega)]

theorem memByte_setMemNat (s : State) (a v n k : Nat) (h : k < n) :
    memByte (setMemNat s a v n) (a + k) = BitVec.ofNat 8 (v / 256 ^ k) := by
  induction n generalizing s a v k with
  | zero => omega
  | succ n ih =>
    unfold setMemNat
    cases k with
    | zero => rw [memByte_setMemNat_outside _ _ _ _ (by omega), Nat.add_zero, memByte_setMemByte_self, Nat.pow_zero, Nat.div_one]
    | succ k => rw [show a + (k + 1) = a + 1 + k by omega, ih _ _ _ _ (by omega), Nat.div_div_eq_div_mul, Nat.pow_succ, Nat.mul_comm]

theorem memByte_setMemBytes_outside (s : State) (a : Nat) (bs : List Byte) {x : Nat} (h : x < a ∨ a + bs.length ≤ x) :
    memByte (setMemBytes s a bs) x = memByte s x := by
  induction bs generalizing s a with
  | nil => rfl
  | cons b r ih =>
    simp only [List.length_cons] at h
    unfold setMemBytes
    rw [ih _ _ (by omega), memByte_setMemByte_ne _ _ _ (by omega)]

theorem memByte_setMemBytes (s : State) (a : Nat) (bs : List Byte) (k : Nat) (h : k < bs.length) :
    memByte (setMemBytes s a bs) (a + k) = bs[k] := by
  induction bs generalizing s a k with
  | nil => exact absurd h (Nat.not_lt_zero k)
  | cons b r ih =>
    unfold setMemBytes
    cases k with
    | zero => rw [memByte_setMemBytes_outside _ _ _ (by omega), Nat.add_zero, memByte_setMemByte_self]; rfl
    | succ k => rw [show a + (k + 1) = a + 1 + k by omega, ih _ _ k (by simpa using h)]; rfl

theorem memByte_writeMemBytes (s : State) (a : Nat) (bs : List Byte) (x : Nat) :
    memByte (writeMemBytes s a bs) x = memByte (setMemBytes s a bs) x := by
  rw [writeMemBytes_frame, setMemBytes_frame]
  rfl

/-! ### The canonical form -/

theorem memOk_of_eq {s t : State} (hm : t.mem = s.mem) (hp : t.pwr.areas = s.pwr.areas) (h : s.memOk) : t.memOk := by
  unfold State.memOk
  rw [hm, hp]
  exact h

theorem setMemByte_memOk {s : State} (a : Nat) (b : Byte) (h : s.memOk) : (setMemByte s a b).memOk := SMap.wf_put a b h

theorem setMemNat_memOk {s : State} (a v n : Nat) (h : s.memOk) : (setMemNat s a v n).memOk := by
  induction n generalizing s a v with
  | zero => exact h
  | succ n ih => exact ih _ _ (setMemByte_memOk _ _ h)

theorem setMemBytes_memOk {s : State} (a : Nat) (bs : List Byte) (h : s.memOk) : (setMemBytes s a bs).memOk := by
  induction bs generalizing s a with
  | nil => exact h
  | cons b r ih => exact ih _ (setMemByte_memOk _ _ h)

theorem writeSram_memOk {s : State} (i v : Nat) (h : s.memOk) : (writeSram i v s).memOk := setMemNat_memOk _ _ _ h

theorem writeMemBytes_memOk {s : State} (a : Nat) (bs : List Byte) (h : s.memOk) : (writeMemBytes s a bs).memOk := by
  rw [writeMemBytes_frame]
  exact memOk_of_eq (s := setMemBytes s a bs) rfl (by rw [setMemBytes_frame]) (setMemBytes_memOk a bs h)

/-- Memory after reset is in its canonical form. -/
theorem reset_memOk : State.reset.memOk := rfl

end Sys2Proof.Machine
end

