-- ==== Sys2Proof/Laws/Events.lean ====
section
/-! SUPPORT. Sys2Proof/Laws/Events.lean: what raising an event, dropping a host access and the shared operations over memory errors
can change, each said once. -/

namespace Sys2Proof.Machine

/-- From `s` to `t` nothing changes but registers and the record of the bits that hardware sets in them, the event queues, the
triggers for ACQ and what leaves the device. -/
def EvtOnly (s t : State) : Prop :=
  t = { s with regs := t.regs, hwCyc := t.hwCyc, hwBits := t.hwBits, mmq := t.mmq, trigq := t.trigq, evt := t.evt, out := t.out }

theorem EvtOnly.refl (s : State) : EvtOnly s s := rfl

theorem EvtOnly.eq {s t : State} (h : EvtOnly s t) :
    t = { s with regs := t.regs, hwCyc := t.hwCyc, hwBits := t.hwBits, mmq := t.mmq, trigq := t.trigq, evt := t.evt, out := t.out } := h

theorem EvtOnly.of_out (s : State) (o : List Out) : EvtOnly s { s with out := o } := rfl

theorem EvtOnly.of_evt (s : State) (e : EvtS) : EvtOnly s { s with evt := e } := rfl

theorem EvtOnly.of_mmq (s : State) (q : List MmEvent) : EvtOnly s { s with mmq := q } := rfl

theorem EvtOnly.of_trigq (s : State) (q : List (Nat × Nat)) : EvtOnly s { s with trigq := q } := rfl

theorem EvtOnly.of_regs (s : State) (r : SMap Word) : EvtOnly s { s with regs := r } := rfl

theorem EvtOnly.of_hw (s : State) (r b : SMap Word) (c : Nat) : EvtOnly s { s with regs := r, hwCyc := c, hwBits := b } := rfl

theorem EvtOnly.trans {s t u : State} (h : EvtOnly s t) (h' : EvtOnly t u) : EvtOnly s u := by
  unfold EvtOnly at *
  have h1 := h'
  rw [h] at h1
  exact h1

theorem EvtOnly.mem {s t : State} (h : EvtOnly s t) : t.mem = s.mem := (congrArg State.mem h.eq).trans rfl
theorem EvtOnly.pwr {s t : State} (h : EvtOnly s t) : t.pwr = s.pwr := (congrArg State.pwr h.eq).trans rfl
theorem EvtOnly.pending {s t : State} (h : EvtOnly s t) : t.pending = s.pending := (congrArg State.pending h.eq).trans rfl
theorem EvtOnly.edg {s t : State} (h : EvtOnly s t) : t.edg = s.edg := (congrArg State.edg h.eq).trans rfl
theorem EvtOnly.tim {s t : State} (h : EvtOnly s t) : t.tim = s.tim := (congrArg State.tim h.eq).trans rfl
theorem EvtOnly.sys {s t : State} (h : EvtOnly s t) : t.sys = s.sys := (congrArg State.sys h.eq).trans rfl
theorem EvtOnly.plts {s t : State} (h : EvtOnly s t) : t.plts = s.plts := (congrArg State.plts h.eq).trans rfl

theorem EvtOnly.memOk {s t : State} (h : EvtOnly s t) (hs : s.memOk) : t.memOk :=
  memOk_of_eq h.mem (congrArg PwrS.areas h.pwr) hs

theorem fset_evtOnly (s : State) (f : Fld) (v i j k : Nat) : EvtOnly s (fset s f v i j k) := EvtOnly.of_regs s _

theorem bump_evtOnly (s : State) (f : Fld) (n i j k : Nat) : EvtOnly s (bump s f n i j k) := EvtOnly.of_hw s _ _ _

theorem raiseFlag_evtOnly (s : State) (f : Fld) (i j k : Nat) : EvtOnly s (raiseFlag s f i j k) := EvtOnly.of_hw s _ _ _

theorem raiseBit_evtOnly (s : State) (f : Fld) (b i j k : Nat) : EvtOnly s (raiseBit s f b i j k) := EvtOnly.of_hw s _ _ _

theorem setPend_evtOnly (v : Nat) (s : State) : EvtOnly s (setPend v s) := by
  unfold setPend
  dsimp only
  split_ifs
  · exact EvtOnly.refl s
  · exact EvtOnly.trans (EvtOnly.of_hw s _ _ _) (EvtOnly.of_out _ _)
  · exact EvtOnly.of_hw s _ _ _

theorem evtDrop_evtOnly (b : Nat) (s : State) : EvtOnly s (evtDrop b s) :=
  (bump_evtOnly s F.EVT_DROP_COUNT 1 (b - 1) 0 0).trans (EvtOnly.of_evt _ _)

theorem forL_evtOnly {α : Type} {f : α → State → State} (h : ∀ x s, EvtOnly s (f x s)) (l : List α) (s : State) :
    EvtOnly s (forL l f s) := forL_inv (P := EvtOnly s) (fun x t ht => ht.trans (h x t)) l s (EvtOnly.refl s)

theorem dropAll_evtOnly (l : List (Nat × Event)) (s : State) : EvtOnly s (forL l (fun e => evtDrop e.2.block) s) :=
  forL_inv (P := EvtOnly s) (f := fun e : Nat × Event => evtDrop e.2.block)
    (fun e t ht => EvtOnly.trans ht (evtDrop_evtOnly e.2.block t)) l s (EvtOnly.refl s)

theorem stageEvt_evtOnly (e : Event) (s : State) : EvtOnly s (stageEvt e s) := (EvtOnly.of_evt s _).trans (dropAll_evtOnly _ _)

/-- What sets out triggers changes their queue and nothing else. -/
theorem trigNote_evtOnly (k t : Nat) (p : Nat → Bool) (s : State) : EvtOnly s (trigNote k t p s) := by
  unfold trigNote
  split_ifs
  · exact EvtOnly.of_trigq s _
  · exact EvtOnly.refl s

theorem evtFlush_evtOnly (s : State) : EvtOnly s (evtFlush s) := by
  unfold evtFlush
  split_ifs
  · exact (EvtOnly.of_evt s _).trans (dropAll_evtOnly _ _)
  · exact EvtOnly.refl s

theorem evtIrq_evtOnly (s : State) : EvtOnly s (evtIrq s) := by
  unfold evtIrq
  split_ifs
  · exact setPend_evtOnly 2 s
  · exact EvtOnly.refl s

/-- The vector of an event, where the event is a cause of its vector (R66, log entry 7). -/
theorem cause_evtOnly (b c i : Nat) (s : State) :
    EvtOnly s (if Config.eventIsCause b c then setPend (vectorOf b c i) s else s) := by
  split_ifs
  · exact setPend_evtOnly _ s
  · exact EvtOnly.refl s

/-- Raising an event changes registers, the queues of the mode machines and of ACQ, the event log and the messages sent, and nothing
else. -/
theorem raiseAt_evtOnly (st b c i d0 d1 : Nat) (s : State) : EvtOnly s (raiseAt st b c i d0 d1 s) := by
  unfold raiseAt
  dsimp only
  refine EvtOnly.trans ?_ (evtIrq_evtOnly _)
  refine EvtOnly.trans ?_ (cause_evtOnly b c i _)
  refine EvtOnly.trans ?_ (evtFlush_evtOnly _)
  refine EvtOnly.trans ?_ (stageEvt_evtOnly _ _)
  exact EvtOnly.trans (EvtOnly.of_mmq s (s.mmq ++ [⟨b, c % 256, i % 256, lns s⟩])) (trigNote_evtOnly _ _ _ _)

theorem raise_evtOnly (b c i d0 d1 : Nat) (s : State) : EvtOnly s (raise b c i d0 d1 s) := raiseAt_evtOnly _ _ _ _ _ _ s

theorem raiseOpen_evtOnly (b c i : Nat) (s : State) : EvtOnly (drawn s) (raiseOpen b c i s) := raise_evtOnly _ _ _ _ _ _

theorem hostDrop_evtOnly (ifc : Ifc) (a : Nat) (s : State) : EvtOnly s (hostDrop ifc a s) :=
  ((bump_evtOnly s _ _ _ _ _).trans (fset_evtOnly _ _ _ _ _ _)).trans (fset_evtOnly _ _ _ _ _ _)

theorem refuseReq_evtOnly (c : Nat) (s : State) : EvtOnly s (refuseReq c s) :=
  (raiseFlag_evtOnly s F.SYS_STATE_REQ_REFUSED 0 0 0).trans (raise_evtOnly _ _ _ _ _ _)

theorem poisonedRead_evtOnly (r a : Nat) (s : State) : EvtOnly s (poisonedRead r a s) := by
  unfold poisonedRead
  exact (((raiseFlag_evtOnly s _ _ _ _).trans (bump_evtOnly _ _ _ _ _ _)).trans (fset_evtOnly _ _ _ _ _ _)).trans
    (raise_evtOnly _ _ _ _ _ _)

theorem localErr_evtOnly (b : Nat) (e : LocErr) (s : State) : EvtOnly s (localErr b e s) := by
  unfold localErr
  split_ifs
  · exact (raiseFlag_evtOnly s _ _ _ _).trans (raise_evtOnly _ _ _ _ _ _)
  · exact bump_evtOnly s _ _ _ _ _

/-- A read of memory leaves the state but for the report of a poisoned block. -/
theorem readMem_evtOnly (r a n : Nat) (s : State) : EvtOnly s (readMem r a n s).2 := by
  unfold readMem
  split_ifs
  · exact poisonedRead_evtOnly r a s
  · exact EvtOnly.refl s

theorem readSram_evtOnly (r i : Nat) (s : State) : EvtOnly s (readSram r i s).2 := readMem_evtOnly _ _ _ s

/-! ### What the memory errors of a command change -/

/-- A corrected read changes registers, the events and the seconds of the last reports. -/
theorem correctedRead_evtOnly (a : Nat) (s : State) : ∃ x, EvtOnly { s with tst := x } (correctedRead a s) := by
  unfold correctedRead
  dsimp only
  have h := bump_evtOnly s F.TST_MEM_CE_COUNT 1 (memRegion a) 0 0
  generalize bump s F.TST_MEM_CE_COUNT 1 (memRegion a) = t at h
  have hx : ∀ x, EvtOnly { s with tst := x } { t with tst := x } := fun x => by
    exact congrArg (fun u : State => { u with tst := x }) h.eq
  split_ifs
  all_goals first | exact ⟨_, hx _⟩ | exact ⟨_, (hx _).trans (raise_evtOnly _ _ _ _ _ _)⟩

/-- A part of the state that no event, scrub record or poison mark is in is left by the memory errors of a command. -/
theorem noteErrs_keeps {β : Type} (φ : State → β) (hw : ∀ s t, EvtOnly s t → φ t = φ s)
    (ht : ∀ (s : State) x, φ { s with tst := x } = φ s) (hp : ∀ (s : State) x, φ { s with poison := x } = φ s)
    (errs : List MemErr) (s : State) : φ (noteErrs errs s) = φ s := by
  unfold noteErrs
  refine forL_keeps φ ?_ errs s
  intro e s
  split
  · rfl
  · obtain ⟨x, hx⟩ := correctedRead_evtOnly e.blk s
    exact (hw _ _ hx).trans (ht s x)
  · exact hp s _

theorem noteErrs_mem (errs : List MemErr) (s : State) : (noteErrs errs s).mem = s.mem :=
  noteErrs_keeps State.mem (fun _ _ h => h.mem) (fun _ _ => rfl) (fun _ _ => rfl) errs s

theorem noteErrs_pwr (errs : List MemErr) (s : State) : (noteErrs errs s).pwr = s.pwr :=
  noteErrs_keeps State.pwr (fun _ _ h => h.pwr) (fun _ _ => rfl) (fun _ _ => rfl) errs s

theorem noteErrs_pending (errs : List MemErr) (s : State) : (noteErrs errs s).pending = s.pending :=
  noteErrs_keeps State.pending (fun _ _ h => h.pending) (fun _ _ => rfl) (fun _ _ => rfl) errs s

theorem noteErrs_edg (errs : List MemErr) (s : State) : (noteErrs errs s).edg = s.edg :=
  noteErrs_keeps State.edg (fun _ _ h => h.edg) (fun _ _ => rfl) (fun _ _ => rfl) errs s

theorem noteErrs_memOk (errs : List MemErr) {s : State} (h : s.memOk) : (noteErrs errs s).memOk :=
  memOk_of_eq (noteErrs_mem errs s) (by rw [noteErrs_pwr]) h

/-! ### The event log stays within its depth -/

theorem evtDrop_stage (b : Nat) (s : State) : (evtDrop b s).evt.stage = s.evt.stage ∧ (evtDrop b s).evt.log = s.evt.log := ⟨rfl, rfl⟩

/-- Counting dropped events leaves what the log and its stage hold. -/
theorem dropAll_queues (l : List (Nat × Event)) (s : State) :
    (forL l (fun e => evtDrop e.2.block) s).evt.log = s.evt.log ∧ (forL l (fun e => evtDrop e.2.block) s).evt.stage = s.evt.stage :=
  forL_inv (P := fun t => t.evt.log = s.evt.log ∧ t.evt.stage = s.evt.stage) (f := fun e : Nat × Event => evtDrop e.2.block)
    (fun e t ht => ⟨(evtDrop_stage e.2.block t).2.trans ht.1, (evtDrop_stage e.2.block t).1.trans ht.2⟩) l s ⟨rfl, rfl⟩

theorem evtFlush_evtOk {s : State} (h : s.evtOk) : (evtFlush s).evtOk := by
  unfold evtFlush
  split_ifs
  · have hk := dropAll_queues s.evt.stage { s with evt := { s.evt with stage := [] } }
    unfold State.evtOk
    rw [hk.1, hk.2]
    exact ⟨h.1, Nat.zero_le _⟩
  · exact h

theorem stageEvt_evtOk (e : Event) {s : State} (h : s.evtOk) : (stageEvt e s).evtOk := by
  have hk := dropAll_queues ((stageIns (sysCycle s) e s.evt.stage).drop 16)
    { s with evt := { s.evt with stage := (stageIns (sysCycle s) e s.evt.stage).take 16 } }
  unfold stageEvt State.evtOk
  dsimp only
  rw [hk.1, hk.2]
  exact ⟨h.1, List.length_take_le _ _⟩

theorem trigNote_evt (k t : Nat) (p : Nat → Bool) (s : State) : (trigNote k t p s).evt = s.evt := by
  unfold trigNote
  split_ifs <;> rfl

theorem setPend_evt (v : Nat) (s : State) : (setPend v s).evt = s.evt := by
  unfold setPend
  dsimp only
  split_ifs <;> rfl

theorem evtIrq_evt (s : State) : (evtIrq s).evt = s.evt := by
  unfold evtIrq
  split_ifs
  · exact setPend_evt 2 s
  · rfl

theorem evtOk_of_eq {s t : State} (he : t.evt = s.evt) (h : s.evtOk) : t.evtOk := by
  unfold State.evtOk
  rw [he]
  exact h

/-- Raising an event keeps the log and its stage within their depths. -/
theorem raiseAt_evtOk (st b c i d0 d1 : Nat) {s : State} (h : s.evtOk) : (raiseAt st b c i d0 d1 s).evtOk := by
  unfold raiseAt
  dsimp only
  refine evtOk_of_eq (evtIrq_evt _) ?_
  have h1 : ∀ t : State, t.evtOk → (if Config.eventIsCause b c then setPend (vectorOf b c i) t else t).evtOk := by
    intro t ht
    split_ifs
    · exact evtOk_of_eq (setPend_evt _ t) ht
    · exact ht
  refine h1 _ (evtFlush_evtOk (stageEvt_evtOk _ (evtOk_of_eq (trigNote_evt _ _ _ _) ?_)))
  exact h

theorem raise_evtOk (b c i d0 d1 : Nat) {s : State} (h : s.evtOk) : (raise b c i d0 d1 s).evtOk := raiseAt_evtOk _ _ _ _ _ _ h

/-! ### Registers that raising an event touches -/

theorem setPend_rd (v : Nat) (s : State) {a : Nat} (h : a ≠ R.SYS_IRQ_PEND.addr) : rd (setPend v s) a = rd s a := by
  unfold setPend
  dsimp only
  split_ifs
  · rfl
  · exact rd_wr_ne s _ _ h
  · exact rd_wr_ne s _ _ h

theorem evtDrop_rd (b : Nat) (s : State) {a : Nat} (h : a ≠ R.EVT_DROP.at (b - 1)) : rd (evtDrop b s) a = rd s a :=
  rd_fset_ne s F.EVT_DROP_COUNT _ (b - 1) 0 0 h

theorem dropAll_rd (l : List (Nat × Event)) (s : State) {a : Nat} (h : ∀ b, a ≠ R.EVT_DROP.at b) :
    rd (forL l (fun e => evtDrop e.2.block) s) a = rd s a :=
  forL_keeps (fun t => rd t a) (f := fun e : Nat × Event => evtDrop e.2.block) (fun e t => evtDrop_rd e.2.block t (h _)) l s

theorem evtFlush_rd (s : State) {a : Nat} (h : ∀ b, a ≠ R.EVT_DROP.at b) : rd (evtFlush s) a = rd s a := by
  unfold evtFlush
  split_ifs
  · exact dropAll_rd _ _ h
  · rfl

theorem stageEvt_rd (e : Event) (s : State) {a : Nat} (h : ∀ b, a ≠ R.EVT_DROP.at b) : rd (stageEvt e s) a = rd s a := dropAll_rd _ _ h

theorem trigNote_rd (k t : Nat) (p : Nat → Bool) (s : State) (a : Nat) : rd (trigNote k t p s) a = rd s a := by
  unfold trigNote
  split_ifs <;> rfl

/-- Raising an event leaves every register but the pending bits and the counters of dropped events. -/
theorem raiseAt_rd (st b c i d0 d1 : Nat) (s : State) {a : Nat} (h : a ≠ R.SYS_IRQ_PEND.addr) (hd : ∀ b, a ≠ R.EVT_DROP.at b) :
    rd (raiseAt st b c i d0 d1 s) a = rd s a := by
  unfold raiseAt
  dsimp only
  have h1 : ∀ t : State, rd (evtIrq t) a = rd t a := by
    intro t
    unfold evtIrq
    split_ifs
    · exact setPend_rd 2 t h
    · rfl
  rw [h1]
  have h2 : ∀ t : State, rd (if Config.eventIsCause b c then setPend (vectorOf b c i) t else t) a = rd t a := by
    intro t
    split_ifs
    · exact setPend_rd _ t h
    · rfl
  rw [h2, evtFlush_rd _ hd, stageEvt_rd _ _ hd]
  exact trigNote_rd _ _ _ _ a

theorem raise_rd (b c i d0 d1 : Nat) (s : State) {a : Nat} (h : a ≠ R.SYS_IRQ_PEND.addr) (hd : ∀ b, a ≠ R.EVT_DROP.at b) :
    rd (raise b c i d0 d1 s) a = rd s a := raiseAt_rd _ _ _ _ _ _ s h hd

end Sys2Proof.Machine
end

