-- ==== Sys2Proof/Laws/Pair.lean ====
section
/-! SUPPORT. Sys2Proof/Laws/Pair.lean: a CRC of 32 bits fits in 32 bits, and the trailer that a sender writes for an essence is one
that its receiver takes. -/

namespace Sys2Proof.Machine

/-- The bits of a CRC stay within 32 bits. -/
theorem crcBits_lt {g : Nat} (hg : g < 2 ^ 32) : ∀ (n : Nat) {c : Nat}, c < 2 ^ 32 → crcBits g n c < 2 ^ 32
  | 0, _, hc => hc
  | n + 1, c, hc => by
    refine crcBits_lt hg n ?_
    split
    · exact Nat.xor_lt_two_pow (by omega) hg
    · omega

/-- A CRC of 32 bits fits in 32 bits. -/
theorem crc32_lt {g : Nat} (hg : g < 2 ^ 32) (l : List Byte) : crc32 g l < 2 ^ 32 := by
  have h : ∀ (l : List Byte) {c : Nat}, c < 2 ^ 32 → l.foldl (fun c b => crcBits g 8 (c ^^^ b.toNat)) c < 2 ^ 32 := by
    intro l
    induction l with
    | nil => exact fun h => h
    | cons b l ih => exact fun h => ih (crcBits_lt hg 8 (Nat.xor_lt_two_pow h (by have := b.isLt; omega)))
  exact Nat.xor_lt_two_pow (h l (by decide)) (by decide)

/-- R416: the trailer a sender writes for an essence, whatever its padding word, is one that R418 takes. -/
theorem trailOk_made (e : Essence) (p : Word) (h : e.gen < 2 ^ 32) :
    trailOk e ⟨0x544D4D43#32, BitVec.ofNat 32 e.gen, p, BitVec.ofNat 32 (trailCrc e 0x544D4D43 e.gen p.toNat)⟩ = true := by
  have hc : trailCrc e 0x544D4D43 e.gen p.toNat < 2 ^ 32 := crc32_lt (by decide) _
  have hg : (BitVec.ofNat 32 e.gen).toNat = e.gen := Nat.mod_eq_of_lt h
  have hx : (BitVec.ofNat 32 (trailCrc e 0x544D4D43 e.gen p.toNat)).toNat = trailCrc e 0x544D4D43 e.gen p.toNat := Nat.mod_eq_of_lt hc
  unfold trailOk
  rw [hg, hx]
  simp only [beq_self_eq_true, Bool.true_and]
  exact beq_self_eq_true _

end Sys2Proof.Machine
end

