-- ==== Sys2Proof/Laws/Shared.lean ====
section
/-! SUPPORT. Sys2Proof/Laws/Shared.lean: the operations that many commands share (the host gate, a device-state change, a wake) say
once what they can do, for every property that their parts leave. -/

namespace Sys2Proof.Machine

/-- A property that the parts of the shared operations leave: a change of registers and of what hardware has set in them, of the motion units, of the time base, of the
device state, of the quoin, of what holds of the power control but the save areas, and an event raised. -/
structure Closed (P : State → Prop) : Prop where
  regs : ∀ (s : State) r, P s → P { s with regs := r }
  hw : ∀ (s : State) r c b, P s → P { s with regs := r, hwCyc := c, hwBits := b }
  mot : ∀ (s : State) x, P s → P { s with mot := x }
  tim : ∀ (s : State) x, P s → P { s with tim := x }
  sys : ∀ (s : State) x, P s → P { s with sys := x }
  quo : ∀ (s : State) x, P s → P { s with quo := x }
  pwr : ∀ (s : State) x, x.areas = s.pwr.areas → P s → P { s with pwr := x }
  raise : ∀ b c i d0 d1 (s : State), P s → P (Machine.raise b c i d0 d1 s)

theorem closed_pending (q : List Instr) : Closed (fun t => t.pending = q) where
  regs _ _ h := h
  hw _ _ _ _ h := h
  mot _ _ h := h
  tim _ _ h := h
  sys _ _ h := h
  quo _ _ h := h
  pwr _ _ _ h := h
  raise b c i d0 d1 s h := (raise_evtOnly b c i d0 d1 s).pending.trans h

theorem closed_memOk : Closed State.memOk where
  regs _ _ h := h
  hw _ _ _ _ h := h
  mot _ _ h := h
  tim _ _ h := h
  sys _ _ h := h
  quo _ _ h := h
  pwr s _ hx h := memOk_of_eq (s := s) rfl hx h
  raise b c i d0 d1 s h := (raise_evtOnly b c i d0 d1 s).memOk h

theorem closed_evtOk : Closed State.evtOk where
  regs _ _ h := h
  hw _ _ _ _ h := h
  mot _ _ h := h
  tim _ _ h := h
  sys _ _ h := h
  quo _ _ h := h
  pwr _ _ _ h := h
  raise b c i d0 d1 _ h := raise_evtOk b c i d0 d1 h

theorem closed_edg (e : SMap ChanS) : Closed (fun t => t.edg = e) where
  regs _ _ h := h
  hw _ _ _ _ h := h
  mot _ _ h := h
  tim _ _ h := h
  sys _ _ h := h
  quo _ _ h := h
  pwr _ _ _ h := h
  raise b c i d0 d1 s h := (raise_evtOnly b c i d0 d1 s).edg.trans h

/-- What is done only on a condition. -/
theorem keep_if {P : State → Prop} {c : Prop} [Decidable c] {f : State → State} (hf : ∀ t, P t → P (f t)) {s : State} (h : P s) :
    P (if c then f s else s) := by
  split_ifs
  · exact hf s h
  · exact h

section

variable {P : State → Prop} (hP : Closed P)
include hP

theorem Closed.fset {s : State} (f : Fld) (v i j k : Nat) (h : P s) : P (Machine.fset s f v i j k) := hP.regs s _ h

theorem Closed.wr {s : State} (a : Nat) (v : Word) (h : P s) : P (Machine.wr s a v) := hP.regs s _ h

theorem Closed.bump {s : State} (f : Fld) (n i j k : Nat) (h : P s) : P (Machine.bump s f n i j k) := hP.hw s _ _ _ h

theorem Closed.raiseFlag {s : State} (f : Fld) (i j k : Nat) (h : P s) : P (Machine.raiseFlag s f i j k) := hP.hw s _ _ _ h

theorem Closed.hwMark {s : State} (a : Nat) (m : Word) (h : P s) : P (Machine.hwMark a m s) := hP.hw s s.regs _ _ h

theorem Closed.advance {s : State} (t : Nat) (h : P s) : P (Machine.advance t s) := hP.tim s _ h

theorem Closed.hostDrop {s : State} (ifc : Ifc) (a : Nat) (h : P s) : P (Machine.hostDrop ifc a s) := by
  unfold Machine.hostDrop
  exact hP.fset _ _ _ _ _ (hP.fset _ _ _ _ _ (hP.bump _ _ _ _ _ h))

theorem Closed.refuseIn {s : State} (d : DevState) (c : Nat) (h : P s) : P (Machine.refuseIn d c s) :=
  hP.raise _ _ _ _ _ _ (hP.raiseFlag _ _ _ _ h)

theorem Closed.refuseReq {s : State} (c : Nat) (h : P s) : P (Machine.refuseReq c s) := hP.refuseIn _ c h

theorem Closed.ownerWrite {s : State} (ifc : Ifc) (h : P s) : P (Machine.ownerWrite ifc s) := by
  unfold Machine.ownerWrite
  split_ifs
  · exact hP.quo s _ h
  · exact h

theorem Closed.prfEnd {s : State} (m o : Nat) (h : P s) : P (Machine.prfEnd m o s) := by
  unfold Machine.prfEnd
  exact hP.raise _ _ _ _ _ _ (hP.fset _ _ _ _ _ (hP.fset _ _ _ _ _ (hP.fset _ _ _ _ _ h)))

theorem Closed.acdBreak {s : State} (a c : Nat) (h : P s) : P (Machine.acdBreak a c s) :=
  hP.raise _ _ _ _ _ _ (hP.fset _ _ _ _ _ h)

theorem Closed.setPth {s : State} (g : Nat) (x : PthS) (h : P s) : P (Machine.setPth g x s) := hP.mot s _ h

theorem Closed.pthIdle {s : State} (g : Nat) (h : P s) : P (Machine.pthIdle g s) := by
  unfold Machine.pthIdle
  exact hP.fset _ _ _ _ _ (hP.fset _ _ _ _ _ (hP.fset _ _ _ _ _ (hP.fset _ _ _ _ _ (hP.fset _ _ _ _ _ (hP.setPth g _ h)))))

theorem Closed.motLeave {s : State} (h : P s) : P (Machine.motLeave s) := by
  unfold Machine.motLeave
  refine forN_inv ?_ 8 _ (forN_inv ?_ 16 _ (forN_inv ?_ 32 s h))
  · intro g t ht
    split_ifs
    · exact ht
    · exact hP.pthIdle g ht
  · intro a t ht
    split_ifs
    · exact ht
    · exact hP.acdBreak a 2 ht
  · intro m t ht
    dsimp only
    split_ifs
    · exact ht
    · exact hP.prfEnd m 5 ht
    · exact hP.fset _ _ _ _ _ (hP.fset _ _ _ _ _ ht)

theorem Closed.reqLost {s : State} (d : DevState) (h : P s) : P (Machine.reqLost d s) := by
  unfold Machine.reqLost
  exact keep_if (fun t ht => hP.refuseIn _ 3 ht) (keep_if (fun t ht => hP.refuseIn _ 2 ht) (hP.sys s _ h))

theorem Closed.hostSeen {s : State} (h : P s) : P (Machine.hostSeen s) := hP.sys s _ h

theorem Closed.setDev {s : State} (d : DevState) (h : P s) : P (Machine.setDev d s) := by
  unfold Machine.setDev
  dsimp only
  have h0 : P (if (s.sys.st == .run && d != .run) = true then
      Machine.motLeave { s with sys := { s.sys with st := d, prev := s.sys.st, idleAt := clk s, stAt := clk s } }
      else { s with sys := { s.sys with st := d, prev := s.sys.st, idleAt := clk s, stAt := clk s } }) := by
    split_ifs
    · exact hP.motLeave (hP.sys s _ h)
    · exact hP.sys s _ h
  by_cases hr : (s.sys.st == .ready) = true
  · rw [if_pos hr]
    exact hP.reqLost d (hP.raise _ _ _ _ _ _ h0)
  · rw [if_neg hr]
    exact hP.raise _ _ _ _ _ _ h0

theorem Closed.wakeEvent {s : State} (src : Nat) (h : P s) : P (Machine.wakeEvent src s) := by
  unfold Machine.wakeEvent
  dsimp only
  have add : ∀ t : State, P t → P (Machine.hwMark R.PWR_WAKE_SRC.addr (BitVec.ofNat 32 src)
      (Machine.wr t R.PWR_WAKE_SRC.addr (rd t R.PWR_WAKE_SRC.addr ||| BitVec.ofNat 32 src))) :=
    fun t ht => hP.hwMark _ _ (hP.wr _ _ ht)
  split_ifs <;>
    first
      | exact h
      | exact add _ h
      | exact add _ (hP.pwr s _ rfl h)
      | exact hP.raise _ _ _ _ _ _ (hP.raiseFlag _ _ _ _ (add _ (hP.pwr s _ rfl h)))

/-- A host access keeps what its effect keeps, wherever it arrives. -/
theorem Closed.hostGate {s : State} (hv : Via) (a : Nat) (w : Option Word) (f : State → State) (hf : ∀ t, P t → P (f t)) (h : P s) :
    P (Machine.hostGate hv a w f s) := by
  unfold Machine.hostGate
  dsimp only
  have h0 : P (Machine.hostSeen (if w.isSome then Machine.ownerWrite hv.ifc (Machine.advance hv.t s) else Machine.advance hv.t s)) := by
    refine hP.hostSeen ?_
    split_ifs
    · exact hP.ownerWrite _ (hP.advance _ h)
    · exact hP.advance _ h
  revert h0
  generalize Machine.hostSeen (if w.isSome then Machine.ownerWrite hv.ifc (Machine.advance hv.t s) else Machine.advance hv.t s) = t
  intro h0
  split_ifs
  · exact h0
  · exact hP.wakeEvent 16 (hP.pwr t _ rfl h0)
  · exact hf _ (hP.wakeEvent 16 h0)
  · exact hP.hostDrop _ _ (hP.wakeEvent 16 h0)

end

/-! ### A host access that finds its block on -/

/-- Outside DOZE a wake source does nothing. -/
theorem wakeEvent_awake (src : Nat) (s : State) (h : s.sys.st ≠ .doze) : wakeEvent src s = s := by
  have hb : (s.sys.st != .doze) = true := by simpa using h
  unfold wakeEvent
  rw [if_pos hb]

theorem ownerWrite_frame (ifc : Ifc) (s : State) : ownerWrite ifc s = { s with quo := (ownerWrite ifc s).quo } := by
  unfold ownerWrite
  split_ifs <;> rfl

/-- Outside OFF and DOZE an access to a block that is on has the effect of its command at its instant; a write by the owner of a
quoin restarts the timeout first (R75). -/
theorem hostGate_on (hv : Via) (a : Nat) (w : Option Word) (f : State → State) (s : State) (h1 : s.sys.st ≠ .off)
    (h2 : s.sys.st ≠ .doze) (h3 : s.pwr.sysRet = false) (h4 : addrOn s a = true) :
    hostGate hv a w f s = f (hostSeen (if w.isSome then ownerWrite hv.ifc (advance hv.t s) else advance hv.t s)) := by
  unfold hostGate
  dsimp only
  have e : ∀ t : State, t.sys.st = s.sys.st → t.pwr = s.pwr →
      (if t.sys.st = .off then t
        else if t.pwr.sysRet then
          wakeEvent 16 { t with pwr := { t.pwr with held := t.pwr.held ++ [⟨hv.ifc, a, 4, w.map (fun v => (wordBytes v).map some)⟩] } }
        else if addrOn (wakeEvent 16 t) a then f (wakeEvent 16 t) else hostDrop hv.ifc a (wakeEvent 16 t)) = f t := by
    intro t hs hp
    have ha : addrOn t a = true := by
      unfold addrOn domainOn at *
      rw [hp]
      exact h4
    rw [hs, hp, if_neg h1, h3, if_neg (by decide), wakeEvent_awake 16 t (by rw [hs]; exact h2), if_pos ha]
  refine e _ ?_ ?_
  · unfold hostSeen
    split_ifs
    · rw [ownerWrite_frame]; rfl
    · rfl
  · unfold hostSeen
    split_ifs
    · rw [ownerWrite_frame]; rfl
    · rfl

end Sys2Proof.Machine
end

