-- ==== Sys2Proof/WellFormed.lean ====
section
/-! DEFINITION. Sys2Proof/WellFormed.lean: which operands a command of the block can carry. `exec` does not ask: an ill-formed
command runs with what its meaning finds (log entry 26); a claim that needs well-formed operands says so. -/

namespace Sys2Proof

open Sys2Proof.Machine

/-- A block of a protected memory is named by its first address (R457). -/
def MemErr.wf (e : MemErr) : Bool :=
  e.blk % 16 == 0 && ((decide (0x1000000 ≤ e.blk) && decide (e.blk < 0x2000000)) ||
    (decide (0x10000000 ≤ e.blk) && decide (e.blk < 0x20000000)))

/-- A word of a platen window (R62, R106). -/
def PltErr.wf (e : PltErr) : Bool := decide (e.plt < 5) && e.off % 4 == 0 && decide (e.off < 0x100000)

/-- A frame that ISO 11898-1 can put on the bus (R372): classic frames have no BRS and ESI, FD frames no RTR, base identifiers
stand in the upper bits, and the data have the length of DLC. -/
def CanFrame.wf (f : CanFrame) : Bool :=
  (f.ide || f.id.toNat % 2 ^ 18 == 0) && (if f.fdf then !f.rtr else !f.brs && !f.esi) &&
    f.data.length == (if f.rtr then 0 else dlcLen f.fdf f.dlc.toNat)

/-- A host address of an aligned 32-bit register (R60). -/
def regAddr (a : Word) : Bool := a.toNat % 4 == 0 && decide (a.toNat < 0x1000000)

/-- The operands of a command lie within what its row can carry. -/
def Instr.wf : Instr → Bool
  | .registerWrite _ a _ | .readClear _ a | .pairLowRead _ a | .sfWrite _ a _ | .qsImplicitWrite _ a _
  | .qsStagedWrite _ a _ | .stagedBankWrite _ a _ => regAddr a
  | .pcieWriteRequest _ _ bytes errs => decide (1 ≤ bytes.length) && decide (bytes.length ≤ 256) && errs.all MemErr.wf
  | .pcieReadRequest _ _ n errs _ => decide (1 ≤ n) && decide (n ≤ 512) && errs.all MemErr.wf
  | .qspiWrite _ _ a _ errs => a.toNat % 4 == 0 && errs.all MemErr.wf
  | .qspiRead _ _ a _ errs => a.toNat % 4 == 0 && errs.all MemErr.wf
  | .qspiTransferEnd _ clocks => decide (clocks < 8)
  | .hostAccessWake _ a _ | .platenMemoryAccess _ a _ _ => a.toNat % 4 == 0
  | .sortNop a | .sortMac a | .macDual a | .sortLda a | .sortAdd a | .sortAcc a | .sortShf a | .unaNeg a | .unaAbs a
  | .unaRnd a | .unaClr a | .sortMin a | .sortMax a | .sortLim a | .sortSel a | .sortLut a | .sortDld a | .sortDst a
  | .sortStx a | .sortSty a | .sortStxy a | .sortMov a | .sortPset a | .pmodStride a | .pmodModulo a | .sortRep a
  | .sortRepb a | .bexpClear a | .bexpFeed a | .bexpGet a | .bexpLatch a | .sortBscl a | .sortSev a | .sortEnd a => a.errs.all PltErr.wf
  | .outputPublish _ _ _ errs merrs => errs.all PltErr.wf && merrs.all MemErr.wf
  | .impressionBoundary _ bits errs _ _ _ => bits.length == 144 && errs.all MemErr.wf
  | .calibrationPass _ _ taps => taps.length == 48 && taps.all (fun t => t.all (fun n => decide (n ≤ 256)))
  | .standstill _ src | .lostClear _ src => srcList.contains src.toNat
  | .tapExtest _ cells levels | .samplePreload _ cells levels =>
    cells.all (fun c => decide (c.ball.toNat < 2304)) && levels.all (fun e => decide (e.1.toNat < 2304))
  | .recorderSample _ _ ws errs => decide (ws.length ≤ 8) && errs.all MemErr.wf
  | .trackEvaluation _ errs | .layoutLost _ _ errs | .recordComplete _ _ errs | .ethcFrameReceive _ _ _ errs
  | .rescueHoldValid _ _ errs | .rescueHoldTimeout _ _ errs | .measJobDone _ errs | .layoutWorkComplete _ errs | .receiveApply _ errs | .ethcFrameSent _ errs | .essenceCapture _ errs =>
    errs.all MemErr.wf
  | .canFrameReceive _ _ _ f => f.wf
  | .imageStaged _ img errs => decide (img.length ≤ 0x800000) && errs.all MemErr.wf
  | .wakeComplete _ errs blks => blks.all MemErr.wf && errs.all (fun e => e.off % 4 == 0)
  | .ssiWordComplete _ _ bits => decide (bits < 2 ^ 32)
  | .irqSwset _ _ | .heldAccessComplete _ _ _ | .quoBegin _ | .quoCommit _ | .quoRollback _ | .quoinTimeout _
  | .startPolicyRun _ | .stgWorstDone _ _ | .measJobStart _ _ | .ocTripAssert _ _ _ _ | .ocTripDeassert _ _ _ _
  | .warnRise _ _ _ _ | .warnFall _ _ _ _ | .sdmStuck _ _ _ _ | .stuckClear _ _ _ _ _ | .settleEnd _ _ | .ainConversionStart _
  | .ainResult _ _ _ | .carrierReload _ _ | .compareFire _ _ _ | .interlockTurnOn _ _ | .shdGo _ _ | .maskApply _ _
  | .auxTimerFire _ _ _ | .tripInputAssert _ _ | .tripInputDeassert _ _ | .xlatchClear _ _ | .tlatchClear _ _ _
  | .hallStateChange _ _ _ _ | .encoderEdge _ _ _ _ _ | .zEdge _ _ _ _ | .ssiReadStart _ _ _ | .refZArm _ _ | .latArm _ _
  | .latDisarm _ _ | .latPop _ _ | .latFlush _ _ | .latchCapture _ _ _ _ | .latchEntryComplete _ _ | .latchEntryOld _ _ _
  | .cmpArm _ _ | .cmpLateFire _ _ | .cmpDisarm _ _ | .cmpPulseEnd _ _ | .tdcCalibration _ | .moverRequest _ _ _
  | .hallFaultClear _ _ _ _ | .moveAbs _ _ | .moveRel _ _ | .jogPos _ _ | .jogNeg _ _ | .prfStop _ _
  | .prfAbort _ _ | .acdEngage _ _ | .acdDisengage _ _ | .pthStart _ _ | .pthHold _ _ | .pthResume _ _ | .pthStop _ _
  | .pthAbort _ _ | .pthPush _ _ | .pthFlush _ _ | .schArm _ _ | .schCancel _ _ | .scheduledActionFire _ | .reqReady _
  | .reqRun _ | .reqDoze _ | .stopAck _ | .safetyCycle _ _ _ | .slsViolation _ _ | .safImplausible _ _ | .secLostClear _ _
  | .drySecond _ | .rescueReq _ | .dryExpired _ | .enterComm _ | .exitComm _ | .safReset _ | .safStop _ | .dryAck _
  | .safConfirm _ _ | .confirmRecordDone _ | .sigRecomputeDone _ | .btGo _ _ | .brakeTestCheckStart _ | .brakeTestPhaseEnd _
  | .btCancel _ | .btClrFail _ _ | .poweredHour _ | .proofPduSend _ _ | .proofFrameReceive _ _ _ _ | .proofWindowClose _ _ _
  | .proofWatchdog _ _ | .kfbDiscrepancy _ _ | .kfbDiscrepancyClear _ _ | .diagPass _ _ _ _ | .clockCheck _ _
  | .readbackFault _ | .fbkStall _ | .fioInputAccept _ _ _ | .fioOutWrite _ _ | .outputOverload _ _ | .outputOvertemp _ _
  | .openWire _ _ | .diagClear _ _ _ _ | .wdtKick _ | .wdtExpire _ | .wdtExpClear _ | .vfldMeasure _ _ _
  | .fieldRecovered _ _ | .uvAck _ _ | .sbcPullEnd _ _ _ | .sbcTestPulse _ _ _ | .sbcFault _ _ _ _ | .stoTestPulse _ _
  | .stoOverload _ _ | .kfbInputChange _ _ _ | .ptpSyncReceive _ _ _ | .ptpFollowUpReceive _ _ _ | .ptpDelayReqReceive _ _ _
  | .ptpDelayRespReceive _ _ _ | .ptpPdelayReqReceive _ _ _ _ | .ptpPdelayRespReceive _ _ _
  | .ptpPdelayRespFollowUpReceive _ _ _ | .ptpAnnounceReceive _ _ _ | .ptpOtherMessage _ _ _ | .ptpSyncSend _ _
  | .ptpAnnounceSend _ _ | .ptpDelayReqSend _ _ | .ptpPdelayReqSend _ _ | .announceReceiptTimeout _ _ | .offsetTimeout _ _
  | .slewComplete _ | .acceptStep _ | .timSet _ | .ppsInEdge _ | .ppsOutRise _ | .ppsOutFall _ | .aonIncMeasure _ _
  | .folioFrameReceive _ _ _ _ _ | .arpRequest _ _ _ _ _ | .wakeFrame _ _ _ | .layoutDue _ _ _ | .frameDeparture _ _
  | .pathLost _ _ _ | .contextSilence _ _ | .keyLoad _ | .keyActivate _ | .linkChange _ _ _ _ | .txKick _
  | .canInitSet _ _ | .initEffect _ _ | .canInitClear _ _ | .integrationDone _ _ | .canTxreq _ _ _
  | .canTxcancel _ _ _ _ | .canFrameTransmitted _ _ _ _ | .arbitrationLost _ _ _ | .canBusError _ _ _ _ _
  | .canRecover _ _ | .canRecovered _ _ | .canPop _ _ _ | .windowRefill _ _ _ _ | .queueFlush _ _ _ | .protocolException _ _
  | .protocolExceptionEnd _ _ | .canWakeMatch _ _ _ _ | .recorderArm _ _ | .recorderStop _ _ | .armAll _ _ | .stopAll _ _
  | .recForce _ _ | .acqTrigger _ _ _ _ | .slotRelease _ _ _ | .histClear _ _ | .mapClear _ _
  | .feedMeasure _ _ _ _ | .feedClassChange _ _ | .feedSelect _ | .powerFail _ _ | .flushDone _ | .regionEraseDone _
  | .powerOff _ | .essenceSent _ _ | .essenceReceive _ _ _ | .standbyCounterLatch _ | .heartbeatPulse _
  | .ownershipClaim _ _ | .ownConflict _ | .ownInChange _ _ | .hbSilence _ | .penFbChange _ _ | .mirrorLinkLoss _
  | .takeoverRestoreDone _ | .takeoverComplete _ | .takebackRequest _ _ | .handbackConfirm _ | .parRelease _
  | .releaseTimeout _ | .batteryDetect _ _ | .rescueTrigger _ | .rescueGo _
  | .rescueUndervoltage _ | .xinLoss _ | .x32Loss _ | .domainPowerSwitch _ _ _ | .idleTimer _ | .dozeEntry _
  | .aonWakeTimer _ | .thermalRead _ _ _ | .scrubBlock _ _ _ | .eventLogWrite _ | .evtPop _ _ | .evtClear _
  | .evtEntryCapture _ _ | .tapReset _ | .tapIdcode _ | .tapUsercode _ | .tapClamp _
  | .tapHighz _ | .tapBypass _ | .powerUp _ | .resetRelease _ | .pornRelease _ | .flashTimeout _ | .signatureVerified _
  | .galleyApply _ | .hostLoad _ | .skipFlash _ | .keyProg _ _ | .setRequire _ | .keyProgDone _ | .pornLow _
  | .deviceReset _ | .rstnRelease _ | .hbInPulse _ | .mirrorLinkUp _ | .ownOutRelease _ | .vholdLow _ => true

end Sys2Proof
end

