-- ==== Sys2Proof/Tests/Slice0.lean ====
section
/-! SUPPORT. Sys2Proof/Tests/Slice0.lean: the checks of WellFormed, small checks of single commands against the spec's own
numbers, and for every statement with hypotheses concrete states and operands that meet them, one witness a clause. -/

namespace Sys2Proof.Tests

set_option Elab.async false

open Sys2Proof Sys2Proof.Machine Sys2Proof.Claims

/-! ### Helpers: images, the word of a sort, a platen about to issue one -/

/-- An unsigned image of R35 to R37 with the five sections it must hold, all empty; the rest of its slot is erased. -/
def okImage : List Byte :=
  (List.range 0x90).map (fun i => BitVec.ofNat 8 (SMap.get (fun _ => 0)
    [(0, 78), (1, 71), (2, 76), (3, 89), (4, 1), (8, 4), (9, 35), (10, 72), (21, 1), (24, 5), (28, 64), (60, 71),
     (61, 116), (62, 7), (63, 145), (64, 1), (68, 144), (80, 2), (84, 144), (96, 3), (100, 144), (112, 5),
     (116, 144), (128, 64), (132, 144)] i))

/-- Part 1 of the image of `signedMem`. -/
def signedPart1 : List (Nat × Nat) :=
  [(16777216, 71), (16777217, 78), (16777218, 76), (16777219, 89), (16777220, 1), (16777230, 1), (16777236, 224),
   (16777240, 1), (16777244, 64), (16777280, 254), (16777284, 80), (16777288, 132), (16777300, 38), (16777301, 171),
   (16777302, 225), (16777303, 83), (16777304, 161), (16777305, 197), (16777306, 125), (16777307, 180), (16777308, 42),
   (16777309, 156), (16777310, 47), (16777311, 227), (16777312, 7), (16777313, 33), (16777314, 108), (16777315, 131),
   (16777316, 42), (16777317, 75), (16777318, 222), (16777319, 222), (16777320, 80), (16777321, 254), (16777322, 35),
   (16777323, 11), (16777324, 121), (16777325, 23), (16777326, 162), (16777327, 47)]

/-- Part 2 of the image of `signedMem`. -/
def signedPart2 : List (Nat × Nat) :=
  [(16777328, 79), (16777329, 182), (16777330, 109), (16777331, 116), (16777332, 250), (16777333, 216), (16777334, 80),
   (16777335, 187), (16777336, 249), (16777337, 233), (16777338, 159), (16777339, 161), (16777340, 160), (16777341, 227),
   (16777342, 149), (16777343, 67), (16777344, 46), (16777345, 17), (16777346, 22), (16777347, 185), (16777348, 237),
   (16777349, 121), (16777350, 121), (16777351, 231), (16777352, 68), (16777353, 141), (16777354, 3), (16777355, 186),
   (16777356, 40), (16777357, 210), (16777358, 199), (16777359, 213), (16777360, 231), (16777361, 157), (16777362, 178),
   (16777363, 155), (16777364, 3), (16777365, 177), (16777366, 99), (16777367, 247)]

/-- Part 3 of the image of `signedMem`. -/
def signedPart3 : List (Nat × Nat) :=
  [(16777368, 12), (16777369, 53), (16777370, 84), (16777371, 99), (16777372, 161), (16777373, 231), (16777374, 190),
   (16777375, 251), (16777376, 227), (16777377, 204), (16777378, 232), (16777379, 191), (16777380, 196), (16777381, 157),
   (16777382, 75), (16777383, 142), (16777384, 69), (16777385, 218), (16777386, 32), (16777387, 149), (16777388, 21),
   (16777389, 235), (16777390, 227), (16777392, 71), (16777393, 44), (16777394, 89), (16777395, 249), (16777396, 48),
   (16777397, 18), (16777398, 138), (16777399, 209), (16777400, 50), (16777401, 245), (16777402, 121), (16777403, 242),
   (16777404, 154), (16777405, 105), (16777406, 244), (16777407, 73), (16777409, 188)]

/-- Part 4 of the image of `signedMem`. -/
def signedPart4 : List (Nat × Nat) :=
  [(16777410, 79), (16777411, 206), (16777412, 179), (16777413, 17), (16777414, 183), (16777415, 184), (16777416, 7),
   (16777417, 198), (16777418, 242), (16777419, 54), (16777420, 153), (16777421, 174), (16777422, 21), (16777423, 37),
   (16777424, 169), (16777425, 185), (16777426, 38), (16777427, 153)]

/-- Main SRAM holding a signed image of R41 whose signature the key below checks: made with ECDSA P-256 (FIPS 186-5) outside the
model. Bytes of 0 are not listed. -/
def signedMem : List Host.Cell :=
  (signedPart1 ++ signedPart2 ++ signedPart3 ++ signedPart4).map (fun c => (c.1, BitVec.ofNat 8 c.2))

/-- The public key of `signedMem` in slot 0. -/
def signedKeys : SMap (Option Nat) := [(0, some 783693331376865918594815675341961496787534993466742278132907534075607917086)]

/-- The word of R81 that encodes opcode `op` with the fields of `a`. -/
def encSort (op : Nat) (a : Srt) : W64 :=
  BitVec.ofNat 64 (op * 2 ^ 58 + a.sec.toNat * 2 ^ 52 + a.ad.toNat * 2 ^ 50 + a.md.toNat * 2 ^ 46 + a.xf.toNat * 2 ^ 30 +
    a.yf.toNat * 2 ^ 14 + a.cf.toNat)

/-- A platen like `p` whose sequencer stands at the sort `a` with opcode `op`, every section scheduled and enabled. -/
def seqAt (op : Nat) (a : Srt) (p : PltS) : PltS :=
  { p with
    mask := -1#64, sched := -1#64, running := true, jobBusy := true, ended := false, bare := false, pos := a.idx.toNat
    act := { p.act with sorts := SMap.put endWord p.act.sorts a.idx.toNat (encSort op a) } }

/-- The 32 bytes of a Proof PDU as R296 lays it out. -/
def proofPdu (session seq at_ : Nat) : List Byte :=
  let body := [1#8, 0#8] ++ leBytes 2 session ++ leBytes 4 seq ++ leBytes 8 0x55
  body ++ leBytes 4 (crc32c body) ++ leBytes 8 at_ ++ leBytes 4 (crc32c (leBytes 8 at_))

/-- A platen like `p` with an ADD of X behind the sort `a`. -/
def putNext (a : Srt) (p : PltS) : PltS :=
  { p with act := { p.act with sorts := SMap.put endWord p.act.sorts (a.idx.toNat + 1) (encSort 0x03 { a with md := 0#4 }) } }

/-- An open track `k` with `n` segments of 50 inc in state `st` and the movers `ms`, each with its position. -/
def trkSetup (k : Nat) (ms : List (Nat × Nat)) (n st : Nat) (s : State) : State :=
  let s := { s with sys := { s.sys with running := true } }
  let s := forN 32 (fun m s => if fget s F.MOV_CFG_TYPE m = 3 then fset s F.MOV_CFG_TYPE 0 m else s) (forN 8 (fun i s => fset s F.SYS_TRK_CFG_EN (if i = k then 1 else 0) i) s)
  let s := fset (fset (fset (fset s F.SYS_TRK_CFG_NSEG n k) F.SYS_TRK_CFG_CLOSED 0 k) F.SYS_TRK_LA_VAL 40 k) F.SYS_TRK_TAB_INDEX 0x2000 k
  let s := fset (fset (fset (fset s F.SYS_TRK_WIN_W_ON 800 k) F.SYS_TRK_WIN_W_OFF 400 k) F.SYS_TRK_APPR_VAL 10 k) F.SYS_TRK_LAMBDA_VAL 64 k
  let s := { s with trk := { s.trk with seg := (List.range n).map (fun j => (64 * k + j, { SegS.init with b := 50 * j, ch := j })), lastLen := [(k, 50)], st := if st = 0 then [] else (List.range n).map (fun j => (64 * k + j, st)), fail := [], clr := [] } }
  forL ms (fun e s =>
    let b := 0x1000 + 16 * e.1
    let s := fset (fset (fset s F.MOV_CFG_TYPE 3 e.1) F.MOV_CFG_TRACK k e.1) F.MOV_REC_INDEX b e.1
    forL [(0, 0), (1, e.2), (2, 0), (8, 77), (9, 88), (14, e.2 % 2), (15, s.sys.s0 % 2 ^ 24)] (fun p s => writeSram (b + p.1) p.2 s) s) s


/-! ### The checks of `Instr.wf` refuse -/

/-- R60. -/
theorem test_wf_registerWrite_misaligned : (Instr.wf (.registerWrite ⟨.pcie, 0⟩ 0x2#32 0#32)) = false := by decide +kernel

/-- R60. -/
theorem test_wf_readClear_outside_registers : (Instr.wf (.readClear ⟨.pcie, 0⟩ 0x1000000#32)) = false := by decide +kernel

/-- R65. -/
theorem test_wf_pcieWrite_empty : (Instr.wf (.pcieWriteRequest 0 0x1000000#32 [] [])) = false := by decide +kernel

/-- R65. -/
theorem test_wf_pcieWrite_too_long : (Instr.wf (.pcieWriteRequest 0 0x1000000#32 (List.replicate 257 (some 0#8)) [])) = false := by decide +kernel

/-- R65. -/
theorem test_wf_pcieRead_of_nothing : (Instr.wf (.pcieReadRequest 0 0x1000000#32 0 [] [])) = false := by decide +kernel

/-- R65. -/
theorem test_wf_pcieRead_too_long : (Instr.wf (.pcieReadRequest 0 0x1000000#32 513 [] [])) = false := by decide +kernel

/-- R457. -/
theorem test_wf_pcieRead_error_block_misaligned : (Instr.wf (.pcieReadRequest 0 0x1000000#32 4 [⟨0x1000004, .single⟩] [])) = false := by decide +kernel

/-- R68. -/
theorem test_wf_qspiWrite_misaligned : (Instr.wf (.qspiWrite 0 2#8 0x1000002#32 [] [])) = false := by decide +kernel

/-- R69. -/
theorem test_wf_qspiRead_misaligned : (Instr.wf (.qspiRead 0 0x0B#8 0x1000001#32 1 [])) = false := by decide +kernel

/-- R68. -/
theorem test_wf_qspiTransferEnd_whole_byte : (Instr.wf (.qspiTransferEnd 0 8)) = false := by decide +kernel

/-- R33. -/
theorem test_wf_hostAccessWake_misaligned : (Instr.wf (.hostAccessWake ⟨.qspi, 0⟩ 0x3#32 none)) = false := by decide +kernel

/-- R62. -/
theorem test_wf_platenMemoryAccess_misaligned : (Instr.wf (.platenMemoryAccess ⟨.pcie, 0⟩ 0x800002#32 none [])) = false := by decide +kernel

/-- R62. -/
theorem test_wf_sort_error_outside_platens : (Instr.wf (.sortMac ⟨0, 0#13, 0#6, 0#2, 0#4, 0#16, 0#16, 0#14, [⟨5, 0, .single⟩]⟩)) = false := by decide +kernel

/-- R62. -/
theorem test_wf_sort_error_misaligned : (Instr.wf (.sortEnd ⟨0, 0#13, 0#6, 0#2, 0#4, 0#16, 0#16, 0#14, [⟨0, 2, .single⟩]⟩)) = false := by decide +kernel

/-- R62. -/
theorem test_wf_outputPublish_error_outside_window : (Instr.wf (.outputPublish 0 0 [] [⟨0, 0x100000, .multi⟩] [])) = false := by decide +kernel

/-- R29. -/
theorem test_wf_impressionBoundary_inputs : (Instr.wf (.impressionBoundary 0 [] [] none none [])) = false := by decide +kernel

/-- R148. -/
theorem test_wf_calibrationPass_taps : (Instr.wf (.calibrationPass 0 0#8 [])) = false := by decide +kernel

/-- R148. -/
theorem test_wf_calibrationPass_tap_too_long : (Instr.wf (.calibrationPass 0 0#8 (List.replicate 48 (some 257)))) = false := by decide +kernel

/-- R182. -/
theorem test_wf_standstill_of_no_source : (Instr.wf (.standstill 0 50#7)) = false := by decide +kernel

/-- R183. -/
theorem test_wf_lostClear_of_no_source : (Instr.wf (.lostClear ⟨.pcie, 0⟩ 50#7)) = false := by decide +kernel

/-- R388. -/
theorem test_wf_recorderSample_channels : (Instr.wf (.recorderSample 0 0 (List.replicate 9 []) [])) = false := by decide +kernel

/-- R457. -/
theorem test_wf_layoutWork_error_outside_memory : (Instr.wf (.layoutWorkComplete 0 [⟨0x2000000, .single⟩])) = false := by decide +kernel

/-- R372. -/
theorem test_wf_canFrame_classic_with_esi : (Instr.wf (.canFrameReceive 0 0 0 ⟨0#29, false, false, false, false, true, 0#4, []⟩)) = false := by decide +kernel

/-- R372. -/
theorem test_wf_canFrame_base_identifier : (Instr.wf (.canFrameReceive 0 0 0 ⟨1#29, false, false, false, false, false, 0#4, []⟩)) = false := by decide +kernel

/-- R372. -/
theorem test_wf_canFrame_length : (Instr.wf (.canFrameReceive 0 0 0 ⟨0#29, false, false, false, false, false, 1#4, []⟩)) = false := by decide +kernel

/-- R444. -/
theorem test_wf_wakeComplete_error_misaligned : (Instr.wf (.wakeComplete 0 [⟨4, 1, .single⟩] [])) = false := by decide +kernel

/-- R179. -/
theorem test_wf_ssiWord_too_long : (Instr.wf (.ssiWordComplete 0 0 0x100000000)) = false := by decide +kernel

/-- R41: an image is at most 8 MiB. -/
theorem test_wf_image_too_long (t : Nat) (img : List Byte) (h : 0x800000 < img.length) : Instr.wf (.imageStaged t img []) = false := by
  have hn : decide (img.length ≤ 0x800000) = false := decide_eq_false (by omega)
  show (decide (img.length ≤ 0x800000) && _) = false
  rw [hn, Bool.false_and]

/-- A read of the status register over PCIe is well formed. -/
theorem test_wf_read : Instr.wf (.pcieReadRequest 0 0x4#32 4 [] []) = true := by decide +kernel

/-! ### The spec's own numbers -/

/-- The worked example of R13 and R330: a fresh LNS of 0x7_0000_0100 and a stamp of 0xFFFF_FF00 give 0x6_FFFF_FF00. -/
theorem test_stamp_extension : extendStamp 0x700000100 0xFFFFFF00 = 0x6FFFFFF00 := by decide

/-- The table of chapter 6: the carriers of a segment, a hoist and a door motor, P and r. -/
theorem test_carriers :
    (carrierP 625 1 1, carrierR 625 1 1) = (5000, 0) ∧ (carrierP 3125 2 1, carrierR 3125 2 1) = (50000, 0) ∧
      (carrierP 5000 1 3, carrierR 5000 1 3) = (13333, 1) := by decide

/-- The last row of that table: M 128 at PERIOD 6,250 is corrected to 83, with P 4,150,000. -/
theorem test_carrier_clamp : carrierFit 6250 128 1 = (83, 1) ∧ carrierP 6250 83 1 = 4150000 := by decide +kernel

/-- Chapter 1: 80 kHz is PERIOD 625, and T_IMP is 12.5 µs. -/
theorem test_impression_period : tImp (fset State.reset F.SYS_IMP_CFG_PERIOD 625) = 12500 := by decide +kernel

/-- The worked example of R467: 36 events dropped by EDG and SDM give one summary with words 36 and 0x2800. -/
theorem test_drop_summary :
    (match execEventLogWrite 0 { State.reset with evt := { State.reset.evt with overflow := true, dropped := 36, dropMask := 0x2800 } } with
      | .next t => t.evt.log.map (fun e => (e.block, e.d0, e.d1))
      | _ => []) = [(3, 36, 0x2800)] := by decide +kernel

/-- R80: the immediate field 0x1FFF is 8,191, the data word 8,191 × 2^10, at the binary point of an accumulator. -/
theorem test_immediate :
    (match exec (.sortLda ⟨0, 0#13, 0#6, 1#2, 0#4, 0xDFFF#16, 0#16, 0#14, []⟩) (setPlt State.reset 0 (seqAt 0x02 ⟨0, 0#13, 0#6, 1#2, 0#4, 0xDFFF#16, 0#16, 0#14, []⟩ PltS.init)) with
      | .next t => ((t.plt 0).accOf 1).v.toInt
      | _ => 0) = 8191 * 2 ^ 10 * 2 ^ 23 := by decide +kernel

/-- R92: 2^54 added to 2^54 leaves the range of an accumulator: held at 2^55 − 1 with FRZ set. -/
theorem test_accumulator_freezes : accAfter false ⟨0, false, false⟩ (2 ^ 55) = ⟨BitVec.ofNat 56 (2 ^ 55 - 1), false, true⟩ := by
  decide

/-- R64: a write to an address that is not aligned is ignored, counted and named. -/
theorem test_host_drop :
    (match exec (.registerWrite ⟨.qspi, 0⟩ 0x6#32 1#32) { State.reset with sys := { SysS.init with st := .run }, pwr := { PwrS.init with on := -1#14 } } with
      | .next t => (fget t F.SYS_HOST_DROP_COUNT, fget t F.SYS_HOST_DROP_LAST_IF, fget t F.SYS_HOST_DROP_ADDR_ADDR)
      | _ => (0, 0, 0)) = (1, 2, 6) := by decide +kernel

/-- CRC-32C (R36): the check value that the rule gives for "123456789". -/
theorem test_crc32c : crc32c [0x31, 0x32, 0x33, 0x34, 0x35, 0x36, 0x37, 0x38, 0x39] = 0xE3069283 := by decide +kernel

/-- SHA-256 of "abc", from FIPS 180-4. -/
theorem test_sha256 : beNat (sha256 [0x61, 0x62, 0x63]) = 0xba7816bf8f01cfea414140de5dae2223b00361a396177a9cb410ff61f20015ad := by
  decide +kernel

/-- AES-128, the example of FIPS 197. -/
theorem test_aes128 :
    beNat (aes128 (beBytes 16 0x000102030405060708090a0b0c0d0e0f) (beBytes 16 0x00112233445566778899aabbccddeeff)) =
      0x69c4e0d86a7b0430d8cdb78070b4c55a := by decide +kernel

/-- The invariants hold of the state after reset. -/
theorem test_reset_memory : Memory.wf State.reset.pwr.areas State.reset.mem = true := by decide +kernel

/-- A step that answers a next state exists from a state that meets every invariant: an empty queue, after reset. -/
theorem test_invariants_witness :
    State.reset.pending = [] ∧ State.reset.memOk ∧ State.reset.evtOk ∧ State.reset.sys.st ≠ .off ∧
      step State.reset = .next (timTick State.reset) ∧ (timTick State.reset).sys.st ≠ .off :=
  ⟨rfl, by unfold State.memOk; decide +kernel, by unfold State.evtOk; decide +kernel, by decide +kernel, rfl, by decide +kernel⟩

/-- No leg is on after reset. -/
theorem test_reset_legs : State.reset.legsOk := by
  intro c o h
  have : (State.reset.ch c).drv = 0 := rfl
  simp [this] at h

/-! ### Witnesses -/

/-- The device in RUN with every domain on, LNS at 1,010,000 ns, impression 100 under way and the next boundary at 1,020,000 ns. -/
def w0 : State := { State.reset with
  sys := { SysS.init with st := .run, prev := .ready, running := true, first := true, imp := 100, s0 := 1000000, next := 1020000 }
  pwr := { PwrS.init with on := 0x3FFF#14, pllLock := true }
  tim := { TimS.init with acc := 1010000 * 2^26, st := .track }
  pins := { PinS.init with porn := true, rstn := true } }

/-- A device whose first impression began at 1,000,000 ns: the state of `w0`. -/
abbrev s0 : State := w0

theorem witness_HostRegisterAccess_1 :
    (let s : State := w0
    (HostOn s R.SYS_IRQ_EN.addr)) ∧
    (let s : State := w0
    let r : Fin 2 := 1
    (HostOn s (R.TST_MEM_STATUS.at r))) ∧
    (let s : State := w0
    let a : Word := 5#32
    (s.sys.st ≠ .off) ∧
      (s.sys.st ≠ .doze) ∧
      (s.pwr.sysRet = false) ∧
      (inMem a.toNat = false) ∧
      (inWindowSpace a.toNat = false) ∧
      (a.toNat % 4 ≠ 0 ∨ implemented a.toNat = false)) ∧
    (let s : State := w0
    let h : Via := ⟨.pcie, 5⟩
    (HostOn s R.TST_LOCAL.addr) ∧
      (SMap.get (fun _ => none) (caps h.ifc s) R.TST_LOCAL.addr = none)) := by
  decide +kernel

theorem witness_HostRegisterAccess_2 :
    (let s : State := w0
    let h : Via := ⟨.pcie, 5⟩
    let x : Fin 64 := 1
    (HostOn s (R.SCH_TIME_L.at x)) ∧
      (SMap.get (fun _ => none) (caps h.ifc s) (R.SCH_TIME_L.at x) = none)) := by
  decide +kernel

theorem witness_SafetyFieldWrite :
    (let s : State := w0
    let v : Word := 5#32
    let v : Word := if v.toNat % 3 = 0 then 100#32 else v
    let s : State := fset (fset s F.SAF_STATE_STATE 1) F.SAF_TDRY_TDRY 1000
    (HostOn s R.SAF_TRESQ.addr) ∧
      (fget s F.SAF_STATE_STATE = 1) ∧
      ((regFlds R.SAF_TRESQ.addr).all (sfFieldOk · v) = true) ∧
      (reservedZero (regFlds R.SAF_TRESQ.addr) v = true) ∧
      (bitsOf v F.SAF_TRESQ_TRESQ.lsb F.SAF_TRESQ_TRESQ.width < fget s F.SAF_TDRY_TDRY)) ∧
    (let s : State := w0
    let s : State := fset (fset s F.SAF_STATE_STATE 1) F.SAF_TDRY_TDRY 100
    let v : Word := 0xFFFF#32
    (HostOn s R.SAF_TRESQ.addr) ∧
      (fget s F.SAF_STATE_STATE = 1) ∧
      (¬ ((regFlds R.SAF_TRESQ.addr).all (sfFieldOk · v) = true ∧ reservedZero (regFlds R.SAF_TRESQ.addr) v = true ∧ bitsOf v F.SAF_TRESQ_TRESQ.lsb F.SAF_TRESQ_TRESQ.width < fget s F.SAF_TDRY_TDRY))) ∧
    (let s : State := w0
    let a : Word := 5#32
    let a : Word := if a.toNat % 2 = 0 then BitVec.ofNat 32 R.SAF_TRESQ.addr else BitVec.ofNat 32 (R.SAF_PSC_TIMING.at 3)
    let s : State := fset s F.SAF_STATE_STATE 2
    (HostOn s a.toNat) ∧
      (fget s F.SAF_STATE_STATE ≠ 1) ∧
      (inWindowSpace a.toNat = false) ∧
      (a.toNat < 0x1000000) ∧
      (inTab a.toNat = false) ∧
      (stgPlace a.toNat = none) ∧
      ((regFlds a.toNat).any (fun f => f.acc == .sf) = true)) := by
  decide +kernel

theorem witness_HostMemoryAccess_1 :
    (let s : State := w0
    let t0 : Nat := 5
    let a : Word := 5#32
    let bs : List (Option Byte) := [none]
    let a : Word := BitVec.ofNat 32 ((if t0 % 2 = 0 then 0x1800000 else 0x10000000) + a.toNat % 0x40)
    let s : State := { s with pwr := { s.pwr with on := s.pwr.on ||| 0x102#14 } }
    (HostAwake s) ∧
      (MemSpan s a.toNat bs.length) ∧
      (Unstaged s a.toNat)) ∧
    (let s : State := w0
    let t0 : Nat := 5
    let a : Word := 5#32
    let bs : List (Option Byte) := [none]
    let a : Word := BitVec.ofNat 32 (0x1000000 + a.toNat % 0x40)
    let bs : List (Option Byte) := some 3#8 :: bs
    let s : State := fset s F.GLY_STATUS_PHASE (1 + t0 % 4)
    (HostAwake s) ∧
      (domainOn s 1 = true) ∧
      (0x1000000 ≤ a.toNat ∧ a.toNat + bs.length ≤ 0x1800000) ∧
      (1 ≤ fget s F.GLY_STATUS_PHASE ∧ fget s F.GLY_STATUS_PHASE ≤ 4) ∧
      (bs.any (·.isSome) = true)) ∧
    (let s : State := w0
    let a : Word := 5#32
    let a : Word := BitVec.ofNat 32 (0x1800000 + a.toNat % 0x40 / 16 * 16)
    let bs : List (Option Byte) := List.replicate 16 (some 5#8)
    let s : State := setPoison s a.toNat true
    (HostAwake s) ∧
      (MemSpan s a.toNat 16) ∧
      (Unstaged s a.toNat) ∧
      (a.toNat % 16 = 0) ∧
      (bs.length = 16 ∧ bs.all (·.isSome) = true)) ∧
    (let s : State := w0
    let t0 : Nat := 5
    let a : Word := 5#32
    let n : Nat := 5
    let n : Nat := n % 40
    let a : Word := BitVec.ofNat 32 ((if t0 % 2 = 0 then 0x1000000 else 0x10000000) + a.toNat % 0x40)
    let errs : List MemErr := []
    (HostAwake s) ∧
      (MemSpan s a.toNat n) ∧
      (∀ k, k < n → poisoned (readErrs a.toNat n errs (advance t0 s)) (a.toNat + k) = false)) := by
  decide +kernel

theorem witness_HostMemoryAccess_2 :
    (let s : State := w0
    let t0 : Nat := 5
    let a : Word := 5#32
    let a : Word := BitVec.ofNat 32 ((if t0 % 2 = 0 then 0x1000000 else 0x10000000) + a.toNat % 0x40 / 4 * 4)
    let s : State := setPoison s a.toNat true
    (HostAwake s) ∧
      (MemSpan s a.toNat 4) ∧
      (a.toNat % 4 = 0) ∧
      (poisoned s a.toNat = true)) ∧
    (let s : State := w0
    let t0 : Nat := 5
    let a : Word := 5#32
    let ws : List Word := [5#32]
    let a : Word := BitVec.ofNat 32 ((if t0 % 2 = 0 then 0x1800000 else 0x10000000) + a.toNat % 0x40)
    (s.qspi ≠ some none) ∧
      (HostAwake s) ∧
      (MemSpan s a.toNat (4 * ws.length)) ∧
      (Unstaged s a.toNat)) ∧
    (let s : State := w0
    let t0 : Nat := 5
    let a : Word := 5#32
    let n : Nat := 5
    let n : Nat := n % 10
    let a : Word := BitVec.ofNat 32 ((if t0 % 2 = 0 then 0x1000000 else 0x10000000) + a.toNat % 0x40)
    let errs : List MemErr := []
    (s.qspi ≠ some none) ∧
      (HostAwake s) ∧
      (MemSpan s a.toNat (4 * n)) ∧
      (∀ k, k < 4 * n → poisoned (readErrs a.toNat (4 * n) errs (advance t0 s)) (a.toNat + k) = false)) ∧
    (let c : Byte := 7#8
    (c ≠ 0x02#8 ∧ c ≠ 0x0B#8)) := by
  decide +kernel

theorem witness_HostMemoryAccess_3 :
    (let c : Byte := 7#8
    (c ≠ 0x02#8 ∧ c ≠ 0x0B#8)) := by
  decide +kernel

theorem witness_HostAccessWaits_1 :
    (let s : State := w0
    let s : State := { s with sys := { s.sys with st := .doze }, pwr := { s.pwr with sysRet := true } }
    (s.sys.st = .doze) ∧
      (s.pwr.sysRet = true)) ∧
    (let s : State := w0
    let p : Fin 5 := 1
    let i : Fin 40960 := 1
    let s : State := modPlt s p (fun x => { x with running := true })
    (HostOn s (0x800000 + 0x100000 * p + 4 * i)) ∧
      ((s.plt p).running = true)) ∧
    (let s : State := w0
    let p : Fin 5 := 1
    let i : Fin 16384 := 1
    (HostOn s (0x800000 + 0x100000 * p + 4 * i)) ∧
      ((s.plt p).running = false)) ∧
    (let s : State := w0
    let p : Fin 5 := 1
    let i : Fin 16384 := 1
    (HostOn s (0x800000 + 0x100000 * p + 4 * i)) ∧
      ((s.plt p).running = false)) := by
  decide +kernel

theorem witness_HostAccessWaits_2 :
    (let s : State := w0
    let p : Fin 5 := 1
    let i : Fin 16384 := 1
    let v : Word := 5#32
    let c : Ifc := .qspi
    let r : List Held := [⟨.pcie, 0x800000, 4, none⟩]
    let s : State := modPlt s p (fun x => { x with held := ⟨c, 0x800000 + 0x100000 * p + 4 * i, 4, some ((wordBytes v).map some)⟩ :: r })
    (s.sys.st ≠ .off) ∧
      (addrOn s (0x800000 + 0x100000 * p + 4 * i) = true) ∧
      ((s.plt p).running = false) ∧
      ((s.plt p).held = ⟨c, 0x800000 + 0x100000 * p + 4 * i, 4, some ((wordBytes v).map some)⟩ :: r)) ∧
    (let s : State := w0
    (HostOn s R.SYS_IRQ_SWSET.addr)) := by
  decide +kernel

theorem witness_RollbackRule :
    (let s : State := w0
    let h : Via := ⟨.pcie, 5⟩
    let s : State := { s with quo := { s.quo with owner := some h.ifc, pending := none, staged := [⟨R.EDG_DT.at 2, 0, 16, 0, 5⟩] } }
    (HostOn s R.QUO_CTL.addr) ∧
      (s.quo.owner = some h.ifc ∧ s.quo.pending = none)) ∧
    (let s : State := w0
    let h : Via := ⟨.pcie, 5⟩
    let s : State := { s with quo := { s.quo with pending := some .pcie, owner := if h.t % 2 = 0 then none else some .qspi, staged := [⟨R.EDG_DT.at 2, 0, 16, 0, 5⟩] } }
    (HostOn s R.QUO_CTL.addr) ∧
      (s.quo.pending ≠ none)) := by
  decide +kernel

theorem witness_ConditionRule :
    (let s : State := w0
    let a : Srt := ⟨1, 2, 0, 1, 0, 3, 4, 5, []⟩
    let p0 : PltS := PltS.init
    let s : State := setPlt s a.plt (seqAt 0x0A a p0)
    (Issued 0x0A a s)) ∧
    (let s : State := w0
    let a : Srt := ⟨1, 2, 0, 1, 0, 3, 4, 5, []⟩
    let p0 : PltS := PltS.init
    let s : State := setPlt s a.plt (seqAt 0x18 a p0)
    let a : Srt := { a with md := 4#4 }
    let s := setPlt s a.plt (seqAt 0x18 a p0)
    (Issued 0x18 a s) ∧
      (a.xf.getLsbD 8 = false) ∧
      ((if a.md.toNat / 4 = 0 then decide (((s.plt a.plt).accOf (a.md.toNat % 4)).v.toInt < 0) else if a.md.toNat / 4 = 1 then decide (((s.plt a.plt).accOf (a.md.toNat % 4)).v.toInt = 0) else if a.md.toNat / 4 = 2 then decide (0 < ((s.plt a.plt).accOf (a.md.toNat % 4)).v.toInt) else ((s.plt a.plt).accOf (a.md.toNat % 4)).c) = true)) ∧
    (let s : State := w0
    let a : Srt := ⟨1, 2, 0, 1, 0, 3, 4, 5, []⟩
    let p0 : PltS := PltS.init
    let s : State := setPlt s a.plt (seqAt 0x18 a p0)
    (Issued 0x18 a s) ∧
      (a.xf.getLsbD 8 = false) ∧
      ((if a.md.toNat / 4 = 0 then decide (((s.plt a.plt).accOf (a.md.toNat % 4)).v.toInt < 0) else if a.md.toNat / 4 = 1 then decide (((s.plt a.plt).accOf (a.md.toNat % 4)).v.toInt = 0) else if a.md.toNat / 4 = 2 then decide (0 < ((s.plt a.plt).accOf (a.md.toNat % 4)).v.toInt) else ((s.plt a.plt).accOf (a.md.toNat % 4)).c) = false)) := by
  decide +kernel

theorem witness_ImmediateRule :
    (let s : State := w0
    let a : Srt := ⟨1, 2, 0, 1, 0, 3, 4, 5, []⟩
    let v : BitVec 14 := 3#14
    let p0 : PltS := PltS.init
    let a : Srt := { a with md := 0#4, xf := 3#2 ++ v }
    let s : State := setPlt s a.plt (seqAt 0x02 a p0)
    (Issued 0x02 a s) ∧
      (a.md = 0#4) ∧
      (a.xf = 3#2 ++ v)) := by
  decide +kernel

theorem witness_QuoinOpenAndStage_1 :
    (let s : State := w0
    let s : State := { s with quo := { s.quo with owner := none } }
    (HostOn s R.QUO_CTL.addr) ∧
      (s.quo.owner = none) ∧
      (s.quo.pending = none) ∧
      (beginState s.sys.st = true)) ∧
    (let s : State := w0
    let h : Via := ⟨.pcie, 5⟩
    let s : State := { s with quo := { s.quo with owner := none, pending := some h.ifc } }
    (HostOn s R.QUO_CTL.addr) ∧
      (s.quo.owner = none) ∧
      (s.quo.pending ≠ none ∨ beginState s.sys.st = false)) ∧
    (let s : State := w0
    let h : Via := ⟨.pcie, 5⟩
    let c : Fin 48 := 1
    let s : State := { s with quo := { s.quo with owner := some h.ifc } }
    (HostOn s (R.EDG_DT.at c)) ∧
      (s.quo.owner = some h.ifc) ∧
      (s.quo.staged.length ≤ 2046)) ∧
    (let s : State := w0
    let c : Fin 48 := 1
    let s : State := { s with quo := { s.quo with owner := none } }
    (HostOn s (R.EDG_DT.at c)) ∧
      (s.quo.owner = none)) := by
  decide +kernel

theorem witness_QuoinOpenAndStage_2 :
    (let s : State := w0
    let h : Via := ⟨.pcie, 5⟩
    let c : Fin 48 := 1
    let o : Ifc := .qspi
    let s : State := { s with quo := { s.quo with owner := some o } }
    (HostOn s (R.EDG_DT.at c)) ∧
      (s.quo.owner = some o) ∧
      (o ≠ h.ifc)) := by
  decide +kernel

theorem witness_QuoinClose :
    (let s : State := w0
    let h : Via := ⟨.pcie, 5⟩
    let s : State := { s with quo := { s.quo with owner := some h.ifc } }
    (HostOn s R.QUO_CTL.addr) ∧
      (s.quo.owner = some h.ifc) ∧
      (s.quo.full = false)) ∧
    (let s : State := w0
    let h : Via := ⟨.pcie, 5⟩
    let s : State := { s with quo := { s.quo with owner := some h.ifc, full := true } }
    (HostOn s R.QUO_CTL.addr) ∧
      (s.quo.owner = some h.ifc) ∧
      (s.quo.full = true)) ∧
    (let s : State := w0
    let s : State := { s with quo := { s.quo with owner := none } }
    (HostOn s R.QUO_CTL.addr) ∧
      (s.quo.owner = none)) ∧
    (let s : State := w0
    let t0 : Nat := 5
    let o : Ifc := .qspi
    let t0 : Nat := t0 + 256000000000
    let s : State := { s with quo := { s.quo with owner := some o, lastWrite := 5 } }
    (s.quo.owner = some o) ∧
      (s.quo.lastWrite + 256000000 * fget s F.QUO_TIMEOUT_MS ≤ clk (advance t0 s))) := by
  decide +kernel

theorem witness_ImpressionBoundary :
    (let s : State := w0
    (s.sys.running = true)) ∧
    (let s : State := w0
    let s : State := { s with sys := { s.sys with running := false } }
    (s.sys.running = false)) ∧
    (let s : State := w0
    let p : Fin 4 := 1
    let s : State := modPlt s p (fun x => { x with gap := true })
    (s.sys.running = true) ∧
      ((s.plt p).gap = true)) ∧
    (let s : State := w0
    let i : Ifc := .qspi
    let c : Fin 48 := 1
    let n : Nat := 5
    let n : Nat := n % 65536
    let s : State := { s with quo := { s.quo with pending := some i, skip := 0, implicit := [], staged := [⟨R.EDG_DT.at c, 0, 16, 0, n⟩] } }
    (s.sys.running = true) ∧
      (s.quo.pending = some i) ∧
      (s.quo.skip = 0) ∧
      (s.quo.implicit = []) ∧
      (s.quo.staged = [⟨R.EDG_DT.at c, 0, 16, 0, n⟩]) ∧
      (domainOn s 6 = true) ∧
      (n < 65536)) := by
  decide +kernel

theorem witness_StagedBankAndPublish_1 :
    (let s : State := w0
    let p : Fin 5 := 1
    let i : Fin 16384 := 1
    (HostOn s (0x850000 + 0x100000 * p + 4 * i)) ∧
      ((s.plt p).swapPending = false)) ∧
    (let s : State := w0
    let p : Fin 5 := 1
    let i : Fin 16384 := 1
    let s : State := modPlt s p (fun x => { x with swapPending := true })
    (HostOn s (0x850000 + 0x100000 * p + 4 * i)) ∧
      ((s.plt p).swapPending = true)) ∧
    (let s : State := w0
    let p : Fin 5 := 1
    let p0 : PltS := PltS.init
    let s : State := setPlt s p { p0 with stgBusy := true, stg := { p0.act with phasesM1 := 3 } }
    ((s.plt p).stgBusy = true)) ∧
    (let s : State := w0
    let p : Fin 4 := 1
    let s : State := modPlt s p (fun x => { x with running := true, ended := true })
    (domainOn s (2 + p) = true) ∧
      ((s.plt p).running = true) ∧
      ((s.plt p).ended = true ∨ (s.plt p).bare = true)) := by
  decide +kernel

theorem witness_StagedBankAndPublish_2 :
    (let s : State := w0
    let p : Fin 4 := 1
    let p0 : PltS := PltS.init
    let w : W64 := 9#64
    let s : State := setPlt s p { p0 with running := true, ended := true, mask := -1#64, sched := -1#64, act := { p0.act with pub := [(0, (w &&& 0xFFFFFFFF3F08001F#64) ||| 0x80300000#64)] } }
    (domainOn s (2 + p) = true) ∧
      ((s.plt p).running = true) ∧
      ((s.plt p).ended = true ∨ (s.plt p).bare = true) ∧
      (∀ k : Fin 32, k ≠ 0 → (descOf (SMap.get (fun _ => (0#64 : W64)) (s.plt p).act.pub k)).en = false) ∧
      ((descOf (SMap.get (fun _ => (0#64 : W64)) (s.plt p).act.pub 0)).en = true) ∧
      ((descOf (SMap.get (fun _ => (0#64 : W64)) (s.plt p).act.pub 0)).ty = 3) ∧
      ((descOf (SMap.get (fun _ => (0#64 : W64)) (s.plt p).act.pub 0)).cnt = 1) ∧
      ((descOf (SMap.get (fun _ => (0#64 : W64)) (s.plt p).act.pub 0)).y = false) ∧
      (secOn s p (descOf (SMap.get (fun _ => (0#64 : W64)) (s.plt p).act.pub 0)).sec = true)) := by
  decide +kernel

theorem witness_SortsMultiply_1 :
    (let s : State := w0
    let a : Srt := ⟨1, 2, 0, 1, 0, 3, 4, 5, []⟩
    let p0 : PltS := PltS.init
    let a : Srt := { a with md := (a.md &&& 12#4) ||| 0#4 }
    let s : State := setPlt s a.plt (seqAt 0x01 a p0)
    (Issued 0x01 a s) ∧
      (a.md.toNat % 4 = 0)) ∧
    (let s : State := w0
    let a : Srt := ⟨1, 2, 0, 1, 0, 3, 4, 5, []⟩
    let p0 : PltS := PltS.init
    let a : Srt := { a with md := (a.md &&& 12#4) ||| 1#4 }
    let s : State := setPlt s a.plt (seqAt 0x01 a p0)
    (Issued 0x01 a s) ∧
      (a.md.toNat % 4 = 1)) ∧
    (let s : State := w0
    let a : Srt := ⟨1, 2, 0, 1, 0, 3, 4, 5, []⟩
    let p0 : PltS := PltS.init
    let a : Srt := { a with md := (a.md &&& 12#4) ||| 2#4 }
    let s : State := setPlt s a.plt (seqAt 0x01 a p0)
    (Issued 0x01 a s) ∧
      (a.md.toNat % 4 = 2)) ∧
    (let s : State := w0
    let a : Srt := ⟨1, 2, 0, 1, 0, 3, 4, 5, []⟩
    let p0 : PltS := PltS.init
    let s : State := setPlt s a.plt (seqAt 1 { a with md := a.md ||| 3#4 } p0)
    (Issued 1 { a with md := a.md ||| 3#4 } s)) := by
  decide +kernel

theorem witness_SortsMultiply_2 :
    (let s : State := w0
    let a : Srt := ⟨1, 2, 0, 1, 0, 3, 4, 5, []⟩
    let p0 : PltS := PltS.init
    let a : Srt := { a with md := 0#4 }
    let s : State := setPlt s a.plt (seqAt 9 a p0)
    (Issued 9 a s)) ∧
    (let s : State := w0
    let a : Srt := ⟨1, 2, 0, 1, 0, 3, 4, 5, []⟩
    let p0 : PltS := PltS.init
    let a : Srt := { a with md := a.md &&& 7#4 }
    let s : State := setPlt s a.plt (seqAt 0xB a p0)
    (Issued 0xB a s)) := by
  decide +kernel

theorem witness_SortsAccumulate_1 :
    (let s : State := w0
    let a : Srt := ⟨1, 2, 0, 1, 0, 3, 4, 5, []⟩
    let p0 : PltS := PltS.init
    let s : State := setPlt s a.plt (seqAt 0x02 a p0)
    (Issued 0x02 a s)) ∧
    (let s : State := w0
    let a : Srt := ⟨1, 2, 0, 1, 0, 3, 4, 5, []⟩
    let p0 : PltS := PltS.init
    let s : State := setPlt s a.plt (seqAt 0x03 a p0)
    (Issued 0x03 a s)) ∧
    (let s : State := w0
    let a : Srt := ⟨1, 2, 0, 1, 0, 3, 4, 5, []⟩
    let p0 : PltS := PltS.init
    let s : State := setPlt s a.plt (seqAt 0x04 a p0)
    (Issued 0x04 a s)) ∧
    (let s : State := w0
    let a : Srt := ⟨1, 2, 0, 1, 0, 3, 4, 5, []⟩
    let p0 : PltS := PltS.init
    let a : Srt := { a with md := 0#4 }
    let s : State := setPlt s a.plt (seqAt 0x05 a p0)
    (Issued 0x05 a s)) := by
  decide +kernel

theorem witness_SortsAccumulate_2 :
    (let s : State := w0
    let a : Srt := ⟨1, 2, 0, 1, 0, 3, 4, 5, []⟩
    let p0 : PltS := PltS.init
    let s : State := setPlt s a.plt (seqAt 0x06 ({ a with md := 0#4 }) p0)
    (Issued 0x06 ({ a with md := 0#4 }) s)) ∧
    (let s : State := w0
    let a : Srt := ⟨1, 2, 0, 1, 0, 3, 4, 5, []⟩
    let p0 : PltS := PltS.init
    let s : State := setPlt s a.plt (seqAt 0x06 ({ a with md := 1#4 }) p0)
    (Issued 0x06 ({ a with md := 1#4 }) s)) ∧
    (let s : State := w0
    let a : Srt := ⟨1, 2, 0, 1, 0, 3, 4, 5, []⟩
    let p0 : PltS := PltS.init
    let s : State := setPlt s a.plt (seqAt 0x06 ({ a with md := 2#4 }) p0)
    (Issued 0x06 ({ a with md := 2#4 }) s)) ∧
    (let s : State := w0
    let a : Srt := ⟨1, 2, 0, 1, 0, 3, 4, 5, []⟩
    let p0 : PltS := PltS.init
    let s : State := setPlt s a.plt (seqAt 0x06 ({ a with md := 3#4 }) p0)
    (Issued 0x06 ({ a with md := 3#4 }) s)) := by
  decide +kernel

theorem witness_SortsAccumulate_3 :
    (let s : State := w0
    let a : Srt := ⟨1, 2, 0, 1, 0, 3, 4, 5, []⟩
    let p0 : PltS := PltS.init
    let s : State := setPlt s a.plt (seqAt 0x07 a p0)
    (Issued 0x07 a s)) ∧
    (let s : State := w0
    let a : Srt := ⟨1, 2, 0, 1, 0, 3, 4, 5, []⟩
    let p0 : PltS := PltS.init
    let s : State := setPlt s a.plt (seqAt 0x08 a p0)
    (Issued 0x08 a s)) ∧
    (let s : State := w0
    let a : Srt := ⟨1, 2, 0, 1, 0, 3, 4, 5, []⟩
    let p0 : PltS := PltS.init
    let s : State := setPlt s a.plt (seqAt 0x0A a p0)
    (Issued 0x0A a s)) ∧
    (let s : State := w0
    let a : Srt := ⟨1, 2, 0, 1, 0, 3, 4, 5, []⟩
    let p0 : PltS := PltS.init
    let s : State := setPlt s a.plt (seqAt 0x0C a p0)
    (Issued 0x0C a s)) := by
  decide +kernel

theorem witness_SortsAccumulate_4 :
    (let s : State := w0
    let a : Srt := ⟨1, 2, 0, 1, 0, 3, 4, 5, []⟩
    let p0 : PltS := PltS.init
    let a : Srt := { a with md := a.md &&& 1#4 }
    let s : State := setPlt s a.plt (seqAt 0x17 a p0)
    (Issued 0x17 a s)) ∧
    (let s : State := w0
    let a : Srt := ⟨1, 2, 0, 1, 0, 3, 4, 5, []⟩
    let p0 : PltS := PltS.init
    let s : State := setPlt s a.plt (seqAt 0x16 ({ a with md := 2#4 }) p0)
    (Issued 0x16 ({ a with md := 2#4 }) s)) := by
  decide +kernel

theorem witness_SortsStore_1 :
    (let s : State := w0
    let a : Srt := ⟨1, 2, 0, 1, 0, 3, 4, 5, []⟩
    let p0 : PltS := PltS.init
    let s : State := setPlt s a.plt (seqAt 0x0E a p0)
    (Issued 0x0E a s)) ∧
    (let s : State := w0
    let a : Srt := ⟨1, 2, 0, 1, 0, 3, 4, 5, []⟩
    let p0 : PltS := PltS.init
    let s : State := setPlt s a.plt (seqAt 0x0F a p0)
    (Issued 0x0F a s)) ∧
    (let s : State := w0
    let a : Srt := ⟨1, 2, 0, 1, 0, 3, 4, 5, []⟩
    let p0 : PltS := PltS.init
    let s : State := setPlt s a.plt (seqAt 0x10 a p0)
    (Issued 0x10 a s)) ∧
    (let s : State := w0
    let a : Srt := ⟨1, 2, 0, 1, 0, 3, 4, 5, []⟩
    let p0 : PltS := PltS.init
    let a : Srt := { a with md := 0#4 }
    let s : State := setPlt s a.plt (seqAt 0x0D a p0)
    (Issued 0x0D a s)) := by
  decide +kernel

theorem witness_SortsStore_2 :
    (let s : State := w0
    let a : Srt := ⟨1, 2, 0, 1, 0, 3, 4, 5, []⟩
    let p0 : PltS := PltS.init
    let a : Srt := { a with md := 0#4 }
    let s : State := setPlt s a.plt (seqAt 0x11 a p0)
    (Issued 0x11 a s) ∧
      (a.md.toNat % 4 = 0)) ∧
    (let s : State := w0
    let a : Srt := ⟨1, 2, 0, 1, 0, 3, 4, 5, []⟩
    let p0 : PltS := PltS.init
    let a : Srt := { a with md := 1#4 }
    let s : State := setPlt s a.plt (seqAt 0x11 a p0)
    (Issued 0x11 a s) ∧
      (a.md.toNat % 4 = 1)) ∧
    (let s : State := w0
    let a : Srt := ⟨1, 2, 0, 1, 0, 3, 4, 5, []⟩
    let p0 : PltS := PltS.init
    let a : Srt := { a with md := 2#4 }
    let s : State := setPlt s a.plt (seqAt 0x11 a p0)
    (Issued 0x11 a s) ∧
      (a.md.toNat % 4 = 2)) ∧
    (let s : State := w0
    let a : Srt := ⟨1, 2, 0, 1, 0, 3, 4, 5, []⟩
    let p0 : PltS := PltS.init
    let a : Srt := { a with md := 3#4 }
    let s : State := setPlt s a.plt (seqAt 0x11 a p0)
    (Issued 0x11 a s) ∧
      (a.md.toNat % 4 = 3)) := by
  decide +kernel

theorem witness_SortsStore_3 :
    (let s : State := w0
    let a : Srt := ⟨1, 2, 0, 1, 0, 3, 4, 5, []⟩
    let p0 : PltS := PltS.init
    let a : Srt := { a with md := a.md &&& 7#4, xf := a.xf &&& 0xBFFF#16, yf := a.yf &&& 0xBFFF#16 }
    let s : State := setPlt s a.plt (seqAt 0x12 (a) p0)
    (Issued 0x12 (a) s)) ∧
    (let s : State := w0
    let a : Srt := ⟨1, 2, 0, 1, 0, 3, 4, 5, []⟩
    let p0 : PltS := PltS.init
    let a : Srt := { a with md := a.md &&& 7#4, xf := a.xf &&& 0xBFFF#16, yf := a.yf &&& 0xBFFF#16 }
    let s : State := setPlt s a.plt (seqAt 0x13 ({ a with md := a.md &&& 7#4 }) p0)
    (Issued 0x13 ({ a with md := a.md &&& 7#4 }) s)) ∧
    (let s : State := w0
    let a : Srt := ⟨1, 2, 0, 1, 0, 3, 4, 5, []⟩
    let p0 : PltS := PltS.init
    let a : Srt := { a with md := a.md &&& 7#4, xf := a.xf &&& 0xBFFF#16, yf := a.yf &&& 0xBFFF#16 }
    let s : State := setPlt s a.plt (seqAt 0x13 ({ a with md := a.md ||| 8#4 }) p0)
    (Issued 0x13 ({ a with md := a.md ||| 8#4 }) s)) ∧
    (let s : State := w0
    let a : Srt := ⟨1, 2, 0, 1, 0, 3, 4, 5, []⟩
    let p0 : PltS := PltS.init
    let a : Srt := { a with xf := if a.xf.getLsbD 3 then 0x8000#16 ||| (a.xf &&& 0x3FFF#16) else a.xf, yf := if a.yf.getLsbD 3 then 0x8000#16 ||| (a.yf &&& 0x3FFF#16) else a.yf }
    let s : State := setPlt s a.plt (seqAt 1 { a with md := a.md ||| 3#4 } p0)
    (Issued 1 { a with md := a.md ||| 3#4 } s)) := by
  decide +kernel

theorem witness_SortsStore_4 :
    (let s : State := w0
    let a : Srt := ⟨1, 2, 0, 1, 0, 3, 4, 5, []⟩
    let p0 : PltS := PltS.init
    let a : Srt := { a with xf := if a.xf.getLsbD 3 then 0x8000#16 ||| (a.xf &&& 0x3FFF#16) else a.xf, yf := if a.yf.getLsbD 3 then 0x8000#16 ||| (a.yf &&& 0x3FFF#16) else a.yf }
    let a : Srt := { a with md := BitVec.ofNat 4 (a.md.toNat % 3) }
    let s : State := setPlt s a.plt (seqAt 0x02 a p0)
    (Issued 0x02 a s)) ∧
    (let s : State := w0
    let a : Srt := ⟨1, 2, 0, 1, 0, 3, 4, 5, []⟩
    let p0 : PltS := PltS.init
    let a : Srt := { a with xf := if a.xf.getLsbD 3 then 0x8000#16 ||| (a.xf &&& 0x3FFF#16) else a.xf, yf := if a.yf.getLsbD 3 then 0x8000#16 ||| (a.yf &&& 0x3FFF#16) else a.yf }
    let a : Srt := { a with md := 0#4 }
    let s : State := setPlt s a.plt (seqAt 9 a p0)
    (Issued 9 a s)) ∧
    (let s : State := w0
    let a : Srt := ⟨1, 2, 0, 1, 0, 3, 4, 5, []⟩
    let p0 : PltS := PltS.init
    let a : Srt := { a with xf := if a.xf.getLsbD 3 then 0x8000#16 ||| (a.xf &&& 0x3FFF#16) else a.xf, yf := if a.yf.getLsbD 3 then 0x8000#16 ||| (a.yf &&& 0x3FFF#16) else a.yf }
    let s : State := setPlt s a.plt (seqAt 0x10 a p0)
    (Issued 0x10 a s)) ∧
    (let s : State := w0
    let a : Srt := ⟨1, 2, 0, 1, 0, 3, 4, 5, []⟩
    let p0 : PltS := PltS.init
    let a : Srt := { a with xf := if a.xf.getLsbD 3 then 0x8000#16 ||| (a.xf &&& 0x3FFF#16) else a.xf, yf := if a.yf.getLsbD 3 then 0x8000#16 ||| (a.yf &&& 0x3FFF#16) else a.yf }
    let a : Srt := { a with md := a.md &&& 3#4 }
    let s : State := setPlt s a.plt (seqAt 0x11 a p0)
    (Issued 0x11 a s)) := by
  decide +kernel

theorem witness_SortsControl_1 :
    (let s : State := w0
    let a : Srt := ⟨1, 2, 0, 1, 0, 3, 4, 5, []⟩
    let p0 : PltS := PltS.init
    let s : State := setPlt s a.plt ((seqAt 0x00 a p0))
    (Issued 0x00 a s)) ∧
    (let s : State := w0
    let a : Srt := ⟨1, 2, 0, 1, 0, 3, 4, 5, []⟩
    let p0 : PltS := PltS.init
    let a : Srt := { a with md := 0#4, idx := BitVec.ofNat 13 (a.idx.toNat % 16), xf := a.xf &&& 0xF01F#16 }
    let s : State := setPlt s a.plt (putNext a (seqAt 0x14 a p0))
    (Issued 0x14 a s) ∧
      (a.idx.toNat < 8191) ∧
      ((decodeSort a.plt (a.idx + 1) [] (SMap.get endWord (s.plt a.plt).act.sorts (a.idx.toNat + 1))).1 ∉ [0x14, 0x15, 0x3F])) ∧
    (let s : State := w0
    let a : Srt := ⟨1, 2, 0, 1, 0, 3, 4, 5, []⟩
    let p0 : PltS := PltS.init
    let a : Srt := { a with md := a.md &&& 7#4, idx := BitVec.ofNat 13 (a.idx.toNat % 16), xf := a.xf &&& 0xF01F#16 }
    let s : State := setPlt s a.plt ((seqAt 0x15 a p0))
    (Issued 0x15 a s) ∧
      (a.idx.toNat + a.md.toNat % 8 + 1 ≤ 8191)) ∧
    (let s : State := w0
    let a : Srt := ⟨1, 2, 0, 1, 0, 3, 4, 5, []⟩
    let p0 : PltS := PltS.init
    let a : Srt := { a with md := 0#4, idx := 8191#13 }
    let s : State := setPlt s a.plt (seqAt 0x14 a p0)
    (Issued 0x14 a s) ∧
      (a.idx.toNat = 8191)) := by
  decide +kernel

theorem witness_SortsControl_2 :
    (let s : State := w0
    let a : Srt := ⟨1, 2, 0, 1, 0, 3, 4, 5, []⟩
    let p0 : PltS := PltS.init
    let a : Srt := { a with md := a.md &&& 7#4, idx := BitVec.ofNat 13 (8191 - a.idx.toNat % (a.md.toNat % 8 + 1)), xf := a.xf &&& 0xF01F#16 }
    let s : State := setPlt s a.plt ((seqAt 0x15 a p0))
    (Issued 0x15 a s) ∧
      (8191 < a.idx.toNat + a.md.toNat % 8 + 1)) ∧
    (let s : State := w0
    let a : Srt := ⟨1, 2, 0, 1, 0, 3, 4, 5, []⟩
    let p0 : PltS := PltS.init
    let s : State := setPlt s a.plt ((seqAt 0x18 a p0))
    let a : Srt := { a with md := 4#4 }
    let s := setPlt s a.plt (seqAt 0x18 a p0)
    (Issued 0x18 a s) ∧
      (a.xf.getLsbD 8 = true ∨ condHolds a s = true)) ∧
    (let s : State := w0
    let a : Srt := ⟨1, 2, 0, 1, 0, 3, 4, 5, []⟩
    let p0 : PltS := PltS.init
    let s : State := setPlt s a.plt ((seqAt 0x18 a p0))
    (Issued 0x18 a s) ∧
      (a.xf.getLsbD 8 = false) ∧
      (condHolds a s = false)) ∧
    (let s : State := w0
    let a : Srt := ⟨1, 2, 0, 1, 0, 3, 4, 5, []⟩
    let p0 : PltS := PltS.init
    let s : State := setPlt s a.plt ((seqAt 0x16 { a with md := 0#4 } p0))
    (Issued 0x16 { a with md := 0#4 } s)) := by
  decide +kernel

theorem witness_SortsControl_3 :
    (let s : State := w0
    let a : Srt := ⟨1, 2, 0, 1, 0, 3, 4, 5, []⟩
    let p0 : PltS := PltS.init
    let s : State := setPlt s a.plt ((seqAt 0x16 { a with md := 1#4 } p0))
    (Issued 0x16 { a with md := 1#4 } s)) ∧
    (let s : State := w0
    let a : Srt := ⟨1, 2, 0, 1, 0, 3, 4, 5, []⟩
    let p0 : PltS := PltS.init
    let s : State := setPlt s a.plt ((seqAt 0x16 { a with md := 3#4 } p0))
    (Issued 0x16 { a with md := 3#4 } s)) ∧
    (let s : State := w0
    let a : Srt := ⟨1, 2, 0, 1, 0, 3, 4, 5, []⟩
    let p0 : PltS := PltS.init
    let s : State := setPlt s a.plt ((seqAt 0x3F a p0))
    (seqLive s a.plt = true) ∧
      (nextSort s a.plt = a.idx.toNat) ∧
      (sortOp (SMap.get endWord (s.plt a.plt).act.sorts a.idx.toNat) = 0x3F)) ∧
    (let s : State := w0
    let a : Srt := ⟨1, 2, 0, 1, 0, 3, 4, 5, []⟩
    let k : Fin 20 := 1
    let p0 : PltS := PltS.init
    let s : State := setPlt s a.plt ((seqAt (plainSorts.getD k (0, Instr.sortNop)).1 a p0))
    let a : Srt := { a with md := 15#4 }
    let k : Fin 20 := 2
    let s := setPlt s a.plt (seqAt (plainSorts.getD k (0, Instr.sortNop)).1 a p0)
    (a.errs = []) ∧
      (isNext (plainSorts.getD k (0, Instr.sortNop)).1 a s = true) ∧
      (sortNotUsed (plainSorts.getD k (0, Instr.sortNop)).1 a = true)) := by
  decide +kernel

theorem witness_SortsControl_4 :
    (let s : State := w0
    let a : Srt := ⟨1, 2, 0, 1, 0, 3, 4, 5, []⟩
    let p0 : PltS := PltS.init
    let a : Srt := { a with md := 15#4 }
    let k := if a.idx.toNat % 2 = 0 then 0x06 else 0x16 + a.xf.toNat % 32
    let s : State := setPlt s a.plt (seqAt k a p0)
    let w : W64 := SMap.get endWord (s.plt a.plt).act.sorts a.idx.toNat
    (a.errs = []) ∧
      (seqLive s a.plt = true) ∧
      (nextSort s a.plt = a.idx.toNat) ∧
      (SMap.get endWord (s.plt a.plt).act.sorts a.idx.toNat = w) ∧
      (sortNotUsed (decodeSort a.plt a.idx [] w).1 (decodeSort a.plt a.idx [] w).2 = true) ∧
      ((decodeSort a.plt a.idx [] w).1 ∉ [0x14, 0x15, 0x3F])) ∧
    (let s : State := w0
    let a : Srt := ⟨1, 2, 0, 1, 0, 3, 4, 5, []⟩
    let k : Fin 20 := 1
    let p0 : PltS := PltS.init
    let a : Srt := { a with md := a.md &&& 1#4 }
    let s : State := setPlt s a.plt ({ seqAt (plainSorts.getD k (0, Instr.sortNop)).1 a p0 with mask := 0#64 })
    (a.errs = []) ∧
      (isNext (plainSorts.getD k (0, Instr.sortNop)).1 a s = true) ∧
      (sortNotUsed (plainSorts.getD k (0, Instr.sortNop)).1 a = false) ∧
      (secOn s a.plt a.sec.toNat = false)) ∧
    (let s : State := w0
    let a : Srt := ⟨1, 2, 0, 1, 0, 3, 4, 5, []⟩
    let k : Fin 20 := 1
    let p0 : PltS := PltS.init
    let a : Srt := { a with errs := [⟨a.plt, sortOff a.idx.toNat, .multi⟩] }
    let s : State := setPlt s a.plt ((seqAt (plainSorts.getD k (0, Instr.sortNop)).1 a p0))
    (a.errs = [⟨a.plt, sortOff a.idx.toNat, .multi⟩]) ∧
      (isNext (plainSorts.getD k (0, Instr.sortNop)).1 a s = true)) ∧
    (let s : State := w0
    let a : Srt := ⟨1, 2, 0, 1, 0, 3, 4, 5, []⟩
    let k : Fin 20 := 1
    let p0 : PltS := PltS.init
    let s : State := setPlt s a.plt p0
    (k ≠ 0) ∧
      (isNext (plainSorts.getD k (0, Instr.sortNop)).1 a s = false)) := by
  decide +kernel

theorem witness_CurrentInputs_1 :
    (let s : State := w0
    let c : Fin 48 := 1
    let p : Fin 3 := 1
    let s : State := fset (fset (fset (fset s F.SDM_CFG_EN 1 c) F.SDM_CFG_OSR2 4 c) F.SDM_GAIN_GAIN 0x400000 c p) F.SDM_OFS_OFS 0 c p
    let s : State := fset (fset (fset (fset s F.SDM_OC_TH_TRIP 10 c) F.SDM_OC_CNT_TRIP 2 c) F.SDM_OC_TH_WARN 10 c) F.SDM_OC_CNT_WARN 3 c
    let bits : List Bool := List.replicate 20 true
    (sdmLive s c = true) ∧
      (tripRun s c p true bits = true)) ∧
    (let s : State := w0
    let c : Fin 48 := 1
    let p : Fin 3 := 1
    let s : State := fset (fset (fset (fset s F.SDM_CFG_EN 1 c) F.SDM_CFG_OSR2 4 c) F.SDM_GAIN_GAIN 0 c p) F.SDM_OFS_OFS 0 c p
    let s : State := fset (fset (fset (fset s F.SDM_OC_TH_TRIP 10 c) F.SDM_OC_CNT_TRIP 2 c) F.SDM_OC_TH_WARN 10 c) F.SDM_OC_CNT_WARN 3 c
    let bits : List Bool := List.replicate 20 true
    (sdmLive s c = true) ∧
      (tripRun s c p false bits = true)) ∧
    (let s : State := w0
    let c : Fin 48 := 1
    let p : Fin 3 := 1
    let s : State := fset (fset (fset (fset s F.SDM_CFG_EN 1 c) F.SDM_CFG_OSR2 4 c) F.SDM_GAIN_GAIN 0x400000 c p) F.SDM_OFS_OFS 0 c p
    let s : State := fset (fset (fset (fset s F.SDM_OC_TH_TRIP 10 c) F.SDM_OC_CNT_TRIP 2 c) F.SDM_OC_TH_WARN 10 c) F.SDM_OC_CNT_WARN 3 c
    let bits : List Bool := List.replicate 20 true
    let s : State := fsetBit s F.SDM_STATUS_WARN_LIVE p false c
    (sdmLive s c = true) ∧
      (fbit s F.SDM_STATUS_WARN_LIVE p c = false) ∧
      (warnRun s c p true bits = true)) ∧
    (let s : State := w0
    let c : Fin 48 := 1
    let p : Fin 3 := 1
    let s : State := fset (fset (fset (fset s F.SDM_CFG_EN 1 c) F.SDM_CFG_OSR2 4 c) F.SDM_GAIN_GAIN 0 c p) F.SDM_OFS_OFS 0 c p
    let s : State := fset (fset (fset (fset s F.SDM_OC_TH_TRIP 10 c) F.SDM_OC_CNT_TRIP 2 c) F.SDM_OC_TH_WARN 10 c) F.SDM_OC_CNT_WARN 3 c
    let bits : List Bool := List.replicate 20 true
    (sdmLive s c = true) ∧
      (warnRun s c p false bits = true)) := by
  decide +kernel

theorem witness_CurrentInputs_2 :
    (let s : State := w0
    let c : Fin 48 := 1
    let p : Fin 3 := 1
    let s : State := fset s F.SDM_CFG_EN 1 c
    let bits : List Bool := List.replicate 129 false
    (sdmLive s c = true) ∧
      ((nget s.stuck c).testBit p = false) ∧
      (isStuck bits = true)) ∧
    (let s : State := w0
    let c : Fin 48 := 1
    let b1 : Bool := true
    let s : State := fset s F.SDM_CFG_EN 1 c
    let b2 : Bool := !b1
    (sdmLive s c = true) ∧
      (b1 ≠ b2)) ∧
    (let s : State := w0
    let t0 : Nat := 5
    let c : Fin 48 := 1
    (domainOn s 7 = true) ∧
      (nget s.settle c + settleTime s c ≤ clk (advance t0 s) + 1)) ∧
    (let s : State := w0
    let t0 : Nat := 5
    let s : State := fset s F.SDM_AIN_CFG_EN 1 (t0 % 16)
    let t0 : Nat := 256000 * (2000 + t0 % 100)
    (domainOn s 7 = true) ∧
      (lns (advance t0 s) % 1000 = 0)) := by
  decide +kernel

theorem witness_CurrentInputs_3 :
    (let s : State := w0
    let t0 : Nat := 5
    let k : Fin 16 := 1
    let b : Nat := 5
    let b : Nat := b % 1000
    let s : State := { s with ain := [(k.val, ⟨3, 9, 2, some b⟩)] }
    (domainOn s 7 = true) ∧
      ((SMap.get (fun _ => AinS.init) s.ain k).conv = some b) ∧
      (b + 230400 ≤ clk (advance t0 s))) := by
  decide +kernel

theorem witness_EdgeReloadsAndCompares_1 :
    (let s : State := w0
    let c : Fin 48 := 1
    let s : State := fset (fset s F.EDG_CH_LOCK_K 1 c) F.EDG_CH_LOCK_M 1 c
    let s : State := modCh s c (fun x => { x with lock := some (s.sys.imp - 5), q := 5 })
    (domainOn s 6 = true) ∧
      (lockNow s c = some ((s.ch c).q / lockK s c))) ∧
    (let s : State := w0
    let t0 : Nat := 5
    let c : Fin 48 := 1
    let j : Fin 12 := 1
    let s : State := fset (fset (modCh s c (fun x => { x with active := [640, 1280, 700, 1300, 800, 1400, 0, 1280, 0, 900, 50, 100], q := 5 })) F.EDG_DT_MINPW (t0 % 10) c) F.SYS_IMP_CFG_PERIOD 5000
    (domainOn s 6 = true) ∧
      (compareReached s c j = true) ∧
      ((s.ch c).active[j.val]? ≠ (s.ch c).active[opposite j]?) ∧
      (∀ d, undoAfter (advance t0 s) c j = some d → 64 * fget s F.EDG_DT_MINPW c ≤ d)) ∧
    (let s : State := w0
    let t0 : Nat := 5
    let c : Fin 48 := 1
    let o : Fin 6 := 1
    let s : State := { s with sys := { s.sys with st := .run }, pins := { s.pins with funcs := (List.range 288).map (fun k => (0x01 * 1024 + k, true)), ownOut := true } }
    let s : State := fset (fset (fset (fset s F.EDG_TCFG_MSRC 0 c) F.PAR_STATUS_OWNER 1) F.SAF_BRAKE_STO_ASSERTED 0) F.PAR_CFG_MODE 0
    let s : State := fset (fset (fset (fset s F.EDG_XLATCH_LATCH 0) F.EDG_TCFG_OC_EN 0 c) F.SAF_STATE_STATE 4) F.EDG_TCFG_GROUP 0 c
    let s : State := fset (fset (fset (fset s F.EDG_STATUS_CAL_VALID 1) F.EDG_CST_NOSET 0 c) F.SDM_CFG_PLATEN 7 c) F.EDG_TCFG_STOG 0 c
    let s : State := modCh s c (fun x => { x with entry := maskNow s c, want := 2 ^ o.val, lvl := 2 ^ o.val, hold := false, blk := 0 })
    (domainOn s 6 = true) ∧
      (wanted s c o = true) ∧
      (wanted s c (partner o) = false) ∧
      ((s.ch c).want = 2 ^ o.val) ∧
      ((s.ch c).drv = 0) ∧
      ((s.ch c).entry = maskNow s c) ∧
      (maskIndex s c = (s.ch c).mpend.getD (s.ch c).midx) ∧
      (nget (s.ch c).offAt (partner o) = 0 ∨ nget (s.ch c).offAt (partner o) - 1 + 10 * fget s F.EDG_DT_DTIME c ≤ clk (advance t0 s)) ∧
      (forced s c = false)) ∧
    (let s : State := w0
    let t0 : Nat := 5
    let c : Fin 48 := 1
    let i : Nat := 5
    let s : State := fset s F.EDG_TCFG_MSRC 2 c
    let i : Nat := i % 8
    let s : State := { s with segOut := [(c.val, i)] }
    let s : State := modCh s c (fun x => { x with mpend := some i })
    (domainOn s 6 = true) ∧
      ((s.ch c).mpend = some i) ∧
      ((s.ch c).mAt + 5120 * fget s F.EDG_MDLY_DLY c ≤ clk (advance t0 s)) ∧
      (maskIndex s c = i)) := by
  decide +kernel

theorem witness_EdgeReloadsAndCompares_2 :
    (let s : State := w0
    let c : Fin 48 := 1
    let s : State := fset s F.SDM_CFG_PLATEN 7 c
    (HostOn s (R.EDG_SHD_GO.at c)) ∧
      (fget s F.SDM_CFG_PLATEN c = 7)) ∧
    (let s : State := w0
    let c : Fin 48 := 1
    let s : State := fset s F.SDM_CFG_PLATEN 1 c
    (HostOn s (R.EDG_SHD_GO.at c)) ∧
      (fget s F.SDM_CFG_PLATEN c ≠ 7)) := by
  decide +kernel

theorem witness_EdgeTripsAndTimers_1 :
    (let s : State := w0
    (domainOn s 6 = true)) ∧
    (let s : State := w0
    let a : Fin 16 := 1
    let on : Bool := true
    let s : State := { (fset (fset (fset s F.EDG_AUX_EN 1 a) F.EDG_AUX_CH 3 a) F.SYS_IMP_CFG_PERIOD 500) with aux := [(a.val, ⟨1, 2, false⟩)] }
    let s : State := modCh s 3 (fun x => { x with q := 4 })
    (domainOn s 6 = true) ∧
      (flag s F.EDG_AUX_EN a = true) ∧
      ((SMap.get (fun _ => AuxS.init) s.aux a).wait = false) ∧
      (¬ (on = true ∧ (SMap.get (fun _ => AuxS.init) s.aux a).on = (SMap.get (fun _ => AuxS.init) s.aux a).off)) ∧
      (auxWithin s (fget s F.EDG_AUX_CH a) (if on then (SMap.get (fun _ => AuxS.init) s.aux a).on else (SMap.get (fun _ => AuxS.init) s.aux a).off) = true)) ∧
    (let s : State := w0
    let x : Fin 24 := 1
    let s : State := { (fset s F.EDG_TRIPX_EN 1 x) with pins := { s.pins with funcs := [(7 * 1024 + x.val, true)] } }
    (domainOn s 6 = true) ∧
      (flag s F.EDG_TRIPX_EN x = true) ∧
      (hasBall s 7 x = true)) ∧
    (let s : State := w0
    (domainOn s 6 = true)) := by
  decide +kernel

theorem witness_EdgeTripsAndTimers_2 :
    (let s : State := w0
    let h : Via := ⟨.pcie, 5⟩
    let x : Fin 24 := 1
    let s : State := fsetBit s F.EDG_XLIVE_LIVE x false
    (HostOn s R.EDG_XLATCH.addr) ∧
      (fbit s F.EDG_XLIVE_LIVE x = false) ∧
      ((justSet (advance h.t s) R.EDG_XLATCH.addr).getLsbD x = false)) ∧
    (let s : State := w0
    let x : Fin 24 := 1
    let s : State := fsetBit s F.EDG_XLIVE_LIVE x true
    (HostOn s R.EDG_XLATCH.addr) ∧
      (fbit s F.EDG_XLIVE_LIVE x = true)) ∧
    (let s : State := w0
    let h : Via := ⟨.pcie, 5⟩
    let c : Fin 48 := 1
    let p : Fin 3 := 1
    let s : State := fsetBit s F.SDM_STATUS_OCT p false c
    (HostOn s (R.EDG_TLATCH.at c)) ∧
      (fbit s F.SDM_STATUS_OCT p c = false) ∧
      ((justSet (advance h.t s) (R.EDG_TLATCH.at c)).getLsbD (F.EDG_TLATCH_OC.lsb + p) = false)) ∧
    (let s : State := w0
    let c : Fin 48 := 1
    let p : Fin 3 := 1
    let s : State := fsetBit s F.SDM_STATUS_OCT p true c
    (HostOn s (R.EDG_TLATCH.at c)) ∧
      (fbit s F.SDM_STATUS_OCT p c = true)) := by
  decide +kernel

theorem witness_BoundarySteps_1 :
    (let s : State := w0
    let t0 : Nat := 5
    let m : Fin 64 := 1
    let e : Fin 8 := 1
    let v : MmEvent := ⟨1, 2, 3, 4⟩
    let q : Fin 16 := 1
    let n : Nat := 5
    let w : Word := 5#32
    let v : MmEvent := { v with at_ := v.at_ % 1000000, block := v.block % 26 }
    let n : Nat := n % 3
    let s : State := { s with mmq := [v, { v with code := v.code + 1 }, { v with at_ := 2 ^ 200 }], quo := { s.quo with pending := none, implicit := [] } }
    let s : State := setTabWord m (e + 1) (BitVec.ofNat 32 (v.code % 256 + 256 * (v.inst % 256) + 65536 * v.block + 2147483648)) (setTabWord m (1 + (e + 1) % 8) (BitVec.ofNat 32 ((v.code + n) % 256 + 256 * (v.inst % 256) + 65536 * v.block + 2147483648)) (setTabWord m 0 16#32 s))
    let s : State := setMm s m { s.mm m with st := q.val, dead := 0 }
    let s : State := setTabWord m (9 + 2 * q.val) (w ||| 0x80808080#32) (setTabWord m (10 + 2 * q.val) (w ||| 0x80808080#32) s)
    (s.sys.running = true) ∧
      (s.quo.pending = none) ∧
      (s.quo.implicit = []) ∧
      ((s.mm m).st < mmStates s m) ∧
      (MmPends s (max s.tim.acc (t0 * 2 ^ 18) / 2 ^ 26) m e) ∧
      (∀ k : Fin 8, k.val < e.val → ¬ MmPends s (max s.tim.acc (t0 * 2 ^ 18) / 2 ^ 26) m k)) := by
  decide +kernel

theorem witness_BoundarySteps_2 :
    (let s : State := w0
    let t0 : Nat := 5
    let m : Fin 64 := 1
    let v : MmEvent := ⟨1, 2, 3, 4⟩
    let s : State := { s with mmq := [v, { v with at_ := 2 ^ 200 }], quo := { s.quo with pending := none, implicit := [] } }
    let s : State := setMm (setTabWord m 0 16#32 s) m { (setTabWord m 0 16#32 s).mm m with st := 3, dead := 0 }
    (s.sys.running = true) ∧
      (s.quo.pending = none) ∧
      (s.quo.implicit = []) ∧
      ((s.mm m).st < mmStates s m) ∧
      (∀ k : Fin 8, ¬ MmPends s (max s.tim.acc (t0 * 2 ^ 18) / 2 ^ 26) m k)) := by
  decide +kernel

theorem witness_BoundarySteps_3 :
    (let s : State := w0
    let p : Fin 4 := 1
    (s.sys.running = true) ∧
      (domainOn s (2 + p) = true)) := by
  decide +kernel

theorem witness_BoundarySteps_4 :
    (let s : State := w0
    let t0 : Nat := 5
    let m : Fin 32 := 1
    let c : MCmd := ⟨1, 0, 0#32⟩
    let st : Nat := 5
    let s : State := { s with sys := { s.sys with running := true, runReq := false, st := .run, imp := s.sys.imp / 4 * 4 + 3, first := true }, quo := { s.quo with pending := none, implicit := [] }, mot := { s.mot with restored := false, sch := [] } }
    let s : State := forN 64 (fun i s => fset s F.SCH_STAT_STATE (i % 6 / 5 * 2) i) (fset s F.SYS_IMP_CFG_NP (1 + t0 % 2) )
    let s : State := forN 8 (fun g s => setPth g { s.pth g with pend := none } (fset s F.PTH_STATUS_STATE 0 g)) (forN 16 (fun a s => setAcd a { s.acd a with pend := none } (fset s F.ACD_STATUS_STATE 0 a)) (forN 32 (fun k s => setPrf k { s.prf k with pend := none } s) s))
    let s : State := setPrf m { s.prf m with pend := some c } (fset s F.PRF_STATE_STATE (st % 7) m)
    let s : State := if t0 % 3 = 0 then s else fset (fset (fset (fset s F.PRF_VMAX_VAL 50000 m) F.PRF_AMAX_VAL 60000 m) F.PRF_DMAX_VAL 70000 m) F.PRF_JMAX_VAL 900000 m
    let s : State := if st % 7 = 1 ∧ 5 ≤ c.code then fset s F.PRF_STATE_STATE 3 m else s
    (PlainBoundary s) ∧
      (ServoNext s) ∧
      (NoLawCmd s) ∧
      (s.sys.st = .run) ∧
      ((s.prf m).pend = some c) ∧
      (c.skip = 0 ∧ 1 ≤ c.code ∧ c.code ≤ 6) ∧
      (fget s F.PRF_STATE_STATE m ≤ 6) ∧
      (¬ (fget s F.PRF_STATE_STATE m = 1 ∧ 5 ≤ c.code))) := by
  decide +kernel

theorem witness_BoundarySteps_5 :
    (let s : State := w0
    let t0 : Nat := 5
    let m : Fin 32 := 1
    let c : MCmd := ⟨1, 0, 0#32⟩
    let s : State := { s with sys := { s.sys with running := true, runReq := false, st := .ready, imp := s.sys.imp / 4 * 4 + 3, first := true }, quo := { s.quo with pending := none, implicit := [] }, mot := { s.mot with restored := false, sch := [] } }
    let s : State := forN 64 (fun i s => fset s F.SCH_STAT_STATE (i % 6 / 5 * 2) i) (fset s F.SYS_IMP_CFG_NP (1 + t0 % 2) )
    let s : State := setPrf m { s.prf m with pend := some c } s
    (PlainBoundary s) ∧
      (ServoNext s) ∧
      (s.sys.st ≠ .run) ∧
      ((s.prf m).pend = some c) ∧
      (c.skip = 0 ∧ 1 ≤ c.code ∧ c.code ≤ 6)) := by
  decide +kernel

theorem witness_BoundarySteps_6 :
    (let s : State := w0
    let t0 : Nat := 5
    let a : Fin 16 := 1
    let g : Fin 8 := 1
    let c : MCmd := ⟨1, 0, 0#32⟩
    let d : MCmd := ⟨1, 0, 0#32⟩
    let s : State := { s with sys := { s.sys with running := true, runReq := false, st := .ready, imp := s.sys.imp / 4 * 4 + 3, first := true }, quo := { s.quo with pending := none, implicit := [] }, mot := { s.mot with restored := false, sch := [] } }
    let s : State := forN 64 (fun i s => fset s F.SCH_STAT_STATE (i % 6 / 5 * 2) i) (fset s F.SYS_IMP_CFG_NP (1 + t0 % 2) )
    let s : State := setAcd a { s.acd a with pend := some c } (setPth g { s.pth g with pend := some d } s)
    (PlainBoundary s) ∧
      (ServoNext s) ∧
      (s.sys.st ≠ .run) ∧
      ((s.acd a).pend = some c ∧ (s.pth g).pend = some d) ∧
      (c.skip = 0 ∧ d.skip = 0)) := by
  decide +kernel

theorem witness_BoundarySteps_7 :
    (let s : State := w0
    let t0 : Nat := 5
    let m : Fin 32 := 1
    let el : Nat := 5
    let s : State := { s with sys := { s.sys with running := true, runReq := false, st := .run, imp := s.sys.imp / 4 * 4 + 3, first := true }, quo := { s.quo with pending := none, implicit := [] }, mot := { s.mot with restored := false, sch := [] } }
    let s : State := forN 64 (fun i s => fset s F.SCH_STAT_STATE (i % 6 / 5 * 2) i) (fset s F.SYS_IMP_CFG_NP (1 + t0 % 2) )
    let s : State := forN 8 (fun g s => setPth g { s.pth g with pend := none } (fset s F.PTH_STATUS_STATE 0 g)) (forN 16 (fun a s => setAcd a { s.acd a with pend := none } (fset s F.ACD_STATUS_STATE 0 a)) (forN 32 (fun k s => setPrf k { s.prf k with pend := none } s) s))
    let s : State := setPrf m { s.prf m with segs := [(5, 2 ^ 70), (-5, 2 ^ 70)], base := ⟨2 ^ 200, 2 ^ 100, 0⟩, el := el % 1000000, goal := 7 * pScale, endless := false, lims := unitLims s m 1 false } (fset (fset s F.PRF_STATE_STATE 1 m) F.MOV_FB_VMAX_VAL 4294967295 m)
    let s := setPrf m { s.prf m with el := 2 ^ 80 } s
    (PlainBoundary s) ∧
      (ServoNext s) ∧
      (OnlyAccords s []) ∧
      (s.sys.st = .run) ∧
      (fget s F.PRF_STATE_STATE m = 1) ∧
      (fget s F.MOV_CFG_TYPE m = 0 ∨ fget s F.PRF_VMAX_VAL m ≤ fget s F.MOV_FB_VMAX_VAL m) ∧
      ((s.prf m).lims = unitLims s m 1 false) ∧
      ((s.prf m).endless = false) ∧
      (segsLen (s.prf m).segs ≤ nsT ((s.prf m).el + servoNs s))) := by
  decide +kernel

theorem witness_BoundarySteps_8 :
    (let s : State := w0
    let t0 : Nat := 5
    let m : Fin 32 := 1
    let el : Nat := 5
    let s : State := { s with sys := { s.sys with running := true, runReq := false, st := .run, imp := s.sys.imp / 4 * 4 + 3, first := true }, quo := { s.quo with pending := none, implicit := [] }, mot := { s.mot with restored := false, sch := [] } }
    let s : State := forN 64 (fun i s => fset s F.SCH_STAT_STATE (i % 6 / 5 * 2) i) (fset s F.SYS_IMP_CFG_NP (1 + t0 % 2) )
    let s : State := forN 8 (fun g s => setPth g { s.pth g with pend := none } (fset s F.PTH_STATUS_STATE 0 g)) (forN 16 (fun a s => setAcd a { s.acd a with pend := none } (fset s F.ACD_STATUS_STATE 0 a)) (forN 32 (fun k s => setPrf k { s.prf k with pend := none } s) s))
    let s : State := setPrf m { s.prf m with segs := [(5, 2 ^ 70), (-5, 2 ^ 70)], base := ⟨2 ^ 200, 2 ^ 100, 0⟩, el := el % 1000000, goal := 7 * pScale, endless := false, lims := unitLims s m 1 false } (fset (fset s F.PRF_STATE_STATE 1 m) F.MOV_FB_VMAX_VAL 4294967295 m)
    let s : State := setPrf m { s.prf m with segs := [(5, 2 ^ 99), (-5, 2 ^ 99)] } s
    (PlainBoundary s) ∧
      (ServoNext s) ∧
      (OnlyAccords s []) ∧
      (s.sys.st = .run) ∧
      (fget s F.PRF_STATE_STATE m = 1) ∧
      (fget s F.MOV_CFG_TYPE m = 0 ∨ fget s F.PRF_VMAX_VAL m ≤ fget s F.MOV_FB_VMAX_VAL m) ∧
      ((s.prf m).lims = unitLims s m 1 false) ∧
      ((s.prf m).endless = false) ∧
      (nsT ((s.prf m).el + servoNs s) < segsLen (s.prf m).segs)) := by
  decide +kernel

theorem witness_BoundarySteps_9 :
    (let s : State := w0
    let t0 : Nat := 5
    let a : Fin 16 := 1
    let m : Fin 32 := 1
    let n : Word := 5#32
    let s : State := { s with sys := { s.sys with running := true, runReq := false, st := .run, imp := s.sys.imp / 4 * 4 + 3, first := true }, quo := { s.quo with pending := none, implicit := [] }, mot := { s.mot with restored := false, sch := [] } }
    let s : State := forN 64 (fun i s => fset s F.SCH_STAT_STATE (i % 6 / 5 * 2) i) (fset s F.SYS_IMP_CFG_NP (1 + t0 % 2) )
    let s : State := forN 8 (fun g s => setPth g { s.pth g with pend := none } (fset s F.PTH_STATUS_STATE 0 g)) (forN 16 (fun a s => setAcd a { s.acd a with pend := none } (fset s F.ACD_STATUS_STATE 0 a)) (forN 32 (fun k s => setPrf k { s.prf k with pend := none } s) s))
    let s : State := fset (fset s F.ACD_STATUS_STATE 3 a) F.PRF_STATE_STATE 0 m
    let s : State := setAcd a { s.acd a with cfg := BitVec.ofNat 32 (1 + 4 * ((m.val + 1 + n.toNat % 31) % 32) + 1024 * m.val), num := rd s (R.ACD_NUM.at a), den := rd s (R.ACD_DEN.at a), c := ⟨0, 0, 0⟩, cDone := true, s0 := 5 * pScale, m0 := 3 } s
    let s : State := setPrf m { s.prf m with sp := ⟨pScale * n.toNat, vScale * t0, 0⟩ } (fset s F.PRF_STATE_STATE 5 (s.acd a).slave)
    (PlainBoundary s) ∧
      (ServoNext s) ∧
      (OnlyAccords s [a.val]) ∧
      (s.sys.st = .run) ∧
      (fget s F.ACD_STATUS_STATE a = 3) ∧
      ((s.acd a).kind = 1 ∧ (s.acd a).mkind = 0 ∧ (s.acd a).master % 32 = m.val ∧ (s.acd a).slave ≠ m.val) ∧
      (fget s F.PRF_STATE_STATE m = 0 ∧ fget s F.PRF_STATE_STATE (s.acd a).slave = 5) ∧
      ((s.acd a).num = rd s (R.ACD_NUM.at a) ∧ (s.acd a).den = rd s (R.ACD_DEN.at a)) ∧
      ((s.acd a).cDone = true ∧ (s.acd a).c = ⟨0, 0, 0⟩)) := by
  decide +kernel

theorem witness_BoundarySteps_10 :
    (let s : State := w0
    let t0 : Nat := 5
    let g : Fin 8 := 1
    let y : PSeg := ⟨3, 0, 1, 0, 0, [], 0, 0, 9, false⟩
    let r : List PSeg := [⟨3, 0, 1, 0, 0, [], 0, 0, 9, false⟩]
    let s : State := { s with sys := { s.sys with running := true, runReq := false, st := .run, imp := s.sys.imp / 4 * 4 + 3, first := true }, quo := { s.quo with pending := none, implicit := [] }, mot := { s.mot with restored := false, sch := [] } }
    let s : State := forN 64 (fun i s => fset s F.SCH_STAT_STATE (i % 6 / 5 * 2) i) (fset s F.SYS_IMP_CFG_NP (1 + t0 % 2) )
    let s : State := forN 8 (fun g s => setPth g { s.pth g with pend := none } (fset s F.PTH_STATUS_STATE 0 g)) (forN 16 (fun a s => setAcd a { s.acd a with pend := none } (fset s F.ACD_STATUS_STATE 0 a)) (forN 32 (fun k s => setPrf k { s.prf k with pend := none } s) s))
    let y : PSeg := { y with ty := 3, dwell := 1000000 + y.dwell }
    let s : State := setPth g { s.pth g with buf := y :: r, dwelt := t0 % 1000, axes := [1, 2], start := [0, 0] } (fset s F.PTH_STATUS_STATE 1 g)
    (PlainBoundary s) ∧
      (ServoNext s) ∧
      (NoLawCmd s) ∧
      (∀ m : Fin 32, (s.prf m).pend = none) ∧
      (s.sys.st = .run) ∧
      (fget s F.PTH_STATUS_STATE g = 1) ∧
      ((s.pth g).buf = y :: r) ∧
      (y.ty = 3 ∧ (s.pth g).dwelt + servoNs s < y.dwell * 1000)) := by
  decide +kernel

theorem witness_PositionEdges_1 :
    (let s : State := w0
    let c : Fin 48 := 1
    let st : Nat := 5
    let s : State := fset s F.FBK_HALL_CFG_EN 1 c
    let s : State := modSrc (fset s F.FBK_HALL_CFG_STATE (1 + st % 6) c) c (fun x => { x with lines := some 3, pos := st })
    let l : BitVec 3 := BitVec.ofNat 3 (hallNext (fget s F.FBK_HALL_CFG_STATE c) ^^^ fget s F.FBK_HALL_CFG_INV c)
    (srcOn s c = true) ∧
      ((s.source c).lines ≠ none) ∧
      (hallBad (fget s F.FBK_HALL_CFG_STATE c) = false) ∧
      (hallNext (fget s F.FBK_HALL_CFG_STATE c) = hallState s c l.toNat ∨ hallNext (hallState s c l.toNat) = fget s F.FBK_HALL_CFG_STATE c) ∧
      (hallBad (hallState s c l.toNat) = false)) ∧
    (let s : State := w0
    let c : Fin 48 := 1
    let st : Nat := 5
    let s : State := fset s F.FBK_HALL_CFG_EN 1 c
    let s : State := modSrc (fset s F.FBK_HALL_CFG_STATE (1 + st % 6) c) c (fun x => { x with lines := some 3, pos := st })
    let l : BitVec 3 := BitVec.ofNat 3 (fget s F.FBK_HALL_CFG_INV c)
    (srcOn s c = true) ∧
      ((s.source c).lines ≠ none) ∧
      (hallBad (hallState s c l.toNat) = true) ∧
      (hallState s c l.toNat ≠ fget s F.FBK_HALL_CFG_STATE c)) ∧
    (let s : State := w0
    let e : Fin 16 := 1
    let a : Bool := true
    let b : Bool := true
    let st : Nat := 5
    let o : Nat := 5
    let s : State := fset s F.FBK_HALL_CFG_EN 1 (64 + e)
    let o : Nat := o % 4
    let s : State := modSrc s (64 + e) (fun x => { x with lines := some o, pos := st })
    (srcOn s (64 + e) = true) ∧
      ((s.source (64 + e)).lines = some o) ∧
      (o < 4) ∧
      (quadPlace a b = (o + 1) % 4 ∨ o = (quadPlace a b + 1) % 4)) ∧
    (let s : State := w0
    let e : Fin 16 := 1
    let b : Bool := true
    let st : Nat := 5
    let o : Nat := 5
    let s : State := fset s F.FBK_HALL_CFG_EN 1 (64 + e)
    let o : Nat := o % 4
    let s : State := modSrc s (64 + e) (fun x => { x with lines := some o, pos := st })
    let a : Bool := false
    (srcOn s (64 + e) = true) ∧
      ((s.source (64 + e)).lines = some o) ∧
      (o < 4) ∧
      (quadPlace a b = (o + 2) % 4)) := by
  decide +kernel

theorem witness_PositionEdges_2 :
    (let s : State := w0
    let e : Fin 16 := 1
    let s : State := fset (fset s F.FBK_HALL_CFG_EN 1 (64 + e)) F.FBK_ENC_STATUS_REF_ARMED 1 e
    let rise : Bool := !flag s F.FBK_ENC_CFG_ZPOL e
    (srcOn s (64 + e) = true) ∧
      (rise ≠ flag s F.FBK_ENC_CFG_ZPOL e) ∧
      (flag s F.FBK_ENC_STATUS_REF_ARMED e = true)) ∧
    (let s : State := w0
    let e : Fin 16 := 1
    let s : State := fset (fset s F.FBK_HALL_CFG_EN 1 (64 + e)) F.FBK_ENC_STATUS_REF_ARMED 0 e
    let rise : Bool := !flag s F.FBK_ENC_CFG_ZPOL e
    (srcOn s (64 + e) = true) ∧
      (rise ≠ flag s F.FBK_ENC_CFG_ZPOL e) ∧
      (flag s F.FBK_ENC_STATUS_REF_ARMED e = false)) ∧
    (let s : State := w0
    let t0 : Nat := 5
    let k : Fin 8 := 1
    let s : State := fset s F.FBK_HALL_CFG_EN 1 (96 + k)
    let s : State := fset (fset s F.FBK_SSI_CFG_DIV 1 k) F.SYS_IMP_CFG_PERIOD 500
    let s : State := { s with sys := { s.sys with running := true, open_ := 0, next := lns (advance t0 s) + 20 * fget s F.FBK_SSI_TIMING_LEAD k } }
    (srcOn s (96 + k) = true) ∧
      (ssiDue (advance t0 s) k = true)) ∧
    (let s : State := w0
    let t0 : Nat := 5
    let k : Fin 8 := 1
    let s : State := fset s F.FBK_HALL_CFG_EN 1 (96 + k)
    let s : State := fset (fset s F.FBK_SSI_CFG_DIV 1 k) F.SYS_IMP_CFG_PERIOD 500
    let s : State := { s with sys := { s.sys with running := true, open_ := 0, next := lns (advance t0 s) + 20 * fget s F.FBK_SSI_TIMING_LEAD k } }
    (srcOn s (96 + k) = true) ∧
      (ssiDue (advance t0 s) k = true)) := by
  decide +kernel

theorem witness_PositionEdges_3 :
    (let s : State := w0
    let k : Fin 8 := 1
    let w : Nat := 5
    let s : State := fset (fset (fset (fset s F.FBK_HALL_CFG_EN 1 (96 + k)) F.FBK_SSI_CFG_PAR 0 k) F.FBK_SSI_CFG_ZCHK 0 k) F.FBK_SSI_CFG_GRAY 0 k
    let s : State := modSrc s (96 + k) (fun x => { x with read := some (5, 6), ofs := w % 100 })
    (srcOn s (96 + k) = true) ∧
      ((s.source (96 + k)).read.isSome = true) ∧
      ((s.source (96 + k)).word = none) ∧
      (fget s F.FBK_SSI_CFG_PAR k = 0) ∧
      (fget s F.FBK_SSI_CFG_ZCHK k = 0) ∧
      (fget s F.FBK_SSI_CFG_GRAY k = 0) ∧
      (fget s F.FBK_SSI_CFG_BITS k < 48)) ∧
    (let s : State := w0
    let t0 : Nat := 5
    let i : BitVec 7 := 3#7
    let i : BitVec 7 := if i.toNat % 3 = 0 then 100#7 else i
    let s : State := fset (fset (fset s F.FBK_HALL_CFG_EN 1 i.toNat) F.FBK_HALL_STATUS_STILL 0 i.toNat) F.FBK_HALL_SPD_TSTILL 1 i.toNat
    (srcOn s i.toNat = true) ∧
      (flag s F.FBK_HALL_STATUS_STILL i.toNat = false) ∧
      ((if i.toNat < 96 then (s.source i.toNat).stamp else (s.source i.toNat).moved) + 1000000 * fget s F.FBK_HALL_SPD_TSTILL i.toNat ≤ max s.tim.acc (t0 * 2 ^ 18) / 2 ^ 26)) ∧
    (let s : State := w0
    let h : Via := ⟨.pcie, 5⟩
    let i : BitVec 7 := 3#7
    (srcUsed i.toNat = true) ∧
      (HostOn s (R.FBK_HALL_STATUS.at i.toNat)) ∧
      ((justSet (advance h.t s) (R.FBK_HALL_STATUS.at i.toNat)).getLsbD F.FBK_HALL_STATUS_LOST.lsb = false)) ∧
    (let s : State := w0
    let e : Fin 16 := 1
    let s : State := fset s F.FBK_HALL_CFG_EN 1 (64 + e)
    (HostOn s (R.FBK_ENC_CTL.at e)) ∧
      (srcOn s (64 + e) = true)) := by
  decide +kernel

theorem witness_LatchUnits_1 :
    (let s : State := w0
    let u : Fin 32 := 1
    (HostOn s (R.FBK_LAT_CTL.at u))) ∧
    (let s : State := w0
    let u : Fin 32 := 1
    (HostOn s (R.FBK_LAT_CTL.at u))) ∧
    (let s : State := w0
    let u : Fin 32 := 1
    let s : State := setLat s u { s.latU u with queue := [⟨1, 2, true, true, true, true, 5⟩] }
    (HostOn s (R.FBK_LAT_CTL.at u))) ∧
    (let s : State := w0
    let u : Fin 32 := 1
    let s : State := setLat s u { s.latU u with queue := [⟨1, 2, true, true, true, true, 5⟩] }
    (HostOn s (R.FBK_LAT_CTL.at u))) := by
  decide +kernel

theorem witness_LatchUnits_2 :
    (let s : State := w0
    let u : Fin 32 := 1
    let rise : Bool := true
    let cfg : Word := 5#32
    let s : State := setLat (fset s F.FBK_LAT_STATUS_ARMED 1 u) u { s.latU u with cfg := cfg }
    (domainOn s 7 = true) ∧
      (flag s F.FBK_LAT_STATUS_ARMED u = true) ∧
      (bitsOf (s.latU u).cfg 2 2 ≠ 0) ∧
      (latSelects (s.latU u).cfg rise = true)) ∧
    (let s : State := w0
    let u : Fin 32 := 1
    let rise : Bool := true
    let cfg : Word := 5#32
    let s : State := setLat (fset s F.FBK_LAT_STATUS_ARMED 1 u) u { s.latU u with cfg := cfg &&& 0xFFFFFFF3#32, pend := [⟨1, none, 2, 3, rise, false, some (bitsOf cfg 4 6)⟩, ⟨1, none, 2, 3, rise, false, none⟩] }
    (domainOn s 7 = true) ∧
      (flag s F.FBK_LAT_STATUS_ARMED u = true) ∧
      (bitsOf (s.latU u).cfg 2 2 = 0)) ∧
    (let s : State := w0
    let t0 : Nat := 5
    let u : Fin 32 := 1
    let p : LatCap := ⟨1, none, 1, 2, true, false, none⟩
    let r : List LatCap := [⟨1, none, 1, 2, true, false, none⟩]
    let q : Int := 7
    let p : LatCap := { p with fio := none, pos := some q, at_ := p.at_ % 1000 }
    let s : State := setLat s u { s.latU u with pend := p :: r }
    (domainOn s 7 = true) ∧
      ((s.latU u).pend = p :: r) ∧
      (p.fio = none) ∧
      (p.pos = some q) ∧
      (p.at_ + filtSpan s p.src ≤ lns (advance t0 s)) ∧
      ((s.latU u).queue.length < 4)) ∧
    (let s : State := w0
    let t0 : Nat := 5
    let u : Fin 32 := 1
    let p : LatCap := ⟨1, none, 1, 2, true, false, none⟩
    let r : List LatCap := [⟨1, none, 1, 2, true, false, none⟩]
    let q : Int := 7
    let p : LatCap := { p with fio := none, pos := some q, at_ := p.at_ % 1000 }
    let s : State := setLat s u { s.latU u with pend := p :: r, queue := List.replicate 4 ⟨1, 2, true, true, true, true, 5⟩ }
    (domainOn s 7 = true) ∧
      ((s.latU u).pend = p :: r) ∧
      (p.fio = none) ∧
      (p.pos = some q) ∧
      (p.at_ + filtSpan s p.src ≤ lns (advance t0 s)) ∧
      (4 ≤ (s.latU u).queue.length)) := by
  decide +kernel

theorem witness_LatchUnits_3 :
    (let s : State := w0
    let u : Fin 64 := 1
    (HostOn s (R.FBK_CMP_CTL.at u))) ∧
    (let s : State := w0
    let t0 : Nat := 5
    let u : Fin 64 := 1
    let s : State := setCmp (fset (fset s F.FBK_CMP_STATUS_ARMED 1 u) F.SYS_IMP_CFG_NP 1) u { s.cmpU u with late := true }
    let s : State := { s with sys := { s.sys with running := true, s0 := lns (advance t0 s) } }
    (domainOn s 7 = true) ∧
      (s.sys.running = true) ∧
      (lns (advance t0 s) = s.sys.s0) ∧
      (servoBoundary s = true) ∧
      (flag s F.FBK_CMP_STATUS_ARMED u = true) ∧
      ((s.cmpU u).late = true)) ∧
    (let s : State := w0
    let u : Fin 64 := 1
    (HostOn s (R.FBK_CMP_CTL.at u))) ∧
    (let s : State := w0
    (domainOn s 7 = true)) := by
  decide +kernel

theorem witness_TrackSegments_1 :
    (let s : State := w0
    let k : Fin 8 := 1
    let m : Fin 32 := 1
    let j : Fin 64 := 1
    let n : Nat := 5
    let q0 : Nat := 5
    let x : Nat := 5
    let s : State := trkSetup k [(m.val, q0 % 220)] (1 + n % 4) (x % 8) s
    let j : Fin 64 := Fin.ofNat 64 (j.val % (1 + n % 4))
    (OpenTrack s k [m.val]) ∧
      ((recOf s k m).stale = false) ∧
      (0 < fget s F.SYS_TRK_LA_VAL k ∧ 0 < fget s F.SYS_TRK_WIN_W_ON k) ∧
      ((∀ i : Fin 64, i.val < nseg s k → i ≠ j → (segOf s k i).ch ≠ (segOf s k j).ch)) ∧
      (j.val < nseg s k ∧ nseg s k ≤ 48) ∧
      (segSt s k j ≤ 7)) ∧
    (let s : State := w0
    let k : Fin 8 := 1
    let m : Fin 32 := 1
    let j : Fin 64 := 1
    let n : Nat := 5
    let q0 : Nat := 5
    let x : Nat := 5
    let s : State := trkSetup k [(m.val, q0 % 220)] (1 + n % 4) (x % 8) s
    let j : Fin 64 := Fin.ofNat 64 (j.val % (1 + n % 4))
    (OpenTrack s k [m.val]) ∧
      ((recOf s k m).stale = false) ∧
      (0 < fget s F.SYS_TRK_LA_VAL k) ∧
      (nseg s k ≤ 48 ∧ fget s F.SYS_TRK_TAB_INDEX k + 8 * nseg s k ≤ 2 ^ 22) ∧
      (j.val < nseg s k ∧ nearOf s k j (recOf s k m).q)) := by
  decide +kernel

theorem witness_TrackSegments_2 :
    (let s : State := w0
    let k : Fin 8 := 1
    let m : Fin 32 := 1
    let n : Nat := 5
    let q0 : Nat := 5
    let x : Nat := 5
    let s : State := trkSetup k [(m.val, q0 % 220)] (1 + n % 4) (x % 8) s
    (OpenTrack s k [m.val]) ∧
      ((recOf s k m).stale = false) ∧
      (0 < fget s F.SYS_TRK_LA_VAL k) ∧
      (nseg s k ≤ 48 ∧ fget s F.SYS_TRK_TAB_INDEX k + 8 * nseg s k ≤ 2 ^ 22)) ∧
    (let s : State := w0
    let k : Fin 8 := 1
    let m : Fin 32 := 1
    let n : Nat := 5
    let q0 : Nat := 5
    let x : Nat := 5
    let s : State := { (trkSetup k [(m.val, q0 % 220)] (1 + n % 4) (x % 8) s) with sys := { s.sys with running := true, s0 := s.sys.s0 + 1 } }
    (OpenTrack s k [m.val]) ∧
      ((recOf s k m).stale = true) ∧
      (nseg s k ≤ 48 ∧ fget s F.SYS_TRK_TAB_INDEX k + 8 * nseg s k ≤ 2 ^ 22)) := by
  decide +kernel

theorem witness_TrackSegments_3 :
    (let s : State := w0
    let k : Fin 8 := 1
    let a : Fin 32 := 1
    let j : Fin 64 := 1
    let n : Nat := 5
    let x : Nat := 5
    let a : Fin 32 := Fin.ofNat 32 (a.val % 31)
    let b : Fin 32 := Fin.ofNat 32 (a.val + 1)
    let j : Fin 64 := Fin.ofNat 64 (j.val % (1 + n % 4))
    let s : State := fset (fset (trkSetup k [(a.val, 50 * j.val + 3), (b.val, 50 * j.val + 5)] (1 + n % 4) (x % 8) s) F.SYS_TRK_FAULT_L_SEG 0 k) F.SYS_TRK_OFFLINE_L_SEG 0 k
    (OpenTrack s k [a.val, b.val]) ∧
      ((recOf s k a).stale = false ∧ (recOf s k b).stale = false) ∧
      (j.val < nseg s k ∧ nseg s k ≤ 48 ∧ fget s F.SYS_TRK_TAB_INDEX k + 8 * nseg s k ≤ 2 ^ 22) ∧
      ((∀ i : Fin 64, i.val < nseg s k → i ≠ j → (segOf s k i).ch ≠ (segOf s k j).ch)) ∧
      (segBit s F.SYS_TRK_OFFLINE_L_SEG F.SYS_TRK_OFFLINE_H_SEG k j = false ∧ faultAfter s k j = false) ∧
      (ellOf s k j (recOf s k a).q ≠ 0 ∧ ellOf s k j (recOf s k b).q ≠ 0)) ∧
    (let s : State := w0
    let k : Fin 8 := 1
    let a : Fin 32 := 1
    let n : Nat := 5
    let q0 : Nat := 5
    let x : Nat := 5
    let a : Fin 32 := Fin.ofNat 32 (a.val % 31)
    let b : Fin 32 := Fin.ofNat 32 (a.val + 1)
    let s : State := trkSetup k [(a.val, q0 % 220), (b.val, q0 % 220 + 3 + x % 60)] (1 + n % 4) (x % 8) s
    (OpenTrack s k [a.val, b.val]) ∧
      ((recOf s k a).stale = false ∧ (recOf s k b).stale = false) ∧
      ((recOf s k a).q ≤ (recOf s k b).q) ∧
      (a ≠ b)) := by
  decide +kernel

theorem witness_ProfileCommands_1 :
    (let s : State := w0
    let h : Via := ⟨.pcie, 5⟩
    let m : Fin 32 := 1
    let s : State := setPrf m { s.prf m with pend := if h.t % 2 = 0 then none else some ⟨3, 0, 0#32⟩ } s
    (HostOn s (R.PRF_CMD.at m)) ∧
      ((s.prf m).pend.map (·.code) ≠ some 6)) ∧
    (let s : State := w0
    let h : Via := ⟨.pcie, 5⟩
    let m : Fin 32 := 1
    let s : State := setPrf m { s.prf m with pend := if h.t % 2 = 0 then none else some ⟨3, 0, 0#32⟩ } s
    (HostOn s (R.PRF_CMD.at m)) ∧
      ((s.prf m).pend.map (·.code) ≠ some 6)) ∧
    (let s : State := w0
    let h : Via := ⟨.pcie, 5⟩
    let m : Fin 32 := 1
    let s : State := setPrf m { s.prf m with pend := if h.t % 2 = 0 then none else some ⟨3, 0, 0#32⟩ } s
    (HostOn s (R.PRF_CMD.at m)) ∧
      ((s.prf m).pend.map (·.code) ≠ some 6)) ∧
    (let s : State := w0
    let h : Via := ⟨.pcie, 5⟩
    let m : Fin 32 := 1
    let s : State := setPrf m { s.prf m with pend := if h.t % 2 = 0 then none else some ⟨3, 0, 0#32⟩ } s
    (HostOn s (R.PRF_CMD.at m)) ∧
      ((s.prf m).pend.map (·.code) ≠ some 6)) := by
  decide +kernel

theorem witness_ProfileCommands_2 :
    (let s : State := w0
    let h : Via := ⟨.pcie, 5⟩
    let m : Fin 32 := 1
    let s : State := setPrf m { s.prf m with pend := if h.t % 2 = 0 then none else some ⟨3, 0, 0#32⟩ } s
    (HostOn s (R.PRF_CMD.at m)) ∧
      ((s.prf m).pend.map (·.code) ≠ some 6)) ∧
    (let s : State := w0
    let h : Via := ⟨.pcie, 5⟩
    let m : Fin 32 := 1
    let s : State := setPrf m { s.prf m with pend := if h.t % 2 = 0 then none else some ⟨3, 0, 0#32⟩ } s
    (HostOn s (R.PRF_CMD.at m)) ∧
      ((s.prf m).pend.map (·.code) ≠ some 6)) ∧
    (let s : State := w0
    let m : Fin 32 := 1
    let s : State := setPrf m { s.prf m with pend := some ⟨6, 0, 0#32⟩ } s
    (HostOn s (R.PRF_CMD.at m)) ∧
      ((s.prf m).pend.map (·.code) = some 6)) ∧
    (let s : State := w0
    let m : Fin 32 := 1
    let s : State := setPrf m { s.prf m with pend := some ⟨6, 0, 0#32⟩ } s
    (HostOn s (R.PRF_CMD.at m)) ∧
      ((s.prf m).pend.map (·.code) = some 6)) := by
  decide +kernel

theorem witness_ProfileCommands_3 :
    (let s : State := w0
    let m : Fin 32 := 1
    let s : State := setPrf m { s.prf m with pend := some ⟨6, 0, 0#32⟩ } s
    (HostOn s (R.PRF_CMD.at m)) ∧
      ((s.prf m).pend.map (·.code) = some 6)) ∧
    (let s : State := w0
    let m : Fin 32 := 1
    let s : State := setPrf m { s.prf m with pend := some ⟨6, 0, 0#32⟩ } s
    (HostOn s (R.PRF_CMD.at m)) ∧
      ((s.prf m).pend.map (·.code) = some 6)) ∧
    (let s : State := w0
    let m : Fin 32 := 1
    let s : State := setPrf m { s.prf m with pend := some ⟨6, 0, 0#32⟩ } s
    (HostOn s (R.PRF_CMD.at m)) ∧
      ((s.prf m).pend.map (·.code) = some 6)) := by
  decide +kernel

theorem witness_AccordAndPathCommands_1 :
    (let s : State := w0
    let a : Fin 16 := 1
    (HostOn s (R.ACD_CTL.at a))) ∧
    (let s : State := w0
    let a : Fin 16 := 1
    (HostOn s (R.ACD_CTL.at a))) ∧
    (let s : State := w0
    let g : Fin 8 := 1
    (HostOn s (R.PTH_CTL.at g)) ∧
      ((s.pth g).pend.map (·.code) ≠ some 5)) ∧
    (let s : State := w0
    let g : Fin 8 := 1
    (HostOn s (R.PTH_CTL.at g)) ∧
      ((s.pth g).pend.map (·.code) ≠ some 5)) := by
  decide +kernel

theorem witness_AccordAndPathCommands_2 :
    (let s : State := w0
    let g : Fin 8 := 1
    (HostOn s (R.PTH_CTL.at g)) ∧
      ((s.pth g).pend.map (·.code) ≠ some 5)) ∧
    (let s : State := w0
    let g : Fin 8 := 1
    (HostOn s (R.PTH_CTL.at g)) ∧
      ((s.pth g).pend.map (·.code) ≠ some 5)) ∧
    (let s : State := w0
    let g : Fin 8 := 1
    (HostOn s (R.PTH_CTL.at g)) ∧
      ((s.pth g).pend.map (·.code) ≠ some 5)) ∧
    (let s : State := w0
    let g : Fin 8 := 1
    (HostOn s (R.PTH_CTL.at g)) ∧
      (¬ ((fget s F.PTH_SEG_TYPE g = 1 ∨ fget s F.PTH_SEG_TYPE g = 2) ∧ fget s F.PTH_SEG_PA g = fget s F.PTH_SEG_PB g)) ∧
      ((s.pth g).buf.length < 64)) := by
  decide +kernel

theorem witness_AccordAndPathCommands_3 :
    (let s : State := w0
    let g : Fin 8 := 1
    let s : State := fset (fset (fset s F.PTH_SEG_TYPE 2 g) F.PTH_SEG_PA 1 g) F.PTH_SEG_PB 1 g
    (HostOn s (R.PTH_CTL.at g)) ∧
      (fget s F.PTH_SEG_TYPE g = 1 ∨ fget s F.PTH_SEG_TYPE g = 2) ∧
      (fget s F.PTH_SEG_PA g = fget s F.PTH_SEG_PB g)) ∧
    (let s : State := w0
    let g : Fin 8 := 1
    (HostOn s (R.PTH_CTL.at g)) ∧
      (fget s F.PTH_STATUS_STATE g = 0)) := by
  decide +kernel

theorem witness_TracksAndMovers_1 :
    (let s : State := w0
    (∀ k : Fin 8, flag s F.SYS_TRK_CFG_EN k = false)) ∧
    (let s : State := w0
    let s : State := { s with sys := { s.sys with running := false } }
    (s.sys.running = false)) ∧
    (let s : State := w0
    let s : State := forN 8 (fun k s => fset s F.SYS_TRK_CFG_EN (if k = 0 then 1 else 0) k) s
    let s : State := forN 32 (fun m s => fset s F.MOV_CFG_TYPE 0 m) s
    let s : State := fset s F.SYS_TRK_CFG_NSEG 0 0
    (s.sys.running = true) ∧
      (∀ k : Fin 8, flag s F.SYS_TRK_CFG_EN k = decide (k = 0)) ∧
      (nseg s 0 = 0) ∧
      (moversOf s 0 = [])) ∧
    (let s : State := w0
    let k : Fin 8 := 1
    (HostOn s (R.SYS_TRK_FAULT_L.at k))) := by
  decide +kernel

theorem witness_TracksAndMovers_2 :
    (let s : State := w0
    let k : Fin 8 := 1
    (HostOn s (R.SYS_TRK_FAULT_H.at k))) ∧
    (let s : State := w0
    let m : Fin 32 := 1
    let n : BitVec 4 := 3#4
    (HostOn s (R.MOV_CTL.at m)) ∧
      (n ≠ 0#4)) ∧
    (let s : State := w0
    let m : Fin 32 := 1
    (HostOn s (R.MOV_CTL.at m))) ∧
    (let s : State := w0
    let x : Fin 64 := 1
    (HostOn s (R.SCH_CTL.at x))) := by
  decide +kernel

theorem witness_TracksAndMovers_3 :
    (let s : State := w0
    let x : Fin 64 := 1
    (HostOn s (R.SCH_CTL.at x))) ∧
    (let s : State := w0
    let t0 : Nat := 5
    (s.sys.running = false ∨ max s.tim.acc (t0 * 2 ^ 18) / 2 ^ 26 ≠ s.sys.s0)) ∧
    (let s : State := w0
    let t0 : Nat := 5
    let x : Fin 64 := 1
    let s : State := fset (forN 64 (fun k s => fset s F.SCH_STAT_STATE (if k = x.val then 1 else 0) k) s) F.SYS_IMP_CFG_PERIOD 1000
    let s : State := { s with sys := { s.sys with running := true, s0 := max s.tim.acc (t0 * 2 ^ 18) / 2 ^ 26 } }
    let s : State := setSch x { s.schE x with time := s.sys.s0 - t0 % 100, period := 0, late := false, act := 7#32 } s
    (s.sys.running = true) ∧
      (∀ k : Fin 64, fget s F.SCH_STAT_STATE k = (if k = x then 1 else 0)) ∧
      ((s.schE x).late = false) ∧
      ((s.schE x).period = 0) ∧
      ((s.schE x).kind = 7) ∧
      (max s.tim.acc (t0 * 2 ^ 18) / 2 ^ 26 = s.sys.s0) ∧
      ((s.schE x).time ≤ s.sys.s0 ∧ s.sys.s0 < (s.schE x).time + tImp s)) := by
  decide +kernel

theorem witness_SafeStops_1 :
    (let s : State := w0
    let s : State := fset s F.SAF_STATE_STATE 3
    let s : State := fset (fset s F.SAF_STATE_MONITOR 0) F.SAF_STATE_CAUSE 0
    let s : State := fset s F.SAF_GEN_RUN_SEL 1023
    (safLive s = true) ∧
      (monitorMode s = false) ∧
      (domainOn s 12 = true) ∧
      (safeBit s (fget s F.SAF_GEN_RUN_SEL) = false)) := by
  decide +kernel

theorem witness_SafeStops_2 :
    (let s : State := w0
    let a : Fin 8 := 1
    let s : State := fset s F.SAF_STATE_STATE 3
    let s : State := fset (fset s F.SAF_STATE_MONITOR 0) F.SAF_STATE_CAUSE 0
    let s : State := fset (fset s F.SAF_AX_CFG_EN 1 a) F.SAF_AX_CFG_PRI 1 a
    let s : State := { s with page := [(srcBlock 1 + 5, 5#24)] }
    (safLive s = true) ∧
      (monitorMode s = false) ∧
      (flag s F.SAF_AX_CFG_EN a = true) ∧
      ((s.sax a).lim < axSpeed s a)) := by
  decide +kernel

theorem witness_SafeStops_3 :
    (let s : State := w0
    let a : Fin 8 := 1
    let s : State := fset s F.SAF_STATE_STATE 3
    let s : State := fset (fset s F.SAF_STATE_MONITOR 0) F.SAF_STATE_CAUSE 0
    let s : State := fset (fset s F.SAF_AX_CFG_EN 1 a) F.SAF_AX_CFG_PRI 1 a
    let s : State := fset (fset (fset (fset s F.SAF_AX_CFG_SEC 2 a) F.FBK_HALL_CFG_EN 1 2) F.SAF_AXST_SEC_LOST 0 a) F.SAF_AX_PL_TOL 0 a
    let s : State := { s with page := [(srcBlock 1 + 1, 5#24)], saf := { s.saf with ofsDue := none } }
    let j : Nat := 2
    (safLive s = true) ∧
      (monitorMode s = false) ∧
      (flag s F.SAF_AX_CFG_EN a = true) ∧
      (secLive s a = some j) ∧
      (s.saf.ofsDue = none) ∧
      (fget s F.SAF_AX_PL_TOL a * sden s a < (axDiff s a j - (s.sax a).ofs).natAbs)) := by
  decide +kernel

theorem witness_SafeStops_4 :
    (let s : State := w0
    let s : State := fset s F.SAF_STATE_STATE 3
    let s : State := fset (fset s F.SAF_STATE_MONITOR 0) F.SAF_STATE_CAUSE 0
    let s : State := fset (fset s F.SAF_STATE_STATE 4) F.SAF_DRY_LEFT_VAL 0
    (fget s F.SAF_STATE_STATE = 4) ∧
      (fget s F.SAF_DRY_LEFT_VAL = 0)) := by
  decide +kernel

theorem witness_SafeStops_5 :
    (let s : State := w0
    let n : Fin 8 := 1
    let s : State := fset s F.SAF_STATE_STATE 3
    let s : State := fset (fset s F.SAF_STATE_MONITOR 0) F.SAF_STATE_CAUSE 0
    let s : State := fset s F.SAF_PSC_ID_EN 1 n
    (safLive s = true) ∧
      (monitorMode s = false) ∧
      (flag s F.SAF_PSC_ID_EN n = true)) := by
  decide +kernel

theorem witness_SafeStops_6 :
    (let s : State := w0
    let s : State := fset s F.SAF_STATE_STATE 3
    let s : State := fset (fset s F.SAF_STATE_MONITOR 0) F.SAF_STATE_CAUSE 0
    (safLive s = true)) := by
  decide +kernel

theorem witness_SafeStops_7 :
    (let s : State := w0
    let s : State := fset s F.SAF_STATE_STATE 3
    let s : State := fset (fset s F.SAF_STATE_MONITOR 0) F.SAF_STATE_CAUSE 0
    (safLive s = true) ∧
      (monitorMode s = false)) := by
  decide +kernel

theorem witness_SafeStops_8 :
    (let s : State := w0
    let s : State := fset s F.SAF_STATE_STATE 3
    let s : State := fset (fset s F.SAF_STATE_MONITOR 0) F.SAF_STATE_CAUSE 0
    (HostOn s R.SAF_CTL.addr) ∧
      (safLive s = true)) := by
  decide +kernel

theorem witness_SafeStops_9 :
    (let s : State := w0
    let s : State := fset (fset s F.SAF_STATE_STATE 2) F.SAF_STATE_CAUSE 0
    (HostOn s R.SAF_CTL.addr) ∧
      (safLive s = false) ∧
      (fget s F.SAF_STATE_CAUSE = 0)) := by
  decide +kernel

set_option synthInstance.maxSize 1024 in
theorem witness_SafeStops_10 :
    (let s : State := w0
    let t0 : Nat := 5
    let c : Fin 32 := 1
    let c : Fin 32 := Fin.ofNat 32 ([4, 6, 9, 15, 16, 18].getD (c.val % 6) 4)
    let s : State := fset s F.SAF_STATE_STATE (3 + t0 % 2)
    let s : State := fset (fset s F.SAF_STATE_MONITOR 0) F.SAF_STATE_CAUSE 0
    let s : State := fset (fset s F.SAF_GEN_RUN_SEL 1022) F.FIO_GRP_STATUS_FIELD_UV 0
    let s : State := (List.range 8).foldl (fun s a => setSax a { s.sax a with p0 := none } (fset s F.SAF_AX_CFG_EN 0 a)) s
    let s : State := (List.range 16).foldl (fun s k => fset s F.SAF_KFB_CFG_EN 0 k) s
    let s : State := (List.range 4).foldl (fun s k => fset (fset s F.PLT_STATUS_OVF 0 k) F.PLT_STATUS_UE 0 k) s
    let s : State := { s with saf := { s.saf with bad := 0 } }
    let s : State := if c = 4 then setSax 2 { s.sax 2 with p0 := some 90000000 } (fset (fset (fset (fset (fset s F.SAF_AX_CFG_EN 1 2) F.SAF_AX_CFG_PRI 1 2) F.FBK_HALL_CFG_EN 1 1) F.SAF_AX_SEL_A_SOS_PERM 1023 2) F.SAF_AX_SOS_WIN_WIN 5 2) else s
    let s : State := if c = 4 then { s with page := [] } else s
    let s : State := if c = 6 then fset (fset s F.SAF_AX_CFG_EN 1 3) F.SAF_AX_CFG_PRI 110 3 else s
    let s : State := if c = 9 then { fset (fset s F.SAF_KFB_CFG_EN 1 7) F.SAF_KFB_CFG_GROUP 0 7 with saf := { s.saf with kfb := 128 } } else s
    let s : State := if c = 15 then fset (fset s F.SAF_GEN_OVF_ACT 1) F.PLT_STATUS_OVF 1 2 else s
    let s : State := if c = 16 then fset (fset s F.SAF_GEN_UE_ACT 1) F.PLT_STATUS_UE 1 2 else s
    let sup : Bool := (c.val == 18)
    (safLive s = true) ∧
      (monitorMode s = false) ∧
      (domainOn s 12 = true) ∧
      (safeBit s (fget s F.SAF_GEN_RUN_SEL) = true) ∧
      (s.saf.bad = 0) ∧
      (causeSeen s sup c) ∧
      (∀ d : Fin 32, d.val < c.val → ¬ causeSeen s sup d)) := by
  decide +kernel

theorem witness_SafeStops_11 :
    (let s : State := w0
    let t0 : Nat := 5
    let n : Nat := 5
    let s : State := fset s F.SAF_STATE_STATE (3 + t0 % 2)
    let s : State := fset (fset s F.SAF_STATE_MONITOR 0) F.SAF_STATE_CAUSE 0
    (safLive s = true) ∧
      (domainOn s 12 = true) ∧
      (s.pwr.sysRet = false) ∧
      (n < 242500 ∨ 257500 < n)) := by
  decide +kernel

theorem witness_SafeStops_12 :
    (let s : State := w0
    let t0 : Nat := 5
    let wrong : Bool := true
    let ue : Bool := true
    let s : State := fset s F.SAF_STATE_STATE (3 + t0 % 2)
    let s : State := fset (fset s F.SAF_STATE_MONITOR 0) F.SAF_STATE_CAUSE 0
    (safLive s = true) ∧
      (domainOn s 12 = true) ∧
      (wrong = true ∨ ue = true)) := by
  decide +kernel

theorem witness_SafeStops_13 :
    (let s : State := w0
    let t0 : Nat := 5
    let k : Fin 16 := 1
    let s : State := fset s F.SAF_STATE_STATE (3 + t0 % 2)
    let s : State := fset (fset s F.SAF_STATE_MONITOR 0) F.SAF_STATE_CAUSE 0
    let s : State := { fset (fset s F.SAF_KFB_CFG_EN 1 k) F.SAF_KFB_CFG_GROUP 0 k with saf := { s.saf with stood := [] } }
    let s : State := fsetBit s F.FIO_KFB_LEVEL k (!kfbExpected s k)
    (safLive s = true) ∧
      (flag s F.SAF_KFB_CFG_EN k = true) ∧
      (fget s F.SAF_KFB_CFG_GROUP k = 0) ∧
      (fbit s F.FIO_KFB_LEVEL k ≠ kfbExpected s k) ∧
      (9 ∉ s.saf.stood)) := by
  decide +kernel

theorem witness_SafetyStates_1 :
    (let s : State := w0
    let t0 : Nat := 5
    let s : State := fset (fset s F.SAF_STATE_STATE 4) F.SAF_DRY_LEFT_VAL (1 + t0 % 30)
    (fget s F.SAF_STATE_STATE = 4) ∧
      (0 < fget s F.SAF_DRY_LEFT_VAL)) := by
  decide +kernel

theorem witness_SafetyStates_2 :
    (let s : State := w0
    let s : State := { fset s F.SAF_STATE_STATE 2 with sys := { s.sys with st := .ready } }
    (HostOn s R.SAF_CTL.addr) ∧
      (fget s F.SAF_STATE_STATE = 0 ∨ fget s F.SAF_STATE_STATE = 2) ∧
      (s.sys.st = .loaded ∨ s.sys.st = .ready ∨ s.sys.st = .safeStop)) := by
  decide +kernel

theorem witness_SafetyStates_3 :
    (let s : State := w0
    let h : Via := ⟨.pcie, 5⟩
    let s : State := fset s F.SAF_STATE_STATE 1
    let s : State := if h.ifc == .pcie then wr s R.SAF_SIG_CALC.addr s.nv.sigConf else s
    (HostOn s R.SAF_CTL.addr) ∧
      (fget s F.SAF_STATE_STATE = 1)) := by
  decide +kernel

theorem witness_SafetyStates_4 :
    (let s : State := w0
    let s : State := fset s F.SAF_GEN_RESET_SRC 0
    (HostOn s R.SAF_CTL.addr) ∧
      (fget s F.SAF_GEN_RESET_SRC = 0)) := by
  decide +kernel

theorem witness_SafetyStates_5 :
    (let s : State := w0
    let s : State := { fset s F.SAF_GEN_RESET_SRC 1 with saf := { s.saf with rst := none } }
    (HostOn s R.SAF_CTL.addr) ∧
      (fget s F.SAF_GEN_RESET_SRC = 1) ∧
      (s.saf.rst = none)) := by
  decide +kernel

theorem witness_SafetyStates_6 :
    (let s : State := w0
    let s : State := wr s R.SAF_STATE.addr (BitVec.ofNat 32 (2 + 2^21 + 2^22))
    let s : State := { s with sys := { s.sys with st := .ready }, saf := { s.saf with bad := 0, rst := some true, bt := none, ofsDue := none } }
    let s : State := fset (fset (fset (fset s F.SAF_GEN_RUN_SEL 1022) F.SAF_GEN_RESET_SEL 1023) F.SAF_GEN_OVF_ACT 0) F.SAF_GEN_UE_ACT 0
    let s : State := (List.range 8).foldl (fun s n => fset (fset s F.SAF_AX_CFG_EN 0 n) F.SAF_PSC_ID_EN 0 n) s
    let s : State := (List.range 16).foldl (fun s n => fset s F.SAF_KFB_CFG_EN 0 n) s
    let s : State := fset (fset s F.PAR_CFG_MODE 1) F.PAR_FEED_STATUS_CLASS 0
    let s : State := { s with tst := { s.tst with ir := 1 } }
    (domainOn s 12 = true) ∧
      (s.saf.rst = some true) ∧
      (resetOk s = true) ∧
      (s.saf.bt = none ∧ s.saf.ofsDue = none) ∧
      (∀ n : Fin 8, ∀ i ∈ secOf s n, pageBit s i 4 = false) ∧
      ((dryCauses s).all (fun c => c.isNone) = true)) := by
  decide +kernel

theorem witness_SafetyStates_7 :
    (let s : State := w0
    let t0 : Nat := 5
    let s : State := fset { s with saf := { s.saf with rst := some (t0 % 2 == 0) } } F.SAF_STATE_STATE 0
    (domainOn s 12 = true) ∧
      (fget s F.SAF_STATE_STATE = 0) ∧
      (s.saf.rst.isSome = true)) := by
  decide +kernel

theorem witness_SafetyStates_8 :
    (let s : State := w0
    let s : State := wr s R.SAF_STATE.addr (BitVec.ofNat 32 (2 + 2^21 + 2^22))
    let s : State := { s with sys := { s.sys with st := .ready }, saf := { s.saf with bad := 0 } }
    let s : State := fset (fset (fset (fset s F.SAF_GEN_RUN_SEL 1022) F.SAF_GEN_RESET_SRC 0) F.SAF_GEN_OVF_ACT 0) F.SAF_GEN_UE_ACT 0
    let s : State := (List.range 8).foldl (fun s n => fset (fset s F.SAF_AX_CFG_EN 0 n) F.SAF_PSC_ID_EN 0 n) s
    let s : State := (List.range 16).foldl (fun s n => fset s F.SAF_KFB_CFG_EN 0 n) s
    let s : State := fset (fset s F.PAR_CFG_MODE 1) F.PAR_FEED_STATUS_CLASS 0
    let s : State := { s with tst := { s.tst with ir := 1 } }
    let s : State := fset s F.SAF_STATE_STATE 4
    (HostOn s R.SAF_CTL.addr) ∧
      (fget s F.SAF_STATE_STATE = 4) ∧
      ((dryCauses s).all (fun c => c.isNone) = true)) := by
  decide +kernel

theorem witness_SafetyStates_9 :
    (let s : State := w0
    let s : State := fset (fset (fset s F.SAF_STATE_STATE 1) F.SAF_STATE_SIG_BUSY 0) F.GLY_STATUS_SAFETY_CLAMP 0
    let v : Word := rd s R.SAF_SIG_CALC.addr
    (HostOn s R.SAF_CONFIRM.addr) ∧
      (fget s F.SAF_STATE_STATE = 1) ∧
      (v = rd s R.SAF_SIG_CALC.addr) ∧
      (flag s F.SAF_STATE_SIG_BUSY = false) ∧
      (flag s F.GLY_STATUS_SAFETY_CLAMP = false)) := by
  decide +kernel

theorem witness_SafetyStates_10 :
    (let s : State := w0
    let v : Word := 5#32
    (HostOn s R.SAF_CONFIRM.addr) ∧
      (fget s F.SAF_STATE_STATE ≠ 1 ∨ v ≠ rd s R.SAF_SIG_CALC.addr ∨ flag s F.SAF_STATE_SIG_BUSY = true ∨ flag s F.GLY_STATUS_SAFETY_CLAMP = true)) := by
  decide +kernel

theorem witness_SafetyStates_11 :
    (let s : State := w0
    let v : Word := 5#32
    let s : State := { s with saf := { s.saf with conf := some v } }
    (s.saf.conf = some v)) := by
  decide +kernel

theorem witness_SafetyStates_12 :
    (let s : State := w0
    let s : State := { s with saf := { s.saf with sig := true } }
    (s.saf.sig = true)) := by
  decide +kernel

theorem witness_SafetyStates_13 :
    (let s : State := w0
    let s : State := wr s R.SAF_STATE.addr (BitVec.ofNat 32 (2 + 2^21 + 2^22))
    let s : State := { s with sys := { s.sys with st := .ready }, saf := { s.saf with bad := 0, rst := some true, bt := none, ofsDue := none } }
    let s : State := fset (fset (fset (fset s F.SAF_GEN_RUN_SEL 1022) F.SAF_GEN_RESET_SEL 1023) F.SAF_GEN_OVF_ACT 0) F.SAF_GEN_UE_ACT 0
    let s : State := (List.range 8).foldl (fun s n => fset (fset s F.SAF_AX_CFG_EN 0 n) F.SAF_PSC_ID_EN 0 n) s
    let s : State := (List.range 16).foldl (fun s n => fset s F.SAF_KFB_CFG_EN 0 n) s
    let s : State := fset (fset s F.PAR_CFG_MODE 1) F.PAR_FEED_STATUS_CLASS 0
    let s : State := { s with tst := { s.tst with ir := 1 } }
    let s : State := fset (fset (fset s F.SAF_PSC_ID_EN 1 3) F.SAF_PS_STATUS_PATH_A_LOST 1 3) F.SAF_PS_STATUS_UP 1 3
    let s : State := (List.range 8).foldl (fun s n => fset s F.SAF_AXST_SEC_LOST 0 n) s
    (domainOn s 12 = true) ∧
      (s.saf.rst = some true) ∧
      (resetOk s = true) ∧
      (s.saf.bt = none ∧ s.saf.ofsDue = none) ∧
      (∀ n : Fin 8, flag s F.SAF_AXST_SEC_LOST n = false) ∧
      ((dryCauses s).any (fun c => c.isSome) = true)) := by
  decide +kernel

set_option synthInstance.maxSize 1024 in
theorem witness_SafetyStates_14 :
    (let s : State := w0
    let s : State := fset (fset (fset s F.SAF_STATE_STATE 4) F.SAF_STATE_DRY 0) F.SAF_DRY_LEFT_VAL 7
    let s : State := fset (fset s F.SAF_STATE_MONITOR 0) F.SAF_GEN_AUTO_RETURN 0
    let s : State := fset (fset s F.SAF_GEN_RUN_SEL 1022) F.FIO_GRP_STATUS_FIELD_UV 0
    let s : State := (List.range 8).foldl (fun s a => setSax a { s.sax a with p0 := none } (fset s F.SAF_AX_CFG_EN 0 a)) s
    let s : State := (List.range 16).foldl (fun s k => fset s F.SAF_KFB_CFG_EN 0 k) s
    let s : State := (List.range 4).foldl (fun s k => fset (fset s F.PLT_STATUS_OVF 0 k) F.PLT_STATUS_UE 0 k) s
    let s : State := { s with saf := { s.saf with bad := 0 } }
    let s : State := fset (fset s F.PAR_CFG_MODE 1) F.PAR_FEED_STATUS_CLASS 0
    let s : State := (List.range 8).foldl (fun s n => fset s F.SAF_PSC_ID_EN 0 n) s
    let s : State := { s with saf := { s.saf with rst := none, bt := none, ofsDue := none, bad := 0, dryAck := true } }
    (domainOn s 12 = true) ∧
      (monitorMode s = false) ∧
      (fget s F.SAF_STATE_STATE = 4 ∧ fget s F.SAF_STATE_DRY = 0 ∧ fget s F.SAF_DRY_LEFT_VAL ≠ 0) ∧
      (flag s F.SAF_GEN_AUTO_RETURN = true ∨ s.saf.dryAck = true) ∧
      (s.saf.rst = none ∧ s.saf.bt = none ∧ s.saf.ofsDue = none ∧ s.saf.bad = 0) ∧
      (safeBit s (fget s F.SAF_GEN_RUN_SEL) = true) ∧
      (∀ d : Fin 32, ¬ causeSeen s false d) ∧
      (∀ n : Fin 8, ∀ i ∈ secOf s n, pageBit s i 4 = false) ∧
      ((dryCauses s).all (fun c => c.isNone) = true)) := by
  decide +kernel

set_option synthInstance.maxSize 1024 in
theorem witness_SafetyStates_15 :
    (let s : State := w0
    let s : State := fset (fset s F.SAF_STATE_STATE 3) F.SAF_STATE_MONITOR 0
    let s : State := fset (fset s F.SAF_GEN_RUN_SEL 1022) F.FIO_GRP_STATUS_FIELD_UV 0
    let s : State := (List.range 8).foldl (fun s a => setSax a { s.sax a with p0 := none } (fset s F.SAF_AX_CFG_EN 0 a)) s
    let s : State := (List.range 16).foldl (fun s k => fset s F.SAF_KFB_CFG_EN 0 k) s
    let s : State := (List.range 4).foldl (fun s k => fset (fset s F.PLT_STATUS_OVF 0 k) F.PLT_STATUS_UE 0 k) s
    let s : State := { s with saf := { s.saf with bad := 0 } }
    let s : State := fset (fset (fset s F.SAF_PSC_ID_EN 1 3) F.SAF_PS_STATUS_PATH_A_LOST 1 3) F.SAF_PS_STATUS_UP 1 3
    let s : State := (List.range 8).foldl (fun s n => fset s F.SAF_AXST_SEC_LOST 0 n) s
    let s : State := { s with saf := { s.saf with rst := none, ofsDue := none, bad := 0 } }
    (domainOn s 12 = true) ∧
      (monitorMode s = false) ∧
      (fget s F.SAF_STATE_STATE = 3) ∧
      ((dryCauses s).any (fun c => c.isSome) = true) ∧
      (s.saf.rst = none ∧ s.saf.ofsDue = none ∧ s.saf.bad = 0 ∧ ∀ n : Fin 8, flag s F.SAF_AXST_SEC_LOST n = false) ∧
      (safeBit s (fget s F.SAF_GEN_RUN_SEL) = true) ∧
      (∀ d : Fin 32, ¬ causeSeen s false d)) := by
  decide +kernel

theorem witness_BrakeTests_1 :
    (let s : State := w0
    let h : Via := ⟨.pcie, 5⟩
    let a : Fin 8 := 1
    let s : State := fset (fset (fset s F.SAF_STATE_STATE 3) F.SAF_AX_CFG_EN 1 a) F.SAF_AX_CFG_SBC 3 a
    let s : State := fset (fset (fsetBit (fsetBit s F.SAF_BRAKE_APPLIED 3 true) F.SAF_BRAKE_STO_ASSERTED 1 false) F.SAF_AX_CFG_STO 1 a) F.SAF_AX_CFG_PRI 2 a
    let s : State := fset (fset (fset s F.SAF_AX_I_RATED_VAL 1 a) F.SAF_AX_BT1_TORQUE 90 a) F.SAF_AX_BT1_DIR (h.ifc.ctorIdx + 1) a
    let s : State := { s with page := [(srcBlock 2 + 7, 1#24)], saf := { s.saf with bt := none } }
    (HostOn s R.SAF_BT_CTL.addr) ∧
      (fget s F.SAF_STATE_STATE = 3) ∧
      (flag s F.SAF_AX_CFG_EN a = true) ∧
      (fget s F.SAF_AX_CFG_SBC a < 8) ∧
      (fbit s F.SAF_BRAKE_APPLIED (fget s F.SAF_AX_CFG_SBC a) = true) ∧
      (fbit s F.SAF_BRAKE_STO_ASSERTED (fget s F.SAF_AX_CFG_STO a) = false) ∧
      (pageBit s (fget s F.SAF_AX_CFG_PRI a) 0 = true) ∧
      (s.saf.bt = none) ∧
      (fgetInt s F.SAF_AX_I_RATED_VAL a * fget s F.SAF_AX_BT1_TORQUE a ≤ 95 * 2 ^ 23)) ∧
    (let s : State := w0
    let a : Fin 8 := 1
    (HostOn s R.SAF_BT_CTL.addr) ∧
      (¬ (fget s F.SAF_STATE_STATE = 3 ∧ flag s F.SAF_AX_CFG_EN a = true ∧ fget s F.SAF_AX_CFG_SBC a < 8 ∧ fbit s F.SAF_BRAKE_APPLIED (fget s F.SAF_AX_CFG_SBC a) = true ∧ fbit s F.SAF_BRAKE_STO_ASSERTED (fget s F.SAF_AX_CFG_STO a) = false ∧ pageBit s (fget s F.SAF_AX_CFG_PRI a) 0 = true ∧ s.saf.bt = none ∧ fgetInt s F.SAF_AX_I_RATED_VAL a * fget s F.SAF_AX_BT1_TORQUE a ≤ 95 * 2 ^ 23))) ∧
    (let s : State := w0
    let a : Fin 8 := 1
    let n : Bool := true
    let p : Int := 7
    let k : Bool := true
    let s : State := { s with saf := { s.saf with bt := some (a.val, n, p, k) } }
    (s.saf.bt = some (a.val, n, p, k))) ∧
    (let s : State := w0
    let a : Fin 8 := 1
    let n : Bool := true
    let p : Int := 7
    let k : Bool := true
    let s : State := { s with saf := { s.saf with bt := some (a.val, n, p, k) } }
    let s : State := fset (fset s F.SAF_AX_BT1_DIR 3 a) F.SAF_BT_STATUS_PHASE 1
    (s.saf.bt = some (a.val, n, p, k)) ∧
      (fget s F.SAF_AX_BT1_DIR a = 3) ∧
      (fget s F.SAF_BT_STATUS_PHASE = 1)) := by
  decide +kernel

theorem witness_BrakeTests_2 :
    (let s : State := w0
    let a : Fin 8 := 1
    let n : Bool := true
    let p : Int := 7
    let k : Bool := true
    let s : State := { s with saf := { s.saf with bt := some (a.val, n, p, k) } }
    let s : State := fset s F.SAF_AX_BT1_DIR 1 a
    (s.saf.bt = some (a.val, n, p, k)) ∧
      (fget s F.SAF_AX_BT1_DIR a ≠ 3 ∨ fget s F.SAF_BT_STATUS_PHASE = 2)) ∧
    (let s : State := w0
    let a : Fin 8 := 1
    let n : Bool := true
    let p : Int := 7
    let k : Bool := true
    let s : State := { s with saf := { s.saf with bt := some (a.val, n, p, k) } }
    (HostOn s R.SAF_BT_CTL.addr) ∧
      (s.saf.bt = some (a.val, n, p, k))) ∧
    (let s : State := w0
    let s : State := { fset s F.SAF_STATE_STATE 1 with nv := { s.nv with btFail := 0xFF } }
    (HostOn s R.SAF_BT_CTL.addr) ∧
      (fget s F.SAF_STATE_STATE = 1)) := by
  decide +kernel

theorem witness_SafetyDiagnostics_1 :
    (let s : State := w0
    let a : Fin 8 := 1
    let s : State := fset (fset (fset (fset (fset s F.SAF_STATE_MONITOR 0) F.SAF_AX_CFG_SEC 2 a) F.FBK_HALL_CFG_EN 1 2) F.SAF_AXST_SEC_LOST 1 a) F.SAF_AX_SDEN_VAL 3 a
    let s : State := { s with page := [(srcBlock 2 + 7, 0x20#24), (srcBlock (fget s F.SAF_AX_CFG_PRI a) + 1, 9#24)] }
    let j : Nat := 2
    let s : State := { s with page := if fget s F.SAF_AX_CFG_PRI a = 2 then [(srcBlock 2 + 7, 0x20#24)] else s.page }
    (secOf s a = some j) ∧
      (flag s F.SAF_AXST_SEC_LOST a = true) ∧
      (monitorMode s = false) ∧
      (pageBit s j 4 = false) ∧
      (pageBit s j 5 = true)) ∧
    (let s : State := w0
    let n : Fin 8 := 1
    let q : Word := 5#32
    let w : PWin := ⟨5, 0, [], false⟩
    let w : PWin := { w with seq := q.toNat }
    let s : State := setPs n { s.ps n with wins := [w], last := if w.used then some 5 else none } s
    ((s.ps n).wins.find? (fun x => x.seq == q.toNat) = some w) ∧
      (w.used = true ∨ seqNew (s.ps n).last w.seq = true)) ∧
    (let s : State := w0
    let k : Fin 16 := 1
    let s : State := fset s F.SAF_KFB_CFG_EN 1 k
    let s := fsetBit s F.FIO_KFB_LEVEL k (!kfbExpected s k)
    (flag s F.SAF_KFB_CFG_EN k = true) ∧
      (fbit s F.FIO_KFB_LEVEL k ≠ kfbExpected s k)) ∧
    (let s : State := w0
    let k : Fin 16 := 1
    let s : State := { fsetBit s F.FIO_KFB_LEVEL k (kfbExpected s k) with saf := { s.saf with kfbChg := 2 ^ k.val } }
    (fbit s F.FIO_KFB_LEVEL k = kfbExpected s k) ∧
      (s.saf.kfbChg.testBit k = true)) := by
  decide +kernel

theorem witness_SafetyDiagnostics_2 :
    (let s : State := w0
    (domainOn s 12 = true)) ∧
    (let s : State := w0
    let n : Nat := 5
    let n : Nat := 242500 + n % 15000
    (domainOn s 12 = true) ∧
      (s.pwr.sysRet = false) ∧
      (242500 ≤ n) ∧
      (n ≤ 257500)) := by
  decide +kernel

theorem witness_FieldInputsOutputs_1 :
    (let s : State := w0
    let t0 : Nat := 5
    let n : Fin 32 := 1
    let s : State := { (fset s F.FIO_CH_CFG_MODE (1 + t0 % 2) n) with pins := { s.pins with funcs := [(0x0C * 1024 + n.val, true)] } }
    (domainOn s 13 = true) ∧
      (fget s F.FIO_CH_CFG_MODE n = 1 ∨ fget s F.FIO_CH_CFG_MODE n = 2) ∧
      (hasBall s 0x0C n = true) ∧
      (s.fio.absent.testBit (fioGroup n) = false)) ∧
    (let s : State := w0
    let k : Fin 16 := 1
    let s : State := { s with pins := { s.pins with funcs := [(0x0F * 1024 + k.val, true)] } }
    (domainOn s 13 = true) ∧
      (hasBall s 0x0F k = true) ∧
      (s.fio.absent.testBit (k / 4) = false)) ∧
    (let s : State := w0
    (HostOn s R.FIO_OUT.addr)) ∧
    (let s : State := w0
    let n : Fin 32 := 1
    let s : State := { (fset (fset (fset (fset s F.FIO_CH_CFG_MODE 3 n) F.FIO_CH_CFG_SRC 0 n) F.FIO_OUT_CMD 0xFFFFFFFF) F.FIO_CH_DIAG_OVL 0 n) with pins := { s.pins with funcs := [(0x0C * 1024 + n.val, true)] } }
    let s : State := fset (fset s F.FIO_CH_DIAG_OT 0 n) F.FIO_GRP_STATUS_FIELD_UV 0 (fioGroup n)
    (fioDriven s n = true)) := by
  decide +kernel

theorem witness_FieldInputsOutputs_2 :
    (let s : State := w0
    let n : Fin 32 := 1
    let s : State := fset s F.FIO_CH_CFG_MODE 3 n
    (domainOn s 13 = true) ∧
      (fget s F.FIO_CH_CFG_MODE n = 3)) ∧
    (let s : State := w0
    let t0 : Nat := 5
    let n : Fin 32 := 1
    let s : State := fset (fset (fset s F.FIO_CH_CFG_MODE 3 n) F.FIO_CH_CFG_OW_EN 1 n) F.FIO_GRP_STATUS_FIELD_WARN 0 (fioGroup n)
    let s : State := if t0 % 2 = 0 then fset s F.FIO_GRP_STATUS_FIELD_UV 0 (fioGroup n) else fset s F.FIO_GRP_STATUS_RECOVERED 1 (fioGroup n)
    let s : State := { s with fio := { s.fio with recAt := [] } }
    (domainOn s 13 = true) ∧
      (fget s F.FIO_CH_CFG_MODE n = 3) ∧
      (flag s F.FIO_CH_CFG_OW_EN n = true) ∧
      (flag s F.FIO_GRP_STATUS_FIELD_WARN (fioGroup n) = false) ∧
      (flag s F.FIO_GRP_STATUS_FIELD_UV (fioGroup n) = true → flag s F.FIO_GRP_STATUS_RECOVERED (fioGroup n) = true) ∧
      (∀ e ∈ s.fio.recAt, e.1 = fioGroup n → e.2 + 25600000000 ≤ clk (advance t0 s))) ∧
    (let s : State := w0
    let n : Fin 32 := 1
    let s : State := fset (fset (fset s F.FIO_CH_CFG_MODE 3 n) F.FIO_CH_CFG_OW_EN 1 n) F.FIO_GRP_STATUS_FIELD_UV 1 (fioGroup n)
    let s : State := fset s F.FIO_GRP_STATUS_RECOVERED 0 (fioGroup n)
    (flag s F.FIO_GRP_STATUS_FIELD_UV (fioGroup n) = true) ∧
      (flag s F.FIO_GRP_STATUS_RECOVERED (fioGroup n) = false)) ∧
    (let s : State := w0
    let t0 : Nat := 5
    let n : Fin 32 := 1
    let b : Nat := 5
    let b : Nat := clk (advance t0 s) - b % 1000
    let s : State := { s with fio := { s.fio with recAt := [(fioGroup n, b)] } }
    (s.fio.recAt.find? (fun e => e.1 == fioGroup n) = some (fioGroup n, b)) ∧
      (clk (advance t0 s) < b + 25600000000)) := by
  decide +kernel

theorem witness_FieldInputsOutputs_3 :
    (let s : State := w0
    let h : Via := ⟨.pcie, 5⟩
    let n : Fin 32 := 1
    (HostOn s (R.FIO_CH_DIAG.at n)) ∧
      (justSet (advance h.t s) (R.FIO_CH_DIAG.at n) = 0#32)) ∧
    (let s : State := w0
    (HostOn s R.FIO_WDT.addr)) ∧
    (let s : State := w0
    let t0 : Nat := 5
    let s : State := fset (fset (fset s F.FIO_WDT_EN 1) F.FIO_STATUS_WDT_EXP 0) F.FIO_WDT_MS 0
    (domainOn s 13 = true) ∧
      (flag s F.FIO_WDT_EN = true) ∧
      (flag s F.FIO_STATUS_WDT_EXP = false) ∧
      (s.fio.wdtAt + 256000000 * fget s F.FIO_WDT_MS ≤ clk (advance t0 s))) ∧
    (let s : State := w0
    let t0 : Nat := 5
    let s : State := fset { s with fio := { s.fio with wdtAt := clk (advance t0 s) } } F.FIO_WDT_MS 5
    (clk (advance t0 s) < s.fio.wdtAt + 256000000 * fget s F.FIO_WDT_MS)) := by
  decide +kernel

theorem witness_FieldInputsOutputs_4 :
    (let s : State := w0
    let h : Via := ⟨.pcie, 5⟩
    (HostOn s R.FIO_STATUS.addr) ∧
      ((justSet (advance h.t s) R.FIO_STATUS.addr).getLsbD 0 = false)) := by
  decide +kernel

theorem witness_SuppliesAndBrakes_1 :
    (let s : State := w0
    let v : BitVec 10 := 3#10
    let v : BitVec 10 := BitVec.ofNat 10 (v.toNat % 200)
    (domainOn s 13 = true) ∧
      (v.toNat < 150)) ∧
    (let s : State := w0
    let v : BitVec 10 := 200#10
    (domainOn s 13 = true) ∧
      (180 ≤ v.toNat)) ∧
    (let s : State := w0
    let g : Fin 4 := 1
    let s : State := fset (fset s F.FIO_GRP_STATUS_FIELD_UV 1 g) F.FIO_GRP_STATUS_VOLT 240 g
    (flag s F.FIO_GRP_STATUS_FIELD_UV g = true) ∧
      (190 < fget s F.FIO_GRP_STATUS_VOLT g)) ∧
    (let s : State := w0
    let g : Fin 4 := 1
    let s : State := fset s F.FIO_GRP_STATUS_RECOVERED 1 g
    (HostOn s (R.FIO_GRP_CTL.at g)) ∧
      (flag s F.FIO_GRP_STATUS_RECOVERED g = true)) := by
  decide +kernel

theorem witness_SuppliesAndBrakes_2 :
    (let s : State := w0
    let g : Fin 4 := 1
    let s : State := fset s F.FIO_GRP_STATUS_RECOVERED 0 g
    (HostOn s (R.FIO_GRP_CTL.at g)) ∧
      (flag s F.FIO_GRP_STATUS_RECOVERED g = false)) ∧
    (let s : State := w0
    let p : Fin 8 := 1
    let s : State := fsetBit s F.SAF_BRAKE_APPLIED p false
    (domainOn s 13 = true) ∧
      (sbcOn s p = true)) ∧
    (let s : State := w0
    (domainOn s 13 = true)) ∧
    (let s : State := w0
    let p : Fin 8 := 1
    let o : Bool := true
    let s : State := fsetBit s F.SAF_BRAKE_APPLIED p false
    (domainOn s 13 = true) ∧
      (o = false ∨ sbcOn s p = true)) := by
  decide +kernel

theorem witness_SuppliesAndBrakes_3 :
    (let s : State := w0
    let n : Fin 8 := 1
    let s : State := fsetBit s F.SAF_BRAKE_STO_ASSERTED n false
    (domainOn s 13 = true) ∧
      (fbit s F.SAF_BRAKE_STO_ASSERTED n = false)) := by
  decide +kernel

theorem witness_TimeBaseCommands_1 :
    (let s : State := w0
    let t0 : Nat := 5
    let s : State := { s with tim := { s.tim with st := .slew, servo := s.tim.incr + 70, slewLeft := 9, slewAt := 0 } }
    let t0 : Nat := t0 + 2 ^ 40
    (s.tim.st = .slew) ∧
      (timLive s = true) ∧
      (s.tim.slewLeft ≤ slewGiven (advance t0 s))) ∧
    (let s : State := w0
    let s : State := fset s F.TIM_STATUS_JUMP_REFUSED 1
    (HostOn s R.TIM_CTL.addr) ∧
      (flag s F.TIM_STATUS_JUMP_REFUSED = true)) ∧
    (let s : State := w0
    let h : Via := ⟨.pcie, 5⟩
    let s : State := fset (fset (fset s F.TIM_SET_L_VAL (lns (advance h.t s) + 5000)) F.TIM_SET_H_VAL ((lns (advance h.t s) + 5000) / 2 ^ 32)) F.TIM_STEP_LIMIT_LIMIT 100000
    let s : State := { s with tim := { s.tim with st := .track, accept := false, xhold := false } }
    let s : State := fset s F.TIM_STEP_MIN_MIN 3
    let d : Int := (fget s F.TIM_SET_L_VAL + 2 ^ 32 * fget s F.TIM_SET_H_VAL : Int) - lns (advance h.t s)
    (HostOn s R.TIM_CTL.addr) ∧
      (s.tim.st = .track ∧ s.tim.accept = false ∧ s.tim.xhold = false) ∧
      (d = (fget s F.TIM_SET_L_VAL + 2 ^ 32 * fget s F.TIM_SET_H_VAL : Int) - lns (advance h.t s)) ∧
      (0 < d ∧ (fget s F.TIM_STEP_MIN_MIN : Int) ≤ d ∧ d ≤ fget s F.TIM_STEP_LIMIT_LIMIT)) ∧
    (let s : State := w0
    let h : Via := ⟨.pcie, 5⟩
    let s : State := fset (fset (fset s F.TIM_SET_L_VAL (lns (advance h.t s) - 5000)) F.TIM_SET_H_VAL ((lns (advance h.t s) - 5000) / 2 ^ 32)) F.TIM_STEP_LIMIT_LIMIT 100000
    let s : State := { s with tim := { s.tim with st := .track, accept := false, xhold := false } }
    let s : State := fset s F.TIM_STEP_MIN_MIN 3
    let d : Int := (fget s F.TIM_SET_L_VAL + 2 ^ 32 * fget s F.TIM_SET_H_VAL : Int) - lns (advance h.t s)
    (HostOn s R.TIM_CTL.addr) ∧
      (s.tim.st = .track ∧ s.tim.accept = false ∧ s.tim.xhold = false) ∧
      (d = (fget s F.TIM_SET_L_VAL + 2 ^ 32 * fget s F.TIM_SET_H_VAL : Int) - lns (advance h.t s)) ∧
      (d < 0 ∧ (fget s F.TIM_STEP_MIN_MIN : Int) ≤ -d ∧ -d ≤ fget s F.TIM_STEP_LIMIT_LIMIT)) := by
  decide +kernel

theorem witness_TimeBaseCommands_2 :
    (let s : State := w0
    let h : Via := ⟨.pcie, 5⟩
    let s : State := fset (fset (fset s F.TIM_SET_L_VAL (lns (advance h.t s) + 500000)) F.TIM_SET_H_VAL ((lns (advance h.t s) + 500000) / 2 ^ 32)) F.TIM_STEP_LIMIT_LIMIT 100000
    let s : State := { s with tim := { s.tim with st := .track, accept := false, xhold := false } }
    let s : State := fset s F.TIM_STEP_MIN_MIN 3
    let d : Int := (fget s F.TIM_SET_L_VAL + 2 ^ 32 * fget s F.TIM_SET_H_VAL : Int) - lns (advance h.t s)
    (HostOn s R.TIM_CTL.addr) ∧
      (s.tim.st = .track ∧ s.tim.accept = false ∧ s.tim.xhold = false) ∧
      (d = (fget s F.TIM_SET_L_VAL + 2 ^ 32 * fget s F.TIM_SET_H_VAL : Int) - lns (advance h.t s)) ∧
      ((fget s F.TIM_STEP_MIN_MIN : Int) ≤ d.natAbs ∧ (fget s F.TIM_STEP_LIMIT_LIMIT : Int) < d.natAbs)) ∧
    (let s : State := w0
    let s : State := { fset s F.TIM_PPS_IN_EN 1 with pins := { s.pins with funcs := [(0x0A * 1024, true), (0x0A * 1024 + 1, true)] } }
    (timLive s = true) ∧
      (flag s F.TIM_PPS_IN_EN = true) ∧
      (hasBall s 0x0A 0 = true)) ∧
    (let s : State := w0
    let t0 : Nat := 5
    let s : State := { fset s F.TIM_PPS_OUT_EN 1 with pins := { s.pins with funcs := [(0x0A * 1024, true), (0x0A * 1024 + 1, true)] } }
    let t0 : Nat := 256000000000 * (2 ^ 40 + t0 % 99)
    (timLive s = true) ∧
      (flag s F.TIM_PPS_OUT_EN = true) ∧
      (hasBall s 0x0A 1 = true) ∧
      ((lns (advance t0 s) + 10) % 1000000000 ≤ 20)) ∧
    (let s : State := w0
    let t0 : Nat := 5
    let s : State := fset s F.TIM_PPS_OUT_EN 1
    (20 < (lns (advance t0 s) + 10) % 1000000000)) := by
  decide +kernel

theorem witness_TimeBaseCommands_3 :
    (let s : State := w0
    let t0 : Nat := 5
    let s : State := { s with pins := { s.pins with ppsOut := true }, since := [] }
    (s.pins.ppsOut = true) ∧
      (quietFor Timed.pps (1000000 * fget s F.TIM_PPS_WIDTH) (advance t0 s) = true)) ∧
    (let s : State := w0
    let t0 : Nat := 5
    let s : State := fset (holdFrom Timed.pps (advance t0 { s with pins := { s.pins with ppsOut := true } })) F.TIM_PPS_WIDTH 5
    (quietFor Timed.pps (1000000 * fget s F.TIM_PPS_WIDTH) (advance t0 s) = false)) ∧
    (let s : State := w0
    (timLive s = true)) := by
  decide +kernel

theorem witness_PtpMeasurement_1 :
    (let s : State := w0
    let t0 : Nat := 5
    let p : Fin 2 := 1
    let m : PtpMsg := ⟨⟨0x191B01#48, 7#48, none, 0#3, none⟩, 0, 9, 0x123450001#80, false, 1000, 5, 0⟩
    let i : Fin 128 := 1
    let s : State := fset (fset (fset (fset s F.NET_CFG_EN 1 p) F.NET_STATUS_LINK 1 p) F.TIM_P_CFG_EN 1 p) F.TIM_P_CFG_UDP 0 p
    let s : State := fset s F.TIM_P_CFG_DOMAIN 0 p
    let s : State := fset (fset (fset (fset s F.PTN_STATE_TYPE 1 i) F.PTN_STATE_PORTS 3 i) F.PTN_MAC_L_ADDR 7 i) F.PTN_MAC_H_ADDR 0 i
    let s : State := { s with net := { s.net with ctx := [] } }
    let m : PtpMsg := { m with link := { dst := 0x191B01, src := 7, vid := none, ip := none }, domain := 0 }
    let s : State := fset s F.TIM_P_CFG_PROFILE 0 p
    let m : PtpMsg := { m with twoStep := false }
    let s : State := { setPort p { s.port p with pstate := 9, parent := m.src, mpd := if t0 % 2 = 0 then none else some 5000 } s with tim := (setPort p { s.port p with pstate := 9, parent := m.src, mpd := if t0 % 2 = 0 then none else some 5000 } s).tim }
    let i : Nat := ((ctxOf s 1 p 7 none).getD 0 : Nat)
    let i : Fin 128 := Fin.ofNat 128 i
    (PtpFrom s p m i) ∧
      (fromParent s p m = true) ∧
      (m.twoStep = false)) ∧
    (let s : State := w0
    let t0 : Nat := 5
    let p : Fin 2 := 1
    let m : PtpMsg := ⟨⟨0x191B01#48, 7#48, none, 0#3, none⟩, 0, 9, 0x123450001#80, false, 1000, 5, 0⟩
    let i : Fin 128 := 1
    let s : State := fset (fset (fset (fset s F.NET_CFG_EN 1 p) F.NET_STATUS_LINK 1 p) F.TIM_P_CFG_EN 1 p) F.TIM_P_CFG_UDP 0 p
    let s : State := fset s F.TIM_P_CFG_DOMAIN 0 p
    let s : State := fset (fset (fset (fset s F.PTN_STATE_TYPE 1 i) F.PTN_STATE_PORTS 3 i) F.PTN_MAC_L_ADDR 7 i) F.PTN_MAC_H_ADDR 0 i
    let s : State := { s with net := { s.net with ctx := [] } }
    let m : PtpMsg := { m with link := { dst := 0x191B01, src := 7, vid := none, ip := none }, domain := 0 }
    let s : State := fset s F.TIM_P_CFG_PROFILE 0 p
    let m : PtpMsg := { m with twoStep := true }
    let s : State := { setPort p { s.port p with pstate := 9, parent := m.src, mpd := if t0 % 2 = 0 then none else some 5000 } s with tim := (setPort p { s.port p with pstate := 9, parent := m.src, mpd := if t0 % 2 = 0 then none else some 5000 } s).tim }
    let i : Nat := ((ctxOf s 1 p 7 none).getD 0 : Nat)
    let i : Fin 128 := Fin.ofNat 128 i
    (PtpFrom s p m i) ∧
      (fromParent s p m = true) ∧
      (m.twoStep = true)) ∧
    (let s : State := w0
    let t0 : Nat := 5
    let p : Fin 2 := 1
    let m : PtpMsg := ⟨⟨0x191B01#48, 7#48, none, 0#3, none⟩, 0, 9, 0x123450001#80, false, 1000, 5, 0⟩
    let i : Fin 128 := 1
    let t2 : Int := 7
    let c : Int := 7
    let s : State := fset (fset (fset (fset s F.NET_CFG_EN 1 p) F.NET_STATUS_LINK 1 p) F.TIM_P_CFG_EN 1 p) F.TIM_P_CFG_UDP 0 p
    let s : State := fset s F.TIM_P_CFG_DOMAIN 0 p
    let s : State := fset (fset (fset (fset s F.PTN_STATE_TYPE 1 i) F.PTN_STATE_PORTS 3 i) F.PTN_MAC_L_ADDR 7 i) F.PTN_MAC_H_ADDR 0 i
    let s : State := { s with net := { s.net with ctx := [] } }
    let m : PtpMsg := { m with link := { dst := 0x191B01, src := 7, vid := none, ip := none }, domain := 0 }
    let s : State := fset s F.TIM_P_CFG_PROFILE 0 p
    let s : State := { setPort p { s.port p with pstate := 9, parent := m.src, mpd := if t0 % 2 = 0 then none else some 5000 } s with tim := (setPort p { s.port p with pstate := 9, parent := m.src, mpd := if t0 % 2 = 0 then none else some 5000 } s).tim }
    let s : State := setPort p { s.port p with sync := some (m.seq.toNat, t2, c) } s
    let i : Nat := ((ctxOf s 1 p 7 none).getD 0 : Nat)
    let i : Fin 128 := Fin.ofNat 128 i
    (PtpFrom s p m i) ∧
      (fromParent s p m = true) ∧
      ((s.port p).sync = some (m.seq.toNat, t2, c))) ∧
    (let s : State := w0
    let t0 : Nat := 5
    let p : Fin 2 := 1
    let m : PtpMsg := ⟨⟨0x191B01#48, 7#48, none, 0#3, none⟩, 0, 9, 0x123450001#80, false, 1000, 5, 0⟩
    let i : Fin 128 := 1
    let t3 : Int := 7
    let e : Int := 7
    let t2 : Int := 7
    let s : State := fset (fset (fset (fset s F.NET_CFG_EN 1 p) F.NET_STATUS_LINK 1 p) F.TIM_P_CFG_EN 1 p) F.TIM_P_CFG_UDP 0 p
    let s : State := fset s F.TIM_P_CFG_DOMAIN 0 p
    let s : State := fset (fset (fset (fset s F.PTN_STATE_TYPE 1 i) F.PTN_STATE_PORTS 3 i) F.PTN_MAC_L_ADDR 7 i) F.PTN_MAC_H_ADDR 0 i
    let s : State := { s with net := { s.net with ctx := [] } }
    let m : PtpMsg := { m with link := { dst := 0x191B01, src := 7, vid := none, ip := none }, domain := 0 }
    let s : State := fset s F.TIM_P_CFG_PROFILE 0 p
    let s : State := { setPort p { s.port p with pstate := 9, parent := m.src, mpd := if t0 % 2 = 0 then none else some 5000 } s with tim := (setPort p { s.port p with pstate := 9, parent := m.src, mpd := if t0 % 2 = 0 then none else some 5000 } s).tim }
    let s : State := setPort p { s.port p with req := some (m.seq.toNat, t3), last := some (e, t2) } s
    let m : PtpMsg := { m with req := portId s p }
    let i : Nat := ((ctxOf s 1 p 7 none).getD 0 : Nat)
    let i : Fin 128 := Fin.ofNat 128 i
    (PtpFrom s p m i) ∧
      (fromParent s p m = true) ∧
      (profile s p = 0) ∧
      ((s.port p).req = some (m.seq.toNat, t3)) ∧
      ((s.port p).last = some (e, t2)) ∧
      (m.req = portId s p)) := by
  decide +kernel

theorem witness_PtpMeasurement_2 :
    (let s : State := w0
    let t0 : Nat := 5
    let p : Fin 2 := 1
    let m : PtpMsg := ⟨⟨0x191B01#48, 7#48, none, 0#3, none⟩, 0, 9, 0x123450001#80, false, 1000, 5, 0⟩
    let i : Fin 128 := 1
    let t1 : Int := 7
    let s : State := fset (fset (fset (fset s F.NET_CFG_EN 1 p) F.NET_STATUS_LINK 1 p) F.TIM_P_CFG_EN 1 p) F.TIM_P_CFG_UDP 0 p
    let s : State := fset s F.TIM_P_CFG_DOMAIN 0 p
    let s : State := fset (fset (fset (fset s F.PTN_STATE_TYPE 1 i) F.PTN_STATE_PORTS 3 i) F.PTN_MAC_L_ADDR 7 i) F.PTN_MAC_H_ADDR 0 i
    let s : State := { s with net := { s.net with ctx := [] } }
    let m : PtpMsg := { m with link := { dst := 0x191B01, src := 7, vid := none, ip := none }, domain := 0 }
    let s : State := fset s F.TIM_P_CFG_PROFILE (1 + t0 % 2) p
    let s : State := setPort p { s.port p with req := some (m.seq.toNat, t1) } s
    let m : PtpMsg := { m with req := portId s p, twoStep := false }
    let i : Nat := ((ctxOf s 1 p 7 none).getD 0 : Nat)
    let i : Fin 128 := Fin.ofNat 128 i
    (PtpFrom s p m i) ∧
      (profile s p ≠ 0) ∧
      ((s.port p).req = some (m.seq.toNat, t1)) ∧
      (m.req = portId s p) ∧
      (m.twoStep = false)) ∧
    (let s : State := w0
    let t0 : Nat := 5
    let p : Fin 2 := 1
    let m : PtpMsg := ⟨⟨0x191B01#48, 7#48, none, 0#3, none⟩, 0, 9, 0x123450001#80, false, 1000, 5, 0⟩
    let i : Fin 128 := 1
    let t1 : Int := 7
    let t2 : Int := 7
    let t4 : Int := 7
    let c : Int := 7
    let s : State := fset (fset (fset (fset s F.NET_CFG_EN 1 p) F.NET_STATUS_LINK 1 p) F.TIM_P_CFG_EN 1 p) F.TIM_P_CFG_UDP 0 p
    let s : State := fset s F.TIM_P_CFG_DOMAIN 0 p
    let s : State := fset (fset (fset (fset s F.PTN_STATE_TYPE 1 i) F.PTN_STATE_PORTS 3 i) F.PTN_MAC_L_ADDR 7 i) F.PTN_MAC_H_ADDR 0 i
    let s : State := { s with net := { s.net with ctx := [] } }
    let m : PtpMsg := { m with link := { dst := 0x191B01, src := 7, vid := none, ip := none }, domain := 0 }
    let s : State := fset s F.TIM_P_CFG_PROFILE (1 + t0 % 2) p
    let s : State := setPort p { s.port p with req := some (m.seq.toNat, t1), presp := some (m.seq.toNat, t2, t4, c) } s
    let m : PtpMsg := { m with req := portId s p }
    let i : Nat := ((ctxOf s 1 p 7 none).getD 0 : Nat)
    let i : Fin 128 := Fin.ofNat 128 i
    (PtpFrom s p m i) ∧
      (profile s p ≠ 0) ∧
      ((s.port p).req = some (m.seq.toNat, t1)) ∧
      ((s.port p).presp = some (m.seq.toNat, t2, t4, c)) ∧
      (m.req = portId s p)) := by
  decide +kernel

theorem witness_PtpMastership_1 :
    (let s : State := w0
    let p : Fin 2 := 1
    let m : AnnMsg := ⟨⟨⟨0x191B01#48, 7#48, none, 0#3, none⟩, 0, 9, 0x123450001#80, false, 1000, 5, 0⟩, ⟨1, 2, 3, 4, 5, 6, 7⟩, 8, true, 1, []⟩
    let i : Fin 128 := 1
    let s : State := fset (fset (fset (fset s F.NET_CFG_EN 1 p) F.NET_STATUS_LINK 1 p) F.TIM_P_CFG_EN 1 p) F.TIM_P_CFG_UDP 0 p
    let s : State := fset s F.TIM_P_CFG_DOMAIN 0 p
    let s : State := fset (fset (fset (fset s F.PTN_STATE_TYPE 1 i) F.PTN_STATE_PORTS 3 i) F.PTN_MAC_L_ADDR 7 i) F.PTN_MAC_H_ADDR 0 i
    let s : State := { s with net := { s.net with ctx := [] } }
    let m : AnnMsg := { m with msg := { m.msg with link := { dst := 0x191B01, src := 7, vid := none, ip := none }, domain := 0 }, gm := { m.gm with steps := 3 } }
    let s : State := fset s F.TIM_P_CFG_PROFILE 0 p
    let s : State := setPort p { s.port p with gm := none } s
    let i : Nat := ((ctxOf s 1 p 7 none).getD 0 : Nat)
    let i : Fin 128 := Fin.ofNat 128 i
    (PtpFrom s p m.msg i) ∧
      ((s.port p).gm = none) ∧
      (asOk s p = true) ∧
      (m.msg.src.toNat / 65536 ≠ (clockId s p).toNat ∧ m.gm.steps.toNat < 255 ∧ clockId s p ∉ m.path)) ∧
    (let s : State := w0
    let t0 : Nat := 5
    let p : Fin 2 := 1
    let s : State := fset (fset (fset (fset s F.NET_CFG_EN 1 p) F.NET_STATUS_LINK 1 p) F.TIM_P_CFG_EN 1 p) F.TIM_P_CFG_UDP 0 p
    let s : State := fset s F.TIM_P_CFG_DOMAIN 0 p
    let s : State := setPort p { s.port p with pstate := if t0 % 2 = 0 then 4 else 9 } s
    (ptpOn s p = true) ∧
      ((s.port p).pstate = 4 ∨ (s.port p).pstate = 7 ∨ (s.port p).pstate = 9)) ∧
    (let s : State := w0
    let t0 : Nat := 5
    let p : Fin 2 := 1
    let s : State := fset (fset (fset (fset s F.NET_CFG_EN 1 p) F.NET_STATUS_LINK 1 p) F.TIM_P_CFG_EN 1 p) F.TIM_P_CFG_UDP 0 p
    let s : State := fset s F.TIM_P_CFG_DOMAIN 0 p
    let s : State := setPort p { s.port p with pstate := 9 } s
    (ptpOn s p = true) ∧
      ((s.port p).pstate = 9) ∧
      (∀ x, (s.port p).ofsAt = some x → x + 3 * syncIntv s p ≤ clk (advance t0 s))) ∧
    (let s : State := w0
    let p : Fin 2 := 1
    let s : State := fset (fset (fset (fset s F.NET_CFG_EN 1 p) F.NET_STATUS_LINK 1 p) F.TIM_P_CFG_EN 1 p) F.TIM_P_CFG_UDP 0 p
    let s : State := fset s F.TIM_P_CFG_DOMAIN 0 p
    let s : State := setPort p { s.port p with pstate := 6 } s
    (ptpOn s p = true) ∧
      ((s.port p).pstate = 6)) := by
  decide +kernel

theorem witness_PtpMastership_2 :
    (let s : State := w0
    let p : Fin 2 := 1
    let s : State := fset (fset (fset (fset s F.NET_CFG_EN 1 p) F.NET_STATUS_LINK 1 p) F.TIM_P_CFG_EN 1 p) F.TIM_P_CFG_UDP 0 p
    let s : State := fset s F.TIM_P_CFG_DOMAIN 0 p
    let s : State := setPort p { s.port p with pstate := 6 } s
    (ptpOn s p = true) ∧
      ((s.port p).pstate = 6)) ∧
    (let s : State := w0
    let p : Fin 2 := 1
    let s : State := fset (fset (fset (fset s F.NET_CFG_EN 1 p) F.NET_STATUS_LINK 1 p) F.TIM_P_CFG_EN 1 p) F.TIM_P_CFG_UDP 0 p
    let s : State := fset s F.TIM_P_CFG_DOMAIN 0 p
    let s : State := setPort p { s.port p with pstate := 9 } s
    let s : State := fset s F.TIM_P_CFG_PROFILE 0 p
    (ptpOn s p = true) ∧
      (profile s p = 0) ∧
      ((s.port p).pstate = 9)) ∧
    (let s : State := w0
    let t0 : Nat := 5
    let p : Fin 2 := 1
    let s : State := fset (fset (fset (fset s F.NET_CFG_EN 1 p) F.NET_STATUS_LINK 1 p) F.TIM_P_CFG_EN 1 p) F.TIM_P_CFG_UDP 0 p
    let s : State := fset s F.TIM_P_CFG_DOMAIN 0 p
    let s : State := fset s F.TIM_P_CFG_PROFILE (1 + t0 % 2) p
    (ptpOn s p = true) ∧
      (profile s p ≠ 0)) ∧
    (let s : State := w0
    let p : Fin 2 := 1
    let m : PtpMsg := ⟨⟨0x191B01#48, 7#48, none, 0#3, none⟩, 0, 9, 0x123450001#80, false, 1000, 5, 0⟩
    let i : Fin 128 := 1
    let s : State := fset (fset (fset (fset s F.NET_CFG_EN 1 p) F.NET_STATUS_LINK 1 p) F.TIM_P_CFG_EN 1 p) F.TIM_P_CFG_UDP 0 p
    let s : State := fset s F.TIM_P_CFG_DOMAIN 0 p
    let s : State := fset (fset (fset (fset s F.PTN_STATE_TYPE 1 i) F.PTN_STATE_PORTS 3 i) F.PTN_MAC_L_ADDR 7 i) F.PTN_MAC_H_ADDR 0 i
    let s : State := { s with net := { s.net with ctx := [] } }
    let m : PtpMsg := { m with link := { dst := 0x191B01, src := 7, vid := none, ip := none }, domain := 0 }
    let s : State := fset s F.TIM_P_CFG_PROFILE 0 p
    let s : State := setPort p { s.port p with pstate := 6 } s
    let i : Nat := ((ctxOf s 1 p 7 none).getD 0 : Nat)
    let i : Fin 128 := Fin.ofNat 128 i
    (PtpFrom s p m i) ∧
      (profile s p = 0) ∧
      ((s.port p).pstate = 6)) := by
  decide +kernel

theorem witness_PtpMastership_3 :
    (let s : State := w0
    let t0 : Nat := 5
    let p : Fin 2 := 1
    let m : PtpMsg := ⟨⟨0x191B01#48, 7#48, none, 0#3, none⟩, 0, 9, 0x123450001#80, false, 1000, 5, 0⟩
    let i : Fin 128 := 1
    let s : State := fset (fset (fset (fset s F.NET_CFG_EN 1 p) F.NET_STATUS_LINK 1 p) F.TIM_P_CFG_EN 1 p) F.TIM_P_CFG_UDP 0 p
    let s : State := fset s F.TIM_P_CFG_DOMAIN 0 p
    let s : State := fset (fset (fset (fset s F.PTN_STATE_TYPE 1 i) F.PTN_STATE_PORTS 3 i) F.PTN_MAC_L_ADDR 7 i) F.PTN_MAC_H_ADDR 0 i
    let s : State := { s with net := { s.net with ctx := [] } }
    let m : PtpMsg := { m with link := { dst := 0x191B01, src := 7, vid := none, ip := none }, domain := 0 }
    let s : State := fset s F.TIM_P_CFG_PROFILE (1 + t0 % 2) p
    let i : Nat := ((ctxOf s 1 p 7 none).getD 0 : Nat)
    let i : Fin 128 := Fin.ofNat 128 i
    (PtpFrom s p m i) ∧
      (profile s p ≠ 0)) ∧
    (let s : State := w0
    let p : Fin 2 := 1
    let l : Link := ⟨0xFFFFFFFFFFFF#48, 7#48, none, 0#3, none⟩
    let s : State := fset (fset (fset (fset s F.NET_CFG_EN 1 p) F.NET_STATUS_LINK 1 p) F.TIM_P_CFG_EN 1 p) F.TIM_P_CFG_UDP 0 p
    let s : State := fset s F.TIM_P_CFG_DOMAIN 0 p
    let l : Link := { l with dst := 0x191B01, vid := none }
    (portLive s p = true) ∧
      (flag s F.TIM_P_CFG_EN p = true) ∧
      (l.vid = none) ∧
      (l.dst.toNat ∈ ptpMacs)) := by
  decide +kernel

theorem witness_ImpositionWork_1 :
    (let s : State := w0
    let i : Fin 512 := 1
    let s : State := { fset (fset (fset s F.IMP_LAY_BASE_INDEX 256) F.IMP_DESC_BASE_INDEX 8192) F.IMP_VAL_BASE_INDEX 16384 with mem := [], poison := [], pwr := { s.pwr with areas := [] } }
    let s : State := setMemNat s (sramAt (256 + 4 * i + 0)) (1 + 2 * 0 + 4 * 2 + 16 * 0 + 128 * 0 + 16384 * 0 + 32768 * 0 + 65536 * 8) 4
    let s : State := setMemNat s (sramAt (256 + 4 * i + 1)) (0x40005) 4
    let s : State := setMemNat s (sramAt (256 + 4 * i + 2)) (0) 4
    let s : State := setMemNat s (sramAt (256 + 4 * i + 3)) (77) 4
    let s : State := setLay i { s.lay i with en := true } s
    let s : State := { s with sys := { s.sys with st := .run } }
    let s : State := { s with net := { s.net with work := [] } }
    (s.sys.st ≠ .doze) ∧
      ((s.lay i).en = true ∧ layRx s i = false) ∧
      (s.net.work = [])) ∧
    (let s : State := w0
    let i : Fin 512 := 1
    let r : List Work := [⟨1, 0, 5, none⟩]
    let s : State := { fset (fset (fset s F.IMP_LAY_BASE_INDEX 256) F.IMP_DESC_BASE_INDEX 8192) F.IMP_VAL_BASE_INDEX 16384 with mem := [], poison := [], pwr := { s.pwr with areas := [] } }
    let s : State := setMemNat s (sramAt (256 + 4 * i + 0)) (1 + 2 * 0 + 4 * 2 + 16 * 0 + 128 * 0 + 16384 * 0 + 32768 * 0 + 65536 * 8) 4
    let s : State := setMemNat s (sramAt (256 + 4 * i + 1)) (0x40005) 4
    let s : State := setMemNat s (sramAt (256 + 4 * i + 2)) (0) 4
    let s : State := setMemNat s (sramAt (256 + 4 * i + 3)) (77) 4
    let s : State := setLay i { s.lay i with en := true } s
    let s : State := { s with sys := { s.sys with st := .run } }
    let w : Work := ⟨i, 0, 5, none⟩
    let s : State := { s with net := { s.net with work := w :: r } }
    (s.sys.st ≠ .doze) ∧
      ((s.lay i).en = true ∧ layRx s i = false) ∧
      (s.net.work = w :: r) ∧
      (w.lay = i.val ∧ w.rx = none)) ∧
    (let s : State := w0
    let i : Fin 512 := 1
    let q : Nat := 5
    let pay : List Byte := [7#8]
    let r : List Work := [⟨1, 0, 5, none⟩]
    let s : State := { fset (fset (fset s F.IMP_LAY_BASE_INDEX 256) F.IMP_DESC_BASE_INDEX 8192) F.IMP_VAL_BASE_INDEX 16384 with mem := [], poison := [], pwr := { s.pwr with areas := [] } }
    let s : State := setMemNat s (sramAt (256 + 4 * i + 0)) (1 + 2 * 1 + 4 * 2 + 16 * 0 + 128 * 0 + 16384 * 0 + 32768 * 0 + 65536 * 8) 4
    let s : State := setMemNat s (sramAt (256 + 4 * i + 1)) (0x40005) 4
    let s : State := setMemNat s (sramAt (256 + 4 * i + 2)) (0) 4
    let s : State := setMemNat s (sramAt (256 + 4 * i + 3)) (77) 4
    let s : State := setMemNat s (sramAt (8192 + 10)) (0x40 + 11 + 32 * (q % 2) + 3 * 0x20000) 4
    let s : State := setLay i { s.lay i with en := true } s
    let w : Work := ⟨i, 0, 5, some (q, pay)⟩
    let s : State := { s with net := { s.net with work := w :: r } }
    (s.sys.st ≠ .doze) ∧
      (s.net.work = w :: r) ∧
      (w.lay = i.val ∧ w.rx = some (q, pay)) ∧
      ((s.lay i).en = true) ∧
      (layCount s i = 1 ∧ layMark s i = false) ∧
      (impPeek s (fget s F.IMP_DESC_BASE_INDEX + 2 * layFirst s i) / 64 % 4 = 1) ∧
      (poisoned s (sramAt (fget s F.IMP_DESC_BASE_INDEX + 2 * layFirst s i)) = false)) ∧
    (let s : State := w0
    let i : Fin 512 := 1
    let r : List Work := [⟨1, 0, 5, none⟩]
    let q : Nat := 5
    let s : State := { fset (fset (fset s F.IMP_LAY_BASE_INDEX 256) F.IMP_DESC_BASE_INDEX 8192) F.IMP_VAL_BASE_INDEX 16384 with mem := [], poison := [], pwr := { s.pwr with areas := [] } }
    let s : State := setMemNat s (sramAt (256 + 4 * i + 0)) (1 + 2 * 0 + 4 * 2 + 16 * (q % 3) + 128 * 0 + 16384 * 0 + 32768 * 0 + 65536 * 8) 4
    let s : State := setMemNat s (sramAt (256 + 4 * i + 1)) (0x40005) 4
    let s : State := setMemNat s (sramAt (256 + 4 * i + 2)) (0) 4
    let s : State := setMemNat s (sramAt (256 + 4 * i + 3)) (77) 4
    let s : State := setMemNat s (sramAt (8192 + 10)) (0x80 + 11 + 32 * (q % 2) + 3 * 0x20000) 4
    let s : State := setLay i { s.lay i with en := true, last := some q } s
    let w : Work := ⟨i, 0, 5, none⟩
    let s : State := { s with net := { s.net with work := w :: r } }
    let s : State := fset (fset s F.NET_CFG_EN 1 0) F.NET_STATUS_LINK 1 0
    (s.sys.st ≠ .doze) ∧
      (s.net.work = w :: r) ∧
      (w.lay = i.val ∧ w.rx = none) ∧
      ((s.lay i).en = true) ∧
      (layRoute s i < 3 ∧ layClass s i ≠ 3) ∧
      ((s.lay i).last = some q)) := by
  decide +kernel

theorem witness_ImpositionWork_2 :
    (let s : State := w0
    let i : Fin 512 := 1
    let s : State := { fset (fset (fset s F.IMP_LAY_BASE_INDEX 256) F.IMP_DESC_BASE_INDEX 8192) F.IMP_VAL_BASE_INDEX 16384 with mem := [], poison := [], pwr := { s.pwr with areas := [] } }
    let s : State := setMemNat s (sramAt (256 + 4 * i + 0)) (1 + 2 * 1 + 4 * 2 + 16 * 0 + 128 * 0 + 16384 * 0 + 32768 * 0 + 65536 * 8) 4
    let s : State := setMemNat s (sramAt (256 + 4 * i + 1)) (0x40005) 4
    let s : State := setMemNat s (sramAt (256 + 4 * i + 2)) (0x400) 4
    let s : State := setMemNat s (sramAt (256 + 4 * i + 3)) (77) 4
    let s : State := setLay i { s.lay i with en := true, lost := false } s
    let s : State := { s with sys := { s.sys with st := .run } }
    (s.sys.st ≠ .doze) ∧
      ((s.lay i).en = true ∧ layRx s i = true ∧ layWd s i ≠ 0 ∧ (s.lay i).lost = false) ∧
      (layBits s i 0 14 1 = 0)) ∧
    (let s : State := w0
    let i : Fin 512 := 1
    let p : Fin 2 := 1
    let s : State := { fset (fset (fset s F.IMP_LAY_BASE_INDEX 256) F.IMP_DESC_BASE_INDEX 8192) F.IMP_VAL_BASE_INDEX 16384 with mem := [], poison := [], pwr := { s.pwr with areas := [] } }
    let s : State := setMemNat s (sramAt (256 + 4 * i + 0)) (1 + 2 * 1 + 4 * 2 + 16 * 2 + 128 * 0 + 16384 * 0 + 32768 * 0 + 65536 * 8) 4
    let s : State := setMemNat s (sramAt (256 + 4 * i + 1)) (0x40005) 4
    let s : State := setMemNat s (sramAt (256 + 4 * i + 2)) (0x400) 4
    let s : State := setMemNat s (sramAt (256 + 4 * i + 3)) (77) 4
    let s : State := setLay i { s.lay i with en := true, pathA := false, pathB := false } s
    let s : State := { s with sys := { s.sys with st := .run } }
    (s.sys.st ≠ .doze) ∧
      ((s.lay i).en = true ∧ layRx s i = true ∧ layRoute s i = 2 ∧ layWd s i ≠ 0) ∧
      ((if p = 0 then (s.lay i).pathA else (s.lay i).pathB) = false)) := by
  decide +kernel

theorem witness_FramesReceived_1 :
    (let s : State := w0
    let p : Fin 2 := 1
    let i : Fin 512 := 1
    let q : Nat := 5
    let s : State := { s with sys := { s.sys with st := .run } }
    let s : State := (fun s => fset (fset s F.NET_CFG_EN 1 p) F.NET_STATUS_LINK 1 p) s
    let s : State := fset (fset (fset (fset (fset { s with net := { s.net with ctx := [] } } F.PTN_STATE_TYPE 2 0) F.PTN_STATE_PORTS 3 0) F.PTN_MAC_L_ADDR 7 0) F.PTN_MAC_H_ADDR 0 0) F.PTN_STATE_AUTH 0 0
    let s : State := { fset (fset (fset s F.IMP_LAY_BASE_INDEX 256) F.IMP_DESC_BASE_INDEX 8192) F.IMP_VAL_BASE_INDEX 16384 with mem := [], poison := [], pwr := { s.pwr with areas := [] } }
    let s : State := setMemNat s (sramAt (256 + 4 * i + 0)) (1 + 2 * 1 + 4 * 2 + 16 * p.val + 128 * 0 + 16384 * 0 + 32768 * 0 + 65536 * 8) 4
    let s : State := setMemNat s (sramAt (256 + 4 * i + 1)) (0x40005) 4
    let s : State := setMemNat s (sramAt (256 + 4 * i + 2)) (0) 4
    let s : State := setMemNat s (sramAt (256 + 4 * i + 3)) (77) 4
    let s : State := setLay i { s.lay i with en := true, last := some q } s
    let s : State := fset s F.NET_ETYPE_ETYPE 0x88B5 p
    let f : List Byte := leBytes 6 macAll ++ leBytes 6 7 ++ beBytes 2 (fget s F.NET_ETYPE_ETYPE p) ++ [1#8, 1#8, 0#8, 0#8] ++ leBytes 2 (77) ++ leBytes 2 8 ++ leBytes 4 (q + 5) ++ leBytes 12 0 ++ (List.replicate 8 3#8) ++ List.replicate 20 0#8
    let c : Nat := (ctxOf s 2 p 7 none).getD 0
    let c : Fin 128 := Fin.ofNat 128 c
    (portLive s p = true) ∧
      ((parseEth f).dst = macAll ∧ (parseEth f).vid = none ∧ (parseEth f).et ≠ 0x8808) ∧
      (isFolio s p (parseEth f) = true ∧ f.length ≤ 1514) ∧
      ((parseFolio (parseEth f).pay).ver = 1 ∧ (parseFolio (parseEth f).pay).kind = 1 ∧ (parseFolio (parseEth f).pay).whole (parseEth f).pay = true) ∧
      (ctxOf s 2 p (parseEth f).src (parseEth f).ip = some c.val) ∧
      ((s.lay i).last = some q) ∧
      (layNamed s p (parseEth f).src (parseEth f).ip (parseFolio (parseEth f).pay).fid = [i.val]) ∧
      ((parseFolio (parseEth f).pay).len = layLen s i ∧ (parseFolio (parseEth f).pay).auth = layAuth s i ∧ layAuth s i = false) ∧
      (seqNew (some q) (parseFolio (parseEth f).pay).seq = true)) ∧
    (let s : State := w0
    let t0 : Nat := 5
    let p : Fin 2 := 1
    let n : Fin 8 := 1
    let s : State := { s with sys := { s.sys with st := .run } }
    let s : State := (fun s => fset (fset s F.NET_CFG_EN 1 p) F.NET_STATUS_LINK 1 p) s
    let s : State := fset (fset (fset (fset (fset { s with net := { s.net with ctx := [] } } F.PTN_STATE_TYPE 3 0) F.PTN_STATE_PORTS 3 0) F.PTN_MAC_L_ADDR 7 0) F.PTN_MAC_H_ADDR 0 0) F.PTN_STATE_AUTH 0 0
    let s : State := fset (fset (fset (fset s F.SAF_PSC_ID_EN 1 n) F.SAF_PSC_ID_SESSION (900 + n) n) F.SAF_PSC_ID_CTX 0 n) F.SAF_PSC_CHECK_MAX_AGE 50 n
    let s : State := setPs n { s.ps n with wins := [] } (fset s (pathFld (1 - p.val)) (if t0 % 3 = 0 then 1 else 0) n)
    let s : State := fset s F.NET_ETYPE_ETYPE 0x88B5 p
    let f : List Byte := leBytes 6 macAll ++ leBytes 6 7 ++ beBytes 2 (fget s F.NET_ETYPE_ETYPE p) ++ [1#8, 2#8, 0#8, 0#8] ++ leBytes 2 (900 + n) ++ leBytes 2 32 ++ leBytes 4 (t0) ++ leBytes 12 0 ++ proofPdu (900 + n) (((s.ps n).last.getD 4) + 1 + t0 % 5) (lns (advance t0 s)) ++ List.replicate 20 0#8
    (portLive s p = true) ∧
      ((parseEth f).dst = macAll ∧ (parseEth f).vid = none ∧ (parseEth f).et ≠ 0x8808) ∧
      (isFolio s p (parseEth f) = true ∧ f.length ≤ 1514) ∧
      ((parseFolio (parseEth f).pay).ver = 1 ∧ (parseFolio (parseEth f).pay).kind = 2 ∧ (parseFolio (parseEth f).pay).whole (parseEth f).pay = true) ∧
      (psOfFrame s p (parseEth f).src (parseEth f).ip (parseFolio (parseEth f).pay).fid = some n.val) ∧
      (flag s F.PTN_STATE_AUTH (fget s F.SAF_PSC_ID_CTX n) = false) ∧
      ((parseFolio (parseEth f).pay).payload.length = 32 ∧ leAt (parseFolio (parseEth f).pay).payload 0 1 = 1 ∧ leAt (parseFolio (parseEth f).pay).payload 1 1 = 0 ∧ leAt (parseFolio (parseEth f).pay).payload 2 2 = fget s F.SAF_PSC_ID_SESSION n) ∧
      (crc32c ((parseFolio (parseEth f).pay).payload.take 16) = leAt (parseFolio (parseEth f).pay).payload 16 4 ∧ crc32c (slice (parseFolio (parseEth f).pay).payload 20 8) = leAt (parseFolio (parseEth f).pay).payload 28 4) ∧
      (leAt (parseFolio (parseEth f).pay).payload 20 8 ≤ lns (advance t0 s) ∧ lns (advance t0 s) ≤ leAt (parseFolio (parseEth f).pay).payload 20 8 + 1000 * fget s F.SAF_PSC_CHECK_MAX_AGE n) ∧
      (seqNew (s.ps n).last (leAt (parseFolio (parseEth f).pay).payload 4 4) = true ∧ (s.ps n).wins = [])) := by
  decide +kernel

theorem witness_FramesReceived_2 :
    (let s : State := w0
    let t0 : Nat := 5
    let p : Fin 2 := 1
    let n : Fin 8 := 1
    let q : Nat := 5
    let s : State := { s with sys := { s.sys with st := .run } }
    let s : State := (fun s => fset (fset s F.NET_CFG_EN 1 p) F.NET_STATUS_LINK 1 p) s
    let s : State := fset (fset (fset (fset (fset { s with net := { s.net with ctx := [] } } F.PTN_STATE_TYPE 3 0) F.PTN_STATE_PORTS 3 0) F.PTN_MAC_L_ADDR 7 0) F.PTN_MAC_H_ADDR 0 0) F.PTN_STATE_AUTH 0 0
    let s : State := fset (fset (fset (fset s F.SAF_PSC_ID_EN 1 n) F.SAF_PSC_ID_SESSION (900 + n) n) F.SAF_PSC_ID_CTX 0 n) F.SAF_STATE_STATE 3
    let s : State := fset s F.NET_ETYPE_ETYPE 0x88B5 p
    let q : Nat := q % 1000
    let s : State := setPs n { s.ps n with last := some q, wins := [] } s
    let f : List Byte := leBytes 6 macAll ++ leBytes 6 7 ++ beBytes 2 (fget s F.NET_ETYPE_ETYPE p) ++ [1#8, 2#8, 0#8, 0#8] ++ leBytes 2 (900 + n) ++ leBytes 2 32 ++ leBytes 4 (t0) ++ leBytes 12 0 ++ (leBytes 4 0x40001 ++ leBytes 28 q) ++ List.replicate 20 0#8
    (portLive s p = true) ∧
      ((parseEth f).dst = macAll ∧ (parseEth f).vid = none ∧ (parseEth f).et ≠ 0x8808) ∧
      (isFolio s p (parseEth f) = true ∧ f.length ≤ 1514) ∧
      ((parseFolio (parseEth f).pay).ver = 1 ∧ (parseFolio (parseEth f).pay).kind = 2 ∧ (parseFolio (parseEth f).pay).whole (parseEth f).pay = true) ∧
      (psOfFrame s p (parseEth f).src (parseEth f).ip (parseFolio (parseEth f).pay).fid = some n.val) ∧
      (flag s F.PTN_STATE_AUTH (fget s F.SAF_PSC_ID_CTX n) = false) ∧
      ((s.ps n).last = some q ∧ seqNew (some q) (leAt (parseFolio (parseEth f).pay).payload 4 4) = false ∧ (s.ps n).wins = [])) ∧
    (let s : State := w0
    let t0 : Nat := 5
    let p : Fin 2 := 1
    let n : Fin 8 := 1
    let w : PWin := ⟨5, 0, [], false⟩
    let s : State := { s with sys := { s.sys with st := .run } }
    let s : State := (fun s => fset (fset s F.NET_CFG_EN 1 p) F.NET_STATUS_LINK 1 p) s
    let s : State := fset (fset (fset (fset (fset { s with net := { s.net with ctx := [] } } F.PTN_STATE_TYPE 3 0) F.PTN_STATE_PORTS 3 0) F.PTN_MAC_L_ADDR 7 0) F.PTN_MAC_H_ADDR 0 0) F.PTN_STATE_AUTH 0 0
    let s : State := fset (fset (fset (fset s F.SAF_PSC_ID_EN 1 n) F.SAF_PSC_ID_SESSION (900 + n) n) F.SAF_PSC_ID_CTX 0 n) F.SAF_PSC_CHECK_MAX_AGE 50 n
    let s : State := fset (fset s F.NET_ETYPE_ETYPE 0x88B5 p) F.SAF_STATE_STATE (3 + t0 % 2)
    let w : PWin := { w with seq := (s.ps n).last.getD 4 + 1 + t0 % 5, port := 1 - p.val, body := [1#8, 7#8] }
    let s : State := setPs n { s.ps n with wins := [w] } s
    let f : List Byte := leBytes 6 macAll ++ leBytes 6 7 ++ beBytes 2 (fget s F.NET_ETYPE_ETYPE p) ++ [1#8, 2#8, 0#8, 0#8] ++ leBytes 2 (900 + n) ++ leBytes 2 32 ++ leBytes 4 (t0) ++ leBytes 12 0 ++ proofPdu (900 + n) (((s.ps n).last.getD 4) + 1 + t0 % 5) (lns (advance t0 s)) ++ List.replicate 20 0#8
    (portLive s p = true) ∧
      ((parseEth f).dst = macAll ∧ (parseEth f).vid = none ∧ (parseEth f).et ≠ 0x8808) ∧
      (isFolio s p (parseEth f) = true ∧ f.length ≤ 1514) ∧
      ((parseFolio (parseEth f).pay).ver = 1 ∧ (parseFolio (parseEth f).pay).kind = 2 ∧ (parseFolio (parseEth f).pay).whole (parseEth f).pay = true) ∧
      (psOfFrame s p (parseEth f).src (parseEth f).ip (parseFolio (parseEth f).pay).fid = some n.val) ∧
      (flag s F.PTN_STATE_AUTH (fget s F.SAF_PSC_ID_CTX n) = false) ∧
      ((parseFolio (parseEth f).pay).payload.length = 32 ∧ leAt (parseFolio (parseEth f).pay).payload 0 1 = 1 ∧ leAt (parseFolio (parseEth f).pay).payload 1 1 = 0 ∧ leAt (parseFolio (parseEth f).pay).payload 2 2 = fget s F.SAF_PSC_ID_SESSION n) ∧
      (crc32c ((parseFolio (parseEth f).pay).payload.take 16) = leAt (parseFolio (parseEth f).pay).payload 16 4 ∧ crc32c (slice (parseFolio (parseEth f).pay).payload 20 8) = leAt (parseFolio (parseEth f).pay).payload 28 4) ∧
      (leAt (parseFolio (parseEth f).pay).payload 20 8 ≤ lns (advance t0 s) ∧ lns (advance t0 s) ≤ leAt (parseFolio (parseEth f).pay).payload 20 8 + 1000 * fget s F.SAF_PSC_CHECK_MAX_AGE n) ∧
      (seqNew (s.ps n).last (leAt (parseFolio (parseEth f).pay).payload 4 4) = true) ∧
      ((s.ps n).wins = [w] ∧ w.seq = leAt (parseFolio (parseEth f).pay).payload 4 4 ∧ w.port ≠ p.val ∧ w.body ≠ (parseFolio (parseEth f).pay).payload.take 20) ∧
      (safLive s = true)) := by
  decide +kernel

theorem witness_FramesReceived_3 :
    (let s : State := w0
    let p : Fin 2 := 1
    let s : State := fset (fset (fset (fset s F.NET_CFG_EN 1 p) F.NET_CFG_WAKE_EN 1 p) F.NET_CFG_WAKE_AUTH 0 p) F.NET_STATUS_LINK 1 p
    let s : State := fset (fset s F.NET_ETYPE_ETYPE 0x88B5 p) F.NET_WAKE_WAKE_FID 44 p
    let s : State := fset (fset (fset (fset (fset { s with net := { s.net with ctx := [] } } F.PTN_STATE_TYPE 2 0) F.PTN_STATE_PORTS 3 0) F.PTN_MAC_L_ADDR 7 0) F.PTN_MAC_H_ADDR 0 0) F.PTN_STATE_AUTH 0 0
    let s : State := fset s F.PTN_STATE_PINNED 1 0
    let s : State := { s with sys := { s.sys with st := .doze }, pwr := { s.pwr with waking := false, sysRet := true, handed := true } }
    let c : Nat := (ctxOf s 2 p 7 none).getD 0
    let c : Fin 128 := Fin.ofNat 128 c
    let s : State := fset (fset s F.PTN_STATE_PINNED 1 c) F.PTN_STATE_TYPE 2 c
    let f : List Byte := leBytes 6 macAll ++ leBytes 6 7 ++ beBytes 2 (fget s F.NET_ETYPE_ETYPE p) ++ [1#8, 3#8, 0#8, 0#8] ++ leBytes 2 (44) ++ leBytes 2 0 ++ leBytes 4 (9) ++ leBytes 12 0 ++ [] ++ List.replicate 20 0#8
    (s.sys.st = .doze) ∧
      (flag s F.NET_CFG_EN p = true ∧ flag s F.NET_CFG_WAKE_EN p = true ∧ flag s F.NET_STATUS_LINK p = true ∧ flag s F.NET_CFG_WAKE_AUTH p = false) ∧
      ((parseEth f).dst = macAll ∧ (parseEth f).vid = none) ∧
      (isFolio s p (parseEth f) = true) ∧
      ((parseFolio (parseEth f).pay).ver = 1 ∧ (parseFolio (parseEth f).pay).kind = 3 ∧ (parseFolio (parseEth f).pay).whole (parseEth f).pay = true ∧ (parseFolio (parseEth f).pay).fid = fget s F.NET_WAKE_WAKE_FID p) ∧
      (ctxOf s 2 p (parseEth f).src (parseEth f).ip = some c.val) ∧
      (ctxType s c = 2 ∧ flag s F.PTN_STATE_PINNED c = true) ∧
      (s.pwr.waking = false ∧ s.pwr.sysRet = true ∧ s.pwr.handed = true)) ∧
    (let s : State := w0
    let p : Fin 2 := 1
    let l : Link := ⟨0xFFFFFFFFFFFF#48, 7#48, none, 0#3, none⟩
    let s : State := { s with sys := { s.sys with st := .run } }
    let s : State := (fun s => fset (fset s F.NET_CFG_EN 1 p) F.NET_STATUS_LINK 1 p) s
    let l : Link := { l with vid := none, dst := 0xFFFFFFFFFFFF }
    let b : Word := BitVec.ofNat 32 (fget s F.NET_IP_IP p)
    (portLive s p = true) ∧
      (l.vid = none ∧ l.dst.toNat = macAll) ∧
      (b.toNat = fget s F.NET_IP_IP p)) := by
  decide +kernel

theorem witness_FramesReceived_4 :
    (let s : State := w0
    let p : Fin 3 := 1
    let s : State := { fset s F.NET_CFG_EN 1 p with sys := { s.sys with st := .run } }
    (s.sys.st ≠ .doze ∧ domainOn s 9 = true ∧ flag s F.NET_CFG_EN p = true)) ∧
    (let s : State := w0
    let t0 : Nat := 5
    let f : List Byte := [7#8]
    let s : State := { s with sys := { s.sys with st := .run } }
    let s : State := fset (fset (fset s F.NET_CFG_EN 1 2) F.NET_STATUS_LINK 1 2) F.NET_RING_CTL_RX_EN 1
    let s : State := { fset (fset s F.NET_RXRING_BASE 0x400) F.NET_RXRING_LOG2 3 with mem := [], poison := [], net := { s.net with rxPos := t0 % 8 } }
    let s : State := setMemNat (setMemNat s (rxDesc s) 0x8001 4) (rxDesc s + 4) 0x80000600 4
    let f : List Byte := leBytes 6 macAll ++ f
    (portLive s 2 = true) ∧
      (ethcFilter s f = true) ∧
      (flag s F.NET_RING_CTL_RX_EN = true) ∧
      (DescOk s (rxDesc s) ∧ (dWord s (rxDesc s)).testBit 31 = true)) := by
  decide +kernel

theorem witness_FramesSent_1 :
    (let s : State := w0
    let p : Fin 2 := 1
    let x : TxFrame := ⟨7, 8, false, List.replicate 16 1#8, [2#8], []⟩
    let r : List TxFrame := [⟨7, 8, false, List.replicate 16 1#8, [2#8], []⟩]
    let s : State := { s with sys := { s.sys with st := .run } }
    let s : State := (fun s => fset (fset s F.NET_CFG_EN 1 p) F.NET_STATUS_LINK 1 p) s
    let s : State := fset s F.NET_CFG_UDP 0 p
    let x : TxFrame := { x with proof := false }
    let s : State := { s with net := if p = 0 then { s.net with tx0 := x :: r } else { s.net with tx1 := x :: r } }
    (portLive s p = true) ∧
      (flag s F.NET_CFG_UDP p = false) ∧
      ((if p = 0 then s.net.tx0 else s.net.tx1) = x :: r) ∧
      (x.proof = false)) ∧
    (let s : State := w0
    let p : Fin 2 := 1
    let x : TxFrame := ⟨7, 8, false, List.replicate 16 1#8, [2#8], []⟩
    let r : List TxFrame := [⟨7, 8, false, List.replicate 16 1#8, [2#8], []⟩]
    let s : State := { s with sys := { s.sys with st := .run } }
    let s : State := (fun s => fset (fset s F.NET_CFG_EN 1 p) F.NET_STATUS_LINK 1 p) s
    let s : State := fset s F.NET_CFG_UDP 1 p
    let s : State := { s with net := if p = 0 then { s.net with tx0 := x :: r } else { s.net with tx1 := x :: r } }
    (portLive s p = true) ∧
      (flag s F.NET_CFG_UDP p = true) ∧
      ((if p = 0 then s.net.tx0 else s.net.tx1) = x :: r)) ∧
    (let s : State := w0
    let n : Fin 8 := 1
    let q : Nat := 5
    let s : State := fset s F.SAF_PSC_ID_EN 1 n
    let s : State := setPs n { s.ps n with sent := some q } s
    let s : State := { s with sys := { s.sys with st := .run } }
    let s : State := fset (fset s F.NET_CFG_EN 1 0) F.NET_STATUS_LINK 1 0
    (flag s F.SAF_PSC_ID_EN n = true) ∧
      ((s.ps n).sent = some q)) ∧
    (let s : State := w0
    let h : Via := ⟨.pcie, 5⟩
    let t0 := h.t
    let s : State := { fset (fset s F.NET_TXRING_BASE 0x400) F.NET_TXRING_LOG2 3 with mem := [], poison := [], net := { s.net with txPos := t0 % 8, txScan := false } }
    let s : State := setMemNat (setMemNat s (txDesc s) 0x8001 4) (txDesc s + 4) (0x40 + 2 ^ 31 * (h.t % 3 % 2)) 4
    (HostOn s R.NET_RING_CTL.addr) ∧
      (s.net.txScan = false ∧ DescOk s (txDesc s))) := by
  decide +kernel

theorem witness_FramesSent_2 :
    (let s : State := w0
    let t0 : Nat := 5
    let s : State := { s with sys := { s.sys with st := .run } }
    let s : State := fset (fset s F.NET_CFG_EN 1 2) F.NET_STATUS_LINK 1 2
    let s : State := { fset (fset s F.NET_TXRING_BASE 0x400) F.NET_TXRING_LOG2 3 with mem := [], poison := [], net := { s.net with txPos := t0 % 8, txScan := true } }
    let s : State := setMemNat (setMemNat s (txDesc s) (0x8003 + t0 % 50) 4) (txDesc s + 4) (0x80000000 + t0 % 100) 4
    let s : State := setMemNat s (sramByte (0x8003 + t0 % 50)) 0x0807060504030201 8
    (portLive s 2 = true) ∧
      (s.net.txScan = true) ∧
      (DescOk s (txDesc s) ∧ (List.range (dWord s (txDesc s) % 2048)).all (fun k => !poisoned s (sramByte (dAddr s (txDesc s) + k))) = true) ∧
      (DescOk s (ringDesc s F.NET_TXRING_BASE F.NET_TXRING_LOG2 (s.net.txPos + 1)))) ∧
    (let s : State := w0
    let i : Fin 128 := 1
    let s : State := { s with sys := { s.sys with st := .run } }
    let s : State := fset (fset s F.PTN_STATE_TYPE 2 i) F.PTN_STATE_PINNED 1 i
    (s.sys.st ≠ .doze) ∧
      (ctxType s i ≠ 0) ∧
      (flag s F.PTN_STATE_PINNED i = true)) ∧
    (let s : State := w0
    let i : Fin 128 := 1
    let s : State := { s with sys := { s.sys with st := .run } }
    let s : State := fset (fset s F.PTN_STATE_TYPE 2 i) F.PTN_STATE_PINNED 0 i
    (s.sys.st ≠ .doze) ∧
      (ctxType s i ≠ 0) ∧
      (flag s F.PTN_STATE_PINNED i = false)) ∧
    (let s : State := w0
    let h : Via := ⟨.pcie, 5⟩
    let s : State := fset s F.PTN_KSEL_TARGET (h.t % 128)
    (HostOn s R.PTN_KCTL.addr) ∧
      (fget s F.PTN_KSEL_TARGET < 128)) := by
  decide +kernel

theorem witness_FramesSent_3 :
    (let s : State := w0
    let h : Via := ⟨.pcie, 5⟩
    let s : State := fset s F.PTN_KSEL_TARGET (128 + h.t % 32)
    (HostOn s R.PTN_KCTL.addr) ∧
      (128 ≤ fget s F.PTN_KSEL_TARGET ∧ fget s F.PTN_KSEL_TARGET < 160)) ∧
    (let s : State := w0
    let h : Via := ⟨.pcie, 5⟩
    let s : State := fset s F.PTN_KSEL_TARGET (h.t % 128)
    (HostOn s R.PTN_KCTL.addr) ∧
      (fget s F.PTN_KSEL_TARGET < 128)) := by
  decide +kernel

theorem witness_CanTransmission_1 :
    (let s : State := w0
    let k : Fin 4 := 1
    let b : Fin 32 := 1
    let s : State := { s with sys := { s.sys with st := .run }, pwr := { s.pwr with on := 0x3FFF } }
    let s : State := fset (fset (fset s F.CAN_STATUS_ESTATE 0 k) F.CAN_STATUS_INTEGRATING 0 k) F.CAN_CTL_MODE 0 k
    let s : State := setCan k { s.canc k with off := false, pxe := false } s
    let s : State := fset (fset (fset (fset s F.CAN_MB_FMT_LAYOUT 0 k b) F.CAN_MB_STAT_STATE 0 k b) F.CAN_CTL_INIT 0 k) F.CAN_MB_FMT_FDF 0 k b
    (HostOn s (R.CAN_TXREQ.at k)) ∧
      (mbOwned s k b = false ∧ mbPending s k b = false) ∧
      (flag s F.CAN_CTL_INIT k = false ∧ fget s F.CAN_CTL_MODE k ≠ 1 ∧ canState s k < 2) ∧
      (flag s F.CAN_MB_FMT_FDF k b = false)) ∧
    (let s : State := w0
    let k : Fin 4 := 1
    let b : Fin 32 := 1
    let s : State := { s with sys := { s.sys with st := .run }, pwr := { s.pwr with on := 0x3FFF } }
    let s : State := fset (fset (fset s F.CAN_STATUS_ESTATE 0 k) F.CAN_STATUS_INTEGRATING 0 k) F.CAN_CTL_MODE 0 k
    let s : State := setCan k { s.canc k with off := false, pxe := false } s
    let s : State := fset (fset s F.CAN_MB_FMT_LAYOUT 0 k b) F.CAN_MB_STAT_STATE 1 k b
    (HostOn s (R.CAN_TXCANCEL.at k)) ∧
      (mbOwned s k b = false ∧ mbPending s k b = true)) ∧
    (let s : State := w0
    let h : Via := ⟨.pcie, 5⟩
    let k : Fin 4 := 1
    let b : Fin 32 := 1
    let s : State := { s with sys := { s.sys with st := .run }, pwr := { s.pwr with on := 0x3FFF } }
    let s : State := fset (fset (fset s F.CAN_STATUS_ESTATE 0 k) F.CAN_STATUS_INTEGRATING 0 k) F.CAN_CTL_MODE 0 k
    let s : State := setCan k { s.canc k with off := false, pxe := false } s
    let s : State := fset (fset s F.CAN_MB_FMT_LAYOUT 0 k b) F.CAN_MB_STAT_STATE 1 k b
    (HostOn s (R.CAN_TXCANCEL.at k)) ∧
      (mbOwned s k b = false ∧ mbPending s k b = true) ∧
      (canOn (advance h.t s) k = true)) ∧
    (let s : State := w0
    let k : Fin 4 := 1
    let n : Nat := 5
    let b : Fin 32 := 1
    let s : State := { s with sys := { s.sys with st := .run }, pwr := { s.pwr with on := 0x3FFF } }
    let s : State := fset (fset (fset s F.CAN_STATUS_ESTATE 0 k) F.CAN_STATUS_INTEGRATING 0 k) F.CAN_CTL_MODE 0 k
    let s : State := setCan k { s.canc k with off := false, pxe := false } s
    let s : State := wr s (R.CAN_MB_STAT.at k b) 1
    let s : State := wr s (R.CAN_ERRCNT.at k) 0x50005
    let s : State := (List.range 32).foldl (fun s m => if m = b.val then s else fset s F.CAN_MB_STAT_STATE 0 k m) s
    let s : State := setCan k { s.canc k with reqAt := [] } s
    (canOn s k = true ∧ fget s F.CAN_CTL_MODE k = 0) ∧
      (mbAt s k n = some b.val)) := by
  decide +kernel

theorem witness_CanTransmission_2 :
    (let s : State := w0
    let k : Fin 4 := 1
    let n : Nat := 5
    let b : Fin 32 := 1
    let s : State := { s with sys := { s.sys with st := .run }, pwr := { s.pwr with on := 0x3FFF } }
    let s : State := fset (fset (fset s F.CAN_STATUS_ESTATE 0 k) F.CAN_STATUS_INTEGRATING 0 k) F.CAN_CTL_MODE 0 k
    let s : State := setCan k { s.canc k with off := false, pxe := false } s
    let s : State := wr s (R.CAN_MB_STAT.at k b) 1
    let s : State := fset s F.CAN_MB_FMT_ONESHOT 1 k b
    let s : State := (List.range 32).foldl (fun s m => if m = b.val then s else fset s F.CAN_MB_STAT_STATE 0 k m) s
    let s : State := setCan k { s.canc k with reqAt := [] } s
    (canOn s k = true) ∧
      (mbAt s k n = some b.val) ∧
      (flag s F.CAN_MB_FMT_ONESHOT k b = true)) ∧
    (let s : State := w0
    let k : Fin 4 := 1
    let e : CanErr := ⟨3, false, false, false, false, 0#8⟩
    let s : State := { s with sys := { s.sys with st := .run }, pwr := { s.pwr with on := 0x3FFF } }
    let s : State := fset (fset (fset s F.CAN_STATUS_ESTATE 0 k) F.CAN_STATUS_INTEGRATING 0 k) F.CAN_CTL_MODE 0 k
    let s : State := setCan k { s.canc k with off := false, pxe := false } s
    let s : State := wr s (R.CAN_ERRCNT.at k) 0x50005
    let e : CanErr := { e with own := false, dom := false, runs := 0, data := false }
    (canOn s k = true) ∧
      (fget s F.CAN_ERRCNT_TEC k < 128 ∧ fget s F.CAN_ERRCNT_REC k < 120) ∧
      (e.own = false ∧ e.dom = false ∧ e.runs.toNat = 0 ∧ e.data = false)) ∧
    (let s : State := w0
    let k : Fin 4 := 1
    let e : CanErr := ⟨3, false, false, false, false, 0#8⟩
    let s : State := { s with sys := { s.sys with st := .run }, pwr := { s.pwr with on := 0x3FFF } }
    let s : State := fset (fset (fset s F.CAN_STATUS_ESTATE 0 k) F.CAN_STATUS_INTEGRATING 0 k) F.CAN_CTL_MODE 0 k
    let s : State := setCan k { s.canc k with off := false, pxe := false } s
    let s : State := wr s (R.CAN_ERRCNT.at k) 0x50005
    let e : CanErr := { e with own := false, kind := 2, runs := 0, data := false }
    (canOn s k = true) ∧
      (canState s k = 0 ∧ fget s F.CAN_ERRCNT_TEC k < 120 ∧ fget s F.CAN_ERRCNT_REC k < 128) ∧
      (e.own = false ∧ e.kind.val ≠ 1 ∧ e.runs.toNat = 0 ∧ e.data = false)) ∧
    (let s : State := w0
    let k : Fin 4 := 1
    (HostOn s (R.CAN_CTL.at k)) ∧
      (canState s k ≠ 3)) := by
  decide +kernel

theorem witness_CanTransmission_3 :
    (let s : State := w0
    let k : Fin 4 := 1
    let s : State := fset s F.CAN_STATUS_ESTATE 3 k
    (HostOn s (R.CAN_CTL.at k)) ∧
      (canState s k = 3)) ∧
    (let s : State := w0
    let k : Fin 4 := 1
    let s : State := fset s F.CAN_CTL_INIT 1 k
    let s : State := setCan k { s.canc k with off := false } s
    (flag s F.CAN_CTL_INIT k = true ∧ (s.canc k).off = false)) ∧
    (let s : State := w0
    let k : Fin 4 := 1
    let s : State := fset s F.CAN_CTL_INIT 1 k
    let s : State := setCan k { s.canc k with off := true } s
    (HostOn s (R.CAN_CTL.at k)) ∧
      (flag s F.CAN_CTL_INIT k = true ∧ (s.canc k).off = true)) ∧
    (let s : State := w0
    let k : Fin 4 := 1
    let s : State := { s with sys := { s.sys with st := .run }, pwr := { s.pwr with on := 0x3FFF } }
    let s : State := fset (fset (fset s F.CAN_STATUS_ESTATE 0 k) F.CAN_STATUS_INTEGRATING 0 k) F.CAN_CTL_MODE 0 k
    let s : State := setCan k { s.canc k with off := false, pxe := false } s
    (canLive s = true ∧ (s.canc k).off = false)) := by
  decide +kernel

theorem witness_CanTransmission_4 :
    (let s : State := w0
    let k : Fin 4 := 1
    let s : State := fset s F.CAN_STATUS_ESTATE 2 k
    (HostOn s (R.CAN_CTL.at k)) ∧
      (canState s k = 2)) ∧
    (let s : State := w0
    let k : Fin 4 := 1
    let s : State := { s with sys := { s.sys with st := .run }, pwr := { s.pwr with on := 0x3FFF } }
    let s : State := fset (fset (fset s F.CAN_STATUS_ESTATE 0 k) F.CAN_STATUS_INTEGRATING 0 k) F.CAN_CTL_MODE 0 k
    let s : State := setCan k { s.canc k with off := false, pxe := false } s
    let s : State := fset s F.CAN_STATUS_ESTATE 3 k
    (canLive s = true ∧ canState s k = 3)) ∧
    (let s : State := w0
    let k : Fin 4 := 1
    let s : State := { s with sys := { s.sys with st := .run }, pwr := { s.pwr with on := 0x3FFF } }
    let s : State := fset (fset (fset s F.CAN_STATUS_ESTATE 0 k) F.CAN_STATUS_INTEGRATING 0 k) F.CAN_CTL_MODE 0 k
    let s : State := setCan k { s.canc k with off := false, pxe := false } s
    let s : State := fset s F.CAN_CTL_PXE_EN 1 k
    (canOn s k = true ∧ flag s F.CAN_CTL_PXE_EN k = true)) ∧
    (let s : State := w0
    let k : Fin 4 := 1
    let s : State := setCan k { s.canc k with pxe := true } s
    ((s.canc k).pxe = true)) := by
  decide +kernel

theorem witness_CanReception_1 :
    (let s : State := w0
    let k : Fin 4 := 1
    let n : Nat := 5
    let f : CanFrame := ⟨5, false, false, false, false, false, 1, [9#8]⟩
    let i : Fin 64 := 1
    let s : State := { s with sys := { s.sys with st := .run }, pwr := { s.pwr with on := 0x3FFF } }
    let s : State := fset (fset (fset s F.CAN_STATUS_ESTATE 0 k) F.CAN_STATUS_INTEGRATING 0 k) F.CAN_CTL_MODE 0 k
    let s : State := setCan k { s.canc k with off := false, pxe := false } s
    let s : State := wr s (R.CAN_ERRCNT.at k) 0x50005
    let s : State := (List.range 64).foldl (fun s m => fset s F.CAN_FLT_CFG_EN 0 k m) s
    let s : State := fset (fset (fset (fset (fset s F.CAN_FLT_CFG_EN 1 k i) F.CAN_FLT_CFG_IDE f.ide.toNat k i) F.CAN_FLT_CFG_FMT 0 k i) F.CAN_FLT_CFG_RTR_ACC 1 k i) F.CAN_FLT_MASK_VAL 0 k i
    let s : State := if n % 2 = 0 then setCan k { s.canc k with q0 := [⟨f, 3, 4⟩], q1 := [] } s else s
    (canOn s k = true ∧ fget s F.CAN_CTL_MODE k ≠ 2) ∧
      (fget s F.CAN_ERRCNT_TEC k < 128 ∧ fget s F.CAN_ERRCNT_REC k < 128) ∧
      ((List.range 64).find? (fun x => fltMatch s k x f) = some i.val) ∧
      (layOfFilter s k i = none) ∧
      ((canQueue s k (fget s F.CAN_FLT_CFG_Q k i)).length < 64)) ∧
    (let s : State := w0
    let k : Fin 4 := 1
    let q : Fin 2 := 1
    let s : State := fset s F.CAN_RXQ_STATUS_VALID 1 k q
    let s : State := setCan k { s.canc k with q0 := [⟨⟨1, false, false, false, false, false, 0, []⟩, 3, 4⟩], q1 := [] } s
    (HostOn s (R.CAN_RXQ_CTL.at k q)) ∧
      (flag s F.CAN_RXQ_STATUS_VALID k q = true)) ∧
    (let s : State := w0
    let k : Fin 4 := 1
    let q : Fin 2 := 1
    let e : CanEnt := ⟨⟨5, false, false, false, false, false, 1, [9#8]⟩, 3, 4⟩
    let r : List CanEnt := [⟨⟨5, false, false, false, false, false, 1, [9#8]⟩, 3, 4⟩]
    let s : State := fset s F.CAN_RXQ_STATUS_VALID 0 k q
    let s : State := setCan k { s.canc k with q0 := e :: r, q1 := e :: r } s
    (flag s F.CAN_RXQ_STATUS_VALID k q = false) ∧
      (canQueue s k q = e :: r)) ∧
    (let s : State := w0
    let k : Fin 4 := 1
    let q : Fin 2 := 1
    let s : State := setCan k { s.canc k with q0 := [⟨⟨1, false, false, false, false, false, 0, []⟩, 3, 4⟩], q1 := [] } s
    (HostOn s (R.CAN_RXQ_CTL.at k q))) := by
  decide +kernel

theorem witness_CanReception_2 :
    (let s : State := w0
    let k : Fin 4 := 1
    let x : BitVec 29 := 3#29
    let e : Bool := true
    let i : Fin 64 := 1
    let s : State := { s with sys := { s.sys with st := .doze }, pwr := { s.pwr with waking := false, sysRet := true, handed := true } }
    let s : State := fset s F.CAN_CTL_WAKE_EN 1 k
    let s : State := (List.range 64).foldl (fun s m => fset s F.CAN_FLT_CFG_EN 0 k m) s
    let s : State := fset (fset (fset (fset s F.CAN_FLT_CFG_EN 1 k i) F.CAN_FLT_CFG_IDE e.toNat k i) F.CAN_FLT_CFG_WAKE 1 k i) F.CAN_FLT_MASK_VAL 0 k i
    (s.sys.st = .doze ∧ flag s F.CAN_CTL_WAKE_EN k = true) ∧
      ((List.range 64).find? (fun f => flag s F.CAN_FLT_CFG_WAKE k f && fltId s k f x e) = some i.val) ∧
      (s.pwr.waking = false ∧ s.pwr.sysRet = true ∧ s.pwr.handed = true)) := by
  decide +kernel

theorem witness_RecorderControl_1 :
    (let s : State := w0
    let r : Fin 16 := 1
    let s : State := (List.range 17).foldl (fun s i => wr s (R.ACQ_CFG.at r + 4 * i) 0) s
    let s : State := fset (fset (wr (wr s (R.ACQ_CFG.at r + 4 * 11) 16) (R.ACQ_CFG.at r + 4 * 14) 3) F.ACQ_STATUS_STATE 0 r) F.ACQ_SLOT_READY 0 r
    let s : State := { s with acq := { s.acq with jobs := [], run := none } }
    (HostOn s (R.ACQ_CTL.at r)) ∧
      (recState s r = 0) ∧
      (recOk s (recRegs s r) = true ∧ flag s F.ACQ_STATUS_LEN_PENDING r = false) ∧
      (slotHeld s r (fget s F.ACQ_SLOT_WR r) = false ∧ fget s F.ACQ_SLOT_READY r < cfgNrec (recRegs s r))) ∧
    (let s : State := w0
    let r : Fin 16 := 1
    let s : State := (List.range 17).foldl (fun s i => wr s (R.ACQ_CFG.at r + 4 * i) 0) s
    let s : State := fset (fset (wr (wr s (R.ACQ_CFG.at r + 4 * 11) 16) (R.ACQ_CFG.at r + 4 * 14) 3) F.ACQ_STATUS_STATE 0 r) F.ACQ_SLOT_READY 0 r
    let s : State := fset s F.ACQ_STATUS_LEN_PENDING 1 r
    let s : State := { s with acq := { s.acq with jobs := [], run := none } }
    (HostOn s (R.ACQ_CTL.at r)) ∧
      (recState s r = 0) ∧
      (recOk s (recRegs s r) = true ∧ flag s F.ACQ_STATUS_LEN_PENDING r = true) ∧
      (slotHeld s r 0 = false)) ∧
    (let s : State := w0
    let r : Fin 16 := 1
    let s : State := (List.range 17).foldl (fun s i => wr s (R.ACQ_CFG.at r + 4 * i) 0) s
    let s : State := fset (fset (wr (wr s (R.ACQ_CFG.at r + 4 * 11) 16) (R.ACQ_CFG.at r + 4 * 14) 3) F.ACQ_STATUS_STATE 0 r) F.ACQ_SLOT_READY 0 r
    let s : State := { s with acq := { s.acq with jobs := [], run := none } }
    let s : State := wr s (R.ACQ_CFG.at r) 3
    (HostOn s (R.ACQ_CTL.at r)) ∧
      (recState s r = 0) ∧
      (recOk s (recRegs s r) = false)) ∧
    (let s : State := w0
    let r : Fin 16 := 1
    (HostOn s (R.ACQ_CTL.at r)) ∧
      (recState s r ≠ 3)) := by
  decide +kernel

theorem witness_RecorderControl_2 :
    (let s : State := w0
    let r : Fin 16 := 1
    let s : State := fset s F.ACQ_STATUS_STATE 3 r
    let s : State := setRec r { s.arec r with n := 8, pos := 0, kT := 4, pre := 2, cfg := [0#32, 0#32, 0#32, 0#32, 0#32, 0#32, 0#32, 0#32, 0#32, 0x10#32, 0#32, 8#32, 3#32, 0#32, 3#32, 0x4#32, 0#32] } s
    (HostOn s (R.ACQ_CTL.at r)) ∧
      (recState s r = 3)) ∧
    (let s : State := w0
    let r : Fin 16 := 1
    let e : Nat × Nat := (700, 3)
    let l : List (Nat × Nat) := [(700, 3)]
    let s : State := fset s F.ACQ_STATUS_STATE 1 r
    let s : State := setRec r { s.arec r with insts := e :: l, n := l.length + 1, cfg := [0#32, 0#32, 0#32, 0#32, 0#32, 0#32, 0#32, 0#32, 0#32, 0x10#32, 0#32, 8#32, 3#32, 0#32, 3#32, 0x4#32, 0#32] } s
    (HostOn s (R.ACQ_CTL.at r)) ∧
      (recState s r = 1) ∧
      ((s.arec r).insts = e :: l)) ∧
    (let s : State := w0
    (HostOn s R.ACQ_STOP_ALL.addr)) ∧
    (let s : State := w0
    let r := (3 : Nat)
    let s : State := (List.range 17).foldl (fun s i => wr s (R.ACQ_CFG.at r + 4 * i) 0) s
    let s : State := fset (fset (wr (wr s (R.ACQ_CFG.at r + 4 * 11) 16) (R.ACQ_CFG.at r + 4 * 14) 3) F.ACQ_STATUS_STATE 0 r) F.ACQ_SLOT_READY 0 r
    let s : State := { s with acq := { s.acq with jobs := [], run := none } }
    (HostOn s R.ACQ_ARM_ALL.addr)) := by
  decide +kernel

theorem witness_RecorderControl_3 :
    (let s : State := w0
    let r : Fin 16 := 1
    let v : BitVec 8 := 3#8
    let s : State := (List.range 17).foldl (fun s i => wr s (R.ACQ_CFG.at r + 4 * i) 0) s
    let s : State := fset (fset (wr (wr s (R.ACQ_CFG.at r + 4 * 11) 16) (R.ACQ_CFG.at r + 4 * 14) 3) F.ACQ_STATUS_STATE 0 r) F.ACQ_SLOT_READY 0 r
    let s : State := { s with acq := { s.acq with jobs := [], run := none } }
    let s : State := setRec r { s.arec r with cfg := recRegs s r } s
    let s : State := fset (fset s F.ACQ_SLOT_RD 0 r) F.ACQ_SLOT_READY 3 r
    let v : BitVec 8 := BitVec.ofNat 8 (v.toNat % 3)
    (HostOn s (R.ACQ_SLOT.at r)) ∧
      (recState s r ≠ 4) ∧
      (1 < cfgNrec (s.arec r).cfg ∧ v.toNat < cfgNrec (s.arec r).cfg ∧ (v.toNat + cfgNrec (s.arec r).cfg - fget s F.ACQ_SLOT_RD r) % cfgNrec (s.arec r).cfg ≤ fget s F.ACQ_SLOT_READY r)) ∧
    (let s : State := w0
    let r : Fin 16 := 1
    let s : State := setRec r { s.arec r with cfg := recRegs (wr s (R.ACQ_CFG.at r + 4 * 14) 1) r } s
    (HostOn s (R.ACQ_SLOT.at r)) ∧
      (recState s r ≠ 4) ∧
      (cfgNrec (s.arec r).cfg = 1)) ∧
    (let s : State := w0
    let i : Fin 4 := 1
    (HostOn s (R.ACQ_HIST_CTL.at i))) ∧
    (let s : State := w0
    let i : Fin 4 := 1
    (HostOn s (R.ACQ_MAP_CTL.at i))) := by
  decide +kernel

theorem witness_RecorderRuns_1 :
    (let s : State := w0
    let t0 : Nat := 5
    let r : Fin 16 := 1
    let s : State := { s with sys := { s.sys with st := .run }, pwr := { s.pwr with on := 0x3FFF } }
    let s : State := { s with sys := { s.sys with imp := t0 * 256, running := true, s0 := lns (advance t0 s) } , page := [(0, 0x812345#24)] }
    let s : State := fset s F.ACQ_STATUS_STATE 1 r
    let s : State := setRec r { s.arec r with gate := clk (advance t0 s) - 1, pos := t0 % 8, cfg := [0#32, 0#32, 0#32, 0#32, 0#32, 0#32, 0#32, 0#32, 0#32, 0x10#32, 0#32, 8#32, 3#32, 0#32, 3#32, 0x4#32, 0#32] } s
    let s : State := (List.range 32).foldl (fun s c => fset s F.ACQ_TCN_CFG_KIND 2 c) s
    (acqLive s = true ∧ recState s r = 1) ∧
      (cfgClock (s.arec r).cfg = 0 ∧ cfgNsig (s.arec r).cfg = 1 ∧ cfgKind (s.arec r).cfg 0 = 0 ∧ impCount s % cfgDiv (s.arec r).cfg = 0) ∧
      (s.sys.running = true ∧ lns (advance t0 s) = s.sys.s0 ∧ (s.arec r).gate < clk (advance t0 s)) ∧
      ((List.range 32).all (fun c => fget s F.ACQ_TCN_CFG_KIND c != 1) = true)) ∧
    (let s : State := w0
    let i : Nat := 5
    let r : Fin 16 := 1
    let n : Nat := 5
    let s : State := { s with sys := { s.sys with st := .run }, pwr := { s.pwr with on := 0x3FFF } }
    let c : Fin 32 := (2 : Fin 32)
    let s : State := fset (fset s F.ACQ_TCN_CFG_KIND 2 c) F.ACQ_STATUS_STATE 1 r
    let i : Nat := i + 600
    let s : State := { s with trigq := [(7, 7), (c.val, i)] }
    let s : State := setRec r { s.arec r with n := 2, insts := [(700, 1), (500, 1)], cfg := [0#32, 0#32, 0#32, 0#32, 0#32, 0#32, 0#32, 0#32, 0#32, 0x10#32, 0#32, 8#32, 3#32, 0#32, 3#32, 0x4#32, 0#32] } s
    let k : Nat := ((sampleAt (s.arec r) i).getD (0,0)).1
    let n : Nat := ((sampleAt (s.arec r) i).getD (0,0)).2
    (acqLive s = true) ∧
      (fget s F.ACQ_TCN_CFG_KIND c ≠ 3 ∧ (c.val, i) ∈ s.trigq) ∧
      (recState s r = 1 ∧ (cfgBits (s.arec r).cfg 15 0 32).testBit c = true ∧ cfgBits (s.arec r).cfg 0 30 1 = 0) ∧
      (sampleAt (s.arec r) i = some (k, n))) ∧
    (let s : State := w0
    let t0 : Nat := 5
    let c : Fin 32 := 1
    let i : Nat := 5
    let b : Bool := true
    let s : State := { s with sys := { s.sys with st := .run }, pwr := { s.pwr with on := 0x3FFF } }
    let s : State := fset (fset s F.ACQ_TCN_CFG_KIND 3 c) F.ACQ_TCN_CFG_MODE (if b then 1 else 2) c
    let s : State := { s with pins := { s.pins with funcs := [(0x08 * 1024 + fget s F.ACQ_TCN_CFG_IDX c, true)] } }
    let i : Nat := i % 5000
    (acqLive s = true) ∧
      (fget s F.ACQ_TCN_CFG_KIND c = 3 ∧ trgEdge (fget s F.ACQ_TCN_CFG_MODE c) b = true ∧ i ≤ fine (advance t0 s)) ∧
      (domainOn s 7 = true ∧ hasBall s 0x08 (fget s F.ACQ_TCN_CFG_IDX c) = true)) ∧
    (let s : State := w0
    let r : Fin 16 := 1
    let s : State := { s with sys := { s.sys with st := .run }, pwr := { s.pwr with on := 0x3FFF } }
    let s : State := fset s F.ACQ_STATUS_STATE 3 r
    let s : State := setRec r { s.arec r with n := 8, pos := 0, kT := 4, pre := 2, cfg := [0#32, 0#32, 0#32, 0#32, 0#32, 0#32, 0#32, 0#32, 0#32, 0x10#32, 0#32, 8#32, 3#32, 0#32, 3#32, 0x4#32, 0#32] } s
    (acqLive s = true ∧ recState s r = 3) ∧
      (cfgBits (s.arec r).cfg 0 29 1 = 0)) := by
  decide +kernel

theorem witness_RecorderRuns_2 :
    (let s : State := w0
    let j : AcqJob := ⟨1, 2, [], 3, 4, 1, 2, 5, 6⟩
    let l : List AcqJob := [⟨1, 2, [], 3, 4, 1, 2, 5, 6⟩]
    let s : State := { s with sys := { s.sys with st := .run }, pwr := { s.pwr with on := 0x3FFF } }
    let s : State := { s with acq := { s.acq with jobs := j :: l, run := none } }
    let s : State := modPlt s 4 (fun p => { p with jobBusy := false })
    (acqLive s = true) ∧
      (s.acq.jobs = j :: l ∧ s.acq.run = none) ∧
      ((s.plt 4).jobBusy = false)) ∧
    (let s : State := w0
    let j : AcqJob := ⟨1, 2, [], 3, 4, 1, 2, 5, 6⟩
    let s : State := { s with sys := { s.sys with st := .run }, pwr := { s.pwr with on := 0x3FFF } }
    let j : AcqJob := { j with cfg := [0#32, 0#32, 0#32, 0#32, 0#32, 0#32, 0#32, 0#32, 0#32, 0x10#32, 0#32, 8#32, 3#32, 0#32, 3#32, 0x4#32, 0#32], rcd := j.rcd % 16, slot := j.slot % 3 }
    let s : State := modPlt { s with acq := { s.acq with run := some j } } 4 (fun p => { p with ended := true })
    let s : State := (List.range 4).foldl (fun s i => fset (fset s F.ACQ_HIST_CFG_EN 0 i) F.ACQ_MAP_CFG_EN 0 i) s
    let s : State := fset s F.ACQ_STATUS_STATE 0 j.rcd
    (acqLive s = true) ∧
      (s.acq.run = some j ∧ (s.plt 4).ended = true) ∧
      (cfgBits j.cfg 16 3 1 = 0 ∧ cfgBits j.cfg 16 4 2 = 0 ∧ recState s j.rcd ≠ 4) ∧
      ((List.range 4).all (fun i => !flag s F.ACQ_HIST_CFG_EN i && !flag s F.ACQ_MAP_CFG_EN i) = true)) := by
  decide +kernel

theorem witness_DeviceRequests_1 :
    (let s : State := w0
    let s : State := fset (fset s F.PAR_CFG_MODE 0) F.PAR_STATUS_OWN_CONFLICT 0
    let s : State := { s with sys := { s.sys with st := .loaded } }
    (HostOn s R.SYS_CTL.addr) ∧
      (s.sys.st = .loaded ∧ pairMode s = false ∧ conflictOut s = false)) ∧
    (let s : State := w0
    let s : State := fset (fset s F.PAR_CFG_MODE 1) F.PAR_STATUS_OWN_CONFLICT 0
    let s : State := { s with sys := { s.sys with st := .loaded }, par := { s.par with leave := false }, pins := { s.pins with ownIn := true, funcs := [(0x17 * 1024 + 1, true)] } }
    (HostOn s R.SYS_CTL.addr) ∧
      (s.sys.st = .loaded ∧ pairMode s = true ∧ conflictOut s = false ∧ s.par.leave = false ∧ ownIn s = true)) ∧
    (let s : State := w0
    let s : State := fset (fset s F.PAR_CFG_MODE 1) F.PAR_STATUS_OWN_CONFLICT 0
    let s : State := { s with sys := { s.sys with st := .loaded }, par := { s.par with leave := false }, pins := { s.pins with ownIn := false } }
    (HostOn s R.SYS_CTL.addr) ∧
      (s.sys.st = .loaded ∧ pairMode s = true ∧ conflictOut s = false ∧ s.par.leave = false ∧ ownIn s = false)) ∧
    (let s : State := w0
    let s : State := (List.range 32).foldl (fun s m => fset s F.PRF_STATE_STATE 0 m) s
    let s : State := { s with sys := { s.sys with st := .run } }
    (HostOn s R.SYS_CTL.addr) ∧
      (s.sys.st = .run ∧ moversIdle s = true)) := by
  decide +kernel

theorem witness_DeviceRequests_2 :
    (let s : State := w0
    let s : State := { s with sys := { s.sys with st := .safeStop } }
    (HostOn s R.SYS_CTL.addr) ∧
      (s.sys.st ≠ .loaded ∧ (s.sys.st ≠ .run ∨ moversIdle s = false))) ∧
    (let s : State := w0
    let s : State := { s with sys := { s.sys with st := .ready } }
    let s : State := fset s F.SAF_STATE_STATE 3
    let s : State := fset s F.PAR_CFG_MODE 0
    (HostOn s R.SYS_CTL.addr) ∧
      (runOk s = true)) ∧
    (let s : State := w0
    let s : State := fset s F.SAF_STATE_STATE 2
    (HostOn s R.SYS_CTL.addr) ∧
      (runOk s = false)) ∧
    (let s : State := w0
    let s : State := { s with sys := { s.sys with st := .ready } }
    let s : State := fset s F.PWR_SAVE_DOZE_OK 1
    (HostOn s R.SYS_CTL.addr) ∧
      (s.sys.st = .ready ∧ flag s F.PWR_SAVE_DOZE_OK = true)) := by
  decide +kernel

theorem witness_DeviceRequests_3 :
    (let s : State := w0
    let s : State := { s with sys := { s.sys with st := .safeStop } }
    let s : State := fset s F.SAF_STATE_STATE 2
    let s : State := { s with saf := { s.saf with bad := 0 } }
    let s : State := fset (fset (fset s F.SAF_GEN_RUN_SEL 1022) F.SAF_GEN_OVF_ACT 0) F.SAF_GEN_UE_ACT 0
    let s : State := (List.range 16).foldl (fun s n => fset (fset s F.SAF_AX_CFG_EN 0 (n % 8)) F.SAF_KFB_CFG_EN 0 n) s
    (HostOn s R.SYS_CTL.addr) ∧
      (s.sys.st = .safeStop ∧ fget s F.SAF_STATE_STATE = 2 ∧ standing s = [])) ∧
    (let s : State := w0
    let s : State := { s with sys := { s.sys with st := .ready } }
    (HostOn s R.SYS_CTL.addr) ∧
      (s.sys.st ≠ .safeStop)) ∧
    (let s : State := w0
    let t0 : Nat := 5
    let s : State := { s with sys := { s.sys with st := .ready } }
    let s : State := fset s F.SAF_STATE_STATE 3
    let s : State := fset s F.PAR_CFG_MODE 0
    let s : State := { s with sys := { s.sys with startDue := true, running := true, s0 := lns (advance t0 s) } }
    (s.sys.startDue = true ∧ runOk s = true) ∧
      (s.sys.running = true ∧ lns (advance t0 s) = s.sys.s0)) := by
  decide +kernel

theorem witness_RescueRuns_1 :
    (let s : State := w0
    let t0 : Nat := 5
    let m : Fin 32 := 1
    let s : State := (List.range 32).foldl (fun s k => fset (fset s F.PAR_RSCM_CFG_EN 0 k) F.PAR_RSCM_STATE_STATE 0 k) s
    let s : State := fset (fset (fset (fset s F.PAR_RSCM_CFG_EN 1 m) F.PAR_RSC_MAXPAR 2) F.PAR_RSC_AUTO_RUN 0) F.PAR_RSCM_CFG_AXIS 3 m
    let s : State := { s with par := { s.par with resq := [] } }
    let s : State := fset s F.SAF_STATE_STATE 3
    let s : State := fset s F.PAR_CFG_MODE 0
    let s : State := { s with sys := { s.sys with st := .run } }
    let s : State := { s with mem := [], pwr := { s.pwr with areas := [] } }
    let s : State := fset (fset s F.PAR_FEED_STATUS_BATT 1 0) F.PAR_FEED_STATUS_BATT 1 1
    let s : State := fset s F.PAR_RSC_BATT_T 2
    let s : State := { s with since := SMap.put (fun _ => 0) s.since (Timed.allBatt) 1 }
    let t0 : Nat := 2560000000000 + t0 % 1000
    (allBatt s = true ∧ heldFor Timed.allBatt (1000000000 * fget s F.PAR_RSC_BATT_T) (advance t0 s) = true) ∧
      (s.sys.st ≠ .doze ∧ ownOk s = true ∧ safLive s = true) ∧
      ((List.range 32).filter (fun k => flag s F.PAR_RSCM_CFG_EN k) = [m.val] ∧ rescState s m = 0) ∧
      (s.par.resq = [] ∧ 0 < fget s F.PAR_RSC_MAXPAR ∧ flag s F.PAR_RSC_AUTO_RUN = false ∧ (List.range 32).all (fun k => rescState s k != 1 && rescState s k != 2) = true) ∧
      ((recPeek s m 14).testBit 0 = false)) ∧
    (let s : State := w0
    let m : Fin 32 := 1
    let s : State := (List.range 32).foldl (fun s k => fset (fset s F.PAR_RSCM_CFG_EN 0 k) F.PAR_RSCM_STATE_STATE 0 k) s
    let s : State := fset (fset (fset (fset s F.PAR_RSCM_CFG_EN 1 m) F.PAR_RSC_MAXPAR 2) F.PAR_RSC_AUTO_RUN 0) F.PAR_RSCM_CFG_AXIS 3 m
    let s : State := { s with par := { s.par with resq := [] } }
    let s : State := fset s F.SAF_STATE_STATE 3
    let s : State := fset s F.PAR_CFG_MODE 0
    let s : State := { s with sys := { s.sys with st := .run } }
    let s : State := { s with mem := [], pwr := { s.pwr with areas := [] } }
    (HostOn s R.PAR_RSC.addr) ∧
      (s.sys.st ≠ .doze ∧ ownOk s = true ∧ safLive s = true) ∧
      ((List.range 32).filter (fun k => flag s F.PAR_RSCM_CFG_EN k) = [m.val] ∧ rescState s m = 0) ∧
      (s.par.resq = [] ∧ 0 < fget s F.PAR_RSC_MAXPAR ∧ flag s F.PAR_RSC_AUTO_RUN = false ∧ (List.range 32).all (fun k => rescState s k != 1 && rescState s k != 2) = true) ∧
      ((recPeek s m 14).testBit 0 = false)) := by
  decide +kernel

theorem witness_RescueRuns_2 :
    (let s : State := w0
    let m : Fin 32 := 1
    let s : State := (List.range 32).foldl (fun s k => fset (fset s F.PAR_RSCM_CFG_EN 0 k) F.PAR_RSCM_STATE_STATE 0 k) s
    let s : State := fset (fset (fset (fset s F.PAR_RSCM_CFG_EN 1 m) F.PAR_RSC_MAXPAR 2) F.PAR_RSC_AUTO_RUN 0) F.PAR_RSCM_CFG_AXIS 3 m
    let s : State := { s with par := { s.par with resq := [] } }
    let s : State := fset s F.SAF_STATE_STATE 3
    let s : State := fset s F.PAR_CFG_MODE 0
    let s : State := { s with sys := { s.sys with st := .run } }
    let s : State := { s with mem := [], pwr := { s.pwr with areas := [] } }
    let s : State := fset (fset (fset s F.SAF_STATE_STATE 4) F.SAF_DRY_LEFT_VAL 3) F.SAF_TRESQ_TRESQ 4
    let s : State := { s with saf := { s.saf with rescued := false } }
    (fget s F.SAF_STATE_STATE = 4 ∧ fget s F.SAF_TRESQ_TRESQ ≠ 0 ∧ fget s F.SAF_DRY_LEFT_VAL ≤ fget s F.SAF_TRESQ_TRESQ ∧ s.saf.rescued = false) ∧
      (s.sys.st ≠ .doze ∧ ownOk s = true ∧ safLive s = true) ∧
      ((List.range 32).filter (fun k => flag s F.PAR_RSCM_CFG_EN k) = [m.val] ∧ rescState s m = 0) ∧
      (s.par.resq = [] ∧ 0 < fget s F.PAR_RSC_MAXPAR ∧ flag s F.PAR_RSC_AUTO_RUN = false ∧ (List.range 32).all (fun k => rescState s k != 1 && rescState s k != 2) = true) ∧
      ((recPeek s m 14).testBit 0 = false)) ∧
    (let s : State := w0
    let s : State := fset (fset s F.PAR_RSCM_CFG_EN 1 3) F.SAF_STATE_STATE 2
    (HostOn s R.PAR_RSC.addr) ∧
      (s.sys.st ≠ .doze) ∧
      (ownOk s = false ∨ safLive s = false)) := by
  decide +kernel

theorem witness_RescueRuns_3 :
    (let s : State := w0
    let t0 : Nat := 5
    let m : Fin 32 := 1
    let za : Int := 7
    let zb : Int := 7
    let s : State := (List.range 32).foldl (fun s k => fset (fset s F.PAR_RSCM_CFG_EN 0 k) F.PAR_RSCM_STATE_STATE 0 k) s
    let s : State := fset (fset (fset (fset s F.PAR_RSCM_CFG_EN 1 m) F.PAR_RSC_MAXPAR 2) F.PAR_RSC_AUTO_RUN 0) F.PAR_RSCM_CFG_AXIS 3 m
    let s : State := { s with sys := { s.sys with st := .run }, mem := [], poison := [], pwr := { s.pwr with areas := [] }, par := { s.par with resq := [] } }
    let s : State := fset (fset s F.PAR_RSCM_STATE_STATE 1 m) F.MOV_REC_INDEX 100 m
    let s : State := setMemNat (setMemNat s (sramAt 114) 8 4) (sramAt 113) (unsgn 24 (77)) 4
    let s : State := fset (fset s F.PAR_RSC_ZCOUNT 3) F.PAR_RSC_ZBASE_INDEX 0x300
    let s : State := setMemNat (setMemNat (setMemNat s (sramAt 0x300) (unsgn 32 za) 4) (sramAt 0x301) (unsgn 16 (za / 2 ^ 32) + m.val * 2 ^ 24) 4) (sramAt 0x302) 5 4
    let s : State := setMemNat (setMemNat (setMemNat s (sramAt 0x303) ((m.val + 1) % 32 * 2 ^ 24) 4) (sramAt 0x304) (unsgn 32 zb) 4) (sramAt 0x305) (unsgn 16 (zb / 2 ^ 32) + m.val * 2 ^ 24) 4
    let s : State := fset (fset (fset (fset s F.PAR_RSCM_KPW_VAL 20 m) F.PAR_RSCM_I_FRIC_VAL 2000000 m) F.PAR_RSCM_I_MIN_VAL 400000 m) F.PAR_RSCM_VMIN_VAL (t0 % 90000) m
    let s : State := fset (fset (fset (fset s F.PAR_RSC_BATT_U_AIN 1) F.PAR_RSC_BATT_I_AIN 2) F.PAR_RSC_BATT_I_MAX 30) F.PAR_RSC_SCALE_U_SC 2000
    let s : State := fset (fset (fset (fset s F.PAR_RSC_SCALE_I_SC 3) F.SDM_AIN_VAL_AVG 3000 1) F.SDM_AIN_VAL_AVG 200 2) F.PAR_RSCM_VRES_VAL (80000 + t0 % 77) m
    let s : State := setSax (fget s F.PAR_RSCM_CFG_AXIS m) { s.sax (fget s F.PAR_RSCM_CFG_AXIS m) with lim := 2 ^ 60 } s
    let s : State := if t0 % 2 = 0 then fset s F.PAR_RSC_ZCOUNT 0 else setMemNat (setMemNat s (sramAt 0x301) ((m.val + 1) % 32 * 2 ^ 24) 4) (sramAt 0x305) ((m.val + 2) % 32 * 2 ^ 24) 4
    (rescState s m = 1 ∧ (recPeek s m 14).testBit 3 = true ∧ s.par.resq = []) ∧
      (ZonesRead s ∧ doorZones s m = [])) ∧
    (let s : State := w0
    let t0 : Nat := 5
    let m : Fin 32 := 1
    let s : State := (List.range 32).foldl (fun s k => fset (fset s F.PAR_RSCM_CFG_EN 0 k) F.PAR_RSCM_STATE_STATE 0 k) s
    let s : State := fset (fset (fset (fset s F.PAR_RSCM_CFG_EN 1 m) F.PAR_RSC_MAXPAR 2) F.PAR_RSC_AUTO_RUN 0) F.PAR_RSCM_CFG_AXIS 3 m
    let s : State := { s with sys := { s.sys with st := .run }, mem := [], poison := [], pwr := { s.pwr with areas := [] }, par := { s.par with resq := [] } }
    let s : State := fset (fset s F.PAR_RSCM_STATE_STATE 1 m) F.MOV_REC_INDEX 100 m
    let s : State := fset s F.PAR_RSC_ZCOUNT 0
    let s : State := { s with since := SMap.put (fun _ => 0) s.since (Timed.hold m) 1 }
    let t0 : Nat := 2560000000000 + t0 % 1000
    (rescState s m = 1 ∧ heldFor (Timed.hold m) 2000000000 (advance t0 s) = true ∧ s.par.resq = []) ∧
      (ZonesRead s ∧ doorZones s m = [])) := by
  decide +kernel

theorem witness_RescueRuns_4 :
    (let s : State := w0
    let t0 : Nat := 5
    let m : Fin 32 := 1
    let za : Int := 7
    let s : State := (List.range 32).foldl (fun s k => fset (fset s F.PAR_RSCM_CFG_EN 0 k) F.PAR_RSCM_STATE_STATE 0 k) s
    let s : State := fset (fset (fset (fset s F.PAR_RSCM_CFG_EN 1 m) F.PAR_RSC_MAXPAR 2) F.PAR_RSC_AUTO_RUN 0) F.PAR_RSCM_CFG_AXIS 3 m
    let s : State := { s with sys := { s.sys with st := .run }, mem := [], poison := [], pwr := { s.pwr with areas := [] }, par := { s.par with resq := [] } }
    let s : State := fset (fset s F.PAR_RSCM_STATE_STATE 1 m) F.MOV_REC_INDEX 100 m
    let s : State := setMemNat (setMemNat s (sramAt 114) 8 4) (sramAt 113) (unsgn 24 (if t0 % 2 = 0 then 1500000 else -1700000)) 4
    let s : State := setPrf m { s.prf m with sp := ⟨pScale * (za - (if t0 % 2 = 0 then -5 else 5)), 0, 0⟩ } s
    let zb : Int := if t0 % 2 = 0 then za - 7 else za + 9
    let s : State := fset (fset s F.PAR_RSC_ZCOUNT 3) F.PAR_RSC_ZBASE_INDEX 0x300
    let s : State := setMemNat (setMemNat (setMemNat s (sramAt 0x300) (unsgn 32 za) 4) (sramAt 0x301) (unsgn 16 (za / 2 ^ 32) + m.val * 2 ^ 24) 4) (sramAt 0x302) 5 4
    let s : State := setMemNat (setMemNat (setMemNat s (sramAt 0x303) ((m.val + 1) % 32 * 2 ^ 24) 4) (sramAt 0x304) (unsgn 32 zb) 4) (sramAt 0x305) (unsgn 16 (zb / 2 ^ 32) + m.val * 2 ^ 24) 4
    let s : State := fset (fset (fset (fset s F.PAR_RSCM_KPW_VAL 20 m) F.PAR_RSCM_I_FRIC_VAL 2000000 m) F.PAR_RSCM_I_MIN_VAL 400000 m) F.PAR_RSCM_VMIN_VAL (t0 % 90000) m
    let s : State := fset (fset (fset (fset s F.PAR_RSC_BATT_U_AIN 1) F.PAR_RSC_BATT_I_AIN 2) F.PAR_RSC_BATT_I_MAX 30) F.PAR_RSC_SCALE_U_SC 2000
    let s : State := fset (fset (fset (fset s F.PAR_RSC_SCALE_I_SC 3) F.SDM_AIN_VAL_AVG 3000 1) F.SDM_AIN_VAL_AVG 200 2) F.PAR_RSCM_VRES_VAL (80000 + t0 % 77) m
    let s : State := setSax (fget s F.PAR_RSCM_CFG_AXIS m) { s.sax (fget s F.PAR_RSCM_CFG_AXIS m) with lim := 2 ^ 60 } s
    let q : Int := za
    let s : State := fset s F.PAR_RSCM_BAL_VAL 1000 m
    (rescState s m = 1 ∧ (recPeek s m 14).testBit 3 = true ∧ s.par.resq = []) ∧
      (fget s F.PAR_RSCM_BAL_VAL m ≤ (recHold s m).natAbs ∧ (recHold s m) ≠ 0) ∧
      (ZonesRead s ∧ NearestZone s m (decide ((0 : Int) < (recHold s m))) q) ∧
      (0 < fget s F.PAR_RSCM_KPW_VAL m * (max (fget s F.PAR_RSCM_I_FRIC_VAL m - (recHold s m).natAbs) (fget s F.PAR_RSCM_I_MIN_VAL m)))) ∧
    (let s : State := w0
    let t0 : Nat := 5
    let m : Fin 32 := 1
    let za : Int := 7
    let s : State := (List.range 32).foldl (fun s k => fset (fset s F.PAR_RSCM_CFG_EN 0 k) F.PAR_RSCM_STATE_STATE 0 k) s
    let s : State := fset (fset (fset (fset s F.PAR_RSCM_CFG_EN 1 m) F.PAR_RSC_MAXPAR 2) F.PAR_RSC_AUTO_RUN 0) F.PAR_RSCM_CFG_AXIS 3 m
    let s : State := { s with sys := { s.sys with st := .run }, mem := [], poison := [], pwr := { s.pwr with areas := [] }, par := { s.par with resq := [] } }
    let s : State := fset (fset s F.PAR_RSCM_STATE_STATE 1 m) F.MOV_REC_INDEX 100 m
    let s : State := setMemNat (setMemNat s (sramAt 114) 8 4) (sramAt 113) (unsgn 24 (if t0 % 2 = 0 then 1500000 else -1700000)) 4
    let s : State := setPrf m { s.prf m with sp := ⟨pScale * (za + (if t0 % 2 = 0 then -5 else 5)), 0, 0⟩ } s
    let zb : Int := if t0 % 2 = 0 then za + 7 else za - 9
    let s : State := fset (fset s F.PAR_RSC_ZCOUNT 3) F.PAR_RSC_ZBASE_INDEX 0x300
    let s : State := setMemNat (setMemNat (setMemNat s (sramAt 0x300) (unsgn 32 za) 4) (sramAt 0x301) (unsgn 16 (za / 2 ^ 32) + m.val * 2 ^ 24) 4) (sramAt 0x302) 5 4
    let s : State := setMemNat (setMemNat (setMemNat s (sramAt 0x303) ((m.val + 1) % 32 * 2 ^ 24) 4) (sramAt 0x304) (unsgn 32 zb) 4) (sramAt 0x305) (unsgn 16 (zb / 2 ^ 32) + m.val * 2 ^ 24) 4
    let s : State := fset (fset (fset (fset s F.PAR_RSCM_KPW_VAL 20 m) F.PAR_RSCM_I_FRIC_VAL 2000000 m) F.PAR_RSCM_I_MIN_VAL 400000 m) F.PAR_RSCM_VMIN_VAL (t0 % 90000) m
    let s : State := fset (fset (fset (fset s F.PAR_RSC_BATT_U_AIN 1) F.PAR_RSC_BATT_I_AIN 2) F.PAR_RSC_BATT_I_MAX 30) F.PAR_RSC_SCALE_U_SC 2000
    let s : State := fset (fset (fset (fset s F.PAR_RSC_SCALE_I_SC 3) F.SDM_AIN_VAL_AVG 3000 1) F.SDM_AIN_VAL_AVG 200 2) F.PAR_RSCM_VRES_VAL (80000 + t0 % 77) m
    let s : State := setSax (fget s F.PAR_RSCM_CFG_AXIS m) { s.sax (fget s F.PAR_RSCM_CFG_AXIS m) with lim := 2 ^ 60 } s
    let q : Int := za
    let s : State := fset s F.PAR_RSCM_BAL_VAL 1000 m
    (rescState s m = 1 ∧ (recPeek s m 14).testBit 3 = true ∧ s.par.resq = []) ∧
      (fget s F.PAR_RSCM_BAL_VAL m ≤ (recHold s m).natAbs ∧ (recHold s m) ≠ 0) ∧
      (ZonesRead s ∧ (∀ z ∈ doorZones s m, ¬ zoneSide s m (decide ((0 : Int) < (recHold s m))) z) ∧ NearestZone s m (!decide ((0 : Int) < (recHold s m))) q) ∧
      (0 < fget s F.PAR_RSCM_KPW_VAL m * (fget s F.PAR_RSCM_I_FRIC_VAL m + (recHold s m).natAbs))) := by
  decide +kernel

theorem witness_RescueRuns_5 :
    (let s : State := w0
    let t0 : Nat := 5
    let m : Fin 32 := 1
    let za : Int := 7
    let s : State := (List.range 32).foldl (fun s k => fset (fset s F.PAR_RSCM_CFG_EN 0 k) F.PAR_RSCM_STATE_STATE 0 k) s
    let s : State := fset (fset (fset (fset s F.PAR_RSCM_CFG_EN 1 m) F.PAR_RSC_MAXPAR 2) F.PAR_RSC_AUTO_RUN 0) F.PAR_RSCM_CFG_AXIS 3 m
    let s : State := { s with sys := { s.sys with st := .run }, mem := [], poison := [], pwr := { s.pwr with areas := [] }, par := { s.par with resq := [] } }
    let s : State := fset (fset s F.PAR_RSCM_STATE_STATE 1 m) F.MOV_REC_INDEX 100 m
    let s : State := setMemNat (setMemNat s (sramAt 114) 8 4) (sramAt 113) (unsgn 24 (if t0 % 2 = 0 then 600 else -700)) 4
    let s : State := setPrf m { s.prf m with sp := ⟨pScale * (za + (if t0 % 3 = 0 then -5 else 5)), 0, 0⟩ } s
    let zb : Int := if t0 % 5 < 2 then za + 17 else za - 19
    let s : State := fset (fset s F.PAR_RSC_ZCOUNT 3) F.PAR_RSC_ZBASE_INDEX 0x300
    let s : State := setMemNat (setMemNat (setMemNat s (sramAt 0x300) (unsgn 32 za) 4) (sramAt 0x301) (unsgn 16 (za / 2 ^ 32) + m.val * 2 ^ 24) 4) (sramAt 0x302) 5 4
    let s : State := setMemNat (setMemNat (setMemNat s (sramAt 0x303) ((m.val + 1) % 32 * 2 ^ 24) 4) (sramAt 0x304) (unsgn 32 zb) 4) (sramAt 0x305) (unsgn 16 (zb / 2 ^ 32) + m.val * 2 ^ 24) 4
    let s : State := fset (fset (fset (fset s F.PAR_RSCM_KPW_VAL 20 m) F.PAR_RSCM_I_FRIC_VAL 2000000 m) F.PAR_RSCM_I_MIN_VAL 400000 m) F.PAR_RSCM_VMIN_VAL (t0 % 90000) m
    let s : State := fset (fset (fset (fset s F.PAR_RSC_BATT_U_AIN 1) F.PAR_RSC_BATT_I_AIN 2) F.PAR_RSC_BATT_I_MAX 30) F.PAR_RSC_SCALE_U_SC 2000
    let s : State := fset (fset (fset (fset s F.PAR_RSC_SCALE_I_SC 3) F.SDM_AIN_VAL_AVG 3000 1) F.SDM_AIN_VAL_AVG 200 2) F.PAR_RSCM_VRES_VAL (80000 + t0 % 77) m
    let s : State := setSax (fget s F.PAR_RSCM_CFG_AXIS m) { s.sax (fget s F.PAR_RSCM_CFG_AXIS m) with lim := 2 ^ 60 } s
    let q : Int := za
    let s : State := fset s F.PAR_RSCM_BAL_VAL 1000 m
    (rescState s m = 1 ∧ (recPeek s m 14).testBit 3 = true ∧ s.par.resq = []) ∧
      ((recHold s m).natAbs < fget s F.PAR_RSCM_BAL_VAL m ∧ (recHold s m) ≠ 0) ∧
      (ZonesRead s ∧ q ∈ doorZones s m ∧ q ≠ spInt (s.prf m).sp) ∧
      (∀ z ∈ doorZones s m, z = q ∨ (q - spInt (s.prf m).sp).natAbs < (z - spInt (s.prf m).sp).natAbs) ∧
      (0 < fget s F.PAR_RSCM_KPW_VAL m * (if (0 < (recHold s m)) = (q < spInt (s.prf m).sp) then max (fget s F.PAR_RSCM_I_FRIC_VAL m - (recHold s m).natAbs) (fget s F.PAR_RSCM_I_MIN_VAL m) else fget s F.PAR_RSCM_I_FRIC_VAL m + (recHold s m).natAbs))) ∧
    (let s : State := w0
    let t0 : Nat := 5
    let m : Fin 32 := 1
    let za : Int := 7
    let s : State := (List.range 32).foldl (fun s k => fset (fset s F.PAR_RSCM_CFG_EN 0 k) F.PAR_RSCM_STATE_STATE 0 k) s
    let s : State := fset (fset (fset (fset s F.PAR_RSCM_CFG_EN 1 m) F.PAR_RSC_MAXPAR 2) F.PAR_RSC_AUTO_RUN 0) F.PAR_RSCM_CFG_AXIS 3 m
    let s : State := { s with sys := { s.sys with st := .run }, mem := [], poison := [], pwr := { s.pwr with areas := [] }, par := { s.par with resq := [] } }
    let s : State := fset (fset s F.PAR_RSCM_STATE_STATE 1 m) F.MOV_REC_INDEX 100 m
    let s : State := setPrf m { s.prf m with sp := ⟨pScale * (za - (if t0 % 2 = 0 then -5 else 5)), 0, 0⟩ } s
    let zb : Int := if t0 % 2 = 0 then za - 7 else za + 9
    let s : State := fset (fset s F.PAR_RSCM_BAL_VAL 1000 m) F.PAR_RSCM_CFG_FB_DIR (if t0 % 2 = 0 then 1 else 0) m
    let s : State := fset (fset s F.PAR_RSC_ZCOUNT 3) F.PAR_RSC_ZBASE_INDEX 0x300
    let s : State := setMemNat (setMemNat (setMemNat s (sramAt 0x300) (unsgn 32 za) 4) (sramAt 0x301) (unsgn 16 (za / 2 ^ 32) + m.val * 2 ^ 24) 4) (sramAt 0x302) 5 4
    let s : State := setMemNat (setMemNat (setMemNat s (sramAt 0x303) ((m.val + 1) % 32 * 2 ^ 24) 4) (sramAt 0x304) (unsgn 32 zb) 4) (sramAt 0x305) (unsgn 16 (zb / 2 ^ 32) + m.val * 2 ^ 24) 4
    let s : State := fset (fset (fset (fset s F.PAR_RSCM_KPW_VAL 20 m) F.PAR_RSCM_I_FRIC_VAL 2000000 m) F.PAR_RSCM_I_MIN_VAL 400000 m) F.PAR_RSCM_VMIN_VAL (t0 % 90000) m
    let s : State := fset (fset (fset (fset s F.PAR_RSC_BATT_U_AIN 1) F.PAR_RSC_BATT_I_AIN 2) F.PAR_RSC_BATT_I_MAX 30) F.PAR_RSC_SCALE_U_SC 2000
    let s : State := fset (fset (fset (fset s F.PAR_RSC_SCALE_I_SC 3) F.SDM_AIN_VAL_AVG 3000 1) F.SDM_AIN_VAL_AVG 200 2) F.PAR_RSCM_VRES_VAL (80000 + t0 % 77) m
    let s : State := setSax (fget s F.PAR_RSCM_CFG_AXIS m) { s.sax (fget s F.PAR_RSCM_CFG_AXIS m) with lim := 2 ^ 60 } s
    let q : Int := za
    let s : State := { s with par := { s.par with hold := [] } }
    let s : State := { s with since := SMap.put (fun _ => 0) s.since (Timed.hold m) 1 }
    let t0 : Nat := 2560000000000 + t0 % 1000
    (rescState s m = 1 ∧ heldFor (Timed.hold m) 2000000000 (advance t0 s) = true ∧ s.par.resq = []) ∧
      (holdKept (advance t0 s) m = none) ∧
      (ZonesRead s ∧ NearestZone s m (flag s F.PAR_RSCM_CFG_FB_DIR m) q) ∧
      (0 < fget s F.PAR_RSCM_KPW_VAL m * (fget s F.PAR_RSCM_I_FRIC_VAL m + fget s F.PAR_RSCM_BAL_VAL m))) := by
  decide +kernel

theorem witness_RescueRuns_6 :
    (let s : State := w0
    let t0 : Nat := 5
    let m : Fin 32 := 1
    let za : Int := 7
    let s : State := (List.range 32).foldl (fun s k => fset (fset s F.PAR_RSCM_CFG_EN 0 k) F.PAR_RSCM_STATE_STATE 0 k) s
    let s : State := fset (fset (fset (fset s F.PAR_RSCM_CFG_EN 1 m) F.PAR_RSC_MAXPAR 2) F.PAR_RSC_AUTO_RUN 0) F.PAR_RSCM_CFG_AXIS 3 m
    let s : State := { s with sys := { s.sys with st := .run }, mem := [], poison := [], pwr := { s.pwr with areas := [] }, par := { s.par with resq := [] } }
    let s : State := fset (fset s F.PAR_RSCM_STATE_STATE 1 m) F.MOV_REC_INDEX 100 m
    let x : Int := if t0 % 2 = 0 then 1500000 else -1700000
    let s : State := setPrf m { s.prf m with sp := ⟨pScale * (za - (if t0 % 2 = 0 then -5 else 5)), 0, 0⟩ } s
    let zb : Int := if t0 % 2 = 0 then za - 7 else za + 9
    let s : State := fset (fset s F.PAR_RSC_ZCOUNT 3) F.PAR_RSC_ZBASE_INDEX 0x300
    let s : State := setMemNat (setMemNat (setMemNat s (sramAt 0x300) (unsgn 32 za) 4) (sramAt 0x301) (unsgn 16 (za / 2 ^ 32) + m.val * 2 ^ 24) 4) (sramAt 0x302) 5 4
    let s : State := setMemNat (setMemNat (setMemNat s (sramAt 0x303) ((m.val + 1) % 32 * 2 ^ 24) 4) (sramAt 0x304) (unsgn 32 zb) 4) (sramAt 0x305) (unsgn 16 (zb / 2 ^ 32) + m.val * 2 ^ 24) 4
    let s : State := fset (fset (fset (fset s F.PAR_RSCM_KPW_VAL 20 m) F.PAR_RSCM_I_FRIC_VAL 2000000 m) F.PAR_RSCM_I_MIN_VAL 400000 m) F.PAR_RSCM_VMIN_VAL (t0 % 90000) m
    let s : State := fset (fset (fset (fset s F.PAR_RSC_BATT_U_AIN 1) F.PAR_RSC_BATT_I_AIN 2) F.PAR_RSC_BATT_I_MAX 30) F.PAR_RSC_SCALE_U_SC 2000
    let s : State := fset (fset (fset (fset s F.PAR_RSC_SCALE_I_SC 3) F.SDM_AIN_VAL_AVG 3000 1) F.SDM_AIN_VAL_AVG 200 2) F.PAR_RSCM_VRES_VAL (80000 + t0 % 77) m
    let s : State := setSax (fget s F.PAR_RSCM_CFG_AXIS m) { s.sax (fget s F.PAR_RSCM_CFG_AXIS m) with lim := 2 ^ 60 } s
    let q : Int := za
    let s : State := fset s F.PAR_RSCM_BAL_VAL 1000 m
    let s : State := { s with since := SMap.put (fun _ => 0) s.since (Timed.hold m) 1 }
    let t0 : Nat := 2560000000000 + t0 % 1000
    let s : State := { s with par := { s.par with hold := [(m.val, (x, lns (advance t0 s) + 1))] } }
    (rescState s m = 1 ∧ heldFor (Timed.hold m) 2000000000 (advance t0 s) = true ∧ s.par.resq = []) ∧
      (holdKept (advance t0 s) m = some x) ∧
      (fget s F.PAR_RSCM_BAL_VAL m ≤ x.natAbs ∧ x ≠ 0) ∧
      (ZonesRead s ∧ NearestZone s m (decide ((0 : Int) < x)) q) ∧
      (0 < fget s F.PAR_RSCM_KPW_VAL m * (max (fget s F.PAR_RSCM_I_FRIC_VAL m - x.natAbs) (fget s F.PAR_RSCM_I_MIN_VAL m)))) ∧
    (let s : State := w0
    let m : Fin 32 := 1
    let s : State := (List.range 32).foldl (fun s k => fset (fset s F.PAR_RSCM_CFG_EN 0 k) F.PAR_RSCM_STATE_STATE 0 k) s
    let s : State := fset (fset (fset (fset s F.PAR_RSCM_CFG_EN 1 m) F.PAR_RSC_MAXPAR 2) F.PAR_RSC_AUTO_RUN 0) F.PAR_RSCM_CFG_AXIS 3 m
    let s : State := { s with sys := { s.sys with st := .run }, mem := [], poison := [], pwr := { s.pwr with areas := [] }, par := { s.par with resq := [] } }
    let s : State := fset (fset s F.PAR_RSCM_STATE_STATE 1 m) F.MOV_REC_INDEX 100 m
    let s : State := fset (fset s F.PAR_RSCM_STATE_STATE 0 m) F.SAF_STATE_STATE 3
    let s : State := fset s F.PAR_CFG_MODE 0
    let s : State := setMemNat s (sramAt 114) 1 4
    (HostOn s R.PAR_RSC.addr) ∧
      (s.sys.st ≠ .doze ∧ ownOk s = true ∧ safLive s = true) ∧
      ((List.range 32).filter (fun k => flag s F.PAR_RSCM_CFG_EN k) = [m.val] ∧ rescState s m = 0) ∧
      (s.par.resq = [] ∧ 0 < fget s F.PAR_RSC_MAXPAR ∧ flag s F.PAR_RSC_AUTO_RUN = false ∧ (List.range 32).all (fun k => rescState s k != 1 && rescState s k != 2) = true) ∧
      ((recPeek s m 14).testBit 0 = true)) := by
  decide +kernel

theorem witness_RescueRuns_7 :
    (let s : State := w0
    let t0 : Nat := 5
    let m : Fin 32 := 1
    let v : Word := 5#32
    let q : Int := 7
    let s : State := { s with sys := { s.sys with running := true, runReq := false, st := .run, imp := s.sys.imp / 4 * 4 + 3, first := true }, quo := { s.quo with pending := none, implicit := [] }, mot := { s.mot with restored := false, sch := [] } }
    let s : State := forN 64 (fun i s => fset s F.SCH_STAT_STATE (i % 6 / 5 * 2) i) (fset s F.SYS_IMP_CFG_NP (1 + t0 % 2) )
    let s : State := forN 8 (fun g s => setPth g { s.pth g with pend := none } (fset s F.PTH_STATUS_STATE 0 g)) (forN 16 (fun a s => setAcd a { s.acd a with pend := none } (fset s F.ACD_STATUS_STATE 0 a)) (forN 32 (fun k s => setPrf k { s.prf k with pend := none } s) s))
    let s : State := { s with par := { s.par with rescNew := [(m.val, ⟨v.toNat + 1, q, false⟩)] } }
    (PlainBoundary s) ∧
      (SMap.get (fun _ => noResc) s.par.rescNew m = ⟨v.toNat + 1, q, false⟩) ∧
      ((s.prf m).pend = none)) ∧
    (let s : State := w0
    let t0 : Nat := 5
    let m : Fin 32 := 1
    let x : RescS := ⟨7, 8, false⟩
    let s : State := { s with sys := { s.sys with running := true, runReq := false, st := .run, imp := s.sys.imp / 4 * 4 + 3, first := true }, quo := { s.quo with pending := none, implicit := [] }, mot := { s.mot with restored := false, sch := [] } }
    let s : State := forN 64 (fun i s => fset s F.SCH_STAT_STATE (i % 6 / 5 * 2) i) (fset s F.SYS_IMP_CFG_NP (1 + t0 % 2) )
    let s : State := forN 8 (fun g s => setPth g { s.pth g with pend := none } (fset s F.PTH_STATUS_STATE 0 g)) (forN 16 (fun a s => setAcd a { s.acd a with pend := none } (fset s F.ACD_STATUS_STATE 0 a)) (forN 32 (fun k s => setPrf k { s.prf k with pend := none } s) s))
    let s : State := fset (fset (fset (fset s F.PAR_RSCM_STATE_STATE 2 m) F.PRF_STATE_STATE 0 m) F.PRF_STATE_CMDRES 1 m) F.PRF_STATE_OUTCOME 1 m
    let x : RescS := { x with vmax := x.vmax % 2 ^ 32 }
    let s : State := { s with par := { s.par with rescNew := [], resc := [(m.val, x)], resq := [] } }
    (PlainBoundary s) ∧
      (ServoNext s) ∧
      (OnlyAccords s []) ∧
      (rescState s m = 2 ∧ rescTaken s m = true ∧ SMap.get (fun _ => noResc) s.par.resc m = x) ∧
      (fget s F.PRF_STATE_STATE m = 0 ∧ fget s F.PRF_STATE_CMDRES m = 1 ∧ fget s F.PRF_STATE_OUTCOME m = 1)) := by
  decide +kernel

theorem witness_RescueRuns_8 :
    (let s : State := w0
    let t0 : Nat := 5
    let s : State := (fset (fset (fset s F.PAR_RSCM_STATE_STATE 2 3) F.PAR_RSCM_STATE_STATE 1 5) F.PAR_RSCM_STATE_STATE 2 31)
    let s : State := fset (fset { s with par := { s.par with resq := [], resc := [], rescNew := [(31, ⟨7, 8, false⟩)] } } F.PAR_RSC_VOLT_U_STOP 9) F.PAR_RSC_SCALE_U_SC 0
    let s : State := setPrf 3 { s.prf 3 with pend := none } s
    let s : State := { s with since := SMap.put (fun _ => 0) s.since (Timed.stop) 1 }
    let t0 : Nat := 2560000000000 + t0 % 1000
    (s.par.resq = [] ∧ battLow s = true ∧ heldFor Timed.stop 100000000 (advance t0 s) = true)) := by
  decide +kernel

theorem witness_FeedsAndFlush_1 :
    (let s : State := w0
    let s : State := fset s F.PAR_CFG_MODE 0
    (s.sys.st ≠ .off) ∧
      (feedUsed s 0 = true ∧ feedUsed s 1 = true)) ∧
    (let s : State := w0
    let t0 : Nat := 5
    let f : Fin 2 := 1
    let s : State := fset (id s) F.PAR_CFG_MODE 0
    let s : State := { s with since := SMap.put (fun _ => 0) s.since (Timed.low f) 1 }
    let t0 : Nat := 2560000000000 + t0 % 1000
    (feedUsed s f = true) ∧
      (fget s F.PAR_FEED_STATUS_VOLT f < 750 ∧ heldFor (Timed.low f) 1000000 (advance t0 s) = true)) ∧
    (let s : State := w0
    let t0 : Nat := 5
    let f : Fin 2 := 1
    let s : State := fset (fset (id s) F.PAR_CFG_MODE 0) F.PAR_STATUS_SEL_FEED (1 - f.val)
    let s : State := fset (fset s F.PAR_FEED_STATUS_CLASS 0 f) F.PAR_FEED_STATUS_CLASS 2 (1 - f.val)
    let s : State := { s with since := SMap.put (fun _ => 0) s.since (Timed.better) 1 }
    let t0 : Nat := 2560000000000 + t0 % 1000
    (feedUsed s f = true) ∧
      (fget s F.PAR_STATUS_SEL_FEED = 1 - f.val ∧ feedBetter s f (1 - f.val) = true ∧ heldFor Timed.better 100000000 (advance t0 s) = true)) ∧
    (let s : State := w0
    let t0 : Nat := 5
    let f : Fin 2 := 1
    let s : State := fset (fset (id s) F.PAR_CFG_MODE 0) F.PAR_FEED_CFG_BATT_SRC 3 f
    let s : State := fset (fset s F.PAR_BATT_V_V0 7 ) F.PAR_BATT_V_V1 7
    let s : State := fset s F.PAR_FEED_STATUS_VOLT (t0 % 70) f
    let s : State := { s with since := SMap.put (fun _ => 0) s.since (Timed.batt f) 1 }
    let t0 : Nat := 2560000000000 + t0 % 1000
    (feedUsed s f = true) ∧
      (fget s F.PAR_FEED_CFG_BATT_SRC f = 3 ∧ fget s F.PAR_FEED_STATUS_VOLT f < battV s f ∧ heldFor (Timed.batt f) 1000000000 (advance t0 s) = true)) := by
  decide +kernel

theorem witness_FeedsAndFlush_2 :
    (let s : State := w0
    let s : State := { s with sys := { s.sys with st := .run } }
    let s : State := { s with par := { s.par with flushDue := false, flush := none } }
    let s : State := { s with rom := { s.rom with slots := [], region := 0, erase := [] } }
    let s : State := { s with sys := { s.sys with running := true } }
    (s.sys.st ≠ .off ∧ s.sys.st ≠ .boot ∧ s.par.flushDue = false ∧ s.par.flush = none) ∧
      ((flushNext s).isSome = true ∧ s.sys.running = true)) ∧
    (let s : State := w0
    let s : State := { s with sys := { s.sys with st := .run } }
    let s : State := { s with par := { s.par with flushDue := false, flush := none } }
    let s : State := { s with rom := { s.rom with slots := [], region := 0, erase := [] } }
    let s : State := { s with poison := [], sys := { s.sys with running := false } }
    (s.sys.st ≠ .off ∧ s.sys.st ≠ .boot ∧ s.par.flushDue = false ∧ s.par.flush = none) ∧
      ((flushNext s).isSome = true ∧ s.sys.running = false ∧ mapPoison s (mapsOn s) = [] ∧ s.sys.st ≠ .doze)) ∧
    (let s : State := w0
    let s : State := { s with sys := { s.sys with st := .run } }
    let s : State := { s with par := { s.par with flushDue := false, flush := none } }
    let s : State := { s with rom := { s.rom with slots := [], region := 0, erase := [] } }
    (s.sys.st ≠ .off ∧ s.sys.st ≠ .boot ∧ s.par.flushDue = false ∧ s.par.flush = none)) ∧
    (let s : State := w0
    let r : Nat := 5
    let l : List Nat := [5]
    let r : Nat := r % 2
    let s : State := { s with rom := { s.rom with erase := r :: l, slots := [(3, some none), (20, some none)] } }
    (s.rom.erase = r :: l)) := by
  decide +kernel

theorem witness_EssenceExchange_1 :
    (let s : State := w0
    let t0 : Nat := 5
    let s : State := fset s F.PAR_CFG_MODE 1
    let s : State := { s with sys := { s.sys with st := .run } }
    let s : State := { s with sys := { s.sys with running := true, imp := 0 } }
    let s : State := { s with par := { s.par with claim := true, link := true, sending := none, asked := false, release := false } }
    let s : State := { s with poison := [], sys := { s.sys with s0 := lns (advance t0 s) }, par := { s.par with capAt := 0, release := decide (t0 % 2 = 0) } }
    (parActive s = true ∧ lns (advance t0 s) = s.sys.s0 ∧ impCount s % essEvery s = 0 ∧ s.par.capAt ≠ impCount s + 1) ∧
      (s.par.sending = none ∧ s.par.asked = false ∧ mapPoison s (mapsOn s) = [])) ∧
    (let s : State := w0
    let t0 : Nat := 5
    let e0 : Nat := 5
    let e : Essence := (capture e0 false false s0)
    let s : State := fset s F.PAR_CFG_MODE 1
    let s : State := { s with sys := { s.sys with st := .run, running := true, imp := 0, s0 := lns (advance t0 s) }, par := { s.par with claim := true, sending := some e, asked := false, capAt := 0 } }
    (parActive s = true ∧ lns (advance t0 s) = s.sys.s0 ∧ impCount s % essEvery s = 0 ∧ s.par.capAt ≠ impCount s + 1) ∧
      (s.par.sending = some e ∧ s.par.asked = false)) ∧
    (let s : State := w0
    let t0 : Nat := 5
    let s : State := fset s F.PAR_CFG_MODE 1
    let s : State := { s with sys := { s.sys with st := .run, running := true, imp := 0, s0 := lns (advance t0 s) }, par := { s.par with claim := true, sending := none, asked := false, capAt := 0 } }
    let s : State := setPoison { fset (fset (fset s F.PAR_MAP0_KIND 3 0) F.PAR_MAP0_START 64 0) F.PAR_MAP1_COUNT 2 0 with poison := [] } (sramAt 64) true
    let a : Nat := (mapPoison s (mapsOn s)).headD 0
    let l : List Nat := (mapPoison s (mapsOn s)).tail
    (parActive s = true ∧ lns (advance t0 s) = s.sys.s0 ∧ impCount s % essEvery s = 0 ∧ s.par.capAt ≠ impCount s + 1) ∧
      (s.par.sending = none ∧ s.par.asked = false ∧ mapPoison s (mapsOn s) = a :: l)) ∧
    (let s : State := w0
    let e0 : Nat := 5
    let e : Essence := (capture e0 false false s0)
    let s : State := { s with par := { s.par with sending := some e, link := true } }
    (s.par.sending = some e ∧ s.par.link = true)) := by
  decide +kernel

theorem witness_EssenceExchange_2 :
    (let s : State := w0
    let e0 : Nat := 5
    let e : Essence := (capture e0 false false s0)
    let s : State := { s with par := { s.par with sending := some e, link := false } }
    (s.par.sending = some e ∧ s.par.link = false)) ∧
    (let s : State := w0
    let e0 : Nat := 5
    let e : Essence := (capture e0 false false s0)
    let s : State := { s with par := { s.par with sending := some e } }
    (s.par.sending = some e)) ∧
    (let s : State := w0
    let q : Nat := 5
    let s : State := fset (fset s F.PAR_CFG_MODE 1) F.PAR_CFG_SBY_CNT 0
    let s : State := { s with sys := { s.sys with st := .standby }, par := { s.par with link := true, slot0 := none, slot1 := none, asked := false } }
    let e : Essence := { (capture (q * 65537 % 2 ^ 32) false false s0) with check := galleyCheck s, handback := false }
    let o : Essence := ({ (capture 5 false false s0) with gen := e.gen + 2 ^ 32 - 1 - q % 1000, check := galleyCheck s } : Essence)
    let o : Essence := ({ o with gen := o.gen % 2 ^ 32 } : Essence)
    let s : State := if q % 2 = 0 then fset { s with par := { s.par with slot0 := some o } } F.PAR_ESS_STATUS_SLOT 0 else fset { s with par := { s.par with slot1 := some o } } F.PAR_ESS_STATUS_SLOT 1
    let o : Essence := ({ o with gen := (e.gen + q % 3) % 2 ^ 32 } : Essence)
    let s : State := if q % 2 = 0 then { s with par := { s.par with slot0 := some o } } else { s with par := { s.par with slot1 := some o } }
    (s.sys.st = .standby ∧ s.par.link = true) ∧
      (e.check = galleyCheck s) ∧
      (newest s = some o) ∧
      (seqNew (some o.gen) e.gen = false)) ∧
    (let s : State := w0
    let q : Nat := 5
    let s : State := fset (fset s F.PAR_CFG_MODE 1) F.PAR_CFG_SBY_CNT 0
    let s : State := { s with sys := { s.sys with st := .standby }, par := { s.par with link := true, slot0 := none, slot1 := none, asked := false } }
    let e : Essence := { (capture (q * 65537 % 2 ^ 32) false false s0) with check := galleyCheck s, handback := false }
    let e : Essence := { e with check := galleyCheck s + 1 }
    (s.sys.st = .standby ∧ s.par.link = true) ∧
      (e.check ≠ galleyCheck s)) := by
  decide +kernel

theorem witness_EssenceExchange_3 :
    (let s : State := w0
    let t0 : Nat := 5
    let s : State := fset s F.PAR_CFG_MODE 1
    let s : State := { s with sys := { s.sys with st := .standby } }
    let s : State := { s with par := { s.par with link := true, slot0 := none, slot1 := none } }
    let s : State := fset (fset (fset s F.PAR_CFG_SBY_CNT 1) F.SYS_IMP_CFG_PERIOD 1) F.SYS_IMP_PHASE_OFFSET 0
    let t0 : Nat := (t0 + max s.tim.acc s.tim.acc / 2 ^ 18) / 5120000 * 5120000 + 5120000
    (s.sys.st = .standby ∧ flag s F.PAR_CFG_SBY_CNT = true ∧ gridFrom (advance t0 s) (lns (advance t0 s)) = lns (advance t0 s))) ∧
    (let s : State := w0
    let s : State := fset s F.PAR_CFG_MODE 1
    let s : State := { s with sys := { s.sys with st := .standby } }
    let s : State := { s with par := { s.par with link := true, slot0 := none, slot1 := none } }
    (pairMode s = true ∧ s.sys.st = .standby)) ∧
    (let s : State := w0
    let s : State := fset { s with par := { s.par with claim := true, silent := false } } F.PAR_CFG_MODE 1
    (pairMode s = true ∧ (s.sys.st = .standby ∨ s.par.claim = true) ∧ s.par.silent = false)) ∧
    (let s : State := w0
    let e := (capture 5 false false s0)
    let s : State := fset s F.PAR_CFG_MODE 1
    let s : State := { s with sys := { s.sys with st := .standby } }
    let s : State := { s with par := { s.par with link := true, slot0 := none, slot1 := none } }
    let s : State := fset (fset (fset s F.PAR_CFG_PREFERRED 1) F.PAR_CTL_HANDBACK_HOLD 0) F.PAR_CFG_HB_MODE 0
    let s : State := { s with par := { s.par with slot0 := some e, slot1 := some e } }
    (s.sys.st = .standby ∧ s.par.link = true) ∧
      (flag s F.PAR_CFG_PREFERRED = true ∧ flag s F.PAR_CTL_HANDBACK_HOLD = false ∧ flag s F.PAR_CFG_HB_MODE = false ∧ (newest s).isSome = true)) := by
  decide +kernel

theorem witness_EssenceExchange_4 :
    (let s : State := w0
    let s : State := fset { s with sys := { s.sys with st := .standby }, par := { s.par with asked := true } } F.PAR_CTL_HANDBACK_HOLD 1
    (s.sys.st = .standby ∧ s.par.asked = true) ∧
      (flag s F.PAR_CFG_PREFERRED = false ∨ flag s F.PAR_CTL_HANDBACK_HOLD = true ∨ newest s = none)) ∧
    (let s : State := w0
    let s : State := fset s F.PAR_CFG_MODE 1
    let s : State := { s with sys := { s.sys with st := .run, running := true }, par := { s.par with claim := true, link := true } }
    (parActive s = true ∧ s.par.link = true)) ∧
    (let s : State := w0
    let s : State := fset s F.PAR_CFG_MODE 1
    let s : State := { s with sys := { s.sys with st := .run, running := true, imp := 0 }, par := { s.par with claim := true, release := false, asked := true, handGen := some s.par.gen } }
    let s : State := forN 32 (fun m s => fset (fset s F.PRF_STATE_STATE 0 m) F.MOV_CFG_TYPE 0 m) s
    (parActive s = true ∧ s.par.handGen = some s.par.gen ∧ s.par.release = false ∧ s.par.asked = true) ∧
      (quietHere s = true ∧ s.sys.st = .run)) ∧
    (let s : State := w0
    let s : State := fset s F.PAR_CFG_MODE 1
    let s : State := { s with sys := { s.sys with st := .run } }
    let s : State := { s with sys := { s.sys with running := true, imp := 0 } }
    let s : State := { s with par := { s.par with claim := true, link := true, sending := none, asked := false, release := false } }
    let s : State := { s with par := { s.par with release := true, handGen := some s.par.gen } }
    (parActive s = true ∧ s.par.handGen = some s.par.gen ∧ s.par.release = true)) := by
  decide +kernel

theorem witness_EssenceExchange_5 :
    (let s : State := w0
    let s : State := fset s F.PAR_CFG_MODE 1
    let s : State := { s with sys := { s.sys with st := .run } }
    let s : State := { s with sys := { s.sys with running := true, imp := 0 } }
    let s : State := { s with par := { s.par with claim := true, link := true, sending := none, asked := false, release := false } }
    let s : State := { s with pins := { s.pins with ownOut := true, ownIn := false, funcs := [(0x17 * 1024, true), (0x17 * 1024 + 1, true)] } }
    let s : State := fset (fset s F.PAR_STATUS_STANDBY_LOST 0) F.PAR_STATUS_OWNER 1
    (HostOn s R.PAR_CTL.addr) ∧
      (ownOk s = true ∧ pairMode s = true ∧ (s.sys.st = .ready ∨ s.sys.st = .run ∨ s.sys.st = .safeStop) ∧ flag s F.PAR_STATUS_STANDBY_LOST = false)) ∧
    (let s : State := w0
    let t0 : Nat := 5
    let s : State := fset s F.PAR_CFG_MODE 1
    let s : State := { s with sys := { s.sys with st := .run } }
    let s : State := { s with sys := { s.sys with running := true, imp := 0 } }
    let s : State := { s with par := { s.par with claim := true, link := true, sending := none, asked := false, release := false } }
    let s : State := { s with par := { s.par with release := true } }
    let s : State := { s with since := SMap.put (fun _ => 0) s.since (Timed.release) 1 }
    let t0 : Nat := 2560000000000 + t0 % 1000
    (s.par.release = true ∧ heldFor Timed.release 10000000 (advance t0 s) = true)) := by
  decide +kernel

theorem witness_EssenceExchange_6 :
    (let s : State := w0
    let q : Nat := 5
    let s : State := fset (fset s F.PAR_CFG_MODE 1) F.PAR_CFG_SBY_CNT 0
    let s : State := { s with sys := { s.sys with st := .standby }, par := { s.par with link := true, slot0 := none, slot1 := none, asked := false } }
    let e : Essence := { (capture (q * 65537 % 2 ^ 32) false false s0) with check := galleyCheck s, handback := false }
    let x : EssTrail := (⟨0x544D4D43#32, BitVec.ofNat 32 e.gen, 7#32, BitVec.ofNat 32 (trailCrc e 0x544D4D43 e.gen 7)⟩ : EssTrail)
    (s.sys.st = .standby ∧ s.par.link = true) ∧
      (trailOk e x = true ∧ e.check = galleyCheck s ∧ newest s = none ∧ e.handback = false ∧ flag s F.PAR_CFG_SBY_CNT = false)) := ⟨by decide +kernel, ⟨trailOk_made _ _ (by decide +kernel), by decide +kernel⟩⟩

theorem witness_EssenceExchange_7 :
    (let s : State := w0
    let q : Nat := 5
    let s : State := fset (fset s F.PAR_CFG_MODE 1) F.PAR_CFG_SBY_CNT 0
    let s : State := { s with sys := { s.sys with st := .standby }, par := { s.par with link := true, slot0 := none, slot1 := none, asked := false } }
    let e : Essence := { (capture (q * 65537 % 2 ^ 32) false false s0) with check := galleyCheck s, handback := false }
    let x : EssTrail := (⟨0x544D4D43#32, BitVec.ofNat 32 e.gen, 7#32, BitVec.ofNat 32 (trailCrc e 0x544D4D43 e.gen 7)⟩ : EssTrail)
    let o : Essence := ({ (capture 5 false false s0) with gen := e.gen + 2 ^ 32 - 1 - q % 1000, check := galleyCheck s } : Essence)
    let o : Essence := ({ o with gen := o.gen % 2 ^ 32 } : Essence)
    let s : State := if q % 2 = 0 then fset { s with par := { s.par with slot0 := some o } } F.PAR_ESS_STATUS_SLOT 0 else fset { s with par := { s.par with slot1 := some o } } F.PAR_ESS_STATUS_SLOT 1
    (s.sys.st = .standby ∧ s.par.link = true) ∧
      (trailOk e x = true ∧ e.check = galleyCheck s ∧ e.handback = false ∧ flag s F.PAR_CFG_SBY_CNT = false) ∧
      (newest s = some o) ∧
      (seqNew (some o.gen) e.gen = true)) := ⟨by decide +kernel, ⟨trailOk_made _ _ (by decide +kernel), by decide +kernel⟩, by decide +kernel, by decide +kernel⟩

theorem witness_EssenceExchange_8 :
    (let s : State := w0
    let x : Option EssTrail := none
    let q : Nat := 5
    let s : State := fset (fset s F.PAR_CFG_MODE 1) F.PAR_CFG_SBY_CNT 0
    let s : State := { s with sys := { s.sys with st := .standby }, par := { s.par with link := true, slot0 := none, slot1 := none, asked := false } }
    let e : Essence := { (capture (q * 65537 % 2 ^ 32) false false s0) with check := galleyCheck s, handback := false }
    (s.sys.st = .standby ∧ s.par.link = true) ∧
      (e.check = galleyCheck s) ∧
      (∀ y, x = some y → trailOk e y = false)) := ⟨by decide +kernel, by decide +kernel, fun _ h => nomatch h⟩

theorem witness_EssenceExchange_9 :
    (let s : State := w0
    let q : Nat := 5
    let s : State := fset (fset s F.PAR_CFG_MODE 1) F.PAR_CFG_SBY_CNT 0
    let s : State := { s with sys := { s.sys with st := .standby }, par := { s.par with link := true, slot0 := none, slot1 := none, asked := false } }
    let e : Essence := { (capture (q * 65537 % 2 ^ 32) false false s0) with check := galleyCheck s, handback := true }
    let x : EssTrail := (⟨0x544D4D43#32, BitVec.ofNat 32 e.gen, 7#32, BitVec.ofNat 32 (trailCrc e 0x544D4D43 e.gen 7)⟩ : EssTrail)
    (s.sys.st = .standby ∧ s.par.link = true) ∧
      (trailOk e x = true ∧ e.check = galleyCheck s ∧ newest s = none ∧ e.handback = true ∧ flag s F.PAR_CFG_SBY_CNT = false) ∧
      (s.par.asked = false)) := ⟨by decide +kernel, ⟨trailOk_made _ _ (by decide +kernel), by decide +kernel⟩, by decide +kernel⟩

theorem witness_EssenceExchange_10 :
    (let s : State := w0
    let q : Nat := 5
    let s : State := fset (fset s F.PAR_CFG_MODE 1) F.PAR_CFG_SBY_CNT 0
    let s : State := { s with sys := { s.sys with st := .standby }, par := { s.par with link := true, slot0 := none, slot1 := none, asked := false } }
    let e : Essence := { (capture (q * 65537 % 2 ^ 32) false false s0) with check := galleyCheck s, handback := true }
    let x : EssTrail := (⟨0x544D4D43#32, BitVec.ofNat 32 e.gen, 7#32, BitVec.ofNat 32 (trailCrc e 0x544D4D43 e.gen 7)⟩ : EssTrail)
    let s : State := fset { s with par := { s.par with asked := true } } F.PAR_CTL_HANDBACK_HOLD 1
    (s.sys.st = .standby ∧ s.par.link = true) ∧
      (trailOk e x = true ∧ e.check = galleyCheck s ∧ newest s = none ∧ e.handback = true ∧ flag s F.PAR_CFG_SBY_CNT = false) ∧
      (s.par.asked = true ∧ (flag s F.PAR_CFG_PREFERRED = false ∨ flag s F.PAR_CTL_HANDBACK_HOLD = true))) := ⟨by decide +kernel, ⟨trailOk_made _ _ (by decide +kernel), by decide +kernel⟩, by decide +kernel⟩

theorem witness_OwnershipAndTakeover_1 :
    (let s : State := w0
    let t0 : Nat := 5
    let s : State := fset s F.PAR_CFG_MODE 1
    let s : State := { s with sys := { s.sys with st := .loaded } }
    let s : State := { s with pins := { s.pins with funcs := [(0x17 * 1024, true), (0x17 * 1024 + 1, true), (0x17 * 1024 + 2, true), (0x17 * 1024 + 3, true), (0x17 * 1024 + 4, true)] } }
    let s : State := { s with pwr := { s.pwr with sysRet := false }, since := SMap.put (fun _ => 0) s.since (Timed.hbOut) (t0 % 2) }
    let t0 : Nat := 2560000000000 + t0 % 1000
    (pairMode s = true ∧ hasBall s 0x17 2 = true ∧ s.sys.st = .loaded ∧ s.pwr.sysRet = false ∧ quietFor Timed.hbOut 99900 (advance t0 s) = true)) ∧
    (let s : State := w0
    let t0 : Nat := 5
    let s : State := { s with since := SMap.put (fun _ => 0) s.since (Timed.hbOut) (t0 % 2) }
    let t0 : Nat := 2560000000000 + t0 % 1000
    (quietFor Timed.hbOut 250000 (advance t0 s) = true)) ∧
    (let s : State := w0
    let t0 : Nat := 5
    let s : State := fset (fset s F.PAR_CFG_MODE 1) F.PAR_STATUS_OWN_CONFLICT 0
    let s : State := { s with sys := { s.sys with st := .loaded, stAt := 5 }, pins := { s.pins with ownIn := false }, par := { s.par with claim := false, leave := decide (t0 % 2 = 0), ownFree := 3 } }
    let s : State := { s with since := SMap.put (fun _ => 0) s.since (Timed.leave) 1 }
    let t0 : Nat := 25600000000000 + t0 % 1000
    (s.sys.st = .loaded ∧ pairMode s = true ∧ conflictOut s = false ∧ s.par.claim = false ∧ ownFreeLong (advance t0 s) = true)) ∧
    (let s : State := w0
    let t0 : Nat := 5
    let b : Bool := true
    let s : State := fset (fset s F.PAR_CFG_MODE 1) F.PAR_STATUS_OWN_CONFLICT 0
    let s : State := { s with sys := { s.sys with st := .loaded, stAt := 5 }, pins := { s.pins with ownIn := false }, par := { s.par with claim := true, leave := true, ownFree := 3 } }
    let s : State := { s with since := SMap.put (fun _ => 0) s.since (Timed.leave) 1 }
    let t0 : Nat := 25600000000000 + t0 % 1000
    let s : State := if b then fset s F.PAR_CFG_PREFERRED 1 else s
    (s.sys.st = .loaded ∧ pairMode s = true ∧ conflictOut s = false ∧ s.par.claim = true ∧ s.par.leave = true ∧ heldFor Timed.leave 200000 (advance t0 s) = true) ∧
      ((b = false ∧ ownIn s = false) ∨ flag s F.PAR_CFG_PREFERRED = true)) := by
  decide +kernel

theorem witness_OwnershipAndTakeover_2 :
    (let s : State := w0
    let t0 : Nat := 5
    let s : State := fset (fset s F.PAR_CFG_MODE 1) F.PAR_STATUS_OWN_CONFLICT 0
    let s : State := { s with sys := { s.sys with st := .loaded, stAt := 5 }, pins := { s.pins with ownIn := false }, par := { s.par with claim := true, leave := true, ownFree := 3 } }
    let s : State := { s with since := SMap.put (fun _ => 0) s.since (Timed.leave) 1 }
    let t0 : Nat := 25600000000000 + t0 % 1000
    let b : Bool := true
    let s : State := fset s F.PAR_CFG_PREFERRED 0
    (s.sys.st = .loaded ∧ pairMode s = true ∧ conflictOut s = false ∧ s.par.claim = true ∧ s.par.leave = true ∧ heldFor Timed.leave 200000 (advance t0 s) = true) ∧
      ((b = true ∨ ownIn s = true) ∧ flag s F.PAR_CFG_PREFERRED = false)) ∧
    (let s : State := w0
    let t0 : Nat := 5
    let s : State := fset s F.PAR_CFG_MODE 1
    let s : State := fset { s with pins := { s.pins with ownOut := true, ownIn := true, funcs := [(0x17 * 1024, true), (0x17 * 1024 + 1, true), (0x17 * 1024 + 2, true), (0x17 * 1024 + 3, true), (0x17 * 1024 + 4, true)] } } F.PAR_STATUS_OWN_CONFLICT 0
    let s : State := { s with since := SMap.put (fun _ => 0) s.since (Timed.both) 1 }
    let t0 : Nat := 2560000000000 + t0 % 1000
    (s.pins.ownOut = true ∧ ownIn s = true ∧ flag s F.PAR_STATUS_OWN_CONFLICT = false ∧ heldFor Timed.both 1000000 (advance t0 s) = true)) ∧
    (let s : State := w0
    let s : State := fset s F.PAR_CFG_MODE 1
    let s : State := { s with sys := { s.sys with st := .standby } }
    let s : State := { s with par := { s.par with link := true, slot0 := none, slot1 := none } }
    let s : State := { s with pins := { s.pins with ownIn := true, funcs := [(0x17 * 1024, true), (0x17 * 1024 + 1, true), (0x17 * 1024 + 2, true), (0x17 * 1024 + 3, true), (0x17 * 1024 + 4, true)] } }
    let s : State := fset s F.PAR_CFG_PEN_EN 0
    (s.sys.st = .standby ∧ ownIn s = true ∧ penEnabled s = false)) ∧
    (let s : State := w0
    let t0 : Nat := 5
    let s : State := fset s F.PAR_CFG_MODE 1
    let s : State := { s with sys := { s.sys with st := .standby } }
    let s : State := { s with par := { s.par with link := true, slot0 := none, slot1 := none } }
    let s : State := { s with pins := { s.pins with ownIn := true, funcs := [(0x17 * 1024, true), (0x17 * 1024 + 1, true), (0x17 * 1024 + 2, true), (0x17 * 1024 + 3, true), (0x17 * 1024 + 4, true)] } }
    let s : State := { s with since := SMap.put (fun _ => 0) s.since (Timed.hbIn) (t0 % 2) }
    let t0 : Nat := 2560000000000 + t0 % 1000
    (pairMode s = true ∧ s.sys.st = .standby ∧ ownIn s = true ∧ quietFor Timed.hbIn 300000 (advance t0 s) = true)) := by
  decide +kernel

theorem witness_OwnershipAndTakeover_3 :
    (let s : State := w0
    let t0 : Nat := 5
    let s : State := fset s F.PAR_CFG_MODE 1
    let s : State := { s with sys := { s.sys with st := .standby } }
    let s : State := { s with par := { s.par with link := true, slot0 := none, slot1 := none } }
    let s : State := { s with pins := { s.pins with ownIn := false } }
    let s : State := fset s F.PAR_CFG_PEN_EN 0
    let s : State := { s with since := SMap.put (fun _ => 0) s.since (Timed.hbIn) (t0 % 2) }
    let t0 : Nat := 2560000000000 + t0 % 1000
    (pairMode s = true ∧ s.sys.st = .standby ∧ ownIn s = false ∧ penEnabled s = false ∧ quietFor Timed.hbIn 300000 (advance t0 s) = true)) ∧
    (let s : State := w0
    let s : State := { s with pins := { s.pins with funcs := [(0x17 * 1024, true), (0x17 * 1024 + 1, true), (0x17 * 1024 + 2, true), (0x17 * 1024 + 3, true), (0x17 * 1024 + 4, true)] } }
    let s : State := fset { s with par := { s.par with down := false } } F.PAR_CFG_MODE 1
    (hasBall s 0x17 3 = true ∧ pairMode s = true ∧ (s.sys.st = .standby ∨ s.par.down = false))) ∧
    (let s : State := w0
    let s : State := fset s F.PAR_CFG_MODE 1
    let s : State := { s with sys := { s.sys with st := .standby } }
    let s : State := { s with par := { s.par with link := true, slot0 := none, slot1 := none } }
    let s : State := { s with pins := { s.pins with ownIn := false } }
    let s : State := fset s F.PAR_STATUS_PEN_BLOCK 1
    let l : Bool := flag s F.PAR_CFG_PEN_POL
    (s.sys.st = .standby ∧ flag s F.PAR_STATUS_PEN_BLOCK = true ∧ ownIn s = false ∧ l = flag s F.PAR_CFG_PEN_POL)) ∧
    (let s : State := w0
    let s : State := fset s F.PAR_CFG_MODE 1
    let s : State := { s with sys := { s.sys with st := .standby } }
    let s : State := { s with par := { s.par with link := true, slot0 := none, slot1 := none } }
    let s : State := { s with pwr := { s.pwr with on := 0x3FFF } }
    let s : State := { s with sys := { s.sys with st := .takeover } }
    let s : State := { s with par := { s.par with restored := false } }
    let s : State := forN 48 (fun c s => fset s F.SDM_STATUS_SETTLE 0 c) (fset { s with sys := { s.sys with running := false } } F.EDG_STATUS_CAL_VALID 1)
    (s.sys.st = .takeover ∧ s.par.restored = false ∧ domainOn s 6 = true ∧ domainOn s 7 = true ∧ (∀ n : Fin 4, planBit s (2 + n) = true → domainOn s (2 + n) = true) ∧ newest s = none) ∧
      (s.sys.running = false ∧ flag s F.EDG_STATUS_CAL_VALID = true) ∧
      (∀ c : Fin 48, flag s F.SDM_CFG_EN c = true → flag s F.SDM_STATUS_SETTLE c = false)) := by
  decide +kernel

theorem witness_OwnershipAndTakeover_4 :
    (let s : State := w0
    let s : State := fset s F.PAR_CFG_MODE 1
    let s : State := { s with sys := { s.sys with st := .standby } }
    let s : State := { s with par := { s.par with link := true, slot0 := none, slot1 := none } }
    let e : Essence := { (capture 5 false false s) with maps := [] }
    let s : State := { s with pwr := { s.pwr with on := 0x3FFF } }
    let s : State := { s with sys := { s.sys with st := .takeover } }
    let s : State := { s with par := { s.par with restored := false, slot0 := some e, slot1 := some e } }
    let s : State := forN 48 (fun c s => fset s F.SDM_STATUS_SETTLE 0 c) (fset { s with sys := { s.sys with running := false } } F.EDG_STATUS_CAL_VALID 1)
    (s.sys.st = .takeover ∧ s.par.restored = false ∧ domainOn s 6 = true ∧ domainOn s 7 = true ∧ (∀ n : Fin 4, planBit s (2 + n) = true → domainOn s (2 + n) = true) ∧ newest s = some e) ∧
      (e.maps = []) ∧
      (s.sys.running = false ∧ flag s F.EDG_STATUS_CAL_VALID = true) ∧
      (∀ c : Fin 48, flag s F.SDM_CFG_EN c = true → flag s F.SDM_STATUS_SETTLE c = false)) ∧
    (let s : State := w0
    let s : State := fset s F.PAR_CFG_MODE 1
    let s : State := { s with sys := { s.sys with st := .standby } }
    let s : State := { s with par := { s.par with link := true, slot0 := none, slot1 := none } }
    let s : State := { s with pwr := { s.pwr with on := 0x3FFF } }
    let s : State := { s with sys := { s.sys with st := .takeover } }
    let s : State := { s with par := { s.par with restored := true } }
    let s : State := forN 32 (fun m s => fset s F.MOV_CFG_TYPE 0 m) { s with sys := { s.sys with running := true } }
    (s.sys.st = .takeover ∧ s.par.restored = true ∧ s.sys.running = true ∧ newest s = none ∧ allFresh s = true)) := by
  decide +kernel

theorem witness_EventLog_1 :
    (let s : State := w0
    let e : Nat × Event := (5, ⟨1, 2, 3, 4, 5, 6⟩)
    let r : List (Nat × Event) := [(5, ⟨1, 2, 3, 4, 5, 6⟩)]
    let s : State := { s with evt := { s.evt with stage := e :: r, overflow := false } }
    (s.sys.st ≠ .doze) ∧
      (s.evt.log.length < 1024) ∧
      (s.evt.overflow = false) ∧
      (s.evt.stage = e :: r)) ∧
    (let s : State := w0
    let s : State := { s with evt := { s.evt with overflow := true } }
    (s.sys.st ≠ .doze) ∧
      (s.evt.log.length < 1023) ∧
      (s.evt.overflow = true)) ∧
    (let s : State := w0
    let n : BitVec 11 := 3#11
    let s : State := { s with evt := { s.evt with overflow := true } }
    (HostOn s R.EVT_CTL.addr) ∧
      (s.evt.overflow = true ∧ s.evt.log.length - n.toNat < 1023)) ∧
    (let s : State := w0
    (HostOn s R.EVT_CTL.addr) ∧
      (s.evt.overflow = false)) := by
  decide +kernel

theorem witness_EventLog_2 :
    (let s : State := w0
    (HostOn s R.EVT_CTL.addr)) ∧
    (let s : State := w0
    (HostOn s R.EVT_ENT.addr)) := by
  decide +kernel

theorem witness_ScrubbersAndTap_1 :
    (let s : State := w0
    (s.sys.st ≠ .doze) ∧
      (domainOn s 1 = true) ∧
      (s.tst.pos0 + 1 < 1048576) ∧
      (poisoned s (0x1000000 + 16 * s.tst.pos0) = false)) ∧
    (let s : State := w0
    let s : State := { s with tst := { s.tst with pos0 := 1048575 } }
    (s.sys.st ≠ .doze) ∧
      (domainOn s 1 = true) ∧
      (s.tst.pos0 = 1048575) ∧
      (poisoned s (0x1000000 + 16 * s.tst.pos0) = false)) ∧
    (let s : State := w0
    let r : Fin 2 := 1
    (s.sys.st ≠ .doze) ∧
      (domainOn s (if r.val = 0 then 1 else 8) = true)) ∧
    (let s : State := w0
    (s.sys.st ≠ .off)) := by
  decide +kernel

theorem witness_ScrubbersAndTap_2 :
    (let s : State := w0
    (s.sys.st ≠ .off)) ∧
    (let s : State := w0
    (s.sys.st ≠ .off)) ∧
    (let s : State := w0
    (s.sys.st ≠ .off)) ∧
    (let s : State := w0
    (s.sys.st ≠ .off) ∧
      (safLive s = false)) := by
  decide +kernel

theorem witness_ScrubbersAndTap_3 :
    (let s : State := w0
    (s.sys.st ≠ .off) ∧
      (safLive s = false)) ∧
    (let s : State := w0
    (s.sys.st ≠ .off) ∧
      (safLive s = false)) ∧
    (let s : State := w0
    (s.sys.st ≠ .off) ∧
      (safLive s = false)) ∧
    (let s : State := w0
    let s : State := fset s F.SAF_STATE_STATE 4
    (s.sys.st ≠ .off) ∧
      (safLive s = true)) := by
  decide +kernel

theorem witness_ScrubbersAndTap_4 :
    (let s : State := w0
    let s : State := fset s F.SAF_STATE_STATE 4
    (s.sys.st ≠ .off) ∧
      (safLive s = true)) ∧
    (let s : State := w0
    let s : State := fset s F.SAF_STATE_STATE 4
    (s.sys.st ≠ .off) ∧
      (safLive s = true)) ∧
    (let s : State := w0
    let s : State := fset s F.SAF_STATE_STATE 4
    (s.sys.st ≠ .off) ∧
      (safLive s = true)) := by
  decide +kernel

theorem witness_GalleyLoading_1 :
    (let s : State := w0
    let t0 : Nat := 5
    let s : State := { s with sys := { s.sys with st := .boot } }
    let s : State := { s with gly := { s.gly with next := .image } }
    let s : State := fset s F.GLY_STATUS_SRC (t0 % 2)
    (flashLoading s = true) ∧
      (s.gly.next = .image)) ∧
    (let s : State := w0
    let b : List Byte := [7#8]
    let s : State := { s with sys := { s.sys with st := .boot } }
    let s : State := { s with gly := { s.gly with next := .image } }
    let s : State := fset s F.GLY_STATUS_SRC 0
    (s.sys.st = .boot) ∧
      (s.gly.next = .image ∧ fget s F.GLY_STATUS_SRC = 0) ∧
      (headerCode s.rom.rev.toNat none (flashTo 0x40 b) ≠ 0 ∧ headerCode s.rom.rev.toNat none (flashTo 0x40 b) ≠ 13)) ∧
    (let s : State := w0
    let s : State := { s with sys := { s.sys with st := .boot } }
    let s : State := { s with gly := { s.gly with next := .image } }
    let s : State := { s with rom := { s.rom with rev := 0 } }
    let b : List Byte := okImage
    (s.sys.st = .boot) ∧
      (s.gly.next = .image) ∧
      (slotCode b s = 0)) ∧
    (let s : State := w0
    let s : State := { s with sys := { s.sys with st := .boot } }
    let s : State := { s with gly := { s.gly with next := .staging } }
    let s : State := { s with rom := { s.rom with rev := 0 } }
    let b : List Byte := okImage
    (s.sys.st = .boot) ∧
      (s.gly.next = .staging) ∧
      (slotCode b s = 0 ∧ bodiesBad (slotImage b) = false)) := by
  decide +kernel

theorem witness_GalleyLoading_2 :
    (let s : State := w0
    let t0 : Nat := 5
    let s : State := { s with sys := { s.sys with st := .boot } }
    let s : State := fset { s with gly := { s.gly with next := .check } } F.GLY_STATUS_SRC (t0 % 2)
    let s : State := { s with rom := { s.rom with require := false } }
    (s.sys.st = .boot) ∧
      (s.gly.next = .check ∧ fget s F.GLY_STATUS_SRC < 2) ∧
      (imgSigned (staged s) = false ∧ s.rom.require = false)) ∧
    (let s : State := w0
    let s : State := { s with sys := { s.sys with st := .boot } }
    let s : State := { s with gly := { s.gly with next := .signature } }
    let s : State := { s with mem := signedMem, poison := [], pwr := { s.pwr with areas := [] }, rom := { s.rom with keys := signedKeys } }
    (s.sys.st = .boot) ∧
      (s.gly.next = .signature) ∧
      (signCode (SMap.get (fun _ => none) s.rom.keys) (staged s) = 0)) ∧
    (let s : State := w0
    let s : State := { s with sys := { s.sys with st := .boot } }
    let s : State := { s with gly := { s.gly with next := .signature } }
    let s : State := fset s F.GLY_STATUS_SRC 2
    let c : Nat := signCode (SMap.get (fun _ => none) s.rom.keys) (staged s)
    (s.sys.st = .boot) ∧
      (s.gly.next = .signature ∧ fget s F.GLY_STATUS_SRC = 2) ∧
      (signCode (SMap.get (fun _ => none) s.rom.keys) (staged s) = c ∧ c ≠ 0)) ∧
    (let s : State := w0
    let s : State := { s with sys := { s.sys with st := .boot } }
    let s : State := { s with gly := { s.gly with next := .apply } }
    (s.sys.st = .boot) ∧
      (s.gly.next = .apply)) := by
  decide +kernel

theorem witness_GalleyLoading_3 :
    (let s : State := w0
    let s : State := { s with sys := { s.sys with st := .boot } }
    let s : State := fset s F.GLY_STATUS_PHASE 6
    (HostOn s R.GLY_CTL.addr) ∧
      (s.sys.st = .boot) ∧
      (fget s F.GLY_STATUS_PHASE = 0 ∨ 5 ≤ fget s F.GLY_STATUS_PHASE)) ∧
    (let s : State := w0
    (HostOn s R.GLY_CTL.addr) ∧
      (s.sys.st ≠ .boot ∨ (1 ≤ fget s F.GLY_STATUS_PHASE ∧ fget s F.GLY_STATUS_PHASE ≤ 4))) ∧
    (let s : State := w0
    let s : State := { s with sys := { s.sys with st := .boot } }
    let s : State := { s with gly := { s.gly with next := .image } }
    let s : State := fset s F.GLY_STATUS_SRC 1
    (HostOn s R.GLY_CTL.addr) ∧
      (flashLoading s = true)) ∧
    (let s : State := w0
    let n : Fin 4 := 1
    let s : State := { s with sys := { s.sys with st := .boot } }
    let s : State := { s with gly := { s.gly with prog := none } }
    (HostOn s R.GLY_KEY_CTL.addr) ∧
      (s.sys.st = .boot) ∧
      (s.gly.prog = none ∧ SMap.get (fun _ => none) s.rom.keys n.val = none)) := by
  decide +kernel

theorem witness_GalleyLoading_4 :
    (let s : State := w0
    let s : State := { s with sys := { s.sys with st := .boot } }
    let s : State := { s with gly := { s.gly with prog := none } }
    (HostOn s R.GLY_KEY_CTL.addr) ∧
      (s.sys.st = .boot) ∧
      (s.gly.prog = none)) ∧
    (let s : State := w0
    let n : Nat := 5
    let x : Nat := 5
    let b : Bool := true
    let n : Nat := n % 4
    let s : State := { s with gly := { s.gly with prog := some (some (n, x), b) } }
    (s.gly.prog = some (some (n, x), b))) := by
  decide +kernel

theorem witness_PowerAndReset_1 :
    (let s : State := w0
    let s : State := { s with sys := { s.sys with st := .off } }
    (s.sys.st = .off)) ∧
    (let s : State := w0
    let t0 : Nat := 5
    let s : State := { s with sys := { s.sys with st := .off } }
    let s : State := { s with pwr := { s.pwr with orUp := true }, pins := { s.pins with porn := true, rstn := t0 % 2 = 0 } }
    (s.sys.st = .off ∧ s.pwr.orUp = true ∧ s.pins.porn = true)) ∧
    (let s : State := w0
    let s : State := { s with sys := { s.sys with st := .off } }
    let s : State := { s with pwr := { s.pwr with orUp := true, rel := true } }
    (s.sys.st = .off ∧ s.pwr.orUp = true ∧ s.pwr.rel = true)) ∧
    (let s : State := w0
    (s.sys.st ≠ .off)) := by
  decide +kernel

theorem witness_PowerAndReset_2 :
    (let s : State := w0
    let s : State := { s with par := { s.par with flush := none, flushDue := false } }
    (s.sys.st ≠ .off) ∧
      (s.par.flush = none ∧ s.par.flushDue = false)) ∧
    (let s : State := w0
    let s : State := { s with par := { s.par with flushDue := true } }
    (s.sys.st ≠ .off) ∧
      (s.par.flush.isSome = true ∨ s.par.flushDue = true)) ∧
    (let s : State := w0
    let s : State := { s with par := { s.par with offDue := true } }
    (s.par.offDue = true)) ∧
    (let s : State := w0
    let s : State := { s with par := { s.par with flush := none, flushDue := false } }
    (s.sys.st ≠ .off) ∧
      (s.par.flush = none ∧ s.par.flushDue = false)) := by
  decide +kernel

theorem witness_PowerAndReset_3 :
    (let s : State := w0
    let s : State := { s with sys := { s.sys with st := .boot } }
    let s : State := { s with pins := { s.pins with rstn := false }, par := { s.par with rstDue := false } }
    (s.pins.rstn = false ∧ s.sys.st = .boot ∧ s.par.rstDue = false)) ∧
    (let s : State := w0
    let e : Essence := capture 5 false false w0
    let s : State := { s with par := { s.par with flush := some e, offDue := false, rstDue := false } }
    let s : State := { s with rom := { s.rom with slots := [], region := 0, erase := [] } }
    let k : Nat := (flushNext s).getD 0
    (s.par.flush = some e ∧ flushNext s = some k) ∧
      (s.par.offDue = false ∧ s.par.rstDue = false)) ∧
    (let s : State := w0
    let e : Essence := capture 5 false false w0
    let s : State := { s with par := { s.par with flush := some e, offDue := true } }
    let s : State := { s with rom := { s.rom with slots := [], region := 0, erase := [] } }
    (s.par.flush = some e ∧ (flushNext s).isSome = true) ∧
      (s.par.offDue = true)) ∧
    (let s : State := w0
    (s.sys.st ≠ .off ∧ s.pwr.xinLost = false)) := by
  decide +kernel

theorem witness_PowerAndReset_4 :
    (let s : State := w0
    (s.sys.st ≠ .off ∧ s.pwr.x32Lost = false)) ∧
    (let s : State := w0
    let x : Int := 7
    let x : Int := x % 160
    (s.sys.st ≠ .off) ∧
      (-256 ≤ x ∧ x ≤ 255)) := by
  decide +kernel

theorem witness_DozeAndDomains_1 :
    (let s : State := w0
    let t0 : Nat := 5
    let s : State := { s with sys := { s.sys with st := .ready }, pwr := { s.pwr with sysRet := false, on := 0x3FFF } }
    let d : Fin 14 := Fin.ofNat 14 (2 + t0 % 10)
    let s : State := fsetBit s F.PWR_PD_PLAN_MASK d false (DevState.ready.code - 1)
    (s.sys.st ≠ .off ∧ s.pwr.sysRet = false) ∧
      (2 ≤ d.val ∧ d.val ≤ 11) ∧
      (domainOn s d = true ∧ planBit s d = false) ∧
      (inTurn s d = true ∧ spaced (advance t0 s) = true)) ∧
    (let s : State := w0
    let t0 : Nat := 5
    let s : State := { s with sys := { s.sys with st := .ready }, pwr := { s.pwr with sysRet := false, on := 0x3 } }
    let d : Fin 14 := Fin.ofNat 14 (2 + t0 % 10)
    let s : State := fsetBit s F.PWR_PD_PLAN_MASK d true (DevState.ready.code - 1)
    (s.sys.st ≠ .off ∧ s.pwr.sysRet = false) ∧
      (2 ≤ d.val ∧ d.val ≤ 11) ∧
      (domainOn s d = false ∧ planBit s d = true) ∧
      (inTurn s d = true ∧ spaced (advance t0 s) = true)) ∧
    (let s : State := w0
    let t0 : Nat := 5
    let s : State := { s with sys := { s.sys with st := .ready, dozeReq := 0, idleAt := 0 }, tim := { s.tim with stepped := 0 } }
    let t0 : Nat := t0 + 256000000000
    let s : State := fset (fset s F.PWR_SAVE_DOZE_OK 1) F.PWR_DOZE_CFG_IDLE_S 1
    let s : State := (List.range 32).foldl (fun s m => fset (fset s F.PRF_STATE_STATE 0 m) F.PTH_STATUS_STATE 0 (m % 8)) s
    (s.sys.st = .ready ∧ s.sys.dozeReq = 0) ∧
      (flag s F.PWR_SAVE_DOZE_OK = true ∧ flag s F.PWR_DOZE_CFG_IDLE_S = true ∧ moversIdle s = true ∧ (List.range 8).all (fun g => fget s F.PTH_STATUS_STATE g == 0) = true) ∧
      (s.sys.idleAt + 256000000000 * fget s F.PWR_DOZE_CFG_IDLE_S ≤ clk (advance t0 s))) ∧
    (let s : State := w0
    let t0 : Nat := 5
    let s : State := { s with sys := { s.sys with st := .ready, dozeReq := 1 + t0 % 2 } }
    let s : State := if t0 % 3 = 0 then s else { s with quo := { s.quo with pending := none, implicit := [] } }
    (s.sys.st = .ready ∧ s.sys.dozeReq ≠ 0)) := by
  decide +kernel

theorem witness_DozeAndDomains_2 :
    (let s : State := w0
    let t0 : Nat := 5
    let s : State := { s with sys := { s.sys with st := .doze }, pwr := { s.pwr with sysRet := false, waking := false, on := 0x3FFF } }
    let d : Fin 14 := Fin.ofNat 14 ([8, 2, 3, 4, 5, 6, 7, 9, 10, 11].getD (t0 % 10) 2)
    let s : State := { s with pwr := { s.pwr with on := BitVec.ofNat 14 (([8, 2, 3, 4, 5, 6, 7, 9, 10, 11].take (t0 % 10)).foldl (fun x e => putBit x e false) 0x3FFF), saved := decide (t0 % 10 ≠ 0), handed := decide (6 < t0 % 10) } }
    let s : State := wr s (R.PWR_PD_PLAN.at (DevState.doze.code - 1)) 0
    let s : State := { s with since := [] }
    let t0 : Nat := t0 + 256 * 20000000
    (s.sys.st = .doze ∧ s.pwr.waking = false ∧ s.pwr.sysRet = false) ∧
      (2 ≤ d.val ∧ d.val ≤ 11) ∧
      (domainOn s d = true ∧ planBit s d = false) ∧
      (inTurn s d = true ∧ spaced (advance t0 s) = true)) ∧
    (let s : State := w0
    let t0 : Nat := 5
    let s : State := { s with sys := { s.sys with st := .doze }, pwr := { s.pwr with sysRet := true, waking := true, held := [] } }
    let s : State := if t0 % 2 = 0 then { s with pwr := { s.pwr with heldErrs := [] } } else s
    (s.sys.st = .doze ∧ s.pwr.waking = true ∧ s.pwr.sysRet = true ∧ s.pwr.held = [])) ∧
    (let s : State := w0
    let t0 : Nat := 5
    let s : State := { s with sys := { s.sys with st := .doze }, pwr := { s.pwr with waking := false, sysRet := true } }
    let s : State := fset (fset s F.PWR_WAKE_AT_L_VAL 1) F.PWR_WAKE_AT_H_VAL 0
    let t0 : Nat := t0 + 256
    (s.sys.st = .doze ∧ s.pwr.waking = false ∧ s.pwr.sysRet = true) ∧
      (aonDue (advance t0 s) = true)) ∧
    (let s : State := w0
    let t0 : Nat := 5
    let s : State := { s with sys := { s.sys with st := .doze }, pwr := { s.pwr with waking := true, sysRet := false, on := 0x3FFF, abort := (t0 % 2 == 0) } }
    let s : State := fset (fset s F.PWR_DOZE_CFG_WAKE_RUN 0) F.SYS_IMP_PHASE_OFFSET 0
    let s : State := { s with tim := { s.tim with acc := 0 } }
    let t0 : Nat := (t0 + 1) * (256 * max 1 (tImp s))
    let s : State := { s with par := { s.par with rescDue := false } }
    (s.sys.st = .doze ∧ s.pwr.waking = true ∧ s.pwr.sysRet = false ∧ wakeReady s = true) ∧
      (gridFrom s (lns (advance t0 s)) = lns (advance t0 s)) ∧
      (flag s F.PWR_DOZE_CFG_WAKE_RUN = false ∧ s.par.rescDue = false)) := by
  decide +kernel

end Sys2Proof.Tests
end

section
/-! Steps and the reset state (O1, O3). -/

namespace Sys2Proof.Machine

/-- Settles O1: `step` of a queue that is not empty is `exec` of its front, by definition. -/
theorem stepRunsFrontCommand : Obligations.StepRunsFrontCommand := by
  intro c r s
  rfl

/-- Settles O3: every part of the reset state is a value that its definition gives. -/
theorem resetLeavesTheDeviceInBoot : Obligations.ResetLeavesTheDeviceInBoot := by
  refine ⟨rfl, rfl, rfl, rfl, rfl, rfl, rfl, rfl, rfl, rfl, rfl, rfl, ?lock, ?sto, ?brakes, rfl, ?imp, ?wake⟩
  case lock => decide
  case sto => decide
  case brakes => decide
  case imp => decide
  case wake => decide

end Sys2Proof.Machine
end

section
/-! What a command is made of (O5). Each function of the machine is followed once, by a lemma of its own that has the shape of the
function, and says that it is made of a few elementary updates (`Leads`); each command's meaning is then one of these functions. What
every command keeps, such as the queue, is read off the elementary updates. -/

namespace Sys2Proof.Machine

/-- `t` differs from `s` in nothing that an invariant of the whole machine speaks of: the queue of commands, memory with its save
areas, the drive outputs and the depth of the event log are as in `s`, and LNS has not gone back. -/
structure Aside (s t : State) : Prop where
  pending : t.pending = s.pending
  mem : t.mem = s.mem
  areas : t.pwr.areas = s.pwr.areas
  edg : t.edg = s.edg
  log : s.evt.log.length ≤ 1024 → t.evt.log.length ≤ 1024
  stage : s.evt.stage.length ≤ 16 → t.evt.stage.length ≤ 16
  acc : s.tim.acc ≤ t.tim.acc

/-- `Leads s₀ t`: the machine comes from `s₀` to `t` by its elementary updates, which are those that a command is made of, but for the
loss of power. An invariant of the machine that each of them keeps is kept by every command that does not switch the device off. -/
inductive Leads (s₀ : State) : State → Prop
  | start : Leads s₀ s₀
  | put {s t : State} : Leads s₀ s → Aside s t → Leads s₀ t
  | setMemByte {s : State} {a : Nat} {b : Byte} : Leads s₀ s → Leads s₀ (setMemByte s a b)
  | forget {s : State} {p : Host.Cell → Bool} : Leads s₀ s → Leads s₀ { s with mem := s.mem.filter p }
  | stageImage {s : State} {b : List Byte} : Leads s₀ s → Leads s₀ (stageImage b s)
  | dozeSave {s : State} : Leads s₀ s → Leads s₀ (dozeSave s)
  | setCh {s : State} {c : Nat} {x : ChanS} : Leads s₀ s → x.drv = (s.ch c).drv → Leads s₀ (setCh s c x)
  | legOff {s : State} {c : Nat} {x : ChanS} (o : Nat) : Leads s₀ s → x.drv = putBit (s.ch c).drv o false → Leads s₀ (setCh s c x)
  | legOn {s : State} {c : Nat} {x : ChanS} (o : Nat) :
      Leads s₀ s → (s.ch c).drv.testBit (partner o) = false → x.drv = putBit (s.ch c).drv o true → Leads s₀ (setCh s c x)
  | edgOff {s : State} : Leads s₀ s → Leads s₀ { s with edg := [] }
  | deviceReset {s : State} : Leads s₀ s → Leads s₀ (deviceReset s)

variable {s₀ s : State}

/-- What a command may do to the machine: elementary updates; those and then a loss of power; or, of a device that is off, those and
its start. -/
inductive Passes (s : State) : State → Prop
  | on {t : State} : Leads s t → Passes s t
  | off {u : State} : Leads s u → Passes s (unpowered u)
  | boot {u t : State} : s.sys.st = .off → Leads s u → Leads (unpowered u) t → Passes s t

/-- A command answers a next state, which it reaches in one of those ways. -/
def Answers (s : State) (r : Res) : Prop := ∃ t, r = .next t ∧ Passes s t

/-! ### Updates of one part of the state -/

theorem Leads.sys {x : SysS} (h : Leads s₀ s) : Leads s₀ { s with sys := x } := .put h ⟨rfl, rfl, rfl, rfl, id, id, le_rfl⟩
theorem Leads.quo {x : QuoS} (h : Leads s₀ s) : Leads s₀ { s with quo := x } := .put h ⟨rfl, rfl, rfl, rfl, id, id, le_rfl⟩
theorem Leads.mmq {x : List MmEvent} (h : Leads s₀ s) : Leads s₀ { s with mmq := x } := .put h ⟨rfl, rfl, rfl, rfl, id, id, le_rfl⟩
theorem Leads.trigq {x : List (Nat × Nat)} (h : Leads s₀ s) : Leads s₀ { s with trigq := x } := .put h ⟨rfl, rfl, rfl, rfl, id, id, le_rfl⟩
theorem Leads.mms {x : SMap MmS} (h : Leads s₀ s) : Leads s₀ { s with mms := x } := .put h ⟨rfl, rfl, rfl, rfl, id, id, le_rfl⟩
theorem Leads.plts {x : SMap PltS} (h : Leads s₀ s) : Leads s₀ { s with plts := x } := .put h ⟨rfl, rfl, rfl, rfl, id, id, le_rfl⟩
theorem Leads.tst {x : TstS} (h : Leads s₀ s) : Leads s₀ { s with tst := x } := .put h ⟨rfl, rfl, rfl, rfl, id, id, le_rfl⟩
theorem Leads.pins {x : PinS} (h : Leads s₀ s) : Leads s₀ { s with pins := x } := .put h ⟨rfl, rfl, rfl, rfl, id, id, le_rfl⟩
theorem Leads.aux {x : SMap AuxS} (h : Leads s₀ s) : Leads s₀ { s with aux := x } := .put h ⟨rfl, rfl, rfl, rfl, id, id, le_rfl⟩
theorem Leads.ain {x : SMap AinS} (h : Leads s₀ s) : Leads s₀ { s with ain := x } := .put h ⟨rfl, rfl, rfl, rfl, id, id, le_rfl⟩
theorem Leads.ainStart {x : Nat × Nat} (h : Leads s₀ s) : Leads s₀ { s with ainStart := x } := .put h ⟨rfl, rfl, rfl, rfl, id, id, le_rfl⟩
theorem Leads.segOut {x : SMap Nat} (h : Leads s₀ s) : Leads s₀ { s with segOut := x } := .put h ⟨rfl, rfl, rfl, rfl, id, id, le_rfl⟩
theorem Leads.trk {x : TrkS} (h : Leads s₀ s) : Leads s₀ { s with trk := x } := .put h ⟨rfl, rfl, rfl, rfl, id, id, le_rfl⟩
theorem Leads.src {x : SMap SrcS} (h : Leads s₀ s) : Leads s₀ { s with src := x } := .put h ⟨rfl, rfl, rfl, rfl, id, id, le_rfl⟩
theorem Leads.lat {x : SMap LatS} (h : Leads s₀ s) : Leads s₀ { s with lat := x } := .put h ⟨rfl, rfl, rfl, rfl, id, id, le_rfl⟩
theorem Leads.cmp {x : SMap CmpS} (h : Leads s₀ s) : Leads s₀ { s with cmp := x } := .put h ⟨rfl, rfl, rfl, rfl, id, id, le_rfl⟩
theorem Leads.mot {x : MotS} (h : Leads s₀ s) : Leads s₀ { s with mot := x } := .put h ⟨rfl, rfl, rfl, rfl, id, id, le_rfl⟩
theorem Leads.fio {x : FioS} (h : Leads s₀ s) : Leads s₀ { s with fio := x } := .put h ⟨rfl, rfl, rfl, rfl, id, id, le_rfl⟩
theorem Leads.saf {x : SafS} (h : Leads s₀ s) : Leads s₀ { s with saf := x } := .put h ⟨rfl, rfl, rfl, rfl, id, id, le_rfl⟩
theorem Leads.nv {x : RecS} (h : Leads s₀ s) : Leads s₀ { s with nv := x } := .put h ⟨rfl, rfl, rfl, rfl, id, id, le_rfl⟩
theorem Leads.net {x : NetS} (h : Leads s₀ s) : Leads s₀ { s with net := x } := .put h ⟨rfl, rfl, rfl, rfl, id, id, le_rfl⟩
theorem Leads.can {x : SMap CanS} (h : Leads s₀ s) : Leads s₀ { s with can := x } := .put h ⟨rfl, rfl, rfl, rfl, id, id, le_rfl⟩
theorem Leads.acq {x : AcqS} (h : Leads s₀ s) : Leads s₀ { s with acq := x } := .put h ⟨rfl, rfl, rfl, rfl, id, id, le_rfl⟩
theorem Leads.par {x : ParS} (h : Leads s₀ s) : Leads s₀ { s with par := x } := .put h ⟨rfl, rfl, rfl, rfl, id, id, le_rfl⟩
theorem Leads.rom {x : RomS} (h : Leads s₀ s) : Leads s₀ { s with rom := x } := .put h ⟨rfl, rfl, rfl, rfl, id, id, le_rfl⟩
theorem Leads.gly {x : GlyS} (h : Leads s₀ s) : Leads s₀ { s with gly := x } := .put h ⟨rfl, rfl, rfl, rfl, id, id, le_rfl⟩
theorem Leads.stuck {x : SMap Nat} (h : Leads s₀ s) : Leads s₀ { s with stuck := x } := .put h ⟨rfl, rfl, rfl, rfl, id, id, le_rfl⟩
theorem Leads.settle {x : SMap Nat} (h : Leads s₀ s) : Leads s₀ { s with settle := x } := .put h ⟨rfl, rfl, rfl, rfl, id, id, le_rfl⟩
theorem Leads.since {x : SMap Nat} (h : Leads s₀ s) : Leads s₀ { s with since := x } := .put h ⟨rfl, rfl, rfl, rfl, id, id, le_rfl⟩
theorem Leads.page {x : SMap W24} (h : Leads s₀ s) : Leads s₀ { s with page := x } := .put h ⟨rfl, rfl, rfl, rfl, id, id, le_rfl⟩
theorem Leads.regs {x : SMap Word} (h : Leads s₀ s) : Leads s₀ { s with regs := x } := .put h ⟨rfl, rfl, rfl, rfl, id, id, le_rfl⟩
theorem Leads.galley {x : SMap Word} (h : Leads s₀ s) : Leads s₀ { s with galley := x } := .put h ⟨rfl, rfl, rfl, rfl, id, id, le_rfl⟩
theorem Leads.poison {x : SMap Bool} (h : Leads s₀ s) : Leads s₀ { s with poison := x } := .put h ⟨rfl, rfl, rfl, rfl, id, id, le_rfl⟩
theorem Leads.capPcie {x : SMap (Option Word)} (h : Leads s₀ s) :
    Leads s₀ { s with capPcie := x } := .put h ⟨rfl, rfl, rfl, rfl, id, id, le_rfl⟩
theorem Leads.capQspi {x : SMap (Option Word)} (h : Leads s₀ s) :
    Leads s₀ { s with capQspi := x } := .put h ⟨rfl, rfl, rfl, rfl, id, id, le_rfl⟩
theorem Leads.qspi {x : Option (Option Nat)} (h : Leads s₀ s) : Leads s₀ { s with qspi := x } := .put h ⟨rfl, rfl, rfl, rfl, id, id, le_rfl⟩
theorem Leads.out {x : List Out} (h : Leads s₀ s) : Leads s₀ { s with out := x } := .put h ⟨rfl, rfl, rfl, rfl, id, id, le_rfl⟩
theorem Leads.free {x : Nat} (h : Leads s₀ s) : Leads s₀ { s with free := x } := .put h ⟨rfl, rfl, rfl, rfl, id, id, le_rfl⟩

theorem Leads.tim {x : TimS} (h : Leads s₀ s) (hx : s.tim.acc ≤ x.acc) :
    Leads s₀ { s with tim := x } := .put h ⟨rfl, rfl, rfl, rfl, id, id, hx⟩

theorem Leads.pwr {x : PwrS} (h : Leads s₀ s) (hx : x.areas = s.pwr.areas) : Leads s₀ { s with pwr := x } :=
  .put h ⟨rfl, rfl, hx, rfl, id, id, le_rfl⟩

theorem Leads.evt {x : EvtS} (h : Leads s₀ s) (hl : s.evt.log.length ≤ 1024 → x.log.length ≤ 1024)
    (hs : s.evt.stage.length ≤ 16 → x.stage.length ≤ 16) : Leads s₀ { s with evt := x } := .put h ⟨rfl, rfl, rfl, rfl, hl, hs, le_rfl⟩

/-! ### Conditions and loops -/

variable {α β : Type} {c : Prop} [Decidable c]

theorem Leads.ite {a b : State} (ha : Leads s₀ a) (hb : Leads s₀ b) : Leads s₀ (if c then a else b) := by
  split_ifs
  · exact ha
  · exact hb

/-- What is done only on a condition. -/
theorem Leads.when {t : State} (k : Leads s₀ s → Leads s₀ t) (h : Leads s₀ s) : Leads s₀ (if c then t else s) := .ite (k h) h

/-- What is done unless a condition holds. -/
theorem Leads.unless {t : State} (k : Leads s₀ s → Leads s₀ t) (h : Leads s₀ s) : Leads s₀ (if c then s else t) := .ite h (k h)

/-- One state that the rest refers to more than once. -/
theorem Leads.via {t : State} (k : Leads s₀ s → Leads s₀ t) (h : Leads s₀ s) : Leads s₀ t := k h

theorem Leads.ite₂ {a b : α × State} (ha : Leads s₀ a.2) (hb : Leads s₀ b.2) : Leads s₀ (if c then a else b).2 := by
  split_ifs
  · exact ha
  · exact hb

theorem Leads.ite₃ {a b : α × β × State} (ha : Leads s₀ a.2.2) (hb : Leads s₀ b.2.2) : Leads s₀ (if c then a else b).2.2 := by
  split_ifs
  · exact ha
  · exact hb

theorem Leads.pair {x : α} (h : Leads s₀ s) : Leads s₀ (x, s).2 := h

theorem Leads.repeat {f : State → State} (k : ∀ {t}, Leads s₀ t → Leads s₀ (f t)) {n : Nat} (h : Leads s₀ s) :
    Leads s₀ (Nat.repeat f n s) := by
  induction n with
  | zero => exact h
  | succ n ih => exact k ih

theorem Leads.foldl {f : State → α → State} (k : ∀ {x t}, Leads s₀ t → Leads s₀ (f t x)) {l : List α} (h : Leads s₀ s) :
    Leads s₀ (l.foldl f s) := by
  induction l generalizing s with
  | nil => exact h
  | cons x r ih => exact ih (k h)

theorem Leads.foldl₂ {f : β × State → α → β × State} (k : ∀ {x p}, Leads s₀ p.2 → Leads s₀ (f p x).2) {l : List α} {p : β × State}
    (h : Leads s₀ p.2) : Leads s₀ (l.foldl f p).2 := by
  induction l generalizing p with
  | nil => exact h
  | cons x r ih => exact ih (k h)

theorem Leads.forL {f : α → State → State} (k : ∀ {x t}, Leads s₀ t → Leads s₀ (f x t)) {l : List α} (h : Leads s₀ s) :
    Leads s₀ (forL l f s) := .foldl k h

theorem Leads.forN {f : Nat → State → State} (k : ∀ {i t}, Leads s₀ t → Leads s₀ (f i t)) {n : Nat} (h : Leads s₀ s) :
    Leads s₀ (forN n f s) := .foldl k h

/-! ### The functions of the machine -/

/-! #### Operations on the state -/

theorem Leads.wr {a v} (h : Leads s₀ s) : Leads s₀ (wr s a v) := .regs h
theorem Leads.hwMark {a m} (h : Leads s₀ s) : Leads s₀ (hwMark a m s) := .put h ⟨rfl, rfl, rfl, rfl, id, id, le_rfl⟩
theorem Leads.fset {f v i j k} (h : Leads s₀ s) : Leads s₀ (fset s f v i j k) := .wr h
theorem Leads.fsetBit {f b v i j k} (h : Leads s₀ s) : Leads s₀ (fsetBit s f b v i j k) := .fset h
theorem Leads.raiseBit {f b i j k} (h : Leads s₀ s) : Leads s₀ (raiseBit s f b i j k) := .hwMark (.fsetBit h)
theorem Leads.raiseFlag {f i j k} (h : Leads s₀ s) : Leads s₀ (raiseFlag s f i j k) := .hwMark (.fset h)
theorem Leads.bump {f n i j k} (h : Leads s₀ s) : Leads s₀ (bump s f n i j k) := .hwMark (.fset h)
theorem Leads.drawn (h : Leads s₀ s) : Leads s₀ (drawn s) := .free h
theorem Leads.openVal {site} (h : Leads s₀ s) : Leads s₀ (openVal site s).2 := .drawn h
theorem Leads.holdFrom {k} (h : Leads s₀ s) : Leads s₀ (holdFrom k s) := .since h
theorem Leads.holdMark {k c} (h : Leads s₀ s) : Leads s₀ (holdMark k c s) := .ite (.since h) (.when .holdFrom h)
theorem Leads.advance {t} (h : Leads s₀ s) : Leads s₀ (advance t s) := .tim h (le_max_left _ _)
theorem Leads.hostDrop {ifc a} (h : Leads s₀ s) : Leads s₀ (hostDrop ifc a s) := .fset (.fset (.bump h))
theorem Leads.setPend {v} (h : Leads s₀ s) : Leads s₀ (setPend v s) := .unless (fun h => .when .out (.hwMark (.wr h))) h
theorem Leads.evtIrq (h : Leads s₀ s) : Leads s₀ (evtIrq s) := .when .setPend h
theorem Leads.evtDrop {b} (h : Leads s₀ s) : Leads s₀ (evtDrop b s) := .evt (.bump h) id id
theorem Leads.evtFlush (h : Leads s₀ s) : Leads s₀ (evtFlush s) := .when (fun h => .forL .evtDrop (.evt h id (fun _ => Nat.zero_le _))) h
theorem Leads.stageEvt {e} (h : Leads s₀ s) : Leads s₀ (stageEvt e s) := .forL .evtDrop (.evt h id (fun _ => List.length_take_le _ _))
theorem Leads.trigNote {k t p} (h : Leads s₀ s) : Leads s₀ (trigNote k t p s) := .when .trigq h
theorem Leads.trigEvent {e} (h : Leads s₀ s) : Leads s₀ (trigEvent e s) := .trigNote h

theorem Leads.raiseAt {st block code inst d0 d1} (h : Leads s₀ s) : Leads s₀ (raiseAt st block code inst d0 d1 s) :=
  .evtIrq (.when .setPend (.evtFlush (.stageEvt (.trigEvent (.mmq h)))))

theorem Leads.raise {block code inst d0 d1} (h : Leads s₀ s) : Leads s₀ (raise block code inst d0 d1 s) := .raiseAt h
theorem Leads.raiseOpen {block code inst} (h : Leads s₀ s) : Leads s₀ (raiseOpen block code inst s) := .raise (.drawn h)
theorem Leads.setPrf {m x} (h : Leads s₀ s) : Leads s₀ (setPrf m x s) := .mot h
theorem Leads.setAcd {a x} (h : Leads s₀ s) : Leads s₀ (setAcd a x s) := .mot h
theorem Leads.setPth {g x} (h : Leads s₀ s) : Leads s₀ (setPth g x s) := .mot h
theorem Leads.prfEnd {m outcome} (h : Leads s₀ s) : Leads s₀ (prfEnd m outcome s) := .raise (.fset (.fset (.fset h)))
theorem Leads.acdBreak {a cause} (h : Leads s₀ s) : Leads s₀ (acdBreak a cause s) := .raise (.fset h)
theorem Leads.pthIdle {g} (h : Leads s₀ s) : Leads s₀ (pthIdle g s) := .fset (.fset (.fset (.fset (.fset (.setPth h)))))

theorem Leads.motLeave (h : Leads s₀ s) : Leads s₀ (motLeave s) :=
  .forN (.unless .pthIdle) (.forN (.unless .acdBreak) (.forN (.unless (fun h5 => .ite (.prfEnd h5) (.fset (.fset h5)))) h))

theorem Leads.refuseIn {d code} (h : Leads s₀ s) : Leads s₀ (refuseIn d code s) := .raise (.raiseFlag h)
theorem Leads.refuseReq {code} (h : Leads s₀ s) : Leads s₀ (refuseReq code s) := .refuseIn h
theorem Leads.reqLost {d} (h : Leads s₀ s) : Leads s₀ (reqLost d s) := .when .refuseIn (.when .refuseIn (.sys h))
theorem Leads.setDev {d} (h : Leads s₀ s) : Leads s₀ (setDev d s) := .when .reqLost (.raise (.when .motLeave (.sys h)))

theorem Leads.wakeEvent {src} (h : Leads s₀ s) : Leads s₀ (wakeEvent src s) :=
  .unless (fun h => .ite (.when (fun h => .hwMark (.wr h)) h) (.unless (fun h1 => .raise (.raiseFlag h1)) (.hwMark (.wr (.pwr h rfl))))) h

theorem Leads.ownerWrite {ifc} (h : Leads s₀ s) : Leads s₀ (ownerWrite ifc s) := .when .quo h
theorem Leads.hostSeen (h : Leads s₀ s) : Leads s₀ (hostSeen s) := .sys h

theorem Leads.hostGate {via a w f} (hf : ∀ {t}, Leads s₀ t → Leads s₀ (f t)) (h : Leads s₀ s) : Leads s₀ (hostGate via a w f s) :=
  .unless (fun h2 => .ite (.wakeEvent (.pwr h2 rfl)) (.via (fun h3 => .ite (hf h3) (.hostDrop h3)) (.wakeEvent h2))) (.hostSeen (.when
    .ownerWrite (.advance h)))

theorem Leads.setMemNat {a v n : Nat} (h : Leads s₀ s) : Leads s₀ (setMemNat s a v n) := by
  induction n generalizing s a v with
  | zero => exact h
  | succ n ih => exact ih (.setMemByte h)

theorem Leads.setMemBytes {a : Nat} {bs : List Byte} (h : Leads s₀ s) : Leads s₀ (setMemBytes s a bs) := by
  induction bs generalizing s a with
  | nil => exact h
  | cons b r ih => exact ih (.setMemByte h)

theorem Leads.setPoison {a b} (h : Leads s₀ s) : Leads s₀ (setPoison s a b) := .poison h
theorem Leads.poisonedRead {reader a} (h : Leads s₀ s) : Leads s₀ (poisonedRead reader a s) := .raise (.fset (.bump (.raiseFlag h)))

theorem Leads.correctedRead {a} (h : Leads s₀ s) : Leads s₀ (correctedRead a s) :=
  .via (fun h1 => .unless .raise (.ite (.tst h1) (.tst h1))) (.bump h)

theorem Leads.noteErrs {errs} (h : Leads s₀ s) : Leads s₀ (noteErrs errs s) := by
  unfold Machine.noteErrs
  exact .forL (fun h1 => (by split; exacts [h1, .correctedRead h1, .setPoison h1])) h

theorem Leads.localErr {b e} (h : Leads s₀ s) : Leads s₀ (localErr b e s) := .ite (.raise (.raiseFlag h)) (.bump h)
theorem Leads.readMem {reader a n} (h : Leads s₀ s) : Leads s₀ (readMem reader a n s).2 := .ite₂ (.pair (.poisonedRead h)) h
theorem Leads.readBytes {reader a n} (h : Leads s₀ s) : Leads s₀ (readBytes reader a n s).2 := .forL .poisonedRead h
theorem Leads.holdErrs {l} (h : Leads s₀ s) : Leads s₀ (holdErrs l s) := .ite (.pwr h rfl) (.noteErrs h)
theorem Leads.readSram {reader i} (h : Leads s₀ s) : Leads s₀ (readSram reader i s).2 := .readMem h
theorem Leads.writeSram {i v} (h : Leads s₀ s) : Leads s₀ (writeSram i v s) := .setMemNat h
theorem Leads.writeMemBytes {a bs} (h : Leads s₀ s) : Leads s₀ (writeMemBytes s a bs) := .foldl .setPoison (.setMemBytes h)
theorem Leads.setPlt {n p} (h : Leads s₀ s) : Leads s₀ (setPlt s n p) := .plts h
theorem Leads.modPlt {n f} (h : Leads s₀ s) : Leads s₀ (modPlt s n f) := .setPlt h
theorem Leads.setMm {m x} (h : Leads s₀ s) : Leads s₀ (setMm s m x) := .mms h

theorem Leads.modCh {c : Nat} {f : ChanS → ChanS} (h : Leads s₀ s) (hf : (f (s.ch c)).drv = (s.ch c).drv) : Leads s₀ (modCh s c f) :=
  .setCh h hf

theorem Leads.pagePut {off v} (h : Leads s₀ s) : Leads s₀ (pagePut off v s) := .page h
theorem Leads.impStart (h : Leads s₀ s) : Leads s₀ (impStart s) := .sys h
theorem Leads.trackDark (h : Leads s₀ s) : Leads s₀ (trackDark s) := .forN (.forN .wr) (.put h ⟨rfl, rfl, rfl, rfl, id, id, le_rfl⟩)
theorem Leads.takeStart (h : Leads s₀ s) : Leads s₀ (takeStart s) := .when (fun h => .impStart (.trackDark h)) h

/-! #### Edge generators -/

theorem Leads.lockAdjust {a} (h : Leads s₀ s) : Leads s₀ (lockAdjust a s) := by
  unfold Machine.lockAdjust
  exact .forN (fun h1 => (by split; exacts [.ite (.modCh h1 rfl) (.modCh h1 rfl), h1])) h

theorem Leads.enterMask {c e} (h : Leads s₀ s) : Leads s₀ (enterMask c e s) := .setCh h rfl

theorem Leads.maskScan {c} (h : Leads s₀ s) : Leads s₀ (maskScan c s) :=
  .unless .enterMask (.unless (fun h => .ite (.setCh h rfl) (.setCh h rfl)) h)

theorem Leads.setCh_ite {p : Prop} [Decidable p] {c : Nat} {x y : ChanS} (hx : Leads s₀ (Machine.setCh s c x))
    (hy : Leads s₀ (Machine.setCh s c y)) : Leads s₀ (Machine.setCh s c (if p then x else y)) := by
  split_ifs
  · exact hx
  · exact hy

theorem Leads.turnOffs {c} (h : Leads s₀ s) : Leads s₀ (Machine.turnOffs c s) :=
  .forN (fun {o _} h => .setCh_ite (.legOff o h (by dsimp only; split_ifs <;> rfl)) (.setCh h (by dsimp only; split_ifs <;> rfl))) h

theorem Leads.interlock {c o} (h : Leads s₀ s) : Leads s₀ (interlock c o s) := by
  unfold Machine.interlock
  dsimp only
  split_ifs with hw ht hu ho hp hd
  · exact h
  · exact .raiseFlag (.legOff o h rfl)
  · exact .raiseFlag h
  · exact h
  · exact .raiseFlag h
  · exact .legOn o h (by simpa using hp) rfl
  · exact h

theorem Leads.holdScan {c} (h : Leads s₀ s) : Leads s₀ (holdScan c s) := .when (fun h => .modCh h rfl) h
theorem Leads.edgSettle {c} (h : Leads s₀ s) : Leads s₀ (Machine.edgSettle c s) := .forN .interlock (.turnOffs (.holdScan (.maskScan h)))
theorem Leads.xLatch {x} (h : Leads s₀ s) : Leads s₀ (xLatch x s) := .when (fun h => .raise (.raiseBit h)) h
theorem Leads.ocLatch {c p} (h : Leads s₀ s) : Leads s₀ (ocLatch c p s) := .when (fun h => .raise (.raiseBit h)) h
theorem Leads.tripScan (h : Leads s₀ s) : Leads s₀ (tripScan s) := .forN (.forN .ocLatch) (.forN .xLatch h)
theorem Leads.edgRefresh (h : Leads s₀ s) : Leads s₀ (edgRefresh s) := .when (fun h => .forN .edgSettle (.tripScan h)) h

theorem Leads.setComplete {c t vals} (h : Leads s₀ s) : Leads s₀ (setComplete c t vals s) :=
  .setCh (.unless .raiseFlag h) (by split_ifs <;> rfl)

theorem Leads.transfer {c t} (h : Leads s₀ s) : Leads s₀ (Machine.transfer c t s) := by
  unfold Machine.transfer
  extract_lets x ok late n s1 s2
  have hd : s2.ch c = s.ch c := by
    unfold s2 s1 State.ch
    split_ifs <;> simp only [raiseFlag_edg, bump_edg]
  have h2 : Leads s₀ s2 := .unless .raiseFlag (.unless (fun h => .bump (.raiseFlag h)) h)
  split
  · exact .setCh (.fset h2) (congrArg ChanS.drv hd.symm :)
  · exact h2

theorem Leads.auxReload {c} (h : Leads s₀ s) : Leads s₀ (auxReload c s) := .forN (.when .aux) h

theorem Leads.reloadChan {c t} (h : Leads s₀ s) : Leads s₀ (reloadChan c t s) :=
  .when (fun h2 => .when (fun h3 => .modCh h3 rfl) (.transfer h2)) (.auxReload (.setCh h rfl))

theorem Leads.restartChan {lock c} (h : Leads s₀ s) : Leads s₀ (restartChan lock c s) :=
  .forN (.when (fun h3 => .fset (.aux h3))) (.modCh (.fset h) rfl)

theorem Leads.compareFires {c j} (h : Leads s₀ s) : Leads s₀ (compareFires c j s) :=
  .unless (.unless (fun h => .ite (.when (fun h => .setCh h rfl) h) (.ite (.bump (.raiseFlag h)) (.setCh h rfl)))) h

theorem Leads.shdGo {ifc c v} (h : Leads s₀ s) : Leads s₀ (shdGo ifc c v s) := .ite (.when .setComplete h) (.hostDrop h)

theorem Leads.xlatchClear {v} (h : Leads s₀ s) : Leads s₀ (xlatchClear v s) :=
  .edgRefresh (.forN (.when (fun h2 => .ite (.raise (.raiseFlag h2)) (.unless .fsetBit h2))) h)

theorem Leads.tlatchClear {c v} (h : Leads s₀ s) : Leads s₀ (tlatchClear c v s) :=
  .edgRefresh (.forN (.when (fun h2 => .ite (.raise (.raiseFlag h2)) (.unless .fsetBit h2))) h)

/-! #### Delta-sigma inputs -/

theorem Leads.latchPhase {c p bits} (h : Leads s₀ s) : Leads s₀ (latchPhase c p bits s).1 := .pagePut (.when .raiseBit (.fset h))

theorem Leads.latchChannel {c bits} (h : Leads s₀ s) : Leads s₀ (latchChannel c bits s) :=
  .ite (.pagePut (.latchPhase (.latchPhase (.latchPhase h)))) (.forN .pagePut h)

theorem Leads.latchAin {k} (h : Leads s₀ s) : Leads s₀ (latchAin k s) := .pagePut (.pagePut (.fset (.fset (.ain h))))
theorem Leads.settleStart {chs} (h : Leads s₀ s) : Leads s₀ (settleStart chs s) := .forL (fun h1 => .fset (.settle h1)) h
theorem Leads.settleChanged {o} (h : Leads s₀ s) : Leads s₀ (settleChanged o s) := .forN (.when .settleStart) h

/-! #### Recorders -/

theorem Leads.setRec {r x} (h : Leads s₀ s) : Leads s₀ (setRec r x s) := .acq h
theorem Leads.setRecState {r n} (h : Leads s₀ s) : Leads s₀ (setRecState r n s) := .fset h
theorem Leads.recStart {r} (h : Leads s₀ s) : Leads s₀ (recStart r s) := .setRecState (.setRec h)

theorem Leads.recEnter {r} (h : Leads s₀ s) : Leads s₀ (recEnter r s) :=
  .ite (.unless (fun h => .raise (.setRecState h)) h) (.ite (.recStart (.fset (.fset h))) (.recStart h))

theorem Leads.recRetry {r} (h : Leads s₀ s) : Leads s₀ (recRetry r s) := .when .recEnter h
theorem Leads.ringZero {r} (h : Leads s₀ s) : Leads s₀ (ringZero r s) := .setRec (.fset (.fset (.fset h)))

theorem Leads.recArm {r} (h : Leads s₀ s) : Leads s₀ (recArm r s) :=
  .unless (fun h => .ite (.raiseFlag h) (.recEnter (.setRec (.fset (.when .ringZero h))))) h

theorem Leads.recMissed {r t} (h : Leads s₀ s) : Leads s₀ (recMissed r t s) := .when .raise (.bump h)
theorem Leads.recCheck {r} (h : Leads s₀ s) : Leads s₀ (recCheck r s) := .when .setRecState h
theorem Leads.recLate {r t} (h : Leads s₀ s) : Leads s₀ (recLate r t s) := .unless .recMissed h

theorem Leads.recTrigger {r c t} (h : Leads s₀ s) : Leads s₀ (recTrigger r c t s) := by
  unfold Machine.recTrigger
  dsimp only
  split
  · exact h
  · exact (by split; exacts [h, .unless (fun h => .recCheck (.setRecState (.setRec h))) h])
  · exact (by split; exacts [.unless .recLate h, .recLate h])
  · exact (by split; exacts [.ite (.setRec h) (.recLate h), .recLate h])

theorem Leads.recForce {r} (h : Leads s₀ s) : Leads s₀ (recForce r s) := by
  unfold Machine.recForce
  dsimp only
  split
  · exact .recCheck (.setRecState (.setRec h))
  · exact .ite (.setRec h) (.recMissed h)
  · exact .ite (.setRec h) (.recMissed h)
  · exact .unless .recMissed h
  · exact h

theorem Leads.condTrigger {c t} (h : Leads s₀ s) : Leads s₀ (condTrigger c t s) := .forN (.when .recTrigger) (.bump h)

theorem Leads.levelCond {r inst ws first c} (h : Leads s₀ s) : Leads s₀ (levelCond r inst ws first c s) :=
  .unless (fun h => .when .condTrigger (.setRec h)) h

theorem Leads.sampleWord {c i bits} (h : Leads s₀ s) : Leads s₀ (sampleWord c i bits s).2 := by
  unfold Machine.sampleWord
  split
  · exact h
  · exact .readSram h
  · exact h
  · exact h

theorem Leads.sampleWords {c ws} {n : Nat} {acc : List Nat} (h : Leads s₀ s) : Leads s₀ (sampleWords c ws n acc s).2 := by
  induction n generalizing s acc with
  | zero => exact h
  | succ n ih => exact ih (.sampleWord h)

theorem Leads.storeFrame {a : Nat} {l : List Nat} (h : Leads s₀ s) : Leads s₀ (storeFrame a l s) := by
  induction l generalizing s a with
  | nil => exact h
  | cons w r ih => exact ih (.setMemNat h)

theorem Leads.jobCount (h : Leads s₀ s) : Leads s₀ (jobCount s) := .fset (.fset h)

theorem Leads.recFinish {r auto} (h : Leads s₀ s) : Leads s₀ (recFinish r auto s) :=
  .via (fun h2 => .via (fun h5 => .ite (.recEnter h5) (.setRecState (.setRec h5))) (.fset (.fset (.ite (.raise h2) (.when (fun h2 =>
    .jobCount (.acq h2)) h2))))) (.raise (.fset (.storeFrame (.storeFrame h))))

theorem Leads.recStop {r} (h : Leads s₀ s) : Leads s₀ (recStop r s) := .ite (.recFinish h) (.setRecState (.setRec h))
theorem Leads.slotRelease {ifc r v} (h : Leads s₀ s) : Leads s₀ (slotRelease ifc r v s) := .ite (.hostDrop h) (.recRetry (.fset (.fset h)))

theorem Leads.recMask {f v} (hf : ∀ {a0 t}, Leads s₀ t → Leads s₀ (f a0 t)) (h : Leads s₀ s) : Leads s₀ (recMask f v s) :=
  .forN (.when hf) h

theorem Leads.recCfgWrite {r} (h : Leads s₀ s) : Leads s₀ (recCfgWrite r s) := .ite (.ringZero h) (.raiseFlag h)
theorem Leads.accClear {via} (h : Leads s₀ s) : Leads s₀ (accClear via s) := .acq h

theorem Leads.acqOff (h : Leads s₀ s) : Leads s₀ (acqOff s) :=
  .jobCount (.put (.forget (p := fun c => decide (c.1 < 0x10000000)) (.modPlt (.forN .setRecState h))) ⟨rfl, rfl, rfl, rfl, id, id, le_rfl⟩)

/-! #### Feedback -/

theorem Leads.setSrc {i x} (h : Leads s₀ s) : Leads s₀ (setSrc s i x) := .src h
theorem Leads.modSrc {i f} (h : Leads s₀ s) : Leads s₀ (modSrc s i f) := .setSrc h
theorem Leads.setCmp {u x} (h : Leads s₀ s) : Leads s₀ (setCmp s u x) := .cmp h
theorem Leads.setCmpV {u v} (h : Leads s₀ s) : Leads s₀ (setCmpV u v s) := .fset (.fset h)

theorem Leads.cmpFire {u st pos} (h : Leads s₀ s) : Leads s₀ (cmpFire u st pos s) :=
  .via (fun h5 => .ite (.unless (fun h6 => .raise (.raiseFlag h6)) (.setCmpV h5)) (.fset h5)) (.setCmp (.when .raise (.fset (.trigNote
    (.fset (.bump (.raiseFlag h)))))))

theorem Leads.cmpUpdate {i st old new} (h : Leads s₀ s) : Leads s₀ (cmpUpdate i st old new s) := .forN (.when .cmpFire) h
theorem Leads.cmpJudge {u} (h : Leads s₀ s) : Leads s₀ (cmpJudge u s) := .ite (.ite (.setCmp h) (.raise (.raiseFlag h))) (.setCmp h)
theorem Leads.cmpRejudge {i} (h : Leads s₀ s) : Leads s₀ (cmpRejudge i s) := .forN (.when .cmpJudge) h

theorem Leads.srcError {i kind} (h : Leads s₀ s) : Leads s₀ (srcError i kind s) :=
  .when (fun h4 => .raise (.raiseFlag h4)) (.when .raise (.modSrc (.bump (.bump (.raiseFlag h)))))

theorem Leads.errDown {i} (h : Leads s₀ s) : Leads s₀ (errDown i s) := .fset h
theorem Leads.edgeGood {i} (h : Leads s₀ s) : Leads s₀ (edgeGood i s) := .ite (.errDown (.modSrc h)) (.modSrc h)
theorem Leads.setLat {u x} (h : Leads s₀ s) : Leads s₀ (setLat s u x) := .lat h
theorem Leads.modCaps {i f} (h : Leads s₀ s) : Leads s₀ (modCaps i f s) := .forN (.when .setLat) h
theorem Leads.satRise {i new v} (h : Leads s₀ s) : Leads s₀ (satRise i new v s) := .unless (fun h => .raise (.raiseFlag h)) h
theorem Leads.movePos {i st new} (h : Leads s₀ s) : Leads s₀ (movePos i st new s) := .cmpUpdate (.satRise (.when .modCaps (.setSrc h)))
theorem Leads.reReference {i} (h : Leads s₀ s) : Leads s₀ (reReference i s) := .cmpRejudge (.modSrc (.ite (.fset h) (.satRise h)))
theorem Leads.setEst {i e} (h : Leads s₀ s) : Leads s₀ (setEst i e s) := .ite (.modSrc h) (.modSrc (.raiseFlag h))
theorem Leads.speedRestart {i} (h : Leads s₀ s) : Leads s₀ (speedRestart i s) := .modSrc h

theorem Leads.speedEdge {i st neg} (h : Leads s₀ s) : Leads s₀ (speedEdge i st neg s) :=
  .when .raise (.unless (fun h2 => .ite (.setEst h2) (.setEst h2)) (.setSrc (.fset (.fset h))))

theorem Leads.countEdge {i st neg} (h : Leads s₀ s) : Leads s₀ (countEdge i st neg s) := .edgeGood (.speedEdge (.movePos h))

theorem Leads.latchSource {at_ i} (h : Leads s₀ s) : Leads s₀ (latchSource at_ i s) :=
  .ite (.setSrc (.when .raiseFlag (.fset (.fset (.fset (.fset (.pagePut (.pagePut (.pagePut (.pagePut (.pagePut (.pagePut (.pagePut
    (.pagePut h)))))))))))))) (.forN .pagePut h)

theorem Leads.shownShift {d i} (h : Leads s₀ s) : Leads s₀ (shownShift d i s) := .when (fun h => .pagePut (.pagePut (.fset h))) h
theorem Leads.fbkShift {d} (h : Leads s₀ s) : Leads s₀ (fbkShift d s) := .forL (fun h1 => .modSrc (.shownShift h1)) h
theorem Leads.setHall {c n} (h : Leads s₀ s) : Leads s₀ (setHall c n s) := .when .edgSettle (.fset (.fset h))

theorem Leads.hallChange {c st o n} (h : Leads s₀ s) : Leads s₀ (hallChange c st o n s) :=
  .ite (.speedRestart (.srcError h)) (.ite (.speedRestart h) (.ite (.countEdge h) (.ite (.countEdge h) (.speedRestart (.srcError h)))))

theorem Leads.sbyCount {i neg} (h : Leads s₀ s) : Leads s₀ (sbyCount i neg s) := .par h
theorem Leads.setSbyLines {i n} (h : Leads s₀ s) : Leads s₀ (setSbyLines i n s) := .par h

theorem Leads.sbyStep {i n rev fwd back} (h : Leads s₀ s) : Leads s₀ (sbyStep i n rev fwd back s) := by
  unfold Machine.sbyStep
  dsimp only
  exact .via (fun h1 => (by split; exacts [h1, .ite (.sbyCount h1) (.when .sbyCount h1)])) (.setSbyLines h)

theorem Leads.hallConfig {c} (h : Leads s₀ s) : Leads s₀ (hallConfig c s) := by
  unfold Machine.hallConfig
  dsimp only
  exact .via (fun h1 => (by split; exacts [.setHall h1, h1])) (.speedRestart h)

theorem Leads.ssiSpeed {i} (h : Leads s₀ s) : Leads s₀ (ssiSpeed i s) := by
  unfold Machine.ssiSpeed
  dsimp only
  split
  · exact .ite (.modSrc h) (.ite (.setEst h) (.setEst h))
  · exact h

theorem Leads.ssiCaps {i} (h : Leads s₀ s) : Leads s₀ (ssiCaps i s) := .modCaps h

theorem Leads.ssiWord {k w st due} (h : Leads s₀ s) : Leads s₀ (ssiWord k w st due s) :=
  .when (fun h5 => .raise (.fset h5)) (.ssiSpeed (.fset (.when .modSrc (.ssiCaps (.movePos (.errDown (.setSrc h)))))))

theorem Leads.lostClear {i} (h : Leads s₀ s) : Leads s₀ (lostClear i s) := .unless (fun h => .fset (.fset h)) h
theorem Leads.refZArm {e} (h : Leads s₀ s) : Leads s₀ (refZArm e s) := .when .fset h
theorem Leads.latArm {u} (h : Leads s₀ s) : Leads s₀ (latArm u s) := .fset (.setLat h)
theorem Leads.latDisarm {u} (h : Leads s₀ s) : Leads s₀ (latDisarm u s) := .fset (.setLat h)
theorem Leads.latPop {u} (h : Leads s₀ s) : Leads s₀ (latPop u s) := .setLat h
theorem Leads.latFlush {u} (h : Leads s₀ s) : Leads s₀ (latFlush u s) := .setLat h
theorem Leads.latOnce {u} (h : Leads s₀ s) : Leads s₀ (latOnce u s) := .when .fset h

theorem Leads.latFioAccept {i level} (h : Leads s₀ s) : Leads s₀ (latFioAccept i level s) :=
  .forN (.when (fun h1 => .latOnce (.setLat h1))) h

theorem Leads.cmpArm {u} (h : Leads s₀ s) : Leads s₀ (cmpArm u s) := .cmpJudge (.fset (.fset (.setCmpV (.setCmp h))))
theorem Leads.cmpDisarm {u} (h : Leads s₀ s) : Leads s₀ (cmpDisarm u s) := .unless .fset (.fset (.setCmp h))

theorem Leads.fbkSleep (h : Leads s₀ s) : Leads s₀ (fbkSleep s) :=
  .forN .cmpDisarm (.forN (fun h4 => .latDisarm (.latFlush h4)) (.pwr h rfl))

theorem Leads.fbkWake (h : Leads s₀ s) : Leads s₀ (fbkWake s) := by
  unfold Machine.fbkWake
  dsimp only
  exact .forL (fun h1 => .via (fun h3 => (by split; exacts [.when .setHall h3, h3])) (.fset (.fset (.setSrc h1)))) h

/-! #### Field inputs and outputs -/

theorem Leads.fioFreeze (h : Leads s₀ s) : Leads s₀ (fioFreeze s) := .fio h
theorem Leads.setSbc {p applied} (h : Leads s₀ s) : Leads s₀ (setSbc p applied s) := .unless (fun h => .fsetBit (.fio h)) h
theorem Leads.groupOff {g} (h : Leads s₀ s) : Leads s₀ (groupOff g s) := .edgRefresh (.setSbc (.setSbc (.fsetBit (.fsetBit h))))

theorem Leads.battScan (h : Leads s₀ s) : Leads s₀ (battScan s) := by
  unfold Machine.battScan
  exact .holdMark (.forN (fun h2 => (by split; exacts [.fset h2, .fset h2, .fset (.readSram h2), h2])) h)

theorem Leads.wdtRestart (h : Leads s₀ s) : Leads s₀ (wdtRestart s) := .fio h
theorem Leads.wdtEndpoint {e} (h : Leads s₀ s) : Leads s₀ (wdtEndpoint e s) := .when .wdtRestart h
theorem Leads.fioOutWrite {v} (h : Leads s₀ s) : Leads s₀ (fioOutWrite v s) := .wdtRestart (.wr h)
theorem Leads.fioSet {n level} (h : Leads s₀ s) : Leads s₀ (fioSet n level s) := .wdtRestart (.fsetBit h)
theorem Leads.fioFault {n f} (h : Leads s₀ s) : Leads s₀ (fioFault n f s) := .unless (fun h => .raise (.raiseFlag h)) h

theorem Leads.diagClear {n v hot} (h : Leads s₀ s) : Leads s₀ (diagClear n v hot s) :=
  .when (fun h2 => .fset (.fio h2)) (.when .fset (.when .fset h))

theorem Leads.wdtExpClear (h : Leads s₀ s) : Leads s₀ (wdtExpClear s) := .unless (fun h => .wdtRestart (.fset h)) h

theorem Leads.supplyInputs {g n} (h : Leads s₀ s) : Leads s₀ (supplyInputs g n s) :=
  .unless (fun h1 => .battScan (.forN .fsetBit (.forN .fsetBit h1))) (.fio h)

theorem Leads.uvAck {g} (h : Leads s₀ s) : Leads s₀ (uvAck g s) := .ite (.fset (.fset h)) (.raiseFlag h)

/-! #### Time base -/

theorem Leads.setPort {p x} (h : Leads s₀ s) : Leads s₀ (setPort p x s) := .ite (.tim h le_rfl) (.tim h le_rfl)
theorem Leads.slewSettle (h : Leads s₀ s) : Leads s₀ (slewSettle s) := .tim h le_rfl
theorem Leads.slewEnd {done left} (h : Leads s₀ s) : Leads s₀ (slewEnd done left s) := .raise (.tim h le_rfl)
theorem Leads.slewCut (h : Leads s₀ s) : Leads s₀ (slewCut s) := .unless (fun h => .slewEnd (.slewSettle h)) h
theorem Leads.holdEnter {cause} (h : Leads s₀ s) : Leads s₀ (holdEnter cause s) := .unless (fun h => .raise (.tim (.slewCut h) le_rfl)) h
theorem Leads.timTo {x} (h : Leads s₀ s) : Leads s₀ (timTo x s) := .when .raise (.tim h le_rfl)
theorem Leads.gridMoved {d} (h : Leads s₀ s) : Leads s₀ (gridMoved d s) := .unless (fun h => .unless .raise (.sys h)) h
theorem Leads.netShift {d} (h : Leads s₀ s) : Leads s₀ (netShift d s) := .net h

theorem Leads.timStep {src th} (h : Leads s₀ s) : Leads s₀ (timStep src th s) :=
  .gridMoved (.raise (.netShift (.fbkShift (.raiseFlag (.fset (.fset (.fset (.fset (.tim h (Nat.le_add_right _ _))))))))))

theorem Leads.servoUpdate {src th} (h : Leads s₀ s) : Leads s₀ (servoUpdate src th s) := .tim h le_rfl

theorem Leads.refuseOfs {src th lim} (h : Leads s₀ s) : Leads s₀ (refuseOfs src th lim s) :=
  .holdEnter (.raise (.fset (.fset (.raiseFlag h))))

theorem Leads.ofsRow {src ev th lim} (h : Leads s₀ s) : Leads s₀ (ofsRow src ev th lim s) :=
  .ite (.timTo (.servoUpdate h)) (.ite (.refuseOfs h) (.ite (.timTo (.timStep h)) (.timTo (.tim (.tim h le_rfl) le_rfl))))

theorem Leads.ofsSlew {src th lim} (h : Leads s₀ s) : Leads s₀ (ofsSlew src th lim s) :=
  .via (fun h1 => .ite (.refuseOfs h1) (.ite (.tim h1 le_rfl) (.ofsRow (.timTo (.slewCut h1))))) (.slewSettle h)

theorem Leads.ofsHandle {src th} (h : Leads s₀ s) : Leads s₀ (ofsHandle src th s) := by
  have h1 {a : Bool} {w : Nat} : Leads s₀ { s with tim := { s.tim with accept := a, widen := w } } := .tim h le_rfl
  unfold Machine.ofsHandle
  refine .ite h ?_
  dsimp only
  split
  · exact .ite (.timTo (.timStep h1)) (.ofsRow h1)
  · exact .ofsSlew h1
  · exact .ofsRow h1

theorem Leads.timSelect {p} (h : Leads s₀ s) : Leads s₀ (timSelect p s) := .raise (.raiseFlag (.setPort (.setPort (.tim h le_rfl))))

theorem Leads.selUpdate (h : Leads s₀ s) : Leads s₀ (selUpdate s) := by
  unfold Machine.selUpdate
  dsimp only
  split
  · exact .unless .holdEnter h
  · exact h
  · exact h
  · exact .timSelect h
  · exact .timSelect h

theorem Leads.selAnnounce {p} (h : Leads s₀ s) : Leads s₀ (selAnnounce p s) := by
  unfold Machine.selAnnounce
  dsimp only
  split
  · exact .unless (fun h => .when .timSelect (.setPort h)) h
  · exact h

theorem Leads.crossCheck {p th} (h : Leads s₀ s) : Leads s₀ (crossCheck p th s) :=
  .unless (fun h => .via (fun h1 => .ite (.when .holdEnter (.raise (.tim h1 le_rfl))) (.when (fun h1 => .tim h1 le_rfl) h1)) (.tim h
    le_rfl)) h

theorem Leads.instOffset {p th} (h : Leads s₀ s) : Leads s₀ (instOffset p th s) :=
  .when (fun h2 => .ofsHandle (.crossCheck (.fset h2))) (.selUpdate (.tim (.setPort h) le_rfl))

theorem Leads.timAccept {ifc} (h : Leads s₀ s) : Leads s₀ (timAccept ifc s) := .ite (.tim h le_rfl) (.hostDrop h)
theorem Leads.timSet {ifc} (h : Leads s₀ s) : Leads s₀ (timSet ifc s) := .ite (.hostDrop h) (.ofsHandle h)
theorem Leads.timDoze (h : Leads s₀ s) : Leads s₀ (timDoze s) := .when .slewSettle h
theorem Leads.timResume (h : Leads s₀ s) : Leads s₀ (timResume s) := .tim h le_rfl
theorem Leads.timWake {d} (h : Leads s₀ s) : Leads s₀ (timWake d s) := .tim h le_rfl

/-! #### Partner link -/

theorem Leads.rxFolio {p f ok} (h : Leads s₀ s) : Leads s₀ (rxFolio p f ok s).2 :=
  .ite₂ h (.ite₂ (.pair (.bump h)) (.ite₂ h (.ite₂ (.pair (.bump h)) (.pair (.bump h)))))

theorem Leads.setCtx {i x} (h : Leads s₀ s) : Leads s₀ (setCtx i x s) := .net h
theorem Leads.setTmpl {k x} (h : Leads s₀ s) : Leads s₀ (setTmpl k x s) := .net h
theorem Leads.ptnCount (h : Leads s₀ s) : Leads s₀ (ptnCount s) := .fset (.fset h)
theorem Leads.ctxValid {i} (h : Leads s₀ s) : Leads s₀ (ctxValid i s) := .setCtx (.fset (.bump h))

theorem Leads.ctxFill {i k mac ip x} (h : Leads s₀ s) : Leads s₀ (ctxFill i k mac ip x s) :=
  .ptnCount (.setCtx (.fset (.fset (.fset (.fset (.fset (.fset (.fset (.fset (.fset (.fset (.fset h))))))))))))

theorem Leads.ctxFree {i} (h : Leads s₀ s) : Leads s₀ (ctxFree i s) := .ptnCount (.setCtx (.wr (.wr (.wr (.wr h)))))
theorem Leads.ctxErr {e} (h : Leads s₀ s) : Leads s₀ (ctxErr e s) := .when .setCtx (.localErr h)

theorem Leads.refuseFrame {k mac} (h : Leads s₀ s) : Leads s₀ (refuseFrame k mac s) :=
  .when (fun h1 => .raise (.net h1)) (.raiseFlag (.bump h))

theorem Leads.admitCtx {ty p mac ip tag} (h : Leads s₀ s) : Leads s₀ (admitCtx ty p mac ip tag s).2 := by
  unfold Machine.admitCtx
  exact .ite₂ h (by split; exacts [h, (by split; exacts [.pair (.refuseFrame h), .pair (.raise (.ctxFill h))])])

theorem Leads.keyLoad (h : Leads s₀ s) : Leads s₀ (keyLoad s) := .ite (.setCtx (.fset h)) (.unless .setTmpl h)
theorem Leads.keyActivate (h : Leads s₀ s) : Leads s₀ (keyActivate s) := .ite (.fset h) (.unless .setTmpl h)

/-! #### PTP -/

theorem Leads.rxPtp {p l} (h : Leads s₀ s) : Leads s₀ (rxPtp p l s).2 := .ite₂ h (.ite₂ (.pair (.bump h)) (.pair (.bump h)))

theorem Leads.ptpPeer {p l} (h : Leads s₀ s) : Leads s₀ (ptpPeer p l s).2 := by
  unfold Machine.ptpPeer
  dsimp only
  split
  · exact .pair (.ctxValid h)
  · exact (by split; exacts [.pair (.ctxValid (.admitCtx h)), .pair (.admitCtx h)])

theorem Leads.ptpRecv {t p m f} (hf : ∀ {t}, Leads s₀ t → Leads s₀ (f t)) (h : Leads s₀ s) : Leads s₀ (ptpRecv t p m f s) :=
  .ite (.ite (hf (.ptpPeer (.rxPtp (.advance h)))) (.ptpPeer (.rxPtp (.advance h)))) (.rxPtp (.advance h))

theorem Leads.syncDone {p t1 c t2} (h : Leads s₀ s) : Leads s₀ (syncDone p t1 c t2 s) := by
  unfold Machine.syncDone
  dsimp only
  exact .via (fun h1 => (by split; exacts [.instOffset h1, h1])) (.setPort h)

theorem Leads.peerDelay {p t1 t4 turn} (h : Leads s₀ s) : Leads s₀ (peerDelay p t1 t4 turn s) := .setPort h

theorem Leads.announceIn {p m} (h : Leads s₀ s) : Leads s₀ (announceIn p m s) :=
  .unless (fun h => .selUpdate (.selAnnounce (.when (fun h1 => .fset (.fset (.fset h1))) (.setPort h)))) h

theorem Leads.portRefresh {p} (h : Leads s₀ s) : Leads s₀ (portRefresh p s) := .ite (.when .setPort h) (.selUpdate (.setPort h))
theorem Leads.sendPtp {p kind m} (h : Leads s₀ s) : Leads s₀ (sendPtp p kind m s) := .bump (.out h)
theorem Leads.sendReq {t p kind} (h : Leads s₀ s) : Leads s₀ (sendReq t p kind s) := .sendPtp (.setPort h)

/-! #### Imposition -/

theorem Leads.setLay {i x} (h : Leads s₀ s) : Leads s₀ (setLay i x s) := .net h
theorem Leads.layBump {i x} (h : Leads s₀ s) : Leads s₀ (layBump i x s) := .hwMark (.setLay h)
theorem Leads.epWord {e j} (h : Leads s₀ s) : Leads s₀ (epWord e j s).2 := .readSram h
theorem Leads.epApply {pay e} (h : Leads s₀ s) : Leads s₀ (epApply pay e s) := .ite (.wdtEndpoint (.writeSram (.epWord h))) (.epWord h)
theorem Leads.epPack {e} (h : Leads s₀ s) : Leads s₀ (epPack e s).2.2 := .ite₃ (.readSram (.epWord (.epWord h))) (.epWord h)

theorem Leads.packFrom {e n acc : Nat} {ch : Bool} (h : Leads s₀ s) : Leads s₀ (packFrom e n acc ch s).2.2 := by
  induction n generalizing s e acc ch with
  | zero => exact h
  | succ n ih => exact ih (.epPack h)

theorem Leads.epLast {e} (h : Leads s₀ s) : Leads s₀ (epLast e s) := .ite (.writeSram (.readSram (.epWord h))) (.epWord h)

theorem Leads.workAdd {w} (h : Leads s₀ s) : Leads s₀ (workAdd w s) := by
  unfold Machine.workAdd
  split
  · exact .net h
  · exact .net h

theorem Leads.workDone {w} (h : Leads s₀ s) : Leads s₀ (workDone w s) := .fset (.net h)
theorem Leads.layOverrun {i due} (h : Leads s₀ s) : Leads s₀ (layOverrun i due s) := .raise (.raiseFlag (.hwMark (.setLay h)))

theorem Leads.pathClear {i p} (h : Leads s₀ s) : Leads s₀ (pathClear i p s) := by
  unfold Machine.pathClear
  split
  · exact .setLay h
  · exact .setLay h
  · exact h

theorem Leads.layAccept {i p seq pay} (h : Leads s₀ s) : Leads s₀ (layAccept i p seq pay s) :=
  .workAdd (.when .raise (.pathClear (.setLay h)))

theorem Leads.layDiscard {i} (h : Leads s₀ s) : Leads s₀ (layDiscard i s) := .layBump h

theorem Leads.layZero {i} (h : Leads s₀ s) : Leads s₀ (layZero i s) :=
  .forN (fun h1 => .ite (.wdtEndpoint (.writeSram (.epWord h1))) (.epWord h1)) h

theorem Leads.layErr {e} (h : Leads s₀ s) : Leads s₀ (layErr e s) := .when .setLay (.localErr h)

/-! #### Platens -/

theorem Leads.pltEcc {errs n off} (h : Leads s₀ s) : Leads s₀ (pltEcc errs n off s) := by
  unfold Machine.pltEcc
  split
  · exact h
  · exact .bump h
  · exact .raiseOpen (.fset (.raiseFlag h))

theorem Leads.readXY {y a} (h : Leads s₀ s) : Leads s₀ (readXY y a s).2 := .ite₂ h (.pair (.modPlt (.pltEcc h)))
theorem Leads.readCAt {a ad} (h : Leads s₀ s) : Leads s₀ (readCAt a ad s).2 := .pltEcc h
theorem Leads.readC {a} (h : Leads s₀ s) : Leads s₀ (readC a s).2 := .modPlt (.readCAt h)

theorem Leads.readSrc {a} (h : Leads s₀ s) : Leads s₀ (readSrc a s).2 := by
  unfold Machine.readSrc
  split
  · exact .readXY h
  · exact .readXY h
  · exact .readC h

theorem Leads.noteOvf {a i} (h : Leads s₀ s) : Leads s₀ (noteOvf a i s) := .unless (fun h => .fset (.fset (.fset (.raiseFlag h)))) h

theorem Leads.accWrite {clearing a i v} (h : Leads s₀ s) : Leads s₀ (accWrite clearing a i v s) :=
  .unless (fun h => .ite (.noteOvf (.modPlt h)) (.ite (.noteOvf (.modPlt h)) (.modPlt h))) h

theorem Leads.bexpFeed {n w} (h : Leads s₀ s) : Leads s₀ (bexpFeed n w s) := .modPlt h
theorem Leads.storeVal {a i} (h : Leads s₀ s) : Leads s₀ (storeVal a i s).2 := .ite₂ (.pair (.raiseFlag h)) (.ite₂ (.pair (.raiseFlag h)) h)
theorem Leads.storeXY {y a w} (h : Leads s₀ s) : Leads s₀ (storeXY y a w s) := .unless .modPlt h
theorem Leads.storeFed {y a i} (h : Leads s₀ s) : Leads s₀ (storeFed y a i s) := .when .bexpFeed (.storeXY (.storeVal h))

theorem Leads.bodyMac {a} (h : Leads s₀ s) : Leads s₀ (bodyMac a s) := by
  unfold Machine.bodyMac
  split
  · exact .accWrite (.readC (.readXY h))
  · exact .accWrite (.readC (.readXY h))
  · exact .accWrite (.readXY (.readXY h))
  · exact .accWrite (.accWrite (.readC (.readXY (.readXY h))))

theorem Leads.bodyLda {a} (h : Leads s₀ s) : Leads s₀ (bodyLda a s) := .accWrite (.readSrc h)
theorem Leads.bodyAdd {a} (h : Leads s₀ s) : Leads s₀ (bodyAdd a s) := .accWrite (.readSrc h)
theorem Leads.bodyAcc {a} (h : Leads s₀ s) : Leads s₀ (bodyAcc a s) := .accWrite h
theorem Leads.bodyShf {a} (h : Leads s₀ s) : Leads s₀ (bodyShf a s) := .accWrite h

theorem Leads.bodyUna {a} (h : Leads s₀ s) : Leads s₀ (bodyUna a s) := by
  unfold Machine.bodyUna
  split
  · exact .accWrite h
  · exact .accWrite h
  · exact .accWrite h
  · exact .accWrite h

theorem Leads.bodyMin {a} (h : Leads s₀ s) : Leads s₀ (bodyMin a s) := .accWrite (.readSrc h)
theorem Leads.bodyMax {a} (h : Leads s₀ s) : Leads s₀ (bodyMax a s) := .accWrite (.readSrc h)
theorem Leads.bodyLim {a} (h : Leads s₀ s) : Leads s₀ (bodyLim a s) := .unless .modPlt (.accWrite (.readXY (.readXY h)))
theorem Leads.bodySel {a} (h : Leads s₀ s) : Leads s₀ (bodySel a s) := .accWrite (.readXY (.readXY h))
theorem Leads.bodyLut {a} (h : Leads s₀ s) : Leads s₀ (bodyLut a s) := .accWrite (.modPlt (.readCAt (.readCAt (.readXY h))))

theorem Leads.bodyDld {a} (h : Leads s₀ s) : Leads s₀ (bodyDld a s) :=
  .ite (.accWrite (.readXY (.readXY h))) (.accWrite (.readXY (.readXY h)))

theorem Leads.bodyDst {a} (h : Leads s₀ s) : Leads s₀ (bodyDst a s) := .storeXY (.storeXY (.unless .raiseFlag h))
theorem Leads.bodyStx {a} (h : Leads s₀ s) : Leads s₀ (bodyStx a s) := .storeFed h
theorem Leads.bodySty {a} (h : Leads s₀ s) : Leads s₀ (bodySty a s) := .storeFed h
theorem Leads.bodyStxy {a} (h : Leads s₀ s) : Leads s₀ (bodyStxy a s) := .storeFed (.storeFed h)

theorem Leads.bodyMov {a} (h : Leads s₀ s) : Leads s₀ (bodyMov a s) := by
  unfold Machine.bodyMov
  split
  · exact .storeXY (.readXY h)
  · exact .storeXY (.readXY h)
  · exact .storeXY (.readC h)
  · exact .storeXY (.readC h)

theorem Leads.bodyPset {a} (h : Leads s₀ s) : Leads s₀ (bodyPset a s) := by
  unfold Machine.bodyPset
  exact .modPlt h

theorem Leads.bodyPmod {a} (h : Leads s₀ s) : Leads s₀ (bodyPmod a s) := by
  unfold Machine.bodyPmod
  exact .modPlt h

theorem Leads.bodyBexp {a} (h : Leads s₀ s) : Leads s₀ (bodyBexp a s) := by
  unfold Machine.bodyBexp
  split
  · exact .modPlt h
  · exact .bexpFeed (.readXY h)
  · exact .accWrite h
  · exact .modPlt h

theorem Leads.bodyBscl {a} (h : Leads s₀ s) : Leads s₀ (bodyBscl a s) := .accWrite h
theorem Leads.bodySev {a} (h : Leads s₀ s) : Leads s₀ (bodySev a s) := .when (fun h => .raise (.drawn (.when .trk h))) h

theorem Leads.sortBody {op a} (h : Leads s₀ s) : Leads s₀ (sortBody op a s) := by
  unfold Machine.sortBody
  split
  · exact .bodyMac h
  · exact .bodyLda h
  · exact .bodyAdd h
  · exact .bodyAcc h
  · exact .bodyShf h
  · exact .bodyUna h
  · exact .bodyMin h
  · exact .bodyMax h
  · exact .bodyLim h
  · exact .bodySel h
  · exact .bodyLut h
  · exact .bodyDld h
  · exact .bodyDst h
  · exact .bodyStx h
  · exact .bodySty h
  · exact .bodyStxy h
  · exact .bodyMov h
  · exact .bodyPset h
  · exact .bodyPmod h
  · exact .bodyBexp h
  · exact .bodyBscl h
  · exact .bodySev h
  · exact h

theorem Leads.perform {en op bad body a} (hf : ∀ {t}, Leads s₀ t → Leads s₀ (body t)) (h :
    Leads s₀ s) : Leads s₀ (perform en op bad body a s) :=
  .ite (.raiseFlag h) (.when hf h)

theorem Leads.issueWith {en op body a} (hf : ∀ {t}, Leads s₀ t → Leads s₀ (body t)) (h :
    Leads s₀ s) : Leads s₀ (issueWith en op body a s) :=
  .when (.perform hf) (.pltEcc h)

theorem Leads.seqTo {n i} (h : Leads s₀ s) : Leads s₀ (seqTo n i s) := .modPlt h

theorem Leads.issueOp {op body a} (hf : ∀ {t}, Leads s₀ t → Leads s₀ (body t)) (h : Leads s₀ s) : Leads s₀ (issueOp op body a s) :=
  .when (fun h => .seqTo (.issueWith hf h)) h

theorem Leads.issue {op a} (h : Leads s₀ s) : Leads s₀ (issue op a s) := .issueOp .sortBody h
theorem Leads.issueNop {a} (h : Leads s₀ s) : Leads s₀ (issueNop a s) := .ite (.issue h) (.issue h)

theorem Leads.repFetch {a} {i k : Nat} (h : Leads s₀ s) : Leads s₀ (repFetch a i k s) := by
  induction k generalizing s i with
  | zero => exact h
  | succ k ih => exact ih (.pltEcc h)

theorem Leads.repPass {en a} {i k : Nat} (h : Leads s₀ s) : Leads s₀ (Machine.repPass en a i k s) := by
  induction k generalizing s i with
  | zero => exact h
  | succ k ih => exact ih (.when (.perform .sortBody) h)

theorem Leads.bodyRep {k en a} (h : Leads s₀ s) : Leads s₀ (bodyRep k en a s) := .repeat .repPass (.repFetch (.when .raiseFlag h))
theorem Leads.issueRep {op k a} (h : Leads s₀ s) : Leads s₀ (issueRep op k a s) := .when (fun h => .seqTo (.issueWith .bodyRep h)) h

/-! #### Safety -/

theorem Leads.setSax {a x} (h : Leads s₀ s) : Leads s₀ (setSax a x s) := .saf h
theorem Leads.setPs {n x} (h : Leads s₀ s) : Leads s₀ (setPs n x s) := .saf h

theorem Leads.takeOfs {a} (h : Leads s₀ s) : Leads s₀ (takeOfs a s) := by
  unfold Machine.takeOfs
  split
  · exact .setSax h
  · exact h

theorem Leads.rampStep {a} (h : Leads s₀ s) : Leads s₀ (rampStep a s) := .setSax h
theorem Leads.rampReset {a} (h : Leads s₀ s) : Leads s₀ (rampReset a s) := .setSax h
theorem Leads.setPass {a via} (h : Leads s₀ s) : Leads s₀ (setPass a via s) := .nv h
theorem Leads.btUpdate (h : Leads s₀ s) : Leads s₀ (btUpdate s) := .forN (fun h1 => .fsetBit (.fset (.fset h1))) h

theorem Leads.safOutputs (h : Leads s₀ s) : Leads s₀ (safOutputs s) :=
  .edgRefresh (.forN (fun h4 => .fset (.fset h4)) (.forN (fun h6 => .setSbc (.unless .fio h6)) (.forN .fsetBit h)))

theorem Leads.setSaf {n} (h : Leads s₀ s) : Leads s₀ (setSaf n s) := .unless (fun h => .raise (.when .fset (.fset (.fset h)))) h

theorem Leads.btEnd {res} (h : Leads s₀ s) : Leads s₀ (btEnd res s) := by
  unfold Machine.btEnd
  split
  · exact h
  · exact .btUpdate (.raise (.when .nv (.when .setPass (.saf (.fset (.fset h))))))

theorem Leads.causeLog {cause inst} (h : Leads s₀ s) : Leads s₀ (causeLog cause inst s) := .raise h

theorem Leads.stopRecord {cause inst} (h : Leads s₀ s) : Leads s₀ (stopRecord cause inst s) :=
  .when .setDev (.causeLog (.when (fun h => .fset (.fset h)) h))

theorem Leads.safeStop {cause inst} (h : Leads s₀ s) : Leads s₀ (safeStop cause inst s) :=
  .ite (.safOutputs (.setSaf (.stopRecord (.btEnd h)))) (.when .causeLog h)

theorem Leads.safeStops {cs} (h : Leads s₀ s) : Leads s₀ (safeStops cs s) := .forL .safeStop h
theorem Leads.confUpdate (h : Leads s₀ s) : Leads s₀ (confUpdate s) := .fset (.fset h)
theorem Leads.busyUpdate (h : Leads s₀ s) : Leads s₀ (busyUpdate s) := .fset h
theorem Leads.sigCalc (h : Leads s₀ s) : Leads s₀ (sigCalc s) := .confUpdate (.wr (.wr h))

theorem Leads.dryUpdate (h : Leads s₀ s) : Leads s₀ (dryUpdate s) := by
  unfold Machine.dryUpdate
  exact .forL
    (fun h1 => (by split; exacts [.unless (fun h1 => .raise (.fsetBit (.saf h1))) h1, .when (fun h1 => .raise (.fsetBit (.saf h1))) h1])) h

theorem Leads.dryEnter (h : Leads s₀ s) : Leads s₀ (dryEnter s) :=
  .raise (.forL (fun h5 => .fset (.unless .rampStep h5)) (.saf (.fset (.btEnd (.setSaf h)))))

theorem Leads.resetAccept (h : Leads s₀ s) : Leads s₀ (resetAccept s) :=
  .via (fun h1 => .safOutputs (.forN (fun h4 => .rampReset (.takeOfs (.setSax h4))) (.ite (.setSaf h1) (.dryEnter h1)))) (.fset
    (.dryUpdate h))

theorem Leads.resetJudge (h : Leads s₀ s) : Leads s₀ (resetJudge s) := .ite (.resetAccept h) (.raiseFlag h)

theorem Leads.axisCycle {live a} (h : Leads s₀ s) : Leads s₀ (axisCycle live a s) := by
  unfold Machine.axisCycle
  exact .unless
    (fun h =>
      .via (fun h2 => .ite (.fset (.fset (.setSax (.rampStep h2)))) (.fset (.fset h2)))
        (.fset (.fset (by split; exacts [.when .raiseFlag h, .fset h]))))
    h

theorem Leads.btCycle (h : Leads s₀ s) : Leads s₀ (btCycle s) := by
  unfold Machine.btCycle
  split
  · exact h
  · exact .unless (fun h1 => .ite (.btEnd h1) (.when .btEnd h1)) (.fset h)

theorem Leads.pltEvents (h : Leads s₀ s) : Leads s₀ (pltEvents s) := .saf (.forN (.when .raise) h)
theorem Leads.selEdge (h : Leads s₀ s) : Leads s₀ (selEdge s) := .when (fun h1 => .ite (.resetJudge h1) (.raiseFlag h1)) (.saf h)

theorem Leads.rstCycle (h : Leads s₀ s) : Leads s₀ (rstCycle s) := by
  unfold Machine.rstCycle
  split
  · exact h
  · exact .via (fun h1 => .ite (.resetJudge h1) (.raiseFlag h1)) (.saf h)

theorem Leads.dryCycle (h : Leads s₀ s) : Leads s₀ (dryCycle s) :=
  .via (fun h1 => .ite (.dryEnter h1) (.when (fun h1 => .ite (.safeStop h1) (.when (fun h1 => .setSaf (.saf h1)) h1)) h1)) (.unless .saf h)

theorem Leads.kfbScan (h : Leads s₀ s) : Leads s₀ (kfbScan s) := .saf h

theorem Leads.ofsWake (h : Leads s₀ s) : Leads s₀ (ofsWake s) := by
  unfold Machine.ofsWake
  split
  · exact .when (fun h => .forN .takeOfs (.saf h)) h
  · exact h

theorem Leads.safetyCycle {supply rb} (h : Leads s₀ s) : Leads s₀ (safetyCycle supply rb s) :=
  .safOutputs (.selEdge (.rstCycle (.dryCycle (.safeStops (.saf (.btCycle (.dryUpdate (.pltEvents (.forN .axisCycle (.kfbScan (.ofsWake
    (.saf h))))))))))))

theorem Leads.rescueReq (h : Leads s₀ s) : Leads s₀ (rescueReq s) := .when (fun h => .raise (.saf h)) h
theorem Leads.enterComm (h : Leads s₀ s) : Leads s₀ (enterComm s) := .when (fun h => .safOutputs (.setSaf h)) h
theorem Leads.exitComm (h : Leads s₀ s) : Leads s₀ (exitComm s) := .when .setSaf h
theorem Leads.safReset (h : Leads s₀ s) : Leads s₀ (safReset s) := .saf h
theorem Leads.safStop (h : Leads s₀ s) : Leads s₀ (safStop s) := .ite (.safeStop h) (.stopRecord h)
theorem Leads.dryAck (h : Leads s₀ s) : Leads s₀ (dryAck s) := .when .saf h
theorem Leads.safConfirm {v} (h : Leads s₀ s) : Leads s₀ (safConfirm v s) := .ite (.raise (.busyUpdate (.saf h))) (.raise (.raiseFlag h))
theorem Leads.btGo {a} (h : Leads s₀ s) : Leads s₀ (btGo a s) := .ite (.raise (.saf (.wr h))) (.fset h)
theorem Leads.btClrFail {a} (h : Leads s₀ s) : Leads s₀ (btClrFail a s) := .when (fun h => .btUpdate (.setPass (.nv h))) h
theorem Leads.psPdu {n} (h : Leads s₀ s) : Leads s₀ (psPdu n s).2 := .setPs h
theorem Leads.psDiscard {n} (h : Leads s₀ s) : Leads s₀ (psDiscard n s) := .bump h
theorem Leads.psAccept {n q body} (h : Leads s₀ s) : Leads s₀ (psAccept n q body s) := .raiseFlag (.setPs h)

theorem Leads.psRun {n q ok} (h : Leads s₀ s) : Leads s₀ (psRun n q ok s) :=
  .setPs (.ite₂ (.pair (.fset (.ite₂ (.pair (.fset h)) h))) (.pair (.ite₂ (.pair (.fset h)) h)))

theorem Leads.psClose {n q} (h : Leads s₀ s) : Leads s₀ (psClose n q s) := .setPs h

theorem Leads.proofCopy {n port bytes} (h : Leads s₀ s) : Leads s₀ (proofCopy n port bytes s) := by
  unfold Machine.proofCopy
  dsimp only
  split
  · exact .ite (.psDiscard h) (.ite (.safeStop (.psClose h)) (.psRun (.when .psAccept (.psClose h))))
  · exact .ite (.psDiscard h) (.when .psAccept (.setPs h))

theorem Leads.selfTest {b code bad} (h : Leads s₀ s) : Leads s₀ (selfTest b code bad s) := .when (fun h1 => .safeStop (.saf h1)) (.saf h)
theorem Leads.safDoze (h : Leads s₀ s) : Leads s₀ (safDoze s) := .safOutputs (.raiseFlag h)
theorem Leads.safWake (h : Leads s₀ s) : Leads s₀ (safWake s) := .forN .setPs (.saf (.fset h))
theorem Leads.safLoaded (h : Leads s₀ s) : Leads s₀ (safLoaded s) := .setSaf (.btUpdate (.sigCalc h))

theorem Leads.safTakeover {r} (h : Leads s₀ s) : Leads s₀ (safTakeover r s) := by
  unfold Machine.safTakeover
  split
  · exact .safOutputs (.saf (.fset (.fset (.setSaf h))))
  · exact .safOutputs (.setSaf (.fset h))

/-! #### Device -/

theorem Leads.ownRefresh (h : Leads s₀ s) : Leads s₀ (ownRefresh s) := .edgRefresh (.holdMark (.fset h))
theorem Leads.ownDrive (h : Leads s₀ s) : Leads s₀ (ownDrive s) := .ownRefresh (.pins h)
theorem Leads.parRise {f k} (h : Leads s₀ s) : Leads s₀ (parRise f k s) := .unless (fun h => .raise (.raiseFlag h)) h
theorem Leads.parFollow {f k b} (h : Leads s₀ s) : Leads s₀ (parFollow f k b s) := .ite (.fset h) (.ite (.fset h) (.parRise h))

theorem Leads.roleFlags (h : Leads s₀ s) : Leads s₀ (roleFlags s) :=
  .unless (fun h => .when .parRise (.parFollow (.parFollow (.parFollow h)))) h

theorem Leads.setClaim {b} (h : Leads s₀ s) : Leads s₀ (setClaim b s) := .roleFlags (.ownDrive (.par h))
theorem Leads.toState {d} (h : Leads s₀ s) : Leads s₀ (toState d s) := .edgRefresh (.setDev h)
theorem Leads.enterReady (h : Leads s₀ s) : Leads s₀ (enterReady s) := .impStart (.toState h)
theorem Leads.enterStandby (h : Leads s₀ s) : Leads s₀ (enterStandby s) := .roleFlags (.par (.toState (.sys h)))

theorem Leads.leaveLoaded (h : Leads s₀ s) : Leads s₀ (leaveLoaded s) :=
  .ite (.enterReady h) (.unless (fun h => .ite (.enterStandby (.setClaim h)) (.when .setClaim (.holdFrom (.par h)))) h)

theorem Leads.reqReady (h : Leads s₀ s) : Leads s₀ (reqReady s) := .ite (.leaveLoaded h) (.ite (.toState h) (.refuseReq h))
theorem Leads.reqRun (h : Leads s₀ s) : Leads s₀ (reqRun s) := .ite (.sys h) (.refuseReq h)

theorem Leads.runBoundary (h : Leads s₀ s) : Leads s₀ (runBoundary s) :=
  .when (fun h => .via (fun h1 => .ite (.toState h1) (.refuseReq h1)) (.sys h)) h

theorem Leads.reqDoze (h : Leads s₀ s) : Leads s₀ (reqDoze s) := .ite (.sys h) (.refuseReq h)
theorem Leads.stopAck (h : Leads s₀ s) : Leads s₀ (stopAck s) := .ite (.toState h) (.refuseReq h)

theorem Leads.sysCtl {ifc v} (h : Leads s₀ s) : Leads s₀ (sysCtl ifc v s) := by
  unfold Machine.sysCtl
  exact .when .stopAck (by split; exacts [h, .reqReady h, .reqRun h, .reqDoze h, .hostDrop h])

theorem Leads.startPolicy (h : Leads s₀ s) : Leads s₀ (startPolicy s) := .when .leaveLoaded (.sys h)
theorem Leads.startRun (h : Leads s₀ s) : Leads s₀ (startRun s) := .when (fun h => .reqRun (.sys h)) h

/-! #### Paths -/

theorem Leads.pthLevel {g} (h : Leads s₀ s) : Leads s₀ (pthLevel g s) := .fset (.fset h)

theorem Leads.segStart {g} (h : Leads s₀ s) : Leads s₀ (segStart g s) := by
  unfold Machine.segStart
  split
  · exact h
  · exact .raise (.fset h)

theorem Leads.popPassed {g n : Nat} (h : Leads s₀ s) : Leads s₀ (popPassed g n s) := by
  induction n generalizing s with
  | zero => exact h
  | succ n ih =>
    unfold Machine.popPassed
    dsimp only
    split
    · exact h
    · exact .ite h (ih (.segStart (.pthLevel (.setPth h))))

theorem Leads.writeMembers {g} (h : Leads s₀ s) : Leads s₀ (writeMembers g s) := .forL .setPrf h

theorem Leads.pathEnd {g outcome} (h : Leads s₀ s) : Leads s₀ (pathEnd g outcome s) :=
  .raise (.pthIdle (.forL (fun h3 => .fset (.fset (.fset h3))) (.writeMembers h)))

theorem Leads.arcScan {g} (h : Leads s₀ s) : Leads s₀ (arcScan g s) := by
  unfold Machine.arcScan
  dsimp only
  exact .via (fun h1 => (by split; exacts [h1, .raise (.raiseFlag h1)])) (.pthLevel (.setPth h))

theorem Leads.starve {g last} (h : Leads s₀ s) : Leads s₀ (starve g last s) := by
  unfold Machine.starve
  split
  · exact .when (fun h => .raise (.raiseFlag h)) h
  · exact h

theorem Leads.pathStep {ns g} (h : Leads s₀ s) : Leads s₀ (pathStep ns g s) := by
  unfold Machine.pathStep
  exact .unless
    (fun h =>
      .via
        (fun h2 =>
          .via (fun h4 => .ite (.pathEnd h4) (.ite (.writeMembers (.fset h4)) (.ite (.pathEnd h4) (.ite (.pathEnd h4) (.writeMembers h4)))))
            (.fset
              (.ite (by split; exacts [h2, .ite (.segStart (.pthLevel (.setPth h2))) (.setPth h2)])
                (.ite (.when .starve (.popPassed (.setPth h2))) (.popPassed (.setPth h2))))))
        (.fset (.arcScan h)))
    h

theorem Leads.pthPush {ifc g} (h : Leads s₀ s) : Leads s₀ (pthPush ifc g s) :=
  .ite (.hostDrop (.raiseFlag h)) (.ite (.hostDrop h) (.pthLevel (.setPth h)))

theorem Leads.pthFlush {ifc g} (h : Leads s₀ s) : Leads s₀ (pthFlush ifc g s) := .ite (.pthLevel (.setPth h)) (.hostDrop h)

theorem Leads.pthLatch {g code skip} (h : Leads s₀ s) : Leads s₀ (pthLatch g code skip s) := by
  unfold Machine.pthLatch
  split
  · exact h
  · exact .setPth h

theorem Leads.pthCmd {g code} (h : Leads s₀ s) : Leads s₀ (pthCmd g code s) := .pthLatch h

/-! #### Profiles and axes -/

theorem Leads.motRec {m} (h : Leads s₀ s) : Leads s₀ (motRec m s).2 :=
  .readSram (.readSram (.readSram (.readSram (.readSram (.readSram h)))))

theorem Leads.planStop {m l} (h : Leads s₀ s) : Leads s₀ (planStop m l s) := .setPrf h

theorem Leads.planMove {m l} (h : Leads s₀ s) : Leads s₀ (planMove m l s) :=
  .when (fun h2 => .raise (.raiseFlag h2)) (.when .raiseFlag (.setPrf h))

theorem Leads.planJog {m l} (h : Leads s₀ s) : Leads s₀ (planJog m l s) := .setPrf h

theorem Leads.replan {m st l} (h : Leads s₀ s) : Leads s₀ (replan m st l s) :=
  .unless (fun h => .ite (.planMove h) (.ite (.planJog h) (.planStop h))) h

theorem Leads.prfAdvance {m st ns} (h : Leads s₀ s) : Leads s₀ (prfAdvance m st ns s) :=
  .ite (.prfEnd (.setPrf h)) (.via (fun h1 => .ite (.fset (.openVal h1)) (.fset h1)) (.setPrf h))

theorem Leads.prfEval {ns m} (h : Leads s₀ s) : Leads s₀ (prfEval ns m s) :=
  .unless (fun h2 => .ite (.prfAdvance (.replan h2)) (.fset (.openVal h2))) (.fset (.ite₂ h (.motRec h)))

theorem Leads.prfRes {m code res} (h : Leads s₀ s) : Leads s₀ (prfRes m code res s) := .when .raise (.fset h)

theorem Leads.prfAbort {ns m st} (h : Leads s₀ s) : Leads s₀ (prfAbort ns m st s) := by
  unfold Machine.prfAbort
  exact .via
    (fun h1 =>
      .ite (.prfRes h1)
        (.ite (.prfRes h1)
          (.ite (.prfRes h1) (.ite (by split; exacts [.prfRes (.fset (.fset h1)), .prfRes h1]) (.prfRes (.planStop (.fset h1)))))))
    (by split; exacts [.acdBreak h, h])

theorem Leads.prfStop {ns m st} (h : Leads s₀ s) : Leads s₀ (prfStop ns m st s) :=
  .ite (.prfRes h) (.ite (.prfRes h) (.ite (.prfRes (.planStop (.fset h))) (.ite (.prfRes h) (.prfRes h))))

theorem Leads.prfMove {m st code} (h : Leads s₀ s) : Leads s₀ (prfMove m st code s) :=
  .ite (.prfRes h) (.ite (.prfRes h) (.ite (.prfRes h) (.via (fun h1 => .ite (.planMove (.setPrf (.fset h1))) (.planJog (.setPrf (.fset
    h1)))) (.prfRes h))))

theorem Leads.prfJudge {ns m code} (h : Leads s₀ s) : Leads s₀ (prfJudge ns m code s) :=
  .ite (.prfRes h) (.ite (.prfAbort h) (.ite (.prfStop h) (.prfMove h)))

theorem Leads.prfAdmit {ns m} (h : Leads s₀ s) : Leads s₀ (prfAdmit ns m s) := by
  unfold Machine.prfAdmit
  split
  · exact h
  · exact .ite (.prfJudge (.setPrf h)) (.setPrf h)

theorem Leads.prfLatch {m code skip} (h : Leads s₀ s) : Leads s₀ (prfLatch m code skip s) := by
  unfold Machine.prfLatch
  exact .unless (fun h => (by split; exacts [.unless (fun h => .setPrf (.raiseFlag h)) h, .setPrf h])) h

theorem Leads.prfCmd {m code} (h : Leads s₀ s) : Leads s₀ (prfCmd m code s) := .prfLatch h
theorem Leads.camWord {k i} (h : Leads s₀ s) : Leads s₀ (camWord k i s).2 := .readSram h

theorem Leads.camEval {k cyclic clen x} (h : Leads s₀ s) : Leads s₀ (camEval k cyclic clen x s).2 :=
  .camWord (.camWord (.camWord (.camWord h)))

theorem Leads.master {ns a} (h : Leads s₀ s) : Leads s₀ (master ns a s).2 := .ite₂ h (.ite₂ (.pair (.motRec h)) h)
theorem Leads.lawOf {a m} (h : Leads s₀ s) : Leads s₀ (lawOf a m s).2 := .ite₂ h (.pair (.camEval h))
theorem Leads.planCatch {a c} (h : Leads s₀ s) : Leads s₀ (planCatch a c s) := .setAcd h

theorem Leads.catchStep {ns a} (h : Leads s₀ s) : Leads s₀ (catchStep ns a s) :=
  .unless (fun h => .via (fun h1 => .ite (.setAcd h1) (.setAcd h1)) (.unless .planCatch h)) h

theorem Leads.catchEnd {a mp} (h : Leads s₀ s) : Leads s₀ (catchEnd a mp s) :=
  .when (fun h => .when (fun h1 => .raise (.fset h1)) (.setAcd h)) h

theorem Leads.putLaw {a l} (h : Leads s₀ s) : Leads s₀ (putLaw a l s) := .fset (.fset h)

theorem Leads.overScan {a} (h : Leads s₀ s) : Leads s₀ (overScan a s) :=
  .setAcd (.when .raise (.when .raise (.when .raiseFlag (.when .raiseFlag h))))

theorem Leads.follow {a l} (h : Leads s₀ s) : Leads s₀ (follow a l s) := .overScan (.putLaw (.setPrf h))
theorem Leads.tandem {a} (h : Leads s₀ s) : Leads s₀ (tandem a s) := .writeSram (.readSram h)

theorem Leads.engage {a mk} (h : Leads s₀ s) : Leads s₀ (engage a mk s) :=
  .ite (.tandem (.raise (.setAcd (.fset h)))) (.follow (.catchEnd (.planCatch (.lawOf (.setAcd (.fset (.fset (.unless .prfEnd h))))))))

theorem Leads.acdOff {a} (h : Leads s₀ s) : Leads s₀ (acdOff a s) := .when (fun h1 => .when .prfEnd (.planStop (.fset h1))) (.fset h)

theorem Leads.reanchor {a mk l} (h : Leads s₀ s) : Leads s₀ (reanchor a mk l s).2 :=
  .ite₂ (.pair (.planCatch (.fset (.lawOf (.setAcd h))))) h

theorem Leads.acdEval {ns a} (h : Leads s₀ s) : Leads s₀ (acdEval ns a s) :=
  .unless (fun h => .via (fun h2 => .ite (.when .engage h2) (.ite (.when .prfAdvance (.acdOff h2)) (.ite (.tandem h2) (.catchEnd (.follow
    (.reanchor (.catchStep (.lawOf h2)))))))) (.setAcd (.fset (.master h)))) h

theorem Leads.acdEngage {a cfg} (h : Leads s₀ s) : Leads s₀ (acdEngage a cfg s) := .ite (.raiseFlag h) (.setAcd (.fset h))

theorem Leads.acdDisengage {a cfg} (h : Leads s₀ s) : Leads s₀ (acdDisengage a cfg s) :=
  .ite (.raiseFlag h) (.ite (.setAcd (.fset h)) (.acdOff h))

theorem Leads.acdAdmit {a} (h : Leads s₀ s) : Leads s₀ (acdAdmit a s) := by
  unfold Machine.acdAdmit
  split
  · exact h
  · exact .ite (.setAcd h) (.via (fun h1 => .ite (.acdEngage h1) (.acdDisengage h1)) (.setAcd h))

theorem Leads.acdLatch {a code skip} (h : Leads s₀ s) : Leads s₀ (acdLatch a code skip s) := .setAcd h
theorem Leads.acdCmd {a code} (h : Leads s₀ s) : Leads s₀ (acdCmd a code s) := .acdLatch h

theorem Leads.pthStart {g cfg} (h : Leads s₀ s) : Leads s₀ (pthStart g cfg s) :=
  .ite (.raiseFlag h) (.segStart (.forL .fset (.fset (.setPth h))))

theorem Leads.pthJudge {g code} (h : Leads s₀ s) : Leads s₀ (pthJudge g code s) :=
  .ite (.raiseFlag h) (.ite (.fset h) (.ite (.fset h) (.ite (.fset h) (.ite (.fset h) (.raiseFlag h)))))

theorem Leads.pthAdmit {g} (h : Leads s₀ s) : Leads s₀ (pthAdmit g s) := by
  unfold Machine.pthAdmit
  split
  · exact h
  · exact .ite (.setPth h) (.via (fun h1 => .ite (.pthStart h1) (.pthJudge h1)) (.setPth h))

theorem Leads.track {ns m} (h : Leads s₀ s) : Leads s₀ (track ns m s) := .unless (fun h => .setPrf (.motRec h)) h

theorem Leads.putBlock {m} (h : Leads s₀ s) : Leads s₀ (putBlock m s) :=
  .unless (fun h => .fset (.fset (.fset (.fset (.forL .writeSram h))))) h

theorem Leads.takeoverStop {m} (h : Leads s₀ s) : Leads s₀ (takeoverStop m s) :=
  .unless (fun h => .ite (.raiseFlag (.fset h)) (.raiseFlag (.fset (.planStop (.fset (.setPrf (.motRec h))))))) h

theorem Leads.afterRestore (h : Leads s₀ s) : Leads s₀ (afterRestore s) :=
  .forN (.unless .fset) (.forN (.unless .acdBreak) (.forN .takeoverStop (.mot h)))

theorem Leads.motionStep (h : Leads s₀ s) : Leads s₀ (motionStep s) :=
  .forN .putBlock (.when (fun h5 => .forN .acdEval (.forN .pathStep (.forN .prfEval h5))) (.forN .prfAdmit (.forN .pthAdmit (.forN
    .acdAdmit (.forN .setPrf (.unless (.forN .track) (.when .afterRestore h)))))))

/-! #### Rescue -/

theorem Leads.rescSet {m st zone} (h : Leads s₀ s) : Leads s₀ (rescSet m st zone s) := by
  unfold Machine.rescSet
  exact .via (fun h2 => (by split; exacts [.raise h2, .raise (.drawn h2)])) (.fset (.holdMark (.fset h)))

theorem Leads.rescBrake {m rel} (h : Leads s₀ s) : Leads s₀ (rescBrake m rel s) := .fsetBit h

theorem Leads.zonesOf {m n w : Nat} (h : Leads s₀ s) : Leads s₀ (zonesOf m n w s).2 := by
  induction n generalizing s w with
  | zero => exact h
  | succ n ih => exact ih (.readSram (.readSram h))

theorem Leads.rescEnergy {m load} (h : Leads s₀ s) : Leads s₀ (rescEnergy s m load).2 := .ite₂ (.pair (.openVal h)) h

theorem Leads.rescPlan {m hold noHold} (h : Leads s₀ s) : Leads s₀ (rescPlan m hold noHold s) := by
  unfold Machine.rescPlan
  dsimp only
  exact .via
    (fun h1 =>
      (by
        split
        · exact .rescSet (.rescBrake h1)
        · exact .via (fun h2 => .ite (.rescSet (.rescBrake h2)) (.rescSet (.par h2))) (.fset (.rescEnergy h1))))
    (.fset (.zonesOf h))

theorem Leads.rescApply {m} (h : Leads s₀ s) : Leads s₀ (rescApply m s) := .unless (fun h => .prfCmd (.fset (.fset (.fset (.par h))))) h
theorem Leads.rescBlind {m} (h : Leads s₀ s) : Leads s₀ (rescBlind m s) := .rescPlan h

theorem Leads.rescHold {m} (h : Leads s₀ s) : Leads s₀ (rescHold m s) :=
  .when .rescBlind (.unless .prfCmd (.rescSet (.rescBrake (.fset (.fset h)))))

theorem Leads.rescNext {n : Nat} (h : Leads s₀ s) : Leads s₀ (rescNext n s) := by
  induction n generalizing s with
  | zero => exact h
  | succ n ih =>
    unfold Machine.rescNext
    dsimp only
    split
    · exact h
    · exact .when (fun h => ih (.rescHold (.par h))) h

theorem Leads.rescTrigger (h : Leads s₀ s) : Leads s₀ (rescTrigger s) :=
  .ite (.wakeEvent (.par h)) (.ite (.rescNext (.when .reqRun (.par h))) (.forL .rescSet h))

theorem Leads.rescEnd {m} (h : Leads s₀ s) : Leads s₀ (rescEnd m s) :=
  .when (fun h => .ite (.rescSet (.fset (.rescBrake h))) (.rescSet h)) h

theorem Leads.rescScan (h : Leads s₀ s) : Leads s₀ (rescScan s) := .rescNext (.forN .rescEnd h)
theorem Leads.holdScan1 (h : Leads s₀ s) : Leads s₀ (holdScan1 s) := .forN (.when .par) h

theorem Leads.rescAbort {m} (h : Leads s₀ s) : Leads s₀ (rescAbort m s) :=
  .unless (fun h => .ite (.prfCmd (.par h)) (.rescSet (.prfCmd (.par h)))) h

/-! #### Tracks -/

theorem Leads.trkWord {i} (h : Leads s₀ s) : Leads s₀ (trkWord i s).2 := .readSram h

theorem Leads.readRec {k m} (h : Leads s₀ s) : Leads s₀ (readRec k m s).2 := by
  unfold Machine.readRec
  extract_lets base r0 r1 r2 r8 r9 r14 r15
  have h2 : Leads s₀ r2.2 := .trkWord (.trkWord (.trkWord h))
  have h15 : Leads s₀ r15.2 := .trkWord (.trkWord (.trkWord (.trkWord h2)))
  exact h15

theorem Leads.readRecs {k} {ms : List Nat} (h : Leads s₀ s) : Leads s₀ (readRecs k ms s).2 := by
  induction ms generalizing s with
  | nil => exact h
  | cons m ms ih => exact ih (.readRec h)

theorem Leads.putSeg {k j n sv} (h : Leads s₀ s) : Leads s₀ (putSeg k j n sv s) := .unless .raise (.wr (.trk h))

theorem Leads.faultScan {k} (h : Leads s₀ s) : Leads s₀ (faultScan k s) :=
  .forN (fun h2 => .unless (fun h3 => .ite (.fsetBit (.trk h3)) (.fsetBit (.trk h3))) (.when (fun h2 => .ite (.fsetBit h2) (.fsetBit h2))
    h2)) (.trk h)

theorem Leads.closeScan {k rs} (h : Leads s₀ s) : Leads s₀ (closeScan k rs s) := by
  unfold Machine.closeScan
  split
  · exact .fset (.fset (.openVal h))
  · exact .when (fun h1 => .raise (.raiseFlag h1)) (.fset (.fset h))

theorem Leads.moverScan {k rs r} (h : Leads s₀ s) : Leads s₀ (moverScan k rs r s) :=
  .trk (.when .raise (.when .raiseFlag (.when .raise (.when .raiseFlag (.when (fun h => .raise (.raiseFlag h)) h)))))

theorem Leads.evalTrack {k} (h : Leads s₀ s) : Leads s₀ (evalTrack k s) :=
  .when (fun h => .closeScan (.forL .moverScan (.fset (.forL (.forL .writeSram) (.forL .putSeg (.faultScan (.readRecs h))))))) h

theorem Leads.hallFaultClear {k hi v} (h : Leads s₀ s) : Leads s₀ (hallFaultClear k hi v s) := .trk h
theorem Leads.moverRequest {m n} (h : Leads s₀ s) : Leads s₀ (moverRequest m n s) := .unless .raise h
theorem Leads.trackToEdge (h : Leads s₀ s) : Leads s₀ (trackToEdge s) := .segOut h
theorem Leads.mirrorGain {m i} (h : Leads s₀ s) : Leads s₀ (mirrorGain m i s) := .unless .writeSram h
theorem Leads.mirrorAll {m} (h : Leads s₀ s) : Leads s₀ (mirrorAll m s) := .unless (.forN .writeSram) (.forN .mirrorGain h)

theorem Leads.mirrorFlags {m pulse released idle} (h : Leads s₀ s) : Leads s₀ (mirrorFlags m pulse released idle s) :=
  .unless (fun h => .writeSram (.writeSram h)) h

/-! #### The pair -/

theorem Leads.modPar {f} (h : Leads s₀ s) : Leads s₀ (modPar f s) := .par h
theorem Leads.feedClass {f c} (h : Leads s₀ s) : Leads s₀ (feedClass f c s) := .unless (fun h => .raise (.fset h)) h

theorem Leads.feedMeasure {f v} (h : Leads s₀ s) : Leads s₀ (feedMeasure f v s) :=
  .unless (fun h => .when .fset (.when .feedClass (.holdMark (.holdMark (.holdMark (.holdMark (.fset h))))))) h

theorem Leads.orJudge {v} (h : Leads s₀ s) : Leads s₀ (orJudge v s) :=
  .via (fun h1 => .ite (.via (fun h2 => .ite (.bump h2) (.raise h2)) (.raiseFlag (.modPar h1))) (.when .modPar h1)) (.fset h)

theorem Leads.feedScan (h : Leads s₀ s) : Leads s₀ (feedScan s) := .holdMark (.battScan h)
theorem Leads.putWords {l m} (h : Leads s₀ s) : Leads s₀ (putWords l m s) := .forL .wr h
theorem Leads.flushSkip (h : Leads s₀ s) : Leads s₀ (flushSkip s) := .raise (.drawn (.bump h))
theorem Leads.flushStart (h : Leads s₀ s) : Leads s₀ (flushStart s) := .forL .poisonedRead (.modPar h)
theorem Leads.flushTurn {k} (h : Leads s₀ s) : Leads s₀ (flushTurn k s) := .when .rom h

theorem Leads.flushEnd (h : Leads s₀ s) : Leads s₀ (flushEnd s) := by
  unfold Machine.flushEnd
  split
  · exact .flushTurn (.raise (.rom (.modPar h)))
  · exact h

theorem Leads.flushCut (h : Leads s₀ s) : Leads s₀ (flushCut s) := by
  unfold Machine.flushCut
  split
  · exact .flushTurn (.rom h)
  · exact h

theorem Leads.flushLoad (h : Leads s₀ s) : Leads s₀ (flushLoad s) := by
  unfold Machine.flushLoad
  split
  · exact .raiseFlag (.writeMemBytes h)
  · exact .fset h

theorem Leads.askedScan (h : Leads s₀ s) : Leads s₀ (askedScan s) := .when .modPar h
theorem Leads.withdraw {hold} (h : Leads s₀ s) : Leads s₀ (withdraw hold s) := .when .raiseFlag (.enterStandby (.setClaim h))
theorem Leads.parRelease {ifc} (h : Leads s₀ s) : Leads s₀ (parRelease ifc s) := .ite (.holdFrom (.modPar h)) (.hostDrop (.refuseReq h))

theorem Leads.counterOffsets {e} (h : Leads s₀ s) : Leads s₀ (counterOffsets e s) := by
  unfold Machine.counterOffsets
  exact .unless (fun h => (by split; exacts [.raiseFlag h, .modPar h])) h

theorem Leads.takebackLapse (h : Leads s₀ s) : Leads s₀ (takebackLapse s) := .when (fun h => .modPar (.out h)) h
theorem Leads.handbackValid {gen} (h : Leads s₀ s) : Leads s₀ (handbackValid gen s) := .ite (.takebackLapse h) (.out h)

theorem Leads.takeover {reason} (h : Leads s₀ s) : Leads s₀ (takeover reason s) := by
  unfold Machine.takeover
  dsimp only
  exact .via (fun h2 => (by split; exacts [.raise h2, .raise (.drawn h2)])) (.roleFlags (.toState (.setClaim (.fset (.modPar h)))))

theorem Leads.judge {reason} (h : Leads s₀ s) : Leads s₀ (judge reason s) :=
  .unless (fun h => .ite (.roleFlags h) (.ite (.parRise h) (.takeover h))) h

theorem Leads.ownSeen (h : Leads s₀ s) : Leads s₀ (ownSeen s) := .when (fun h1 => .enterStandby (.setClaim h1)) (.roleFlags (.fset h))

theorem Leads.mapPut {i j v} (h : Leads s₀ s) : Leads s₀ (mapPut i j v s) := by
  unfold Machine.mapPut
  split
  · exact .modPlt h
  · exact .modPlt h
  · exact .writeSram h

theorem Leads.restoreEss {e} (h : Leads s₀ s) : Leads s₀ (restoreEss e s) := by
  unfold Machine.restoreEss
  exact .forL (.forL .mapPut)
    (.forN .setLay
      (.putWords
        (.net
          (.forL (fun h9 => .via (fun h10 => .fset (.fset (by split; exacts [.when .setHall h10, h10]))) (.setSrc h9))
            (.forN .setMm (.putWords (.mot h)))))))

/-! #### Quoins -/

theorem Leads.setTabWord {m i w} (h : Leads s₀ s) : Leads s₀ (setTabWord m i w s) := .setMm h

theorem Leads.quoReport {ifc k a lsb given applied} (h : Leads s₀ s) : Leads s₀ (quoReport ifc k a lsb given applied s) :=
  .ite (.quo h) (.bump h)

theorem Leads.stageOpen {x} (h : Leads s₀ s) : Leads s₀ (stageOpen x s) := .ite (.quo h) (.ite (.quo h) (.quo h))
theorem Leads.stageImplicit {ifc x} (h : Leads s₀ s) : Leads s₀ (stageImplicit ifc x s) := .quo h
theorem Leads.stagePut {ifc x} (h : Leads s₀ s) : Leads s₀ (stagePut ifc x s) := .ite (.stageOpen h) (.stageImplicit h)
theorem Leads.implicitFix {ifc x} (h : Leads s₀ s) : Leads s₀ (implicitFix ifc x s) := .ite (.quo h) (.stageImplicit h)

theorem Leads.stageFix {ifc x given k} (h : Leads s₀ s) : Leads s₀ (stageFix ifc x given k s) :=
  .quoReport (.ite (.stageOpen h) (.implicitFix h))

theorem Leads.swapMark {xs} (h : Leads s₀ s) : Leads s₀ (swapMark xs s) := .forN (.when .modPlt) h

theorem Leads.stageWord {ifc a v} (h : Leads s₀ s) : Leads s₀ (stageWord ifc a v s) :=
  .ite (.quo h) (.unless .swapMark (.forL (.unless .stageFix) (.when (.forL (.unless .quoReport)) (.forL (fun h7 => .ite (.stageFix h7)
    (.when .quoReport h7)) (.forL .stagePut h)))))

theorem Leads.qsWrite {ifc a v} (h : Leads s₀ s) : Leads s₀ (qsWrite ifc a v s) := by
  unfold Machine.qsWrite
  split
  · exact .ite (.stageWord h) (.hostDrop h)
  · exact .stageWord h

theorem Leads.quoClose (h : Leads s₀ s) : Leads s₀ (quoClose s) := .quo h
theorem Leads.quoOpen {ifc} (h : Leads s₀ s) : Leads s₀ (quoOpen ifc s) := .fset (.quo h)

theorem Leads.quoBegin {ifc} (h : Leads s₀ s) : Leads s₀ (quoBegin ifc s) := by
  unfold Machine.quoBegin
  split
  · exact .ite (.raiseFlag h) (.ite (.hostDrop (.quoOpen h)) (.hostDrop h))
  · exact .ite (.quoOpen h) (.raiseFlag h)

theorem Leads.queues {q : List MmEvent} {g : List (Nat × Nat)} {o : List Out} (h : Leads s₀ s) :
    Leads s₀ { s with mmq := q, trigq := g, out := o } := .put h ⟨rfl, rfl, rfl, rfl, id, id, le_rfl⟩

theorem Leads.timedUndo {x} (h : Leads s₀ s) : Leads s₀ (timedUndo x s) :=
  .wr (.queues (.ite (.evt h id ((List.length_filter_le _ _).trans)) (.wr (.evt h id id))))

theorem Leads.quoUntime {ifc} (h : Leads s₀ s) : Leads s₀ (quoUntime ifc s) := by
  unfold Machine.quoUntime
  split
  · exact .when (fun h => .fset (.timedUndo (.quo h))) h
  · exact h

theorem Leads.quoCommit {ifc} (h : Leads s₀ s) : Leads s₀ (quoCommit ifc s) := by
  unfold Machine.quoCommit
  dsimp only
  exact .via (fun h1 => (by split; exacts [.ite (.hostDrop h1) (.ite (.raise (.quoClose (.fset h1))) (.swapMark (.quo h1))), .hostDrop h1]))
    (.quoUntime h)

theorem Leads.quoRollback {ifc} (h : Leads s₀ s) : Leads s₀ (quoRollback ifc s) := by
  unfold Machine.quoRollback
  split
  · exact .ite (.hostDrop h) (.quoClose h)
  · exact .hostDrop h

theorem Leads.quoCtl {ifc v} (h : Leads s₀ s) : Leads s₀ (quoCtl ifc v s) := by
  unfold Machine.quoCtl
  split
  · exact .quoBegin h
  · exact .quoCommit h
  · exact .quoRollback h
  · exact (by split; exacts [.when .hostDrop h, h])
  · exact .hostDrop h

theorem Leads.quoTimeout (h : Leads s₀ s) : Leads s₀ (quoTimeout s) := by
  unfold Machine.quoTimeout
  split
  · exact .when (fun h => .quo (.raise (.quoClose (.raiseFlag h)))) h
  · exact h

theorem Leads.bankSwap {n} (h : Leads s₀ s) : Leads s₀ (bankSwap n s) := .modPlt h
theorem Leads.applyField {x} (h : Leads s₀ s) : Leads s₀ (applyField x s) := .ite (.setTabWord h) (.unless .wr h)
theorem Leads.forceScan (h : Leads s₀ s) : Leads s₀ (forceScan s) := .when (fun h => .unless .setMm (.fset h)) h

theorem Leads.applyImplicit {e} (h : Leads s₀ s) : Leads s₀ (applyImplicit e s) := by
  unfold Machine.applyImplicit
  dsimp only
  split
  · exact .via (fun h1 => .ite (.hostDrop h1) (.unless (fun h1 => .ite (.raiseFlag h1) (.bankSwap h1)) h1)) (.when .modPlt h)
  · exact .ite (.forceScan (.applyField h)) (.hostDrop h)

theorem Leads.applyCommit {ifc} (h : Leads s₀ s) : Leads s₀ (applyCommit ifc s) := by
  unfold Machine.applyCommit
  dsimp only
  exact .via
    (fun h2 =>
      (by
        split
        · exact .raise (.fset (.forL .raiseFlag h2))
        · exact .raise (.fset (.fset (.fset (.forL .bankSwap (.forceScan (.forL .applyField h2))))))))
    (.quo (.forL .modPlt h))

theorem Leads.initScan (h : Leads s₀ s) : Leads s₀ (initScan s) := .forN (.when .setMm) h

theorem Leads.applyEdge {o} (h : Leads s₀ s) : Leads s₀ (applyEdge o s) :=
  .forN (fun h2 => .unless .fset (.when (fun h2 => .fset (.aux h2)) h2)) (.forN (.unless .fsetBit) (.forN (.when .restartChan) h))

theorem Leads.applyWdt {o} (h : Leads s₀ s) : Leads s₀ (applyWdt o s) := .when .wdtRestart h

theorem Leads.applyInputs {o} (h : Leads s₀ s) : Leads s₀ (applyInputs o s) :=
  .forL (.when (fun h3 => .when (fun h4 => .modSrc (.reReference h4)) (.fset h3))) (.forN (.when .hallConfig) (.settleChanged h))

theorem Leads.applyMirrors {xs} (h : Leads s₀ s) : Leads s₀ (applyMirrors xs s) := by
  unfold Machine.applyMirrors
  exact .forN (fun h2 => .mirrorFlags (.fset h2)) (.forL (fun h4 => (by split; exacts [.when .mirrorGain h4, h4])) h)

theorem Leads.quoApply (h : Leads s₀ s) : Leads s₀ (quoApply s) := by
  unfold Machine.quoApply
  exact .via
    (fun h3 =>
      .applyMirrors
        (.applyWdt (.applyInputs (.applyEdge (.initScan (.swapMark (.forL .applyImplicit (by split; exacts [.when .applyCommit h3, h3]))))))))
    (.forL .applyImplicit (.quo h))

/-! #### Banks -/

theorem Leads.maskLatch {n} (h : Leads s₀ s) : Leads s₀ (maskLatch n s) := .modPlt h
theorem Leads.descPut {n d ws} (h : Leads s₀ s) : Leads s₀ (descPut n d ws s) := .forL .modPlt h

theorem Leads.latchWords {d} (h : Leads s₀ s) : Leads s₀ (Machine.latchWords d s).2 := by
  unfold Machine.latchWords
  dsimp only
  split
  · exact .foldl₂ (α := Nat) (β := List Nat) (f := fun r i => (r.1 ++ [_], r.2)) (p := ([], s)) (fun h => h) h
  · exact .foldl₂ (α := Nat) (β := List Nat) (p := ([], s)) .readSram h
  · exact .foldl₂ (α := Nat) (β := List Nat) (p := ([], s)) .readSram h
  · exact .foldl₂ (α := Nat) (β := List Nat) (p := ([], s)) .readSram h
  · exact h
  · exact h

theorem Leads.latchDesc {n i} (h : Leads s₀ s) : Leads s₀ (latchDesc n i s) := .when (fun h => .descPut (.latchWords h)) h
theorem Leads.inputLatch {n} (h : Leads s₀ s) : Leads s₀ (inputLatch n s) := .forN .latchDesc (.modPlt h)
theorem Leads.pubWords {n d errs} (h : Leads s₀ s) : Leads s₀ (pubWords n d errs s).2 := .via (fun h1 => .ite₂ h1 h1) (.forN .pltEcc h)

theorem Leads.pubDesc {n errs i} (h : Leads s₀ s) : Leads s₀ (pubDesc n errs i s) := by
  unfold Machine.pubDesc
  dsimp only
  exact .unless
    (fun h =>
      .ite (by split; exacts [.forL .writeSram (.pubWords h), .pubWords h])
        (.when (fun h => .ite (.raiseFlag h) (by split; exacts [.ite (.modCh (.pubWords h) rfl) (.pubWords h), .pubWords h])) h))
    h

theorem Leads.pubEnd {n ats} (h : Leads s₀ s) : Leads s₀ (pubEnd n ats s) :=
  .forN (.unless (fun h1 => .via (fun h2 => .ite (.setComplete h2) (.raiseFlag h2)) (.modCh h1 rfl))) h

theorem Leads.scrub32 {n errs} (h : Leads s₀ s) : Leads s₀ (scrub32 n errs s) := by
  unfold Machine.scrub32
  exact .modPlt (.forN .pltEcc h)

theorem Leads.gapEnd {errs} (h : Leads s₀ s) : Leads s₀ (gapEnd errs s) := .forN (.when .scrub32) h
theorem Leads.publish {n ats errs} (h : Leads s₀ s) : Leads s₀ (publish n ats errs s) := .modPlt (.pubEnd (.forN .pubDesc h))
theorem Leads.stgSet {n f} (h : Leads s₀ s) : Leads s₀ (stgSet n f s) := .modPlt h

theorem Leads.stgWrite {ifc n a off v} (h : Leads s₀ s) : Leads s₀ (stgWrite ifc n a off v s) :=
  .ite (.hostDrop h) (.ite (.stgSet h) (.ite (.stgSet h) (.ite (.stgSet h) (.ite (.stgSet h) (.stgSet h)))))

/-! #### Scheduled actions -/

theorem Leads.setSch {i x} (h : Leads s₀ s) : Leads s₀ (setSch i x s) := .mot h
theorem Leads.schCount (h : Leads s₀ s) : Leads s₀ (schCount s) := .fset h

theorem Leads.schAct {i x} (h : Leads s₀ s) : Leads s₀ (schAct i x s) := by
  unfold Machine.schAct
  split
  · exact .prfLatch h
  · exact .fset h
  · exact .when .fioSet h
  · exact .when .recArm h
  · exact .acdLatch h
  · exact .pthLatch h
  · exact .raise h
  · exact h

theorem Leads.schNext {n i st} (h : Leads s₀ s) : Leads s₀ (schNext n i st s) := .ite (.fset (.setSch h)) (.bump (.setSch h))

theorem Leads.schFire {n i late} (h : Leads s₀ s) : Leads s₀ (schFire n i late s) :=
  .schNext (.schAct (.when (fun h3 => .raise (.bump h3)) (.trigNote (.fset (.bump (.fset h))))))

theorem Leads.schExpire {n i late} (h : Leads s₀ s) : Leads s₀ (schExpire n i late s) := .schNext (.raise (.bump h))

theorem Leads.schCheck {n i} (h : Leads s₀ s) : Leads s₀ (schCheck n i s) :=
  .unless (fun h => .ite (.schFire h) (.unless (fun h => .ite (.schFire h) (.ite (.schFire h) (.schExpire h))) h)) h

theorem Leads.schProcess {n i c} (h : Leads s₀ s) : Leads s₀ (schProcess n i c s) := by
  unfold Machine.schProcess
  split
  · exact .when .fset h
  · exact .via (fun h1 => .ite (.fset h1) (.when .schExpire (.fset h1))) (.fset (.fset (.setSch h)))

theorem Leads.schAdmit {n i} (h : Leads s₀ s) : Leads s₀ (schAdmit n i s) := .forL .schProcess (.setSch h)
theorem Leads.schBoundary (h : Leads s₀ s) : Leads s₀ (schBoundary s) := .schCount (.forN .schCheck (.forN .schAdmit h))
theorem Leads.schCtl {i v} (h : Leads s₀ s) : Leads s₀ (schCtl i v s) := .when .setSch (.when .setSch h)

/-! #### Boundaries -/

theorem Leads.mmStep {evs m} (h : Leads s₀ s) : Leads s₀ (mmStep evs m s) := by
  unfold Machine.mmStep
  dsimp only
  exact .ite (.setMm h) (by split; exacts [.setMm h, .bump (.setMm h)])

theorem Leads.mmStepAll (h : Leads s₀ s) : Leads s₀ (mmStepAll s) := .forN .mmStep (.mmq h)
theorem Leads.mmErr {e} (h : Leads s₀ s) : Leads s₀ (mmErr e s) := .when .setMm (.localErr h)
theorem Leads.quoErr {e} (h : Leads s₀ s) : Leads s₀ (quoErr e s) := .when .quo (.localErr h)
theorem Leads.impOpen (h : Leads s₀ s) : Leads s₀ (impOpen s) := .holdFrom (.lockAdjust (.sys h))

theorem Leads.pageLatch {bits} (h : Leads s₀ s) : Leads s₀ (pageLatch bits s) :=
  .ite (.forL .latchSource (.forN .latchAin (.forN .latchChannel h))) (.page h)

theorem Leads.firstLock (h : Leads s₀ s) : Leads s₀ (firstLock s) := .when (.forN (.when (fun h1 => .modCh h1 rfl))) h
theorem Leads.platensStart {bits} (h : Leads s₀ s) : Leads s₀ (platensStart bits s) := .forL .inputLatch (.pageLatch (.forL .maskLatch h))
theorem Leads.servoStep (h : Leads s₀ s) : Leads s₀ (servoStep s) := .forN .rescApply (.when (fun h => .rescScan (.motionStep h)) h)

theorem Leads.impBoundary {bits scrub} (h : Leads s₀ s) : Leads s₀ (impBoundary bits scrub s) :=
  .edgRefresh (.firstLock (.askedScan (.when .flushStart (.holdScan1 (.servoStep (.holdMark (.platensStart (.trackToEdge (.mmStepAll
    (.schBoundary (.quoApply (.runBoundary (.impOpen (.gapEnd h))))))))))))))

/-! #### CAN -/

theorem Leads.setCan {k x} (h : Leads s₀ s) : Leads s₀ (setCan k x s) := .can h

theorem Leads.mbFail {k b cause} (h : Leads s₀ s) : Leads s₀ (mbFail k b cause s) :=
  .when .raise (.setCan (.fsetBit (.fsetBit (.fset (.fset h)))))

theorem Leads.mbFailAll {k cause} (h : Leads s₀ s) : Leads s₀ (mbFailAll k cause s) := .forN (.when .mbFail) h

theorem Leads.mbRequest {k b} (h : Leads s₀ s) : Leads s₀ (mbRequest k b s) :=
  .unless (fun h => .via (fun h2 => .ite (.mbFail h2) (.ite (.mbFail h2) (.ite (.mbFail h2) (.setCan h2)))) (.fsetBit (.wr h))) h

theorem Leads.mbCancel {k b tx} (h : Leads s₀ s) : Leads s₀ (mbCancel k b tx s) := .unless (fun h => .ite (.setCan h) (.mbFail h)) h

theorem Leads.mbMask {f ifc a k v} (hf : ∀ {a0 a1 t}, Leads s₀ t → Leads s₀ (f a0 a1 t)) (h :
    Leads s₀ s) : Leads s₀ (mbMask f ifc a k v s) :=
  .ite (.hostDrop h) (.forL hf h)

theorem Leads.mbAttempt {k b} (h : Leads s₀ s) : Leads s₀ (mbAttempt k b s) := .bump h

theorem Leads.mbMiss {k b cause} (h : Leads s₀ s) : Leads s₀ (mbMiss k b cause s) :=
  .via (fun h1 => .ite (.mbFail h1) (.when .mbFail h1)) (.mbAttempt h)

theorem Leads.mbLoad {k b pay} (h : Leads s₀ s) : Leads s₀ (mbLoad k b pay s) := .mbRequest (.fset (.forN .fset h))
theorem Leads.setEstate {k n} (h : Leads s₀ s) : Leads s₀ (setEstate k n s) := .unless (fun h => .raise (.fset h)) h
theorem Leads.busOff {k} (h : Leads s₀ s) : Leads s₀ (busOff k s) := .raise (.mbFailAll (.raiseFlag (.setEstate h)))

theorem Leads.setCounts {k tec rcv} (h : Leads s₀ s) : Leads s₀ (setCounts k tec rcv s) :=
  .via (fun h1 => .ite (.busOff h1) (.setEstate h1)) (.fset (.fset h))

theorem Leads.setQueue {k q l} (h : Leads s₀ s) : Leads s₀ (setQueue k q l s) := .fset (.setCan h)
theorem Leads.windowClear {k q} (h : Leads s₀ s) : Leads s₀ (windowClear k q s) := .forN .wr (.fset (.wr (.wr (.wr h))))

theorem Leads.windowFill {k q} (h : Leads s₀ s) : Leads s₀ (windowFill k q s) := by
  unfold Machine.windowFill
  split
  · exact h
  · exact .fset (.forN .wr (.wr (.wr (.fset (.fset h)))))

theorem Leads.queuePut {k q e} (h : Leads s₀ s) : Leads s₀ (queuePut k q e s) :=
  .ite (.when .raise (.raiseFlag (.bump h))) (.when .windowFill (.setQueue h))

theorem Leads.nodeWatch {k x} (h : Leads s₀ s) : Leads s₀ (nodeWatch k x s) := .forN (.when .ctxValid) h

theorem Leads.canDeliver {k st x} (h : Leads s₀ s) : Leads s₀ (canDeliver k st x s) := by
  unfold Machine.canDeliver
  dsimp only
  exact .via (fun h1 => (by split; exacts [.bump h1, (by split; exacts [.ite (.layAccept h1) (.layDiscard h1), .queuePut h1])]))
    (.nodeWatch h)

theorem Leads.canStart (h : Leads s₀ s) : Leads s₀ (canStart s) := .forN (fun h1 => .raiseFlag (.setCan h1)) h
theorem Leads.canInitSet {k} (h : Leads s₀ s) : Leads s₀ (canInitSet k s) := .when .setEstate (.unless .raiseFlag h)
theorem Leads.canInitClear {k} (h : Leads s₀ s) : Leads s₀ (canInitClear k s) := .unless (fun h => .setCan (.when .raiseFlag (.fset h))) h

theorem Leads.mbErr {k b err} (h : Leads s₀ s) : Leads s₀ (mbErr k b err s) := by
  unfold Machine.mbErr
  split
  · exact h
  · exact .when (fun h1 => .forN .wr (.wr (.wr h1))) (.localErr h)

theorem Leads.canError {k tx sof e} (h : Leads s₀ s) : Leads s₀ (canError k tx sof e s) := by
  unfold Machine.canError
  exact .via (fun h2 => .ite (.setCounts (by split; exacts [.unless .mbMiss h2, h2])) (.setCounts h2)) (.when .fset (.fset h))

theorem Leads.canRecover {ifc k} (h : Leads s₀ s) : Leads s₀ (canRecover ifc k s) := .ite (.setEstate (.fset h)) (.hostDrop h)
theorem Leads.queuePop {k q} (h : Leads s₀ s) : Leads s₀ (queuePop k q s) := .when (fun h => .windowClear (.setQueue h)) h
theorem Leads.queueFlush {k q} (h : Leads s₀ s) : Leads s₀ (queueFlush k q s) := .windowClear (.setQueue h)
theorem Leads.canDoze (h : Leads s₀ s) : Leads s₀ (canDoze s) := .forN .setCan h
theorem Leads.canWake (h : Leads s₀ s) : Leads s₀ (canWake s) := .forN .raiseFlag h

/-! #### Event log -/

theorem Leads.evtSummarize (h : Leads s₀ s) (hl : s.evt.log.length ≠ 1024) : Leads s₀ (evtSummarize s) :=
  .evtFlush (.trigEvent (.put h ⟨rfl, rfl, rfl, rfl, fun hs => by rw [List.length_append, List.length_singleton]; omega, id, le_rfl⟩))

theorem Leads.evtWrite (h : Leads s₀ s) : Leads s₀ (Machine.evtWrite s) := by
  unfold Machine.evtWrite
  split_ifs with hf ho
  · exact .evtFlush h
  · exact .evtSummarize h (fun hl => hf (.inr hl))
  · split
    · exact h
    · next e r he =>
      refine .evtFlush (.evt h (fun hs => ?_) (fun hs => ?_))
      · rw [List.length_append, List.length_singleton]
        omega
      · rw [he, List.length_cons] at hs
        exact Nat.le_of_succ_le hs

theorem Leads.evtPop {n} (h : Leads s₀ s) : Leads s₀ (evtPop n s) := by
  have h1 : Leads s₀ { s with evt := { s.evt with log := s.evt.log.drop n } } :=
    .evt h (fun hs => by rw [List.length_drop]; omega) id
  unfold Machine.evtPop
  dsimp only
  split_ifs with hc
  · simp only [Bool.and_eq_true, decide_eq_true_eq] at hc
    exact .evtSummarize h1 (ne_of_lt hc.1.2)
  · exact h1

theorem Leads.evtClear (h : Leads s₀ s) : Leads s₀ (evtClear s) := .forN .fset (.evt h (fun _ => Nat.zero_le _) (fun _ => Nat.zero_le _))
theorem Leads.evtCtl {v} (h : Leads s₀ s) : Leads s₀ (evtCtl v s) := .ite (.evtClear h) (.evtPop h)

theorem Leads.setCap {ifc a v} (h : Leads s₀ s) : Leads s₀ (setCap ifc a v s) := by
  unfold Machine.setCap
  split
  · exact .capPcie h
  · exact .capQspi h

theorem Leads.evtCapture {ifc} (h : Leads s₀ s) : Leads s₀ (evtCapture ifc s).2 := .forN .setCap h

theorem Leads.evtErr {e} (h : Leads s₀ s) : Leads s₀ (evtErr e s) :=
  .ite (.evt (.localErr h) (fun hs => by rw [List.length_mapIdx]; exact hs) id) (.localErr h)

theorem Leads.sendRd {ifc a bs} (h : Leads s₀ s) : Leads s₀ (sendRd ifc a bs s) := .out h

theorem Leads.scrubBlock {r found} (h : Leads s₀ s) : Leads s₀ (scrubBlock r found s) :=
  .via (fun h1 => .when (fun h2 => .raise (.raiseFlag (.fset h2))) (.ite (.tst h1) (.tst h1))) (.ite (.correctedRead h) (.when (fun h =>
    .poisonedRead (.setPoison h)) h))

/-! #### Galley image -/

theorem Leads.unstage (h : Leads s₀ s) : Leads s₀ (unstage s) := .forget h

/-! #### Galley sections -/

theorem Leads.rep {kind ty inst loc given applied bit} (h : Leads s₀ s) : Leads s₀ (rep kind ty inst loc given applied bit s) := by
  unfold Machine.rep
  exact .via (fun h2 => .ite (.fset (.gly h2)) (.bump h2)) (.when .raiseFlag (by split; exacts [.raiseFlag h, h]))

theorem Leads.repCorr {k ty inst loc given applied bit} (h : Leads s₀ s) : Leads s₀ (repCorr k ty inst loc given applied bit s) :=
  .unless .rep h

theorem Leads.repSize {ty inst b need} (h : Leads s₀ s) : Leads s₀ (repSize ty inst b need s) := .unless .rep h
theorem Leads.repZero {ty inst b o n} (h : Leads s₀ s) : Leads s₀ (repZero ty inst b o n s) := .unless .rep h
theorem Leads.fitTo {ty inst loc bit lo hi v} (h : Leads s₀ s) : Leads s₀ (fitTo ty inst loc bit lo hi v s).2 := .repCorr h
theorem Leads.galPut {a m v} (h : Leads s₀ s) : Leads s₀ (galPut a m v s) := .wr (.galley h)
theorem Leads.galSet {f v i j k} (h : Leads s₀ s) : Leads s₀ (galSet f v i j k s) := .galPut h
theorem Leads.modGly {n f} (h : Leads s₀ s) : Leads s₀ (modGly n f s) := .gly h

theorem Leads.galWord {a m v} (h : Leads s₀ s) : Leads s₀ (galWord a m v s) := by
  unfold Machine.galWord
  exact .ite (.setTabWord h) (by split; exacts [.modGly h, .modGly h, .modGly h, .modGly h, .galPut h])

theorem Leads.galEntry {saf ty inst a v} (h : Leads s₀ s) : Leads s₀ (galEntry saf ty inst a v s) :=
  .forL (.unless (fun h3 => .galWord (.repCorr h3))) (.forL (.unless .rep) (.forL (.when .rep) h))

theorem Leads.galDefaults (h : Leads s₀ s) : Leads s₀ (galDefaults s) := .forL (.forL .galPut) h
theorem Leads.headCount {ty inst top b} (h : Leads s₀ s) : Leads s₀ (headCount ty inst top b s).2 := .fitTo h
theorem Leads.loadClkp {b} (h : Leads s₀ s) : Leads s₀ (loadClkp b s) := .galPut (.unless .rep (.repZero (.repSize h)))

theorem Leads.loadPwrp {forms b} (h : Leads s₀ s) : Leads s₀ (loadPwrp forms b s) :=
  .repZero (.galEntry (.galSet (.galSet (.fitTo (.forN (fun h4 => .galSet (.unless .rep h4)) (.repSize h))))))

theorem Leads.dozeCheck {imp cams save} (h : Leads s₀ s) : Leads s₀ (dozeCheck imp cams save s) := .when (fun h => .galSet (.rep h)) h

theorem Leads.loadSysp {b} (h : Leads s₀ s) : Leads s₀ (loadSysp b s) :=
  .via (fun h4 => .repZero (.galPut (.ite (.fitTo h4) (.rep (.fitTo h4))))) (.repCorr (.sys (.galSet (.galSet (.galSet (.galSet (.fitTo
    (.fitTo (.fitTo (.repSize h))))))))))

theorem Leads.regsEntry {inst a v} (h : Leads s₀ s) : Leads s₀ (regsEntry inst a v s) := .ite (.rep h) (.galEntry h)
theorem Leads.loadRegs {inst b} (h : Leads s₀ s) : Leads s₀ (loadRegs inst b s) := .forL .regsEntry (.repZero (.repSize (.headCount h)))
theorem Leads.tabFix {src m w lsb wd} (h : Leads s₀ s) : Leads s₀ (tabFix src m w lsb wd s) := .unless (fun h => .setTabWord (.repCorr h)) h

theorem Leads.mmRelations {modes src} (h : Leads s₀ s) : Leads s₀ (mmRelations modes src s) :=
  .unless (fun h1 => .fset (.repCorr h1)) (.forN (.unless (fun h2 => .setMm (.forN (.forN .tabFix) (.tabFix h2)))) h)

theorem Leads.relFix {src k f i given v} (h : Leads s₀ s) : Leads s₀ (relFix src k f i given v s) :=
  .unless (fun h => .galSet (.repCorr h)) h

theorem Leads.relPass {src fs} (h : Leads s₀ s) : Leads s₀ (relPass src fs s) := .forL .relFix h

theorem Leads.relations {src ofs} (h : Leads s₀ s) : Leads s₀ (relations src ofs s) :=
  .forN (fun h7 => .relFix (.relFix h7)) (.forN .relFix (.forN .relFix (.relPass (.relPass (.relPass (.relFix (.relFix h)))))))

theorem Leads.loadTabl {inst b} (h : Leads s₀ s) : Leads s₀ (loadTabl inst b s) :=
  .via (fun h1 => .ite (.modGly (.repZero (.fitTo (.fitTo (.repSize h1))))) (.forN .writeSram (.repZero (.fitTo (.repSize h1))))) (.unless
    .rep h)

theorem Leads.loadDmem {n b} (h : Leads s₀ s) : Leads s₀ (loadDmem n b s) := by
  unfold Machine.loadDmem
  exact .modGly (.repSize (.fitTo (.fitTo (.fitTo h))))

theorem Leads.tabEntry {inst o w0 w1 m0 m1} (h : Leads s₀ s) : Leads s₀ (tabEntry inst o w0 w1 m0 m1 s).2 :=
  .ite (.unless .rep h) (.rep (.unless .rep h))

theorem Leads.formDesc {latch inst o b} (h : Leads s₀ s) : Leads s₀ (formDesc latch inst o b s).2 := by
  unfold Machine.formDesc
  dsimp only
  split
  · exact .tabEntry h
  · exact .tabEntry (.rep h)

theorem Leads.formSort {inst o b} (h : Leads s₀ s) : Leads s₀ (formSort inst o b s).2 := .ite₂ (.pair (.rep h)) h

theorem Leads.formTab {d f n} (hf : ∀ {a0 t}, Leads s₀ t → Leads s₀ (f a0 t).2) (h : Leads s₀ s) : Leads s₀ (Machine.formTab d f n s).2 :=
  .foldl₂ (β := SMap W64) (p := ([], s)) hf h

theorem Leads.loadForm {inst b} (h : Leads s₀ s) : Leads s₀ (loadForm inst b s) :=
  .via (fun h2 => .ite (.modGly (.rep h2)) (.modGly h2)) (.formTab .formSort (.formTab .tabEntry (.formTab .formDesc (.formTab .formDesc
    (.repSize (.repZero (.fitTo (.fitTo h))))))))

theorem Leads.noForm {n} (h : Leads s₀ s) : Leads s₀ (noForm n s) := .modGly h

theorem Leads.modeWord {inst states i b} (h : Leads s₀ s) : Leads s₀ (modeWord inst states i b s).2 :=
  .foldl₂ .repCorr (.forL (.unless .rep) h)

theorem Leads.loadMode {m b} (h : Leads s₀ s) : Leads s₀ (loadMode m b s) :=
  .setMm (.forN (fun h2 => .setTabWord (.modeWord h2)) (.repSize h))

/-! #### Galley sections for balls and registers -/

theorem Leads.loseFunc {f} (h : Leads s₀ s) : Leads s₀ (loseFunc f s) := .pins h

theorem Leads.ballEntry {o e lost} (h : Leads s₀ s) : Leads s₀ (Machine.ballEntry o e lost s).2 := by
  unfold Machine.ballEntry
  extract_lets b f opt ok s1 s2 was s3 _ _ s4 _ old s5 _ s6
  have h2 : Leads s₀ s2 := .unless .rep (.unless .rep (.fitTo h))
  clear_value s2
  have h3 : Leads s₀ s3 := .rep h2
  have h4 : Leads s₀ s4 := .pins h2
  have h5 : Leads s₀ s5 := .rep h2
  have h6 : Leads s₀ s6 := .pins h5
  have h7 : Leads s₀ (Machine.rep 16 3 0 b.1 (was - 131072) f 0 s2) := .rep h2
  refine .ite₂ (.ite₂ h3 ?_) (.ite₂ (.ite₂ h4 ?_) (.ite₂ ?_ ?_))
  · exact .loseFunc (.pins h3)
  · exact .pins h4
  · exact .pair h7
  · exact .loseFunc (.loseFunc h6)

theorem Leads.loadBall {b} (h : Leads s₀ s) : Leads s₀ (loadBall b s) := .foldl₂ .ballEntry (.repZero (.repSize (.headCount h)))
theorem Leads.srcFit {o v} (h : Leads s₀ s) : Leads s₀ (srcFit o v s).2 := .ite₂ (.fitTo h) (.pair (.rep h))

theorem Leads.bindFit {o e} (h : Leads s₀ s) : Leads s₀ (bindFit o e s).2 := by
  unfold Machine.bindFit
  exact .foldl₂ (fun h1 => (by split; exacts [.ite₂ h1 (.ite₂ (.pair (.srcFit h1)) (.pair (.fitTo h1))), h1])) h

theorem Leads.bindZero {o e} (h : Leads s₀ s) : Leads s₀ (bindZero o e s) := by
  unfold Machine.bindZero
  split
  · exact .unless .rep h
  · exact .unless .rep h
  · exact .unless .rep h
  · exact h

theorem Leads.bindEntry {o e x} (h : Leads s₀ s) : Leads s₀ (bindEntry o e x s).2 :=
  .ite₂ (.pair (.rep h)) (.via (fun h1 => .ite₂ (.pair (.rep h1)) h1) (.bindZero (.bindFit h)))

theorem Leads.bindDrop {x} (h : Leads s₀ s) : Leads s₀ (bindDrop x s).2 := (.forL .rep (.forL .rep h))
theorem Leads.bindTrack {t x} (h : Leads s₀ s) : Leads s₀ (bindTrack t x s).2 := (.unless .rep (.when .rep (.unless .rep (.unless .rep h))))

theorem Leads.bindApply {x} (h : Leads s₀ s) : Leads s₀ (bindApply x s) :=
  .trk (.forL (fun h4 => .galSet (.galSet (.galSet (.galSet h4)))) (.forL (fun h6 => .galSet (.galSet (.galSet (.galSet (.galSet (.galSet
    (.galSet (.galSet (.galSet (.galSet h6)))))))))) (.forN .galSet h)))

theorem Leads.loadBind {b} (h : Leads s₀ s) : Leads s₀ (loadBind b s) :=
  .bindApply (.foldl₂ .bindTrack (.bindDrop (.foldl₂ .bindEntry (.repZero (.repSize (.headCount h))))))

/-! #### Galley sections for network and safety -/

theorem Leads.fitWord {ty inst o fs v} (h : Leads s₀ s) : Leads s₀ (fitWord ty inst o fs v s).2 :=
  (.forL (.unless .rep) (.foldl₂ .repCorr h))

theorem Leads.fitLayout {inst o e} (h : Leads s₀ s) : Leads s₀ (fitLayout inst o e s).2 := .fitWord (.fitWord (.fitWord (.fitWord h)))
theorem Leads.fitDesc {inst o e} (h : Leads s₀ s) : Leads s₀ (fitDesc inst o e s).2 := .fitWord (.fitWord h)
theorem Leads.impoHead {inst b} (h : Leads s₀ s) : Leads s₀ (impoHead inst b s).2 := .fitTo (.fitTo (.unless .rep h))
theorem Leads.putEntry {i ws} (h : Leads s₀ s) : Leads s₀ (putEntry i ws s) := .forL .writeSram h

theorem Leads.loadImpo {inst b} (h : Leads s₀ s) : Leads s₀ (loadImpo inst b s) :=
  .forL (fun h2 => .ite (.putEntry (.fitLayout h2)) (.putEntry (.fitDesc h2))) (.repZero (.repSize (.impoHead h)))

theorem Leads.fitTmpl {o e} (h : Leads s₀ s) : Leads s₀ (fitTmpl o e s).2 := by
  unfold Machine.fitTmpl
  exact .via (fun h2 => .ite₂ (.pair (.rep (.ite₂ (.pair (.rep h2)) h2))) (.pair (.ite₂ (.pair (.rep h2)) h2))) (.forL (.unless .rep)
    (.fitTo (.fitTo (.ite (.fitTo h) (.rep (.fitTo h))))))

theorem Leads.loadPtnt {b} (h : Leads s₀ s) : Leads s₀ (loadPtnt b s) :=
  .forL (fun h4 => .ite (.rep (.fitTmpl h4)) (.when .ctxFill (.setTmpl (.fitTmpl h4)))) (.galSet (.repZero (.repSize (.ite (.headCount h)
    (.rep (.headCount h))))))

theorem Leads.safeRel {f g i} (h : Leads s₀ s) : Leads s₀ (safeRel f g i s) := .unless (fun h => .galSet (.rep h)) h

theorem Leads.loadSafe {b} (h : Leads s₀ s) : Leads s₀ (loadSafe b s) :=
  .forN .safeRel (.safeRel (.forN .galEntry (.repZero (.galSet (.unless .rep (.repSize h))))))

theorem Leads.layoutCheck {secs} (h : Leads s₀ s) : Leads s₀ (layoutCheck secs s) :=
  .galSet (.galSet (.forL (fun h3 => .unless .galSet (.setLay h3)) (.forL .rep h)))

theorem Leads.mapCheck {src} (h : Leads s₀ s) : Leads s₀ (mapCheck src s) := .galSet (.forL (fun h2 => .galSet (.rep h2)) h)

/-! #### Galley load -/

theorem Leads.glyTo {n ph} (h : Leads s₀ s) : Leads s₀ (glyTo n ph s) := .fset (.gly h)
theorem Leads.bootLoad (h : Leads s₀ s) : Leads s₀ (bootLoad s) := .glyTo (.fset (.pwr h rfl))
theorem Leads.waitHost {ph} (h : Leads s₀ s) : Leads s₀ (waitHost ph s) := .fset (.glyTo h)

theorem Leads.glyFail {code} (h : Leads s₀ s) : Leads s₀ (glyFail code s) :=
  .via (fun h2 => .via (fun h3 => .ite (.glyTo (.fset h3)) (.waitHost h3)) (.ite (.raiseFlag h2) (.when .raiseFlag h2))) (.when .rep
    (.raise (.fset h)))

theorem Leads.afterCheck {b} (h : Leads s₀ s) : Leads s₀ (afterCheck b s) := .ite (.glyTo h) (.ite (.glyFail h) (.glyTo h))
theorem Leads.slotHead {img} (h : Leads s₀ s) : Leads s₀ (slotHead img s) := .ite (.glyFail h) (.glyTo h)

theorem Leads.slotStage {img} (h : Leads s₀ s) : Leads s₀ (slotStage img s) :=
  .ite (.glyFail h) (.via (fun h1 => .ite (.glyFail h1) (.glyTo h1)) (.stageImage h))

theorem Leads.hostRead (h : Leads s₀ s) : Leads s₀ (hostRead s) :=
  .via (fun h1 => .ite (.glyFail h1) (.ite (.glyFail h1) (.afterCheck h1))) (.forL .poisonedRead h)

theorem Leads.checkEnd (h : Leads s₀ s) : Leads s₀ (checkEnd s) := .ite (.afterCheck h) (.hostRead h)

theorem Leads.loadStep {img} (h : Leads s₀ s) : Leads s₀ (loadStep img s) := by
  unfold Machine.loadStep
  split
  · exact .slotHead h
  · exact .slotStage h
  · exact .checkEnd h
  · exact h

theorem Leads.loadClean (h : Leads s₀ s) : Leads s₀ (loadClean s) := .galDefaults (.put h ⟨rfl, rfl, rfl, rfl, id, id, le_rfl⟩)

theorem Leads.applyType {b ty} (h : Leads s₀ s) : Leads s₀ (applyType b ty s) := by
  unfold Machine.applyType
  split
  · exact .forL .loadClkp h
  · exact .forL .loadPwrp h
  · exact .forL .loadBall h
  · exact .ite (.bindApply h) (.forL .loadBind h)
  · exact .forL .loadSysp h
  · exact .relations (.forL .loadRegs h)
  · exact .forL .loadTabl h
  · exact .forL .loadDmem h
  · exact .forN (.unless .noForm) (.forL .loadForm h)
  · exact .mmRelations (.forL .loadMode h)
  · exact .forL .loadImpo h
  · exact .forL .loadPtnt h
  · exact .forL .loadSafe h
  · exact h

theorem Leads.crossChecks {b} (h : Leads s₀ s) : Leads s₀ (crossChecks b s) := .dozeCheck (.mapCheck (.layoutCheck h))
theorem Leads.skipSections {b} (h : Leads s₀ s) : Leads s₀ (skipSections b s) := .forL .rep h
theorem Leads.fillPlatens (h : Leads s₀ s) : Leads s₀ (fillPlatens s) := .forN (.when .setPlt) h
theorem Leads.colophon {b} (h : Leads s₀ s) : Leads s₀ (colophon b s) := .fset (.fset (.fset (.galSet (.galSet (.galSet h)))))

theorem Leads.glyApply {b} (h : Leads s₀ s) : Leads s₀ (glyApply b s) :=
  .startPolicy (.setDev (.sys (.ownDrive (.safLoaded (.wdtRestart (.canStart (.flushLoad (.raise (.fset (.glyTo (.forN .mirrorAll
    (.colophon (.fillPlatens (.skipSections (.crossChecks (.forL .applyType (.loadClean h)))))))))))))))))

theorem Leads.hostLoad {ifc} (h : Leads s₀ s) : Leads s₀ (hostLoad ifc s) := .ite (.hostDrop h) (.glyTo (.fset (.forL .fset (.gly h))))

theorem Leads.skipFlash {ifc} (h : Leads s₀ s) : Leads s₀ (skipFlash ifc s) :=
  .ite (.hostDrop h) (.when (fun h => .waitHost (.unless .unstage h)) h)

theorem Leads.glyCtl {ifc v} (h : Leads s₀ s) : Leads s₀ (glyCtl ifc v s) := .when .hostLoad (.when .skipFlash h)
theorem Leads.keyCtl {ifc v} (h : Leads s₀ s) : Leads s₀ (keyCtl ifc v s) := .ite (.gly h) (.when .hostDrop h)

theorem Leads.keyDone (h : Leads s₀ s) : Leads s₀ (keyDone s) := by
  unfold Machine.keyDone
  split
  · exact .put h ⟨rfl, rfl, rfl, rfl, id, id, le_rfl⟩
  · exact h

/-! #### Network -/

theorem Leads.layAuthFail {i seq} (h : Leads s₀ s) : Leads s₀ (layAuthFail i seq s) := .raise (.bump (.raiseFlag (.hwMark (.setLay h))))

theorem Leads.layFrame {p mac x i} (h : Leads s₀ s) : Leads s₀ (layFrame p mac x i s) :=
  .ite (.layDiscard h) (.ite (.layDiscard (.layAuthFail h)) (.ite (.layAccept (.ctxValid h)) (.ite (.pathClear (.ctxValid (.layBump h)))
    (.layDiscard h))))

theorem Leads.layAllocated {c} (h : Leads s₀ s) : Leads s₀ (layAllocated c s) := .forN (.when .setLay) h
theorem Leads.txPut {p x} (h : Leads s₀ s) : Leads s₀ (txPut p x s) := .unless (fun h => .ite (.net h) (.net h)) h
theorem Leads.sendFrame {p bytes} (h : Leads s₀ s) : Leads s₀ (sendFrame p bytes s) := .bump (.out h)
theorem Leads.laySend {i capture pay} (h : Leads s₀ s) : Leads s₀ (laySend i capture pay s) := .forN (.when .txPut) (.setLay h)

theorem Leads.layTransmit {i due capture} (h : Leads s₀ s) : Leads s₀ (layTransmit i due capture s) :=
  .unless (fun h1 => .ite (.ite (.layOverrun h1) (.ite (.forN .epLast (.setLay (.mbLoad h1))) (.setLay (.mbLoad h1)))) (.ite (.forN
    .epLast (.laySend h1)) (.laySend h1))) (.packFrom h)

theorem Leads.linkSet {p sp eee} (h : Leads s₀ s) : Leads s₀ (linkSet p sp eee s) :=
  .unless (fun h2 => .when .portRefresh (.when .net (.raise (.raiseFlag h2)))) (.fset (.fset (.fset h)))

theorem Leads.netDoze (h : Leads s₀ s) : Leads s₀ (netDoze s) := .forN (.when .linkSet) h
theorem Leads.netRelink (h : Leads s₀ s) : Leads s₀ (netRelink s) := .forN (.when .linkSet) h
theorem Leads.descAddr {d} (h : Leads s₀ s) : Leads s₀ (descAddr d s).2 := .readMem h
theorem Leads.descWord {d} (h : Leads s₀ s) : Leads s₀ (descWord d s).2 := .readMem h
theorem Leads.setDescWord {d v} (h : Leads s₀ s) : Leads s₀ (setDescWord d v s) := .setMemNat h
theorem Leads.txLook (h : Leads s₀ s) : Leads s₀ (txLook s) := .net (.descWord h)
theorem Leads.txKick (h : Leads s₀ s) : Leads s₀ (txKick s) := .unless .txLook h
theorem Leads.netWake (h : Leads s₀ s) : Leads s₀ (netWake s) := .net (.netRelink h)

/-! #### Register reads -/

theorem Leads.readClear {a} (h : Leads s₀ s) : Leads s₀ (readClear a s) := .via (fun h1 => .ite (.setLay h1) (.when .fset h1)) (.forL .wr h)

theorem Leads.dropCap {ifc a} (h : Leads s₀ s) : Leads s₀ (dropCap ifc a s) := by
  unfold Machine.dropCap
  split
  · exact .capPcie h
  · exact .capQspi h

theorem Leads.capture10 {ifc a} (h : Leads s₀ s) : Leads s₀ (capture10 ifc a s) := by
  unfold Machine.capture10
  exact .via (fun h1 => .ite (.evtCapture h1) (.when (fun h1 => (by split; exacts [.tim h1 le_rfl, .tim h1 le_rfl])) h1)) (.when .setCap h)

theorem Leads.rcntRead {a} (h : Leads s₀ s) : Leads s₀ (rcntRead a s) := by
  unfold Machine.rcntRead
  split
  · exact .when .fset h
  · exact h

theorem Leads.readReg {ifc a} (h : Leads s₀ s) : Leads s₀ (readReg ifc a s).2 := by
  unfold Machine.readReg
  split
  · exact .pair (.dropCap h)
  · exact .pair (.when .drawn (.readClear (.capture10 (.rcntRead h))))

theorem Leads.regRead {ifc a} (h : Leads s₀ s) : Leads s₀ (regRead ifc a s).2 := .ite₂ (.readReg h) (.pair (.hostDrop h))

/-! #### Host accesses -/

theorem Leads.sfWrite {ifc a v} (h : Leads s₀ s) : Leads s₀ (sfWrite ifc a v s) :=
  .ite (.when .btUpdate (.busyUpdate (.saf (.wr h)))) (.hostDrop (.raiseFlag h))

theorem Leads.onBit {v b f} (hf : ∀ {t}, Leads s₀ t → Leads s₀ (f t)) (h : Leads s₀ s) : Leads s₀ (onBit v b f s) := .when hf h

theorem Leads.irqClear {v} (h : Leads s₀ s) : Leads s₀ (irqClear v s) :=
  .forN (.unless (fun h2 => .ite (.evtIrq h2) (.when .setPend (.drawn h2)))) (.wr h)

theorem Leads.irqSwset {v} (h : Leads s₀ s) : Leads s₀ (irqSwset v s) := .forL (.onBit .setPend) h

theorem Leads.pthCtl {ifc g v} (h : Leads s₀ s) : Leads s₀ (pthCtl ifc g v s) :=
  .ite (.hostDrop h) (.onBit .pthFlush (.onBit .pthPush (.forL .pthCmd h)))

theorem Leads.safCtl {v} (h : Leads s₀ s) : Leads s₀ (safCtl v s) :=
  .onBit .dryAck (.onBit .safStop (.onBit .safReset (.onBit .exitComm (.when .enterComm h))))

theorem Leads.btCtl {v} (h : Leads s₀ s) : Leads s₀ (btCtl v s) := .onBit .btClrFail (.onBit .btEnd (.onBit .btGo h))

theorem Leads.timCtl {ifc v} (h : Leads s₀ s) : Leads s₀ (timCtl ifc v s) := by
  unfold Machine.timCtl
  split
  · exact .timAccept h
  · exact .timSet h
  · exact .hostDrop h
  · exact h

theorem Leads.latCtl {u v} (h : Leads s₀ s) : Leads s₀ (latCtl u v s) :=
  .onBit .latFlush (.onBit .latPop (.onBit .latDisarm (.onBit .latArm h)))

theorem Leads.canCtl {ifc k v} (h : Leads s₀ s) : Leads s₀ (canCtl ifc k v s) :=
  .via (fun h2 => .onBit .canRecover (.ite (.canInitSet h2) (.canInitClear h2))) (.fset (.fset (.ite (.fset (.fset h)) (.unless .hostDrop
    h))))

theorem Leads.mbWrite {ifc k b a m v} (h : Leads s₀ s) : Leads s₀ (mbWrite ifc k b a m v s) :=
  .ite (.hostDrop (.raiseFlag h)) (.ite (.hostDrop h) (.wr h))

theorem Leads.layClear {v} (h : Leads s₀ s) : Leads s₀ (layClear v s) := .setLay h
theorem Leads.storeWord {a v} (h : Leads s₀ s) : Leads s₀ (storeWord a v s) := .wr (.forL .wr h)

theorem Leads.afterStore {a v} (h : Leads s₀ s) : Leads s₀ (afterStore a v s) := by
  unfold Machine.afterStore
  exact .via (fun h1 => .when .recCfgWrite (.when .evtIrq (by split; exacts [.portRefresh h1, h1])))
    (by split; exacts [.onBit .lostClear h, h])

/-- What a write sets going, where it sets something going, is made of elementary updates. -/
def Acts (s₀ : State) (o : Option (State → State)) : Prop := ∀ f ∈ o, ∀ {t}, Leads s₀ t → Leads s₀ (f t)

theorem acts_atReg {r a} {f : Nat → Nat → State → State} (hf : ∀ {i j t}, Leads s₀ t → Leads s₀ (f i j t)) : Acts s₀ (atReg r a f) := by
  intro g hg t h
  obtain ⟨ix, -, rfl⟩ := Option.map_eq_some_iff.mp hg
  exact hf h

theorem acts_writeActs {ifc a v} : (writeActs ifc a v).Forall (Acts s₀) :=
  ⟨acts_atReg .sysCtl, acts_atReg .irqClear, acts_atReg .irqSwset, acts_atReg .hallFaultClear, acts_atReg .hallFaultClear,
    acts_atReg .quoCtl, acts_atReg .evtCtl, acts_atReg .glyCtl, acts_atReg .keyCtl, acts_atReg .moverRequest, acts_atReg .prfCmd,
    acts_atReg (fun h => .onBit .acdCmd (.onBit .acdCmd h)), acts_atReg .pthCtl, acts_atReg .schCtl, acts_atReg .xlatchClear,
    acts_atReg .tlatchClear, acts_atReg .shdGo, acts_atReg (.onBit .refZArm), acts_atReg .latCtl,
    acts_atReg (fun h => .onBit .cmpDisarm (.onBit .cmpArm h)), acts_atReg .fioOutWrite, acts_atReg (.onBit .wdtRestart),
    acts_atReg (.onBit .wdtExpClear), acts_atReg (.onBit .uvAck), acts_atReg (fun h => .diagClear (.openVal h)), acts_atReg .safCtl,
    acts_atReg .safConfirm, acts_atReg .btCtl, acts_atReg .timCtl, acts_atReg (.onBit .txKick), acts_atReg .canCtl,
    acts_atReg (.mbMask .mbRequest), acts_atReg (fun h => .mbMask .mbCancel (.openVal h)),
    acts_atReg (fun h => .onBit .queueFlush (.onBit .queuePop h)), acts_atReg .mbWrite, acts_atReg .mbWrite, acts_atReg .mbWrite,
    acts_atReg .layClear, acts_atReg (fun h => .onBit .keyActivate (.onBit .keyLoad h)), acts_atReg (.recMask .recArm),
    acts_atReg (.recMask .recStop), acts_atReg (fun h => .onBit .recForce (.onBit .recStop (.onBit .recArm h))),
    acts_atReg .slotRelease, acts_atReg (.onBit .accClear), acts_atReg (.onBit .accClear),
    acts_atReg (fun h => .takebackLapse (.onBit .parRelease h)), acts_atReg (.onBit .rescTrigger)⟩

theorem acts_writeAct {ifc a v} : Acts s₀ (writeAct ifc a v) := by
  intro f hf
  obtain ⟨o, ho, hof⟩ := List.exists_of_findSome?_eq_some hf
  exact List.forall_iff_forall_mem.mp acts_writeActs o ho f hof

theorem Leads.writeReg {ifc a v} (h : Leads s₀ s) : Leads s₀ (Machine.writeReg ifc a v s) := by
  unfold Machine.writeReg
  refine .ite (.qsWrite h) ?_
  split
  · exact .stgWrite h
  · refine .ite (.ite (.sfWrite h) (.hostDrop h)) (.ite h (.ite (.hostDrop h) ?_))
    dsimp only
    split
    · next f hf => exact acts_writeAct f hf (.when .qsWrite (.unless (fun h => .afterStore (.storeWord h)) (.when .hostDrop h)))
    · exact .when .qsWrite (.unless (fun h => .afterStore (.storeWord h)) (.when .hostDrop h))

theorem Leads.regWrite {ifc a v} (h : Leads s₀ s) : Leads s₀ (regWrite ifc a v s) := .ite (.writeReg h) (.hostDrop h)

theorem Leads.winWrite {ifc n a off v} (h : Leads s₀ s) : Leads s₀ (winWrite ifc n a off v s) :=
  .ite (.modPlt h) (.ite (.modPlt h) (.ite (.modPlt h) (.ite (.stgWrite h) (.hostDrop h))))

theorem Leads.storeBytes {a : Nat} {bs : List (Option Byte)} (h : Leads s₀ s) : Leads s₀ (storeBytes a bs s) := by
  induction bs generalizing s a with
  | nil => exact h
  | cons b r ih =>
    cases b with
    | none => exact ih h
    | some x => exact ih (.setMemByte h)

theorem Leads.memWrite {ifc a bs} (h : Leads s₀ s) : Leads s₀ (memWrite ifc a bs s) := .when .hostDrop (.forL .setPoison (.storeBytes h))
theorem Leads.memRead {ifc a n} (h : Leads s₀ s) : Leads s₀ (memRead ifc a n s).2 := .unless .hostDrop (.forL .poisonedRead h)
theorem Leads.wordWrite {ifc a v} (h : Leads s₀ s) : Leads s₀ (wordWrite ifc a v s) := .ite (.ite (.winWrite h) (.hostDrop h)) (.regWrite h)

theorem Leads.wordRead {ifc errs a} (h : Leads s₀ s) : Leads s₀ (wordRead ifc errs a s).2 := by
  unfold Machine.wordRead
  dsimp only
  exact .ite₂ (by split; exacts [(by split; exacts [.pair (.openVal h), .pair (.pltEcc h)]), .pair (.hostDrop h)]) (.regRead h)

theorem Leads.winWait {ifc a w} (h : Leads s₀ s) : Leads s₀ (winWait ifc a w s) := .modPlt h
theorem Leads.wordWriteHeld {ifc a v} (h : Leads s₀ s) : Leads s₀ (wordWriteHeld ifc a v s) := .ite (.winWait h) (.wordWrite h)

theorem Leads.writeRequest {ifc a bs} (h : Leads s₀ s) : Leads s₀ (writeRequest ifc a bs s) := by
  unfold Machine.writeRequest
  exact .ite (.memWrite h) (.ite (.hostDrop h) (.forL (fun h1 => (by split; exacts [.wordWriteHeld h1, .hostDrop h1])) h))

theorem Leads.readRun {ifc errs} {l : List Nat} (h : Leads s₀ s) : Leads s₀ (readRun ifc errs l s).2 := by
  induction l generalizing s with
  | nil => exact h
  | cons x r ih => exact ih (.wordRead h)

theorem Leads.readRequest {ifc errs a n} (h : Leads s₀ s) : Leads s₀ (readRequest ifc errs a n s) :=
  .ite (.sendRd (.memRead h)) (.ite (.modPlt h) (.ite (.sendRd (.hostDrop h)) (.sendRd (.readRun h))))

theorem Leads.request {errs x} (h : Leads s₀ s) : Leads s₀ (request errs x s) := by
  unfold Machine.request
  split
  · exact .writeRequest h
  · exact .readRequest h

theorem Leads.portGate {t errs x} (h : Leads s₀ s) : Leads s₀ (portGate t errs x s) :=
  .unless (fun h2 => .ite (.wakeEvent (.pwr h2 rfl)) (.request (.wakeEvent h2))) (.hostSeen (.when .ownerWrite (.advance h)))

theorem Leads.port32 {via errs a w} (h : Leads s₀ s) : Leads s₀ (port32 via errs a w s) := .portGate h
theorem Leads.readErrs {a n errs} (h : Leads s₀ s) : Leads s₀ (readErrs a n errs s) := .holdErrs h
theorem Leads.writeErrs {a bs errs} (h : Leads s₀ s) : Leads s₀ (writeErrs a bs errs s) := .readErrs h

theorem Leads.qspiWords {t a : Nat} {ws : List Word} (h : Leads s₀ s) : Leads s₀ (qspiWords t a ws s) := by
  induction ws generalizing s a with
  | nil => exact .qspi h
  | cons w r ih => exact ih (.port32 h)

theorem Leads.qspiReads {t errs} {a n : Nat} (h : Leads s₀ s) : Leads s₀ (qspiReads t errs a n s) := by
  induction n generalizing s a with
  | zero => exact .qspi h
  | succ n ih => exact ih (.port32 h)

theorem Leads.qspiCmd {t cmd wr rd} (hf2 : ∀ {t}, Leads s₀ t → Leads s₀ (wr t)) (hf3 : ∀ {t}, Leads s₀ t → Leads s₀ (rd t)) (h :
    Leads s₀ s) : Leads s₀ (qspiCmd t cmd wr rd s) :=
  .unless (fun h1 => .ite (hf2 h1) (.ite (hf3 h1) (.qspi h1))) (.advance h)

theorem Leads.qspiRead {t a n errs} (h : Leads s₀ s) : Leads s₀ (qspiRead t a n errs s) := .qspiReads (.readErrs h)

/-! #### TAP -/

theorem Leads.tapScan {cells levels} (h : Leads s₀ s) : Leads s₀ (tapScan cells levels s) := .tst h
theorem Leads.tapSet {c} (h : Leads s₀ s) : Leads s₀ (tapSet c s) := .tst h
theorem Leads.irCapture (h : Leads s₀ s) : Leads s₀ (irCapture s) := .tst h

theorem Leads.tapUpdate {c} (h : Leads s₀ s) : Leads s₀ (tapUpdate c s) :=
  .unless (fun h => .via (fun h1 => .ite (.raise (.raiseFlag (.tapSet h1))) (.when .raise (.tapSet h1))) (.irCapture h)) h

theorem Leads.tapBoundary {c cells levels} (h : Leads s₀ s) : Leads s₀ (tapBoundary c cells levels s) := .when .tapScan (.tapUpdate h)

/-! #### Measurements -/

theorem Leads.readVals {j sig} {n i : Nat} {acc : List Int} (h : Leads s₀ s) : Leads s₀ (readVals j sig n i acc s).2 := by
  induction n generalizing s i acc with
  | zero => exact h
  | succ n ih => exact ih (.readMem h)

theorem Leads.jobVals {j sig n} (h : Leads s₀ s) : Leads s₀ (jobVals j sig n s).2 := .readVals h

theorem Leads.fftResults {j} (h : Leads s₀ s) : Leads s₀ (fftResults j s).2.2 := by
  unfold Machine.fftResults
  dsimp only
  exact (.storeFrame (.openVal (.readVals h)))

theorem Leads.cellBump {w a} (h : Leads s₀ s) : Leads s₀ (cellBump w a s) := .setMemNat (.readMem h)

theorem Leads.accZero {i base bytes} (h : Leads s₀ s) : Leads s₀ (accZero i base bytes s) :=
  .unless (fun h => .via (fun h1 => .acq (.ite (.fset (.fset h1)) (.fset h1))) (.writeMemBytes h)) h

theorem Leads.histPut {via v} (h : Leads s₀ s) : Leads s₀ (histPut via v s) := .ite (.bump h) (.ite (.bump h) (.cellBump h))

theorem Leads.histFeed {j res via} (h : Leads s₀ s) : Leads s₀ (histFeed j res via s) := by
  unfold Machine.histFeed
  exact .unless (fun h => .via (fun h1 => .ite (by split; exacts [.histPut h1, h1]) (.forL .histPut (.jobVals h1))) (.accZero h)) h

theorem Leads.mapFeed {j m} (h : Leads s₀ s) : Leads s₀ (mapFeed j m s) :=
  .unless (fun h => .bump (.forL (.when .cellBump) (.jobVals (.accZero h)))) h

theorem Leads.resultWords {res w30 w31} {n : Nat} {acc : List Nat} (h : Leads s₀ s) : Leads s₀ (resultWords res w30 w31 n acc s).2 := by
  induction n generalizing s acc with
  | zero => exact h
  | succ n ih =>
    unfold Machine.resultWords
    refine .ite₂ (ih h) (.ite₂ (ih h) ?_)
    split
    · exact ih h
    · exact ih (.openVal h)

theorem Leads.jobFinish {j} (h : Leads s₀ s) : Leads s₀ (jobFinish j s) :=
  .recRetry (.raise (.jobCount (.acq (.modPlt (.forN .mapFeed (.forN .histFeed (.storeFrame (.storeFrame (.resultWords (.ite₃ (.fftResults
    (.ite₂ (.jobVals h) h)) (.ite₂ (.jobVals h) h)))))))))))

/-! #### Power -/

theorem Leads.afterReset (h : Leads s₀ s) : Leads s₀ (afterReset s) := .when .bootLoad h
theorem Leads.domRegs {d} (h : Leads s₀ s) : Leads s₀ (domRegs d s) := .forL .wr (.regs h)
theorem Leads.platenOff {n} (h : Leads s₀ s) : Leads s₀ (platenOff n s) := .setPlt h
theorem Leads.platenOn {n} (h : Leads s₀ s) : Leads s₀ (platenOn n s) := .setPlt h
theorem Leads.mlkReset (h : Leads s₀ s) : Leads s₀ (mlkReset s) := .ownRefresh (.fset (.putWords (.domRegs (.modPar h))))

theorem Leads.domClear {d} (h : Leads s₀ s) : Leads s₀ (domClear d s) := by
  unfold Machine.domClear
  split
  · exact .edgRefresh (.domRegs (.aux (s := { s with edg := [] }) (.edgOff h)))
  · exact .domRegs (.put h ⟨rfl, rfl, rfl, rfl, id, id, le_rfl⟩)
  · exact .platenOff (.domRegs (.acqOff h))
  · exact .forN .portRefresh (.domRegs (.net h))
  · exact .domRegs (.can h)
  · exact .mlkReset h
  · exact .when (fun h => .platenOff (.domRegs h)) h

theorem Leads.setOn {d b} (h : Leads s₀ s) : Leads s₀ (setOn d b s) := .pwr h rfl

theorem Leads.entryBefore {d} (h : Leads s₀ s) : Leads s₀ (entryBefore d s) :=
  .unless (fun h => .unless (fun h1 => .canDoze (.netDoze (.pwr h1 rfl))) (.unless (fun h => .dozeSave (.fbkSleep h)) h)) h

theorem Leads.domainOff {d} (h : Leads s₀ s) : Leads s₀ (domainOff d s) :=
  .when (fun h3 => .pwr (.timDoze h3) rfl) (.when .entryBefore (.when .tst (.domClear (.setOn (.entryBefore h)))))

theorem Leads.domainUp {d} (h : Leads s₀ s) : Leads s₀ (domainUp d s) :=
  .via (fun h1 => .ite (.platenOn h1) (.ite (.platenOn h1) (.ite (.settleStart h1) (.ite (.canStart h1) (.ite (.roleFlags h1) (.edgRefresh
    h1)))))) (.setOn (.domClear h))

theorem Leads.sysUp (h : Leads s₀ s) : Leads s₀ (sysUp s) := .forL .request (.noteErrs (.pwr (.timResume h) rfl))
theorem Leads.wrBits {a m v} (h : Leads s₀ s) : Leads s₀ (wrBits a m v s) := .wr h
theorem Leads.dozeRestore (h : Leads s₀ s) : Leads s₀ (dozeRestore s) := .settleChanged (.forL .wrBits (.forL .modPlt h))

theorem Leads.restoreErr {e} (h : Leads s₀ s) : Leads s₀ (restoreErr e s) :=
  .unless (fun h => .ite (.raise (.edgRefresh (.raiseFlag (.modPlt h)))) (.raise (.wrBits h))) h

theorem Leads.wakePath {d errs blks} (h : Leads s₀ s) : Leads s₀ (wakePath d errs blks s) :=
  .netWake (.timWake (.edgRefresh (.forL .restoreErr (.fbkWake (.dozeRestore (.forL .poisonedRead (.noteErrs h)))))))

theorem Leads.thermFlag {f seen code lo hi tj region} (h : Leads s₀ s) : Leads s₀ (thermFlag f seen code lo hi tj region s) :=
  .ite (.unless (fun h => .raise (.raiseFlag (.raiseFlag h))) h) (.when .fset h)

/-! ### The commands -/

theorem Answers.of {t : State} (h : Passes s t) : Answers s (.next t) := ⟨t, rfl, h⟩

/-- A command that neither switches the device off nor starts it. -/
theorem Answers.on {t : State} (k : Leads s s → Leads s t) : Answers s (.next t) := .of (.on (k .start))

/-- A command at an instant of its own, up to which the time advances first. -/
theorem Answers.after {t : State} {n : Nat} (k : Leads s (advance n s) → Leads s t) : Answers s (.next t) :=
  .on (fun h => k (.advance h))

theorem Passes.ite {c : Prop} [Decidable c] {a b : State} (ha : Passes s a) (hb : Passes s b) : Passes s (if c then a else b) := by
  split_ifs
  · exact ha
  · exact hb

theorem Passes.powerOff {u : State} (h : Leads s u) : Passes s (powerOff u) := .off (.flushCut h)

theorem leads_boot : Leads (unpowered s) (boot s) := .when .bootLoad (.put .start ⟨rfl, rfl, rfl, rfl, id, id, le_rfl⟩)

/-- A device that is not off does not start. -/
theorem Passes.tryBoot {u : State} (h : Leads s u) (hs : u.sys.st = s.sys.st) : Passes s (tryBoot u) := by
  unfold Machine.tryBoot
  split_ifs with hb
  · exact .boot (hs ▸ hb.1) h leads_boot
  · exact .on h

/-! #### Edge generators -/

theorem answers_execCarrierReload {t c} : Answers s (execCarrierReload t c s) := .after (.when (fun h => .edgSettle (.reloadChan h)))
theorem answers_execCompareFire {t c j} : Answers s (execCompareFire t c j s) := .after (.when (fun h => .edgSettle (.compareFires h)))
theorem answers_execInterlockTurnOn {t c} : Answers s (execInterlockTurnOn t c s) := .after (.when .edgSettle)
theorem answers_execShdGo {via c} : Answers s (execShdGo via c s) := .on (.hostGate .shdGo)

theorem answers_execCalibrationPass {t resid taps} : Answers s (execCalibrationPass t resid taps s) :=
  .after (.when (fun h => .edgRefresh (.takeStart (.edgRefresh (.forN (fun h8 => .when (fun h9 => .raise (.raiseFlag h9)) (.modCh h8 rfl))
    (.fset (.fset (.fset (.fset (.fset h))))))))))

theorem answers_execMaskApply {t c} : Answers s (execMaskApply t c s) := by
  refine .on (fun h => .when (fun h => .edgSettle (.modCh h ?_)) (.advance h))
  split
  · split_ifs <;> rfl
  · rfl

theorem answers_execAuxTimerFire {t a on} : Answers s (execAuxTimerFire t a on s) := .after (.when (fun h => .edgRefresh (.fset h)))
theorem answers_execTripInputAssert {t x} : Answers s (execTripInputAssert t x s) := .after (.when (fun h => .edgRefresh (.fsetBit h)))
theorem answers_execTripInputDeassert {t x} : Answers s (execTripInputDeassert t x s) := .after (.when .fsetBit)
theorem answers_execXlatchClear {via v} : Answers s (execXlatchClear via v s) := .on (.hostGate .xlatchClear)
theorem answers_execTlatchClear {via c v} : Answers s (execTlatchClear via c v s) := .on (.hostGate .tlatchClear)

/-! #### Delta-sigma inputs -/

theorem answers_execOcTripAssert {t c p bits} : Answers s (execOcTripAssert t c p bits s) :=
  .after (.when (fun h => .edgRefresh (.fsetBit h)))

theorem answers_execOcTripDeassert {t c p bits} : Answers s (execOcTripDeassert t c p bits s) :=
  .after (.when (fun h => .edgRefresh (.fsetBit h)))

theorem answers_execWarnRise {t c p bits} : Answers s (execWarnRise t c p bits s) :=
  .after (.when (fun h => .raise (.raiseBit (.fsetBit h))))

theorem answers_execWarnFall {t c p bits} : Answers s (execWarnFall t c p bits s) := .after (.when .fsetBit)
theorem answers_execSdmStuck {t c p bits} : Answers s (execSdmStuck t c p bits s) := .after (.when (fun h => .raise (.raiseBit (.stuck h))))
theorem answers_execStuckClear {t c p latest before} : Answers s (execStuckClear t c p latest before s) := .after (.when .stuck)
theorem answers_execSettleEnd {t c} : Answers s (execSettleEnd t c s) := .after (.when (fun h => .takeStart (.fset h)))

theorem answers_execAinConversionStart {t} : Answers s (execAinConversionStart t s) :=
  .after (.when (fun h => .ainStart (.forN (.when .ain) h)))

theorem answers_execAinResult {t k uV} : Answers s (execAinResult t k uV s) := by
  unfold execAinResult
  exact .after (fun h => (by split; exacts [.when .ain h, h]))

/-! #### Recorders -/

theorem answers_execRecorderSample {t r ws errs} : Answers s (execRecorderSample t r ws errs s) :=
  .after (fun h => .unless (fun h1 => .forN .levelCond (.recCheck (.setRec (.storeFrame (.sampleWords h1))))) (.noteErrs h))

theorem answers_execAcqTrigger {t c st rise} : Answers s (execAcqTrigger t c st rise s) := by
  unfold execAcqTrigger
  exact .after (.unless (fun h => .ite (by split; exacts [.when .condTrigger h, h]) (.when (fun h => .condTrigger (.trigq h)) h)))

theorem answers_execRecordComplete {t r errs} : Answers s (execRecordComplete t r errs s) :=
  .after (fun h => .when .recFinish (.noteErrs h))

theorem answers_execSlotRelease {via r v} : Answers s (execSlotRelease via r v s) := .on (.hostGate .slotRelease)
theorem answers_execRecorderArm {via r} : Answers s (execRecorderArm via r s) := .on (.hostGate .recArm)
theorem answers_execRecorderStop {via r} : Answers s (execRecorderStop via r s) := .on (.hostGate .recStop)
theorem answers_execRecForce {via r} : Answers s (execRecForce via r s) := .on (.hostGate .recForce)
theorem answers_execArmAll {via v} : Answers s (execArmAll via v s) := .on (.hostGate (.recMask .recArm))
theorem answers_execStopAll {via v} : Answers s (execStopAll via v s) := .on (.hostGate (.recMask .recStop))
theorem answers_execHistClear {via i} : Answers s (execHistClear via i s) := .on (.hostGate .accClear)
theorem answers_execMapClear {via i} : Answers s (execMapClear via i s) := .on (.hostGate .accClear)

/-! #### Feedback -/

theorem answers_execHallStateChange {t c lines st} : Answers s (execHallStateChange t c lines st s) :=
  .after (fun h => .when (fun h2 => .via (fun h3 => .ite (.setHall h3) (.unless (fun h3 => .setHall (.hallChange h3)) h3)) (.setSrc h2))
    (.when .sbyStep h))

theorem answers_execEncoderEdge {t e a b st} : Answers s (execEncoderEdge t e a b st s) := by
  unfold execEncoderEdge
  dsimp only
  exact .after
    (fun h =>
      .when
        (fun h2 =>
          .via
            (fun h3 =>
              (by split; exacts [h3, .unless (fun h3 => .ite (.countEdge h3) (.ite (.countEdge h3) (.speedRestart (.srcError h3)))) h3]))
            (.setSrc h2))
        (.when .sbyStep h))

theorem answers_execZEdge {t e rise st} : Answers s (execZEdge t e rise st s) :=
  .after (.when (fun h => .via (fun h2 => .ite (.reReference (.fset h2)) (.modSrc h2)) (.when (fun h => .srcError (.modSrc (.raiseFlag
    h))) h)))

theorem answers_execSsiReadStart {t k dt} : Answers s (execSsiReadStart t k dt s) :=
  .after (.when (fun h => .ite (.modSrc h) (.srcError (.modSrc h))))

theorem answers_execSsiWordComplete {t k bits} : Answers s (execSsiWordComplete t k bits s) := by
  unfold execSsiWordComplete
  exact .after (.when (fun h => (by split; exacts [h, .ite (.srcError (.modSrc h)) (.ite (.srcError (.modSrc h)) (.ssiWord h))])))

theorem answers_execStandstill {t src} : Answers s (execStandstill t src s) := .after (.when (fun h => .raise (.speedRestart (.fset h))))

theorem answers_execLostClear {via src} : Answers s (execLostClear via src s) :=
  .on (fun h => .ite (.hostGate .lostClear h) (.hostGate .hostDrop h))

theorem answers_execRefZArm {via e} : Answers s (execRefZArm via e s) := .on (.hostGate .refZArm)
theorem answers_execLatArm {via u} : Answers s (execLatArm via u s) := .on (.hostGate .latArm)
theorem answers_execLatDisarm {via u} : Answers s (execLatDisarm via u s) := .on (.hostGate .latDisarm)
theorem answers_execLatPop {via u} : Answers s (execLatPop via u s) := .on (.hostGate .latPop)
theorem answers_execLatFlush {via u} : Answers s (execLatFlush via u s) := .on (.hostGate .latFlush)

theorem answers_execLatchCapture {t u st rise} : Answers s (execLatchCapture t u st rise s) :=
  .after (.unless (fun h => .ite (.setLat h) (.when (fun h => .latOnce (.setLat h)) h)))

theorem answers_execLatchEntryComplete {t u} : Answers s (execLatchEntryComplete t u s) := by
  unfold execLatchEntryComplete
  exact .after
    (fun h => (by split; exacts [h, .unless (fun h => .ite (.when .raise (.setLat h)) (.when .raise (.bump (.raiseFlag (.setLat h))))) h]))

theorem answers_execLatchEntryOld {t u i} : Answers s (execLatchEntryOld t u i s) := .after .setLat
theorem answers_execCmpArm {via u} : Answers s (execCmpArm via u s) := .on (.hostGate .cmpArm)
theorem answers_execCmpDisarm {via u} : Answers s (execCmpDisarm via u s) := .on (.hostGate .cmpDisarm)
theorem answers_execCmpLateFire {t u} : Answers s (execCmpLateFire t u s) := .after (.when (fun h => .cmpFire (.raiseFlag h)))
theorem answers_execCmpPulseEnd {t u} : Answers s (execCmpPulseEnd t u s) := .after (.unless .fset)
theorem answers_execTdcCalibration {t} : Answers s (execTdcCalibration t s) := .after (.when .fset)

/-! #### Field inputs and outputs -/

theorem answers_execFioInputAccept {t n level} : Answers s (execFioInputAccept t n level s) :=
  .after (.when (fun h => .when .wakeEvent (.battScan (.latFioAccept (.fsetBit h)))))

theorem answers_execKfbInputChange {t k level} : Answers s (execKfbInputChange t k level s) := .after (.when .fsetBit)
theorem answers_execFioOutWrite {via v} : Answers s (execFioOutWrite via v s) := .on (.hostGate .fioOutWrite)
theorem answers_execOutputOverload {t n} : Answers s (execOutputOverload t n s) := .after (.when .fioFault)
theorem answers_execOutputOvertemp {t n} : Answers s (execOutputOvertemp t n s) := .after (.when .fioFault)
theorem answers_execOpenWire {t n} : Answers s (execOpenWire t n s) := .after (.when (fun h => .fioFault (.unless .fio h)))
theorem answers_execDiagClear {via n v hot} : Answers s (execDiagClear via n v hot s) := .on (.hostGate .diagClear)
theorem answers_execWdtKick {via} : Answers s (execWdtKick via s) := .on (.hostGate .wdtRestart)
theorem answers_execWdtExpire {t} : Answers s (execWdtExpire t s) := .after (.when (fun h => .raiseFlag (.fio h)))
theorem answers_execWdtExpClear {via} : Answers s (execWdtExpClear via s) := .on (.hostGate .wdtExpClear)

theorem answers_execVfldMeasure {t g v} : Answers s (execVfldMeasure t g v s) :=
  .after (.when (fun h => .when (fun h4 => .unless .raise (.groupOff (.fset (.raiseFlag h4)))) (.when (fun h3 => .raise (.raiseFlag h3))
    (.fset (.fset (.supplyInputs h))))))

theorem answers_execFieldRecovered {t g} : Answers s (execFieldRecovered t g s) := .after (.when (fun h => .raiseFlag (.fio h)))
theorem answers_execUvAck {via g} : Answers s (execUvAck via g s) := .on (.hostGate .uvAck)
theorem answers_execSbcPullEnd {t p mA} : Answers s (execSbcPullEnd t p mA s) := .after (.when (fun h => .fset (.fio h)))
theorem answers_execSbcTestPulse {t p mA} : Answers s (execSbcTestPulse t p mA s) := .after (.when .fset)

theorem answers_execSbcFault {t p open_ mA} : Answers s (execSbcFault t p open_ mA s) :=
  .after (.when (fun h => .raise (.fio (.setSbc (.fset (.raiseFlag h))))))

theorem answers_execStoTestPulse {t n} : Answers s (execStoTestPulse t n s) := .on .advance

theorem answers_execStoOverload {t n} : Answers s (execStoOverload t n s) :=
  .after (.when (fun h => .raise (.edgRefresh (.fsetBit (.fsetBit h)))))

/-! #### Time base -/

theorem answers_execSlewComplete {t} : Answers s (execSlewComplete t s) := .after (.when (fun h => .timTo (.slewEnd h)))
theorem answers_execAcceptStep {via} : Answers s (execAcceptStep via s) := .on (.hostGate .timAccept)
theorem answers_execTimSet {via} : Answers s (execTimSet via s) := .on (.hostGate .timSet)
theorem answers_execPpsInEdge {t} : Answers s (execPpsInEdge t s) := .after (.when (fun h => .when .ofsHandle (.fset (.fset h))))
theorem answers_execPpsOutRise {t} : Answers s (execPpsOutRise t s) := .after (.when (fun h => .holdFrom (.pins h)))
theorem answers_execPpsOutFall {t} : Answers s (execPpsOutFall t s) := .after (.when .pins)
theorem answers_execAonIncMeasure {t v} : Answers s (execAonIncMeasure t v s) := .after (.when .wr)

/-! #### Partner link -/

theorem answers_execContextSilence {t i} : Answers s (execContextSilence t i s) :=
  .after (.unless (fun h => .ite (.unless (fun h => .raise (.raiseFlag h)) h) (.raise (.ctxFree h))))

theorem answers_execKeyLoad {via} : Answers s (execKeyLoad via s) := .on (.hostGate .keyLoad)
theorem answers_execKeyActivate {via} : Answers s (execKeyActivate via s) := .on (.hostGate .keyActivate)

/-! #### PTP -/

theorem answers_execPtpSyncReceive {t p m} : Answers s (execPtpSyncReceive t p m s) :=
  .on (.ptpRecv (.unless (fun h1 => .ite (.setPort h1) (.syncDone h1))))

theorem answers_execPtpFollowUpReceive {t p m} : Answers s (execPtpFollowUpReceive t p m s) := by
  unfold execPtpFollowUpReceive
  exact .on (.ptpRecv (fun h1 => (by split; exacts [.when .syncDone h1, h1])))

theorem answers_execPtpDelayRespReceive {t p m} : Answers s (execPtpDelayRespReceive t p m s) := by
  unfold execPtpDelayRespReceive
  dsimp only
  exact .on (.ptpRecv (fun h1 => (by split; exacts [.when .setPort h1, h1])))

theorem answers_execPtpPdelayRespReceive {t p m} : Answers s (execPtpPdelayRespReceive t p m s) := by
  unfold execPtpPdelayRespReceive
  exact .on (.ptpRecv (fun h1 => (by split; exacts [.unless (fun h1 => .ite (.setPort h1) (.peerDelay h1)) h1, h1])))

theorem answers_execPtpPdelayRespFollowUpReceive {t p m} : Answers s (execPtpPdelayRespFollowUpReceive t p m s) := by
  unfold execPtpPdelayRespFollowUpReceive
  exact .on (.ptpRecv (fun h1 => (by split; exacts [.when (fun h1 => .peerDelay (.setPort h1)) h1, h1])))

theorem answers_execPtpAnnounceReceive {t p m} : Answers s (execPtpAnnounceReceive t p m s) := .on (.ptpRecv .announceIn)

theorem answers_execAnnounceReceiptTimeout {t p} : Answers s (execAnnounceReceiptTimeout t p s) :=
  .after (.when (fun h => .selUpdate (.setPort (.tim h le_rfl))))

theorem answers_execOffsetTimeout {t p} : Answers s (execOffsetTimeout t p s) :=
  .after (.when (fun h => .selUpdate (.setPort (.bump (.tim h le_rfl)))))

theorem answers_execPtpSyncSend {t p} : Answers s (execPtpSyncSend t p s) := .after (.when (fun h => .sendPtp (.setPort h)))
theorem answers_execPtpAnnounceSend {t p} : Answers s (execPtpAnnounceSend t p s) := .after (.when (fun h => .bump (.out (.setPort h))))
theorem answers_execPtpDelayReqSend {t p} : Answers s (execPtpDelayReqSend t p s) := .after (.when .sendReq)
theorem answers_execPtpPdelayReqSend {t p} : Answers s (execPtpPdelayReqSend t p s) := .after (.when .sendReq)
theorem answers_execPtpDelayReqReceive {t p m} : Answers s (execPtpDelayReqReceive t p m s) := .after (fun h => .when .sendPtp (.rxPtp h))
theorem answers_execPtpPdelayReqReceive {t p m dep} : Answers s (execPtpPdelayReqReceive t p m dep s) := .on (.ptpRecv (.unless .sendPtp))

theorem answers_execPtpOtherMessage {t p l} : Answers s (execPtpOtherMessage t p l s) :=
  .on (fun h => .ite (.bump (.rxPtp (.advance h))) (.rxPtp (.advance h)))

/-! #### Imposition -/

theorem answers_execLayoutDue {t i err} : Answers s (execLayoutDue t i err s) := by
  unfold execLayoutDue
  exact .after (fun h => .unless (fun h2 => .ite (.layOverrun h2) (.workAdd h2)) (by split; exacts [.layErr h, h]))

theorem answers_execReceiveApply {t errs} : Answers s (execReceiveApply t errs s) := by
  unfold execReceiveApply
  exact .after
    (fun h =>
      .via
        (fun h1 =>
          (by
            split
            · exact .unless
                (fun h1 =>
                  (by
                    split
                    · exact .workDone (.battScan (.when (fun h1 => .when (fun h3 => .wdtEndpoint (.writeSram h3)) (.forN .epApply h1)) h1))
                    · exact h1))
                h1
            · exact h1))
        (.noteErrs h))

theorem answers_execLayoutLost {t i errs} : Answers s (execLayoutLost t i errs s) :=
  .after (fun h => .unless (fun h1 => .raise (.when .layZero (.setLay h1))) (.noteErrs h))

theorem answers_execPathLost {t i p} : Answers s (execPathLost t i p s) := .after (.unless (fun h => .raise (.setLay h)))

/-! #### Platens -/

theorem answers_execSortNop {a} : Answers s (execSortNop a s) := .on .issueNop
theorem answers_execSortMac {a} : Answers s (execSortMac a s) := .on .issue
theorem answers_execMacDual {a} : Answers s (execMacDual a s) := .on .issue
theorem answers_execSortLda {a} : Answers s (execSortLda a s) := .on .issue
theorem answers_execSortAdd {a} : Answers s (execSortAdd a s) := .on .issue
theorem answers_execSortAcc {a} : Answers s (execSortAcc a s) := .on .issue
theorem answers_execSortShf {a} : Answers s (execSortShf a s) := .on .issue
theorem answers_execUnaNeg {a} : Answers s (execUnaNeg a s) := .on .issue
theorem answers_execUnaAbs {a} : Answers s (execUnaAbs a s) := .on .issue
theorem answers_execUnaRnd {a} : Answers s (execUnaRnd a s) := .on .issue
theorem answers_execUnaClr {a} : Answers s (execUnaClr a s) := .on .issue
theorem answers_execSortMin {a} : Answers s (execSortMin a s) := .on .issue
theorem answers_execSortMax {a} : Answers s (execSortMax a s) := .on .issue
theorem answers_execSortLim {a} : Answers s (execSortLim a s) := .on .issue
theorem answers_execSortSel {a} : Answers s (execSortSel a s) := .on .issue
theorem answers_execSortLut {a} : Answers s (execSortLut a s) := .on .issue
theorem answers_execSortDld {a} : Answers s (execSortDld a s) := .on .issue
theorem answers_execSortDst {a} : Answers s (execSortDst a s) := .on .issue
theorem answers_execSortStx {a} : Answers s (execSortStx a s) := .on .issue
theorem answers_execSortSty {a} : Answers s (execSortSty a s) := .on .issue
theorem answers_execSortStxy {a} : Answers s (execSortStxy a s) := .on .issue
theorem answers_execSortMov {a} : Answers s (execSortMov a s) := .on .issue
theorem answers_execSortPset {a} : Answers s (execSortPset a s) := .on .issue
theorem answers_execPmodStride {a} : Answers s (execPmodStride a s) := .on .issue
theorem answers_execPmodModulo {a} : Answers s (execPmodModulo a s) := .on .issue
theorem answers_execSortRep {a} : Answers s (execSortRep a s) := .on .issueRep
theorem answers_execSortRepb {a} : Answers s (execSortRepb a s) := .on .issueRep
theorem answers_execBexpClear {a} : Answers s (execBexpClear a s) := .on .issue
theorem answers_execBexpFeed {a} : Answers s (execBexpFeed a s) := .on .issue
theorem answers_execBexpGet {a} : Answers s (execBexpGet a s) := .on .issue
theorem answers_execBexpLatch {a} : Answers s (execBexpLatch a s) := .on .issue
theorem answers_execSortBscl {a} : Answers s (execSortBscl a s) := .on .issue
theorem answers_execSortSev {a} : Answers s (execSortSev a s) := .on .issue
theorem answers_execSortEnd {a} : Answers s (execSortEnd a s) := .on (.when .modPlt)

/-! #### Safety -/

theorem answers_execSafetyCycle {t supply rb} : Answers s (execSafetyCycle t supply rb s) := .after (.when .safetyCycle)
theorem answers_execSlsViolation {t a} : Answers s (execSlsViolation t a s) := .after (.when .safeStop)

theorem answers_execSafImplausible {t a} : Answers s (execSafImplausible t a s) := by
  unfold execSafImplausible
  exact .after (fun h => (by split; exacts [.when .safeStop h, h]))

theorem answers_execSecLostClear {t a} : Answers s (execSecLostClear t a s) := by
  unfold execSecLostClear
  exact .after (fun h => (by split; exacts [.when (fun h => .takeOfs (.fset h)) h, h]))

theorem answers_execDrySecond {t} : Answers s (execDrySecond t s) := .after (.when .fset)
theorem answers_execDryExpired {t} : Answers s (execDryExpired t s) := .after (.when .safeStop)
theorem answers_execEnterComm {via} : Answers s (execEnterComm via s) := .on (.hostGate .enterComm)
theorem answers_execExitComm {via} : Answers s (execExitComm via s) := .on (.hostGate .exitComm)
theorem answers_execSafReset {via} : Answers s (execSafReset via s) := .on (.hostGate .safReset)
theorem answers_execSafStop {via} : Answers s (execSafStop via s) := .on (.hostGate .safStop)
theorem answers_execDryAck {via} : Answers s (execDryAck via s) := .on (.hostGate .dryAck)
theorem answers_execSafConfirm {via v} : Answers s (execSafConfirm via v s) := .on (.hostGate .safConfirm)

theorem answers_execConfirmRecordDone {t} : Answers s (execConfirmRecordDone t s) := by
  unfold execConfirmRecordDone
  exact .after
    (fun h => (by split; exacts [h, .btUpdate (.confUpdate (.busyUpdate (.forN .setPass (.put h ⟨rfl, rfl, rfl, rfl, id, id, le_rfl⟩))))]))

theorem answers_execSigRecomputeDone {t} : Answers s (execSigRecomputeDone t s) := .after (.when (fun h => .sigCalc (.busyUpdate (.saf h))))
theorem answers_execBtGo {via a} : Answers s (execBtGo via a s) := .on (.hostGate .btGo)

theorem answers_execBrakeTestCheckStart {t} : Answers s (execBrakeTestCheckStart t s) := by
  unfold execBrakeTestCheckStart
  exact .after (fun h => (by split; exacts [.saf h, h]))

theorem answers_execBrakeTestPhaseEnd {t} : Answers s (execBrakeTestPhaseEnd t s) := by
  unfold execBrakeTestPhaseEnd
  exact .after (fun h => (by split; exacts [h, .ite (.raise (.saf (.fset h))) (.btEnd h)]))

theorem answers_execBtCancel {via} : Answers s (execBtCancel via s) := .on (.hostGate .btEnd)
theorem answers_execBtClrFail {via a} : Answers s (execBtClrFail via a s) := .on (.hostGate .btClrFail)
theorem answers_execPoweredHour {t} : Answers s (execPoweredHour t s) := .after (fun h => .btUpdate (.nv h))

theorem answers_execProofWindowClose {t n seq} : Answers s (execProofWindowClose t n seq s) := by
  unfold execProofWindowClose
  exact .after
    (fun h => (by split; exacts [h, .via (fun h2 => .ite (.bump (.psAccept h2)) (.when .bump h2)) (.psRun (.raiseFlag (.psClose h)))]))

theorem answers_execProofWatchdog {t n} : Answers s (execProofWatchdog t n s) := .after (.when (fun h => .safeStop (.setPs (.fset h))))

theorem answers_execKfbDiscrepancy {t k} : Answers s (execKfbDiscrepancy t k s) :=
  .after (.when (fun h => .when (fun h2 => .safeStop (.saf h2)) (.unless .saf h)))

theorem answers_execKfbDiscrepancyClear {t k} : Answers s (execKfbDiscrepancyClear t k s) := .after (fun h => .when .saf (.kfbScan h))

theorem answers_execDiagPass {t wrong ue ce} : Answers s (execDiagPass t wrong ue ce s) :=
  .after (.when (fun h => .selfTest (.selfTest (.bump (.fset (.raiseFlag h))))))

theorem answers_execClockCheck {t n} : Answers s (execClockCheck t n s) := .after (.when (fun h => .selfTest (.unless .fset h)))
theorem answers_execReadbackFault {t} : Answers s (execReadbackFault t s) := .after .selfTest
theorem answers_execFbkStall {t} : Answers s (execFbkStall t s) := .after (.when .safeStop)

/-! #### Device -/

theorem answers_execReqReady {via} : Answers s (execReqReady via s) := .on (.hostGate .reqReady)
theorem answers_execReqRun {via} : Answers s (execReqRun via s) := .on (.hostGate .reqRun)
theorem answers_execReqDoze {via} : Answers s (execReqDoze via s) := .on (.hostGate .reqDoze)
theorem answers_execStopAck {via} : Answers s (execStopAck via s) := .on (.hostGate .stopAck)
theorem answers_execStartPolicyRun {t} : Answers s (execStartPolicyRun t s) := .after .startRun

/-! #### Profiles and axes -/

theorem answers_execMoveAbs {via m} : Answers s (execMoveAbs via m s) := .on (.hostGate .prfCmd)
theorem answers_execMoveRel {via m} : Answers s (execMoveRel via m s) := .on (.hostGate .prfCmd)
theorem answers_execJogPos {via m} : Answers s (execJogPos via m s) := .on (.hostGate .prfCmd)
theorem answers_execJogNeg {via m} : Answers s (execJogNeg via m s) := .on (.hostGate .prfCmd)
theorem answers_execPrfStop {via m} : Answers s (execPrfStop via m s) := .on (.hostGate .prfCmd)
theorem answers_execPrfAbort {via m} : Answers s (execPrfAbort via m s) := .on (.hostGate .prfCmd)
theorem answers_execAcdEngage {via a} : Answers s (execAcdEngage via a s) := .on (.hostGate .acdCmd)
theorem answers_execAcdDisengage {via a} : Answers s (execAcdDisengage via a s) := .on (.hostGate .acdCmd)
theorem answers_execPthStart {via g} : Answers s (execPthStart via g s) := .on (.hostGate .pthCmd)
theorem answers_execPthHold {via g} : Answers s (execPthHold via g s) := .on (.hostGate .pthCmd)
theorem answers_execPthResume {via g} : Answers s (execPthResume via g s) := .on (.hostGate .pthCmd)
theorem answers_execPthStop {via g} : Answers s (execPthStop via g s) := .on (.hostGate .pthCmd)
theorem answers_execPthAbort {via g} : Answers s (execPthAbort via g s) := .on (.hostGate .pthCmd)
theorem answers_execPthPush {via g} : Answers s (execPthPush via g s) := .on (.hostGate .pthPush)
theorem answers_execPthFlush {via g} : Answers s (execPthFlush via g s) := .on (.hostGate .pthFlush)

/-! #### Rescue -/

theorem answers_execRescueTrigger {t} : Answers s (execRescueTrigger t s) := .after (.when .rescTrigger)
theorem answers_execRescueGo {via} : Answers s (execRescueGo via s) := .on (.hostGate .rescTrigger)
theorem answers_execRescueReq {t} : Answers s (execRescueReq t s) := .after (fun h => .when .rescTrigger (.rescueReq h))

theorem answers_execRescueHoldValid {t m errs} : Answers s (execRescueHoldValid t m errs s) :=
  .after (fun h => .when (fun h1 => .rescNext (.rescPlan h1)) (.noteErrs h))

theorem answers_execRescueHoldTimeout {t m errs} : Answers s (execRescueHoldTimeout t m errs s) :=
  .after (fun h => .when (fun h1 => .rescNext (.rescBlind h1)) (.noteErrs h))

theorem answers_execRescueUndervoltage {t} : Answers s (execRescueUndervoltage t s) :=
  .after (.when (fun h => .rescNext (.forN .rescAbort h)))

/-! #### Tracks -/

theorem answers_execTrackEvaluation {t errs} : Answers s (execTrackEvaluation t errs s) :=
  .after (fun h => .when (.forN .evalTrack) (.noteErrs h))

theorem answers_execHallFaultClear {via k hi v} : Answers s (execHallFaultClear via k hi v s) := .on (.hostGate .hallFaultClear)
theorem answers_execMoverRequest {via m n} : Answers s (execMoverRequest via m n s) := .on (.hostGate .moverRequest)

/-! #### The pair -/

theorem answers_execFeedMeasure {t v0 v1 vor} : Answers s (execFeedMeasure t v0 v1 vor s) :=
  .after (.unless (fun h => .orJudge (.feedScan (.feedMeasure (.feedMeasure h)))))

theorem answers_execFeedClassChange {t f} : Answers s (execFeedClassChange t f s) :=
  .after (fun h => .feedScan (.unless (fun h => .ite (.when .feedClass h) (.ite (.feedClass h) (.when .feedClass h))) h))

theorem answers_execFeedSelect {t} : Answers s (execFeedSelect t s) := .after (.when (fun h => .holdMark (.raise (.fset h))))
theorem answers_execBatteryDetect {t f} : Answers s (execBatteryDetect t f s) := .after (.when (fun h => .feedScan (.raiseFlag h)))

theorem answers_execPowerFail {t dip} : Answers s (execPowerFail t dip s) :=
  .after (.unless (fun h => .unless (fun h2 => .ite (.flushSkip h2) (.ite (.modPar h2) (.flushStart h2))) (.raiseFlag (.noteErrs h))))

theorem answers_execRegionEraseDone {t} : Answers s (execRegionEraseDone t s) := by
  unfold execRegionEraseDone
  exact .after (fun h => (by split; exacts [.rom h, h]))

theorem answers_execEssenceCapture {t errs} : Answers s (execEssenceCapture t errs s) := by
  unfold execEssenceCapture
  exact .after
    (.when
      (fun h =>
        .via (fun h2 => .ite (.bump h2) (by split; exacts [.bump (.poisonedRead h2), .modPar h2])) (.askedScan (.modPar (.noteErrs h)))))

theorem answers_execEssenceSent {t full} : Answers s (execEssenceSent t full s) := by
  unfold execEssenceSent
  exact .after (fun h => (by split; exacts [h, .via (fun h2 => .ite (.bump h2) (.ite h (.out (.fset (.modPar h2))))) (.modPar h)]))

theorem answers_execHandbackConfirm {t} : Answers s (execHandbackConfirm t s) :=
  .after (.unless (fun h => .ite (.withdraw h) (.when (fun h => .ite (.withdraw h) (.modPar h)) h)))

theorem answers_execParRelease {via} : Answers s (execParRelease via s) := .on (.hostGate .parRelease)
theorem answers_execReleaseTimeout {t} : Answers s (execReleaseTimeout t s) := .after (.when .withdraw)

theorem answers_execEssenceReceive {t e tr} : Answers s (execEssenceReceive t e tr s) :=
  .after (.unless (fun h => .ite (.when .handbackValid (.counterOffsets (.fset (.fset (.modPar h))))) (.when .raiseFlag (.bump h))))

theorem answers_execStandbyCounterLatch {t} : Answers s (execStandbyCounterLatch t s) := .after (.when .modPar)

theorem answers_execOwnInChange {t level} : Answers s (execOwnInChange t level s) :=
  .after (fun h => .via (fun h2 => .ite (.judge (.modPar h2)) (.when .ownSeen h2)) (.ownRefresh (.pins h)))

theorem answers_execHbSilence {t} : Answers s (execHbSilence t s) :=
  .after (fun h => .unless (fun h2 => .ite (.judge h2) (.roleFlags h2)) (.when .modPar h))

theorem answers_execHbInPulse {t} : Answers s (execHbInPulse t s) := .after (.when (fun h => .roleFlags (.holdFrom (.modPar h))))
theorem answers_execPenFbChange {t level} : Answers s (execPenFbChange t level s) := .after (fun h => .when .takeover (.pins h))
theorem answers_execMirrorLinkLoss {t} : Answers s (execMirrorLinkLoss t s) := .after (fun h => .roleFlags (.modPar h))
theorem answers_execMirrorLinkUp {t} : Answers s (execMirrorLinkUp t s) := .after (fun h => .roleFlags (.modPar h))

theorem answers_execTakebackRequest {t quiet} : Answers s (execTakebackRequest t quiet s) :=
  .after (fun h => .ite (.ite (.modPar (.out h)) (.takebackLapse h)) (.when .modPar h))

theorem answers_execHeartbeatPulse {t} : Answers s (execHeartbeatPulse t s) :=
  .after (.when (fun h => .ownDrive (.out (.holdFrom (.modPar h)))))

theorem answers_execOwnOutRelease {t} : Answers s (execOwnOutRelease t s) := .after (.when (fun h => .ownDrive (.modPar h)))

theorem answers_execOwnershipClaim {t seen} : Answers s (execOwnershipClaim t seen s) :=
  .after
    (.unless
      (fun h =>
        .ite (.when (fun h => .holdMark (.holdMark (.setClaim h))) h)
          (.unless (fun h => .ite (.enterStandby (.setClaim h)) (.enterReady (.modPar h))) h)))

theorem answers_execOwnConflict {t} : Answers s (execOwnConflict t s) :=
  .after (.when (fun h => .when (fun h2 => .setClaim (.modPar h2)) (.raise (.raiseFlag h))))

theorem answers_execTakeoverRestoreDone {t} : Answers s (execTakeoverRestoreDone t s) := by
  unfold execTakeoverRestoreDone
  exact .after (.when (fun h => .takeStart (.modPar (by split; exacts [.modPar (.restoreEss h), h]))))

theorem answers_execTakeoverComplete {t} : Answers s (execTakeoverComplete t s) := by
  unfold execTakeoverComplete
  exact .after
    (.when
      (fun h =>
        .via
          (fun h2 =>
            .via (fun h3 => .edgRefresh (.modPar (by split; exacts [.when .raise h3, h3])))
              (by
                split
                · exact .via (fun h5 => .ite (.safTakeover (.fset (.fset h5))) (.safTakeover h5)) (.mot h2)
                · exact .safTakeover (.raiseFlag h2)))
          (.setDev h)))

/-! #### Quoins -/

theorem answers_execQuoBegin {via} : Answers s (execQuoBegin via s) := .on (.hostGate .quoBegin)
theorem answers_execQsStagedWrite {via a v} : Answers s (execQsStagedWrite via a v s) := .on (.hostGate .qsWrite)
theorem answers_execQsImplicitWrite {via a v} : Answers s (execQsImplicitWrite via a v s) := .on (.hostGate .qsWrite)
theorem answers_execQuoCommit {via} : Answers s (execQuoCommit via s) := .on (.hostGate .quoCommit)
theorem answers_execQuoRollback {via} : Answers s (execQuoRollback via s) := .on (.hostGate .quoRollback)
theorem answers_execQuoinTimeout {t} : Answers s (execQuoinTimeout t s) := .after .quoTimeout

/-! #### Banks -/

theorem answers_execStagedBankWrite {via a v} : Answers s (execStagedBankWrite via a v s) := by
  unfold execStagedBankWrite
  exact .on (.hostGate (fun h1 => (by split; exacts [.ite (.stgWrite h1) (.hostDrop h1), .hostDrop h1])))

theorem answers_execStgWorstDone {t p} : Answers s (execStgWorstDone t p s) := .after (.when .modPlt)

theorem answers_execOutputPublish {t p ats errs merrs} : Answers s (execOutputPublish t p ats errs merrs s) :=
  .after (fun h => .when .publish (.noteErrs h))

/-! #### Scheduled actions -/

theorem answers_execSchArm {via i} : Answers s (execSchArm via i s) := .on (.hostGate .schCtl)
theorem answers_execSchCancel {via i} : Answers s (execSchCancel via i s) := .on (.hostGate .schCtl)

theorem answers_execScheduledActionFire {t} : Answers s (execScheduledActionFire t s) :=
  .after (.when (fun h => .schCount (.forN .schCheck h)))

/-! #### Boundaries -/

theorem answers_execImpressionBoundary {t bits errs mm quo scrub} : Answers s (execImpressionBoundary t bits errs mm quo scrub s) := by
  unfold execImpressionBoundary
  exact .after
    (fun h =>
      .via (fun h1 => .via (fun h2 => .when .impBoundary (by split; exacts [.quoErr h2, h2])) (by split; exacts [.mmErr h1, h1]))
        (.noteErrs h))

/-! #### CAN -/

theorem answers_execCanInitSet {via k} : Answers s (execCanInitSet via k s) := .on (.hostGate .canInitSet)
theorem answers_execInitEffect {t k} : Answers s (execInitEffect t k s) := .after (.when (fun h => .setCan (.mbFailAll h)))
theorem answers_execCanInitClear {via k} : Answers s (execCanInitClear via k s) := .on (.hostGate .canInitClear)
theorem answers_execIntegrationDone {t k} : Answers s (execIntegrationDone t k s) := .after (.when .fset)
theorem answers_execCanTxreq {via k b} : Answers s (execCanTxreq via k b s) := .on (.hostGate (.mbMask .mbRequest))
theorem answers_execCanTxcancel {via k b tx} : Answers s (execCanTxcancel via k b tx s) := .on (.hostGate (.mbMask .mbCancel))

theorem answers_execCanFrameTransmitted {t k sof err} : Answers s (execCanFrameTransmitted t k sof err s) := by
  unfold execCanFrameTransmitted
  exact .after
    (.unless
      (fun h =>
        (by
          split
          · exact h
          · exact .setCounts (.when .canDeliver (.unless .out (.setCan (.fsetBit (.fsetBit (.fset (.fset (.mbAttempt (.mbErr h))))))))))))

theorem answers_execArbitrationLost {t k sof} : Answers s (execArbitrationLost t k sof s) := by
  unfold execArbitrationLost
  exact .after (.unless (fun h => (by split; exacts [h, .mbMiss h])))

theorem answers_execCanBusError {t k tx sof e} : Answers s (execCanBusError t k tx sof e s) := .after (.when .canError)
theorem answers_execCanRecover {via k} : Answers s (execCanRecover via k s) := .on (.hostGate .canRecover)
theorem answers_execCanRecovered {t k} : Answers s (execCanRecovered t k s) := .after (.when (fun h => .raise (.setEstate (.fset (.wr h)))))

theorem answers_execCanFrameReceive {t k sof f} : Answers s (execCanFrameReceive t k sof f s) :=
  .after (.unless (fun h => .canDeliver (.ite (.setCounts h) (.setCounts (.openVal h)))))

theorem answers_execCanPop {via k q} : Answers s (execCanPop via k q s) := .on (.hostGate .queuePop)

theorem answers_execWindowRefill {t k q err} : Answers s (execWindowRefill t k q err s) := by
  unfold execWindowRefill
  exact .after (fun h => (by split; exacts [.windowFill (by split; exacts [.when .setQueue (.localErr h), h]), h]))

theorem answers_execQueueFlush {via k q} : Answers s (execQueueFlush via k q s) := .on (.hostGate .queueFlush)

theorem answers_execProtocolException {t k} : Answers s (execProtocolException t k s) :=
  .after (.unless (fun h => .ite (.raise (.setCan (.raiseFlag (.bump h)))) (.canError h)))

theorem answers_execProtocolExceptionEnd {t k} : Answers s (execProtocolExceptionEnd t k s) := .after (.when .setCan)

theorem answers_execCanWakeMatch {t k id ide} : Answers s (execCanWakeMatch t k id ide s) := by
  unfold execCanWakeMatch
  exact .after (.unless (fun h => (by split; exacts [h, .wakeEvent (.raise (.raiseFlag h))])))

/-! #### Event log -/

theorem answers_execEventLogWrite {t} : Answers s (execEventLogWrite t s) := .after (fun h => .evtIrq (.evtWrite h))
theorem answers_execEvtPop {via n} : Answers s (execEvtPop via n s) := .on (.hostGate .evtPop)
theorem answers_execEvtClear {via} : Answers s (execEvtClear via s) := .on (.hostGate .evtClear)

theorem answers_execEvtEntryCapture {via err} : Answers s (execEvtEntryCapture via err s) := by
  unfold execEvtEntryCapture
  exact .on (.hostGate (fun h1 => .sendRd (.evtCapture (by split; exacts [.evtErr h1, h1]))))

theorem answers_execScrubBlock {t r found} : Answers s (execScrubBlock t r found s) := .after (.when .scrubBlock)

/-! #### Galley load -/

theorem answers_execFlashTimeout {t} : Answers s (execFlashTimeout t s) := .after (.when .glyFail)
theorem answers_execImageStaged {t img errs} : Answers s (execImageStaged t img errs s) := .after (fun h => .when .loadStep (.noteErrs h))
theorem answers_execSignatureVerified {t} : Answers s (execSignatureVerified t s) := .after (.when (fun h => .ite (.glyTo h) (.glyFail h)))
theorem answers_execGalleyApply {t} : Answers s (execGalleyApply t s) := .after (.when .glyApply)
theorem answers_execHostLoad {via} : Answers s (execHostLoad via s) := .on (.hostGate .hostLoad)
theorem answers_execSkipFlash {via} : Answers s (execSkipFlash via s) := .on (.hostGate .skipFlash)
theorem answers_execKeyProg {via slot} : Answers s (execKeyProg via slot s) := .on (.hostGate .keyCtl)
theorem answers_execSetRequire {via} : Answers s (execSetRequire via s) := .on (.hostGate .keyCtl)
theorem answers_execKeyProgDone {t} : Answers s (execKeyProgDone t s) := .after .keyDone

/-! #### Network -/

theorem answers_execFolioFrameReceive {t p f ok err} : Answers s (execFolioFrameReceive t p f ok err s) := by
  unfold execFolioFrameReceive
  dsimp only
  exact .after
    (fun h =>
      .via
        (fun h2 =>
          (by
            split
            · exact .rxFolio h2
            · exact .unless
                (fun h3 => .forL .layFrame (by split; exacts [h3, (by split; exacts [.layAllocated (.admitCtx h3), .admitCtx h3])]))
                (.rxFolio h2)))
        (by split; exacts [.ctxErr h, h]))

theorem answers_execProofFrameReceive {t p f ok} : Answers s (execProofFrameReceive t p f ok s) := by
  unfold execProofFrameReceive
  exact .on
    (fun h =>
      (by
        split
        · exact .rxFolio (.advance h)
        · exact .unless (fun h1 => (by split; exacts [h1, .ite (.bump h1) (.proofCopy (.ctxValid h1))])) (.rxFolio (.advance h))))

theorem answers_execWakeFrame {t p f} : Answers s (execWakeFrame t p f s) := by
  unfold execWakeFrame
  exact .after
    (.unless (.unless (.unless (fun h => (by split; exacts [h, .unless (fun h => .ite (.bump h) (.wakeEvent (.ctxValid h))) h])))))

theorem answers_execFrameDeparture {t p} : Answers s (execFrameDeparture t p s) := by
  unfold execFrameDeparture
  exact .after
    (.unless (fun h => (by split; exacts [h, .via (fun h2 => .ite (.sendFrame (.openVal (.openVal h2))) (.sendFrame h2)) (.net h)])))

theorem answers_execLayoutWorkComplete {t errs} : Answers s (execLayoutWorkComplete t errs s) := by
  unfold execLayoutWorkComplete
  exact .after (fun h => .via (fun h1 => (by split; exacts [.unless (fun h1 => .workDone (.when .layTransmit h1)) h1, h1])) (.noteErrs h))

theorem answers_execProofPduSend {t n} : Answers s (execProofPduSend t n s) := .after (.unless (fun h => .forN .txPut (.psPdu h)))

theorem answers_execArpRequest {t p l sip tip} : Answers s (execArpRequest t p l sip tip s) :=
  .after (.unless (fun h => .ite (.sendFrame (.bump h)) (.bump h)))

theorem answers_execLinkChange {t p sp eee} : Answers s (execLinkChange t p sp eee s) :=
  .after (fun h => .ite (.when .linkSet h) (.when .linkSet h))

theorem answers_execTxKick {via} : Answers s (execTxKick via s) :=
  .on (fun h => .hostGate (fun h1 => .txKick (.noteErrs h1)) (.when .holdErrs h))

theorem answers_execEthcFrameSent {t errs} : Answers s (execEthcFrameSent t errs s) :=
  .after (fun h => .when (fun h1 => .txLook (.net (.sendFrame (.setDescWord (.readBytes (.descAddr (.descWord h1))))))) (.noteErrs h))

theorem answers_execEthcFrameReceive {t f ok errs} : Answers s (execEthcFrameReceive t f ok errs s) :=
  .after (fun h => .unless (fun h1 => .ite (.bump h1) (.via (fun h2 => .ite (.bump h2) (.net (.setDescWord (.writeMemBytes (.writeMemBytes
    (.descAddr (.bump h2))))))) (.descWord h1))) (.noteErrs h))

/-! #### Host accesses -/

theorem answers_execRegisterWrite {via a v} : Answers s (execRegisterWrite via a v s) := .on .port32
theorem answers_execReadClear {via a} : Answers s (execReadClear via a s) := .on .port32
theorem answers_execPairLowRead {via a} : Answers s (execPairLowRead via a s) := .on .portGate
theorem answers_execSfWrite {via a v} : Answers s (execSfWrite via a v s) := .on .portGate

theorem answers_execPcieWriteRequest {t a bytes errs} : Answers s (execPcieWriteRequest t a bytes errs s) :=
  .after (fun h => .portGate (.writeErrs h))

theorem answers_execPcieReadRequest {t a n errs perrs} : Answers s (execPcieReadRequest t a n errs perrs s) :=
  .after (fun h => .portGate (.readErrs h))

theorem answers_execQspiWrite {t cmd a words errs} : Answers s (execQspiWrite t cmd a words errs s) :=
  .on (.qspiCmd (fun h1 => .qspiWords (.readErrs h1)) .qspiRead)

theorem answers_execQspiRead {t cmd a n errs} : Answers s (execQspiRead t cmd a n errs s) :=
  .on (.qspiCmd (fun h1 => .qspiWords (.drawn h1)) .qspiRead)

theorem answers_execQspiTransferEnd {t clocks} : Answers s (execQspiTransferEnd t clocks s) := .after .qspi
theorem answers_execIrqSwset {via v} : Answers s (execIrqSwset via v s) := .on (.hostGate .irqSwset)
theorem answers_execHostAccessWake {via a w} : Answers s (execHostAccessWake via a w s) := .on .port32
theorem answers_execPlatenMemoryAccess {via a w errs} : Answers s (execPlatenMemoryAccess via a w errs s) := .on .portGate

theorem answers_execHeldAccessComplete {t p errs} : Answers s (execHeldAccessComplete t p errs s) := by
  unfold execHeldAccessComplete
  exact .after (fun h => (by split; exacts [h, .unless (fun h => .request (.setPlt h)) h]))

/-! #### TAP -/

theorem answers_execTapReset {t} : Answers s (execTapReset t s) := .after (.unless .tapSet)
theorem answers_execTapExtest {t cells levels} : Answers s (execTapExtest t cells levels s) := .after .tapBoundary
theorem answers_execTapIdcode {t} : Answers s (execTapIdcode t s) := .after .tapUpdate
theorem answers_execSamplePreload {t cells levels} : Answers s (execSamplePreload t cells levels s) := .after .tapBoundary
theorem answers_execTapUsercode {t} : Answers s (execTapUsercode t s) := .after .tapUpdate
theorem answers_execTapClamp {t} : Answers s (execTapClamp t s) := .after .tapUpdate
theorem answers_execTapHighz {t} : Answers s (execTapHighz t s) := .after .tapUpdate
theorem answers_execTapBypass {t} : Answers s (execTapBypass t s) := .after .tapUpdate

/-! #### Measurements -/

theorem answers_execMeasJobStart {t entry} : Answers s (execMeasJobStart t entry s) := by
  unfold execMeasJobStart
  exact .after (fun h => (by split; exacts [.when (fun h => .jobCount (.acq (.modPlt h))) h, h]))

theorem answers_execMeasJobDone {t errs} : Answers s (execMeasJobDone t errs s) := by
  unfold execMeasJobDone
  exact .after (fun h => .via (fun h1 => (by split; exacts [.when .jobFinish h1, h1])) (.noteErrs h))

/-! #### Power -/

theorem answers_execPowerUp {t} : Answers s (execPowerUp t s) := .after (.when (fun h => .pwr h rfl))

theorem answers_execResetRelease {t} : Answers s (execResetRelease t s) :=
  .of (.ite (.tryBoot (.pwr (.advance .start) rfl) rfl) (.on (.advance .start)))

theorem answers_execPornRelease {t} : Answers s (execPornRelease t s) := .of (.tryBoot (.pins (.advance .start)) rfl)

theorem answers_execPornLow {t} : Answers s (execPornLow t s) :=
  .of (.ite (.on (.pins (.advance .start))) (.powerOff (.pins (.advance .start))))

theorem answers_execPowerOff {t} : Answers s (execPowerOff t s) :=
  .of (.ite (.on (.pwr (.advance .start) rfl)) (.ite (.on (.modPar (.advance .start))) (.powerOff (.pwr (.advance .start) rfl))))

theorem answers_execVholdLow {t} : Answers s (execVholdLow t s) :=
  .of (.ite (.powerOff (.pwr (.advance .start) rfl)) (.on (.advance .start)))

theorem answers_execDeviceReset {t} : Answers s (execDeviceReset t s) :=
  .after (fun h => .unless (fun h2 => .ite (.modPar h2) (.deviceReset h2)) (.pins h))

theorem answers_execRstnRelease {t} : Answers s (execRstnRelease t s) := .after (.unless (fun h => .when .bootLoad (.pins h)))

theorem answers_execFlushDone {t} : Answers s (execFlushDone t s) :=
  have h : Leads s (flushEnd (advance t s)) := .flushEnd (.advance .start)
  .of (.ite (.on (.advance .start)) (.ite (.powerOff (.pwr h rfl)) (.ite (.on (.afterReset (.deviceReset h))) (.on h))))

theorem answers_execDomainPowerSwitch {t d on} : Answers s (execDomainPowerSwitch t d on s) :=
  .after (.unless (fun h => .ite (.when .sysUp h) (.unless (fun h => .holdFrom (.ite (.domainUp h) (.domainOff h))) h)))

theorem answers_execIdleTimer {t} : Answers s (execIdleTimer t s) := .after (.when .sys)

theorem answers_execDozeEntry {t} : Answers s (execDozeEntry t s) :=
  .after (.when (fun h => .forN .recStop (.safDoze (.put (.bump (.raise (.toState (.fioFreeze (.sys (.when .flushStart (.quoApply h)))))))
    ⟨rfl, rfl, rfl, rfl, id, id, le_rfl⟩))))

theorem answers_execWakeComplete {t errs blks} : Answers s (execWakeComplete t errs blks s) :=
  .after (.when (fun h => .when (fun h8 => .rescTrigger (.modPar h8)) (.when .reqRun (.unless .raise (.enterReady (.pwr (.trackDark
    (.safWake (.when .canWake (.unless .wakePath (.fset (.fset h)))))) rfl))))))

theorem answers_execAonWakeTimer {t} : Answers s (execAonWakeTimer t s) := .after (.when .wakeEvent)
theorem answers_execXinLoss {t} : Answers s (execXinLoss t s) := .after (.unless (fun h => .raise (.pwr h rfl)))
theorem answers_execX32Loss {t} : Answers s (execX32Loss t s) := .after (.unless (fun h => .raise (.pwr h rfl)))

theorem answers_execThermalRead {t tj region} : Answers s (execThermalRead t tj region s) :=
  .after (.unless (fun h => .thermFlag (.thermFlag (.fset (.fset h)))))

/-! ### The queue of commands -/

theorem answers_exec : (c : Instr) → Answers s (exec c s)
  | .registerWrite .. => answers_execRegisterWrite
  | .readClear .. => answers_execReadClear
  | .pairLowRead .. => answers_execPairLowRead
  | .sfWrite .. => answers_execSfWrite
  | .qsImplicitWrite .. => answers_execQsImplicitWrite
  | .pcieWriteRequest .. => answers_execPcieWriteRequest
  | .pcieReadRequest .. => answers_execPcieReadRequest
  | .qspiWrite .. => answers_execQspiWrite
  | .qspiRead .. => answers_execQspiRead
  | .qspiTransferEnd _ clocks => answers_execQspiTransferEnd (clocks := clocks)
  | .irqSwset .. => answers_execIrqSwset
  | .hostAccessWake .. => answers_execHostAccessWake
  | .platenMemoryAccess .. => answers_execPlatenMemoryAccess
  | .heldAccessComplete .. => answers_execHeldAccessComplete
  | .quoBegin .. => answers_execQuoBegin
  | .qsStagedWrite .. => answers_execQsStagedWrite
  | .quoCommit .. => answers_execQuoCommit
  | .quoRollback .. => answers_execQuoRollback
  | .quoinTimeout .. => answers_execQuoinTimeout
  | .impressionBoundary .. => answers_execImpressionBoundary
  | .startPolicyRun .. => answers_execStartPolicyRun
  | .outputPublish .. => answers_execOutputPublish
  | .sortNop .. => answers_execSortNop
  | .sortMac .. => answers_execSortMac
  | .macDual .. => answers_execMacDual
  | .sortLda .. => answers_execSortLda
  | .sortAdd .. => answers_execSortAdd
  | .sortAcc .. => answers_execSortAcc
  | .sortShf .. => answers_execSortShf
  | .unaNeg .. => answers_execUnaNeg
  | .unaAbs .. => answers_execUnaAbs
  | .unaRnd .. => answers_execUnaRnd
  | .unaClr .. => answers_execUnaClr
  | .sortMin .. => answers_execSortMin
  | .sortMax .. => answers_execSortMax
  | .sortLim .. => answers_execSortLim
  | .sortSel .. => answers_execSortSel
  | .sortLut .. => answers_execSortLut
  | .sortDld .. => answers_execSortDld
  | .sortDst .. => answers_execSortDst
  | .sortStx .. => answers_execSortStx
  | .sortSty .. => answers_execSortSty
  | .sortStxy .. => answers_execSortStxy
  | .sortMov .. => answers_execSortMov
  | .sortPset .. => answers_execSortPset
  | .pmodStride .. => answers_execPmodStride
  | .pmodModulo .. => answers_execPmodModulo
  | .sortRep .. => answers_execSortRep
  | .sortRepb .. => answers_execSortRepb
  | .bexpClear .. => answers_execBexpClear
  | .bexpFeed .. => answers_execBexpFeed
  | .bexpGet .. => answers_execBexpGet
  | .bexpLatch .. => answers_execBexpLatch
  | .sortBscl .. => answers_execSortBscl
  | .sortSev .. => answers_execSortSev
  | .sortEnd .. => answers_execSortEnd
  | .stagedBankWrite .. => answers_execStagedBankWrite
  | .stgWorstDone .. => answers_execStgWorstDone
  | .measJobStart .. => answers_execMeasJobStart
  | .measJobDone .. => answers_execMeasJobDone
  | .ocTripAssert .. => answers_execOcTripAssert
  | .ocTripDeassert .. => answers_execOcTripDeassert
  | .warnRise .. => answers_execWarnRise
  | .warnFall .. => answers_execWarnFall
  | .sdmStuck .. => answers_execSdmStuck
  | .stuckClear .. => answers_execStuckClear
  | .settleEnd .. => answers_execSettleEnd
  | .ainConversionStart .. => answers_execAinConversionStart
  | .ainResult .. => answers_execAinResult
  | .carrierReload .. => answers_execCarrierReload
  | .compareFire .. => answers_execCompareFire
  | .interlockTurnOn .. => answers_execInterlockTurnOn
  | .shdGo .. => answers_execShdGo
  | .calibrationPass .. => answers_execCalibrationPass
  | .maskApply .. => answers_execMaskApply
  | .auxTimerFire .. => answers_execAuxTimerFire
  | .tripInputAssert .. => answers_execTripInputAssert
  | .tripInputDeassert .. => answers_execTripInputDeassert
  | .xlatchClear .. => answers_execXlatchClear
  | .tlatchClear .. => answers_execTlatchClear
  | .hallStateChange .. => answers_execHallStateChange
  | .encoderEdge .. => answers_execEncoderEdge
  | .zEdge _ _ _ st => answers_execZEdge (st := st)
  | .ssiReadStart .. => answers_execSsiReadStart
  | .ssiWordComplete .. => answers_execSsiWordComplete
  | .standstill .. => answers_execStandstill
  | .lostClear .. => answers_execLostClear
  | .refZArm .. => answers_execRefZArm
  | .latArm .. => answers_execLatArm
  | .latDisarm .. => answers_execLatDisarm
  | .latPop .. => answers_execLatPop
  | .latFlush .. => answers_execLatFlush
  | .latchCapture .. => answers_execLatchCapture
  | .latchEntryComplete .. => answers_execLatchEntryComplete
  | .latchEntryOld .. => answers_execLatchEntryOld
  | .cmpArm .. => answers_execCmpArm
  | .cmpLateFire .. => answers_execCmpLateFire
  | .cmpDisarm .. => answers_execCmpDisarm
  | .cmpPulseEnd .. => answers_execCmpPulseEnd
  | .tdcCalibration .. => answers_execTdcCalibration
  | .moverRequest .. => answers_execMoverRequest
  | .trackEvaluation .. => answers_execTrackEvaluation
  | .hallFaultClear .. => answers_execHallFaultClear
  | .moveAbs .. => answers_execMoveAbs
  | .moveRel .. => answers_execMoveRel
  | .jogPos .. => answers_execJogPos
  | .jogNeg .. => answers_execJogNeg
  | .prfStop .. => answers_execPrfStop
  | .prfAbort .. => answers_execPrfAbort
  | .acdEngage .. => answers_execAcdEngage
  | .acdDisengage .. => answers_execAcdDisengage
  | .pthStart .. => answers_execPthStart
  | .pthHold .. => answers_execPthHold
  | .pthResume .. => answers_execPthResume
  | .pthStop .. => answers_execPthStop
  | .pthAbort .. => answers_execPthAbort
  | .pthPush .. => answers_execPthPush
  | .pthFlush .. => answers_execPthFlush
  | .schArm .. => answers_execSchArm
  | .schCancel .. => answers_execSchCancel
  | .scheduledActionFire .. => answers_execScheduledActionFire
  | .reqReady .. => answers_execReqReady
  | .reqRun .. => answers_execReqRun
  | .reqDoze .. => answers_execReqDoze
  | .stopAck .. => answers_execStopAck
  | .safetyCycle .. => answers_execSafetyCycle
  | .slsViolation .. => answers_execSlsViolation
  | .safImplausible .. => answers_execSafImplausible
  | .secLostClear .. => answers_execSecLostClear
  | .drySecond .. => answers_execDrySecond
  | .rescueReq .. => answers_execRescueReq
  | .dryExpired .. => answers_execDryExpired
  | .enterComm .. => answers_execEnterComm
  | .exitComm .. => answers_execExitComm
  | .safReset .. => answers_execSafReset
  | .safStop .. => answers_execSafStop
  | .dryAck .. => answers_execDryAck
  | .safConfirm .. => answers_execSafConfirm
  | .confirmRecordDone .. => answers_execConfirmRecordDone
  | .sigRecomputeDone .. => answers_execSigRecomputeDone
  | .btGo .. => answers_execBtGo
  | .brakeTestCheckStart .. => answers_execBrakeTestCheckStart
  | .brakeTestPhaseEnd .. => answers_execBrakeTestPhaseEnd
  | .btCancel .. => answers_execBtCancel
  | .btClrFail .. => answers_execBtClrFail
  | .poweredHour .. => answers_execPoweredHour
  | .proofPduSend .. => answers_execProofPduSend
  | .proofFrameReceive .. => answers_execProofFrameReceive
  | .proofWindowClose .. => answers_execProofWindowClose
  | .proofWatchdog .. => answers_execProofWatchdog
  | .kfbDiscrepancy .. => answers_execKfbDiscrepancy
  | .kfbDiscrepancyClear .. => answers_execKfbDiscrepancyClear
  | .diagPass .. => answers_execDiagPass
  | .clockCheck .. => answers_execClockCheck
  | .readbackFault .. => answers_execReadbackFault
  | .fbkStall .. => answers_execFbkStall
  | .fioInputAccept .. => answers_execFioInputAccept
  | .fioOutWrite .. => answers_execFioOutWrite
  | .outputOverload .. => answers_execOutputOverload
  | .outputOvertemp .. => answers_execOutputOvertemp
  | .openWire .. => answers_execOpenWire
  | .diagClear .. => answers_execDiagClear
  | .wdtKick .. => answers_execWdtKick
  | .wdtExpire .. => answers_execWdtExpire
  | .wdtExpClear .. => answers_execWdtExpClear
  | .vfldMeasure .. => answers_execVfldMeasure
  | .fieldRecovered .. => answers_execFieldRecovered
  | .uvAck .. => answers_execUvAck
  | .sbcPullEnd .. => answers_execSbcPullEnd
  | .sbcTestPulse .. => answers_execSbcTestPulse
  | .sbcFault .. => answers_execSbcFault
  | .stoTestPulse _ n => answers_execStoTestPulse (n := n)
  | .stoOverload .. => answers_execStoOverload
  | .kfbInputChange .. => answers_execKfbInputChange
  | .ptpSyncReceive .. => answers_execPtpSyncReceive
  | .ptpFollowUpReceive .. => answers_execPtpFollowUpReceive
  | .ptpDelayReqReceive .. => answers_execPtpDelayReqReceive
  | .ptpDelayRespReceive .. => answers_execPtpDelayRespReceive
  | .ptpPdelayReqReceive .. => answers_execPtpPdelayReqReceive
  | .ptpPdelayRespReceive .. => answers_execPtpPdelayRespReceive
  | .ptpPdelayRespFollowUpReceive .. => answers_execPtpPdelayRespFollowUpReceive
  | .ptpAnnounceReceive .. => answers_execPtpAnnounceReceive
  | .ptpOtherMessage .. => answers_execPtpOtherMessage
  | .ptpSyncSend .. => answers_execPtpSyncSend
  | .ptpAnnounceSend .. => answers_execPtpAnnounceSend
  | .ptpDelayReqSend .. => answers_execPtpDelayReqSend
  | .ptpPdelayReqSend .. => answers_execPtpPdelayReqSend
  | .announceReceiptTimeout .. => answers_execAnnounceReceiptTimeout
  | .offsetTimeout .. => answers_execOffsetTimeout
  | .slewComplete .. => answers_execSlewComplete
  | .acceptStep .. => answers_execAcceptStep
  | .timSet .. => answers_execTimSet
  | .ppsInEdge .. => answers_execPpsInEdge
  | .ppsOutRise .. => answers_execPpsOutRise
  | .ppsOutFall .. => answers_execPpsOutFall
  | .aonIncMeasure .. => answers_execAonIncMeasure
  | .folioFrameReceive .. => answers_execFolioFrameReceive
  | .receiveApply .. => answers_execReceiveApply
  | .arpRequest .. => answers_execArpRequest
  | .wakeFrame .. => answers_execWakeFrame
  | .layoutDue .. => answers_execLayoutDue
  | .layoutWorkComplete .. => answers_execLayoutWorkComplete
  | .frameDeparture .. => answers_execFrameDeparture
  | .layoutLost .. => answers_execLayoutLost
  | .pathLost .. => answers_execPathLost
  | .contextSilence .. => answers_execContextSilence
  | .keyLoad .. => answers_execKeyLoad
  | .keyActivate .. => answers_execKeyActivate
  | .linkChange .. => answers_execLinkChange
  | .txKick .. => answers_execTxKick
  | .ethcFrameSent .. => answers_execEthcFrameSent
  | .ethcFrameReceive .. => answers_execEthcFrameReceive
  | .canInitSet .. => answers_execCanInitSet
  | .initEffect .. => answers_execInitEffect
  | .canInitClear .. => answers_execCanInitClear
  | .integrationDone .. => answers_execIntegrationDone
  | .canTxreq .. => answers_execCanTxreq
  | .canTxcancel .. => answers_execCanTxcancel
  | .canFrameTransmitted .. => answers_execCanFrameTransmitted
  | .arbitrationLost .. => answers_execArbitrationLost
  | .canBusError .. => answers_execCanBusError
  | .canRecover .. => answers_execCanRecover
  | .canRecovered .. => answers_execCanRecovered
  | .canFrameReceive .. => answers_execCanFrameReceive
  | .canPop .. => answers_execCanPop
  | .windowRefill .. => answers_execWindowRefill
  | .queueFlush .. => answers_execQueueFlush
  | .protocolException .. => answers_execProtocolException
  | .protocolExceptionEnd .. => answers_execProtocolExceptionEnd
  | .canWakeMatch .. => answers_execCanWakeMatch
  | .recorderArm .. => answers_execRecorderArm
  | .recorderStop .. => answers_execRecorderStop
  | .armAll .. => answers_execArmAll
  | .stopAll .. => answers_execStopAll
  | .recForce .. => answers_execRecForce
  | .recorderSample .. => answers_execRecorderSample
  | .acqTrigger .. => answers_execAcqTrigger
  | .recordComplete .. => answers_execRecordComplete
  | .slotRelease .. => answers_execSlotRelease
  | .histClear .. => answers_execHistClear
  | .mapClear .. => answers_execMapClear
  | .feedMeasure .. => answers_execFeedMeasure
  | .feedClassChange .. => answers_execFeedClassChange
  | .feedSelect .. => answers_execFeedSelect
  | .powerFail .. => answers_execPowerFail
  | .flushDone .. => answers_execFlushDone
  | .regionEraseDone .. => answers_execRegionEraseDone
  | .powerOff .. => answers_execPowerOff
  | .essenceCapture .. => answers_execEssenceCapture
  | .essenceSent .. => answers_execEssenceSent
  | .essenceReceive .. => answers_execEssenceReceive
  | .standbyCounterLatch .. => answers_execStandbyCounterLatch
  | .heartbeatPulse .. => answers_execHeartbeatPulse
  | .ownershipClaim .. => answers_execOwnershipClaim
  | .ownConflict .. => answers_execOwnConflict
  | .ownInChange .. => answers_execOwnInChange
  | .hbSilence .. => answers_execHbSilence
  | .penFbChange .. => answers_execPenFbChange
  | .mirrorLinkLoss .. => answers_execMirrorLinkLoss
  | .takeoverRestoreDone .. => answers_execTakeoverRestoreDone
  | .takeoverComplete .. => answers_execTakeoverComplete
  | .takebackRequest .. => answers_execTakebackRequest
  | .handbackConfirm .. => answers_execHandbackConfirm
  | .parRelease .. => answers_execParRelease
  | .releaseTimeout .. => answers_execReleaseTimeout
  | .batteryDetect .. => answers_execBatteryDetect
  | .rescueTrigger .. => answers_execRescueTrigger
  | .rescueGo .. => answers_execRescueGo
  | .rescueHoldValid .. => answers_execRescueHoldValid
  | .rescueHoldTimeout .. => answers_execRescueHoldTimeout
  | .rescueUndervoltage .. => answers_execRescueUndervoltage
  | .xinLoss .. => answers_execXinLoss
  | .x32Loss .. => answers_execX32Loss
  | .domainPowerSwitch .. => answers_execDomainPowerSwitch
  | .idleTimer .. => answers_execIdleTimer
  | .dozeEntry .. => answers_execDozeEntry
  | .wakeComplete .. => answers_execWakeComplete
  | .aonWakeTimer .. => answers_execAonWakeTimer
  | .thermalRead .. => answers_execThermalRead
  | .scrubBlock .. => answers_execScrubBlock
  | .eventLogWrite .. => answers_execEventLogWrite
  | .evtPop .. => answers_execEvtPop
  | .evtClear .. => answers_execEvtClear
  | .evtEntryCapture .. => answers_execEvtEntryCapture
  | .tapReset .. => answers_execTapReset
  | .tapExtest .. => answers_execTapExtest
  | .tapIdcode .. => answers_execTapIdcode
  | .samplePreload .. => answers_execSamplePreload
  | .tapUsercode .. => answers_execTapUsercode
  | .tapClamp .. => answers_execTapClamp
  | .tapHighz .. => answers_execTapHighz
  | .tapBypass .. => answers_execTapBypass
  | .powerUp .. => answers_execPowerUp
  | .resetRelease .. => answers_execResetRelease
  | .pornRelease .. => answers_execPornRelease
  | .flashTimeout .. => answers_execFlashTimeout
  | .imageStaged .. => answers_execImageStaged
  | .signatureVerified .. => answers_execSignatureVerified
  | .galleyApply .. => answers_execGalleyApply
  | .hostLoad .. => answers_execHostLoad
  | .skipFlash .. => answers_execSkipFlash
  | .keyProg .. => answers_execKeyProg
  | .setRequire .. => answers_execSetRequire
  | .keyProgDone .. => answers_execKeyProgDone
  | .pornLow .. => answers_execPornLow
  | .deviceReset .. => answers_execDeviceReset
  | .rstnRelease .. => answers_execRstnRelease
  | .hbInPulse .. => answers_execHbInPulse
  | .mirrorLinkUp .. => answers_execMirrorLinkUp
  | .ownOutRelease .. => answers_execOwnOutRelease
  | .vholdLow .. => answers_execVholdLow

theorem Leads.pending {t : State} (h : Leads s₀ t) : t.pending = s₀.pending := by
  induction h with
  | start => rfl
  | put _ ha ih => exact ha.pending.trans ih
  | setMemByte _ ih => exact ih
  | forget _ ih => exact ih
  | stageImage _ ih => exact ih
  | dozeSave _ ih => exact ih
  | setCh _ _ ih => exact ih
  | legOff _ _ _ ih => exact ih
  | legOn _ _ _ _ ih => exact ih
  | edgOff _ ih => exact ih
  | deviceReset _ ih => exact ih

theorem Passes.pending {t : State} (h : Passes s t) : t.pending = s.pending := by
  cases h with
  | on h => exact h.pending
  | off h => exact h.pending
  | boot _ h k => exact k.pending.trans h.pending

/-- Settles O5: `answers_exec` goes through the commands, and no update that leads to the next state touches the queue. -/
theorem everyCommandTakesEffectAndLeavesTheQueue : Obligations.EveryCommandTakesEffectAndLeavesTheQueue := by
  intro c s
  obtain ⟨t, ht, hp⟩ := answers_exec (s := s) c
  exact ⟨t, ht, hp.pending⟩

end Sys2Proof.Machine
end

section
/-! Host accesses to registers (O10). -/

namespace Sys2Proof.Machine

open Sys2Proof.Claims

variable {s : State} {ifc : Ifc} {t a : Nat} {w : Bool} {v : Word}

/-! ### A host access that reaches the device -/

/-- The state that an access of `ifc` finds which reaches the device at `t` while it is awake: time has advanced, the idle timer starts
again (R442), and so does, at a write of its owner, the timeout of the open quoin (R75). -/
def arrived (ifc : Ifc) (t : Nat) (write : Bool) (s : State) : State :=
  hostSeen (if write then ownerWrite ifc (advance t s) else advance t s)

theorem arrived_eq : arrived ifc t w s =
    { s with
      tim := (advance t s).tim
      quo := { s.quo with lastWrite := (arrived ifc t w s).quo.lastWrite }
      sys := { s.sys with idleAt := clk (advance t s) } } := by
  unfold arrived ownerWrite
  split_ifs <;> rfl

theorem arrived_regs : (arrived ifc t w s).regs = s.regs := (congrArg State.regs arrived_eq).trans rfl
theorem arrived_pwr : (arrived ifc t w s).pwr = s.pwr := (congrArg State.pwr arrived_eq).trans rfl
theorem arrived_st : (arrived ifc t w s).sys.st = s.sys.st := (congrArg (fun u => u.sys.st) arrived_eq).trans rfl
theorem arrived_out : (arrived ifc t w s).out = s.out := (congrArg State.out arrived_eq).trans rfl
theorem arrived_quo : (arrived ifc t w s).quo = { s.quo with lastWrite := (arrived ifc t w s).quo.lastWrite } :=
  (congrArg State.quo arrived_eq).trans rfl

theorem caps_arrived (i : Ifc) : caps i (arrived ifc t w s) = caps i s := (congrArg (caps i) arrived_eq).trans (by cases i <;> rfl)

@[simp] theorem rd_arrived (x : Nat) : rd (arrived ifc t w s) x = rd s x := (congrArg (rd · x) arrived_eq).trans rfl
@[simp] theorem fget_arrived (f : Fld) (i j k : Nat) : fget (arrived ifc t w s) f i j k = fget s f i j k :=
  (congrArg (fget · f i j k) arrived_eq).trans rfl
@[simp] theorem memByte_arrived (x : Nat) : memByte (arrived ifc t w s) x = memByte s x := (congrArg (memByte · x) arrived_eq).trans rfl
@[simp] theorem addrOn_arrived (x : Nat) : addrOn (arrived ifc t w s) x = addrOn s x := (congrArg (addrOn · x) arrived_eq).trans rfl
@[simp] theorem justSet_arrived (x : Nat) : justSet (arrived ifc t w s) x = justSet (advance t s) x :=
  (congrArg (justSet · x) arrived_eq).trans rfl

theorem hostGate_awake {via : Via} {x : Option Word} {f : State → State} (h : HostOn s a) :
    hostGate via a x f s = f (arrived via.ifc via.t x.isSome s) := by
  obtain ⟨hoff, hdoze, hret, hon⟩ := h
  exact hostGate_on via a x f s hoff hdoze hret hon

theorem portGate_awake {errs : List PltErr} {x : Held} (h : HostAwake s) :
    portGate t errs x s = request errs x (arrived x.ifc t x.w.isSome s) := by
  obtain ⟨hoff, hdoze, hret⟩ := h
  change (if (arrived x.ifc t x.w.isSome s).sys.st = .off then _
    else if (arrived x.ifc t x.w.isSome s).pwr.sysRet then _ else request errs x (wakeEvent 16 (arrived x.ifc t x.w.isSome s))) = _
  rw [arrived_st, arrived_pwr, if_neg hoff, hret, if_neg Bool.false_ne_true, wakeEvent_awake 16 _ (by rwa [arrived_st])]

/-! ### An access that is dropped (R64) -/

theorem rd_hostDrop_ne {x : Nat} (h : x ≠ R.SYS_HOST_DROP.addr) (h' : x ≠ R.SYS_HOST_DROP_ADDR.addr) :
    rd (hostDrop ifc a s) x = rd s x := by
  unfold hostDrop
  dsimp only
  rw [rd_fset_ne _ _ _ _ _ _ h', rd_fset_ne _ _ _ _ _ _ h]
  exact rd_fset_ne s F.SYS_HOST_DROP_COUNT _ _ _ _ h

theorem hostDrop_count : fget (hostDrop ifc a s) F.SYS_HOST_DROP_COUNT = min (fget s F.SYS_HOST_DROP_COUNT + 1) 65535 := by
  unfold hostDrop
  dsimp only
  rw [fget_fset_ne _ _ _ _ _ _ _ _ _ _ (by decide), fget_fset_other _ _ _ _ _ _ _ _ _ _ (by decide) (by decide)]
  refine (fget_fset_self s F.SYS_HOST_DROP_COUNT _ 0 0 0 (by decide)).trans ?_
  exact Nat.mod_eq_of_lt (Nat.lt_of_le_of_lt (Nat.min_le_right _ _) (by decide))

theorem hostDrop_lastIf : fget (hostDrop ifc a s) F.SYS_HOST_DROP_LAST_IF = Ifc.num ifc := by
  unfold hostDrop
  dsimp only
  rw [fget_fset_ne _ _ _ _ _ _ _ _ _ _ (by decide), fget_fset_self _ _ _ _ _ _ (by decide)]
  cases ifc <;> rfl

theorem hostDrop_addr (h : a < 2 ^ 32) : fget (hostDrop ifc a s) F.SYS_HOST_DROP_ADDR_ADDR = a := by
  unfold hostDrop
  dsimp only
  rw [fget_fset_self _ _ _ _ _ _ (by decide)]
  exact Nat.mod_eq_of_lt h

theorem memByte_congr {u : State} (hm : u.mem = s.mem) (hp : u.pwr = s.pwr) (x : Nat) : memByte u x = memByte s x := by
  unfold memByte memDflt
  rw [hm, hp]

theorem memByte_of_evtOnly {u : State} (h : EvtOnly s u) (x : Nat) : memByte u x = memByte s x := memByte_congr h.mem h.pwr x

@[simp] theorem memByte_hostDrop (x : Nat) : memByte (hostDrop ifc a s) x = memByte s x := memByte_of_evtOnly (hostDrop_evtOnly ifc a s) x

/-! ### A 32-bit access to register space -/

theorem wordOf_wordBytes : wordOf ((wordBytes v).map some) = some v := by
  refine congrArg some (BitVec.eq_of_getLsbD_eq fun i hi => ?_)
  simp only [BitVec.getLsbD_append, BitVec.getLsbD_extractLsb']
  have hb {k j : Nat} (hj : j < 8) (hk : k + j = i) : (decide (j < 8) && v.getLsbD (k + j)) = v.getLsbD i := by
    rw [hk, decide_eq_true hj, Bool.true_and]
  split_ifs
  · exact hb (by omega) (by omega)
  · exact hb (by omega) (by omega)
  · exact hb (by omega) (by omega)
  · exact hb (by omega) (by omega)

theorem request_write {errs : List PltErr} (hm : inMem a = false) (hw : inWindowSpace a = false) :
    request errs ⟨ifc, a, 4, some ((wordBytes v).map some)⟩ s = regWrite ifc a v s := by
  have ha : accesses a 4 = [a] := by simp [accesses, hw, regShape]
  have hh : winHeld s a = false := by simp [winHeld, hw]
  have ht : (((wordBytes v).map some).drop (a - a)).take 4 = (wordBytes v).map some := by
    rw [Nat.sub_self]
    rfl
  change writeRequest ifc a ((wordBytes v).map some) s = _
  unfold writeRequest
  rw [if_neg (by simp [hm])]
  change (if (accesses a 4).isEmpty then _ else forL (accesses a 4) _ s) = _
  rw [ha]
  change (match wordOf ((((wordBytes v).map some).drop (a - a)).take 4) with
    | some v => wordWriteHeld ifc a v s
    | none => hostDrop ifc a s) = _
  rw [ht, wordOf_wordBytes]
  simp [wordWriteHeld, wordWrite, hh, hw]

theorem request_read {errs : List PltErr} (hm : inMem a = false) (hw : inWindowSpace a = false) :
    request errs ⟨ifc, a, 4, none⟩ s = sendRd ifc a (wordBytes (regRead ifc a s).1) (regRead ifc a s).2 := by
  have ha : accesses a 4 = [a] := by simp [accesses, hw, regShape]
  have hh : winHeld s a = false := by simp [winHeld, hw]
  change readRequest ifc errs a 4 s = _
  simp [readRequest, hm, hh, ha, readRun, wordRead, hw]

/-! ### A write of a register -/

/-- What a 32-bit write outside main SRAM, DRAM and the platen windows comes to. -/
theorem port32_write {via : Via} {errs : List PltErr} (h : HostAwake s) (hm : inMem a = false) (hw : inWindowSpace a = false) :
    port32 via errs a (some v) s = regWrite via.ifc a v (arrived via.ifc via.t true s) :=
  (portGate_awake h).trans (request_write hm hw)

theorem port32_read {via : Via} {errs : List PltErr} (h : HostAwake s) (hm : inMem a = false) (hw : inWindowSpace a = false) :
    port32 via errs a none s =
      sendRd via.ifc a (wordBytes (regRead via.ifc a (arrived via.ifc via.t false s)).1)
        (regRead via.ifc a (arrived via.ifc via.t false s)).2 :=
  (portGate_awake h).trans (request_read hm hw)

theorem inMem_of_lt (h : a < 0x800000) : inMem a = false := by
  simp only [inMem, Bool.or_eq_false_iff, decide_eq_false_iff_not]
  omega

theorem inWindowSpace_of_lt (h : a < 0x800000) : inWindowSpace a = false := by
  simp only [inWindowSpace, Bool.and_eq_false_iff, decide_eq_false_iff_not]
  omega

theorem regWrite_on (ha : a % 4 = 0) (hi : implemented a = true) (ho : addrOn s a = true) : regWrite ifc a v s = writeReg ifc a v s :=
  if_pos ⟨ha, hi, ho⟩

theorem regRead_on (ha : a % 4 = 0) (hi : implemented a = true) (ho : addrOn s a = true) : regRead ifc a s = readReg ifc a s :=
  if_pos ⟨ha, hi, ho⟩

theorem regWrite_dropped (h : a % 4 ≠ 0 ∨ implemented a = false) : regWrite ifc a v s = hostDrop ifc a s := by
  refine if_neg fun ⟨ha, hi, _⟩ => ?_
  rcases h with h | h
  · exact h ha
  · exact Bool.false_ne_true (h.symm.trans hi)

theorem storeWord_frame : storeWord a v s = { s with regs := (storeWord a v s).regs } := by
  have hf (l : List Fld) (u : State) : forL l (fun f s => wr s a (setBits (rd s a) f.lsb f.width (storedVal f a v s))) u =
      { u with regs := (forL l (fun f s => wr s a (setBits (rd s a) f.lsb f.width (storedVal f a v s))) u).regs } := by
    induction l generalizing u with
    | nil => rfl
    | cons f r ih => exact ih _
  unfold storeWord
  dsimp only
  rw [hf]
  rfl

theorem rd_storeWord_ne {x : Nat} (h : x ≠ a) : rd (storeWord a v s) x = rd s x := by
  unfold storeWord
  dsimp only
  rw [rd_wr_ne _ _ _ h]
  exact forL_keeps (rd · x) (fun f u => rd_wr_ne _ _ _ h) _ s

@[simp] theorem memByte_storeWord (x : Nat) : memByte (storeWord a v s) x = memByte s x :=
  congrArg (memByte · x) storeWord_frame |>.trans rfl

/-- An RW field of 32 bits is stored whole. -/
theorem rd_storeWord_irqEn : rd (storeWord R.SYS_IRQ_EN.addr v s) R.SYS_IRQ_EN.addr = v := by
  have hs : setBits (rd s R.SYS_IRQ_EN.addr) 0 32 (bitsOf v 0 32) = v := by
    have hv : bitsOf v 0 32 % 2 ^ 32 = v.toNat := by
      rw [bitsOf, pow_zero, Nat.div_one, Nat.mod_mod, Nat.mod_eq_of_lt v.isLt]
    unfold setBits
    rw [hv, pow_zero, Nat.mul_one, Nat.mul_one, BitVec.ofNat_toNat, BitVec.setWidth_eq]
    exact (congrArg (· ||| v) BitVec.and_zero).trans BitVec.zero_or
  change rd (wr (wr s _ _) _ (rd (wr s _ (setBits _ 0 32 (bitsOf v 0 32))) _ &&& ~~~(v &&& 0#32 &&& ~~~_))) _ = v
  rw [rd_wr_self, rd_wr_self, hs, BitVec.and_zero, BitVec.zero_and, BitVec.not_zero, BitVec.and_allOnes]

/-- The two W1C bits of TST.MEM_STATUS. -/
theorem rd_storeWord_memStatus (r : Fin 2) : rd (storeWord (R.TST_MEM_STATUS.at r) v s) (R.TST_MEM_STATUS.at r) =
    rd s (R.TST_MEM_STATUS.at r) &&& ~~~(v &&& 3#32 &&& ~~~justSet s (R.TST_MEM_STATUS.at r)) :=
  match r with
  | 0 => rd_wr_self _ _ _
  | 1 => rd_wr_self _ _ _

theorem writeReg_irqEn : writeReg ifc R.SYS_IRQ_EN.addr v s = storeWord R.SYS_IRQ_EN.addr v s := rfl

theorem writeReg_memStatus (r : Fin 2) : writeReg ifc (R.TST_MEM_STATUS.at r) v s = storeWord (R.TST_MEM_STATUS.at r) v s :=
  match r with
  | 0 => rfl
  | 1 => rfl

/-! ### A read of a register -/

theorem readReg_plain (hc : SMap.get (fun _ => none) (caps ifc s) a = none) (hr : R.CAN_STATUS.idx? a = none) (ho : opensAt a = false) :
    readReg ifc a s = (readWord ifc s a, readClear a (capture10 ifc a s)) := by
  unfold readReg rcntRead
  rw [hc, hr, ho]
  rfl

/-- A register whose fields stand in the register file. -/
def storedReg (a : Nat) : Bool := !inTab a && (pltTab a).isNone && (R.EDG_SHD.idx? a).isNone && (regFlds a).all (!·.view)

theorem readWord_stored {u : State} (h : storedReg a = true) (hr : rd u a = rd s a) : readWord ifc u a = readWord ifc s a := by
  simp only [storedReg, Bool.and_eq_true, Bool.not_eq_true', Option.isNone_iff_eq_none, List.all_eq_true] at h
  obtain ⟨⟨⟨ht, hp⟩, hs⟩, hv⟩ := h
  have hf (f : Fld) (hf : f ∈ regFlds a) : fieldVal ifc u a f = fieldVal ifc s a f := by
    simp only [fieldVal, hv f hf, hr, Bool.false_eq_true, if_false]
  simp only [readWord, ht, hp, shdShut, hs, Bool.false_eq_true, if_false]
  exact List.foldl_ext _ _ _ fun w f hm => by rw [hf f hm]

theorem readReg_tstLocal (hc : SMap.get (fun _ => none) (caps ifc s) R.TST_LOCAL.addr = none) :
    readReg ifc R.TST_LOCAL.addr s = (readWord ifc s R.TST_LOCAL.addr,
      wr s R.TST_LOCAL.addr (rd s R.TST_LOCAL.addr &&& ~~~(0xFFFF#32 &&& ~~~justSet s R.TST_LOCAL.addr))) := by
  rw [readReg_plain hc (by decide) (by decide)]
  rfl

theorem timeL_captures : ∀ x : Fin 64, pairLows.any (·.hits (R.SCH_TIME_L.at x)) = true := by decide

theorem readReg_timeL (x : Fin 64) (hc : SMap.get (fun _ => none) (caps ifc s) (R.SCH_TIME_L.at x) = none) :
    readReg ifc (R.SCH_TIME_L.at x) s = (readWord ifc s (R.SCH_TIME_L.at x),
      setCap ifc (R.SCH_TIME_L.at x + 4) (readWord ifc s (R.SCH_TIME_L.at x + 4)) s) := by
  have hf : ∀ x : Fin 64, (regFlds (R.SCH_TIME_L.at x)).filter (fun f => f.acc == .rc && !f.view) = [] := by decide
  have hn : ∀ x : Fin 64, R.CAN_STATUS.idx? (R.SCH_TIME_L.at x) = none ∧ opensAt (R.SCH_TIME_L.at x) = false ∧
      R.SCH_TIME_L.at x ≠ R.EVT_ENT.addr ∧ R.SCH_TIME_L.at x ≠ R.TIM_LNS_L.addr ∧ R.SCH_TIME_L.at x ≠ R.IMP_LCNT.addr ∧
      R.SCH_TIME_L.at x ≠ R.PWR_THERM.addr := by decide
  obtain ⟨hcan, hopen, hent, hlns, hcnt, hth⟩ := hn x
  rw [readReg_plain hc hcan hopen]
  unfold capture10 readClear
  dsimp only
  rw [if_pos (timeL_captures x), if_neg hent, if_neg hlns, hf x, if_neg hcnt, if_neg hth]
  rfl

theorem caps_setCap_self {x : Nat} : SMap.get (fun _ => none) (caps ifc (setCap ifc x v s)) x = some v := by
  cases ifc
  · exact SMap.get_put_self (fun _ => none) s.capPcie x (some v)
  · exact SMap.get_put_self (fun _ => none) s.capQspi x (some v)

theorem setCap_out {x : Nat} : (setCap ifc x v s).out = s.out := by cases ifc <;> rfl

theorem setCap_regs {x : Nat} : (setCap ifc x v s).regs = s.regs := by cases ifc <;> rfl

theorem bitsOf_eq_extract (w : Word) (i n : Nat) : bitsOf w i n = (w.extractLsb' i n).toNat := by
  rw [BitVec.extractLsb'_toNat, Nat.shiftRight_eq_div_pow]
  rfl

/-- What a read leaves of the low 16 bits that it clears: those that hardware has just set (R3). -/
theorem bitsOf_cleared (w j : Word) : bitsOf (w &&& ~~~(0xFFFF#32 &&& ~~~j)) 0 16 = bitsOf (w &&& j) 0 16 := by
  rw [bitsOf_eq_extract, bitsOf_eq_extract]
  refine congrArg _ (BitVec.eq_of_getLsbD_eq fun i hi => ?_)
  have hb : (0xFFFF#32).getLsbD i = true := by
    interval_cases i <;> rfl
  simp only [BitVec.getLsbD_extractLsb', BitVec.getLsbD_and, BitVec.getLsbD_not, Nat.zero_add, hb, Bool.true_and,
    decide_eq_true (show i < 32 by omega), Bool.not_not]

/-- An aligned register of the map, below the platen windows. -/
def mapReg (a : Nat) : Bool := decide (a < 0x800000) && a % 4 == 0 && implemented a

theorem mapReg_iff : mapReg a = true ↔ a < 0x800000 ∧ a % 4 = 0 ∧ implemented a = true := by
  simp [mapReg, and_assoc]

theorem port32_write_on {via : Via} {errs : List PltErr} (h : HostOn s a) (hr : mapReg a = true) :
    port32 via errs (BitVec.ofNat 32 a).toNat (some v) s = writeReg via.ifc a v (arrived via.ifc via.t true s) := by
  obtain ⟨hoff, hdoze, hret, hon⟩ := h
  obtain ⟨hlt, ha, hi⟩ := mapReg_iff.mp hr
  rw [BitVec.toNat_ofNat, Nat.mod_eq_of_lt (by omega), port32_write ⟨hoff, hdoze, hret⟩ (inMem_of_lt hlt) (inWindowSpace_of_lt hlt),
    regWrite_on ha hi (by rwa [addrOn_arrived])]

theorem port32_read_on {via : Via} {errs : List PltErr} (h : HostOn s a) (hr : mapReg a = true) :
    port32 via errs (BitVec.ofNat 32 a).toNat none s =
      sendRd via.ifc a (wordBytes (readReg via.ifc a (arrived via.ifc via.t false s)).1)
        (readReg via.ifc a (arrived via.ifc via.t false s)).2 := by
  obtain ⟨hoff, hdoze, hret, hon⟩ := h
  obtain ⟨hlt, ha, hi⟩ := mapReg_iff.mp hr
  rw [BitVec.toNat_ofNat, Nat.mod_eq_of_lt (by omega), port32_read ⟨hoff, hdoze, hret⟩ (inMem_of_lt hlt) (inWindowSpace_of_lt hlt),
    regRead_on ha hi (by rwa [addrOn_arrived])]

/-- Settles O10: each access comes to `writeReg`, `readReg` or `hostDrop` in the state that it finds, and these say what the register
holds after it. -/
theorem hostRegisterAccess : Obligations.HostRegisterAccess := by
  refine ⟨fun s via v h => ?irqEn, fun s via v r h => ?memStatus, fun s via a v hoff hdoze hret hm hw hd => ?dropped,
    fun s via h hc => ?tstLocal, fun s via x h hc => ?timeL⟩
  case irqEn =>
    refine ⟨_, congrArg Host.Outcome.next ((port32_write_on h rfl).trans writeReg_irqEn), rd_storeWord_irqEn, fun a ha => ?_, fun a _ => ?_⟩
    · rw [rd_storeWord_ne (by simpa using ha), rd_arrived]
    · rw [memByte_storeWord, memByte_arrived]
  case memStatus =>
    have hr : ∀ r : Fin 2, mapReg (R.TST_MEM_STATUS.at r) = true := by decide
    refine ⟨_, congrArg Host.Outcome.next ((port32_write_on h (hr r)).trans (writeReg_memStatus r)), ?_, fun a ha => ?_, fun a _ => ?_⟩
    · rw [rd_storeWord_memStatus, rd_arrived, justSet_arrived]
    · rw [rd_storeWord_ne (by simpa using ha), rd_arrived]
    · rw [memByte_storeWord, memByte_arrived]
  case dropped =>
    refine ⟨_, congrArg Host.Outcome.next ((port32_write ⟨hoff, hdoze, hret⟩ hm hw).trans (regWrite_dropped hd)), ?_, hostDrop_lastIf,
      hostDrop_addr a.isLt, fun x hx => ?_, fun x _ => ?_⟩
    · rw [hostDrop_count, fget_arrived]
    · simp only [Bool.or_eq_false_iff, beq_eq_false_iff_ne] at hx
      rw [rd_hostDrop_ne hx.1 hx.2, rd_arrived]
    · rw [memByte_hostDrop, memByte_arrived]
  case tstLocal =>
    have hc' : SMap.get (fun _ => none) (caps via.ifc (arrived via.ifc via.t false s)) R.TST_LOCAL.addr = none := by rwa [caps_arrived]
    have hread := port32_read_on (via := via) (errs := []) h (by rfl)
    rw [readReg_tstLocal hc', readWord_stored (by rfl) (rd_arrived _)] at hread
    refine ⟨_, congrArg Host.Outcome.next hread, congrArg (· ++ _) arrived_out, ?_, fun a ha => ?_, fun a _ => ?_⟩
    · refine (congrArg (bitsOf · 0 16) (rd_wr_self _ _ _)).trans ?_
      rw [bitsOf_cleared, rd_arrived, justSet_arrived]
      rfl
    · exact (rd_wr_ne _ _ _ (by simpa using ha)).trans (rd_arrived a)
    · exact memByte_arrived a
  case timeL =>
    have hr : ∀ x : Fin 64, mapReg (R.SCH_TIME_L.at x) = true ∧ storedReg (R.SCH_TIME_L.at x) = true ∧
        storedReg (R.SCH_TIME_L.at x + 4) = true := by decide
    obtain ⟨hmap, hlow, hhigh⟩ := hr x
    have hc' : SMap.get (fun _ => none) (caps via.ifc (arrived via.ifc via.t false s)) (R.SCH_TIME_L.at x) = none := by rwa [caps_arrived]
    have hread := port32_read_on (via := via) (errs := []) h hmap
    rw [readReg_timeL x hc', readWord_stored hlow (rd_arrived _), readWord_stored hhigh (rd_arrived _)] at hread
    have ha : (BitVec.ofNat 32 (R.SCH_TIME_L.at x)).toNat = R.SCH_TIME_L.at x :=
      Nat.mod_eq_of_lt (by have := (mapReg_iff.mp hmap).1; omega)
    refine ⟨_, congrArg Host.Outcome.next hread, ?_, ?_, ?_⟩
    · exact congrArg (· ++ _) (setCap_out.trans arrived_out)
    · exact caps_setCap_self
    · exact setCap_regs.trans arrived_regs

end Sys2Proof.Machine
end

section
/-! Writes of safety-field registers (O11). -/

namespace Sys2Proof.Machine
open Sys2Proof.Claims
variable {s : State} {ifc : Ifc} {a : Nat} {v : Word}

/-- In COMMISSIONING a safety-field write goes to `sfWrite`. -/
theorem writeReg_tresq (h : fget s F.SAF_STATE_STATE = 1) : writeReg ifc R.SAF_TRESQ.addr v s = sfWrite ifc R.SAF_TRESQ.addr v s :=
  (show _ = if fget s F.SAF_STATE_STATE = 1 then sfWrite ifc R.SAF_TRESQ.addr v s else hostDrop ifc R.SAF_TRESQ.addr s from rfl).trans
    (if_pos h)

/-- Outside COMMISSIONING it is dropped. -/
theorem writeReg_sf_dropped (ht : inTab a = false) (hp : stgPlace a = none) (hf : (regFlds a).any (fun f => f.acc == .sf) = true)
    (h : fget s F.SAF_STATE_STATE ≠ 1) : writeReg ifc a v s = hostDrop ifc a s := by
  unfold writeReg
  rw [ht, hp, if_neg Bool.false_ne_true]
  exact (if_pos hf).trans (if_neg h)

theorem sfRelated_tresq : sfRelated R.SAF_TRESQ.addr (wr s R.SAF_TRESQ.addr v) =
    decide (bitsOf v F.SAF_TRESQ_TRESQ.lsb F.SAF_TRESQ_TRESQ.width < fget s F.SAF_TDRY_TDRY) := by
  have hq : fget (wr s R.SAF_TRESQ.addr v) F.SAF_TRESQ_TRESQ = bitsOf v F.SAF_TRESQ_TRESQ.lsb F.SAF_TRESQ_TRESQ.width :=
    congrArg (bitsOf · _ _) (rd_wr_self _ _ _)
  have hd : fget (wr s R.SAF_TRESQ.addr v) F.SAF_TDRY_TDRY = fget s F.SAF_TDRY_TDRY :=
    congrArg (bitsOf · _ _) (rd_wr_ne _ _ _ (by decide))
  exact (if_pos (.inr rfl)).trans (by rw [hq, hd])

/-- The values of SAF.TRESQ that R499 accepts. -/
def tresqOk (v : Word) (s : State) : Prop :=
  (regFlds R.SAF_TRESQ.addr).all (sfFieldOk · v) = true ∧ reservedZero (regFlds R.SAF_TRESQ.addr) v = true ∧
    bitsOf v F.SAF_TRESQ_TRESQ.lsb F.SAF_TRESQ_TRESQ.width < fget s F.SAF_TDRY_TDRY

theorem tresqOk_iff : ((regFlds R.SAF_TRESQ.addr).all (sfFieldOk · v) && reservedZero (regFlds R.SAF_TRESQ.addr) v &&
    sfRelated R.SAF_TRESQ.addr (wr s R.SAF_TRESQ.addr v)) = true ↔ tresqOk v s := by
  rw [sfRelated_tresq, Bool.and_eq_true, Bool.and_eq_true, decide_eq_true_iff, and_assoc]
  rfl

theorem sfWrite_tresq (h : tresqOk v s) :
    sfWrite ifc R.SAF_TRESQ.addr v s = busyUpdate { wr s R.SAF_TRESQ.addr v with saf := { s.saf with sig := true } } :=
  if_pos (tresqOk_iff.mpr h)

theorem sfWrite_tresq_refused (h : ¬ tresqOk v s) :
    sfWrite ifc R.SAF_TRESQ.addr v s = hostDrop ifc R.SAF_TRESQ.addr (raiseFlag s F.SAF_STATE_SF_REFUSED) :=
  if_neg (mt tresqOk_iff.mp h)

theorem rd_busyUpdate_ne (h : a ≠ R.SAF_STATE.addr) : rd (busyUpdate s) a = rd s a := rd_fset_ne _ _ _ _ _ _ h

/-- Settles O11: by the cases of `sfWrite` in COMMISSIONING, and by its being passed over outside it. -/
theorem safetyFieldWrite : Obligations.SafetyFieldWrite := by
  have hreg : mapReg R.SAF_TRESQ.addr = true := by decide
  refine ⟨fun s via v h hc hf hz hr => ?taken, fun s via v h hc hn => ?refused, fun s via a v h hc hw hlt ht hp hf => ?outside⟩
  case taken =>
    have hok : tresqOk v (arrived via.ifc via.t true s) := ⟨hf, hz, by rwa [fget_arrived]⟩
    have hgo := (port32_write_on (via := via) (errs := []) (v := v) h hreg).trans
      ((writeReg_tresq (by rwa [fget_arrived])).trans (sfWrite_tresq hok))
    refine ⟨_, congrArg Host.Outcome.next hgo, ?_, fun a _ => ?_, fun a ha => ?_⟩
    · exact (rd_busyUpdate_ne (by decide)).trans (rd_wr_self _ _ _)
    · exact memByte_arrived a
    · simp only [Bool.or_eq_false_iff, beq_eq_false_iff_ne] at ha
      exact (rd_busyUpdate_ne ha.2).trans ((rd_wr_ne _ _ _ ha.1).trans (rd_arrived a))
  case refused =>
    have hno : ¬ tresqOk v (arrived via.ifc via.t true s) := by rwa [tresqOk, fget_arrived]
    have hgo := (port32_write_on (via := via) (errs := []) (v := v) h hreg).trans
      ((writeReg_tresq (by rwa [fget_arrived])).trans (sfWrite_tresq_refused hno))
    refine ⟨_, congrArg Host.Outcome.next hgo, ?_, ?_, ?_, hostDrop_addr (by decide), fun a _ => ?_, fun a ha => ?_⟩
    · rw [rd_hostDrop_ne (by decide) (by decide), rd_raiseFlag, rd_fset_ne _ _ _ _ _ _ (by decide), rd_arrived]
    · refine (congrArg (bitsOf · _ _) (rd_hostDrop_ne (by decide) (by decide))).trans ?_
      exact (fget_raiseFlag _ _ _ _ _ _ _ _ _).trans (fget_fset_self _ _ _ _ _ _ (by decide))
    · rw [hostDrop_count, fget_raiseFlag, fget_fset_ne _ _ _ _ _ _ _ _ _ _ (by decide), fget_arrived]
    · rw [memByte_hostDrop, memByte_of_evtOnly (raiseFlag_evtOnly _ _ _ _ _), memByte_arrived]
    · simp only [Bool.or_eq_false_iff, beq_eq_false_iff_ne] at ha
      obtain ⟨⟨hs, hd⟩, hda⟩ := ha
      rw [rd_hostDrop_ne hd hda, rd_raiseFlag, rd_fset_ne _ _ _ _ _ _ hs, rd_arrived]
  case outside =>
    have hm : inMem a.toNat = false := by
      simp only [inMem, Bool.or_eq_false_iff, decide_eq_false_iff_not]
      omega
    have hdrop : regWrite via.ifc a.toNat v (arrived via.ifc via.t true s) = hostDrop via.ifc a.toNat (arrived via.ifc via.t true s) :=
      ite_eq_right_iff.mpr fun _ => writeReg_sf_dropped ht hp hf (by rwa [fget_arrived])
    have hgo := (port32_write (via := via) (errs := []) (v := v) ⟨h.1, h.2.1, h.2.2.1⟩ hm hw).trans hdrop
    refine ⟨_, congrArg Host.Outcome.next hgo, ?_, hostDrop_addr a.isLt, fun x hx => ?_, fun x _ => ?_⟩
    · rw [hostDrop_count, fget_arrived]
    · simp only [Bool.or_eq_false_iff, beq_eq_false_iff_ne] at hx
      rw [rd_hostDrop_ne hx.1 hx.2, rd_arrived]
    · rw [memByte_hostDrop, memByte_arrived]

end Sys2Proof.Machine
end

section
/-! Quoins: BEGIN and staging (O17). -/

namespace Sys2Proof.Machine
open Sys2Proof.Claims
variable {s : State} {ifc : Ifc} {a : Nat} {v : Word}

/-- An access that is not a write of the quoin's owner leaves the quoin unit as it is. -/
theorem arrived_quo_other {t : Nat} {w : Bool} (h : s.quo.owner ≠ some ifc) : (arrived ifc t w s).quo = s.quo := by
  unfold arrived ownerWrite
  rw [if_neg (show ¬ (advance t s).quo.owner = some ifc from h)]
  split_ifs <;> rfl

theorem arrived_owner {t : Nat} {w : Bool} : (arrived ifc t w s).quo.owner = s.quo.owner := (congrArg QuoS.owner arrived_quo).trans rfl
theorem arrived_staged {t : Nat} {w : Bool} : (arrived ifc t w s).quo.staged = s.quo.staged := (congrArg QuoS.staged arrived_quo).trans rfl

theorem hostDrop_quo : (hostDrop ifc a s).quo = s.quo := congrArg State.quo (hostDrop_evtOnly ifc a s).eq |>.trans rfl

/-! ### BEGIN -/

theorem quoBegin_opens (ho : s.quo.owner = none) (hp : s.quo.pending = none) (hb : beginState s.sys.st = true) :
    quoBegin ifc s = quoOpen ifc s := by
  unfold quoBegin
  rw [ho, hp, hb]
  rfl

theorem quoOpen_rd {x : Nat} (h : x ≠ R.QUO_STATUS.addr) : rd (quoOpen ifc s) x = rd s x := rd_fset_ne _ F.QUO_STATUS_LOST _ _ _ _ h

theorem quoOpen_memByte (x : Nat) : memByte (quoOpen ifc s) x = memByte s x := rfl

theorem quoBegin_refused (ho : s.quo.owner = none) (h : s.quo.pending ≠ none ∨ beginState s.sys.st = false) :
    quoBegin ifc s = raiseFlag s F.QUO_STATUS_REFUSED := by
  unfold quoBegin
  rw [ho]
  refine if_neg fun hc => ?_
  obtain ⟨hb, hp⟩ := Bool.and_eq_true_iff.mp hc
  rcases h with h | h
  · exact h (Option.isNone_iff_eq_none.mp hp)
  · exact Bool.false_ne_true (h.symm.trans hb)

/-! ### Staging -/

theorem stageOpen_frame (x : Staged) :
    stageOpen x s = { s with quo := { s.quo with staged := (stageOpen x s).quo.staged, full := (stageOpen x s).quo.full } } := by
  unfold stageOpen
  split_ifs <;> rfl

/-- A value that finds room stands among the staged values, whether its field was staged before or not. -/
theorem mem_stageOpen_self {x : Staged} (h : s.quo.staged.length < 2048) : x ∈ (stageOpen x s).quo.staged := by
  unfold stageOpen
  split_ifs with hs
  · obtain ⟨y, hy, hyx⟩ := List.any_eq_true.mp hs
    exact List.mem_map.mpr ⟨y, hy, if_pos hyx⟩
  · exact List.mem_append_right _ (List.mem_singleton_self x)

/-- Staging the value of one field keeps the staged values of the others. -/
theorem mem_stageOpen_other {x y : Staged} (h : y ∈ s.quo.staged) (hy : y.same x = false) : y ∈ (stageOpen x s).quo.staged := by
  unfold stageOpen
  split_ifs
  · exact List.mem_map.mpr ⟨y, h, by rw [hy]; rfl⟩
  · exact List.mem_append_left _ h
  · exact h

theorem stagePut_frame (x : Staged) : stagePut ifc x s = { s with quo := { s.quo with
    staged := (stagePut ifc x s).quo.staged, full := (stagePut ifc x s).quo.full, implicit := (stagePut ifc x s).quo.implicit } } := by
  unfold stagePut
  split_ifs
  · have hi : (stageOpen x s).quo.implicit = s.quo.implicit := (congrArg (·.quo.implicit) (stageOpen_frame x)).trans rfl
    rw [hi]
    exact stageOpen_frame x
  · rfl

theorem stagePut_rd (x : Staged) (y : Nat) : rd (stagePut ifc x s) y = rd s y := (congrArg (rd · y) (stagePut_frame x)).trans rfl
theorem stagePut_memByte (x : Staged) (y : Nat) : memByte (stagePut ifc x s) y = memByte s y :=
  (congrArg (memByte · y) (stagePut_frame x)).trans rfl
theorem stagePut_owner (x : Staged) : (stagePut ifc x s).quo.owner = s.quo.owner := (congrArg (·.quo.owner) (stagePut_frame x)).trans rfl

theorem quoReport_quo {k : Corr} {lsb g ap : Nat} :
    (quoReport ifc k a lsb g ap s).quo = { s.quo with report := (quoReport ifc k a lsb g ap s).quo.report } := by
  unfold quoReport
  split_ifs <;> rfl

theorem quoReport_rd {k : Corr} {lsb g ap x : Nat} (h : x ≠ R.QUO_STATUS.addr) : rd (quoReport ifc k a lsb g ap s) x = rd s x := by
  unfold quoReport
  split_ifs
  · rfl
  · exact rd_fset_ne s F.QUO_STATUS_LOST _ _ _ _ h

theorem quoReport_memByte {k : Corr} {lsb g ap x : Nat} : memByte (quoReport ifc k a lsb g ap s) x = memByte s x := by
  unfold quoReport
  split_ifs
  · rfl
  · exact memByte_of_evtOnly (bump_evtOnly s _ _ _ _ _) x

/-- SWAP_PENDING is the platens' own. -/
theorem swapMark_frame {xs : List Staged} : swapMark xs s = { s with plts := (swapMark xs s).plts } := by
  refine forN_inv (P := fun t => t = { s with plts := t.plts }) (fun n t ht => ?_) 5 s rfl
  split_ifs
  · rw [ht]
    rfl
  · exact ht

theorem swapMark_quo {xs : List Staged} : (swapMark xs s).quo = s.quo := (congrArg State.quo swapMark_frame).trans rfl
theorem swapMark_rd {xs : List Staged} (x : Nat) : rd (swapMark xs s) x = rd s x := (congrArg (rd · x) swapMark_frame).trans rfl
theorem swapMark_memByte {xs : List Staged} (x : Nat) : memByte (swapMark xs s) x = memByte s x :=
  (congrArg (memByte · x) swapMark_frame).trans rfl

/-! ### A write of EDG.DT -/

/-- What a write of EDG.DT at `a` stages: DTIME, held at 64,000, and MINPW. -/
def dtimeOf (a : Nat) (v : Word) : Staged := ⟨a, 0, 16, 0, min (bitsOf v 0 16) 64000⟩
def minpwOf (a : Nat) (v : Word) : Staged := ⟨a, 16, 8, 0, bitsOf v 16 8⟩

theorem qsWord_dt : ∀ c : Fin 48, inTab (R.EDG_DT.at c) = false ∧ qsWord (R.EDG_DT.at c) = [(0, 16, .nat 0 64000), (16, 8, .any)] := by
  decide

/-- No range is stated relative to a field of EDG.DT or of a field of it (R503). -/
theorem relOf_dt (c : Fin 48) (x : Staged) (n : Nat) (hx : x.addr = R.EDG_DT.at c) : relOf s x n = (n, .none) := by
  have h : ∀ c : Fin 48, inTab (R.EDG_DT.at c) = false ∧ R.EDG_CH.idx? (R.EDG_DT.at c) = none ∧ R.EDG_PHASE.idx? (R.EDG_DT.at c) = none ∧
      R.SYS_TRK_WIN.idx? (R.EDG_DT.at c) = none ∧ R.MOV_RHO.idx? (R.EDG_DT.at c) = none ∧ R.EDG_DT.at c ≠ R.SYS_MM_FORCE.addr ∧
      R.FBK_SSI_TIMING.idx? (R.EDG_DT.at c) = none := by decide
  obtain ⟨ht, hch, hph, hwin, hrho, hforce, hssi⟩ := h c
  unfold relOf
  simp only [hx, ht, hch, hph, hwin, hrho, hforce, hssi, Bool.false_eq_true, if_false, false_and]

theorem dependents_dt (c : Fin 48) (m : Nat) : dependents s (R.EDG_DT.at c) m = [] := by
  have h : ∀ c : Fin 48, R.EDG_DT.at c ≠ tabBase ∧ R.EDG_CH.idx? (R.EDG_DT.at c) = none ∧ R.FBK_SSI_CFG.idx? (R.EDG_DT.at c) = none := by
    decide
  obtain ⟨ht, hch, hssi⟩ := h c
  unfold dependents
  simp only [ht, hch, hssi, if_false]

theorem judge_dtime {n : Nat} : (Rng.nat 0 64000).judge 16 n = (min n 64000, if 64000 < n then .clampHi else .none) := by
  unfold Rng.judge
  simp only [Nat.not_lt_zero, if_false]
  split_ifs with h
  · rw [Nat.min_eq_right (Nat.le_of_lt h)]
  · rw [Nat.min_eq_left (Nat.le_of_not_lt h)]

/-- The two staged values with what was given and the correction of each. -/
def dtEntries (a : Nat) (v : Word) : List (Staged × Nat × Corr) :=
  [(dtimeOf a v, bitsOf v 0 16, if 64000 < bitsOf v 0 16 then .clampHi else .none), (minpwOf a v, bitsOf v 16 8, .none)]

/-- The report of a DTIME above its range. -/
def dtReport (ifc : Ifc) (a : Nat) (v : Word) (s : State) : State :=
  if 64000 < bitsOf v 0 16 then quoReport ifc .clampHi a 0 (bitsOf v 0 16) 64000 s else s

/-- What is staged by a write of EDG.DT. -/
def dtStage (ifc : Ifc) (a : Nat) (v : Word) (s : State) : State :=
  dtReport ifc a v (stagePut ifc (minpwOf a v) (stagePut ifc (dtimeOf a v) s))

theorem dtReport_eq : (if (if 64000 < bitsOf v 0 16 then Corr.clampHi else .none) ≠ .none then
    quoReport ifc (if 64000 < bitsOf v 0 16 then Corr.clampHi else .none) a 0 (bitsOf v 0 16) (min (bitsOf v 0 16) 64000) s else s) =
      dtReport ifc a v s := by
  unfold dtReport
  split_ifs with h hn hn
  · rw [Nat.min_eq_right (Nat.le_of_lt h)]
  · exact absurd (by decide) hn
  · exact absurd rfl hn
  · rfl

theorem stageWord_dt (c : Fin 48) (hroom : s.quo.owner.isSome = true → s.quo.staged.length ≤ 2046) :
    stageWord ifc (R.EDG_DT.at c) v s =
      if (dtStage ifc (R.EDG_DT.at c) v s).quo.owner.isSome then dtStage ifc (R.EDG_DT.at c) v s
      else swapMark ((dtStage ifc (R.EDG_DT.at c) v s).quo.implicit.map (·.st)) (dtStage ifc (R.EDG_DT.at c) v s) := by
  obtain ⟨ht, hq⟩ := qsWord_dt c
  unfold stageWord
  rw [ht, hq]
  extract_lets m own _ s1 s2 s3 s4
  have hown : own = dtEntries (R.EDG_DT.at c) v := by
    unfold own m
    simp only [List.map_cons, List.map_nil, judge_dtime]
    rfl
  have hfull : ¬ (s.quo.owner.isSome && decide (2048 < s.quo.staged.length + wouldAdd s (own.map (·.1)))) = true := by
    rw [Bool.and_eq_true, decide_eq_true_iff]
    rintro ⟨ho, hlt⟩
    have hadd : wouldAdd s (own.map (·.1)) ≤ 2 := by
      rw [hown]
      exact List.length_filter_le _ _
    have := hroom ho
    omega
  have hd (t : State) (n : Nat) : relOf t (dtimeOf (R.EDG_DT.at c) v) n = (n, .none) := relOf_dt c _ n rfl
  have hm (t : State) (n : Nat) : relOf t (minpwOf (R.EDG_DT.at c) v) n = (n, .none) := relOf_dt c _ n rfl
  have h1 : s1 = stagePut ifc (minpwOf (R.EDG_DT.at c) v) (stagePut ifc (dtimeOf (R.EDG_DT.at c) v) s) := by
    unfold s1
    rw [hown]
    rfl
  have h2 : s2 = dtStage ifc (R.EDG_DT.at c) v s := by
    unfold s2
    rw [hown, h1]
    simp only [dtEntries, forL, List.foldl_cons, List.foldl_nil, hd, hm, ne_eq, not_true_eq_false, if_false]
    exact dtReport_eq
  have h3 : s3 = s2 := if_neg Bool.false_ne_true
  have h4 : s4 = s3 := by
    unfold s4
    rw [dependents_dt]
    rfl
  rw [if_neg hfull, h4, h3, h2]

theorem dtReport_rd {x : Nat} (h : x ≠ R.QUO_STATUS.addr) : rd (dtReport ifc a v s) x = rd s x := by
  unfold dtReport
  split_ifs
  · exact quoReport_rd h
  · rfl

theorem dtReport_memByte (x : Nat) : memByte (dtReport ifc a v s) x = memByte s x := by
  unfold dtReport
  split_ifs
  · exact quoReport_memByte
  · rfl

theorem dtReport_quo : (dtReport ifc a v s).quo = { s.quo with report := (dtReport ifc a v s).quo.report } := by
  unfold dtReport
  split_ifs
  · exact quoReport_quo
  · rfl

theorem dtStage_rd {x : Nat} (h : x ≠ R.QUO_STATUS.addr) : rd (dtStage ifc a v s) x = rd s x := by
  rw [dtStage, dtReport_rd h, stagePut_rd, stagePut_rd]

theorem dtStage_memByte (x : Nat) : memByte (dtStage ifc a v s) x = memByte s x := by
  rw [dtStage, dtReport_memByte, stagePut_memByte, stagePut_memByte]

theorem dtStage_owner : (dtStage ifc a v s).quo.owner = s.quo.owner := by
  rw [dtStage, dtReport_quo, stagePut_owner, stagePut_owner]

/-- In an open quoin with room DTIME is staged. -/
theorem dtime_mem_staged (ho : s.quo.owner.isSome = true) (hr : s.quo.staged.length < 2048) :
    dtimeOf a v ∈ (dtStage ifc a v s).quo.staged := by
  rw [dtStage, dtReport_quo]
  have h1 : stagePut ifc (dtimeOf a v) s = stageOpen (dtimeOf a v) s := if_pos ho
  have h2 : stagePut ifc (minpwOf a v) (stageOpen (dtimeOf a v) s) = stageOpen (minpwOf a v) (stageOpen (dtimeOf a v) s) :=
    if_pos (by rwa [← h1, stagePut_owner])
  rw [h1, h2]
  refine mem_stageOpen_other (mem_stageOpen_self hr) ?_
  simp [Staged.same, dtimeOf, minpwOf]

/-- Without an open quoin DTIME queues as an implicit transaction. -/
theorem dtStage_implicit (ho : s.quo.owner = none) : dtimeOf a v ∈ (dtStage ifc a v s).quo.implicit.map (·.st) ∧
    (dtStage ifc a v s).quo.staged = s.quo.staged := by
  have h (x : Staged) (t : State) (ht : t.quo.owner = none) : stagePut ifc x t = stageImplicit ifc x t :=
    if_neg (by rw [ht]; exact Bool.false_ne_true)
  rw [dtStage, dtReport_quo, h (dtimeOf a v) s ho, h (minpwOf a v) (stageImplicit ifc (dtimeOf a v) s) ho]
  refine ⟨List.mem_map.mpr ⟨⟨ifc, skipImp s, s.quo.pending.isSome, dtimeOf a v⟩, ?_, rfl⟩, rfl⟩
  exact List.mem_append_left _ (List.mem_append_right _ (List.mem_singleton_self _))

/-! ### The commands -/

theorem qsWrite_own (h : s.quo.owner = some ifc) : qsWrite ifc a v s = stageWord ifc a v s := by
  unfold qsWrite
  rw [h]
  exact if_pos rfl

theorem qsWrite_free (h : s.quo.owner = none) : qsWrite ifc a v s = stageWord ifc a v s := by
  unfold qsWrite
  rw [h]

theorem qsWrite_other {o : Ifc} (h : s.quo.owner = some o) (ho : o ≠ ifc) : qsWrite ifc a v s = hostDrop ifc a s := by
  unfold qsWrite
  rw [h]
  exact if_neg ho

theorem hostGate_write {via : Via} {f : State → State} (h : HostOn s a) :
    hostGate via a (some v) f s = f (arrived via.ifc via.t true s) := hostGate_awake h

/-- A write of EDG.DT with PD_EDG on. -/
theorem dtWrite_awake {via : Via} (c : Fin 48) (h : HostOn s (R.EDG_DT.at c)) :
    hostGate via (BitVec.ofNat 32 (R.EDG_DT.at c)).toNat (some v) (qsWrite via.ifc (BitVec.ofNat 32 (R.EDG_DT.at c)).toNat v) s =
      qsWrite via.ifc (R.EDG_DT.at c) v (arrived via.ifc via.t true s) := by
  have hlt : ∀ c : Fin 48, R.EDG_DT.at c < 2 ^ 32 := by decide
  rw [BitVec.toNat_ofNat, Nat.mod_eq_of_lt (hlt c), hostGate_write h]

/-- Settles O17: BEGIN by the cases of `quoBegin`, a write of EDG.DT by what `stageWord` makes of its two fields. -/
theorem quoinOpenAndStage : Obligations.QuoinOpenAndStage := by
  refine ⟨fun s via h ho hp hb => ?opens, fun s via h ho hn => ?refused, fun s via c v h ho hr => ?staged, fun s via c v h ho => ?implicit,
    fun s via c v o h ho hne => ?dropped⟩
  case opens =>
    have ha : (arrived via.ifc via.t true s).quo = s.quo := arrived_quo_other (by rw [ho]; exact nofun)
    have hgo := (hostGate_write (via := via) (v := 1#32) h).trans
      (quoBegin_opens (ifc := via.ifc) (by rw [ha, ho]) (by rw [ha, hp]) (by rwa [arrived_st]))
    refine ⟨_, congrArg Host.Outcome.next hgo, rfl, rfl, rfl, rfl, fun a hx => ?_, fun a _ => ?_⟩
    · exact (quoOpen_rd (beq_eq_false_iff_ne.mp hx)).trans (rd_arrived a)
    · exact (quoOpen_memByte a).trans (memByte_arrived a)
  case refused =>
    have ha : (arrived via.ifc via.t true s).quo = s.quo := arrived_quo_other (by rw [ho]; exact nofun)
    have hgo := (hostGate_write (via := via) (v := 1#32) h).trans
      (quoBegin_refused (ifc := via.ifc) (by rw [ha, ho]) (by rwa [ha, arrived_st]))
    refine ⟨_, congrArg Host.Outcome.next hgo, ?_, ha, fun a _ => ?_, fun a hx => ?_⟩
    · exact (fget_raiseFlag _ _ _ _ _ _ _ _ _).trans (fget_fset_self _ _ _ _ _ _ (by decide))
    · rw [memByte_of_evtOnly (raiseFlag_evtOnly _ _ _ _ _), memByte_arrived]
    · rw [rd_raiseFlag, rd_fset_ne _ _ _ _ _ _ (beq_eq_false_iff_ne.mp hx), rd_arrived]
  case staged =>
    have hown : (arrived via.ifc via.t true s).quo.owner = some via.ifc := arrived_owner.trans ho
    have hroom : (arrived via.ifc via.t true s).quo.staged.length ≤ 2046 := by rwa [arrived_staged]
    have hst := stageWord_dt (ifc := via.ifc) (v := v) c (fun _ => hroom)
    rw [if_pos (by rw [dtStage_owner, hown]; rfl)] at hst
    have hgo := (dtWrite_awake (v := v) c h).trans ((qsWrite_own (v := v) hown).trans hst)
    refine ⟨_, congrArg Host.Outcome.next hgo, ?_, ?_, fun a hx => ?_, fun a _ => ?_⟩
    · exact dtime_mem_staged (by rw [hown]; rfl) (by omega)
    · rw [dtStage_owner, hown]
    · rw [dtStage_rd (by simpa using hx), rd_arrived]
    · rw [dtStage_memByte, memByte_arrived]
  case implicit =>
    have hown : (arrived via.ifc via.t true s).quo.owner = none := arrived_owner.trans ho
    have hst := stageWord_dt (ifc := via.ifc) (v := v) c (fun h => absurd h (by rw [hown]; exact Bool.false_ne_true))
    rw [if_neg (by rw [dtStage_owner, hown]; exact Bool.false_ne_true)] at hst
    have hgo := (dtWrite_awake (v := v) c h).trans ((qsWrite_free (v := v) hown).trans hst)
    obtain ⟨himp, hstaged⟩ := dtStage_implicit (ifc := via.ifc) (a := R.EDG_DT.at c) (v := v) hown
    refine ⟨_, congrArg Host.Outcome.next hgo, ?_, ?_, fun a hx => ?_, fun a _ => ?_⟩
    · rwa [swapMark_quo]
    · rw [swapMark_quo, hstaged, arrived_staged]
    · rw [swapMark_rd, dtStage_rd (beq_eq_false_iff_ne.mp hx), rd_arrived]
    · rw [swapMark_memByte, dtStage_memByte, memByte_arrived]
  case dropped =>
    have hown : (arrived via.ifc via.t true s).quo.owner = some o := arrived_owner.trans ho
    have ha : (arrived via.ifc via.t true s).quo = s.quo := arrived_quo_other (by rw [ho]; exact fun hc => hne (Option.some.inj hc))
    have hgo := (dtWrite_awake (v := v) c h).trans (qsWrite_other (v := v) hown hne)
    refine ⟨_, congrArg Host.Outcome.next hgo, hostDrop_quo.trans ha, ?_, fun a hx => ?_, fun a _ => ?_⟩
    · rw [hostDrop_count, fget_arrived]
    · simp only [Bool.or_eq_false_iff, beq_eq_false_iff_ne] at hx
      rw [rd_hostDrop_ne hx.1 hx.2, rd_arrived]
    · rw [memByte_hostDrop, memByte_arrived]

end Sys2Proof.Machine
end

section
/-! The event log (O56). -/

namespace Sys2Proof.Machine

/-- A write that takes the last free entry drops the event that is left in the input stage (R467). -/
theorem evtWrite_last {s : State} {e x : Nat × Event} (hd : s.sys.st ≠ .doze) (hl : s.evt.log.length = 1023) (ho : s.evt.overflow = false)
    (hs : s.evt.stage = [e, x]) :
    evtWrite s = evtDrop x.2.block { s with evt := { s.evt with log := s.evt.log ++ [e.2], stage := [] } } := by
  have hroom : ¬ (s.sys.st = .doze ∨ s.evt.log.length = 1024) := by
    rw [hl]
    rintro (h | h)
    · exact hd h
    · omega
  have hfull : (s.evt.log ++ [e.2]).length = 1024 := by rw [List.length_append, hl, List.length_singleton]
  unfold evtWrite
  rw [if_neg hroom, ho, if_neg Bool.false_ne_true, hs]
  exact if_pos ⟨hfull, hd⟩

theorem rd_evtDrop (b : Nat) (s : State) : rd (evtDrop b s) (R.EVT_DROP.at (b - 1)) =
    setBits (rd s (R.EVT_DROP.at (b - 1))) 0 16 (min (fget s F.EVT_DROP_COUNT (b - 1) + 1) 65535) := rd_wr_self _ _ _

theorem evtIrq_rd {s : State} {a : Nat} (h : a ≠ R.SYS_IRQ_PEND.addr) : rd (evtIrq s) a = rd s a := by
  unfold evtIrq
  split_ifs
  · exact setPend_rd 2 s h
  · rfl

/-- The log after reset with room for one event, and in the input stage a second event of a block that R464 does not number: 26. -/
def strayBlock : State :=
  { State.reset with
    evt := { EvtS.init with
      log := List.replicate 1023 ⟨0, 1, 0, 0, 0, 0⟩
      stage := [(0, ⟨0, 1, 0, 0, 0, 0⟩), (0, ⟨0, 26, 0, 0, 0, 0⟩)] } }

theorem strayBlock_length : strayBlock.evt.log.length = 1023 := List.length_replicate

/-- Refutes O56: a log write that takes the last free entry drops what is left in the input stage, and counts an event of block 26 in the
word 0x3168, past the 25 counters of EVT.DROP: one word more than the statement allows. -/
theorem not_eventLog : ¬ Obligations.EventLog := by
  rintro ⟨hwrite, -⟩
  obtain ⟨t, ht, -, -, -, -, hkept⟩ := hwrite strayBlock 0 (0, ⟨0, 1, 0, 0, 0, 0⟩) [(0, ⟨0, 26, 0, 0, 0, 0⟩)] (by decide)
    (by rw [strayBlock_length]; decide) rfl rfl
  obtain rfl : evtIrq (evtWrite (advance 0 strayBlock)) = t := Host.Outcome.next.inj ht
  have hcount : rd (evtIrq (evtWrite (advance 0 strayBlock))) 0x3168 = 1#32 := by
    rw [evtIrq_rd (by decide), evtWrite_last (s := advance 0 strayBlock) (by decide) strayBlock_length rfl rfl]
    exact rd_evtDrop 26 _
  exact absurd (hcount.symm.trans (hkept 0x3168 (by decide))) (by decide)

end Sys2Proof.Machine
end

section
/-! A step with no command waiting (O2). -/

namespace Sys2Proof.Machine

/-- DOZE after reset before step 5 of its entry (R442): PD_SYS is not in retention yet, and LNS still runs on the TIM clock. -/
def dozeEntered : State := { State.reset with sys := { SysS.init with st := .doze } }

/-- Refutes O2: until PD_SYS goes into retention, LNS gains INCR in DOZE too, not the X32 period. -/
theorem not_idleStepRunsTheClock : ¬ Obligations.IdleStepRunsTheClock := by
  intro h
  obtain ⟨t, ht, -, hacc⟩ := h dozeEntered rfl
  obtain rfl : timTick dozeEntered = t := Host.Outcome.next.inj ht
  exact absurd hacc (by decide)

end Sys2Proof.Machine
end

section
/-! Events that come while the event log is full: what waits in the input stage is dropped first (R467). -/

namespace Sys2Proof.Machine

variable {s : State} {x : Nat × Event} {st b c i d0 d1 a : Nat}

/-- The log is full outside DOZE, and no trigger condition hears an event, as PD_ACQ is off. -/
structure LogFull (s : State) : Prop where
  awake : s.sys.st ≠ .doze
  full : s.evt.log.length = 1024
  deaf : domainOn s 8 = false

/-- The input stage is emptied. -/
def unstaged (s : State) : State := { s with evt := { s.evt with stage := [] } }

theorem trigEvent_deaf {e : Event} (h : domainOn s 8 = false) : trigEvent e s = s :=
  if_neg (by rw [h]; exact Bool.false_ne_true)

theorem LogFull.flush (h : LogFull s) : evtFlush s = forL s.evt.stage (fun e => evtDrop e.2.block) (unstaged s) := if_pos ⟨h.full, h.awake⟩

/-- An event that comes in a later SYS cycle than the one that waits is dropped after it. -/
theorem LogFull.flush_waiting {e : Event} (h : LogFull s) (hs : s.evt.stage = [x]) (hx : x.1 ≠ sysCycle s) :
    evtFlush (stageEvt e s) = evtDrop e.block (evtDrop x.2.block (unstaged s)) := by
  have hstage : stageEvt e s = { s with evt := { s.evt with stage := [x, (sysCycle s, e)] } } := by
    unfold stageEvt
    rw [hs, stageIns, if_neg fun hc => hx hc.1]
    rfl
  rw [hstage]
  exact LogFull.flush (s := { s with evt := { s.evt with stage := [x, (sysCycle s, e)] } }) ⟨h.awake, h.full, h.deaf⟩

theorem LogFull.flush_alone {e : Event} (h : LogFull s) (hs : s.evt.stage = []) :
    evtFlush (stageEvt e s) = evtDrop e.block (unstaged s) := by
  have hstage : stageEvt e s = { s with evt := { s.evt with stage := [(sysCycle s, e)] } } := by
    unfold stageEvt
    rw [hs]
    rfl
  rw [hstage]
  exact LogFull.flush (s := { s with evt := { s.evt with stage := [(sysCycle s, e)] } }) ⟨h.awake, h.full, h.deaf⟩

/-- An event drops the one that waits just as if that had been dropped before it came. -/
theorem LogFull.raiseAt_waiting (h : LogFull s) (hs : s.evt.stage = [x]) (hx : x.1 ≠ sysCycle s) :
    raiseAt st b c i d0 d1 s = raiseAt st b c i d0 d1 (evtDrop x.2.block (unstaged s)) := by
  let m : MmEvent := ⟨b, c % 256, i % 256, lns s⟩
  have hw : LogFull { s with mmq := s.mmq ++ [m] } := ⟨h.awake, h.full, h.deaf⟩
  have ha : LogFull { evtDrop x.2.block (unstaged s) with mmq := s.mmq ++ [m] } := ⟨h.awake, h.full, h.deaf⟩
  have heq (e : Event) : evtFlush (stageEvt e (trigEvent e { s with mmq := s.mmq ++ [m] })) =
      evtFlush (stageEvt e (trigEvent e { evtDrop x.2.block (unstaged s) with mmq := s.mmq ++ [m] })) := by
    rw [trigEvent_deaf hw.deaf, trigEvent_deaf ha.deaf, hw.flush_waiting hs hx, ha.flush_alone rfl]
    rfl
  unfold raiseAt
  dsimp only
  rw [heq]
  rfl

theorem LogFull.raise_waiting (h : LogFull s) (hs : s.evt.stage = [x]) (hx : x.1 ≠ sysCycle s) :
    raise b c i d0 d1 s = raise b c i d0 d1 (evtDrop x.2.block (unstaged s)) := h.raiseAt_waiting hs hx

/-- An event that nothing waits for counts, when it is dropped, in its own counter. -/
theorem LogFull.rd_raiseAt_alone (h : LogFull s) (hs : s.evt.stage = []) (hp : a ≠ R.SYS_IRQ_PEND.addr) (hb : a ≠ R.EVT_DROP.at (b - 1)) :
    rd (raiseAt st b c i d0 d1 s) a = rd s a := by
  have hw : LogFull { s with mmq := s.mmq ++ [⟨b, c % 256, i % 256, lns s⟩] } := ⟨h.awake, h.full, h.deaf⟩
  unfold raiseAt
  dsimp only
  rw [evtIrq_rd hp, trigEvent_deaf hw.deaf, hw.flush_alone hs]
  split_ifs
  · rw [setPend_rd _ _ hp, evtDrop_rd _ _ hb]
    rfl
  · rw [evtDrop_rd _ _ hb]
    rfl

/-- What an event leaves of a register when it drops the one that waits. -/
theorem LogFull.rd_raise_waiting (h : LogFull s) (hs : s.evt.stage = [x]) (hx : x.1 ≠ sysCycle s) (hp : a ≠ R.SYS_IRQ_PEND.addr)
    (hb : a ≠ R.EVT_DROP.at (b - 1)) : rd (raise b c i d0 d1 s) a = rd (evtDrop x.2.block s) a := by
  have ha : LogFull (evtDrop x.2.block (unstaged s)) := ⟨h.awake, h.full, h.deaf⟩
  rw [h.raise_waiting hs hx]
  exact ha.rd_raiseAt_alone rfl hp hb

/-! ### An event of a block that R464 does not number

The input stage is a list of any events. One whose block is above the 25 of R464 counts, when it is dropped, in a word past the counters
of EVT.DROP. -/

/-- The log is full, and an event of block `b` has waited in the input stage since SYS cycle 1. -/
def strayWaits (b : Nat) (s : State) : State :=
  { s with evt := { s.evt with log := List.replicate 1024 ⟨0, 1, 0, 0, 0, 0⟩, stage := [(1, ⟨0, b, 0, 0, 0, 0⟩)] } }

theorem strayWaits_full (b : Nat) : (strayWaits b s).evt.log.length = 1024 := List.length_replicate

/-- The word past the counters of EVT.DROP that an event of block 26 would count in. -/
def pastDrops : Nat := 0x3168

/-- The next event of a block that R464 numbers has the stray one of block 26 counted in `pastDrops`. -/
theorem LogFull.raise_counts_stray (h : LogFull s) {e : Event} {n : Nat} (hs : s.evt.stage = [(n, e)]) (he : e.block = 26)
    (hn : n ≠ sysCycle s) (hz : rd s pastDrops = 0#32) (hb : pastDrops ≠ R.EVT_DROP.at (b - 1)) :
    rd (raise b c i d0 d1 s) pastDrops = 1#32 := by
  rw [h.rd_raise_waiting hs hn (by decide) hb]
  change rd (evtDrop e.block s) pastDrops = _
  rw [he]
  refine (rd_evtDrop 26 s).trans ?_
  change setBits (rd s pastDrops) 0 16 (min (bitsOf (rd s pastDrops) 0 16 + 1) 65535) = _
  rw [hz]
  decide

end Sys2Proof.Machine
end

section
/-! Refutations by an event of a block that R464 does not number (O24, O51, O52, O59). -/

namespace Sys2Proof.Machine
open Sys2Proof.Claims

/-- The device after reset with the stray event of block 26. -/
def strayReset : State := strayWaits 26 State.reset

theorem strayReset_full : strayReset.evt.log.length = 1024 := strayWaits_full 26

/-- Refutes O59: the event that the loss of XIN raises finds the log full and has the stray one counted, in a word that the statement keeps. -/
theorem not_powerAndReset : ¬ Obligations.PowerAndReset := by
  rintro ⟨-, -, -, -, -, -, -, -, -, -, -, hxin, -⟩
  let u : State := { strayReset with pwr := { strayReset.pwr with xinLost := true } }
  obtain ⟨t, ht, -, -, hkept⟩ := hxin strayReset 0 ⟨by decide, rfl⟩
  obtain rfl : raise blkPWR 0x04 0 0 0 u = t := Host.Outcome.next.inj ht
  have hlog : LogFull u := ⟨by decide, strayReset_full, by decide⟩
  have hcount : rd (raise blkPWR 0x04 0 0 0 u) pastDrops = 1#32 :=
    hlog.raise_counts_stray rfl rfl (by decide) (by decide) (by decide)
  exact absurd (hcount.symm.trans (hkept pastDrops (by decide))) (by decide)

/-- Refutes O51: a STOP_ACK in BOOT is refused, and the event of the refusal finds the log full and has the stray one counted, in a word
that the statement keeps. -/
theorem not_deviceRequests : ¬ Obligations.DeviceRequests := by
  rintro ⟨-, -, -, -, -, -, -, -, -, hack, -⟩
  let u : State := raiseFlag (arrived .pcie 0 true strayReset) F.SYS_STATE_REQ_REFUSED
  have hon : HostOn strayReset R.SYS_CTL.addr := by decide
  obtain ⟨t, ht, -, -, -, hkept⟩ := hack strayReset ⟨.pcie, 0⟩ hon (by decide)
  have hgo : exec (.stopAck ⟨.pcie, 0⟩) strayReset = .next (raise blkSYS 0x02 0 8 DevState.boot.code u) :=
    congrArg Host.Outcome.next (hostGate_awake hon)
  obtain rfl : raise blkSYS 0x02 0 8 DevState.boot.code u = t := Host.Outcome.next.inj (hgo.symm.trans ht)
  have hlog : LogFull u := ⟨by decide, strayReset_full, by decide⟩
  have hcount : rd (raise blkSYS 0x02 0 8 DevState.boot.code u) pastDrops = 1#32 :=
    hlog.raise_counts_stray rfl rfl (by decide) (by decide) (by decide)
  exact absurd (hcount.symm.trans (hkept pastDrops (by decide))) (by decide)

/-- The same with the rescue unit powered, and mover 0 enabled for a rescue. -/
def strayRescue : State :=
  fset { strayReset with pwr := { strayReset.pwr with on := 0x3803#14 } } F.PAR_RSCM_CFG_EN 1 0

theorem rescTrigger_refused {s : State} {m : Nat} (hd : s.sys.st ≠ .doze) (ho : (ownOk s && safLive s) = false)
    (hm : (List.range 32).filter (fun m => flag s F.PAR_RSCM_CFG_EN m && rescState s m != 1 && rescState s m != 2) = [m]) :
    rescTrigger s = rescSet m 6 none s := by
  unfold rescTrigger
  rw [if_neg hd, ho, hm]
  rfl

/-- The state in which the event of a refused rescue of mover `m` is raised. -/
def rescRefused (m : Nat) (s : State) : State :=
  let u := holdMark (Timed.hold m) false (fset s F.PAR_RSCM_STATE_STATE 6 m)
  drawn (fset u F.PAR_STATUS_ACTIVE (rescueActive u).toNat)

/-- Refutes O52: a trigger on a unit that does not own its outputs refuses mover 0, and the event of that finds the log full and has the
stray one counted, in a word that the statement keeps. -/
theorem not_rescueRuns : ¬ Obligations.RescueRuns := by
  rintro ⟨-, -, -, hother, -⟩
  have hon : HostOn strayRescue R.PAR_RSC.addr := by decide
  obtain ⟨t, ht, -, -, -, hkept⟩ := hother strayRescue ⟨.pcie, 0⟩ hon (by decide) (.inr (by decide))
  let u : State := rescRefused 0 (arrived .pcie 0 true strayRescue)
  have hrefused : rescTrigger (arrived .pcie 0 true strayRescue) = rescSet 0 6 none (arrived .pcie 0 true strayRescue) :=
    rescTrigger_refused (by decide) (by decide) (by decide)
  obtain rfl : raise blkPAR 0x20 0 6 (Config.eventWord blkPAR 0x20 1 0) u = t :=
    Host.Outcome.next.inj ((congrArg Host.Outcome.next ((hostGate_awake hon).trans hrefused)).symm.trans ht)
  have hlog : LogFull u := ⟨by decide, strayReset_full, by decide⟩
  have hcount : rd (raise blkPAR 0x20 0 6 (Config.eventWord blkPAR 0x20 1 0) u) pastDrops = 1#32 :=
    hlog.raise_counts_stray rfl rfl (by decide) (by decide) (by decide)
  exact absurd (hcount.symm.trans (hkept pastDrops (by decide))) (by decide)

/-- PLTM in a measurement job, before a SEV that always raises its event. -/
def straySev : State :=
  { strayReset with plts := [(4, { PltS.init with jobBusy := true, act := { BankS.empty with sorts := [(0, 0x6000004000000000#64)] } })] }

/-- That SEV. -/
def sevSort : Srt := ⟨4, 0, 0, 0, 0, 0x100, 0, 0, []⟩

/-- A sort whose reads find no error, whose encoding is used and whose section is on has its effect, and the sequencer goes on. -/
theorem issue_issued {op : Nat} {a : Srt} {s : State} (h : Issued op a s) :
    issue op a s = seqTo a.plt (unitEnd ((s.plt a.plt).act.sort a.idx.toNat) a.idx.toNat) (sortBody op a s) := by
  obtain ⟨hnext, hused, herrs, hsec⟩ := h
  unfold issue issueOp issueWith perform pltEcc pltReadable
  rw [if_pos hnext]
  dsimp only
  rw [hsec, herrs, hused]
  rfl

/-- Refutes O24: the platen event of a SEV finds the log full and has the stray one counted, in a word that the statement keeps. -/
theorem not_sortsControl : ¬ Obligations.SortsControl := by
  rintro ⟨-, -, -, -, -, hsev, -⟩
  have hissued : Issued 0x18 sevSort straySev := by decide +kernel
  obtain ⟨t, ht, -, -, hkept⟩ := hsev straySev sevSort hissued (.inl (by decide))
  let u : State := drawn straySev
  have hbody : sortBody 0x18 sevSort straySev = raise blkPLT 0 4 (sevWord0 0 straySev) (sevWord1 0 straySev) u := rfl
  obtain rfl : seqTo 4 1 (raise blkPLT 0 4 (sevWord0 0 straySev) (sevWord1 0 straySev) u) = t :=
    Host.Outcome.next.inj ((congrArg Host.Outcome.next (issue_issued hissued)).symm.trans ht)
  have hlog : LogFull u := ⟨by decide, strayReset_full, by decide⟩
  have hcount : rd (raise blkPLT 0 4 (sevWord0 0 straySev) (sevWord1 0 straySev) u) pastDrops = 1#32 :=
    hlog.raise_counts_stray rfl rfl (by decide) (by decide) (by decide)
  exact absurd (hcount.symm.trans (hkept pastDrops (by decide))) (by decide)

end Sys2Proof.Machine
end

section
/-! The same at an impression boundary (O28). -/

namespace Sys2Proof.Machine
open Sys2Proof.Claims

variable {s u : State} {e e' : List PltErr} {bits : List (List Bool)}

theorem advance_zero : advance 0 s = s := by
  have hacc : max s.tim.acc (0 * 2 ^ 18) = s.tim.acc := by rw [Nat.zero_mul, Nat.max_zero]
  unfold advance
  rw [hacc]

theorem exec_boundary (h : s.sys.running = true) :
    exec (.impressionBoundary 0 bits [] none none e) s = .next (impBoundary bits e s) := by
  have hgo : exec (.impressionBoundary 0 bits [] none none e) s =
      .next (if (advance 0 s).sys.running then impBoundary bits e (advance 0 s) else advance 0 s) := rfl
  rw [hgo, advance_zero, if_pos h]

/-- A boundary begins with the words that the scrubbers read in their gaps. -/
theorem impBoundary_congr_gapEnd (h : gapEnd e s = gapEnd e' u) : impBoundary bits e s = impBoundary bits e' u := by
  unfold impBoundary
  rw [h]

theorem gapEnd_none (h : ∀ n, (s.plt n).gap = false) : gapEnd e s = s :=
  forN_inv (P := (· = s)) (fun n t ht => by rw [ht, h n, if_neg Bool.false_ne_true]) 4 s rfl

/-- Of a gap of platen 0 alone, what its scrubber reads is all. -/
theorem gapEnd_first (h : (s.plt 0).gap = true) (hv : ∀ n, ((scrub32 0 e s).plt n).gap = false) : gapEnd e s = scrub32 0 e s := by
  have hstep : gapEnd e s = [1, 2, 3].foldl (fun s n => if (s.plt n).gap then scrub32 n e s else s)
      (if (s.plt 0).gap then scrub32 0 e s else s) := rfl
  rw [hstep, if_pos h]
  exact List.foldl_fixed' (fun n => if_neg (by rw [hv n]; exact Bool.false_ne_true)) _

/-- Impressions run, the gap of platen 0 is to end, a command waits for accord 0 and one for path group 0, and an event waits in the
input stage whose block counts in the word of ACD.STATUS of accord 0. -/
def strayAccord : State :=
  { strayWaits 50114 State.reset with
    sys := { SysS.init with running := true }
    plts := [(0, { PltS.init with gap := true })]
    mot := { MotS.init with acd := [(0, { AcdS.init with pend := some ⟨1, 0, 0⟩ })], pth := [(0, { PthS.init with pend := some ⟨1, 0, 0⟩ })] } }

/-- The first word that the scrubber of platen 0 reads is uncorrectable. -/
def badWord : List PltErr := [⟨0, 0, .multi⟩]

/-- Where the event of that word is raised, and with the event. -/
def badNoted : State := drawn (fset (raiseFlag strayAccord F.PLT_STATUS_UE 0) F.PLT_UE_ADDR_OFFSET 0 0)
def badRaised : State :=
  raise blkPLT (Config.eventWord blkPLT 0x100 2 0) 0 (Config.eventWord blkPLT (Config.eventWord blkPLT 0x100 2 0) 0 0)
    (Config.eventWord blkPLT (Config.eventWord blkPLT 0x100 2 0) 1 0) badNoted

theorem badRaised_evtOnly : EvtOnly badNoted badRaised := raise_evtOnly _ _ _ _ _ _

/-- Where the gap of platen 0 has ended. -/
def gapEnded : State := modPlt badRaised 0 (fun x => { x with scrub := 32, gap := false })

theorem scrub32_strayAccord : scrub32 0 badWord strayAccord = gapEnded := rfl

theorem gapEnded_noGap (n : Nat) : (gapEnded.plt n).gap = false := by
  refine (congrArg PltS.gap (plt_setPlt badRaised 0 _ n)).trans ?_
  have hplts : badRaised.plts = strayAccord.plts := badRaised_evtOnly.plts
  split_ifs with hn
  · rfl
  · unfold State.plt
    rw [hplts]
    exact congrArg PltS.gap (if_neg fun h => hn h.symm)

/-- The boundary from `strayAccord` and the one from where the gap has ended are the same. -/
theorem boundary_gapEnded : impBoundary [] badWord strayAccord = impBoundary [] [] gapEnded := by
  refine impBoundary_congr_gapEnd ?_
  rw [gapEnd_first rfl (fun n => by rw [scrub32_strayAccord]; exact gapEnded_noGap n), gapEnd_none gapEnded_noGap, scrub32_strayAccord]

theorem gapEnded_sys : gapEnded.sys = strayAccord.sys := badRaised_evtOnly.sys
theorem gapEnded_quo : gapEnded.quo = strayAccord.quo := (congrArg State.quo badRaised_evtOnly.eq).trans rfl
theorem gapEnded_mot : gapEnded.mot = strayAccord.mot := (congrArg State.mot badRaised_evtOnly.eq).trans rfl

theorem gapEnded_rd {a : Nat} (hp : a ≠ R.SYS_IRQ_PEND.addr) (hb : a ≠ R.EVT_DROP.at 4) : rd gapEnded a = rd (evtDrop 50114 badNoted) a :=
  LogFull.rd_raise_waiting (s := badNoted) (x := (1, ⟨0, 50114, 0, 0, 0, 0⟩)) ⟨by decide, strayWaits_full 50114, by decide⟩ rfl (by decide)
    hp hb

/-- The words that the end of the gap changes. -/
def gapWords : List Nat := [R.SYS_IRQ_PEND.addr, R.EVT_DROP.at 4, R.ACD_STATUS.at 0, R.PLT_UE_ADDR.at 0, R.PLT_STATUS.at 0]

theorem gapEnded_fget {f : Fld} {i : Nat} (h : ∀ a ∈ gapWords, f.reg.at i ≠ a) : fget gapEnded f i = fget strayAccord f i := by
  simp only [gapWords, List.forall_mem_cons] at h
  obtain ⟨hp, hb, ha, hu, hs, -⟩ := h
  refine congrArg (bitsOf · _ _) ?_
  rw [gapEnded_rd hp hb, evtDrop_rd _ _ ha]
  exact (rd_fset_ne _ F.PLT_UE_ADDR_OFFSET 0 0 0 0 hu).trans (rd_fset_ne strayAccord F.PLT_STATUS_UE 1 0 0 0 hs)

/-- The drop of the stray event counts in ACD.STATUS. -/
theorem gapEnded_accord : fget gapEnded F.ACD_STATUS_STATE 0 = 1 := by
  refine (congrArg (bitsOf · 0 3) ((gapEnded_rd (a := R.ACD_STATUS.at 0) (by decide) (by decide)).trans (rd_evtDrop 50114 badNoted))).trans ?_
  decide

theorem strayAccord_sch : ∀ i : Fin 64, fget strayAccord F.SCH_STAT_STATE i ≠ 1 ∧ (strayAccord.schE i).pend = [] := by decide +kernel

theorem strayAccord_plain : PlainBoundary strayAccord := ⟨rfl, rfl, rfl, rfl, rfl, strayAccord_sch⟩

theorem gapEnded_plain : PlainBoundary gapEnded := by
  have hsch (i : Fin 64) : gapEnded.schE i = strayAccord.schE i := congrArg (fun m : MotS => SMap.get (fun _ => SchS.init) m.sch i) gapEnded_mot
  have hfar : ∀ i : Fin 64, ∀ a ∈ gapWords, R.SCH_STAT.at i ≠ a := by decide
  unfold PlainBoundary
  rw [gapEnded_sys, gapEnded_quo, gapEnded_mot]
  refine ⟨rfl, rfl, rfl, rfl, rfl, fun i => ?_⟩
  rw [gapEnded_fget (hfar i), hsch]
  exact strayAccord_sch i

/-- Refutes O28: the event of an uncorrectable word that a scrubber reads has a stray event counted in ACD.STATUS, before the boundary
refuses the command of that accord: it does not keep STATE both from `strayAccord` and from where the gap has ended. -/
theorem not_boundarySteps : ¬ Obligations.BoundarySteps := by
  rintro ⟨-, -, -, -, -, hrefuse, -⟩
  have hacd (s : State) (h : s.mot = strayAccord.mot) : (s.acd (0 : Fin 16)).pend = some ⟨1, 0, 0⟩ ∧ (s.pth (0 : Fin 8)).pend = some ⟨1, 0, 0⟩ := by
    unfold State.acd State.pth
    rw [h]
    exact ⟨rfl, rfl⟩
  have hservo : ServoNext gapEnded := by
    unfold ServoNext
    rw [gapEnded_sys, gapEnded_fget (by decide)]
    decide
  obtain ⟨t, ht, -, -, hst, -⟩ := hrefuse strayAccord 0 [] badWord 0 0 _ _ strayAccord_plain (by decide) (by decide) (hacd _ rfl) ⟨rfl, rfl⟩
  obtain ⟨t', ht', -, -, hst', -⟩ := hrefuse gapEnded 0 [] [] 0 0 _ _ gapEnded_plain hservo (by rw [gapEnded_sys]; decide)
    (hacd _ gapEnded_mot) ⟨rfl, rfl⟩
  have hsame : t = t' := by
    rw [exec_boundary rfl, boundary_gapEnded, ← exec_boundary (by rw [gapEnded_sys]; rfl)] at ht
    exact Host.Outcome.next.inj (ht.symm.trans ht')
  have hkept : fget gapEnded F.ACD_STATUS_STATE 0 = fget strayAccord F.ACD_STATUS_STATE 0 := hst'.symm.trans (hsame ▸ hst)
  rw [gapEnded_accord] at hkept
  exact absurd hkept (by decide)

end Sys2Proof.Machine
end

section
/-! An impression boundary (O19). -/

namespace Sys2Proof.Machine
open Sys2Proof.Claims

variable {s : State}

/-- A DTIME of `n` for EDG.DT of channel 0. -/
def dtStaged (n : Nat) : Staged := ⟨R.EDG_DT.at 0, 0, 16, 0, n⟩

/-- Where the event of a commit of that value is raised (R74). -/
def dtCommitted (n : Nat) (s : State) : State :=
  let u := { s with quo := { s.quo with pending := none, staged := [] } }
  let u := wr u (R.EDG_DT.at 0) (setBits (rd u (R.EDG_DT.at 0)) 0 16 n)
  fset (fset (fset u F.QUO_STATUS_RESULT 1) F.QUO_STATUS_DROPPED 0) F.QUO_APPLIED_IMP (impCount u)

theorem applyCommit_dt {i : Ifc} {n : Nat} (hq : s.quo.staged = [dtStaged n]) (hd : domainOn s 6 = true)
    (hg : flag s F.SYS_MM_FORCE_GO = false) :
    applyCommit i s = raise blkQUO 0x01 (Ifc.num i) (impCount s) 1 (dtCommitted n s) := by
  let u : State := { s with quo := { s.quo with pending := none, staged := [] } }
  let v : State := wr u (R.EDG_DT.at 0) (setBits (rd u (R.EDG_DT.at 0)) 0 16 n)
  have hnoswap : (List.range 5).filter (fun m => [dtStaged n].any (fun x => isSwap m x && x.val == 1)) = [] := rfl
  have hon : [dtStaged n].filter (fun x => addrOn u x.addr) = [dtStaged n] := List.filter_eq_self.mpr fun x hx => by
    rw [List.mem_singleton.mp hx]
    exact hd
  have hforce : forceScan v = v := by
    refine if_neg ?_
    have hkept : flag v F.SYS_MM_FORCE_GO = flag s F.SYS_MM_FORCE_GO :=
      congrArg (fun w => bitsOf w _ _ != 0) (rd_wr_ne u _ _ (by decide))
    rw [hkept, hg]
    exact Bool.false_ne_true
  have happly : [dtStaged n].foldl (fun s x => applyField x s) u = v := by
    change applyField (dtStaged n) u = v
    exact (if_neg (show ¬ inTab (R.EDG_DT.at 0) = true by decide)).trans (if_neg Bool.false_ne_true)
  unfold applyCommit
  rw [hq]
  dsimp only
  rw [hnoswap]
  dsimp only [List.filter_nil, forL, List.foldl_nil, List.find?_nil]
  rw [hon]
  rw [happly, hforce]
  rfl

/-- The quoin of a DTIME `n` whose commit is due. -/
def dtQuo (n : Nat) : QuoS := { QuoS.init with pending := some .pcie, staged := [dtStaged n] }

/-- Impressions run with PD_EDG on, EDG.DT of channel 0 is staged with DTIME `n`, and its commit waits for the boundary. -/
def dtDue (n : Nat) (s : State) : State :=
  { s with
    sys := { SysS.init with running := true }
    pwr := { PwrS.init with on := 0x3043#14 }
    quo := dtQuo n }

/-- After reset, with a stray event of block `b`, and where that has been dropped but for what it counts. -/
def strayDt (b : Nat) : State := dtDue 0 (strayWaits b State.reset)
def droppedDt (b : Nat) : State := { dtDue 1 (evtDrop b (unstaged (strayDt b))) with regs := [] }

/-- Where the values of the boundary apply. -/
def opened (s : State) : State := runBoundary (impOpen (gapEnd [] s))

theorem lockAdjust_nil {a : Int} (h : s.edg = []) : lockAdjust a s = s :=
  forN_inv (P := (· = s)) (fun c t ht => by rw [ht]; unfold State.ch; rw [h]; rfl) 48 s rfl

/-- The impression that opens, with no channel to lock. -/
def openSys (s : State) : SysS :=
  let o := s.sys.open_
  let a := clampInt (-20) 20 o
  { s.sys with
    imp := if s.sys.first then s.sys.imp + 1 else s.sys.imp
    first := true, s0 := lns s, next := ((lns s + tImp s : Nat) + a : Int).toNat, open_ := o - a, adjusting := decide (o ≠ 0), adj := a }

theorem opened_nil (hg : ∀ n, (s.plt n).gap = false) (he : s.edg = []) (hr : s.sys.runReq = false) :
    opened s = holdFrom Timed.boundary { s with sys := openSys s } := by
  have ho : opened s = runBoundary (holdFrom Timed.boundary (lockAdjust (openSys s).adj { gapEnd [] s with sys := openSys s })) := by
    unfold opened
    rw [gapEnd_none hg]
    rfl
  rw [ho, gapEnd_none hg, lockAdjust_nil (s := { s with sys := openSys s }) he]
  exact if_neg (by rw [show (holdFrom Timed.boundary { s with sys := openSys s }).sys.runReq = false from hr]; exact Bool.false_ne_true)

theorem opened_strayDt (b : Nat) : opened (strayDt b) = holdFrom Timed.boundary { strayDt b with sys := openSys (strayDt b) } :=
  opened_nil (fun _ => rfl) rfl rfl

theorem opened_droppedDt (b : Nat) : opened (droppedDt b) = holdFrom Timed.boundary { droppedDt b with sys := openSys (droppedDt b) } :=
  opened_nil (fun _ => rfl) rfl rfl

/-- An event of this block counts in EDG.DT of channel 0. -/
def dtBlock : Nat := 63427

theorem eq_of_regs {u : State} (h : s = { u with regs := s.regs, hwBits := s.hwBits }) (hr : s.regs = u.regs) (hw : s.hwBits = u.hwBits) :
    s = u := by
  rw [h, hr, hw]

theorem dtCommitted_dropped :
    evtDrop dtBlock (unstaged (dtCommitted 0 (opened (strayDt dtBlock)))) = dtCommitted 1 (opened (droppedDt dtBlock)) := by
  refine eq_of_regs ?_ (by decide +kernel) (by decide +kernel)
  rw [opened_strayDt, opened_droppedDt]
  generalize dtBlock = b
  rfl

/-! ### What the rest of the boundary takes from the state before the commit -/

theorem applyEdge_congr {o o' : State} (h : o.regs = o'.regs) : applyEdge o s = applyEdge o' s := by
  unfold applyEdge rd fget rd
  rw [h]

theorem applyWdt_congr {o o' : State} (h : o.regs = o'.regs) : applyWdt o s = applyWdt o' s := by
  unfold applyWdt flag fget rd
  rw [h]

theorem applyInputs_congr {o o' : State} (h : o.regs = o'.regs) : applyInputs o s = applyInputs o' s := by
  unfold applyInputs settleChanged fget rd
  rw [h]

/-- No mirror shows EDG.DT. -/
theorem applyMirrors_dt (n : Nat) : applyMirrors [dtStaged n] s = applyMirrors [] s := by
  have hidx : R.MOV_CFG.idx? (0x20000 + (R.EDG_DT.at 0 - 0x20000) / 0x200 * 0x200) = none := by decide
  unfold applyMirrors
  dsimp only [forL, List.foldl_cons, List.foldl_nil, dtStaged]
  rw [hidx]

/-- What applied values `xs` bring about in the state that they leave, from the state `o` before them. -/
def commitFollows (o : State) (xs : List Staged) (s : State) : State :=
  applyMirrors xs (applyWdt o (applyInputs o (applyEdge o (initScan
    (swapMark ((if s.quo.pending.isSome then s.quo.staged else []) ++ s.quo.implicit.map (·.st)) s)))))

theorem commitFollows_congr {o o' : State} (h : o.regs = o'.regs) (c : Bool) (m n : Nat) :
    commitFollows o (if c then [dtStaged m] else []) s = commitFollows o' (if c then [dtStaged n] else []) s := by
  unfold commitFollows
  rw [applyEdge_congr h, applyInputs_congr h, applyWdt_congr h]
  cases c with
  | false => rw [if_neg Bool.false_ne_true, if_neg Bool.false_ne_true]
  | true => rw [if_pos rfl, if_pos rfl, applyMirrors_dt, applyMirrors_dt]

theorem quoApply_dt {n : Nat} (hq : s.quo = dtQuo n) :
    quoApply s = commitFollows s (if fget (applyCommit .pcie s) F.QUO_STATUS_RESULT == 1 then [dtStaged n] else []) (applyCommit .pcie s) := by
  have hs : { s with quo := dtQuo n } = s := by rw [← hq]
  unfold quoApply
  dsimp only
  rw [hq]
  simp only [dtQuo, QuoS.init, List.filter_nil, List.map_nil, forL, List.foldl_nil, List.nil_append, Option.isSome_some, beq_self_eq_true,
    Bool.true_and, if_true, Nat.zero_sub] at hs ⊢
  rw [hs]
  rfl

theorem impBoundary_congr_apply {u : State} {bits : List (List Bool)} (h : quoApply (opened s) = quoApply (opened u)) :
    impBoundary bits [] s = impBoundary bits [] u := by
  unfold opened at h
  unfold impBoundary
  rw [h]

theorem opened_strayDt_full : LogFull (dtCommitted 0 (opened (strayDt dtBlock))) := by
  rw [opened_strayDt]
  exact ⟨by decide, strayWaits_full dtBlock, by decide⟩

/-- The event of the commit drops the stray one, which counts in the word just written: from a DTIME of 0 and from a DTIME of 1 without it
the commit leaves the same state. -/
theorem applyCommit_strayDt : applyCommit .pcie (opened (strayDt dtBlock)) = applyCommit .pcie (opened (droppedDt dtBlock)) := by
  have hstray : applyCommit .pcie (opened (strayDt dtBlock)) =
      raise blkQUO 0x01 1 (impCount (opened (strayDt dtBlock))) 1 (dtCommitted 0 (opened (strayDt dtBlock))) := by
    rw [opened_strayDt]
    exact applyCommit_dt rfl (by decide) (by decide)
  have hdropped : applyCommit .pcie (opened (droppedDt dtBlock)) =
      raise blkQUO 0x01 1 (impCount (opened (droppedDt dtBlock))) 1 (dtCommitted 1 (opened (droppedDt dtBlock))) := by
    rw [opened_droppedDt]
    exact applyCommit_dt rfl (by decide) (by decide)
  have himp : impCount (opened (droppedDt dtBlock)) = impCount (opened (strayDt dtBlock)) := by
    rw [opened_strayDt, opened_droppedDt]
    rfl
  rw [hstray, hdropped, himp, ← dtCommitted_dropped]
  exact opened_strayDt_full.raise_waiting (x := (1, ⟨0, dtBlock, 0, 0, 0, 0⟩)) (by rw [opened_strayDt]; rfl) (by rw [opened_strayDt]; decide)

theorem boundary_strayDt : impBoundary [] [] (strayDt dtBlock) = impBoundary [] [] (droppedDt dtBlock) := by
  refine impBoundary_congr_apply ?_
  have hregs : (opened (strayDt dtBlock)).regs = (opened (droppedDt dtBlock)).regs := by
    rw [opened_strayDt, opened_droppedDt]
    rfl
  rw [quoApply_dt (n := 0) (by rw [opened_strayDt]; rfl), quoApply_dt (n := 1) (by rw [opened_droppedDt]; rfl), applyCommit_strayDt]
  exact commitFollows_congr hregs _ 0 1

/-- Refutes O19: the event of a commit finds the log full and has the stray one counted in the word that the commit has just written. The
boundary that applies a DTIME of 0 is then the same as one that applies a DTIME of 1, and cannot leave both. -/
theorem not_impressionBoundary : ¬ Obligations.ImpressionBoundary := by
  rintro ⟨-, -, -, hcommit⟩
  obtain ⟨t, ht, hzero, -⟩ := hcommit (strayDt dtBlock) 0 [] .pcie 0 0 rfl rfl rfl rfl rfl (by decide) (by decide)
  obtain ⟨t', ht', hone, -⟩ := hcommit (droppedDt dtBlock) 0 [] .pcie 0 1 rfl rfl rfl rfl rfl (by decide) (by decide)
  have hsame : t = t' := by
    rw [exec_boundary rfl, boundary_strayDt, ← exec_boundary rfl] at ht
    exact Host.Outcome.next.inj (ht.symm.trans ht')
  rw [← hsame, hzero] at hone
  exact absurd hone (by decide)

end Sys2Proof.Machine
end

section
/-! Host accesses that wait, and software interrupts (O13). -/

namespace Sys2Proof.Machine
open Sys2Proof.Claims

variable {s : State} {ifc : Ifc} {a : Nat} {v : Word} {errs : List PltErr}

/-! ### An access in the retention of DOZE (R33) -/

theorem portGate_retained {t : Nat} {x : Held} (hoff : s.sys.st ≠ .off) (hr : s.pwr.sysRet = true) :
    portGate t errs x s =
      wakeEvent 16 { arrived x.ifc t x.w.isSome s with pwr := { s.pwr with held := s.pwr.held ++ [x] } } := by
  change (if (arrived x.ifc t x.w.isSome s).sys.st = .off then _
    else if (arrived x.ifc t x.w.isSome s).pwr.sysRet then
      wakeEvent 16 { arrived x.ifc t x.w.isSome s with
        pwr := { (arrived x.ifc t x.w.isSome s).pwr with held := (arrived x.ifc t x.w.isSome s).pwr.held ++ [x] } }
    else _) = _
  rw [arrived_st, arrived_pwr, if_neg hoff, if_pos hr]

/-- A wake source while PD_SYS is in retention: the wake is under way, and of the registers PWR.WAKE_SRC alone may change. -/
theorem wakeEvent_retained (src : Nat) (hd : s.sys.st = .doze) (hr : s.pwr.sysRet = true) :
    (wakeEvent src s).pwr = { s.pwr with
      waking := true, wakeAt := (wakeEvent src s).pwr.wakeAt, abort := (wakeEvent src s).pwr.abort } ∧
    (wakeEvent src s).mem = s.mem ∧ ∀ x ≠ R.PWR_WAKE_SRC.addr, rd (wakeEvent src s) x = rd s x := by
  have hawake : ¬ (s.sys.st != .doze) = true := by rw [hd]; decide
  unfold wakeEvent
  rw [if_neg hawake]
  dsimp only
  by_cases hw : s.pwr.waking = true
  · rw [if_pos hw]
    split_ifs
    · exact ⟨by rw [← hw]; rfl, rfl, fun x hx => rd_wr_ne s _ _ hx⟩
    · exact ⟨by rw [← hw], rfl, fun _ _ => rfl⟩
  · rw [if_neg hw]
    split_ifs with hc
    · exact ⟨by simp [hr], rfl, fun x hx => rd_wr_ne _ _ _ hx⟩
    · exact absurd hr hc

/-! ### An access to a platen window (R62, R63) -/

/-- The host address of word `i` of the window of platen `p`. -/
abbrev winWord (p i : Nat) : Nat := 0x800000 + 0x100000 * p + 4 * i

theorem winWord_aligned (p i : Nat) : winWord p i % 4 = 0 := by
  unfold winWord
  omega

theorem winWord_offset (p : Nat) {i : Nat} (hi : i < 0x40000) : winWord p i % 0x100000 = 4 * i := by
  unfold winWord
  omega

section
variable {p i : Nat} (hp : p < 5) (hi : i < 0x40000)
include hp hi

theorem inMem_winWord : inMem (winWord p i) = false := by
  simp only [inMem, Bool.or_eq_false_iff, decide_eq_false_iff_not, winWord]
  omega

theorem inWindowSpace_winWord : inWindowSpace (winWord p i) = true := by
  simp only [inWindowSpace, Bool.and_eq_true, decide_eq_true_eq, winWord]
  omega

theorem winPlt_winWord : winPlt (winWord p i) = p := by
  unfold winPlt winWord
  omega

theorem toNat_winWord : (BitVec.ofNat 32 (winWord p i)).toNat = winWord p i := Nat.mod_eq_of_lt (by unfold winWord; omega)

theorem winHeld_winWord : winHeld s (winWord p i) = (decide (4 * i < 0x28000) && (s.plt p).running) := by
  unfold winHeld
  rw [inWindowSpace_winWord hp hi, winWord_offset p hi, winPlt_winWord hp hi, Bool.true_and]

theorem accesses_winWord : accesses (winWord p i) 4 = [winWord p i] := by
  have hshape : winShape (winWord p i) 4 = true := by
    rw [winShape, winWord_aligned p i]
    rfl
  unfold accesses
  rw [inWindowSpace_winWord hp hi, if_pos rfl, if_pos hshape]
  rfl

theorem request_winWord_write :
    request errs ⟨ifc, winWord p i, 4, some ((wordBytes v).map some)⟩ s = wordWriteHeld ifc (winWord p i) v s := by
  have ht : (((wordBytes v).map some).drop (winWord p i - winWord p i)).take 4 = (wordBytes v).map some := by
    rw [Nat.sub_self]
    rfl
  change writeRequest ifc (winWord p i) ((wordBytes v).map some) s = _
  unfold writeRequest
  rw [inMem_winWord hp hi, if_neg Bool.false_ne_true]
  change (if (accesses (winWord p i) 4).isEmpty then _ else forL (accesses (winWord p i) 4) _ s) = _
  rw [accesses_winWord hp hi]
  change (match wordOf ((((wordBytes v).map some).drop (winWord p i - winWord p i)).take 4) with
    | some v => wordWriteHeld ifc (winWord p i) v s
    | none => hostDrop ifc (winWord p i) s) = _
  rw [ht, wordOf_wordBytes]

theorem request_winWord_read (h : winHeld s (winWord p i) = false) :
    request errs ⟨ifc, winWord p i, 4, none⟩ s =
      sendRd ifc (winWord p i) (wordBytes (wordRead ifc errs (winWord p i) s).1) (wordRead ifc errs (winWord p i) s).2 := by
  change readRequest ifc errs (winWord p i) 4 s = _
  simp [readRequest, inMem_winWord hp hi, h, accesses_winWord hp hi, readRun]

/-- X, Y and C memory of a running platen make an access wait. -/
theorem request_winWord_waits {w : Option Word} (h : winHeld s (winWord p i) = true) :
    request errs ⟨ifc, winWord p i, 4, w.map (fun v => (wordBytes v).map some)⟩ s =
      modPlt s p (fun x => { x with held := x.held ++ [⟨ifc, winWord p i, 4, w.map (fun v => (wordBytes v).map some)⟩] }) := by
  cases w with
  | none =>
    change readRequest ifc errs (winWord p i) 4 s = _
    simp [readRequest, inMem_winWord hp hi, h, winShape, winWord_aligned p i, winPlt_winWord hp hi]
  | some v =>
    refine (request_winWord_write hp hi).trans ?_
    simp [wordWriteHeld, h, winWord_aligned p i, winWait, winPlt_winWord hp hi]

end

/-- A write of X memory of a platen that does not run. -/
theorem request_xWord_write {p i : Nat} (hp : p < 5) (hi : i < 16384) (hr : (s.plt p).running = false)
    (ho : addrOn s (winWord p i) = true) :
    request errs ⟨ifc, winWord p i, 4, some ((wordBytes v).map some)⟩ s = modPlt s p (fun x => x.setWord false i (v.setWidth 24)) := by
  have hw : i < 0x40000 := by omega
  have hh : winHeld s (winWord p i) = false := by rw [winHeld_winWord hp hw, hr, Bool.and_false]
  have hx : 4 * i < 0x10000 := by omega
  have hq : 4 * i / 4 = i := by omega
  rw [request_winWord_write hp hw]
  unfold wordWriteHeld wordWrite winWrite
  rw [hh, Bool.false_and, if_neg Bool.false_ne_true, inWindowSpace_winWord hp hw, if_pos rfl, if_pos ⟨winWord_aligned p i, ho⟩, winWord_offset p hw,
    winPlt_winWord hp hw, if_pos hx, hq]

/-- A read of it. -/
theorem request_xWord_read {p i : Nat} (hp : p < 5) (hi : i < 16384) (hr : (s.plt p).running = false)
    (ho : addrOn s (winWord p i) = true) :
    request [] ⟨ifc, winWord p i, 4, none⟩ s =
      sendRd ifc (winWord p i) (wordBytes (BitVec.ofInt 32 ((s.plt p).word false i).toInt)) s := by
  have hw : i < 0x40000 := by omega
  have hh : winHeld s (winWord p i) = false := by rw [winHeld_winWord hp hw, hr, Bool.and_false]
  have hx : 4 * i < 0x10000 := by omega
  have hq : 4 * i / 4 = i := by omega
  have hread : wordRead ifc [] (winWord p i) s = (BitVec.ofInt 32 ((s.plt p).word false i).toInt, s) := by
    unfold wordRead winRead
    rw [inWindowSpace_winWord hp hw, if_pos rfl]
    dsimp only
    rw [if_pos ⟨winWord_aligned p i, ho⟩, winWord_offset p hw, winPlt_winWord hp hw, if_pos hx, hq]
    rfl
  rw [request_winWord_read hp hw hh, hread]

/-! ### Software interrupts (R66) -/

theorem or_of_getLsbD {w : Word} {k : Nat} (h : w.getLsbD k = true) : w ||| 1#32 <<< k = w := by
  refine BitVec.eq_of_getLsbD_eq fun i _ => ?_
  have hbit : (1#32 <<< k).getLsbD i = (decide (k < 32) && decide (k = i)) := BitVec.getLsbD_twoPow k i
  rw [BitVec.getLsbD_or, hbit]
  by_cases hk : k = i
  · rw [← hk, h, Bool.true_or]
  · simp [hk]

theorem irqPend_setPend (k : Nat) : irqPend (setPend k s) = irqPend s ||| 1#32 <<< k := by
  unfold setPend
  by_cases hk : (irqPend s).getLsbD k = true
  · rw [if_pos hk, or_of_getLsbD hk]
  · rw [if_neg hk]
    dsimp only
    split_ifs
    · exact rd_wr_self s _ _
    · exact rd_wr_self s _ _

theorem irqPend_onBit (k : Nat) : irqPend (onBit v k (setPend k) s) = irqPend s ||| v &&& 1#32 <<< k := by
  have hbit : v &&& 1#32 <<< k = if v.getLsbD k then 1#32 <<< k else 0#32 := BitVec.and_twoPow v k
  unfold onBit
  rw [hbit]
  split_ifs
  · exact irqPend_setPend k
  · exact BitVec.or_zero.symm

theorem irqPend_irqSwset : irqPend (irqSwset v s) = irqPend s ||| v &&& 0xE0000000#32 := by
  have hmask : (0xE0000000#32 : Word) = 1#32 <<< 29 ||| 1#32 <<< 30 ||| 1#32 <<< 31 := by decide
  change irqPend (onBit v 31 (setPend 31) (onBit v 30 (setPend 30) (onBit v 29 (setPend 29) s))) = _
  rw [irqPend_onBit, irqPend_onBit, irqPend_onBit, hmask, BitVec.and_or_distrib_left, BitVec.and_or_distrib_left, BitVec.or_assoc,
    BitVec.or_assoc, BitVec.or_assoc]

theorem irqSwset_keeps {β : Type} (φ : State → β) (h : ∀ k u, φ (setPend k u) = φ u) : φ (irqSwset v s) = φ s := by
  refine forL_keeps φ (fun k u => ?_) _ s
  unfold onBit
  split_ifs
  · exact h k u
  · rfl

/-! ### O13 -/

theorem arrived_plt {t p : Nat} {w : Bool} : (arrived ifc t w s).plt p = s.plt p := (congrArg (fun u => u.plt p) arrived_eq).trans rfl
theorem arrived_plts {t : Nat} {w : Bool} : (arrived ifc t w s).plts = s.plts := (congrArg State.plts arrived_eq).trans rfl
theorem arrived_mem {t : Nat} {w : Bool} : (arrived ifc t w s).mem = s.mem := (congrArg State.mem arrived_eq).trans rfl

/-- Memory is as before when its bytes and the save areas are. -/
theorem memByte_of_areas {u : State} (hm : u.mem = s.mem) (ha : u.pwr.areas = s.pwr.areas) (x : Nat) : memByte u x = memByte s x := by
  unfold memByte memDflt
  rw [hm, ha]

theorem word_setWord (x : PltS) (i : Nat) (w : W24) : (x.setWord false i w).word false i = w := SMap.get_put_self _ _ _ _

theorem plt_modPlt_self (p : Nat) (f : PltS → PltS) : (modPlt s p f).plt p = f (s.plt p) := by
  rw [modPlt, plt_setPlt, if_pos rfl]

theorem platenMemoryAccess_awake {via : Via} {w : Option Word} (p : Fin 5) {i : Nat} (hi : i < 0x40000) (h : HostOn s (winWord p i)) :
    execPlatenMemoryAccess via (BitVec.ofNat 32 (winWord p i)) w errs s =
      .next (request errs ⟨via.ifc, winWord p i, 4, w.map (fun v => (wordBytes v).map some)⟩
        (arrived via.ifc via.t (w.map (fun v => (wordBytes v).map some)).isSome s)) := by
  obtain ⟨hoff, hdoze, hret, -⟩ := h
  rw [execPlatenMemoryAccess, toNat_winWord p.isLt hi, portGate_awake ⟨hoff, hdoze, hret⟩]

theorem execHeldAccessComplete_cons {t : Nat} {p : Fin 5} {y : Held} {r : List Held} (hrun : (s.plt p).running = false)
    (hheld : (s.plt p).held = y :: r) :
    execHeldAccessComplete t p errs s = .next (request errs y (setPlt (advance t s) p { s.plt p with held := r })) := by
  have hplt : (advance t s).plt p = s.plt p := rfl
  unfold execHeldAccessComplete
  dsimp only
  rw [hplt, hheld, hrun]
  rfl

/-- Settles O13: by the gate that holds an access in DOZE, by the requests to a word of a platen window, and by the bits of
SYS.IRQ_SWSET. -/
theorem hostAccessWaits : Obligations.HostAccessWaits := by
  refine ⟨fun s via a w hd hr => ?wakes, fun s via p i w errs h hrun => ?waits, fun s via p i v errs h hrun => ?writes,
    fun s via p i h hrun => ?reads, fun s t0 p i v c r errs hoff hon hrun hheld => ?completes, fun s via v h => ?irq⟩
  case wakes =>
    have hoff : s.sys.st ≠ .off := by rw [hd]; decide
    refine ⟨_, congrArg Host.Outcome.next (portGate_retained hoff hr), ?_⟩
    generalize hu : ({ arrived via.ifc via.t _ s with pwr := _ } : State) = u
    have hud : u.sys.st = .doze := by rw [← hu]; exact arrived_st.trans hd
    obtain ⟨hpwr, hmem, hregs⟩ := wakeEvent_retained 16 hud (by rw [← hu]; exact hr)
    refine ⟨?_, ?_, fun x _ => ?_, fun x hx => ?_⟩
    · rw [hpwr, ← hu]
    · rw [hpwr]
    · exact memByte_of_areas (by rw [hmem, ← hu]; exact arrived_mem) (by rw [hpwr, ← hu]) x
    · rw [hregs x (by simpa using hx), ← hu]
      exact rd_arrived x
  case waits =>
    have hi : (i : Nat) < 0x40000 := by omega
    have hh {t : Nat} {b : Bool} : winHeld (arrived via.ifc t b s) (winWord p i) = true := by
      rw [winHeld_winWord p.isLt hi, arrived_plt, hrun, decide_eq_true (by omega)]
      rfl
    refine ⟨_, (platenMemoryAccess_awake p hi h).trans (congrArg Host.Outcome.next (request_winWord_waits p.isLt hi hh)), ?_,
      arrived_regs, arrived_mem, arrived_out⟩
    rw [plt_modPlt_self, arrived_plt]
  case writes =>
    have hi : (i : Nat) < 0x40000 := by omega
    obtain ⟨-, -, -, hon⟩ := id h
    refine ⟨_, (platenMemoryAccess_awake p hi h).trans (congrArg Host.Outcome.next (request_xWord_write p.isLt i.isLt
      (by rwa [arrived_plt]) ((addrOn_arrived _).trans hon))), ?_, arrived_regs, arrived_mem⟩
    rw [plt_modPlt_self, word_setWord]
  case reads =>
    have hi : (i : Nat) < 0x40000 := by omega
    obtain ⟨-, -, -, hon⟩ := id h
    refine ⟨_, (platenMemoryAccess_awake p hi h).trans (congrArg Host.Outcome.next (request_xWord_read p.isLt i.isLt
      (by rwa [arrived_plt]) ((addrOn_arrived _).trans hon))), ?_, arrived_regs, arrived_mem, arrived_plts⟩
    rw [arrived_plt]
    exact congrArg (· ++ _) arrived_out
  case completes =>
    refine ⟨_, (execHeldAccessComplete_cons hrun hheld).trans (congrArg Host.Outcome.next (request_xWord_write p.isLt i.isLt
      (by rw [plt_setPlt, if_pos rfl]; exact hrun) hon)), ?_, ?_, rfl, rfl⟩
    · rw [plt_modPlt_self, plt_setPlt, if_pos rfl]
      rfl
    · rw [plt_modPlt_self, word_setWord]
  case irq =>
    refine ⟨_, congrArg Host.Outcome.next (hostGate_write h), ?_, fun x hx => ?_, fun x _ => ?_⟩
    · rw [irqPend_irqSwset]
      exact congrArg (· ||| v &&& 0xE0000000#32) (rd_arrived _)
    · rw [irqSwset_keeps (rd · x) fun k u => setPend_rd k u (by simpa using hx), rd_arrived]
    · rw [irqSwset_keeps (memByte · x) fun k u => memByte_of_evtOnly (setPend_evtOnly k u) x, memByte_arrived]

end Sys2Proof.Machine
end

section
/-! A host write to main SRAM (O12). -/

namespace Sys2Proof.Machine
open Sys2Proof.Claims

variable {s : State} {ifc : Ifc} {a x t : Nat} {bs : List (Option Byte)}

theorem storeBytes_rd : rd (storeBytes a bs s) x = rd s x := by
  induction bs generalizing a s with
  | nil => rfl
  | cons b r ih =>
    cases b with
    | none => exact ih
    | some v => exact ih.trans (rd_setMemByte s a v x)

/-- Of the registers, a host write to memory changes those of the dropped accesses at most. -/
theorem memWrite_rd (h : x ≠ R.SYS_HOST_DROP.addr) (h' : x ≠ R.SYS_HOST_DROP_ADDR.addr) : rd (memWrite ifc a bs s) x = rd s x := by
  have hkept : rd (forL (fullBlocks a (takenBytes s a bs)) (fun b s => setPoison s b false) (storeBytes a (takenBytes s a bs) s)) x =
      rd s x := (forL_keeps (rd · x) (fun b t => rd_setPoison t b false x) _ _).trans storeBytes_rd
  unfold memWrite
  dsimp only
  split_ifs
  · rw [rd_hostDrop_ne h h', hkept]
  · exact hkept

/-- What a host write comes to that reaches the device in main SRAM or DRAM. -/
theorem portGate_memWrite {errs : List PltErr} (h : HostAwake s) (hm : inMem a = true) :
    portGate t errs ⟨ifc, a, bs.length, some bs⟩ s = memWrite ifc a bs (arrived ifc t true s) :=
  (portGate_awake h).trans (if_pos hm)

/-- A correctable error that the command names by the second byte of its block, not by the first as R457 does. -/
def inBlock : MemErr := ⟨0x1800001, .single⟩

/-- The device after reset when a correctable error has been reported in the present second, so that the next one is only counted (R458). -/
def errReported : State := { State.reset with tst := { TstS.init with ceSec0 := some 0 } }

/-- A block of zeros, every byte of it enabled. -/
def zeroBlock : List (Option Byte) := List.replicate 16 (some 0#8)

/-- The write covers the block of `inBlock`, and its error is noted all the same, as only a block's first address is compared. -/
theorem writeErrs_inBlock : writeErrs 0x1800000 zeroBlock [inBlock] (advance 0 errReported) = correctedRead 0x1800001 errReported := rfl

/-- Refutes O12: a write of a whole aligned block counts the correctable error of a command that names it inside the block, an operand that
`MemErr.wf` bars and the clause of the whole block does not. -/
theorem not_hostMemoryAccess : ¬ Obligations.HostMemoryAccess := by
  rintro ⟨-, -, hwhole, -⟩
  obtain ⟨t, ht, -, hregs⟩ :=
    hwhole errReported 0 0x1800000#32 zeroBlock [inBlock] (by decide) (by decide) (by decide) (by decide) (by decide)
  have hgo : exec (.pcieWriteRequest 0 0x1800000#32 zeroBlock [inBlock]) errReported =
      .next (memWrite .pcie 0x1800000 zeroBlock (arrived .pcie 0 true (correctedRead 0x1800001 errReported))) := by
    rw [← writeErrs_inBlock]
    exact congrArg Host.Outcome.next (portGate_memWrite (by decide) (by decide))
  obtain rfl := Host.Outcome.next.inj (hgo.symm.trans ht)
  have hcount := congrArg (SMap.get regReset · (R.TST_MEM_CE.at 0)) hregs
  change rd (memWrite _ _ _ _) (R.TST_MEM_CE.at 0) = rd errReported (R.TST_MEM_CE.at 0) at hcount
  rw [memWrite_rd (by decide) (by decide), rd_arrived] at hcount
  exact absurd hcount (by decide)

end Sys2Proof.Machine
end

section
/-! Galley loading (O58). -/

namespace Sys2Proof.Machine
open Sys2Proof.Claims

variable {s : State} {a : Nat}

theorem rd_bump_ne (f : Fld) (n i j k : Nat) (h : a ≠ f.reg.at i j k) : rd (bump s f n i j k) a = rd s a := rd_fset_ne s f _ i j k h

section
variable (hs : a ≠ R.GLY_STATUS.addr)
include hs

theorem glyTo_rd {n : GlyNext} {ph : Nat} : rd (glyTo n ph s) a = rd s a := rd_fset_ne _ _ _ _ _ _ hs

theorem waitHost_rd {ph : Nat} : rd (waitHost ph s) a = rd s a := (rd_fset_ne _ _ _ _ _ _ hs).trans (glyTo_rd hs)

/-- A report entry shows in GLY.STATUS and GLY.REPORT_COUNT alone. -/
theorem rep_rd (hc : a ≠ R.GLY_REPORT_COUNT.addr) {k ty i loc given applied b : Nat} :
    rd (rep k ty i loc given applied b s) a = rd s a := by
  unfold rep
  extract_lets safe s1 s2 w0
  have h1 : rd s1 a = rd s a := by
    unfold s1 repFlag
    split_ifs
    · rw [rd_raiseFlag, rd_fset_ne _ _ _ _ _ _ hs]
    · rw [rd_raiseFlag, rd_fset_ne _ _ _ _ _ _ hs]
    · rfl
  have h2 : rd s2 a = rd s1 a := by
    unfold s2
    split_ifs
    · rw [rd_raiseFlag, rd_fset_ne _ _ _ _ _ _ hs]
    · rfl
  split
  · rw [rd_fset_ne _ _ _ _ _ _ hc]
    exact h2.trans h1
  · rw [rd_bump_ne _ _ _ _ _ hs]
    exact h2.trans h1

/-- Beside the loader's own registers a failed load changes what its event changes. -/
theorem glyFail_rd (hc : a ≠ R.GLY_REPORT_COUNT.addr) {code : Nat} :
    rd (glyFail code s) a = rd (raise blkGLY 0x02 (fget s F.GLY_STATUS_SRC) code 0 (fset s F.GLY_STATUS_FAIL_CODE code)) a := by
  have hrep {u : State} {n : Nat} : rd (if n < 2 then rep 0x31 0 0 n code 0 0 u else u) a = rd u a := by
    split_ifs
    · exact rep_rd hs hc
    · rfl
  have hbad {u : State} {n : Nat} :
      rd (if n = 0 then raiseFlag u F.GLY_STATUS_SLOT_A_BAD else if n = 1 then raiseFlag u F.GLY_STATUS_SLOT_B_BAD else u) a = rd u a := by
    split_ifs
    · exact rd_fset_ne u _ _ _ _ _ hs
    · exact rd_fset_ne u _ _ _ _ _ hs
    · rfl
  unfold glyFail
  dsimp only
  split
  · rw [glyTo_rd hs, rd_fset_ne _ _ _ _ _ _ hs, hbad, hrep]
  · rw [waitHost_rd hs, hbad, hrep]

end

/-- `strayReset` while the header of slot A is awaited. -/
def strayLoad : State := { strayReset with gly := { strayReset.gly with next := .image } }

/-- Refutes O58: the event of the flash timeout finds the log full and has the stray one counted, in a word that the statement keeps. -/
theorem not_galleyLoading : ¬ Obligations.GalleyLoading := by
  rintro ⟨htimeout, -⟩
  obtain ⟨t, ht, -, -, -, -, -, -, hkept⟩ := htimeout strayLoad 0 (by decide) rfl
  obtain rfl : glyFail 13 (advance 0 strayLoad) = t := Host.Outcome.next.inj ht
  let u : State := fset (advance 0 strayLoad) F.GLY_STATUS_FAIL_CODE 13
  have hlog : LogFull u := ⟨by decide, strayReset_full, by decide⟩
  have hcount : rd (raise blkGLY 0x02 0 13 0 u) pastDrops = 1#32 :=
    hlog.raise_counts_stray rfl rfl (by decide) (by decide) (by decide)
  have hfail : rd (glyFail 13 (advance 0 strayLoad)) pastDrops = 1#32 := (glyFail_rd (by decide) (by decide)).trans hcount
  exact absurd (hfail.symm.trans (hkept pastDrops (by decide))) (by decide)

end Sys2Proof.Machine
end

section
/-! Domains in DOZE (O60). -/

namespace Sys2Proof.Machine
open Sys2Proof.Claims

variable {s : State} {a : Nat}

/-! ### The save of R441 -/

theorem fbkSleep_mem : (fbkSleep s).mem = s.mem := by
  have hcmp (u : Nat) (t : State) : (cmpDisarm u t).mem = t.mem := by
    unfold cmpDisarm
    dsimp only
    split_ifs <;> rfl
  have hlat (u : Nat) (t : State) : (latDisarm u (latFlush u t)).mem = t.mem := rfl
  exact (forN_keeps State.mem hcmp 64 _).trans (forN_keeps State.mem hlat 32 _)

theorem fbkSleep_rd (hlat : ∀ u, a ≠ R.FBK_LAT_STATUS.at u) (hcmp : ∀ u, a ≠ R.FBK_CMP_STATUS.at u) : rd (fbkSleep s) a = rd s a := by
  have hdisarm (u : Nat) (t : State) : rd (cmpDisarm u t) a = rd t a := by
    unfold cmpDisarm
    dsimp only
    split_ifs
    · exact rd_fset_ne _ F.FBK_CMP_STATUS_ARMED _ _ _ _ (hcmp u)
    · exact (rd_fset_ne _ F.FBK_CMP_STATUS_LEVEL _ _ _ _ (hcmp u)).trans (rd_fset_ne _ F.FBK_CMP_STATUS_ARMED _ _ _ _ (hcmp u))
  have hflush (u : Nat) (t : State) : rd (latDisarm u (latFlush u t)) a = rd t a := rd_fset_ne _ F.FBK_LAT_STATUS_ARMED _ _ _ _ (hlat u)
  exact (forN_keeps (rd · a) hdisarm 64 _).trans (forN_keeps (rd · a) hflush 32 _)

theorem fget_fbkSleep_save : fget (fbkSleep s) F.PWR_SAVE_INDEX = fget s F.PWR_SAVE_INDEX := by
  have hlat (u : Nat) : R.PWR_SAVE.addr ≠ R.FBK_LAT_STATUS.at u := by
    simp only [Reg.at, R.PWR_SAVE, R.FBK_LAT_STATUS, List.getD_cons_zero]
    omega
  have hcmp (u : Nat) : R.PWR_SAVE.addr ≠ R.FBK_CMP_STATUS.at u := by
    simp only [Reg.at, R.PWR_SAVE, R.FBK_CMP_STATUS, List.getD_cons_zero]
    omega
  exact congrArg (bitsOf · _ _) (fbkSleep_rd hlat hcmp)

theorem domRegs_mem {d : Nat} : (domRegs d s).mem = s.mem := forL_keeps State.mem (fun (e : Nat × Word) t => wr_mem t e.1 e.2) _ _

/-- The domain of a platen that is switched off first after PD_ACQ makes the save: memory is left outside the save area alone (R441, R442). -/
theorem domainOff_platen_mem {d : Nat} (hd : 2 ≤ d ∧ d ≤ 5) (hst : s.sys.st = .doze) (hw : s.pwr.waking = false)
    (hs : s.pwr.saved = false) :
    (domainOff d s).mem = s.mem.filter (fun c =>
      decide (c.1 < sramAt (fget s F.PWR_SAVE_INDEX)) || decide (sramAt (fget s F.PWR_SAVE_INDEX) + areaSize ≤ c.1)) := by
  have hentry : ¬ (s.sys.st ≠ .doze ∨ s.pwr.waking = true ∨ d = 8) := by
    rintro (h | h | h)
    · exact h hst
    · exact Bool.false_ne_true (hw.symm.trans h)
    · omega
  have hsave : entryBefore d s = dozeSave (fbkSleep s) := by
    unfold entryBefore
    rw [if_neg hentry, hs, if_neg Bool.false_ne_true, if_pos (.inl (by omega))]
  have hclear {u : State} : (domClear d u).mem = u.mem := by
    obtain rfl | rfl | rfl | rfl : d = 2 ∨ d = 3 ∨ d = 4 ∨ d = 5 := by omega
    all_goals exact domRegs_mem
  unfold domainOff
  dsimp only
  rw [if_neg (by omega), if_neg (by omega), if_neg (by omega), hclear, hsave]
  change (dozeSave (fbkSleep s)).mem = _
  unfold dozeSave
  dsimp only
  rw [fbkSleep_mem, fget_fbkSleep_save]

/-- An entry into DOZE, with a save area that allows it, after PD_ACQ has been switched off: PD_PLT0 is still on, and a byte other than 0
stands in the save area. -/
def saveAwaits : State :=
  fset { State.reset with
    sys := { SysS.init with st := .doze }
    pwr := { PwrS.init with on := 0x3007#14 }
    mem := [(0x1000000, 1#8)] } F.PWR_SAVE_DOZE_OK 1

/-- Refutes O60: its first clause, for every state but OFF and retention, says that the switching off of PD_PLT0 leaves memory as it is. In an
entry into DOZE it makes the save, which writes the save area (R441, R442). -/
theorem not_dozeAndDomains : ¬ Obligations.DozeAndDomains := by
  rintro ⟨hoff, -⟩
  obtain ⟨t, ht, -, -, -, hmem, -⟩ := hoff saveAwaits 0 2 (by decide) (by decide) (by decide) (by decide)
  obtain rfl : holdFrom Timed.domain (domainOff 2 (advance 0 saveAwaits)) = t := Host.Outcome.next.inj ht
  have hswitched {u : State} : (holdFrom Timed.domain u).mem = u.mem := rfl
  rw [hswitched, domainOff_platen_mem (by decide) rfl rfl rfl] at hmem
  exact absurd (hmem (by decide)) (by decide)

end Sys2Proof.Machine
end

section
/-! Memory in its canonical form (O6). -/

namespace Sys2Proof.Machine

/-! ### Sparse data in its canonical form, as a list -/

section

variable {α : Type} {d d' : Nat → α} {m n : SMap α}

theorem SMap.above_of_lt {a : Nat} (h : ∀ c ∈ m, a < c.1) : SMap.above a m = true :=
  match m with
  | [] => rfl
  | c :: _ => decide_eq_true (h c List.mem_cons_self)

variable [DecidableEq α]

theorem SMap.lt_of_above {a : Nat} (hm : SMap.wf d m = true) (h : SMap.above a m = true) : ∀ c ∈ m, a < c.1 := by
  induction m with
  | nil => exact fun c hc => absurd hc List.not_mem_nil
  | cons b r ih =>
    simp only [SMap.wf, Bool.and_eq_true] at hm
    have hb : a < b.1 := of_decide_eq_true h
    exact List.forall_mem_cons.mpr ⟨hb, ih hm.2 (SMap.above_trans hb hm.1.1)⟩

theorem SMap.wf_iff : SMap.wf d m = true ↔ m.Pairwise (fun x y => x.1 < y.1) ∧ ∀ c ∈ m, c.2 ≠ d c.1 := by
  induction m with
  | nil => simp [SMap.wf]
  | cons b r ih =>
    rw [List.pairwise_cons, List.forall_mem_cons]
    constructor
    · intro h
      have hbr := h
      simp only [SMap.wf, Bool.and_eq_true, Bool.not_eq_true', decide_eq_false_iff_not] at hbr
      obtain ⟨⟨ha, hv⟩, hr⟩ := hbr
      exact ⟨⟨SMap.lt_of_above hr ha, (ih.mp hr).1⟩, hv, (ih.mp hr).2⟩
    · rintro ⟨⟨hlt, hp⟩, hv, hn⟩
      simp only [SMap.wf, Bool.and_eq_true, Bool.not_eq_true', decide_eq_false_iff_not]
      exact ⟨⟨SMap.above_of_lt hlt, hv⟩, ih.mpr ⟨hp, hn⟩⟩

theorem SMap.wf_append (hm : SMap.wf d m = true) (hn : SMap.wf d n = true) (h : ∀ x ∈ m, ∀ y ∈ n, x.1 < y.1) :
    SMap.wf d (m ++ n) = true := by
  obtain ⟨hpm, hvm⟩ := SMap.wf_iff.mp hm
  obtain ⟨hpn, hvn⟩ := SMap.wf_iff.mp hn
  exact SMap.wf_iff.mpr ⟨List.pairwise_append.mpr ⟨hpm, hpn, h⟩, List.forall_mem_append.mpr ⟨hvm, hvn⟩⟩

/-- The canonical form asks for the default at the listed keys only. -/
theorem SMap.wf_congr (hm : SMap.wf d m = true) (h : ∀ c ∈ m, d' c.1 = d c.1) : SMap.wf d' m = true := by
  obtain ⟨hp, hv⟩ := SMap.wf_iff.mp hm
  exact SMap.wf_iff.mpr ⟨hp, fun c hc => by rw [h c hc]; exact hv c hc⟩

end

/-! ### The staged image (R47) -/

theorem mem_entriesOf {d : Nat → Byte} {a : Nat} {b : List Byte} :
    ∀ c ∈ entriesOf d a b, a ≤ c.1 ∧ c.1 < a + b.length := by
  induction b generalizing a with
  | nil => exact fun c hc => absurd hc List.not_mem_nil
  | cons x r ih =>
    have hr (c) (hc : c ∈ entriesOf d (a + 1) r) : a ≤ c.1 ∧ c.1 < a + (x :: r).length := by
      have := ih c hc
      rw [List.length_cons]
      omega
    unfold entriesOf
    split_ifs
    · exact hr
    · exact List.forall_mem_cons.mpr ⟨⟨le_rfl, by simp⟩, hr⟩

theorem wf_entriesOf {d : Nat → Byte} {a : Nat} {b : List Byte} : SMap.wf d (entriesOf d a b) = true := by
  induction b generalizing a with
  | nil => rfl
  | cons x r ih =>
    unfold entriesOf
    split_ifs with hx
    · exact ih
    · have ha : SMap.above a (entriesOf d (a + 1) r) = true := SMap.above_of_lt fun c hc => (mem_entriesOf c hc).1
      simp only [SMap.wf, ha, hx, decide_false, Bool.not_false, Bool.and_self, ih]

variable {s s₀ t : State}

theorem memOk_filter (p : Host.Cell → Bool) (h : s.memOk) : State.memOk { s with mem := s.mem.filter p } := SMap.wf_filter p h

/-- What lies below the image, the image and what lies past it follow each other. -/
theorem stageImage_memOk (b : List Byte) (h : s.memOk) : (stageImage b s).memOk := by
  have hlow : SMap.wf (memDflt s) (s.mem.filter (fun c => decide (c.1 < 0x1000000))) = true := SMap.wf_filter _ h
  have hhigh : SMap.wf (memDflt s) (s.mem.filter (fun c => decide (0x1000000 + b.length ≤ c.1))) = true := SMap.wf_filter _ h
  refine SMap.wf_append (SMap.wf_append hlow wf_entriesOf fun x hx y hy => ?_) hhigh fun x hx y hy => ?_
  · have hx1 : x.1 < 0x1000000 := of_decide_eq_true (List.mem_filter.mp hx).2
    exact Nat.lt_of_lt_of_le hx1 (mem_entriesOf y hy).1
  · have hy1 : 0x1000000 + b.length ≤ y.1 := of_decide_eq_true (List.mem_filter.mp hy).2
    rcases List.mem_append.mp hx with hx | hx
    · have hx1 : x.1 < 0x1000000 := of_decide_eq_true (List.mem_filter.mp hx).2
      omega
    · exact Nat.lt_of_lt_of_le (mem_entriesOf x hx).2 hy1

/-! ### The save of DOZE (R441) -/

/-- Outside the area of a save an unlisted byte reads as before it, although the save ends an earlier one at the same place. -/
theorem dfltIn_save {l : List (Nat × Nat)} {b k a : Nat} (h : a < b ∨ b + areaSize ≤ a) :
    dfltIn ((b, k) :: l.filter (fun p => p.1 ≠ b)) a = dfltIn l a := by
  have hout (p : Nat × Nat) (hp : p.1 = b) : decide (p.1 ≤ a ∧ a < p.1 + areaSize) = false := by
    rw [hp]
    exact decide_eq_false (by omega)
  have hfind : ((b, k) :: l.filter (fun p => p.1 ≠ b)).find? (fun p => decide (p.1 ≤ a ∧ a < p.1 + areaSize)) =
      l.find? (fun p => decide (p.1 ≤ a ∧ a < p.1 + areaSize)) := by
    rw [List.find?_cons_of_neg (by rw [hout (b, k) rfl]; exact Bool.false_ne_true), List.find?_filter]
    congr 1
    funext p
    by_cases hp : p.1 = b
    · simp only [hout p hp, Bool.false_eq_true, and_false, decide_false]
    · simp only [hp, ne_eq, not_false_eq_true, decide_true, true_and, Bool.decide_eq_true]
  unfold dfltIn
  rw [hfind]

/-- The bytes that stay listed lie outside the new save area. -/
theorem dozeSave_memOk (h : s.memOk) : (dozeSave s).memOk := by
  refine SMap.wf_congr (d := memDflt s) (SMap.wf_filter _ h) fun c hc => dfltIn_save ?_
  have hc1 := (List.mem_filter.mp hc).2
  simpa only [Bool.or_eq_true, decide_eq_true_eq] using hc1

/-! ### Every update that a command is made of -/

theorem deviceReset_memOk (h : s.memOk) : (deviceReset s).memOk := memOk_filter (fun c => decide (c.1 < 0x10000000)) h

theorem unpowered_memOk : (unpowered s).memOk := rfl

theorem Leads.memOk (h : Leads s₀ t) (h₀ : s₀.memOk) : t.memOk := by
  induction h with
  | start => exact h₀
  | put _ ha ih => exact memOk_of_eq ha.mem ha.areas ih
  | setMemByte _ ih => exact setMemByte_memOk _ _ ih
  | forget _ ih => exact memOk_filter _ ih
  | stageImage _ ih => exact stageImage_memOk _ ih
  | dozeSave _ ih => exact dozeSave_memOk ih
  | setCh _ _ ih => exact ih
  | legOff _ _ _ ih => exact ih
  | legOn _ _ _ _ ih => exact ih
  | edgOff _ ih => exact ih
  | deviceReset _ ih => exact deviceReset_memOk ih

theorem Passes.memOk (h : Passes s t) (hs : s.memOk) : t.memOk := by
  cases h with
  | on h => exact h.memOk hs
  | off _ => exact unpowered_memOk
  | boot _ _ k => exact k.memOk unpowered_memOk

theorem exec_memOk {c : Instr} (h : exec c s = .next t) (hs : s.memOk) : t.memOk := by
  obtain ⟨u, hu, hp⟩ := answers_exec (s := s) c
  obtain rfl : u = t := Host.Outcome.next.inj (hu.symm.trans h)
  exact hp.memOk hs

theorem timTick_memOk (h : s.memOk) : (timTick s).memOk := by
  unfold timTick
  split
  · exact h
  · exact h

/-- Settles O6: an idle step leaves memory, and a command is made of updates each of which keeps the canonical form. -/
theorem memoryStaysCanonical : Obligations.MemoryStaysCanonical := by
  intro s t hs hstep
  unfold step at hstep
  split at hstep
  next => exact Host.Outcome.next.inj hstep ▸ timTick_memOk hs
  next c r _ => exact exec_memOk (s := { s with pending := r }) hstep hs

end Sys2Proof.Machine
end

section
/-! The end of a quoin: ROLLBACK and the timeout (O14, O18). -/

namespace Sys2Proof.Machine
open Sys2Proof.Claims

variable {s : State} {ifc o : Ifc} {a : Nat}

/-! ### ROLLBACK (R74) -/

theorem quoRollback_own (ho : s.quo.owner = some ifc) (hp : s.quo.pending = none) : quoRollback ifc s = quoClose s := by
  unfold quoRollback
  rw [ho, hp]
  exact if_neg (by simp)

/-- A commit cannot be withdrawn, whoever asks. -/
theorem quoRollback_pending (hp : s.quo.pending ≠ none) : quoRollback ifc s = hostDrop ifc R.QUO_CTL.addr s := by
  unfold quoRollback
  split
  · exact if_pos (.inr (Option.isSome_iff_ne_none.mpr hp))
  · rfl

theorem arrived_pending {t : Nat} {w : Bool} : (arrived ifc t w s).quo.pending = s.quo.pending :=
  (congrArg QuoS.pending arrived_quo).trans rfl

theorem commonReg_hostDrop (h : commonReg a = false) : a ≠ R.SYS_HOST_DROP.addr ∧ a ≠ R.SYS_HOST_DROP_ADDR.addr := by
  simp only [commonReg, Bool.or_eq_false_iff, beq_eq_false_iff_ne] at h
  obtain ⟨⟨⟨⟨⟨-, hdrop⟩, haddr⟩, -⟩, -⟩, -⟩ := h
  exact ⟨hdrop, haddr⟩

/-- Settles O14: the owner's ROLLBACK is `quoClose`, and with a commit pending it is `hostDrop`, which leaves the quoin unit. -/
theorem rollbackRule : Obligations.RollbackRule := by
  refine ⟨fun s via h ⟨ho, hp⟩ => ?closes, fun s via h hp => ?ignored⟩
  case closes =>
    have hpend : (arrived via.ifc via.t true s).quo.pending = none := arrived_pending.trans hp
    have hgo := (hostGate_write (via := via) (v := 4#32) h).trans (quoRollback_own (arrived_owner.trans ho) hpend)
    exact ⟨_, congrArg Host.Outcome.next hgo, rfl, rfl, hpend, arrived_regs, arrived_mem⟩
  case ignored =>
    have hpend : (arrived via.ifc via.t true s).quo.pending ≠ none := by rwa [arrived_pending]
    have hgo := (hostGate_write (via := via) (v := 4#32) h).trans (quoRollback_pending (ifc := via.ifc) hpend)
    refine ⟨_, congrArg Host.Outcome.next hgo, ?_, ?_, ?_, fun a ha => ?_, ?_⟩
    · rw [hostDrop_quo, arrived_owner]
    · rw [hostDrop_quo, arrived_staged]
    · rw [hostDrop_quo, arrived_pending]
    · obtain ⟨hdrop, haddr⟩ := commonReg_hostDrop ha
      rw [rd_hostDrop_ne hdrop haddr, rd_arrived]
    · rw [(hostDrop_evtOnly _ _ _).mem, arrived_mem]

/-! ### The timeout (R75) -/

/-- The state in which the event of a timeout is raised. -/
def timedOut (s : State) : State := quoClose (raiseFlag s F.QUO_STATUS_TIMED_OUT)

/-- What the timeout keeps for a COMMIT of the same cycle is no register. -/
theorem quoTimeout_rd (ho : s.quo.owner = some o) (hdue : s.quo.lastWrite + 256000000 * fget s F.QUO_TIMEOUT_MS ≤ clk s) :
    rd (quoTimeout s) a = rd (raise blkQUO 0x03 (Ifc.num o) s.quo.staged.length 0 (timedOut s)) a := by
  unfold quoTimeout
  rw [ho]
  dsimp only
  rw [if_pos hdue]
  rfl

/-- The device after reset with the stray event of block 26 and an open quoin of PCIe. -/
def strayQuoin : State := { strayReset with quo := { QuoS.init with owner := some .pcie } }

/-- 100 ms in 1/256 ns, the TIMEOUT.MS of reset. -/
def resetTimeout : Nat := 25600000000

/-- Refutes O18: the event of the timeout finds the log full and has the stray one counted, in a word that the statement keeps. -/
theorem not_quoinClose : ¬ Obligations.QuoinClose := by
  rintro ⟨-, -, -, htimeout⟩
  let u : State := advance resetTimeout strayQuoin
  have hdue : u.quo.lastWrite + 256000000 * fget u F.QUO_TIMEOUT_MS ≤ clk u := by decide
  obtain ⟨t, ht, -, -, -, -, hkept⟩ := htimeout strayQuoin resetTimeout .pcie rfl hdue
  obtain rfl : quoTimeout u = t := Host.Outcome.next.inj ht
  have hlog : LogFull (timedOut u) := ⟨by decide, strayReset_full, by decide⟩
  have hcount : rd (raise blkQUO 0x03 (Ifc.num .pcie) 0 0 (timedOut u)) pastDrops = 1#32 :=
    hlog.raise_counts_stray rfl rfl (by decide) (by decide) (by decide)
  have hone : rd (quoTimeout u) pastDrops = 1#32 := (quoTimeout_rd (o := .pcie) rfl hdue).trans hcount
  exact absurd (hone.symm.trans (hkept pastDrops (by decide))) (by decide)

end Sys2Proof.Machine
end

section
/-! The output publish (O20). -/

namespace Sys2Proof.Machine
open Sys2Proof.Claims

variable {s : State} {n a : Nat} {ats : List (Nat × Nat)} {errs : List PltErr}

theorem pubDesc_disabled {i : Nat} (h : (descOf (SMap.get (fun _ => (0#64 : W64)) (s.plt n).act.pub i)).en = false) :
    pubDesc n errs i s = s := by
  unfold pubDesc
  dsimp only
  rw [h]
  rfl

theorem pubEnd_nil (h : s.edg = []) : pubEnd n ats s = s := by
  refine forN_inv (P := fun t => t = s) (fun c t ht => ?_) 48 s rfl
  subst ht
  have hpart : (t.ch c).part = [] := by
    unfold State.ch
    rw [h]
    rfl
  dsimp only
  rw [hpart]
  exact if_pos (.inr rfl)

/-- Without descriptors and without sets begun, the publish changes no register. -/
theorem publish_rd (hp : (s.plt n).act.pub = []) (he : s.edg = []) : rd (publish n ats errs s) a = rd s a := by
  have hdesc : forN 32 (pubDesc n errs) s = s := by
    refine forN_inv (P := fun t => t = s) (fun i t ht => ?_) 32 s rfl
    subst ht
    exact pubDesc_disabled (by rw [hp, SMap.get_nil]; decide)
  unfold publish
  rw [hdesc, pubEnd_nil he]
  rfl

theorem execOutputPublish_ended {u : State} {t : Nat} {p : Fin 4} {merrs : List MemErr} (hu : noteErrs merrs (advance t s) = u)
    (hon : domainOn u (2 + p) = true) (hrun : (u.plt p).running = true) (hend : (u.plt p).ended = true) :
    execOutputPublish t p ats errs merrs s = .next (publish p ats errs u) := by
  unfold execOutputPublish
  rw [hu]
  dsimp only
  rw [hon, hrun, hend]
  rfl

/-- The device after reset with the stray event of block 26 and PD_PLT0 on, platen 0 at the end of its forme. -/
def strayPublish : State :=
  { strayReset with
    pwr := { strayReset.pwr with on := 0x3007#14 }
    plts := [(0, { PltS.init with running := true, ended := true })] }

/-- The corrected error of the first block of main SRAM before its event. -/
def ceCounted (s : State) : State :=
  let u := bump s F.TST_MEM_CE_COUNT 1 0
  { u with tst := { u.tst with ceSec0 := some 0, passCe0 := u.tst.passCe0 + 1 } }

/-- Refutes O20: the publish finds a correctable error in main SRAM, and the event of that finds the log full and has the stray one counted,
in a word that the statement keeps. -/
theorem not_stagedBankAndPublish : ¬ Obligations.StagedBankAndPublish := by
  rintro ⟨-, -, -, hpublish, -⟩
  obtain ⟨t, ht, -, -, -, hkept⟩ := hpublish strayPublish 0 0 [] [] [⟨0x1000000, .single⟩] (by decide) rfl (.inl rfl)
  let u : State := ceCounted strayPublish
  let v : State := raise blkTST 0x01 0 0x1000000 1 u
  have hv : EvtOnly u v := raise_evtOnly _ _ _ _ _ _
  have hnote : noteErrs [⟨0x1000000, .single⟩] (advance 0 strayPublish) = v := rfl
  have hplt : v.plt 0 = strayPublish.plt 0 := by
    unfold State.plt
    rw [hv.plts]
    rfl
  have hon : domainOn v 2 = true := by
    unfold domainOn
    rw [hv.pwr]
    decide
  have hgo : exec (.outputPublish 0 0 [] [] [⟨0x1000000, .single⟩]) strayPublish = .next (publish 0 [] [] v) :=
    execOutputPublish_ended (p := 0) hnote hon (by rw [Fin.val_zero, hplt]; rfl) (by rw [Fin.val_zero, hplt]; rfl)
  obtain rfl : publish 0 [] [] v = t := Host.Outcome.next.inj (hgo.symm.trans ht)
  have hlog : LogFull u := ⟨by decide, strayReset_full, by decide⟩
  have hcount : rd v pastDrops = 1#32 := hlog.raise_counts_stray rfl rfl (by decide) (by decide) (by decide)
  have hone : rd (publish 0 [] [] v) pastDrops = 1#32 := (publish_rd (by rw [hplt]; rfl) hv.edg).trans hcount
  exact absurd (hone.symm.trans (hkept pastDrops (by decide))) (by decide)

end Sys2Proof.Machine
end

section
/-! Sorts of a platen: what a read, an accumulator write and a store leave of the state (R80 to R95), each said once. -/

namespace Sys2Proof.Machine
open Sys2Proof.Claims

variable {s t u : State} {n : Fin 5} {a : Srt} {x y c : Bool} {js : List Nat}

/-! ### A change of one platen -/

theorem plt_modPlt_ne {m k : Nat} (h : m ≠ k) (f : PltS → PltS) : (modPlt s k f).plt m = s.plt m := by
  rw [modPlt, plt_setPlt, if_neg h]

theorem pltOnly_refl : PltOnly s s n := ⟨rfl, fun _ _ => rfl, fun _ _ => rfl⟩

theorem pltOnly_trans (h : PltOnly s t n) (h' : PltOnly t u n) : PltOnly s u n := by
  obtain ⟨hst, hplt, hrd⟩ := h
  obtain ⟨htu, hplt', hrd'⟩ := h'
  refine ⟨?_, fun m hm => (hplt' m hm).trans (hplt m hm), fun r hr => (hrd' r hr).trans (hrd r hr)⟩
  rw [hst] at htu
  exact htu

theorem pltOnly_modPlt (f : PltS → PltS) : PltOnly s (modPlt s n f) n :=
  ⟨rfl, fun _ hm => plt_modPlt_ne (fun h => hm (Fin.ext h)) f, fun _ _ => rfl⟩

/-- A field of PLT.STATUS or PLT.OVF_INFO of the platen. -/
abbrev sortFld (f : Fld) : Prop := f.reg = R.PLT_STATUS ∨ f.reg = R.PLT_OVF_INFO

theorem pltOnly_fset {f : Fld} (hf : sortFld f) (v : Nat) : PltOnly s (fset s f v n) n := by
  refine ⟨rfl, fun _ _ => rfl, fun r hr => rd_fset_ne s f v n 0 0 fun h => ?_⟩
  rcases hf with hf | hf <;> simp [h, hf] at hr

theorem pltOnly_raiseFlag {f : Fld} (hf : sortFld f) : PltOnly s (raiseFlag s f n) n := by
  obtain ⟨-, -, hrd⟩ := pltOnly_fset (s := s) (n := n) hf 1
  exact ⟨rfl, fun _ _ => rfl, hrd⟩

/-! ### Pointers (R80, R82, R83) -/

theorem ptrOf_setPtr (p : PltS) (k : Nat) (q : Ptr) (j : Nat) : (p.setPtr k q).ptrOf j = if j = k then q else p.ptrOf j :=
  SMap.get_put _ _ _ _ _

theorem ptrNext_eq (size : Nat) (q : Ptr) : ptrNext size q = ipiAfter size q := by
  unfold ptrNext ipiAfter
  split_ifs with hm
  · rfl
  · have hle : 0 ≤ ((q.p : Int) - q.b + q.s) % (q.m : Int) := Int.emod_nonneg _ (by omega)
    rw [Int.toNat_add (Int.natCast_nonneg _) hle, Int.toNat_natCast]

/-- The pointer that the operand field `f` names among the eight of its group, and the one that CF names among the eight of its own. -/
def fldPtr (f : BitVec 16) : Nat := f.toNat % 2 ^ 14 / 2 ^ 11
def coefPtr (cf : BitVec 14) : Nat := cf.toNat % 2 ^ 13 / 2 ^ 10

theorem fldPtr_lt (f : BitVec 16) : fldPtr f < 8 := by unfold fldPtr; omega
theorem coefPtr_lt (cf : BitVec 14) : coefPtr cf < 8 := by unfold coefPtr; omega

theorem ptrOf_dataStep (p : PltS) (y : Bool) (f : BitVec 16) (j : Nat) : (dataStep p y f).ptrOf j =
    if fldMode f = 2 ∧ j = (if y then 8 else 0) + fldPtr f then ipiAfter 16384 (p.ptrOf j) else p.ptrOf j := by
  unfold dataStep
  by_cases hm : fldMode f = 2
  · rw [if_pos hm, ptrOf_setPtr, ptrNext_eq]
    simp only [hm, true_and]
    change (if j = (if y then 8 else 0) + fldPtr f then ipiAfter 16384 (p.ptrOf ((if y then 8 else 0) + fldPtr f)) else _) = _
    by_cases hj : j = (if y then 8 else 0) + fldPtr f
    · rw [hj]
    · rw [if_neg hj, if_neg hj]
  · rw [if_neg hm, if_neg fun h => hm h.1]

theorem ptrOf_coefStep (p : PltS) (cf : BitVec 14) (j : Nat) : (coefStep p cf).ptrOf j =
    if cf.getLsbD 13 = true ∧ j = 16 + coefPtr cf then ipiAfter 8192 (p.ptrOf j) else p.ptrOf j := by
  unfold coefStep
  by_cases hm : cf.getLsbD 13 = true
  · rw [if_pos hm, ptrOf_setPtr, ptrNext_eq]
    simp only [hm, true_and]
    change (if j = 16 + coefPtr cf then ipiAfter 8192 (p.ptrOf (16 + coefPtr cf)) else _) = _
    by_cases hj : j = 16 + coefPtr cf
    · rw [hj]
    · rw [if_neg hj, if_neg hj]
  · rw [if_neg hm, if_neg fun h => hm h.1]

/-- From `p` to `q` the pointers have stepped that the operands of `a` in the fields XF (`x`), YF (`y`) and CF (`c`) step. -/
def Stepped (a : Srt) (x y c : Bool) (p q : PltS) : Prop :=
  ∀ j : Nat, q.ptrOf j =
    if (x = true ∧ fldMode a.xf = 2 ∧ j = fldPtr a.xf) ∨ (y = true ∧ fldMode a.yf = 2 ∧ j = 8 + fldPtr a.yf) then
      ipiAfter 16384 (p.ptrOf j)
    else if c = true ∧ a.cf.getLsbD 13 = true ∧ j = 16 + coefPtr a.cf then ipiAfter 8192 (p.ptrOf j)
    else p.ptrOf j

section
variable {p q r : PltS}

theorem Stepped.refl : Stepped a false false false p p := fun j => by simp

theorem Stepped.of_ptr (h : Stepped a x y c p q) (hr : r.ptr = q.ptr) : Stepped a x y c p r := fun j => by
  rw [← h j]
  unfold PltS.ptrOf
  rw [hr]

/-- The three fields name pointers of three groups, 0 to 7, 8 to 15 and 16 to 23: the step of one leaves those of the others. -/
theorem Stepped.dataX (h : Stepped a false y c p q) : Stepped a true y c p (dataStep q false a.xf) := fun j => by
  have hx := fldPtr_lt a.xf
  rw [ptrOf_dataStep, h j]
  grind

theorem Stepped.dataY (h : Stepped a x false c p q) : Stepped a x true c p (dataStep q true a.yf) := fun j => by
  have hx := fldPtr_lt a.xf
  have hy := fldPtr_lt a.yf
  rw [ptrOf_dataStep, h j]
  grind

theorem Stepped.coef (h : Stepped a x y false p q) : Stepped a x y true p (coefStep q a.cf) := fun j => by
  have hx := fldPtr_lt a.xf
  have hy := fldPtr_lt a.yf
  rw [ptrOf_coefStep, h j]
  grind

/-- A field that has not stepped its pointer still names the word that it named. -/
theorem Stepped.dataAddr_x (h : Stepped a false y c p q) : dataAddr q false a.xf = dataAddr p false a.xf := by
  have hx := fldPtr_lt a.xf
  have hptr : q.ptrOf (0 + fldPtr a.xf) = p.ptrOf (0 + fldPtr a.xf) := by
    rw [h]
    grind
  exact congrArg (fun r : Ptr => if fldMode a.xf = 0 then a.xf.toNat % 2 ^ 14 else (r.p + a.xf.toNat % 2 ^ 14 % 2 ^ 11) % 16384) hptr

theorem Stepped.dataAddr_y (h : Stepped a x false c p q) : dataAddr q true a.yf = dataAddr p true a.yf := by
  have hx := fldPtr_lt a.xf
  have hy := fldPtr_lt a.yf
  have hptr : q.ptrOf (8 + fldPtr a.yf) = p.ptrOf (8 + fldPtr a.yf) := by
    rw [h]
    grind
  exact congrArg (fun r : Ptr => if fldMode a.yf = 0 then a.yf.toNat % 2 ^ 14 else (r.p + a.yf.toNat % 2 ^ 14 % 2 ^ 11) % 16384) hptr

theorem Stepped.coefAddr (h : Stepped a x y false p q) : coefAddr q a.cf = coefAddr p a.cf := by
  have hx := fldPtr_lt a.xf
  have hy := fldPtr_lt a.yf
  have hptr : q.ptrOf (16 + coefPtr a.cf) = p.ptrOf (16 + coefPtr a.cf) := by
    rw [h]
    grind
  exact congrArg (fun r : Ptr => if a.cf.getLsbD 13 then (r.p + a.cf.toNat % 2 ^ 10) % 8192 else a.cf.toNat % 2 ^ 13) hptr

end

/-! ### Reading operands, with no memory error (R82) -/

theorem dataStep_frame (p : PltS) (y : Bool) (f : BitVec 16) : dataStep p y f = { p with ptr := (dataStep p y f).ptr } := by
  unfold dataStep
  split_ifs <;> rfl

theorem coefStep_frame (p : PltS) (cf : BitVec 14) : coefStep p cf = { p with ptr := (coefStep p cf).ptr } := by
  unfold coefStep
  split_ifs <;> rfl

theorem dataStep_imm {p : PltS} {f : BitVec 16} (h : fldMode f = 3) : dataStep p y f = p := if_neg (by rw [h]; decide)

/-- The field of the X operand (`y` false) or the Y operand. -/
def fldOf (y : Bool) (a : Srt) : BitVec 16 := if y then a.yf else a.xf

/-- The X or Y operand of `a` on a platen whose memory has no error. -/
def operand (y : Bool) (a : Srt) (p : PltS) : Int :=
  if fldMode (fldOf y a) = 3 then sgn 14 (fldOf y a).toNat * 2 ^ 10 else (p.word y (dataAddr p y (fldOf y a))).toInt

theorem readXY_eq (he : a.errs = []) :
    readXY y a s = (operand y a (s.plt a.plt),
      if fldMode (fldOf y a) = 3 then s else modPlt s a.plt (fun p => dataStep p y (fldOf y a))) := by
  unfold readXY operand
  rw [he]
  by_cases hm : fldMode (fldOf y a) = 3
  · rw [if_pos hm, if_pos hm]
    exact if_pos hm
  · rw [if_neg hm, if_neg hm]
    exact if_neg hm

theorem readXY_plt (he : a.errs = []) : (readXY y a s).2.plt a.plt = dataStep (s.plt a.plt) y (fldOf y a) := by
  rw [readXY_eq he]
  dsimp only
  split_ifs with hm
  · rw [dataStep_imm hm]
  · exact plt_modPlt_self _ _

theorem readXY_only (he : a.errs = []) : PltOnly s (readXY y a s).2 a.plt := by
  rw [readXY_eq he]
  dsimp only
  split_ifs
  · exact pltOnly_refl
  · exact pltOnly_modPlt _

theorem readCAt_eq (he : a.errs = []) (k : Nat) : readCAt a k s = (((s.plt a.plt).cword k).toInt, s) := by
  unfold readCAt
  rw [he]
  rfl

theorem readC_eq (he : a.errs = []) :
    readC a s = (((s.plt a.plt).cword (coefAddr (s.plt a.plt) a.cf)).toInt, modPlt s a.plt (fun p => coefStep p a.cf)) := by
  unfold readC
  rw [readCAt_eq he]

/-- From `s` to `u` operands of `a` have been read: nothing changes but the pointers that the fields XF (`x`), YF (`y`) and CF (`c`)
step. -/
structure ReadRun (a : Srt) (x y c : Bool) (s u : State) : Prop where
  only : PltOnly s u a.plt
  plt : u.plt a.plt = { s.plt a.plt with ptr := (u.plt a.plt).ptr }
  ptr : Stepped a x y c (s.plt a.plt) (u.plt a.plt)

theorem ReadRun.refl : ReadRun a false false false s s := ⟨pltOnly_refl, rfl, .refl⟩

/-- A read that leaves the platen's pointers as `q` goes on from what has been read. -/
theorem ReadRun.next {x' y' c' : Bool} {q : PltS} (h : ReadRun a x y c s u) (ho : PltOnly u t a.plt) (ht : t.plt a.plt = q)
    (hq : q = { u.plt a.plt with ptr := q.ptr }) (hp : Stepped a x' y' c' (s.plt a.plt) q) : ReadRun a x' y' c' s t := by
  subst ht
  refine ⟨pltOnly_trans h.only ho, ?_, hp⟩
  rw [h.plt] at hq
  exact hq

theorem ReadRun.readX (h : ReadRun a false y c s u) (he : a.errs = []) : ReadRun a true y c s (readXY false a u).2 :=
  h.next (readXY_only he) (readXY_plt he) (dataStep_frame _ _ _) h.ptr.dataX

theorem ReadRun.readY (h : ReadRun a x false c s u) (he : a.errs = []) : ReadRun a x true c s (readXY true a u).2 :=
  h.next (readXY_only he) (readXY_plt he) (dataStep_frame _ _ _) h.ptr.dataY

theorem ReadRun.stepC (h : ReadRun a x y false s u) : ReadRun a x y true s (modPlt u a.plt (fun p => coefStep p a.cf)) :=
  h.next (pltOnly_modPlt _) (plt_modPlt_self _ _) (coefStep_frame _ _) h.ptr.coef

theorem ReadRun.readC (h : ReadRun a x y false s u) (he : a.errs = []) : ReadRun a x y true s (readC a u).2 := by
  rw [readC_eq he]
  exact h.stepC

/-- An operand whose pointer has not stepped yet reads as it does before the others are read. -/
theorem ReadRun.valX (h : ReadRun a false y c s u) (he : a.errs = []) : (readXY false a u).1 = (readXY false a s).1 := by
  have haddr := h.ptr.dataAddr_x
  have hword : (u.plt a.plt).word false = (s.plt a.plt).word false := by rw [h.plt]; rfl
  rw [readXY_eq he, readXY_eq he]
  unfold operand
  rw [hword]
  exact congrArg (fun k => if fldMode a.xf = 3 then sgn 14 a.xf.toNat * 2 ^ 10 else ((s.plt a.plt).word false k).toInt) haddr

theorem ReadRun.valY (h : ReadRun a x false c s u) (he : a.errs = []) : (readXY true a u).1 = (readXY true a s).1 := by
  have haddr := h.ptr.dataAddr_y
  have hword : (u.plt a.plt).word true = (s.plt a.plt).word true := by rw [h.plt]; rfl
  rw [readXY_eq he, readXY_eq he]
  unfold operand
  rw [hword]
  exact congrArg (fun k => if fldMode a.yf = 3 then sgn 14 a.yf.toNat * 2 ^ 10 else ((s.plt a.plt).word true k).toInt) haddr

theorem ReadRun.cword (h : ReadRun a x y c s u) : (u.plt a.plt).cword = (s.plt a.plt).cword := by rw [h.plt]; rfl

theorem ReadRun.valC (h : ReadRun a x y false s u) (he : a.errs = []) : (Machine.readC a u).1 = (Machine.readC a s).1 := by
  rw [readC_eq he, readC_eq he, h.cword, h.ptr.coefAddr]

/-- The source of LDA, ADD, MIN and MAX (R85). -/
theorem readSrc_run (he : a.errs = []) (hm : a.md.toNat % 4 ≠ 3) :
    ReadRun a (a.md.toNat % 4 == 0) (a.md.toNat % 4 == 1) (a.md.toNat % 4 == 2) s (readSrc a s).2 := by
  have hlt : a.md.toNat % 4 < 3 := by omega
  unfold readSrc
  interval_cases a.md.toNat % 4
  · exact ReadRun.refl.readX he
  · exact ReadRun.refl.readY he
  · exact ReadRun.refl.readC he


/-! ### Accumulator writes (R92 to R94) -/

theorem accOf_setAcc (p : PltS) (i : Nat) (w : Accum) (j : Nat) : (p.setAcc i w).accOf j = if j = i then w else p.accOf j :=
  SMap.get_put _ _ _ _ _

theorem clampInt_of_lt {lo hi v : Int} (h : v < lo) : clampInt lo hi v = lo := if_pos h

theorem clampInt_of_gt {lo hi v : Int} (hlo : ¬ v < lo) (h : hi < v) : clampInt lo hi v = hi := (if_neg hlo).trans (if_pos h)

theorem clampInt_of_mem {lo hi v : Int} (hlo : ¬ v < lo) (hhi : ¬ hi < v) : clampInt lo hi v = v := (if_neg hlo).trans (if_neg hhi)

section
variable {clr : Bool} {i : Nat} {v : Int} {old : Accum}

/-- A write of an accumulator that is frozen and not cleared, of a value below or above the range, and of one within it (R92, R93). -/
theorem accAfter_frozen (hf : old.frz = true ∧ clr = false) : accAfter clr old v = old := if_pos hf

theorem accAfter_low (hf : ¬ (old.frz = true ∧ clr = false)) (hv : v < -(2 ^ 55 : Int)) :
    accAfter clr old v = ⟨BitVec.ofInt 56 (-(2 ^ 55)), if clr then false else old.c, true⟩ := by
  rw [accAfter, if_neg hf, clampInt_of_lt hv, decide_eq_true hv, Bool.true_or]

theorem accAfter_high (hf : ¬ (old.frz = true ∧ clr = false)) (hlo : ¬ v < -(2 ^ 55 : Int)) (hv : (2 ^ 55 : Int) ≤ v) :
    accAfter clr old v = ⟨BitVec.ofInt 56 (2 ^ 55 - 1), if clr then false else old.c, true⟩ := by
  rw [accAfter, if_neg hf, clampInt_of_gt hlo (by omega), decide_eq_true hv, Bool.or_true]

theorem accAfter_within (hf : ¬ (old.frz = true ∧ clr = false)) (hlo : ¬ v < -(2 ^ 55 : Int)) (hhi : ¬ (2 ^ 55 : Int) ≤ v) :
    accAfter clr old v = ⟨BitVec.ofInt 56 v, if clr then false else old.c, false⟩ := by
  rw [accAfter, if_neg hf, clampInt_of_mem hlo (by omega), decide_eq_false hlo, decide_eq_false hhi, Bool.false_or]

/-- An accumulator that is written: a saturation is noted, and a frozen one keeps what it holds unless the write clears it. -/
theorem accWrite_eq : accWrite clr a i v s =
    if ((s.plt a.plt).accOf i).frz = true ∧ clr = false then s
    else if v < -(2 ^ 55 : Int) ∨ (2 ^ 55 : Int) ≤ v then
      noteOvf a i (modPlt s a.plt (fun p => p.setAcc i (accAfter clr ((s.plt a.plt).accOf i) v)))
    else modPlt s a.plt (fun p => p.setAcc i (accAfter clr ((s.plt a.plt).accOf i) v)) := by
  have hcond : (((s.plt a.plt).accOf i).frz && !clr) = true ↔ ((s.plt a.plt).accOf i).frz = true ∧ clr = false := by simp
  unfold accWrite
  dsimp only
  by_cases hf : ((s.plt a.plt).accOf i).frz = true ∧ clr = false
  · rw [if_pos hf, if_pos (hcond.2 hf)]
  rw [if_neg hf, if_neg (mt hcond.1 hf)]
  by_cases hlo : v < -(2 ^ 55 : Int)
  · rw [if_pos hlo, if_pos (Or.inl hlo), accAfter_low hf hlo]
  by_cases hhi : (2 ^ 55 : Int) ≤ v
  · rw [if_neg hlo, if_pos hhi, if_pos (Or.inr hhi), accAfter_high hf hlo hhi]
  · rw [if_neg hlo, if_neg hhi, if_neg (not_or.2 ⟨hlo, hhi⟩), accAfter_within hf hlo hhi]

end

theorem noteOvf_plts (a : Srt) (i : Nat) (s : State) : (noteOvf a i s).plts = s.plts := by
  unfold noteOvf
  dsimp only
  split_ifs
  · rfl
  · simp only [fset_plts, raiseFlag_plts]

theorem noteOvf_only (a : Srt) (i : Nat) (s : State) : PltOnly s (noteOvf a i s) a.plt := by
  unfold noteOvf
  dsimp only
  split_ifs
  · exact pltOnly_refl
  · have hovf : PltOnly s (raiseFlag s F.PLT_STATUS_OVF a.plt) a.plt := pltOnly_raiseFlag (.inl rfl)
    exact pltOnly_trans (pltOnly_trans (pltOnly_trans hovf (pltOnly_fset (.inr rfl) _)) (pltOnly_fset (.inr rfl) _))
      (pltOnly_fset (.inr rfl) _)

section
variable {clr : Bool} {i : Nat} {v : Int}

theorem accWrite_only : PltOnly s (accWrite clr a i v s) a.plt := by
  rw [accWrite_eq]
  split_ifs
  · exact pltOnly_refl
  · exact pltOnly_trans (pltOnly_modPlt _) (noteOvf_only _ _ _)
  · exact pltOnly_modPlt _

theorem accWrite_plt : (accWrite clr a i v s).plt a.plt =
    if ((s.plt a.plt).accOf i).frz = true ∧ clr = false then s.plt a.plt
    else (s.plt a.plt).setAcc i (accAfter clr ((s.plt a.plt).accOf i) v) := by
  rw [accWrite_eq]
  split_ifs
  · rfl
  · unfold State.plt
    rw [noteOvf_plts]
    exact plt_modPlt_self _ _
  · exact plt_modPlt_self _ _

theorem accWrite_frame : (accWrite clr a i v s).plt a.plt = { s.plt a.plt with acc := ((accWrite clr a i v s).plt a.plt).acc } := by
  rw [accWrite_plt]
  split_ifs <;> rfl

theorem accOf_accWrite (j : Nat) : ((accWrite clr a i v s).plt a.plt).accOf j =
    if j = i then accAfter clr ((s.plt a.plt).accOf i) v else (s.plt a.plt).accOf j := by
  rw [accWrite_plt]
  by_cases hf : ((s.plt a.plt).accOf i).frz = true ∧ clr = false
  · rw [if_pos hf, accAfter, if_pos hf]
    split_ifs with hj
    · rw [hj]
    · rfl
  · rw [if_neg hf, accOf_setAcc]

end

/-- From `s` to `u` operands of `a` have been read and accumulators among `js` written. -/
structure AccRun (a : Srt) (js : List Nat) (x y c : Bool) (s u : State) : Prop where
  only : PltOnly s u a.plt
  plt : u.plt a.plt = { s.plt a.plt with acc := (u.plt a.plt).acc, ptr := (u.plt a.plt).ptr }
  ptr : Stepped a x y c (s.plt a.plt) (u.plt a.plt)
  acc : ∀ j, j ∉ js → (u.plt a.plt).accOf j = (s.plt a.plt).accOf j

theorem ReadRun.accs (h : ReadRun a x y c s u) : (u.plt a.plt).accOf = (s.plt a.plt).accOf := by rw [h.plt]; rfl

theorem ReadRun.accRun (h : ReadRun a x y c s u) : AccRun a [] x y c s u :=
  ⟨h.only, by rw [h.plt], h.ptr, fun j _ => congrFun h.accs j⟩

/-- A change of accumulator `i` alone goes on from what has been written. -/
theorem AccRun.next {i : Nat} (h : AccRun a js x y c s u) (ho : PltOnly u t a.plt)
    (hf : t.plt a.plt = { u.plt a.plt with acc := (t.plt a.plt).acc })
    (ha : ∀ j, j ≠ i → (t.plt a.plt).accOf j = (u.plt a.plt).accOf j) : AccRun a (i :: js) x y c s t := by
  refine ⟨pltOnly_trans h.only ho, ?_, h.ptr.of_ptr (by rw [hf]), fun j hj => ?_⟩
  · rw [h.plt] at hf
    rw [hf]
  · rw [List.mem_cons, not_or] at hj
    exact (ha j hj.1).trans (h.acc j hj.2)

theorem AccRun.write (h : AccRun a js x y c s u) (clr : Bool) (i : Nat) (v : Int) : AccRun a (i :: js) x y c s (accWrite clr a i v u) :=
  h.next accWrite_only accWrite_frame fun j hj => by rw [accOf_accWrite, if_neg hj]

theorem AccRun.mono {js' : List Nat} (h : AccRun a js x y c s u) (hj : js ⊆ js') : AccRun a js' x y c s u :=
  ⟨h.only, h.plt, h.ptr, fun j hn => h.acc j fun hm => hn (hj hm)⟩

/-! ### Stores (R87, R95) -/

/-- From `s` to `u` the word `w` has been stored where the field of X (`y` false) or Y memory names it, the detector may have been fed, and
the field has stepped its pointer. -/
structure StoredAt (a : Srt) (y : Bool) (w : W24) (s u : State) : Prop where
  only : PltOnly s u a.plt
  plt : u.plt a.plt = { s.plt a.plt with x := (u.plt a.plt).x, y := (u.plt a.plt).y, ptr := (u.plt a.plt).ptr, det := (u.plt a.plt).det }
  ptr : (u.plt a.plt).ptr = (dataStep (s.plt a.plt) y (fldOf y a)).ptr
  word : ∀ z k, (u.plt a.plt).word z k =
    if z = y ∧ fldMode (fldOf y a) ≠ 3 ∧ k = dataAddr (s.plt a.plt) y (fldOf y a) then w else (s.plt a.plt).word z k

theorem word_putWord (p : PltS) (y : Bool) (k : Nat) (w : W24) (z : Bool) (j : Nat) :
    (p.setWord y k w).word z j = if z = y ∧ j = k then w else p.word z j := by
  cases y <;> cases z
  · simpa [PltS.word, PltS.setWord] using SMap.get_put _ _ _ _ _
  · simp [PltS.word, PltS.setWord]
  · simp [PltS.word, PltS.setWord]
  · simpa [PltS.word, PltS.setWord] using SMap.get_put _ _ _ _ _

theorem setWord_frame (p : PltS) (y : Bool) (k : Nat) (w : W24) :
    p.setWord y k w = { p with x := (p.setWord y k w).x, y := (p.setWord y k w).y } := by
  cases y <;> rfl

theorem dataStep_ptr_setWord (p : PltS) (z : Bool) (k : Nat) (w : W24) (y : Bool) (f : BitVec 16) :
    (dataStep (p.setWord z k w) y f).ptr = (dataStep p y f).ptr := by
  rw [setWord_frame]
  unfold dataStep
  split_ifs <;> rfl

theorem word_dataStep (p : PltS) (y : Bool) (f : BitVec 16) : (dataStep p y f).word = p.word := by
  rw [dataStep_frame]
  rfl

theorem storeXY_eq (y : Bool) (a : Srt) (w : W24) (s : State) : storeXY y a w s =
    if fldMode (fldOf y a) = 3 then s
    else modPlt s a.plt (fun p => dataStep (p.setWord y (dataAddr p y (fldOf y a)) w) y (fldOf y a)) := rfl

theorem storeXY_plt (y : Bool) (a : Srt) (w : W24) (s : State) : (storeXY y a w s).plt a.plt =
    if fldMode (fldOf y a) = 3 then s.plt a.plt
    else dataStep ((s.plt a.plt).setWord y (dataAddr (s.plt a.plt) y (fldOf y a)) w) y (fldOf y a) := by
  rw [storeXY_eq]
  split_ifs
  · rfl
  · exact plt_modPlt_self _ _

theorem storeXY_only (y : Bool) (a : Srt) (w : W24) (s : State) : PltOnly s (storeXY y a w s) a.plt := by
  rw [storeXY_eq]
  split_ifs
  · exact pltOnly_refl
  · exact pltOnly_modPlt _

theorem storeXY_storedAt (y : Bool) (a : Srt) (w : W24) (s : State) : StoredAt a y w s (storeXY y a w s) := by
  refine ⟨storeXY_only y a w s, ?_, ?_, fun z k => ?_⟩
  · rw [storeXY_plt]
    split_ifs
    · rfl
    · rw [dataStep_frame, setWord_frame]
  · rw [storeXY_plt]
    split_ifs with hm
    · rw [dataStep_imm hm]
    · exact dataStep_ptr_setWord _ _ _ _ _ _
  · rw [storeXY_plt]
    by_cases hm : fldMode (fldOf y a) = 3
    · rw [if_pos hm, if_neg fun h => h.2.1 hm]
    · rw [if_neg hm, word_dataStep, word_putWord]
      simp [hm]

theorem storeVal_eq (a : Srt) (i : Nat) (s : State) : storeVal a i s =
    (storedWord (accVal a i s) a.md,
      if storeRaw (accVal a i s) (sgn 4 a.md.toNat) < -(2 ^ 23 : Int) ∨ (2 ^ 23 : Int) ≤ storeRaw (accVal a i s) (sgn 4 a.md.toNat) then
        raiseFlag s F.PLT_STATUS_STSAT a.plt
      else s) := by
  unfold storeVal storedWord
  generalize storeRaw (accVal a i s) (sgn 4 a.md.toNat) = r
  dsimp only
  by_cases hlo : r < -(2 ^ 23 : Int)
  · rw [if_pos hlo, if_pos (Or.inl hlo), clampInt_of_lt hlo]
    rfl
  by_cases hhi : (2 ^ 23 : Int) ≤ r
  · rw [if_neg hlo, if_pos hhi, if_pos (Or.inr hhi), clampInt_of_gt hlo (by omega)]
    rfl
  · rw [if_neg hlo, if_neg hhi, if_neg (not_or.2 ⟨hlo, hhi⟩), clampInt_of_mem hlo (by omega)]

/-- A change that leaves the platens comes before a store, one of the detector after it. -/
theorem StoredAt.after {w : W24} (h : StoredAt a y w t u) (ho : PltOnly s t a.plt) (hp : t.plt a.plt = s.plt a.plt) :
    StoredAt a y w s u := by
  obtain ⟨honly, hplt, hptr, hword⟩ := h
  rw [hp] at hplt hptr hword
  exact ⟨pltOnly_trans ho honly, hplt, hptr, hword⟩

theorem StoredAt.fed {w : W24} (h : StoredAt a y w s u) (w' : W24) : StoredAt a y w s (bexpFeed a.plt w' u) := by
  have hfed : (bexpFeed a.plt w' u).plt a.plt = _ := plt_modPlt_self _ _
  refine ⟨pltOnly_trans h.only (pltOnly_modPlt _), ?_, ?_, fun z k => ?_⟩
  · rw [hfed, h.plt]
  · rw [hfed]
    exact h.ptr
  · rw [hfed]
    exact h.word z k

theorem storeFed_eq (y : Bool) (a : Srt) (i : Nat) (s : State) : storeFed y a i s =
    if (flag (storeXY y a (storeVal a i s).1 (storeVal a i s).2) F.PLT_CTL_BEXP_AUTO a.plt && fldMode (fldOf y a) != 3) = true then
      bexpFeed a.plt (storeVal a i s).1 (storeXY y a (storeVal a i s).1 (storeVal a i s).2)
    else storeXY y a (storeVal a i s).1 (storeVal a i s).2 := rfl

theorem storeFed_storedAt (y : Bool) (a : Srt) (i : Nat) (s : State) :
    StoredAt a y (storedWord (accVal a i s) a.md) s (storeFed y a i s) := by
  have hstored : StoredAt a y (storedWord (accVal a i s) a.md) s (storeXY y a (storeVal a i s).1 (storeVal a i s).2) := by
    rw [storeVal_eq]
    refine (storeXY_storedAt y a _ _).after ?_ ?_
    · dsimp only
      split_ifs
      · exact pltOnly_raiseFlag (.inl rfl)
      · exact pltOnly_refl
    · dsimp only
      split_ifs <;> rfl
  rw [storeFed_eq]
  split_ifs
  · exact hstored.fed _
  · exact hstored

/-- From `s` to `u` operands of `a` have been read and, where one is given, a word has been stored at XF and at YF. -/
structure WordRun (a : Srt) (x y c : Bool) (wx wy : Option W24) (s u : State) : Prop where
  only : PltOnly s u a.plt
  plt : u.plt a.plt = { s.plt a.plt with x := (u.plt a.plt).x, y := (u.plt a.plt).y, ptr := (u.plt a.plt).ptr, det := (u.plt a.plt).det }
  ptr : Stepped a x y c (s.plt a.plt) (u.plt a.plt)
  wordX : ∀ k, (u.plt a.plt).word false k =
    if fldMode a.xf ≠ 3 ∧ k = dataAddr (s.plt a.plt) false a.xf then wx.getD ((s.plt a.plt).word false k)
    else (s.plt a.plt).word false k
  wordY : ∀ k, (u.plt a.plt).word true k =
    if fldMode a.yf ≠ 3 ∧ k = dataAddr (s.plt a.plt) true a.yf then wy.getD ((s.plt a.plt).word true k)
    else (s.plt a.plt).word true k

section
variable {w : W24} {wx wy : Option W24}

theorem ReadRun.wordRun (h : ReadRun a x y c s u) : WordRun a x y c none none s u := by
  have hword : (u.plt a.plt).word = (s.plt a.plt).word := by rw [h.plt]; rfl
  refine ⟨h.only, by rw [h.plt], h.ptr, fun k => ?_, fun k => ?_⟩
  · rw [hword, Option.getD_none, ite_self]
  · rw [hword, Option.getD_none, ite_self]

theorem WordRun.plt_stored (h : WordRun a x y c wx wy s u) {z : Bool} (hs : StoredAt a z w u t) :
    t.plt a.plt = { s.plt a.plt with x := (t.plt a.plt).x, y := (t.plt a.plt).y, ptr := (t.plt a.plt).ptr, det := (t.plt a.plt).det } := by
  have hplt := hs.plt
  rw [h.plt] at hplt
  exact hplt

theorem WordRun.storeX (h : WordRun a false y c none wy s u) (hs : StoredAt a false w u t) : WordRun a true y c (some w) wy s t := by
  refine ⟨pltOnly_trans h.only hs.only, h.plt_stored hs, h.ptr.dataX.of_ptr hs.ptr, fun k => ?_, fun k => ?_⟩
  · have hk := hs.word false k
    rw [h.wordX, Option.getD_none, ite_self] at hk
    rw [hk, ← h.ptr.dataAddr_x]
    simp [fldOf]
  · rw [hs.word, if_neg (by simp), h.wordY]

theorem WordRun.storeY (h : WordRun a x false c wx none s u) (hs : StoredAt a true w u t) : WordRun a x true c wx (some w) s t := by
  refine ⟨pltOnly_trans h.only hs.only, h.plt_stored hs, h.ptr.dataY.of_ptr hs.ptr, fun k => ?_, fun k => ?_⟩
  · rw [hs.word, if_neg (by simp), h.wordX]
  · have hk := hs.word true k
    rw [h.wordY, Option.getD_none, ite_self] at hk
    rw [hk, ← h.ptr.dataAddr_y]
    simp [fldOf]

theorem WordRun.accVal (h : WordRun a x y c wx wy s u) (i : Nat) : accVal a i u = accVal a i s := by
  unfold Machine.accVal
  rw [h.plt]
  rfl

end

/-! ### A sort that is issued (R21, R90) -/

/-- The sequencer goes on to the next sort after one that repeats none. -/
theorem unitEnd_issued {op : Nat} (h : Issued op a s) (hop : op ≠ 0x14 ∧ op ≠ 0x15) :
    unitEnd ((s.plt a.plt).act.sort a.idx.toNat) a.idx.toNat = a.idx.toNat + 1 := by
  obtain ⟨hnext, -, herrs, -⟩ := h
  have hword : decodeSort a.plt a.idx a.errs ((s.plt a.plt).act.sort a.idx.toNat) = (op, a) := by
    unfold isNext at hnext
    rw [herrs] at hnext ⊢
    simp only [Bool.and_eq_true, Bool.or_eq_true, beq_iff_eq] at hnext
    obtain ⟨-, hbad | hdec⟩ := hnext
    · exact absurd hbad (by simp [pltReadable, eccOf])
    · exact hdec
  have hop' : (decodeSort 0 0 [] ((s.plt a.plt).act.sort a.idx.toNat)).1 = op := congrArg Prod.fst hword
  have hnone : repOf ((s.plt a.plt).act.sort a.idx.toNat) a.idx.toNat = none := by
    unfold repOf
    dsimp only
    rw [hop']
    exact if_neg fun h => h.1.elim hop.1 hop.2
  unfold unitEnd
  rw [hnone]

/-- A command whose sort is issued has the effect of its body, and the sequencer goes on. -/
theorem goes_issued {op : Nat} {i : Instr} {P : State → Prop} (hi : Issued op a s) (hop : op ≠ 0x14 ∧ op ≠ 0x15)
    (hexec : exec i s = .next (issue op a s)) (hP : P (seqTo a.plt (a.idx.toNat + 1) (sortBody op a s))) : Goes i s P := by
  refine ⟨_, hexec, ?_⟩
  rw [issue_issued hi, unitEnd_issued hi hop]
  exact hP

theorem seqTo_plt (n : Fin 5) (k : Nat) (s : State) : (seqTo n k s).plt n = { s.plt n with pos := k } := plt_modPlt_self _ _

theorem AccRun.accOnly (h : AccRun a js x y c s u) : AccOnly s (seqTo a.plt (a.idx.toNat + 1) u) a js := by
  refine ⟨pltOnly_trans h.only (pltOnly_modPlt _), ?_, fun j hj => ?_⟩
  · rw [seqTo_plt, h.plt]
  · rw [seqTo_plt]
    exact h.acc j hj

theorem AccRun.ptrsBy (h : AccRun a js x y c s u) : PtrsBy s (seqTo a.plt (a.idx.toNat + 1) u) a x y c := fun j => by
  rw [seqTo_plt]
  exact h.ptr j

/-- What an accumulator sort that writes `v` to A[`i`] gives, once its operands have been read. -/
theorem ReadRun.wrote {clr : Bool} {i : Nat} {v : Int} (h : ReadRun a x y c s u)
    (ht : t = seqTo a.plt (a.idx.toNat + 1) (accWrite clr a i v u)) :
    (t.plt a.plt).accOf i = accAfter clr ((s.plt a.plt).accOf i) v ∧ AccOnly s t a [i] := by
  subst ht
  refine ⟨?_, (h.accRun.write clr i v).accOnly⟩
  rw [seqTo_plt]
  exact (accOf_accWrite i).trans (by rw [if_pos rfl, h.accs])

section
variable {w : W24} {wx wy : Option W24}

theorem WordRun.wordOnly (h : WordRun a x y c wx wy s u) :
    WordOnly s (seqTo a.plt (a.idx.toNat + 1) u) a (wx.isSome && fldMode a.xf != 3) (wy.isSome && fldMode a.yf != 3) := by
  refine ⟨pltOnly_trans h.only (pltOnly_modPlt _), ?_, fun k hk => ?_, fun k hk => ?_⟩
  · rw [seqTo_plt, h.plt]
  · rw [seqTo_plt]
    refine (h.wordX k).trans ?_
    cases wx with
    | none => exact ite_self _
    | some w => exact if_neg (by simpa using hk)
  · rw [seqTo_plt]
    refine (h.wordY k).trans ?_
    cases wy with
    | none => exact ite_self _
    | some w => exact if_neg (by simpa using hk)

theorem WordRun.storedX (h : WordRun a x y c (some w) wy s u) (hm : fldMode a.xf ≠ 3) :
    ((seqTo a.plt (a.idx.toNat + 1) u).plt a.plt).word false (dataAddr (s.plt a.plt) false a.xf) = w := by
  rw [seqTo_plt]
  exact (h.wordX _).trans (if_pos ⟨hm, rfl⟩)

theorem WordRun.storedY (h : WordRun a x y c wx (some w) s u) (hm : fldMode a.yf ≠ 3) :
    ((seqTo a.plt (a.idx.toNat + 1) u).plt a.plt).word true (dataAddr (s.plt a.plt) true a.yf) = w := by
  rw [seqTo_plt]
  exact (h.wordY _).trans (if_pos ⟨hm, rfl⟩)

theorem WordRun.ptrsBy (h : WordRun a x y c wx wy s u) : PtrsBy s (seqTo a.plt (a.idx.toNat + 1) u) a x y c := fun j => by
  rw [seqTo_plt]
  exact h.ptr j

end

end Sys2Proof.Machine
end

section
/-! Sorts that write an accumulator (O16, O21, O22). -/

namespace Sys2Proof.Machine
open Sys2Proof.Claims

variable {s : State} {a : Srt}

section
variable {op i : Nat} {ins : Instr} {clr x y c : Bool} {v : Int} {u : State}

/-- An issued sort whose body writes `v` to A[`i`] after reading its operands. -/
theorem goes_accWrite (hi : Issued op a s) (hop : op ≠ 0x14 ∧ op ≠ 0x15) (hexec : exec ins s = .next (issue op a s))
    (hbody : sortBody op a s = accWrite clr a i v u) (hr : ReadRun a x y c s u) :
    Goes ins s (fun t => (t.plt a.plt).accOf i = accAfter clr ((s.plt a.plt).accOf i) v ∧ AccOnly s t a [i]) :=
  goes_issued hi hop hexec (by rw [hbody]; exact hr.wrote rfl)

theorem issued_noErr (h : Issued op a s) : a.errs = [] := by
  obtain ⟨-, -, herrs, -⟩ := h
  exact herrs

/-- The source that LDA, ADD, MIN and MAX have read when they are issued; MOD[1:0] 11 is not used (R85). -/
theorem issued_readSrc (h : Issued op a s) (hop : op = 2 ∨ op = 3 ∨ op = 7 ∨ op = 8) :
    ReadRun a (a.md.toNat % 4 == 0) (a.md.toNat % 4 == 1) (a.md.toNat % 4 == 2) s (readSrc a s).2 := by
  obtain ⟨-, hused, herrs, -⟩ := h
  refine readSrc_run herrs ?_
  rcases hop with rfl | rfl | rfl | rfl
  all_goals
    simp only [sortNotUsed, Bool.or_eq_false_iff, beq_eq_false_iff_ne] at hused
    exact hused.1

end

theorem natAbs_eq_ite (v : Int) : (v.natAbs : Int) = if v < 0 then -v else v := by split_ifs <;> omega

theorem natCast_unsgn (n : Nat) (v : Int) : (unsgn n v : Int) = v % 2 ^ n := Int.toNat_of_nonneg (Int.emod_nonneg _ (by positivity))

/-- The states after the X operand and after the Y operand. -/
theorem readX_run (he : a.errs = []) : ReadRun a true false false s (readXY false a s).2 := ReadRun.refl.readX he
theorem readXY_run (he : a.errs = []) : ReadRun a true true false s (readXY true a (readXY false a s).2).2 := (readX_run he).readY he

theorem bodySel_eq (he : a.errs = []) : bodySel a s =
    accWrite true a a.ad.toNat ((if condHolds a s then (readXY false a s).1 else (readXY true a s).1) * 2 ^ 23)
      (readXY true a (readXY false a s).2).2 := by
  rw [← (readX_run he).valY he]
  rfl

theorem bodyDld_eq (he : a.errs = []) : bodyDld a s =
    accWrite (!a.md.getLsbD 0) a a.ad.toNat ((if a.md.getLsbD 0 then accVal a a.ad.toNat s else 0) +
      negIf (a.md.getLsbD 2) ((readXY false a s).1 * 2 ^ 24 + (readXY true a s).1 % 2 ^ 24)) (readXY true a (readXY false a s).2).2 := by
  rw [← (readX_run he).valY he, ← natCast_unsgn]
  unfold bodyDld
  cases a.md.getLsbD 0
  · exact congrArg (fun q => accWrite true a _ q _) (Int.zero_add _).symm
  · rfl

/-- Settles O22: each body reads its operands and ends in one accumulator write. -/
theorem sortsAccumulate : Obligations.SortsAccumulate := by
  refine ⟨fun s a h => ?lda, fun s a h => ?add, fun s a h => ?acc, fun s a h => ?shf, fun s a h => ?neg, fun s a h => ?abs,
    fun s a h => ?rnd, fun s a h => ?clr, fun s a h => ?min, fun s a h => ?max, fun s a h => ?sel, fun s a h => ?dld, fun s a h => ?bscl,
    fun s a h => ?get⟩
  case lda => exact goes_accWrite h (by decide) rfl rfl (issued_readSrc h (by decide))
  case add => exact goes_accWrite h (by decide) rfl rfl (issued_readSrc h (by decide))
  case acc => exact goes_accWrite h (by decide) rfl rfl .refl
  case shf => exact goes_accWrite h (by decide) rfl rfl .refl
  case neg => exact goes_accWrite (a := { a with md := 0#4 }) h (by decide) rfl rfl .refl
  case abs => exact goes_accWrite (a := { a with md := 1#4 }) h (by decide) rfl (by rw [natAbs_eq_ite]; rfl) .refl
  case rnd => exact goes_accWrite (a := { a with md := 2#4 }) h (by decide) rfl rfl .refl
  case clr => exact goes_accWrite (a := { a with md := 3#4 }) h (by decide) rfl rfl .refl
  case min => exact goes_accWrite h (by decide) rfl rfl (issued_readSrc h (by decide))
  case max => exact goes_accWrite h (by decide) rfl rfl (issued_readSrc h (by decide))
  case sel => exact goes_accWrite h (by decide) rfl (bodySel_eq (issued_noErr h)) (readXY_run (issued_noErr h))
  case dld => exact goes_accWrite h (by decide) rfl (bodyDld_eq (issued_noErr h)) (readXY_run (issued_noErr h))
  case bscl => exact goes_accWrite h (by decide) rfl rfl .refl
  case get => exact goes_accWrite (a := { a with md := 2#4 }) h (by decide) rfl rfl .refl

/-! ### The immediate operand (R80) -/

theorem imm_toNat (v : BitVec 14) : (3#2 ++ v).toNat = 3 * 2 ^ 14 + v.toNat := by
  rw [BitVec.toNat_append, ← Nat.shiftLeft_add_eq_or_of_lt v.isLt, Nat.shiftLeft_eq]
  rfl

theorem imm_mode (v : BitVec 14) : fldMode (3#2 ++ v) = 3 := by
  have hv := v.isLt
  unfold fldMode
  rw [imm_toNat]
  omega

theorem imm_sgn (v : BitVec 14) : sgn 14 (3#2 ++ v).toNat = v.toInt := by
  have hlow : (3 * 2 ^ 14 + v.toNat) % 2 ^ 14 = v.toNat := by omega
  unfold sgn
  rw [imm_toNat, hlow, BitVec.toInt_eq_toNat_cond]
  push_cast
  split_ifs <;> omega

/-- Settles O16: an operand in the immediate form is read without memory, and no value of its 14 bits comes near the range of A. -/
theorem immediateRule : Obligations.ImmediateRule := by
  intro s a v h hmd hxf
  have hread : readSrc a s = (v.toInt * 2 ^ 10, s) := by
    unfold readSrc
    rw [hmd]
    change readXY false a s = _
    have hmode : fldMode a.xf = 3 := by rw [hxf, imm_mode]
    unfold readXY
    dsimp only
    rw [if_neg Bool.false_ne_true, if_pos hmode, hxf, imm_sgn]
  have hlo := v.le_toInt
  have hhi := v.toInt_lt
  norm_num at hlo hhi
  obtain ⟨t, ht, hacc, honly⟩ := goes_accWrite (ins := .sortLda a) h (by decide) rfl rfl (issued_readSrc h (by decide))
  refine ⟨t, ht, ?_, by omega, by omega, honly⟩
  rw [hacc, hread, accAfter_within (by simp) (by omega) (by omega)]
  rfl


/-! ### MAC, LIM and LUT (R85, R88) -/

/-- What MAC adds to: the accumulator, or 0 with CLR. -/
def macBase (a : Srt) (i : Nat) (s : State) : Int := if a.md.getLsbD 3 then 0 else accVal a i s

theorem readXC_run (he : a.errs = []) : ReadRun a true false true s (readC a (readXY false a s).2).2 := (readX_run he).readC he
theorem readYC_run (he : a.errs = []) : ReadRun a false true true s (readC a (readXY true a s).2).2 := (ReadRun.refl.readY he).readC he
theorem readXYC_run (he : a.errs = []) : ReadRun a true true true s (readC a (readXY true a (readXY false a s).2).2).2 :=
  (readXY_run he).readC he

theorem bodyMac_xc (he : a.errs = []) (hm : a.md.toNat % 4 = 0) : bodyMac a s =
    accWrite (a.md.getLsbD 3) a a.ad.toNat (macBase a a.ad.toNat s + negIf (a.md.getLsbD 2) ((readXY false a s).1 * (readC a s).1))
      (readC a (readXY false a s).2).2 := by
  unfold bodyMac
  rw [hm, ← (readX_run he).valC he]
  rfl

theorem bodyMac_yc (he : a.errs = []) (hm : a.md.toNat % 4 = 1) : bodyMac a s =
    accWrite (a.md.getLsbD 3) a a.ad.toNat (macBase a a.ad.toNat s + negIf (a.md.getLsbD 2) ((readXY true a s).1 * (readC a s).1))
      (readC a (readXY true a s).2).2 := by
  unfold bodyMac
  rw [hm, ← (ReadRun.refl.readY he).valC he]
  rfl

theorem bodyMac_xy (he : a.errs = []) (hm : a.md.toNat % 4 = 2) : bodyMac a s =
    accWrite (a.md.getLsbD 3) a a.ad.toNat (macBase a a.ad.toNat s + negIf (a.md.getLsbD 2) ((readXY false a s).1 * (readXY true a s).1))
      (readXY true a (readXY false a s).2).2 := by
  unfold bodyMac
  rw [hm, ← (readX_run he).valY he]
  rfl

theorem bodyMac_dual (he : a.errs = []) (hm : a.md.toNat % 4 = 3) : bodyMac a s =
    accWrite (a.md.getLsbD 3) a (a.ad.toNat ^^^ 1)
      (macBase a (a.ad.toNat ^^^ 1) s + negIf (a.md.getLsbD 2) ((readXY true a s).1 * (readC a s).1))
      (accWrite (a.md.getLsbD 3) a a.ad.toNat (macBase a a.ad.toNat s + negIf (a.md.getLsbD 2) ((readXY false a s).1 * (readC a s).1))
        (readC a (readXY true a (readXY false a s).2).2).2) := by
  unfold bodyMac
  rw [hm, ← (readX_run he).valY he, ← (readXY_run he).valC he]
  rfl

theorem dual_mode (m : BitVec 4) :
    (m ||| 3#4).toNat % 4 = 3 ∧ (m ||| 3#4).getLsbD 2 = m.getLsbD 2 ∧ (m ||| 3#4).getLsbD 3 = m.getLsbD 3 := by
  revert m
  decide

theorem partner_ne (k : Nat) : k ^^^ 1 ≠ k := by
  intro h
  have hbit := congrArg (Nat.testBit · 0) h
  simp at hbit
  omega

/-- Both lanes of the dual MAC are written. -/
theorem ReadRun.wroteBoth {x y c clr : Bool} {i j : Nat} {v w : Int} {t u : State} (h : ReadRun a x y c s u) (hij : j ≠ i)
    (ht : t = seqTo a.plt (a.idx.toNat + 1) (accWrite clr a j w (accWrite clr a i v u))) :
    (t.plt a.plt).accOf i = accAfter clr ((s.plt a.plt).accOf i) v ∧ (t.plt a.plt).accOf j = accAfter clr ((s.plt a.plt).accOf j) w ∧
      AccOnly s t a [i, j] := by
  subst ht
  refine ⟨?_, ?_, (((h.accRun.write clr i v).write clr j w).mono (by simp)).accOnly⟩
  · rw [seqTo_plt]
    refine (accOf_accWrite i).trans ?_
    rw [if_neg hij.symm, accOf_accWrite, if_pos rfl, h.accs]
  · rw [seqTo_plt]
    refine (accOf_accWrite j).trans ?_
    rw [if_pos rfl, accOf_accWrite, if_neg hij, h.accs]

/-- An operand of X or Y lies within a data word. -/
theorem readXY_mem (he : a.errs = []) (y : Bool) : -(2 ^ 23) ≤ (readXY y a s).1 ∧ (readXY y a s).1 < 2 ^ 23 := by
  rw [readXY_eq he]
  dsimp only
  unfold operand
  split_ifs
  · generalize (fldOf y a).toNat = n
    unfold sgn
    split_ifs <;> omega
  · generalize (s.plt a.plt).word y (dataAddr (s.plt a.plt) y (fldOf y a)) = w
    have hlo := w.le_toInt
    have hhi := w.toInt_lt
    norm_num at hlo hhi
    omega

/-- What LIM makes of its accumulator. -/
def limited (a : Srt) (s : State) : Int :=
  max ((readXY false a s).1 * 2 ^ 23) (min (accVal a a.ad.toNat s) ((readXY true a s).1 * 2 ^ 23))

theorem limited_mem (he : a.errs = []) : -(2 ^ 55) ≤ limited a s ∧ limited a s < 2 ^ 55 := by
  obtain ⟨hxlo, hxhi⟩ := readXY_mem (s := s) he false
  obtain ⟨hylo, hyhi⟩ := readXY_mem (s := s) he true
  have hvlo := ((s.plt a.plt).accOf a.ad.toNat).v.le_toInt
  have hvhi := ((s.plt a.plt).accOf a.ad.toNat).v.toInt_lt
  norm_num at hvlo hvhi
  unfold limited accVal
  omega


/-- LIM on an accumulator that is frozen, and on one that is not. -/
theorem bodyLim_frozen (he : a.errs = []) (hf : ((s.plt a.plt).accOf a.ad.toNat).frz = true) :
    bodyLim a s = accWrite false a a.ad.toNat (limited a s) (readXY true a (readXY false a s).2).2 := by
  unfold bodyLim limited
  rw [← (readX_run he).valY he]
  exact if_pos hf

/-- The flag C of LIM tells whether the value changed. -/
def limFlag (a : Srt) (s u : State) : State :=
  modPlt u a.plt (fun p => p.setAcc a.ad.toNat { p.accOf a.ad.toNat with c := decide (limited a s ≠ accVal a a.ad.toNat s) })

theorem bodyLim_free (he : a.errs = []) (hf : ¬ ((s.plt a.plt).accOf a.ad.toNat).frz = true) :
    bodyLim a s = limFlag a s (accWrite false a a.ad.toNat (limited a s) (readXY true a (readXY false a s).2).2) := by
  unfold bodyLim limFlag limited
  rw [← (readX_run he).valY he]
  exact if_neg hf

theorem limFlag_run {x y c : Bool} {u : State} (h : AccRun a [a.ad.toNat] x y c s u) : AccRun a [a.ad.toNat] x y c s (limFlag a s u) := by
  unfold limFlag
  refine (h.next (i := a.ad.toNat) (pltOnly_modPlt _) ?_ fun j hj => ?_).mono (by simp)
  · rw [plt_modPlt_self]
    rfl
  · rw [plt_modPlt_self, accOf_setAcc, if_neg hj]

theorem bodyLim_run (he : a.errs = []) : AccRun a [a.ad.toNat] true true false s (bodyLim a s) := by
  have hwrote := (readXY_run (s := s) he).accRun.write false a.ad.toNat (limited a s)
  by_cases hf : ((s.plt a.plt).accOf a.ad.toNat).frz = true
  · rw [bodyLim_frozen he hf]
    exact hwrote
  · rw [bodyLim_free he hf]
    exact limFlag_run hwrote

theorem accOf_bodyLim (he : a.errs = []) : ((bodyLim a s).plt a.plt).accOf a.ad.toNat =
    if ((s.plt a.plt).accOf a.ad.toNat).frz then (s.plt a.plt).accOf a.ad.toNat
    else ⟨BitVec.ofInt 56 (limited a s), decide (limited a s ≠ accVal a a.ad.toNat s), false⟩ := by
  have hwrote : ((accWrite false a a.ad.toNat (limited a s) (readXY true a (readXY false a s).2).2).plt a.plt).accOf a.ad.toNat =
      accAfter false ((s.plt a.plt).accOf a.ad.toNat) (limited a s) := by
    rw [accOf_accWrite, if_pos rfl, (readXY_run he).accs]
  by_cases hf : ((s.plt a.plt).accOf a.ad.toNat).frz = true
  · rw [bodyLim_frozen he hf, hwrote, if_pos hf, accAfter_frozen ⟨hf, rfl⟩]
  · obtain ⟨hlo, hhi⟩ := limited_mem (s := s) he
    rw [bodyLim_free he hf, if_neg hf, limFlag, plt_modPlt_self, accOf_setAcc, if_pos rfl, hwrote,
      accAfter_within (fun h => hf h.1) (by omega) (by omega)]

/-- The value that LUT interpolates, from the index and the fraction that X gives (R88). -/
def lutVal (a : Srt) (s : State) : Int :=
  let n := a.md.toNat + 4
  let u := (readXY false a s).1 % 2 ^ 24
  let i := (u / 2 ^ (24 - n)).toNat
  let f := u / 2 ^ (16 - n) % 256
  let b := coefAddr (s.plt a.plt) a.cf
  let t0 := ((s.plt a.plt).cword (b + i)).toInt
  let t1 := ((s.plt a.plt).cword (b + i + 1)).toInt
  (t0 * 256 + (t1 - t0) * f) * 2 ^ 15

theorem bodyLut_eq (he : a.errs = []) : bodyLut a s =
    accWrite true a a.ad.toNat (lutVal a s) (modPlt (readXY false a s).2 a.plt (fun p => coefStep p a.cf)) := by
  have hidx (k : Nat) : ((readXY false a s).1 % 2 ^ 24 / 2 ^ k).toNat = unsgn 24 (readXY false a s).1 / 2 ^ k := by
    rw [← natCast_unsgn]
    norm_cast
  have hfrac (k : Nat) : (readXY false a s).1 % 2 ^ 24 / 2 ^ k % 256 = ((unsgn 24 (readXY false a s).1 / 2 ^ k % 256 : Nat) : Int) := by
    rw [← natCast_unsgn]
    norm_cast
  unfold bodyLut lutVal
  dsimp only
  rw [readCAt_eq he, readCAt_eq he, (readX_run he).cword, (readX_run he).ptr.coefAddr, hidx, hfrac]
  dsimp only
  congr 1
  ring

/-- Settles O21: MAC and LUT read their operands and end in accumulator writes, LIM in one that cannot saturate and the flag C. -/
theorem sortsMultiply : Obligations.SortsMultiply := by
  refine ⟨fun s a h hm => ?xc, fun s a h hm => ?yc, fun s a h hm => ?xy, fun s a h => ?dual, fun s a h => ?lim, fun s a h => ?lut⟩
  case xc => exact goes_accWrite h (by decide) rfl (bodyMac_xc (issued_noErr h) hm) (readXC_run (issued_noErr h))
  case yc => exact goes_accWrite h (by decide) rfl (bodyMac_yc (issued_noErr h) hm) (readYC_run (issued_noErr h))
  case xy => exact goes_accWrite h (by decide) rfl (bodyMac_xy (issued_noErr h) hm) (readXY_run (issued_noErr h))
  case dual =>
    obtain ⟨hmode, hneg, hclr⟩ := dual_mode a.md
    refine goes_issued h (by decide) rfl ?_
    rw [← hneg, ← hclr]
    rw [show sortBody 1 { a with md := a.md ||| 3#4 } s = _ from bodyMac_dual (issued_noErr h) hmode]
    exact (readXYC_run (issued_noErr h)).wroteBoth (partner_ne _) rfl
  case lim =>
    refine goes_issued h (by decide) rfl ⟨?_, (bodyLim_run (issued_noErr h)).accOnly⟩
    rw [seqTo_plt]
    exact accOf_bodyLim (issued_noErr h)
  case lut => exact goes_accWrite h (by decide) rfl (bodyLut_eq (issued_noErr h)) (readX_run (issued_noErr h)).stepC

end Sys2Proof.Machine
end

section
/-! Sorts that store words and that set pointers (O23). -/

namespace Sys2Proof.Machine
open Sys2Proof.Claims

variable {s u : State} {a : Srt} {op : Nat} {ins : Instr} {x y c : Bool} {w v : W24}

/-! ### Stores and moves (R82, R85, R87) -/

/-- An issued sort that stores at XF, at YF, or at both. -/
theorem goes_storeX (hi : Issued op a s) (hop : op ≠ 0x14 ∧ op ≠ 0x15) (hexec : exec ins s = .next (issue op a s))
    (hr : WordRun a x y c (some w) none s (sortBody op a s)) :
    Goes ins s (fun t => (fldMode a.xf ≠ 3 → (t.plt a.plt).word false (dataAddr (s.plt a.plt) false a.xf) = w) ∧
      WordOnly s t a (fldMode a.xf != 3) false) :=
  goes_issued hi hop hexec ⟨hr.storedX, hr.wordOnly⟩

theorem goes_storeY (hi : Issued op a s) (hop : op ≠ 0x14 ∧ op ≠ 0x15) (hexec : exec ins s = .next (issue op a s))
    (hr : WordRun a x y c none (some w) s (sortBody op a s)) :
    Goes ins s (fun t => (fldMode a.yf ≠ 3 → (t.plt a.plt).word true (dataAddr (s.plt a.plt) true a.yf) = w) ∧
      WordOnly s t a false (fldMode a.yf != 3)) :=
  goes_issued hi hop hexec ⟨hr.storedY, hr.wordOnly⟩

theorem goes_storeXY (hi : Issued op a s) (hop : op ≠ 0x14 ∧ op ≠ 0x15) (hexec : exec ins s = .next (issue op a s))
    (hr : WordRun a x y c (some w) (some v) s (sortBody op a s)) :
    Goes ins s (fun t => (fldMode a.xf ≠ 3 → (t.plt a.plt).word false (dataAddr (s.plt a.plt) false a.xf) = w) ∧
      (fldMode a.yf ≠ 3 → (t.plt a.plt).word true (dataAddr (s.plt a.plt) true a.yf) = v) ∧
      WordOnly s t a (fldMode a.xf != 3) (fldMode a.yf != 3)) :=
  goes_issued hi hop hexec ⟨hr.storedX, hr.storedY, hr.wordOnly⟩

theorem bodyStx_run : WordRun a true false false (some (storedWord (accVal a a.ad.toNat s) a.md)) none s (bodyStx a s) :=
  ReadRun.refl.wordRun.storeX (storeFed_storedAt false a a.ad.toNat s)

theorem bodySty_run : WordRun a false true false none (some (storedWord (accVal a a.ad.toNat s) a.md)) s (bodySty a s) :=
  ReadRun.refl.wordRun.storeY (storeFed_storedAt true a a.ad.toNat s)

theorem bodyStxy_run : WordRun a true true false (some (storedWord (accVal a a.ad.toNat s) a.md))
    (some (storedWord (accVal a (a.ad.toNat ^^^ 1) s) a.md)) s (bodyStxy a s) := by
  have hx : WordRun a true false false _ none s (storeFed false a a.ad.toNat s) := bodyStx_run
  rw [← hx.accVal (a.ad.toNat ^^^ 1)]
  exact hx.storeY (storeFed_storedAt true a (a.ad.toNat ^^^ 1) _)

/-- The content of A[AD] held to 48 bits, and the state in which DST stores its halves: STSAT is set when it was outside. -/
def dstVal (a : Srt) (s : State) : Int := clampInt (-(2 ^ 47)) (2 ^ 47 - 1) (accVal a a.ad.toNat s)
def dstNoted (a : Srt) (s : State) : State := if dstVal a s = accVal a a.ad.toNat s then s else raiseFlag s F.PLT_STATUS_STSAT a.plt

theorem dstNoted_only : PltOnly s (dstNoted a s) a.plt := by
  unfold dstNoted
  split_ifs
  · exact pltOnly_refl
  · exact pltOnly_raiseFlag (.inl rfl)

theorem dstNoted_plt : (dstNoted a s).plt a.plt = s.plt a.plt := by
  unfold dstNoted
  split_ifs <;> rfl

theorem bodyDst_run : WordRun a true true false (some (BitVec.ofInt 24 (dstVal a s / 2 ^ 24))) (some (BitVec.ofInt 24 (dstVal a s))) s
    (bodyDst a s) :=
  (ReadRun.refl.wordRun.storeX ((storeXY_storedAt false a _ _).after dstNoted_only dstNoted_plt)).storeY (storeXY_storedAt true a _ _)

theorem bodyMov_xy (he : a.errs = []) (hm : a.md.toNat % 4 = 0) :
    WordRun a true true false (some (BitVec.ofInt 24 (readXY true a s).1)) none s (bodyMov a s) := by
  unfold bodyMov
  rw [hm]
  exact (ReadRun.refl.readY he).wordRun.storeX (storeXY_storedAt false a _ _)

theorem bodyMov_yx (he : a.errs = []) (hm : a.md.toNat % 4 = 1) :
    WordRun a true true false none (some (BitVec.ofInt 24 (readXY false a s).1)) s (bodyMov a s) := by
  unfold bodyMov
  rw [hm]
  exact (ReadRun.refl.readX he).wordRun.storeY (storeXY_storedAt true a _ _)

theorem bodyMov_xc (he : a.errs = []) (hm : a.md.toNat % 4 = 2) :
    WordRun a true false true (some (BitVec.ofInt 24 (readC a s).1)) none s (bodyMov a s) := by
  unfold bodyMov
  rw [hm]
  exact (ReadRun.refl.readC he).wordRun.storeX (storeXY_storedAt false a _ _)

theorem bodyMov_yc (he : a.errs = []) (hm : a.md.toNat % 4 = 3) :
    WordRun a false true true none (some (BitVec.ofInt 24 (readC a s).1)) s (bodyMov a s) := by
  unfold bodyMov
  rw [hm]
  exact (ReadRun.refl.readC he).wordRun.storeY (storeXY_storedAt true a _ _)

/-- Which fields MOV uses, as a source or a destination. -/
theorem bodyMov_run (he : a.errs = []) : ∃ wx wy,
    WordRun a (a.md.toNat % 4 != 3) (a.md.toNat % 4 != 2) (decide (2 ≤ a.md.toNat % 4)) wx wy s (bodyMov a s) := by
  have hcases : a.md.toNat % 4 = 0 ∨ a.md.toNat % 4 = 1 ∨ a.md.toNat % 4 = 2 ∨ a.md.toNat % 4 = 3 := by omega
  rcases hcases with hm | hm | hm | hm
  · rw [hm]
    exact ⟨_, _, bodyMov_xy he hm⟩
  · rw [hm]
    exact ⟨_, _, bodyMov_yx he hm⟩
  · rw [hm]
    exact ⟨_, _, bodyMov_xc he hm⟩
  · rw [hm]
    exact ⟨_, _, bodyMov_yc he hm⟩

/-- The dual MAC uses all three fields. -/
theorem bodyMac_dual_run (he : a.errs = []) (hm : a.md.toNat % 4 = 3) :
    AccRun a [a.ad.toNat ^^^ 1, a.ad.toNat] true true true s (bodyMac a s) := by
  rw [bodyMac_dual he hm]
  exact ((readXYC_run he).accRun.write _ _ _).write _ _ _

/-! ### Setting pointers (R83) -/

/-- Pointer `k` of the group from `base` on is changed by `f` when the group is enabled. -/
def setGroup (base k : Nat) (en : Bool) (f : Ptr → Ptr) (p : PltS) : PltS :=
  if en then p.setPtr (base + k) (f (p.ptrOf (base + k))) else p

/-- Pointer `k` of each of the groups XP, YP and CP. -/
def setGroups (k : Nat) (ex ey ec : Bool) (f g h : Ptr → Ptr) (p : PltS) : PltS :=
  setGroup 16 k ec h (setGroup 8 k ey g (setGroup 0 k ex f p))

theorem ptrOf_setGroup (base k : Nat) (en : Bool) (f : Ptr → Ptr) (p : PltS) (j : Nat) :
    (setGroup base k en f p).ptrOf j = if j = base + k then (if en then f (p.ptrOf j) else p.ptrOf j) else p.ptrOf j := by
  unfold setGroup
  cases en
  · simp
  · rw [if_pos rfl, if_pos rfl, ptrOf_setPtr]
    split_ifs with hj
    · rw [hj]
    · rfl

theorem setGroup_frame (base k : Nat) (en : Bool) (f : Ptr → Ptr) (p : PltS) :
    setGroup base k en f p = { p with ptr := (setGroup base k en f p).ptr } := by
  cases en <;> rfl

theorem setGroups_frame (k : Nat) (ex ey ec : Bool) (f g h : Ptr → Ptr) (p : PltS) :
    setGroups k ex ey ec f g h p = { p with ptr := (setGroups k ex ey ec f g h p).ptr } := by
  unfold setGroups
  rw [setGroup_frame, setGroup_frame 8, setGroup_frame 0]

/-- What an issued PSET or PMOD gives, whose body changes pointer `k` of each enabled group. -/
theorem goes_setGroups {k : Nat} (hk : k < 8) {ex ey ec : Bool} {f g h : Ptr → Ptr} (hi : Issued op a s)
    (hop : op ≠ 0x14 ∧ op ≠ 0x15) (hexec : exec ins s = .next (issue op a s)) (hbody : sortBody op a s = modPlt s a.plt (setGroups k ex ey ec f g h)) :
    Goes ins s (fun t => (t.plt a.plt).ptrOf k = (if ex then f ((s.plt a.plt).ptrOf k) else (s.plt a.plt).ptrOf k) ∧
      (t.plt a.plt).ptrOf (8 + k) = (if ey then g ((s.plt a.plt).ptrOf (8 + k)) else (s.plt a.plt).ptrOf (8 + k)) ∧
      (t.plt a.plt).ptrOf (16 + k) = (if ec then h ((s.plt a.plt).ptrOf (16 + k)) else (s.plt a.plt).ptrOf (16 + k)) ∧
      (∀ j : Fin 24, j.val % 8 ≠ k → (t.plt a.plt).ptrOf j = (s.plt a.plt).ptrOf j) ∧
      t = { s with plts := t.plts } ∧
      (∀ m : Fin 5, m ≠ a.plt → t.plt m = s.plt m) ∧
      t.plt a.plt = { s.plt a.plt with ptr := (t.plt a.plt).ptr, pos := a.idx.toNat + 1 }) := by
  have hptr (j : Nat) : (setGroups k ex ey ec f g h (s.plt a.plt)).ptrOf j =
      if j = 16 + k then (if ec then h ((s.plt a.plt).ptrOf j) else (s.plt a.plt).ptrOf j)
      else if j = 8 + k then (if ey then g ((s.plt a.plt).ptrOf j) else (s.plt a.plt).ptrOf j)
      else if j = k then (if ex then f ((s.plt a.plt).ptrOf j) else (s.plt a.plt).ptrOf j)
      else (s.plt a.plt).ptrOf j := by
    unfold setGroups
    simp only [ptrOf_setGroup, Nat.zero_add]
    grind
  have hplt : (seqTo a.plt (a.idx.toNat + 1) (modPlt s a.plt (setGroups k ex ey ec f g h))).plt a.plt =
      { setGroups k ex ey ec f g h (s.plt a.plt) with pos := a.idx.toNat + 1 } := by rw [seqTo_plt, plt_modPlt_self]
  refine goes_issued hi hop hexec ?_
  rw [hbody]
  refine ⟨?_, ?_, ?_, fun j hj => ?_, rfl, fun m hm => ?_, ?_⟩
  · rw [hplt]
    exact (hptr k).trans (by rw [if_neg (by omega), if_neg (by omega), if_pos rfl])
  · rw [hplt]
    exact (hptr _).trans (by rw [if_neg (by omega), if_pos rfl])
  · rw [hplt]
    exact (hptr _).trans (by rw [if_pos rfl])
  · rw [hplt]
    exact (hptr j).trans (by rw [if_neg (by omega), if_neg (by omega), if_neg (by omega)])
  · obtain ⟨-, hothers, -⟩ := pltOnly_trans (pltOnly_modPlt (n := a.plt) (s := s) _) (pltOnly_modPlt _)
    exact hothers m hm
  · rw [hplt, setGroups_frame]

theorem stride_mode (m : BitVec 4) : (m &&& 7#4).toNat % 8 = m.toNat % 8 ∧ (m &&& 7#4).getLsbD 3 = false := by
  revert m
  decide

theorem modulo_mode (m : BitVec 4) : (m ||| 8#4).toNat % 8 = m.toNat % 8 ∧ (m ||| 8#4).getLsbD 3 = true := by
  revert m
  decide

/-- What PSET, and PMOD with MOD[3] 0 and 1, make of an enabled pointer. -/
def ptrPlaced (v : Nat) (q : Ptr) : Ptr := { q with p := v, b := v }
def ptrStrided (v : Nat) (q : Ptr) : Ptr := { q with s := sgn 8 v }
def ptrBounded (v : Nat) (q : Ptr) : Ptr := { q with m := v }

theorem bodyPset_eq : bodyPset a s =
    modPlt s a.plt (setGroups (a.md.toNat % 8) (a.xf.getLsbD 15) (a.yf.getLsbD 15) (a.cf.getLsbD 13)
      (ptrPlaced (a.xf.toNat % 2 ^ 14)) (ptrPlaced (a.yf.toNat % 2 ^ 14)) (ptrPlaced (a.cf.toNat % 2 ^ 13))) := by
  unfold bodyPset setGroups setGroup
  simp only [Nat.zero_add, ptrPlaced]

theorem bodyPmod_stride (h : a.md.getLsbD 3 = false) : bodyPmod a s =
    modPlt s a.plt (setGroups (a.md.toNat % 8) (a.xf.getLsbD 15) (a.yf.getLsbD 15) (a.cf.getLsbD 13)
      (ptrStrided a.xf.toNat) (ptrStrided a.yf.toNat) (ptrStrided a.cf.toNat)) := by
  unfold bodyPmod setGroups setGroup
  simp only [h, Nat.zero_add, Bool.false_eq_true, ↓reduceIte, ptrStrided]

theorem bodyPmod_modulo (h : a.md.getLsbD 3 = true) : bodyPmod a s =
    modPlt s a.plt (setGroups (a.md.toNat % 8) (a.xf.getLsbD 15) (a.yf.getLsbD 15) (a.cf.getLsbD 13)
      (ptrBounded (a.xf.toNat % 2 ^ 14)) (ptrBounded (a.yf.toNat % 2 ^ 14)) (ptrBounded (a.cf.toNat % 2 ^ 13))) := by
  unfold bodyPmod setGroups setGroup
  simp only [h, Nat.zero_add, ↓reduceIte, ptrBounded]

/-! ### O23 -/

/-- Settles O23: each store is made where its field names a word before that field has stepped its pointer, PSET and PMOD change pointers
only, and every operand steps the pointer of its own group. -/
theorem sortsStore : Obligations.SortsStore := by
  refine ⟨fun s a h => ?stx, fun s a h => ?sty, fun s a h => ?stxy, fun s a h => ?dst, fun s a h hm => ?movXY, fun s a h hm => ?movYX,
    fun s a h hm => ?movXC, fun s a h hm => ?movYC, fun s a h => ?pset, fun s a h => ?stride, fun s a h => ?modulo, fun s a h => ?macPtrs,
    fun s a h => ?ldaPtrs, fun s a h => ?limPtrs, fun s a h => ?stxyPtrs, fun s a h => ?movPtrs⟩
  case stx => exact goes_storeX h (by decide) rfl bodyStx_run
  case sty => exact goes_storeY h (by decide) rfl bodySty_run
  case stxy => exact goes_storeXY h (by decide) rfl bodyStxy_run
  case dst => exact goes_storeXY h (by decide) rfl bodyDst_run
  case movXY => exact goes_storeX h (by decide) rfl (bodyMov_xy (issued_noErr h) hm)
  case movYX => exact goes_storeY h (by decide) rfl (bodyMov_yx (issued_noErr h) hm)
  case movXC => exact goes_storeX h (by decide) rfl (bodyMov_xc (issued_noErr h) hm)
  case movYC => exact goes_storeY h (by decide) rfl (bodyMov_yc (issued_noErr h) hm)
  case pset => exact goes_setGroups (Nat.mod_lt _ (by decide)) h (by decide) rfl bodyPset_eq
  case stride =>
    obtain ⟨hk, hmode⟩ := stride_mode a.md
    rw [← hk]
    exact goes_setGroups (Nat.mod_lt _ (by decide)) h (by decide) rfl (bodyPmod_stride hmode)
  case modulo =>
    obtain ⟨hk, hmode⟩ := modulo_mode a.md
    rw [← hk]
    exact goes_setGroups (Nat.mod_lt _ (by decide)) h (by decide) rfl (bodyPmod_modulo hmode)
  case macPtrs =>
    obtain ⟨hmode, -, -⟩ := dual_mode a.md
    exact goes_issued h (by decide) rfl (bodyMac_dual_run (issued_noErr h) hmode).ptrsBy
  case ldaPtrs => exact goes_issued h (by decide) rfl ((issued_readSrc h (by decide)).accRun.write true _ _).ptrsBy
  case limPtrs => exact goes_issued h (by decide) rfl (bodyLim_run (issued_noErr h)).ptrsBy
  case stxyPtrs => exact goes_issued h (by decide) rfl bodyStxy_run.ptrsBy
  case movPtrs =>
    obtain ⟨wx, wy, hrun⟩ := bodyMov_run (s := s) (issued_noErr h)
    exact goes_issued h (by decide) rfl hrun.ptrsBy

end Sys2Proof.Machine
end

section
/-! Refutations by an event of a block that R464 does not number (O15, O50). -/

namespace Sys2Proof.Machine
open Sys2Proof.Claims

/-! ### SEV (O15) -/

/-- PLTM in a measurement job, before a SEV without UNC on the condition that A[0] is 0, as it is. -/
def straySevIf : State :=
  { strayReset with plts := [(4, { PltS.init with jobBusy := true, act := { BankS.empty with sorts := [(0, 0x6001000000000000#64)] } })] }

/-- That SEV. -/
def sevIfZero : Srt := ⟨4, 0, 0, 0, 4, 0, 0, 0, []⟩

/-- Refutes O15: the platen event of a SEV whose condition holds finds the log full and has the stray one counted, in a word that the
statement keeps. -/
theorem not_conditionRule : ¬ Obligations.ConditionRule := by
  rintro ⟨-, hsev, -⟩
  have hissued : Issued 0x18 sevIfZero straySevIf := by decide +kernel
  obtain ⟨t, ht, -, -, hkept, -⟩ := hsev straySevIf sevIfZero hissued (by decide) (by decide)
  let u : State := drawn straySevIf
  have hbody : sortBody 0x18 sevIfZero straySevIf = raise blkPLT 0 4 (sevWord0 0 straySevIf) (sevWord1 0 straySevIf) u := rfl
  obtain rfl : seqTo 4 1 (raise blkPLT 0 4 (sevWord0 0 straySevIf) (sevWord1 0 straySevIf) u) = t :=
    Host.Outcome.next.inj ((congrArg Host.Outcome.next (issue_issued hissued)).symm.trans ht)
  have hlog : LogFull u := ⟨by decide, strayReset_full, by decide⟩
  have hcount : rd (raise blkPLT 0 4 (sevWord0 0 straySevIf) (sevWord1 0 straySevIf) u) pastDrops = 1#32 :=
    hlog.raise_counts_stray rfl rfl (by decide) (by decide) (by decide)
  exact absurd (hcount.symm.trans (hkept pastDrops (by decide))) (by decide)

/-! ### A record that is complete (O50) -/

section
variable {s : State} {x : Nat × Event} {e : Event} {st b c i d0 d1 a : Nat}

/-- What sets out triggers for ACQ writes their queue. -/
theorem trigEvent_frame (e : Event) (s : State) : ∃ q, trigEvent e s = { s with trigq := q } := by
  unfold trigEvent trigNote
  split_ifs
  · exact ⟨_, rfl⟩
  · exact ⟨s.trigq, rfl⟩

/-- With the log full outside DOZE, an event that comes in a later SYS cycle than the one that waits is dropped after it. -/
theorem rd_flush_waiting (hawake : s.sys.st ≠ .doze) (hfull : s.evt.log.length = 1024) (hs : s.evt.stage = [x])
    (hx : x.1 ≠ sysCycle s) (hb : a ≠ R.EVT_DROP.at (e.block - 1)) :
    rd (evtFlush (stageEvt e s)) a = rd (evtDrop x.2.block s) a := by
  have hstage : stageEvt e s = { s with evt := { s.evt with stage := [x, (sysCycle s, e)] } } := by
    unfold stageEvt
    rw [hs, stageIns, if_neg fun hc => hx hc.1]
    rfl
  have hflush : evtFlush (stageEvt e s) = evtDrop e.block (evtDrop x.2.block (unstaged s)) := by
    rw [hstage]
    exact if_pos ⟨hfull, hawake⟩
  rw [hflush, evtDrop_rd _ _ hb]
  rfl

/-- An event that finds the log full has the one that waits counted, whether or not ACQ hears it. -/
theorem rd_raise_full (hawake : s.sys.st ≠ .doze) (hfull : s.evt.log.length = 1024) (hs : s.evt.stage = [x])
    (hx : x.1 ≠ sysCycle s) (hp : a ≠ R.SYS_IRQ_PEND.addr) (hb : a ≠ R.EVT_DROP.at (b - 1)) :
    rd (raise b c i d0 d1 s) a = rd (evtDrop x.2.block s) a := by
  let m : State := { s with mmq := s.mmq ++ [⟨b, c % 256, i % 256, lns s⟩] }
  let ev : Event := ⟨stamp s % 2 ^ 32, b, c % 256, i % 512, d0 % 2 ^ 32, d1 % 2 ^ 32⟩
  obtain ⟨q, hq⟩ := trigEvent_frame ev m
  have hflush : rd (evtFlush (stageEvt ev (trigEvent ev m))) a = rd (evtDrop x.2.block s) a := by
    rw [hq]
    exact rd_flush_waiting (s := { m with trigq := q }) hawake hfull hs hx hb
  have hcause (t : State) : rd (if Config.eventIsCause b c then setPend (vectorOf b c i) t else t) a = rd t a := by
    split_ifs
    · exact setPend_rd _ t hp
    · rfl
  unfold raise raiseAt
  dsimp only
  rw [evtIrq_rd hp, hcause]
  exact hflush

end

/-- A frame's words go to memory. -/
theorem storeFrame_frame (k : Nat) (l : List Nat) (s : State) : storeFrame k l s = { s with mem := (storeFrame k l s).mem } := by
  induction l generalizing k s with
  | nil => rfl
  | cons w r ih =>
    unfold storeFrame
    rw [ih, setMemNat_frame]

/-- Where the event of a whole record is raised: its header stands in memory, and SEQ counts it. -/
structure RecordNoted (r : Nat) (s u : State) : Prop where
  sys : u.sys = s.sys
  evt : u.evt = s.evt
  cycle : sysCycle u = sysCycle s
  regs : ∀ a, a ≠ R.ACQ_SEQ.at r → rd u a = rd s a

theorem recordNoted_stored (r : Nat) (s : State) (k : Nat) (l : List Nat) (k' : Nat) (l' : List Nat) (v : Nat) :
    RecordNoted r s (fset (storeFrame k l (storeFrame k' l' s)) F.ACQ_SEQ_SEQ v r) := by
  rw [storeFrame_frame k, storeFrame_frame k']
  exact ⟨rfl, rfl, rfl, fun a ha => rd_fset_ne _ F.ACQ_SEQ_SEQ v r 0 0 ha⟩

theorem rd_setRec (r : Nat) (x : AcqRec) (s : State) (a : Nat) : rd (setRec r x s) a = rd s a := rfl

/-- A whole record that queues no job and does not rearm raises its event; the rest of what it writes stands in SLOT and STATUS. -/
theorem rd_recFinish_stop {r a : Nat} {s : State} (hw : jobWanted s r (s.arec r).cfg = false) (hslot : a ≠ R.ACQ_SLOT.at r)
    (hst : a ≠ R.ACQ_STATUS.at r) :
    ∃ u d0 d1, rd (recFinish r false s) a = rd (raise blkACQ 0x01 r d0 d1 u) a ∧ RecordNoted r s u := by
  unfold recFinish setRecState
  extract_lets x c k len n start ts span first seq want skip w5 slot words stored raised queue queued ready ended
  have hwant : want = false := hw
  have hskip : skip = false := by
    unfold skip
    rw [hwant, Bool.false_and]
  have hqueued : queued = raised := by
    unfold queued
    rw [hskip, hwant, if_neg Bool.false_ne_true, if_neg Bool.false_ne_true]
  refine ⟨fset stored F.ACQ_SEQ_SEQ seq r, seq, x.at_ / 256, ?_, recordNoted_stored r s _ _ _ _ _⟩
  rw [if_neg Bool.false_ne_true, rd_fset_ne _ F.ACQ_STATUS_STATE _ r 0 0 hst, rd_setRec]
  unfold ended
  rw [rd_fset_ne _ F.ACQ_SLOT_WR _ r 0 0 hslot]
  unfold ready
  rw [rd_fset_ne _ F.ACQ_SLOT_READY _ r 0 0 hslot, hqueued]

/-- The device after reset with the stray event, PD_ACQ on and the record of recorder 0 whole. -/
def strayRecord : State :=
  fset { strayReset with pwr := { strayReset.pwr with on := 0x100#14 } } F.ACQ_STATUS_STATE 3 0

theorem strayRecord_live : acqLive strayRecord = true ∧ recState strayRecord 0 = 3 := by decide

theorem execRecordComplete_whole {s : State} (h : acqLive s = true ∧ recState s 0 = 3) :
    exec (.recordComplete 0 0 []) s = .next (recFinish 0 (cfgBits (s.arec 0).cfg 0 29 1 == 1) s) := by
  have hgo : exec (.recordComplete 0 0 []) s = .next (if acqLive (advance 0 s) && recState (advance 0 s) 0 == 3 then
    recFinish 0 (cfgBits ((advance 0 s).arec 0).cfg 0 29 1 == 1) (advance 0 s) else advance 0 s) := rfl
  obtain ⟨hlive, hwhole⟩ := h
  rw [hgo, advance_zero, hlive, hwhole]
  rfl

theorem strayRecord_unwanted : jobWanted strayRecord 0 (strayRecord.arec 0).cfg = false := by decide +kernel

/-- Refutes O50: the event of a whole record finds the log full and has the stray one counted, in a word that the statement keeps. -/
theorem not_recorderRuns : ¬ Obligations.RecorderRuns := by
  rintro ⟨-, -, -, hwhole, -⟩
  obtain ⟨t, ht, -, -, -, -, -, -, hkept⟩ := hwhole strayRecord 0 0 strayRecord_live (by decide)
  obtain rfl : recFinish 0 false strayRecord = t := Host.Outcome.next.inj ((execRecordComplete_whole strayRecord_live).symm.trans ht)
  obtain ⟨u, d0, d1, hrd, hsys, hevt, hcycle, hregs⟩ :=
    rd_recFinish_stop (a := pastDrops) strayRecord_unwanted (by decide) (by decide)
  have hraise : rd (raise blkACQ 0x01 0 d0 d1 u) pastDrops = rd (evtDrop 26 u) pastDrops :=
    rd_raise_full (x := (1, ⟨0, 26, 0, 0, 0, 0⟩)) (by rw [hsys]; decide) (by rw [hevt]; exact strayReset_full) (by rw [hevt]; rfl)
      (by rw [hcycle]; decide) (by decide) (by decide)
  have hcount : rd (recFinish 0 false strayRecord) pastDrops = 1#32 := by
    rw [hrd, hraise]
    refine (rd_evtDrop 26 u).trans ?_
    change setBits (rd u pastDrops) 0 16 (min (bitsOf (rd u pastDrops) 0 16 + 1) 65535) = _
    rw [hregs pastDrops (by decide)]
    decide
  exact absurd (hcount.symm.trans (hkept pastDrops (by decide))) (by decide)

end Sys2Proof.Machine
end

section
/-! The end of settling in a takeover (O25). -/

namespace Sys2Proof.Machine
open Sys2Proof.Claims

/-- What one round of a loop makes true, and every round keeps, is true after the loop. -/
theorem forN_makes {P : State → Prop} {f : Nat → State → State} {n k : Nat} (hk : k < n) (hmakes : ∀ s, P (f k s))
    (hkeeps : ∀ i s, P s → P (f i s)) (s : State) : P (forN n f s) := by
  obtain ⟨before, after, hsplit⟩ := List.append_of_mem (List.mem_range.mpr hk)
  unfold forN
  rw [hsplit, List.foldl_append, List.foldl_cons]
  exact forL_inv hkeeps after _ (hmakes _)

theorem rd_wr_zero {s : State} {a b : Nat} (h : rd s a = 0#32) : rd (wr s b 0#32) a = 0#32 := by
  rw [rd_wr, h, ite_self]

/-- R238: where the track unit starts, the registers show every segment DARK. -/
theorem rd_trackDark {k i : Nat} (hk : k < 8) (hi : i < 6) (s : State) : rd (trackDark s) (R.SYS_TRK_SEGSTATE.at k i) = 0#32 := by
  unfold trackDark
  refine forN_makes (P := (rd · (R.SYS_TRK_SEGSTATE.at k i) = 0#32)) hk (fun t => ?row) (fun _ => forN_inv (fun _ _ => rd_wr_zero) 6) _
  case row => exact forN_makes (P := (rd · (R.SYS_TRK_SEGSTATE.at k i) = 0#32)) hi (fun _ => rd_wr_self _ _ _) (fun _ _ => rd_wr_zero) t

theorem rd_impStart (s : State) (a : Nat) : rd (impStart s) a = rd s a := rfl

/-- R121: once the time of settling has passed, SETTLE falls, and a takeover that waits for it may go on. -/
theorem exec_settleEnd_due {s : State} {t : Nat} {c : Fin 48} (hon : domainOn s 7 = true)
    (hdue : nget s.settle c + settleTime s c ≤ clk (advance t s) + 1) :
    exec (.settleEnd t c) s = .next (takeStart (fset (advance t s) F.SDM_STATUS_SETTLE 0 c)) := by
  have hcond : (domainOn s 7 && decide (nget s.settle c + settleTime s c ≤ clk (advance t s) + 1)) = true := by
    rw [hon, decide_eq_true hdue, Bool.and_self]
  exact congrArg Host.Outcome.next (if_pos hcond)

/-- 48 modulator periods of 10 clocks of 5 ns, in 1/256 ns: 3·OSR3 of them pass at the least OSR3. -/
def leastSettling : Nat := 614400

/-- A unit that takes over, with the essence restored and calibration valid (R424). Channel 0 is in use, with the least OSR3, and settles
since the instant 0; segment 0 of track 0 shows the ENERGISED of an earlier run. -/
def settlingTakeover : State :=
  let u : State := { State.reset with
    sys := { SysS.init with st := .takeover }
    pwr := { PwrS.init with on := 0x3FFF#14 }
    par := { ParS.init with restored := true }
    settle := [(0, 1)] }
  let v : State := fset (fset (fset u F.SDM_CFG_EN 1 0) F.SDM_CFG_OSR3 16 0) F.SDM_CLK_DIV 10 0
  fset (fset (fset v F.SDM_STATUS_SETTLE 1 0) F.EDG_STATUS_CAL_VALID 1) F.SYS_TRK_SEGSTATE_S0 2 0 0

/-- Refutes O25: the end of settling that a takeover waits for starts impressions and with them the track unit, which clears SEGSTATE (R238);
the statement lets that command write SDM.STATUS alone. -/
theorem not_currentInputs : ¬ Obligations.CurrentInputs := by
  rintro ⟨-, -, -, -, -, -, hsettle, -⟩
  have hon : domainOn settlingTakeover 7 = true := by decide
  have hdue : nget settlingTakeover.settle (0 : Fin 48) + settleTime settlingTakeover (0 : Fin 48) ≤
      clk (advance leastSettling settlingTakeover) + 1 := by decide
  obtain ⟨t, ht, -, -, -, hkept⟩ := hsettle settlingTakeover leastSettling 0 hon hdue
  let u : State := fset (advance leastSettling settlingTakeover) F.SDM_STATUS_SETTLE 0 0
  have hstart : takeStart u = impStart (trackDark u) := if_pos (by decide)
  obtain rfl : impStart (trackDark u) = t :=
    Host.Outcome.next.inj (((exec_settleEnd_due hon hdue).trans (congrArg Host.Outcome.next hstart)).symm.trans ht)
  have hdark : rd (impStart (trackDark u)) (R.SYS_TRK_SEGSTATE.at 0 0) = 0#32 :=
    (rd_impStart _ _).trans (rd_trackDark (by decide) (by decide) u)
  have hshown : rd settlingTakeover (R.SYS_TRK_SEGSTATE.at 0 0) = 2#32 := by decide
  exact absurd (hdark.symm.trans ((hkept _ (by decide)).trans hshown)) (by decide)

end Sys2Proof.Machine
end

section
/-! The outputs of the drive legs (O4, O8). -/

namespace Sys2Proof.Machine

variable {s s₀ t : State} {b k w : Nat} {v : Bool}

/-! ### One bit of a number -/

/-- Adding a bit that is not set carries nowhere. -/
theorem testBit_add_bit_ne (hw : w.testBit b = false) (hk : k ≠ b) : (w + 2 ^ b).testBit k = w.testBit k := by
  rcases Nat.lt_or_gt_of_ne hk with hlt | hgt
  · rw [Nat.add_comm, Nat.testBit_two_pow_add_gt hlt]
  · obtain ⟨n, rfl⟩ : ∃ n, k = n + (b + 1) := ⟨k - (b + 1), by omega⟩
    have heven : w / 2 ^ b % 2 = 0 := by
      rw [Nat.testBit_eq_decide_div_mod_eq] at hw
      have := of_decide_eq_false hw
      omega
    have hhigh : (w + 2 ^ b) / 2 ^ (b + 1) = w / 2 ^ (b + 1) := by
      rw [Nat.pow_succ, ← Nat.div_div_eq_div_mul, ← Nat.div_div_eq_div_mul, Nat.add_div_right _ (Nat.two_pow_pos b)]
      omega
    rw [Nat.testBit_add, hhigh, ← Nat.testBit_add]

theorem putBit_testBit_ne (hk : k ≠ b) : (putBit w b v).testBit k = w.testBit k := by
  unfold putBit
  split_ifs with hsame hv
  · rfl
  · exact testBit_add_bit_ne (by simpa [hv] using hsame) hk
  · have hset : w.testBit b = true := by simpa [hv] using hsame
    have hle : 2 ^ b ≤ w := Nat.ge_two_pow_of_testBit hset
    have hcut : (w - 2 ^ b).testBit b = false := by
      have h := Nat.testBit_two_pow_add_eq (w - 2 ^ b) b
      rw [Nat.add_sub_cancel' hle, hset] at h
      simpa using h.symm
    rw [← testBit_add_bit_ne hcut hk, Nat.sub_add_cancel hle]

theorem putBit_testBit : (putBit w b v).testBit k = if k = b then v else w.testBit k := by
  split_ifs with hk
  · rw [hk, putBit_testBit_self]
  · exact putBit_testBit_ne hk

/-! ### One channel -/

theorem partner_partner (o : Nat) : partner (partner o) = o := by
  unfold partner
  split_ifs <;> omega

theorem partner_ne_self (o : Nat) : partner o ≠ o := by
  unfold partner
  split_ifs <;> omega

/-- No leg of a channel that drives the outputs `d` has both of them on. -/
def legsApart (d : Nat) : Prop := ∀ o, ¬ (d.testBit o = true ∧ d.testBit (partner o) = true)

theorem legsOk_iff : s.legsOk ↔ ∀ c, legsApart (s.ch c).drv := Iff.rfl

theorem legsApart_zero : legsApart 0 := by
  intro o ⟨h, _⟩
  simp at h

theorem legsApart_off {d : Nat} (o : Nat) (h : legsApart d) : legsApart (putBit d o false) := by
  rintro k ⟨hk, hp⟩
  rw [putBit_testBit] at hk hp
  split_ifs at hk hp
  exact h k ⟨hk, hp⟩

/-- An output may turn on while its partner is off. -/
theorem legsApart_on {d o : Nat} (hoff : d.testBit (partner o) = false) (h : legsApart d) : legsApart (putBit d o true) := by
  rintro k ⟨hk, hp⟩
  rw [putBit_testBit] at hk hp
  split_ifs at hk hp with hko hpo hpo
  · exact partner_ne_self o (hko ▸ hpo)
  · rw [hko, hoff] at hp
    exact Bool.false_ne_true hp
  · rw [← hpo, partner_partner, hk] at hoff
    exact Bool.false_ne_true hoff.symm
  · exact h k ⟨hk, hp⟩

/-! ### Every update that a command is made of -/

theorem legsOk_of_edg (he : t.edg = s.edg) (h : s.legsOk) : t.legsOk := by
  intro c
  unfold State.ch
  rw [he]
  exact h c

theorem legsOk_idle (he : s.edg = []) : s.legsOk := by
  intro c
  unfold State.ch
  rw [he]
  exact legsApart_zero

theorem legsOk_setCh {c : Nat} {x : ChanS} (hx : legsApart x.drv) (h : s.legsOk) : (setCh s c x).legsOk := by
  rw [legsOk_iff]
  intro d
  rw [ch_setCh]
  split_ifs
  · exact hx
  · exact h d

theorem Leads.legsOk (h : Leads s₀ t) (h₀ : s₀.legsOk) : t.legsOk := by
  induction h with
  | start => exact h₀
  | put _ ha ih => exact legsOk_of_edg ha.edg ih
  | setMemByte _ ih => exact ih
  | forget _ ih => exact ih
  | stageImage _ ih => exact ih
  | dozeSave _ ih => exact ih
  | @setCh _ c _ _ hd ih => exact legsOk_setCh (hd ▸ ih c) ih
  | @legOff _ c _ o _ hd ih => exact legsOk_setCh (hd ▸ legsApart_off o (ih c)) ih
  | @legOn _ c _ o _ hoff hd ih => exact legsOk_setCh (hd ▸ legsApart_on hoff (ih c)) ih
  | edgOff _ _ => exact legsOk_idle rfl
  | deviceReset _ _ => exact legsOk_idle rfl

theorem unpowered_legsOk : (unpowered s).legsOk := legsOk_idle rfl

theorem Passes.legsOk (h : Passes s t) (hs : s.legsOk) : t.legsOk := by
  cases h with
  | on h => exact h.legsOk hs
  | off _ => exact unpowered_legsOk
  | boot _ _ k => exact k.legsOk unpowered_legsOk

theorem exec_legsOk {c : Instr} (h : exec c s = .next t) (hs : s.legsOk) : t.legsOk := by
  obtain ⟨u, hu, hp⟩ := answers_exec (s := s) c
  obtain rfl : u = t := Host.Outcome.next.inj (hu.symm.trans h)
  exact hp.legsOk hs

theorem timTick_edg : (timTick s).edg = s.edg := by
  unfold timTick
  split_ifs <;> rfl

/-- Settles O8: a command is made of updates that turn an output on only while its partner is off, and an idle step drives none. -/
theorem noStepTurnsOnBothOutputsOfALeg : Obligations.NoStepTurnsOnBothOutputsOfALeg := by
  intro s t hs hstep
  unfold step at hstep
  split at hstep
  next => exact Host.Outcome.next.inj hstep ▸ legsOk_of_edg timTick_edg hs
  next c r _ => exact exec_legsOk (s := { s with pending := r }) hstep hs

theorem reset_evtOk : State.reset.evtOk := ⟨Nat.zero_le _, Nat.zero_le _⟩

theorem reset_legsOk : State.reset.legsOk := legsOk_idle rfl

/-- Settles O4: after reset no byte is listed, no event waits or is logged, and no channel drives an output. -/
theorem resetMeetsTheInvariants : Obligations.ResetMeetsTheInvariants := ⟨reset_memOk, reset_evtOk, reset_legsOk⟩

end Sys2Proof.Machine
end

section
/-! The rules of the edge engine: what settling the outputs of a channel leaves, and what a reload and a compare event make of it. -/

namespace Sys2Proof.Machine
open Sys2Proof.Claims

variable {s t u : State} {c o : Nat} {x : ChanS}

theorem ch_setCh_self : (setCh s c x).ch c = x := (ch_setCh s c x c).trans (if_pos rfl)

/-- A channel but for what it drives and what it waits for. -/
def ChanS.undriven (x : ChanS) : ChanS := { x with want := 0, drv := 0, wantAt := [], onAt := [], offAt := [], hold := false }

/-- A channel but for that and for its mask. -/
def ChanS.carrier (x : ChanS) : ChanS := { x.undriven with blk := 0, midx := 0, mpend := none, mAt := 0, entry := 0 }

/-- From `s` to `t` nothing changes but channel `c`, of which the part `φ` stays as it is, and the register EDG.CST of it. -/
structure Settles (φ : ChanS → ChanS) (c : Nat) (s t : State) : Prop where
  frame : t = { s with edg := t.edg, regs := t.regs, hwCyc := t.hwCyc, hwBits := t.hwBits }
  regs : ∀ a, a ≠ R.EDG_CST.at c → rd t a = rd s a
  part : φ (t.ch c) = φ (s.ch c)

section
variable {φ : ChanS → ChanS}

theorem Settles.refl (s : State) : Settles φ c s s := ⟨rfl, fun _ _ => rfl, rfl⟩

theorem Settles.trans (h : Settles φ c s t) (k : Settles φ c t u) : Settles φ c s u where
  frame := by
    have hk := k.frame
    rw [h.frame] at hk
    exact hk
  regs a ha := (k.regs a ha).trans (h.regs a ha)
  part := k.part.trans h.part

theorem settles_setCh (hx : φ x = φ (s.ch c)) : Settles φ c s (setCh s c x) where
  frame := rfl
  regs _ _ := rfl
  part := by rw [ch_setCh_self, hx]

theorem settles_overlap : Settles φ c s (raiseFlag s F.EDG_CST_OVERLAP c) where
  frame := rfl
  regs _ ha := rd_fset_ne s F.EDG_CST_OVERLAP _ _ _ _ ha
  part := rfl

theorem settles_forN {f : Nat → State → State} (h : ∀ i u, Settles φ c u (f i u)) (n : Nat) (s : State) :
    Settles φ c s (forN n f s) :=
  forN_inv (P := Settles φ c s) (fun i u hu => hu.trans (h i u)) n s (.refl s)

theorem settles_when {p : Prop} [Decidable p] (h : Settles φ c s t) : Settles φ c s (if p then t else s) := by
  split_ifs
  · exact h
  · exact .refl s

theorem settles_unless {p : Prop} [Decidable p] (h : Settles φ c s t) : Settles φ c s (if p then s else t) := by
  split_ifs
  · exact .refl s
  · exact h

end

theorem Settles.carrier (h : Settles ChanS.undriven c s t) : Settles ChanS.carrier c s t where
  frame := h.frame
  regs := h.regs
  part := congrArg (fun x : ChanS => { x with blk := 0, midx := 0, mpend := none, mAt := 0, entry := 0 }) h.part

theorem settles_maskScan : Settles ChanS.carrier c s (maskScan c s) := by
  have hindex : Settles ChanS.carrier c s (if maskIndex s c = (s.ch c).mpend.getD (s.ch c).midx then s
      else if fget s F.EDG_MDLY_DLY c = 0 then setCh s c { s.ch c with midx := maskIndex s c, mpend := none }
      else setCh s c { s.ch c with mpend := some (maskIndex s c), mAt := clk s }) := by
    split_ifs
    · exact .refl s
    · exact settles_setCh rfl
    · exact settles_setCh rfl
  exact hindex.trans (settles_unless (settles_setCh rfl))

theorem settles_holdScan : Settles ChanS.undriven c s (holdScan c s) := settles_when (settles_setCh rfl)

theorem settles_turnOffs : Settles ChanS.undriven c s (turnOffs c s) := by
  refine settles_forN (fun o u => settles_setCh ?_) 6 s
  split_ifs <;> rfl

theorem settles_interlock : Settles ChanS.undriven c s (interlock c o s) := by
  unfold interlock
  dsimp only
  split_ifs
  · exact .refl s
  · exact Settles.trans (settles_setCh (by rfl)) settles_overlap
  · exact settles_overlap
  · exact .refl s
  · exact settles_overlap
  · exact settles_setCh rfl
  · exact .refl s

/-- Once the mask is in effect, settling the outputs of a channel changes its outputs and its register EDG.CST alone. -/
theorem settles_masked : Settles ChanS.undriven c (maskScan c s) (edgSettle c s) :=
  (settles_holdScan.trans settles_turnOffs).trans (settles_forN (fun _ _ => settles_interlock) 6 _)

theorem settles_edgSettle : Settles ChanS.carrier c s (edgSettle c s) := settles_maskScan.trans settles_masked.carrier

/-! ### What stays outside the edge engine -/

/-- From `s` to `t` the platens, memory and the registers outside the block of EDG are as they were. -/
structure EdgeOnly (s t : State) : Prop where
  plts : t.plts = s.plts
  mem : t.mem = s.mem
  regs : ∀ a, within 0x40000 0x50000 a = false → rd t a = rd s a

theorem EdgeOnly.refl (s : State) : EdgeOnly s s := ⟨rfl, rfl, fun _ _ => rfl⟩

theorem EdgeOnly.trans (h : EdgeOnly s t) (k : EdgeOnly t u) : EdgeOnly s u :=
  ⟨k.plts.trans h.plts, k.mem.trans h.mem, fun a ha => (k.regs a ha).trans (h.regs a ha)⟩

theorem edgeOnly_setCh : EdgeOnly s (setCh s c x) := ⟨rfl, rfl, fun _ _ => rfl⟩

theorem edgeOnly_ite {p : Prop} [Decidable p] (h : EdgeOnly s t) (k : EdgeOnly s u) : EdgeOnly s (if p then t else u) := by
  split_ifs
  · exact h
  · exact k

theorem edgeOnly_when {p : Prop} [Decidable p] (h : EdgeOnly s t) : EdgeOnly s (if p then t else s) := by
  split_ifs
  · exact h
  · exact .refl s

theorem edgeOnly_unless {p : Prop} [Decidable p] (h : EdgeOnly s t) : EdgeOnly s (if p then s else t) := by
  split_ifs
  · exact .refl s
  · exact h

section
variable {f : Fld} {v n : Nat}

theorem edgeOnly_fset (hf : within 0x40000 0x50000 (f.reg.at c) = true) : EdgeOnly s (fset s f v c) where
  plts := rfl
  mem := rfl
  regs _ ha := rd_fset_ne s f _ _ _ _ fun h => Bool.false_ne_true (ha.symm.trans (h ▸ hf))

theorem edgeOnly_raiseFlag (hf : within 0x40000 0x50000 (f.reg.at c) = true) : EdgeOnly s (raiseFlag s f c) where
  plts := rfl
  mem := rfl
  regs := (edgeOnly_fset (s := s) (v := 1) hf).regs

theorem edgeOnly_bump (hf : within 0x40000 0x50000 (f.reg.at c) = true) : EdgeOnly s (bump s f n c) where
  plts := rfl
  mem := rfl
  regs := (edgeOnly_fset (s := s) (v := min (fget s f c + n) (2 ^ f.width - 1)) hf).regs

end

theorem cst_at (c : Nat) : R.EDG_CST.at c = 0x41024 + c * 0x100 := by simp [Reg.at, R.EDG_CST]
theorem ccnt_at (c : Nat) : R.EDG_CCNT.at c = 0x4102C + c * 0x100 := by simp [Reg.at, R.EDG_CCNT]

theorem cst_within (hc : c < 48) : within 0x40000 0x50000 (R.EDG_CST.at c) = true := by
  rw [cst_at, Bool.and_eq_true, decide_eq_true_eq, decide_eq_true_eq]
  omega

theorem ccnt_within (hc : c < 48) : within 0x40000 0x50000 (R.EDG_CCNT.at c) = true := by
  rw [ccnt_at, Bool.and_eq_true, decide_eq_true_eq, decide_eq_true_eq]
  omega

theorem Settles.edgeOnly {φ : ChanS → ChanS} (hc : c < 48) (h : Settles φ c s t) : EdgeOnly s t where
  plts := (congrArg State.plts h.frame).trans rfl
  mem := (congrArg State.mem h.frame).trans rfl
  regs a ha := h.regs a fun hcst => Bool.false_ne_true (ha.symm.trans (hcst ▸ cst_within hc))

theorem EdgeOnly.kept (h : EdgeOnly s t) :
    t.plts = s.plts ∧ t.mem = s.mem ∧ RegsKept s t (fun a => commonReg a || within 0x40000 0x50000 a) :=
  ⟨h.plts, h.mem, fun a ha => h.regs a (Bool.or_eq_false_iff.mp ha).2⟩

/-! ### Reloads (R141, R150 to R152, R162) -/

theorem auxReload_frame : auxReload c s = { s with aux := (auxReload c s).aux } := by
  refine forN_inv (P := fun u => u = { s with aux := u.aux }) (fun a u hu => ?_) 16 s rfl
  have htimer (x : SMap AuxS) : { u with aux := x } = { s with aux := x } := congrArg (fun w : State => { w with aux := x }) hu
  split_ifs
  · exact htimer _
  · exact hu

/-- At a transfer point a channel takes a set out of those that wait, and leaves the sets that are late. -/
theorem transfer_ch (c n : Nat) (s : State) : ∃ a l, (transfer c n s).ch c = { s.ch c with active := a, sets := l } := by
  unfold transfer
  extract_lets x ok late n s1 s2
  split
  · exact ⟨_, _, ch_setCh_self⟩
  · have h2 : s2.edg = s.edg := by
      unfold s2 s1
      split_ifs <;> simp only [raiseFlag_edg, bump_edg]
    exact ⟨(s.ch c).active, (s.ch c).sets, congrArg (fun e => SMap.get (fun _ => ChanS.init) e c) h2⟩

theorem edgeOnly_transfer (hc : c < 48) (n : Nat) (s : State) : EdgeOnly s (transfer c n s) := by
  unfold transfer
  extract_lets x ok late k s1 s2
  have hcst := cst_within hc
  have h1 : EdgeOnly s s1 :=
    edgeOnly_unless ((edgeOnly_raiseFlag (f := F.EDG_CST_DEFER) hcst).trans (edgeOnly_bump (f := F.EDG_CCNT_DEFERS) (ccnt_within hc)))
  have h2 : EdgeOnly s s2 := h1.trans (edgeOnly_unless (edgeOnly_raiseFlag (f := F.EDG_CST_OVERWRITE) hcst))
  split
  · exact (h2.trans (edgeOnly_fset (f := F.EDG_CST_NOSET) hcst)).trans edgeOnly_setCh
  · exact h2

/-- A reload counts the period and is its instant. -/
theorem reloadChan_timing (c n : Nat) (s : State) :
    ((reloadChan c n s).ch c).q = (s.ch c).q + 1 ∧ ((reloadChan c n s).ch c).reload = n := by
  have haux : (auxReload c (setCh s c { s.ch c with q := (s.ch c).q + 1, reload := n, coarse := (s.ch c).coarseNext })).ch c =
      { s.ch c with q := (s.ch c).q + 1, reload := n, coarse := (s.ch c).coarseNext } := by
    rw [auxReload_frame]
    exact ch_setCh_self
  obtain ⟨a, l, htransfer⟩ :=
    transfer_ch c n (auxReload c (setCh s c { s.ch c with q := (s.ch c).q + 1, reload := n, coarse := (s.ch c).coarseNext }))
  rw [haux] at htransfer
  unfold reloadChan
  dsimp only
  split_ifs
  · rw [modCh, ch_setCh_self, htransfer]
    exact ⟨rfl, rfl⟩
  · rw [htransfer]
    exact ⟨rfl, rfl⟩
  · rw [haux]
    exact ⟨rfl, rfl⟩

theorem edgeOnly_reloadChan (hc : c < 48) (n : Nat) (s : State) : EdgeOnly s (reloadChan c n s) := by
  have haux (u : State) : EdgeOnly u (auxReload c u) := by
    rw [auxReload_frame]
    exact ⟨rfl, rfl, fun _ _ => rfl⟩
  exact (edgeOnly_setCh.trans (haux _)).trans (edgeOnly_when ((edgeOnly_transfer hc n _).trans (edgeOnly_when edgeOnly_setCh)))

/-! ### Compare events (R146, R147, R154) -/

/-- A compare event that is not taken back and makes no pulse too short leaves the compare level of its output where it puts it. -/
theorem compareFires_lvl {j : Nat} (hset : (s.ch c).active ≠ []) (hapart : (s.ch c).active[j]? ≠ (s.ch c).active[opposite j]?)
    (hlong : ∀ d, undoAfter s c j = some d → 64 * fget s F.EDG_DT_MINPW c ≤ d) :
    ((compareFires c j s).ch c).lvl.testBit (j / 2) = (j % 2 == 0) := by
  have hne : (s.ch c).active.isEmpty = false := by simpa using hset
  have hequal : ((s.ch c).active[j]? == (s.ch c).active[opposite j]?) = false := by simpa using hapart
  unfold compareFires
  dsimp only
  rw [hne, hequal, Bool.and_false, if_neg Bool.false_ne_true, if_neg Bool.false_ne_true]
  split_ifs with hlvl hon hshort
  · rw [ch_setCh_self]
    simpa using hlvl
  · simpa using hlvl
  · exfalso
    split at hshort
    next d hd =>
      have hd1 := hlong d hd
      have hd2 := of_decide_eq_true hshort
      push_cast at hd2
      omega
    next => exact Bool.false_ne_true hshort
  all_goals
    rw [ch_setCh_self]
    exact putBit_testBit_self _ _ _

theorem edgeOnly_compareFires {j : Nat} (hc : c < 48) : EdgeOnly s (compareFires c j s) := by
  have hmin : EdgeOnly s (bump (raiseFlag s F.EDG_CST_MINPW_HIT c) F.EDG_CCNT_MINPWS 1 c) :=
    (edgeOnly_raiseFlag (f := F.EDG_CST_MINPW_HIT) (cst_within hc)).trans (edgeOnly_bump (f := F.EDG_CCNT_MINPWS) (ccnt_within hc))
  exact edgeOnly_unless (edgeOnly_unless
    (edgeOnly_ite (edgeOnly_when edgeOnly_setCh) (edgeOnly_ite hmin edgeOnly_setCh)))

end Sys2Proof.Machine
end

section
/-! Reloads, compare events, the interlock and host sets (O26). -/

namespace Sys2Proof.Machine
open Sys2Proof.Claims

variable {s t u : State} {c o : Nat} {x : ChanS}

/-! ### The interlock (R155) -/

/-- What one round of a loop makes true under an invariant, and every round keeps under it, is true after the loop. -/
theorem forN_reaches {P Q : State → Prop} {f : Nat → State → State} {n k : Nat} (hk : k < n) (hinv : ∀ i s, P s → P (f i s))
    (hmakes : ∀ s, P s → Q (f k s)) (hkeeps : ∀ i s, P s → Q s → Q (f i s)) {s : State} (hs : P s) : Q (forN n f s) := by
  obtain ⟨before, after, hsplit⟩ := List.append_of_mem (List.mem_range.mpr hk)
  have hreach : P (before.foldl (fun s i => f i s) s) := forL_inv hinv before s hs
  unfold forN
  rw [hsplit, List.foldl_append, List.foldl_cons]
  exact (forL_inv (P := fun u => P u ∧ Q u) (fun i u hu => ⟨hinv i u hu.1, hkeeps i u hu.1 hu.2⟩) after _
    ⟨hinv k _ hreach, hmakes _ hreach⟩).2

/-- While the index of the mask does not change, its entry alone may. -/
theorem maskScan_same_index (hi : maskIndex s c = (s.ch c).mpend.getD (s.ch c).midx) :
    maskScan c s = if maskNow s c = (s.ch c).entry then s else enterMask c (maskNow s c) s := by
  unfold maskScan
  dsimp only
  rw [if_pos hi]

theorem maskScan_still (hi : maskIndex s c = (s.ch c).mpend.getD (s.ch c).midx) (he : maskNow s c = (s.ch c).entry) :
    maskScan c s = s := (maskScan_same_index hi).trans (if_pos he)

theorem holdScan_free (h : forced s c = false) : holdScan c s = s := by
  unfold holdScan
  rw [h]
  rfl

/-- A channel but for the levels that are wanted of its outputs. -/
def ChanS.unasked (x : ChanS) : ChanS := { x with want := 0, wantAt := [] }

/-- What is wanted of an output does not depend on what was wanted before. -/
theorem wanted_congr (hu : u = { s with edg := u.edg }) (h : (u.ch c).unasked = (s.ch c).unasked) : wanted u c o = wanted s c o := by
  have hhold : (u.ch c).hold = (s.ch c).hold := (congrArg ChanS.hold h :)
  have hentry : (u.ch c).entry = (s.ch c).entry := (congrArg ChanS.entry h :)
  have hblk : (u.ch c).blk = (s.ch c).blk := (congrArg ChanS.blk h :)
  have hlvl : (u.ch c).lvl = (s.ch c).lvl := (congrArg ChanS.lvl h :)
  unfold wanted
  dsimp only
  rw [hhold, hentry, hblk, hlvl, hu]
  rfl

/-- Output `o` of channel `c`, whose outputs are all off, is wanted and its partner is not; but for what is wanted all is as in `s`. -/
structure WantsAlone (c o : Nat) (s u : State) : Prop where
  frame : u = { s with edg := u.edg }
  rest : (u.ch c).unasked = (s.ch c).unasked
  off : (u.ch c).drv = 0
  asks : (u.ch c).want.testBit o = true
  alone : (u.ch c).want.testBit (partner o) = false

theorem WantsAlone.setCh (h : WantsAlone c o s u) (hrest : x.unasked = (u.ch c).unasked) (hasks : x.want.testBit o = true)
    (halone : x.want.testBit (partner o) = false) : WantsAlone c o s (setCh u c x) where
  frame := congrArg (fun w : State => { w with edg := (Machine.setCh u c x).edg }) h.frame
  rest := by rw [ch_setCh_self, hrest, h.rest]
  off := by rw [ch_setCh_self, ← h.off]; exact (congrArg ChanS.drv hrest :)
  asks := by rw [ch_setCh_self, hasks]
  alone := by rw [ch_setCh_self, halone]

theorem WantsAlone.turnOffs (hw : wanted s c o = true) (hp : wanted s c (partner o) = false) (hs : WantsAlone c o s s) :
    WantsAlone c o s (turnOffs c s) := by
  refine forN_inv (P := WantsAlone c o s) (fun k u hu => ?_) 6 s hs
  have hk : wanted u c k = wanted s c k := wanted_congr hu.frame hu.rest
  have hoff : (u.ch c).drv.testBit k = false := by rw [hu.off, Nat.zero_testBit]
  have hasks : (putBit (u.ch c).want k (wanted s c k)).testBit o = true := by
    rw [putBit_testBit]
    split_ifs with hko
    · rw [← hko, hw]
    · exact hu.asks
  have halone : (putBit (u.ch c).want k (wanted s c k)).testBit (partner o) = false := by
    rw [putBit_testBit]
    split_ifs with hkp
    · rw [← hkp, hp]
    · exact hu.alone
  dsimp only
  rw [hk]
  split_ifs with hrise hturn hturn
  · exact absurd hturn (by simp [hoff])
  · exact hu.setCh rfl hasks halone
  · exact absurd hturn (by simp [hoff])
  · exact hu.setCh rfl hasks halone

/-- Output `o` of channel `c` may turn on: it is wanted and its partner is not, and the partner has been off for DTIME. -/
structure MayTurnOn (c o : Nat) (u : State) : Prop where
  asks : (u.ch c).want.testBit o = true
  alone : (u.ch c).want.testBit (partner o) = false
  off : (u.ch c).drv.testBit (partner o) = false
  due : nget (u.ch c).offAt (partner o) = 0 ∨ nget (u.ch c).offAt (partner o) - 1 + 10 * fget u F.EDG_DT_DTIME c ≤ clk u

theorem WantsAlone.mayTurnOn (h : WantsAlone c o s u)
    (hdue : nget (s.ch c).offAt (partner o) = 0 ∨ nget (s.ch c).offAt (partner o) - 1 + 10 * fget s F.EDG_DT_DTIME c ≤ clk s) :
    MayTurnOn c o u where
  asks := h.asks
  alone := h.alone
  off := by rw [h.off, Nat.zero_testBit]
  due := by
    have hoffAt : (u.ch c).offAt = (s.ch c).offAt := (congrArg ChanS.offAt h.rest :)
    have hdtime : fget u F.EDG_DT_DTIME c = fget s F.EDG_DT_DTIME c := (congrArg (fget · F.EDG_DT_DTIME c) h.frame).trans rfl
    have hclk : clk u = clk s := (congrArg clk h.frame).trans rfl
    rw [hoffAt, hdtime, hclk]
    exact hdue

theorem MayTurnOn.setCh (h : MayTurnOn c o u) (hwant : x.want = (u.ch c).want) (hoffAt : x.offAt = (u.ch c).offAt)
    (hoff : x.drv.testBit (partner o) = false) : MayTurnOn c o (setCh u c x) where
  asks := by rw [ch_setCh_self, hwant, h.asks]
  alone := by rw [ch_setCh_self, hwant, h.alone]
  off := by rw [ch_setCh_self, hoff]
  due := by rw [ch_setCh_self, hoffAt]; exact h.due

theorem dtime_overlap : fget (raiseFlag u F.EDG_CST_OVERLAP c) F.EDG_DT_DTIME c = fget u F.EDG_DT_DTIME c := by
  have hne : F.EDG_DT_DTIME.reg.at c ≠ F.EDG_CST_OVERLAP.reg.at c := by
    simp [Reg.at, F.EDG_DT_DTIME, F.EDG_CST_OVERLAP, R.EDG_DT, R.EDG_CST]
  exact fget_fset_ne u F.EDG_CST_OVERLAP 1 c 0 0 F.EDG_DT_DTIME c 0 0 hne

theorem MayTurnOn.overlap (h : MayTurnOn c o u) : MayTurnOn c o (raiseFlag u F.EDG_CST_OVERLAP c) where
  asks := h.asks
  alone := h.alone
  off := h.off
  due := by rw [dtime_overlap]; exact h.due

/-- No turn of another output, or of its own, takes the leave away. -/
theorem MayTurnOn.interlock {k : Nat} (h : MayTurnOn c o u) : MayTurnOn c o (interlock c k u) := by
  unfold Machine.interlock
  dsimp only
  split_ifs with hasked htie hundo hon hpon hdue
  · exact h
  · refine MayTurnOn.overlap (h.setCh (by rfl) (by rfl) ?_)
    rw [putBit_testBit, h.off, ite_self]
  · exact h.overlap
  · exact h
  · exact h.overlap
  · refine h.setCh rfl rfl ?_
    have hk : partner o ≠ k := by
      rintro rfl
      simp [h.alone] at hasked
    exact (putBit_testBit_ne hk).trans h.off
  · exact h

theorem MayTurnOn.no_tie (h : MayTurnOn c o u) : legTie (u.ch c) o = false := by simp [legTie, h.alone]

/-- At its turn the output is on. -/
theorem MayTurnOn.interlock_self (h : MayTurnOn c o u) : ((Machine.interlock c o u).ch c).drv.testBit o = true := by
  unfold Machine.interlock
  dsimp only
  rw [h.asks, h.no_tie, h.off, Bool.not_true, if_neg Bool.false_ne_true, if_neg Bool.false_ne_true, if_neg Bool.false_ne_true, if_pos h.due]
  split_ifs with hon
  · exact hon
  · rw [ch_setCh_self]
    exact putBit_testBit_self _ _ _

/-- The turn of an output leaves the others. -/
theorem interlock_drv_ne {k : Nat} (hk : o ≠ k) : ((interlock c k u).ch c).drv.testBit o = (u.ch c).drv.testBit o := by
  have hset (v : Bool) {x : ChanS} (hx : x.drv = putBit (u.ch c).drv k v) :
      ((setCh u c x).ch c).drv.testBit o = (u.ch c).drv.testBit o := by
    rw [ch_setCh_self, hx, putBit_testBit_ne hk]
  unfold interlock
  dsimp only
  split_ifs
  · rfl
  · exact hset false rfl
  · rfl
  · rfl
  · rfl
  · exact hset true rfl
  · rfl

theorem MayTurnOn.interlock_on {k : Nat} (h : MayTurnOn c o u) (hon : (u.ch c).drv.testBit o = true) :
    ((Machine.interlock c k u).ch c).drv.testBit o = true := by
  by_cases hk : o = k
  · exact hk ▸ h.interlock_self
  · rw [interlock_drv_ne hk, hon]

/-- An output that is wanted alone, in a channel that drives nothing, comes on once its partner has been off for DTIME. -/
theorem edgSettle_turns_on (ho : o < 6) (hw : wanted s c o = true) (hp : wanted s c (partner o) = false)
    (hwant : (s.ch c).want = 2 ^ o) (hdrv : (s.ch c).drv = 0) (hentry : (s.ch c).entry = maskNow s c)
    (hindex : maskIndex s c = (s.ch c).mpend.getD (s.ch c).midx)
    (hdue : nget (s.ch c).offAt (partner o) = 0 ∨ nget (s.ch c).offAt (partner o) - 1 + 10 * fget s F.EDG_DT_DTIME c ≤ clk s)
    (hfree : forced s c = false) : ((edgSettle c s).ch c).drv.testBit o = true := by
  have hstill : holdScan c (maskScan c s) = s := by rw [maskScan_still hindex hentry.symm, holdScan_free hfree]
  have hstart : WantsAlone c o s s := by
    refine ⟨rfl, rfl, hdrv, ?_, ?_⟩
    · rw [hwant, Nat.testBit_two_pow_self]
    · rw [hwant]
      exact Nat.testBit_two_pow_of_ne (partner_ne_self o).symm
  have hmay : MayTurnOn c o (turnOffs c s) := (hstart.turnOffs hw hp).mayTurnOn hdue
  unfold edgSettle
  rw [hstill]
  exact forN_reaches (P := MayTurnOn c o) (Q := fun u => (u.ch c).drv.testBit o = true) (f := interlock c) ho
    (fun _ _ h => h.interlock) (fun _ h => h.interlock_self) (fun _ _ h hon => h.interlock_on hon) hmay

/-! ### Masks (R157) -/

/-- Where the index in effect is the one that its source gives, settling leaves it. -/
theorem edgSettle_index (hi : maskIndex s c = (s.ch c).midx) (hp : (s.ch c).mpend = none) :
    ((edgSettle c s).ch c).midx = (s.ch c).midx ∧ ((edgSettle c s).ch c).mpend = none := by
  have hmask : ((maskScan c s).ch c).midx = (s.ch c).midx ∧ ((maskScan c s).ch c).mpend = none := by
    rw [maskScan_same_index (by rw [hp, hi]; rfl)]
    split_ifs
    · exact ⟨rfl, hp⟩
    · unfold enterMask
      rw [ch_setCh_self]
      exact ⟨rfl, hp⟩
  have hpart := (settles_masked (c := c) (s := s)).part
  exact ⟨(congrArg ChanS.midx hpart :).trans hmask.1, (congrArg ChanS.mpend hpart :).trans hmask.2⟩

/-! ### Host sets (R151, R153) -/

theorem arrived_edg {ifc : Ifc} {n : Nat} {w : Bool} : (arrived ifc n w s).edg = s.edg := (congrArg State.edg arrived_eq).trans rfl

/-- A set that completes is the newest that waits. -/
theorem setComplete_newest (n : Nat) (vals : List Nat) :
    (((setComplete c n vals s).ch c).sets.getLast?).map (·.2) = some vals := by
  unfold setComplete
  rw [ch_setCh_self]
  simp

theorem setComplete_plts (n : Nat) (vals : List Nat) : (setComplete c n vals s).plts = s.plts := by
  unfold setComplete
  dsimp only
  split_ifs <;> rfl

theorem setComplete_mem (n : Nat) (vals : List Nat) : (setComplete c n vals s).mem = s.mem := by
  unfold setComplete
  dsimp only
  split_ifs <;> rfl

theorem rd_setComplete (n : Nat) (vals : List Nat) {a : Nat} (ha : a ≠ R.EDG_CST.at c) : rd (setComplete c n vals s) a = rd s a := by
  unfold setComplete
  dsimp only
  split_ifs
  · rfl
  · exact rd_fset_ne s F.EDG_CST_OVERWRITE _ _ _ _ ha

theorem hostDrop_plts {ifc : Ifc} {a : Nat} : (hostDrop ifc a s).plts = s.plts := (hostDrop_evtOnly ifc a s).plts
theorem hostDrop_mem {ifc : Ifc} {a : Nat} : (hostDrop ifc a s).mem = s.mem := (hostDrop_evtOnly ifc a s).mem
theorem hostDrop_edg {ifc : Ifc} {a : Nat} : (hostDrop ifc a s).edg = s.edg := (hostDrop_evtOnly ifc a s).edg

/-! ### The commands -/

section
variable {n : Nat}

theorem edgeOnly_advance : EdgeOnly s (advance n s) := ⟨rfl, rfl, fun _ _ => rfl⟩

/-- R141: a reload that is due in the present lock interval. -/
theorem exec_carrierReload {c : Fin 48} (hon : domainOn s 6 = true) (hlock : lockNow s c = some ((s.ch c).q / lockK s c)) :
    exec (.carrierReload n c) s = .next (edgSettle c (reloadChan c (clk (advance n s)) (advance n s))) := by
  have hdue : reloadDue s c = true := by simp [reloadDue, hlock]
  have hcond : (domainOn s 6 && reloadDue s c) = true := by rw [hon, hdue, Bool.and_self]
  exact congrArg Host.Outcome.next (if_pos hcond)

/-- R146: a compare whose value is reached. -/
theorem exec_compareFire {c : Fin 48} {j : Fin 12} (hon : domainOn s 6 = true) (hreached : compareReached s c j = true) :
    exec (.compareFire n c j) s = .next (edgSettle c (compareFires c j (advance n s))) := by
  have hcond : (domainOn s 6 && compareReached s c j) = true := by rw [hon, hreached, Bool.and_self]
  exact congrArg Host.Outcome.next (if_pos hcond)

theorem active_of_reached {j : Nat} (h : compareReached s c j = true) : (s.ch c).active ≠ [] := by
  rintro hnil
  simp [compareReached, hnil] at h

theorem exec_interlockTurnOn {c : Fin 48} (hon : domainOn s 6 = true) :
    exec (.interlockTurnOn n c) s = .next (edgSettle c (advance n s)) := congrArg Host.Outcome.next (if_pos hon)

/-- An index that its source gives now is the one that it gives once it is in effect. -/
theorem maskIndex_taken {i : Nat} (h : maskIndex s c = i) (hx : x.midx = i) : maskIndex (setCh (advance n s) c x) c = i := by
  have hsource : fget (setCh (advance n s) c x) F.EDG_TCFG_MSRC c = fget s F.EDG_TCFG_MSRC c := rfl
  have htaken : ((setCh (advance n s) c x).ch c).midx = i := by rw [ch_setCh_self, hx]
  unfold maskIndex at h ⊢
  rw [hsource]
  generalize fget s F.EDG_TCFG_MSRC c = m at h ⊢
  match m, h with
  | 0, _ => exact htaken
  | 1, h => exact h
  | 2, h => exact h
  | 3, h => exact h
  | _ + 4, _ => exact htaken

/-- R157: an index that has waited MDLY. -/
theorem exec_maskApply {c : Fin 48} {i : Nat} (hon : domainOn s 6 = true) (hpend : (s.ch c).mpend = some i)
    (hdue : (s.ch c).mAt + 5120 * fget s F.EDG_MDLY_DLY c ≤ clk (advance n s)) :
    exec (.maskApply n c) s = .next (edgSettle c (setCh (advance n s) c { s.ch c with midx := i, mpend := none })) := by
  have hpend' : ((advance n s).ch c).mpend = some i := hpend
  refine congrArg Host.Outcome.next ((if_pos hon).trans (congrArg (edgSettle c) ?_))
  unfold modCh
  dsimp only
  rw [hpend']
  exact congrArg (setCh (advance n s) c) (if_pos hdue)

/-- R153: GO of a channel that no platen publishes to. -/
theorem exec_shdGo_unbound {h : Via} {c : Fin 48} (hon : HostOn s (R.EDG_SHD_GO.at c)) (hunbound : fget s F.SDM_CFG_PLATEN c = 7) :
    exec (.shdGo h c) s = .next (setComplete c (clk (arrived h.ifc h.t true s) + 3584)
      ((List.range 12).map (fun j => fget (arrived h.ifc h.t true s) F.EDG_SHD_VAL c j)) (arrived h.ifc h.t true s)) := by
  have hplaten : fget (arrived h.ifc h.t true s) F.SDM_CFG_PLATEN c = 7 := by rw [fget_arrived, hunbound]
  exact congrArg Host.Outcome.next ((hostGate_awake hon).trans ((if_pos hplaten).trans (if_pos (by decide))))

theorem exec_shdGo_bound {h : Via} {c : Fin 48} (hon : HostOn s (R.EDG_SHD_GO.at c)) (hbound : fget s F.SDM_CFG_PLATEN c ≠ 7) :
    exec (.shdGo h c) s = .next (hostDrop h.ifc (R.EDG_SHD_GO.at c) (arrived h.ifc h.t true s)) := by
  have hplaten : fget (arrived h.ifc h.t true s) F.SDM_CFG_PLATEN c ≠ 7 := by rw [fget_arrived]; exact hbound
  exact congrArg Host.Outcome.next ((hostGate_awake hon).trans (if_neg hplaten))

end

/-- Settles O26: each command comes to the settling of its channel's outputs, which leaves the carrier and, outside the engine, all
else. -/
theorem edgeReloadsAndCompares : Obligations.EdgeReloadsAndCompares := by
  refine ⟨?reload, ?compare, ?turnOn, ?mask, ?go, ?bound⟩
  case reload =>
    intro s t0 c hon hlock
    have hsettle := settles_edgSettle (c := c) (s := reloadChan c (clk (advance t0 s)) (advance t0 s))
    have hquiet := (edgeOnly_advance.trans (edgeOnly_reloadChan c.isLt _ _)).trans (hsettle.edgeOnly c.isLt)
    obtain ⟨hq, hreload⟩ := reloadChan_timing c (clk (advance t0 s)) (advance t0 s)
    exact ⟨_, exec_carrierReload hon hlock, (congrArg ChanS.q hsettle.part :).trans hq, (congrArg ChanS.reload hsettle.part :).trans hreload,
      hquiet.kept⟩
  case compare =>
    intro s t0 c j hon hreached hapart hlong
    have hsettle := settles_edgSettle (c := c) (s := compareFires c j (advance t0 s))
    have hquiet := (edgeOnly_advance.trans (edgeOnly_compareFires c.isLt)).trans (hsettle.edgeOnly c.isLt)
    have hlvl := compareFires_lvl (s := advance t0 s) (active_of_reached hreached) hapart hlong
    exact ⟨_, exec_compareFire hon hreached, (congrArg (fun x : ChanS => x.lvl.testBit (j / 2)) hsettle.part :).trans hlvl, hquiet.kept⟩
  case turnOn =>
    intro s t0 c o hon hw hp hwant hdrv hentry hindex hdue hfree
    have hquiet := (edgeOnly_advance (n := t0)).trans ((settles_edgSettle (s := advance t0 s)).edgeOnly c.isLt)
    exact ⟨_, exec_interlockTurnOn hon, edgSettle_turns_on (s := advance t0 s) o.isLt hw hp hwant hdrv hentry hindex hdue hfree, hquiet.kept⟩
  case mask =>
    intro s t0 c i hon hpend hdue hindex
    let u : State := setCh (advance t0 s) c { s.ch c with midx := i, mpend := none }
    have hch : u.ch c = { s.ch c with midx := i, mpend := none } := ch_setCh_self
    have hquiet := (edgeOnly_advance (n := t0)).trans (edgeOnly_setCh.trans ((settles_edgSettle (s := u)).edgeOnly c.isLt))
    obtain ⟨hmidx, hmpend⟩ := edgSettle_index (s := u) (c := c) (by rw [hch]; exact maskIndex_taken hindex rfl) (by rw [hch])
    exact ⟨_, exec_maskApply hon hpend hdue, hmidx.trans (by rw [hch]), hmpend, hquiet.kept⟩
  case go =>
    intro s h c hon hunbound
    have hvals : (List.range 12).map (fun j => fget (arrived h.ifc h.t true s) F.EDG_SHD_VAL c j) =
        (List.range 12).map (fun j => fget s F.EDG_SHD_VAL c j) := by simp only [fget_arrived]
    refine ⟨_, exec_shdGo_unbound hon hunbound, ?_, fun a ha => ?_, ?_, ?_⟩
    · rw [setComplete_newest, hvals]
    · rw [rd_setComplete _ _ (by simpa using ha), rd_arrived]
    · rw [setComplete_plts, arrived_plts]
    · rw [setComplete_mem, arrived_mem]
  case bound =>
    intro s h c hon hbound
    refine ⟨_, exec_shdGo_bound hon hbound, ?_, ?_, ?_, ?_, fun a ha => ?_⟩
    · rw [hostDrop_edg, arrived_edg]
    · rw [hostDrop_count, fget_arrived]
    · rw [hostDrop_plts, arrived_plts]
    · rw [hostDrop_mem, arrived_mem]
    · simp only [Bool.or_eq_false_iff, beq_eq_false_iff_ne] at ha
      obtain ⟨⟨⟨⟨⟨-, hdrop⟩, haddr⟩, -⟩, -⟩, -⟩ := ha
      rw [rd_hostDrop_ne hdrop haddr, rd_arrived]

end Sys2Proof.Machine
end

section
/-! A calibration pass in a takeover (O27). -/

namespace Sys2Proof.Machine
open Sys2Proof.Claims

variable {s t u : State} {c a : Nat}

/-! ### The edge engine with no trip source asserted -/

theorem forN_inv_lt {P : State → Prop} {f : Nat → State → State} {n : Nat} (h : ∀ i u, i < n → P u → P (f i u)) (hs : P s) :
    P (forN n f s) := List.foldlRecOn _ _ hs fun u hu i hi => h i u (List.mem_range.mp hi) hu

/-- No trip input is enabled and no over-current comparator trips. -/
structure TripFree (s : State) : Prop where
  inputs : ∀ x < 24, flag s F.EDG_TRIPX_EN x = false
  currents : ∀ c < 48, ∀ p < 3, fbit s F.SDM_STATUS_OCT p c = false

/-- With no trip source asserted no latch is set. -/
theorem TripFree.tripScan (h : TripFree s) : tripScan s = s := by
  have hx (x : Nat) (u : State) (hlt : x < 24) (hu : u = s) : xLatch x u = s := by
    rw [hu]
    unfold xLatch
    rw [h.inputs x hlt]
    rfl
  have hoc (c : Nat) (hc : c < 48) (p : Nat) (u : State) (hp : p < 3) (hu : u = s) : ocLatch c p u = s := by
    rw [hu]
    unfold ocLatch
    dsimp only
    rw [h.currents c hc p hp]
    rfl
  have hinputs : forN 24 xLatch s = s := forN_inv_lt (P := (· = s)) hx rfl
  exact forN_inv_lt (P := (· = s)) (fun c u hc hu => forN_inv_lt (P := (· = s)) (hoc c hc) hu) hinputs

/-- From `s` to `t` nothing changes but the channels of the edge engine and the registers EDG.CST. -/
structure SettlesAll (s t : State) : Prop where
  frame : t = { s with edg := t.edg, regs := t.regs, hwCyc := t.hwCyc, hwBits := t.hwBits }
  regs : ∀ a, (∀ c, a ≠ R.EDG_CST.at c) → rd t a = rd s a

theorem SettlesAll.settles {φ : ChanS → ChanS} (h : SettlesAll s t) (k : Settles φ c t u) : SettlesAll s u where
  frame := by
    have hk := k.frame
    rw [h.frame] at hk
    exact hk
  regs a ha := (k.regs a (ha c)).trans (h.regs a ha)

theorem TripFree.edgRefresh (h : TripFree s) : SettlesAll s (edgRefresh s) := by
  unfold Machine.edgRefresh
  split_ifs
  · rw [h.tripScan]
    exact forN_inv (P := SettlesAll s) (fun c u hu => hu.settles settles_edgSettle) 48 s ⟨rfl, fun _ _ => rfl⟩
  · exact ⟨rfl, fun _ _ => rfl⟩

/-! ### Where the registers lie -/

theorem tripx_at (x : Nat) : R.EDG_TRIPX.at x = 0x40100 + x * 4 := by simp [Reg.at, R.EDG_TRIPX]
theorem sdmStatus_at (c : Nat) : R.SDM_STATUS.at c = 0x60120 + c * 0x40 := by simp [Reg.at, R.SDM_STATUS]
theorem segstate_at (k i : Nat) : R.SYS_TRK_SEGSTATE.at k i = 0x1C40 + k * 0x80 + i * 4 := by simp [Reg.at, R.SYS_TRK_SEGSTATE]

theorem tripx_ne_cst {x : Nat} (hx : x < 24) (c : Nat) : R.EDG_TRIPX.at x ≠ R.EDG_CST.at c := by
  rw [tripx_at, cst_at]
  omega

theorem sdmStatus_ne_cst {x : Nat} (c : Nat) : R.SDM_STATUS.at x ≠ R.EDG_CST.at c := by
  rw [sdmStatus_at, cst_at]
  omega

theorem edgStatus_ne_cst (c : Nat) : R.EDG_STATUS.at ≠ R.EDG_CST.at c := by
  have hat : R.EDG_STATUS.at = 0x40000 := rfl
  rw [hat, cst_at]
  omega

theorem segstate_ne_cst (c : Nat) : R.SYS_TRK_SEGSTATE.at 0 0 ≠ R.EDG_CST.at c := by
  rw [segstate_at, cst_at]
  omega

theorem flag_congr {f : Fld} {i : Nat} (h : rd t (f.reg.at i) = rd s (f.reg.at i)) : flag t f i = flag s f i := by
  unfold flag fget
  rw [h]

/-- The trip sources stand in EDG.TRIPX and SDM.STATUS. -/
theorem TripFree.of_regs (h : TripFree s) (hx : ∀ x < 24, rd t (R.EDG_TRIPX.at x) = rd s (R.EDG_TRIPX.at x))
    (hc : ∀ c < 48, rd t (R.SDM_STATUS.at c) = rd s (R.SDM_STATUS.at c)) : TripFree t where
  inputs x hlt := (flag_congr (hx x hlt)).trans (h.inputs x hlt)
  currents c hlt p hp := by
    rw [← h.currents c hlt p hp]
    unfold fbit fget
    rw [show F.SDM_STATUS_OCT.reg = R.SDM_STATUS from rfl, hc c hlt]

theorem SettlesAll.tripFree (h : SettlesAll s t) (hs : TripFree s) : TripFree t :=
  hs.of_regs (fun _ hx => h.regs _ (tripx_ne_cst hx)) (fun _ _ => h.regs _ sdmStatus_ne_cst)

theorem SettlesAll.valid (h : SettlesAll s t) (hs : flag s F.EDG_STATUS_CAL_VALID = true) : flag t F.EDG_STATUS_CAL_VALID = true :=
  (flag_congr (h.regs _ edgStatus_ne_cst)).trans hs

/-! ### The start of impressions (R238, R424) -/

theorem rd_trackDark_ne (ha : 0x40000 ≤ a) (s : State) : rd (trackDark s) a = rd s a := by
  unfold trackDark
  refine forN_inv_lt (P := (rd · a = rd s a)) (fun k u hk hu => ?_) rfl
  refine forN_inv_lt (P := (rd · a = rd s a)) (fun i v hi hv => ?_) hu
  have hne : a ≠ R.SYS_TRK_SEGSTATE.at k i := by
    rw [segstate_at]
    omega
  exact (rd_wr_ne v _ _ hne).trans hv

theorem TripFree.trackDark (h : TripFree s) : TripFree (impStart (trackDark s)) := by
  refine h.of_regs (fun x _ => (rd_impStart _ _).trans (rd_trackDark_ne ?_ s)) (fun c _ => (rd_impStart _ _).trans (rd_trackDark_ne ?_ s))
  · rw [tripx_at]
    omega
  · rw [sdmStatus_at]
    omega

/-- A takeover whose restore is complete waits for nothing but calibration. -/
structure AwaitsCalibration (s : State) : Prop where
  takeover : s.sys.st = .takeover
  restored : s.par.restored = true
  stopped : s.sys.running = false
  settled : ∀ c < 48, flag s F.SDM_STATUS_SETTLE c = false

theorem AwaitsCalibration.of_regs (h : AwaitsCalibration s) (hsys : t.sys = s.sys) (hpar : t.par = s.par)
    (hc : ∀ c < 48, rd t (R.SDM_STATUS.at c) = rd s (R.SDM_STATUS.at c)) : AwaitsCalibration t where
  takeover := by rw [hsys, h.takeover]
  restored := by rw [hpar, h.restored]
  stopped := by rw [hsys, h.stopped]
  settled c hlt := (flag_congr (hc c hlt)).trans (h.settled c hlt)

theorem SettlesAll.awaits (h : SettlesAll s t) (hs : AwaitsCalibration s) : AwaitsCalibration t :=
  hs.of_regs ((congrArg State.sys h.frame).trans rfl) ((congrArg State.par h.frame).trans rfl) fun _ _ => h.regs _ sdmStatus_ne_cst

theorem AwaitsCalibration.takeStart (h : AwaitsCalibration s) (hcal : flag s F.EDG_STATUS_CAL_VALID = true) :
    takeStart s = impStart (trackDark s) := by
  have hsettled : (List.range 48).all (fun c => !(flag s F.SDM_CFG_EN c && flag s F.SDM_STATUS_SETTLE c)) = true := by
    rw [List.all_eq_true]
    intro c hc
    rw [h.settled c (List.mem_range.mp hc), Bool.and_false, Bool.not_false]
  unfold Machine.takeStart
  rw [h.takeover, h.restored, h.stopped, hcal, hsettled]
  rfl

/-! ### A calibration pass (R148, R149) -/

/-- From `s` to `u` a calibration pass has taken its results. -/
structure Calibrated (s u : State) : Prop where
  sys : u.sys = s.sys
  par : u.par = s.par
  valid : flag u F.EDG_STATUS_CAL_VALID = true
  regs : ∀ a, a ≠ R.EDG_CAL.addr → a ≠ R.EDG_STATUS.addr → rd u a = rd s a

theorem Calibrated.tripFree (h : Calibrated s u) (hs : TripFree s) : TripFree u := by
  refine hs.of_regs (fun x _ => h.regs _ ?_ ?_) (fun c _ => h.regs _ ?_ ?_)
  all_goals
    simp only [tripx_at, sdmStatus_at, R.EDG_CAL, R.EDG_STATUS]
    omega

theorem Calibrated.awaits (h : Calibrated s u) (hs : AwaitsCalibration s) : AwaitsCalibration u := by
  refine hs.of_regs h.sys h.par fun c _ => h.regs _ ?_ ?_
  all_goals
    simp only [sdmStatus_at, R.EDG_CAL, R.EDG_STATUS]
    omega

theorem calibrated_results {n resid least most passes : Nat} :
    Calibrated s (fset (fset (fset (fset (fset (advance n s) F.EDG_CAL_RESID resid) F.EDG_CAL_TAPS_MIN least) F.EDG_CAL_TAPS_MAX most)
      F.EDG_CAL_PASSES passes) F.EDG_STATUS_CAL_VALID 1) where
  sys := by simp only [fset_sys, advance_sys]
  par := by simp only [fset_par, advance_par]
  valid := by
    unfold flag
    rw [fget_fset_self _ _ _ _ _ _ (by decide)]
    rfl
  regs a hcal hst := by
    rw [rd_fset_ne _ F.EDG_STATUS_CAL_VALID _ _ _ _ hst, rd_fset_ne _ F.EDG_CAL_PASSES _ _ _ _ hcal,
      rd_fset_ne _ F.EDG_CAL_TAPS_MAX _ _ _ _ hcal, rd_fset_ne _ F.EDG_CAL_TAPS_MIN _ _ _ _ hcal,
      rd_fset_ne _ F.EDG_CAL_RESID _ _ _ _ hcal, rd_advance]

/-- Where every replica spans one clock, a pass fails no channel. -/
theorem exec_calibrationPass {n : Nat} {r : BitVec 8} {taps : List (Option Nat)} (hon : domainOn s 6 = true)
    (hspan : ∀ c < 48, (taps.getD c none).isNone = false) :
    ∃ u, Calibrated s u ∧ exec (.calibrationPass n r taps) s = .next (edgRefresh (takeStart (edgRefresh u))) := by
  refine ⟨_, ?_, congrArg Host.Outcome.next (if_pos hon)⟩
  refine forN_inv_lt (P := Calibrated s) (fun c u hc hu => ?_) calibrated_results
  dsimp only
  rw [hspan c hc, if_neg Bool.false_ne_true]
  exact ⟨hu.sys, hu.par, hu.valid, hu.regs⟩

/-- A unit that takes over, with the essence restored: impressions wait for calibration (R424). Segment 0 of track 0 shows the ENERGISED
of an earlier run. -/
def calibratingTakeover : State :=
  fset { State.reset with
    sys := { SysS.init with st := .takeover }
    pwr := { PwrS.init with on := 0x3FFF#14 }
    par := { ParS.init with restored := true } } F.SYS_TRK_SEGSTATE_S0 2 0 0

theorem calibratingTakeover_awaits : AwaitsCalibration calibratingTakeover :=
  ⟨rfl, rfl, rfl, by decide⟩

theorem calibratingTakeover_tripFree : TripFree calibratingTakeover := ⟨by decide, by decide⟩

/-- Refutes O27: the calibration pass that a takeover waits for starts impressions and with them the track unit, which clears SEGSTATE
(R238); the statement lets that command write the registers of EDG alone. -/
theorem not_edgeTripsAndTimers : ¬ Obligations.EdgeTripsAndTimers := by
  rintro ⟨hpass, -⟩
  have hon : domainOn calibratingTakeover 6 = true := by decide
  obtain ⟨t, ht, -, -, -, -, hkept, -⟩ := hpass calibratingTakeover 0 0 (List.replicate 48 (some 0)) hon
  obtain ⟨u, hu, hgo⟩ := exec_calibrationPass (n := 0) (r := 0) (taps := List.replicate 48 (some 0)) hon (by decide)
  obtain rfl : edgRefresh (takeStart (edgRefresh u)) = t := Host.Outcome.next.inj (hgo.symm.trans ht)
  have hfree : TripFree u := hu.tripFree calibratingTakeover_tripFree
  have hsettled := hfree.edgRefresh
  have hstart : takeStart (edgRefresh u) = impStart (trackDark (edgRefresh u)) :=
    (hsettled.awaits (hu.awaits calibratingTakeover_awaits)).takeStart (hsettled.valid hu.valid)
  have hdark : rd (edgRefresh (takeStart (edgRefresh u))) (R.SYS_TRK_SEGSTATE.at 0 0) = 0#32 := by
    rw [hstart, (hsettled.tripFree hfree).trackDark.edgRefresh.regs _ segstate_ne_cst, rd_impStart]
    exact rd_trackDark (by decide) (by decide) _
  have hshown : rd calibratingTakeover (R.SYS_TRK_SEGSTATE.at 0 0) = 2#32 := by decide
  exact absurd (hdark.symm.trans ((hkept _ (by decide)).trans hshown)) (by decide)

end Sys2Proof.Machine
end

section
/-! A refutation by an event of a block that R464 does not number (O55). -/

namespace Sys2Proof.Machine
open Sys2Proof.Claims

/-- The device after reset with the stray event, as the preferred unit of a pair, whose claim and the other's stand since the instant 0. -/
def strayConflict : State :=
  fset { strayReset with
    pins := { PinS.init with ownOut := true, ownIn := true, funcs := [(0x17 * 1024 + 1, true)] }
    since := [(Timed.both, 1)] } F.PAR_CFG_PREFERRED 1

/-- 1 ms, in 1/256 ns. -/
def conflictTime : Nat := 256000000

/-- R422: once both claims have stood for 1 ms, the preferred unit raises the event of the conflict and keeps its claim. -/
theorem exec_ownConflict_preferred {s : State} {n : Nat} (hclaims : (s.pins.ownOut && ownIn s) = true)
    (hheld : heldFor Timed.both 1000000 (advance n s) = true) (hnew : flag s F.PAR_STATUS_OWN_CONFLICT = false)
    (hpref : fget s F.PAR_CFG_PREFERRED = 1) :
    exec (.ownConflict n) s = .next (raise blkPAR 0x12 0 1 0 (raiseFlag (advance n s) F.PAR_STATUS_OWN_CONFLICT)) := by
  have hcond : (s.pins.ownOut && ownIn s && heldFor Timed.both 1000000 (advance n s) && !flag s F.PAR_STATUS_OWN_CONFLICT) = true := by
    rw [hclaims, hheld, hnew]
    rfl
  have hpref' : fget (advance n s) F.PAR_CFG_PREFERRED = 1 := hpref
  refine congrArg Host.Outcome.next ((if_pos hcond).trans ?_)
  dsimp only
  rw [hpref']
  rfl

/-- Refutes O55: the event of a conflict finds the log full and has the stray one counted, in a word that the statement keeps. -/
theorem not_ownershipAndTakeover : ¬ Obligations.OwnershipAndTakeover := by
  rintro ⟨-, -, -, -, -, hconflict, -⟩
  have hheld : heldFor Timed.both 1000000 (advance conflictTime strayConflict) = true := by decide
  obtain ⟨t, ht, -, -, -, -, -, -, hkept⟩ := hconflict strayConflict conflictTime ⟨by decide, by decide, by decide, hheld⟩
  let u : State := raiseFlag (advance conflictTime strayConflict) F.PAR_STATUS_OWN_CONFLICT
  have hgo : exec (.ownConflict conflictTime) strayConflict = .next (raise blkPAR 0x12 0 1 0 u) :=
    exec_ownConflict_preferred (by decide) hheld (by decide) (by decide)
  obtain rfl : raise blkPAR 0x12 0 1 0 u = t := Host.Outcome.next.inj (hgo.symm.trans ht)
  have hlog : LogFull u := ⟨by decide, strayReset_full, by decide⟩
  have hcount : rd (raise blkPAR 0x12 0 1 0 u) pastDrops = 1#32 :=
    hlog.raise_counts_stray rfl rfl (by decide) (by decide) (by decide)
  exact absurd (hcount.symm.trans (hkept pastDrops (by decide))) (by decide)

end Sys2Proof.Machine
end

section
/-! Refutations by an event of a block that R464 does not number (O29, O30). -/

namespace Sys2Proof.Machine
open Sys2Proof.Claims

/-- An event that finds the log full and the stray one of block 26 waiting does not keep the registers, unless `p` excepts the word that
the stray one counts in. -/
theorem LogFull.raise_not_kept {s u : State} {e : Event} {n b c i d0 d1 : Nat} {p : Nat → Bool} (h : LogFull u)
    (hstage : u.evt.stage = [(n, e)]) (he : e.block = 26) (hcycle : n ≠ sysCycle u) (hb : pastDrops ≠ R.EVT_DROP.at (b - 1))
    (hu : rd u pastDrops = 0#32) (hs : rd s pastDrops = 0#32) (hp : p pastDrops = false) :
    ¬ RegsKept s (raise b c i d0 d1 u) p := by
  intro hkept
  have hcount : rd (raise b c i d0 d1 u) pastDrops = 1#32 := h.raise_counts_stray hstage he hcycle hu hb
  have hzero : rd (raise b c i d0 d1 u) pastDrops = 0#32 := (hkept pastDrops hp).trans hs
  exact absurd (hcount.symm.trans hzero) (by decide)

/-- The device after reset with the stray event and PD_FBK on. -/
def strayFbk : State := { strayReset with pwr := { strayReset.pwr with on := 0x80#14 } }

/-! ### Standstill (O29) -/

/-- R186, R188: a source that has not moved for TSTILL sets STILL, starts its speed estimate again and raises its event. -/
theorem exec_standstill_due {s : State} {n : Nat} {i : BitVec 7} (hon : srcOn s i.toNat = true)
    (hstill : flag s F.FBK_HALL_STATUS_STILL i.toNat = false)
    (hdue : (if i.toNat < 96 then (s.source i.toNat).stamp else (s.source i.toNat).moved) +
      1000000 * fget s F.FBK_HALL_SPD_TSTILL i.toNat ≤ max s.tim.acc (n * 2 ^ 18) / 2 ^ 26) :
    exec (.standstill n i) s = .next (raise blkFBK 0x04 i.toNat 0 (unsgn 32 (s.source i.toNat).pos)
      (speedRestart i.toNat (fset (advance n s) F.FBK_HALL_STATUS_STILL 1 i.toNat))) := by
  refine congrArg Host.Outcome.next (if_pos ?_)
  rw [Bool.and_eq_true, Bool.and_eq_true]
  exact ⟨⟨hon, congrArg not hstill⟩, decide_eq_true hdue⟩

/-- Hall triplet 0 is in use and not at standstill, and its TSTILL is 1 ms. -/
def strayMoving : State :=
  fset (fset (fset strayFbk F.FBK_HALL_CFG_EN 1 0) F.FBK_HALL_STATUS_STILL 0 0) F.FBK_HALL_SPD_TSTILL 1 0

/-- 1 ms, in 1/256 ns. -/
def standstillTime : Nat := 256000000

/-- Refutes O29: the event of a standstill finds the log full and has the stray one counted, in a word that the statement keeps. -/
theorem not_positionEdges : ¬ Obligations.PositionEdges := by
  rintro ⟨-, -, -, -, -, -, -, -, -, hstandstill, -⟩
  have hon : srcOn strayMoving (0#7).toNat = true := by decide
  have hstill : flag strayMoving F.FBK_HALL_STATUS_STILL (0#7).toNat = false := by decide
  have hdue : (if (0#7).toNat < 96 then (strayMoving.source (0#7).toNat).stamp else (strayMoving.source (0#7).toNat).moved) +
      1000000 * fget strayMoving F.FBK_HALL_SPD_TSTILL (0#7).toNat ≤ max strayMoving.tim.acc (standstillTime * 2 ^ 18) / 2 ^ 26 := by decide
  obtain ⟨t, ht, -, -, -, -, hkept, -⟩ := hstandstill strayMoving standstillTime 0#7 hon hstill hdue
  obtain rfl := Host.Outcome.next.inj ((exec_standstill_due hon hstill hdue).symm.trans ht)
  have hlog : LogFull (speedRestart 0 (fset (advance standstillTime strayMoving) F.FBK_HALL_STATUS_STILL 1 0)) :=
    ⟨by decide, strayReset_full, by decide⟩
  exact hlog.raise_not_kept rfl rfl (by decide) (by decide) (by decide) (by decide) (by decide) hkept

/-! ### A complete capture (O30) -/

/-- R195: the oldest capture of a unit with EVT_EN, which waits for nothing, goes into the queue where that has room, and raises its
event. -/
theorem exec_latchEntryComplete_noted {s : State} {n : Nat} {u : Fin 32} {p : LatCap} {r : List LatCap} {q : Int}
    (hon : domainOn s 7 = true) (hpend : (s.latU u).pend = p :: r) (hfio : p.fio = none) (hpos : p.pos = some q)
    (hspan : p.at_ + filtSpan s p.src ≤ lns (advance n s)) (hroom : (s.latU u).queue.length < 4) (hevt : bitsOf (s.latU u).cfg 19 1 = 1) :
    exec (.latchEntryComplete n u) s = .next (raise blkFBK 0x10 u (p.at_ % 2 ^ 32) (unsgn 64 q / 2 ^ 16)
      (setLat (advance n s) u { s.latU u with
        pend := r
        queue := (s.latU u).queue ++ [⟨p.at_ % 2 ^ 32, p.frac, p.rise, false, p.sat, srcUsed p.src && decide (96 ≤ p.src), q⟩] })) := by
  have hunit : (advance n s).latU u = s.latU u := rfl
  have hdomain : domainOn (advance n s) 7 = true := hon
  have hpassed : ¬ lns (advance n s) < p.at_ + filtSpan (advance n s) p.src := Nat.not_lt.mpr hspan
  change execLatchEntryComplete n u s = _
  unfold execLatchEntryComplete
  simp [hunit, hpend, hdomain, hfio, hpos, hpassed, hroom, hevt]

/-- A capture at the instant 0 whose position is known. -/
def madeCapture : LatCap := ⟨127, some 0, 0, 0, true, false, none⟩

/-- Latch unit 0, with EVT_EN, has made that capture. -/
def strayCapture : State := setLat strayFbk 0 ⟨0x80000#32, [madeCapture], []⟩

/-- Refutes O30: the event of a complete capture finds the log full and has the stray one counted, in a word that the statement keeps. -/
theorem not_latchUnits : ¬ Obligations.LatchUnits := by
  rintro ⟨-, -, -, -, -, -, hcomplete, -⟩
  have hon : domainOn strayCapture 7 = true := by decide
  have hspan : madeCapture.at_ + filtSpan strayCapture madeCapture.src ≤ lns (advance 0 strayCapture) := by decide
  have hroom : (strayCapture.latU (0 : Fin 32)).queue.length < 4 := by decide
  obtain ⟨t, ht, -, -, -, hkept, -⟩ := hcomplete strayCapture 0 0 madeCapture [] 0 hon rfl rfl rfl hspan hroom
  obtain rfl := Host.Outcome.next.inj ((exec_latchEntryComplete_noted hon rfl rfl rfl hspan hroom (by decide)).symm.trans ht)
  let u : State := setLat strayCapture 0 ⟨0x80000#32, [], [⟨0, 0, true, false, false, false, 0⟩]⟩
  have hlog : LogFull (advance 0 u) := ⟨by decide, strayReset_full, by decide⟩
  exact hlog.raise_not_kept rfl rfl (by decide) (by decide) (by decide) (by decide) (by decide) hkept

end Sys2Proof.Machine
end

section
/-! An ENERGISED segment that no mover serves, with W_OFF at 0 (O31). -/

namespace Sys2Proof.Machine
open Sys2Proof.Claims

variable {s t : State} {k : Nat} {rs : List MovRec}

theorem EvtOnly.trk (h : EvtOnly s t) : t.trk = s.trk := (congrArg State.trk h.eq).trans rfl

@[simp] theorem raise_trk (b c i d0 d1 : Nat) (s : State) : (raise b c i d0 d1 s).trk = s.trk := (raise_evtOnly b c i d0 d1 s).trk

@[simp] theorem writeSram_trk (i v : Nat) (s : State) : (writeSram i v s).trk = s.trk :=
  (congrArg State.trk (writeSram_frame i v s)).trans rfl

/-! ### The stages of an evaluation -/

theorem closeScan_trk (k : Nat) (rs : List MovRec) (s : State) : (closeScan k rs s).trk = s.trk := by
  unfold closeScan
  split
  · rfl
  · simp only [apply_ite State.trk, raise_trk, raiseFlag_trk, fset_trk, ite_self]

theorem moverScan_st (k : Nat) (rs : List MovRec) (r : MovRec) (s : State) : (moverScan k rs r s).trk.st = s.trk.st := by
  simp only [moverScan, apply_ite State.trk, raise_trk, raiseFlag_trk, ite_self]

theorem tableRows_trk (k : Nat) (rows : List (List Nat × Nat)) (s : State) :
    (forL rows (fun e s => forL e.1.zipIdx
      (fun w s => writeSram (fget s F.SYS_TRK_TAB_INDEX k + 8 * e.2 + w.2) w.1 s) s) s).trk = s.trk := by
  refine forL_inv (P := fun t => t.trk = s.trk) (fun e t ht => ?_) rows s rfl
  refine forL_inv (P := fun u => u.trk = s.trk) (fun w u hu => ?_) e.1.zipIdx t ht
  rw [writeSram_trk, hu]

/-- The records that an evaluation of track `k` works with (R223). -/
def trackRecs (k : Nat) (s : State) : List MovRec := (readRecs k (moversOf s k) s).1

/-- The state in which it forms the segments' next states: the records are read, and FAULT is up to date (R230). -/
def trackScanned (k : Nat) (s : State) : State := faultScan k (readRecs k (moversOf s k) s).2

theorem evalTrack_off (h : flag s F.SYS_TRK_CFG_EN k = false) : evalTrack k s = s := if_neg (by rw [h]; exact Bool.false_ne_true)

/-- What follows the segments' next states in an evaluation leaves them. -/
theorem evalTrack_st (h : flag s F.SYS_TRK_CFG_EN k = true) :
    (evalTrack k s).trk.st =
      (forL ((List.range (nseg (trackScanned k s) k)).map
        (fun j => (j, nextSeg (trackScanned k s) k j (trackRecs k s), serving (trackScanned k s) k j (trackRecs k s))))
        (fun e s => putSeg k e.1 e.2.1 e.2.2 s) (trackScanned k s)).trk.st := by
  unfold evalTrack
  rw [if_pos h]
  dsimp only
  rw [closeScan_trk, forL_keeps (fun t => t.trk.st) (moverScan_st k _), fset_trk, tableRows_trk]
  rfl

theorem segSt_putSeg (k j n : Nat) (sv : Option MovRec) (s : State) : segSt (putSeg k j n sv s) k j = n := by
  have hst : (putSeg k j n sv s).trk.st = nput s.trk.st (64 * k + j) n := by
    simp only [putSeg, apply_ite State.trk, raise_trk, wr_trk, ite_self]
  unfold segSt
  rw [hst]
  exact SMap.get_put_self _ _ _ _

/-- On a track of one segment an evaluation ends in the segment's next state. -/
theorem segSt_evalTrack_single (hen : flag s F.SYS_TRK_CFG_EN k = true) (hone : nseg (trackScanned k s) k = 1) :
    segSt (evalTrack k s) k 0 = nextSeg (trackScanned k s) k 0 (trackRecs k s) := by
  unfold segSt
  rw [evalTrack_st hen, hone]
  exact segSt_putSeg k 0 _ _ _

/-- Row 9 of R226: an ENERGISED segment that no mover serves, and that a W_OFF of 0 keeps from DRAIN, stays ENERGISED: there is no
FALLBACK flag of a serving mover. -/
theorem nextSeg_unserved (hoff : fbit s F.SYS_TRK_OFFLINE_L_SEG 0 k = false) (hfault : fbit s F.SYS_TRK_FAULT_L_SEG 0 k = false)
    (hnone : rs.filter (fun r => overlap s k 0 r != 0) = []) (hserving : serving s k 0 rs = none) (hst : segSt s k 0 = 2)
    (hwin : fget s F.SYS_TRK_WIN_W_OFF k = 0) : nextSeg s k 0 rs = 2 := by
  simp [nextSeg, hoff, hfault, hnone, hserving, hst, hwin]

/-! ### The counterexample -/

/-- Impressions run, and track 7 alone is enabled, with W_OFF 0 and one segment [100, 150), which is ENERGISED. The fresh record of its one
mover, at main SRAM word 0, gives the array [0, 40), out of reach of the segment, and FALLBACK. -/
def parkedTrack : State :=
  let s : State :=
    { State.reset with
      sys := { SysS.init with running := true }
      trk := { TrkS.init with seg := [(448, { SegS.init with b := 100 })], lastLen := [(7, 50)], st := [(448, 2)] }
      mem := [(0x1000038, 1#8)] }
  let s := fset (fset s F.SYS_TRK_CFG_NSEG 1 7) F.SYS_TRK_CFG_EN 1 7
  let s := fset (fset s F.SYS_TRK_LA_VAL 40 7) F.SYS_TRK_WIN_W_ON 800 7
  fset (fset s F.MOV_CFG_TYPE 3 0) F.MOV_CFG_TRACK 7 0

theorem parkedTrack_open : OpenTrack parkedTrack 7 [(0 : Fin 32).val] := by decide +kernel

theorem evalTracks_parkedTrack : forN 8 evalTrack parkedTrack = evalTrack 7 parkedTrack := by
  obtain ⟨-, hen, -, -⟩ := parkedTrack_open
  have hoff (i : Fin 8) (hi : i ≠ 7) : evalTrack i parkedTrack = parkedTrack := evalTrack_off ((hen i).trans (decide_eq_false hi))
  have hfirst : forN 7 evalTrack parkedTrack = parkedTrack :=
    List.foldlRecOn (motive := (· = parkedTrack)) (List.range 7) _ rfl (by
      rintro t rfl i hi
      have hlt : i < 7 := List.mem_range.mp hi
      exact hoff ⟨i, by omega⟩ (Fin.ne_of_val_ne hlt.ne))
  have hlast : forN 8 evalTrack parkedTrack = evalTrack 7 (forN 7 evalTrack parkedTrack) := by
    unfold forN
    rw [List.range_succ, List.foldl_concat]
  rw [hlast, hfirst]

theorem exec_trackEvaluation_parkedTrack : exec (.trackEvaluation 0 []) parkedTrack = .next (evalTrack 7 parkedTrack) := by
  have hgo : exec (.trackEvaluation 0 []) parkedTrack = .next (forN 8 evalTrack (advance 0 parkedTrack)) := rfl
  rw [hgo, advance_zero, evalTracks_parkedTrack]

theorem segSt_parkedTrack : segSt (evalTrack 7 parkedTrack) 7 0 = 2 := by
  rw [segSt_evalTrack_single (by decide) (by decide)]
  exact nextSeg_unserved (by decide) (by decide) (by decide) (by decide) (by decide) (by decide)

/-- Refutes O31: the statement does not ask for a W_OFF above 0, and then has the segment go to FALLBACK by the flag of a mover that is not
near it, and so does not serve it (R226): the model leaves it ENERGISED. -/
theorem not_trackSegments : ¬ Obligations.TrackSegments := by
  rintro ⟨hstate, -⟩
  obtain ⟨t, ht, hnext, -⟩ := hstate parkedTrack 0 7 0 0 parkedTrack_open (by decide) (by decide) (by decide +kernel) (by decide) (by decide)
  obtain rfl := Host.Outcome.next.inj (exec_trackEvaluation_parkedTrack.symm.trans ht)
  exact absurd (segSt_parkedTrack.symm.trans hnext) (by decide)

end Sys2Proof.Machine
end

section
/-! A refutation by an event of a block that R464 does not number (O34). -/

namespace Sys2Proof.Machine
open Sys2Proof.Claims

/-- Refutes O34: the event of a mover request finds the log full and has the stray one counted, in a word that the statement keeps. -/
theorem not_tracksAndMovers : ¬ Obligations.TracksAndMovers := by
  rintro ⟨-, -, -, -, -, hrequest, -⟩
  have hon : HostOn strayReset (R.MOV_CTL.at (0 : Fin 32)) := by decide
  obtain ⟨t, ht, -, hkept, -⟩ := hrequest strayReset ⟨.pcie, 0⟩ 0 1#4 hon (by decide)
  have hgo : exec (.moverRequest ⟨.pcie, 0⟩ 0 1#4) strayReset = .next (raise blkMOV 0x11 0 1 0 (arrived .pcie 0 true strayReset)) :=
    congrArg Host.Outcome.next (hostGate_awake hon)
  obtain rfl := Host.Outcome.next.inj (hgo.symm.trans ht)
  have hlog : LogFull (arrived .pcie 0 true strayReset) := ⟨by decide, strayReset_full, by decide⟩
  exact hlog.raise_not_kept rfl rfl (by decide) (by decide) (by decide) (by decide) (by decide) hkept

end Sys2Proof.Machine
end

section
/-! The latches of the profile units (O32). -/

namespace Sys2Proof.Machine
open Sys2Proof.Claims

variable {s t : State} {ifc : Ifc} {m code skip : Nat}

/-! ### A host write that reaches the device -/

/-- A command that is the write of a command register goes to its block in the state that it finds. -/
theorem goes_hostGate {c : Instr} {h : Via} {a : Nat} {w : Option Word} {f : State → State} {P : State → Prop}
    (hexec : exec c s = .next (hostGate h a w f s)) (hon : HostOn s a) (hP : P (f (arrived h.ifc h.t w.isSome s))) : Goes c s P := by
  refine ⟨_, hexec, ?_⟩
  rw [hostGate_awake hon]
  exact hP

@[simp] theorem arrived_mot {n : Nat} {w : Bool} : (arrived ifc n w s).mot = s.mot := (congrArg State.mot arrived_eq).trans rfl

theorem prf_arrived {n : Nat} {w : Bool} : (arrived ifc n w s).prf m = s.prf m := by rw [State.prf, arrived_mot, State.prf]

theorem prf_setPrf_self {x : PrfS} : (setPrf m x s).prf m = x := SMap.get_put_self _ _ _ _

/-! ### The latch (R249) -/

/-- From `s` to `t` the command `code` has entered the latch of unit `m`, and CMD_REPLACED tells whether one stood there. -/
def PrfLatched (s t : State) (m code : Nat) : Prop :=
  (t.prf m).pend.map (·.code) = some code ∧
    t.mot = { s.mot with prf := t.mot.prf } ∧
    { t.prf m with pend := none } = { s.prf m with pend := none } ∧
    (fget t F.PRF_STATE_CMD_REPLACED m = (if (s.prf m).pend.isSome then 1 else fget s F.PRF_STATE_CMD_REPLACED m)) ∧
    (RegsKept s t (fun a => a == R.PRF_STATE.at m)) ∧
    t.mem = s.mem

theorem PrfLatched.of_arrived {n : Nat} {w : Bool} (h : PrfLatched (arrived ifc n w s) t m code) : PrfLatched s t m code := by
  simpa only [PrfLatched, RegsKept, prf_arrived, arrived_mot, rd_arrived, fget_arrived, arrived_mem] using h

theorem prfLatch_empty (hcode : 1 ≤ code ∧ code ≤ 6) (h : (s.prf m).pend = none) :
    prfLatch m code skip s = setPrf m { s.prf m with pend := some ⟨code, skip, 0⟩ } s := by
  rw [prfLatch, if_neg (by omega), h]

theorem prfLatch_replaces {c : MCmd} (hcode : 1 ≤ code ∧ code ≤ 6) (h : (s.prf m).pend = some c) (hc : c.code ≠ 6) :
    prfLatch m code skip s =
      setPrf m { s.prf m with pend := some ⟨code, skip, 0⟩ } (raiseFlag s F.PRF_STATE_CMD_REPLACED m) := by
  rw [prfLatch, if_neg (by omega), h]
  exact if_neg hc

/-- R249: an ABORT that waits stays, whatever command follows. -/
theorem prfLatch_abort (h : (s.prf m).pend.map (·.code) = some 6) : prfLatch m code skip s = s := by
  obtain ⟨c, hc, hsix⟩ := Option.map_eq_some_iff.mp h
  rw [prfLatch, hc]
  dsimp only
  rw [if_pos hsix, ite_self]

theorem prfLatch_latched (hcode : 1 ≤ code ∧ code ≤ 6) (h : (s.prf m).pend.map (·.code) ≠ some 6) :
    PrfLatched s (prfLatch m code skip s) m code := by
  cases hpend : (s.prf m).pend with
  | none =>
    rw [prfLatch_empty hcode hpend, PrfLatched, prf_setPrf_self, hpend]
    exact ⟨rfl, rfl, rfl, rfl, fun _ _ => rfl, rfl⟩
  | some c =>
    have hc : c.code ≠ 6 := fun hsix => h (by rw [hpend, Option.map_some, hsix])
    rw [prfLatch_replaces hcode hpend hc, PrfLatched, prf_setPrf_self, hpend]
    refine ⟨rfl, rfl, rfl, ?_, fun a ha => ?_, rfl⟩
    · exact fget_fset_self s F.PRF_STATE_CMD_REPLACED 1 m 0 0 (by decide)
    · have hne : a ≠ R.PRF_STATE.at m := by simpa using ha
      exact rd_fset_ne s F.PRF_STATE_CMD_REPLACED 1 m 0 0 hne

section
variable {c : Instr} {h : Via} {v : Word}

theorem goes_prfCmd (hcode : 1 ≤ code ∧ code ≤ 6) (hexec : exec c s = .next (hostGate h (R.PRF_CMD.at m) (some v) (prfCmd m code) s))
    (hon : HostOn s (R.PRF_CMD.at m)) (hfree : (s.prf m).pend.map (·.code) ≠ some 6) : Goes c s (PrfLatched s · m code) :=
  goes_hostGate hexec hon (prfLatch_latched hcode (by rwa [prf_arrived])).of_arrived

theorem goes_prfCmd_abort (hexec : exec c s = .next (hostGate h (R.PRF_CMD.at m) (some v) (prfCmd m code) s))
    (hon : HostOn s (R.PRF_CMD.at m)) (habort : (s.prf m).pend.map (·.code) = some 6) :
    Goes c s (fun t => t.mot = s.mot ∧ t.regs = s.regs ∧ t.mem = s.mem) := by
  refine goes_hostGate hexec hon ?_
  rw [prfCmd, prfLatch_abort (by rwa [prf_arrived])]
  exact ⟨arrived_mot, arrived_regs, arrived_mem⟩

end

/-- Settles O32: each command is a write of its code to CMD, which enters the latch unless an ABORT stands there. -/
theorem profileCommands : Obligations.ProfileCommands := by
  refine ⟨?moveAbs, ?moveRel, ?jogPos, ?jogNeg, ?stop, ?abort, ?moveAbsKept, ?moveRelKept, ?jogPosKept, ?jogNegKept, ?stopKept⟩
  case moveAbs => exact fun _ _ _ => goes_prfCmd (code := 1) (by decide) rfl
  case moveRel => exact fun _ _ _ => goes_prfCmd (code := 2) (by decide) rfl
  case jogPos => exact fun _ _ _ => goes_prfCmd (code := 3) (by decide) rfl
  case jogNeg => exact fun _ _ _ => goes_prfCmd (code := 4) (by decide) rfl
  case stop => exact fun _ _ _ => goes_prfCmd (code := 5) (by decide) rfl
  case abort => exact fun _ _ _ => goes_prfCmd (code := 6) (by decide) rfl
  case moveAbsKept => exact fun _ _ _ => goes_prfCmd_abort (code := 1) rfl
  case moveRelKept => exact fun _ _ _ => goes_prfCmd_abort (code := 2) rfl
  case jogPosKept => exact fun _ _ _ => goes_prfCmd_abort (code := 3) rfl
  case jogNegKept => exact fun _ _ _ => goes_prfCmd_abort (code := 4) rfl
  case stopKept => exact fun _ _ _ => goes_prfCmd_abort (code := 5) rfl

end Sys2Proof.Machine
end

section
/-! The latches of the accords and of the path groups, and the segment buffer (O33). -/

namespace Sys2Proof.Machine
open Sys2Proof.Claims

variable {s t : State} {ifc : Ifc} {a g code skip n : Nat} {w : Bool} {c : Instr} {h : Via} {v : Word}

theorem acd_arrived : (arrived ifc n w s).acd a = s.acd a := by rw [State.acd, arrived_mot, State.acd]
theorem acd_setAcd_self {x : AcdS} : (setAcd a x s).acd a = x := SMap.get_put_self _ _ _ _

theorem pth_arrived : (arrived ifc n w s).pth g = s.pth g := by rw [State.pth, arrived_mot, State.pth]
theorem pth_setPth_self {x : PthS} : (setPth g x s).pth g = x := SMap.get_put_self _ _ _ _

/-! ### The latch of an accord (R249, R254, R256) -/

/-- From `s` to `t` the command `code` has entered the latch of accord `a`, with its CFG. -/
def AcdLatched (s t : State) (a code : Nat) : Prop :=
  ((t.acd a).pend.map (fun x => (x.code, x.cfg)) = some (code, rd s (R.ACD_CFG.at a))) ∧
    { t.acd a with pend := none } = { s.acd a with pend := none } ∧
    t.mot = { s.mot with acd := t.mot.acd } ∧
    t.regs = s.regs ∧
    t.mem = s.mem

theorem AcdLatched.of_arrived (h : AcdLatched (arrived ifc n w s) t a code) : AcdLatched s t a code := by
  simpa only [AcdLatched, acd_arrived, arrived_mot, rd_arrived, arrived_regs, arrived_mem] using h

theorem acdLatch_latched : AcdLatched s (acdLatch a code skip s) a code := by
  rw [acdLatch, AcdLatched, acd_setAcd_self]
  exact ⟨rfl, rfl, rfl, rfl, rfl⟩

theorem goes_acdCmd (hexec : exec c s = .next (hostGate h (R.ACD_CTL.at a) (some v) (acdCmd a code) s))
    (hon : HostOn s (R.ACD_CTL.at a)) : Goes c s (AcdLatched s · a code) :=
  goes_hostGate hexec hon acdLatch_latched.of_arrived

/-! ### The latch of a path group (R249, R259, R263) -/

/-- From `s` to `t` the command `code` has entered the latch of group `g`, with its CFG. -/
def PthLatched (s t : State) (g code : Nat) : Prop :=
  ((t.pth g).pend.map (fun x => (x.code, x.cfg)) = some (code, rd s (R.PTH_CFG.at g))) ∧
    { t.pth g with pend := none } = { s.pth g with pend := none } ∧
    t.mot = { s.mot with pth := t.mot.pth } ∧
    t.regs = s.regs ∧
    t.mem = s.mem

theorem PthLatched.of_arrived (h : PthLatched (arrived ifc n w s) t g code) : PthLatched s t g code := by
  simpa only [PthLatched, pth_arrived, arrived_mot, rd_arrived, arrived_regs, arrived_mem] using h

theorem pthLatch_free (hfree : (s.pth g).pend.map (·.code) ≠ some 5) :
    pthLatch g code skip s = setPth g { s.pth g with pend := some ⟨code, skip, rd s (R.PTH_CFG.at g)⟩ } s := by
  unfold pthLatch
  split
  next habort => exact absurd (congrArg (Option.map MCmd.code) habort) hfree
  next => rfl

theorem pthLatch_latched (hfree : (s.pth g).pend.map (·.code) ≠ some 5) : PthLatched s (pthLatch g code skip s) g code := by
  rw [pthLatch_free hfree, PthLatched, pth_setPth_self]
  exact ⟨rfl, rfl, rfl, rfl, rfl⟩

theorem goes_pthCmd (hexec : exec c s = .next (hostGate h (R.PTH_CTL.at g) (some v) (pthCmd g code) s))
    (hon : HostOn s (R.PTH_CTL.at g)) (hfree : (s.pth g).pend.map (·.code) ≠ some 5) : Goes c s (PthLatched s · g code) :=
  goes_hostGate hexec hon (pthLatch_latched (by rwa [pth_arrived])).of_arrived

/-! ### The segment buffer (R260) -/

theorem hostDrop_mot : (hostDrop ifc a s).mot = s.mot := (congrArg State.mot (hostDrop_evtOnly ifc a s).eq).trans rfl

theorem pthStatus_at (g : Nat) : R.PTH_STATUS.at g = 0x38008 + g * 0x200 := by simp [Reg.at, R.PTH_STATUS]

theorem pthLevel_pth : (pthLevel g s).pth = s.pth := rfl

theorem rd_pthLevel_ne {x : Nat} (hx : x ≠ R.PTH_STATUS.at g) : rd (pthLevel g s) x = rd s x :=
  (rd_fset_ne _ F.PTH_STATUS_FULL _ _ _ _ hx).trans (rd_fset_ne _ F.PTH_STATUS_LEVEL _ _ _ _ hx)

/-- An arc of which both axes are one: the buffer takes none. -/
def degenerateArc (s : State) (g : Nat) : Prop :=
  (fget s F.PTH_SEG_TYPE g = 1 ∨ fget s F.PTH_SEG_TYPE g = 2) ∧ fget s F.PTH_SEG_PA g = fget s F.PTH_SEG_PB g

/-- What stands in the staging registers of group `g`. -/
def stagedSeg (s : State) (g : Nat) : PSeg :=
  { ty := fget s F.PTH_SEG_TYPE g, pa := fget s F.PTH_SEG_PA g, pb := fget s F.PTH_SEG_PB g
    endV := fget s F.PTH_SEG_END_V g, tag := fget s F.PTH_SEG_TAG g
    ends := (List.range 4).map (fun i => fpair48 s F.PTH_END_L_VAL F.PTH_END_H_VAL g i)
    ca := fpair48 s F.PTH_CA_L_VAL F.PTH_CA_H_VAL g, cb := fpair48 s F.PTH_CB_L_VAL F.PTH_CB_H_VAL g
    dwell := fget s F.PTH_CA_L_VAL g, seen := false }

theorem pthPush_appends (harc : ¬ degenerateArc s g) (hroom : (s.pth g).buf.length < 64) :
    pthPush ifc g s = pthLevel g (setPth g { s.pth g with buf := (s.pth g).buf ++ [stagedSeg s g] } s) :=
  (if_neg harc).trans (if_neg (Nat.not_le.mpr hroom))

theorem pthPush_refused (harc : degenerateArc s g) :
    pthPush ifc g s = hostDrop ifc (R.PTH_CTL.at g) (raiseFlag s F.PTH_STATUS_REFUSED g) := if_pos harc

theorem pthFlush_idle (hidle : fget s F.PTH_STATUS_STATE g = 0) :
    pthFlush ifc g s = pthLevel g (setPth g { s.pth g with buf := [] } s) := if_pos hidle

/-- R64: the count of ignored writes does not lie in STATUS of a group. -/
theorem rd_hostDrop_pthStatus : rd (hostDrop ifc a s) (R.PTH_STATUS.at g) = rd s (R.PTH_STATUS.at g) := by
  refine rd_hostDrop_ne ?_ ?_
  all_goals
    simp only [pthStatus_at, R.SYS_HOST_DROP, R.SYS_HOST_DROP_ADDR]
    omega

theorem hostDrop_refused : fget (hostDrop ifc a (raiseFlag s F.PTH_STATUS_REFUSED g)) F.PTH_STATUS_REFUSED g = 1 :=
  (congrArg (bitsOf · 20 1) rd_hostDrop_pthStatus).trans (fget_fset_self s F.PTH_STATUS_REFUSED 1 g 0 0 (by decide))

theorem refused_dropCount : fget (raiseFlag s F.PTH_STATUS_REFUSED g) F.SYS_HOST_DROP_COUNT = fget s F.SYS_HOST_DROP_COUNT := by
  refine fget_fset_ne s F.PTH_STATUS_REFUSED 1 g 0 0 F.SYS_HOST_DROP_COUNT 0 0 0 fun haddr => ?_
  have hstatus : R.SYS_HOST_DROP.at 0 = 0x38008 + g * 0x200 := haddr.trans (pthStatus_at g)
  have hdrop : R.SYS_HOST_DROP.at 0 = 0x1048 := rfl
  omega

/-! ### O33 -/

/-- Settles O33: each command is a write of its bit to CTL, which enters a latch, or appends to the buffer or empties it. -/
theorem accordAndPathCommands : Obligations.AccordAndPathCommands := by
  refine ⟨?engage, ?disengage, ?start, ?hold, ?resume, ?stop, ?abort, ?push, ?refuse, ?flush⟩
  case engage => exact fun _ _ _ => goes_acdCmd (code := 1) rfl
  case disengage => exact fun _ _ _ => goes_acdCmd (code := 2) rfl
  case start => exact fun _ _ _ => goes_pthCmd (code := 1) rfl
  case hold => exact fun _ _ _ => goes_pthCmd (code := 2) rfl
  case resume => exact fun _ _ _ => goes_pthCmd (code := 3) rfl
  case stop => exact fun _ _ _ => goes_pthCmd (code := 4) rfl
  case abort => exact fun _ _ _ => goes_pthCmd (code := 5) rfl
  case push =>
    intro s h g hon harc hroom
    refine goes_hostGate rfl hon ?_
    rw [pthPush_appends (by simpa only [degenerateArc, fget_arrived] using harc) (by rwa [pth_arrived]), pthLevel_pth, pth_setPth_self,
      pth_arrived]
    refine ⟨List.length_append, ?_, fun a ha => ?_, arrived_mem⟩
    · rw [List.getLast?_concat]
      simp only [Option.map_some, stagedSeg, fget_arrived]
    · rw [rd_pthLevel_ne (by simpa using ha), rd_setPth, rd_arrived]
  case refuse =>
    intro s h g hon harc haxis
    refine goes_hostGate rfl hon ?_
    rw [pthPush_refused (by simpa only [degenerateArc, fget_arrived] using ⟨harc, haxis⟩)]
    refine ⟨hostDrop_refused, ?_, ?_, fun a ha => ?_, ?_⟩
    · rw [hostDrop_count, refused_dropCount, fget_arrived]
    · rw [hostDrop_mot, raiseFlag_mot, arrived_mot]
    · simp only [Bool.or_eq_false_iff, beq_eq_false_iff_ne] at ha
      obtain ⟨⟨hstatus, hdrop⟩, haddr⟩ := ha
      rw [rd_hostDrop_ne hdrop haddr, rd_raiseFlag, rd_fset_ne _ F.PTH_STATUS_REFUSED _ _ _ _ hstatus, rd_arrived]
    · rw [hostDrop_mem, raiseFlag_mem, arrived_mem]
  case flush =>
    intro s h g hon hidle
    refine goes_hostGate rfl hon ?_
    rw [pthFlush_idle (by rwa [fget_arrived]), pthLevel_pth, pth_setPth_self]
    refine ⟨rfl, fun a ha => ?_, arrived_mem⟩
    rw [rd_pthLevel_ne (by simpa using ha), rd_setPth, rd_arrived]

end Sys2Proof.Machine
end

section
/-! Safe stops, safety states, brake tests and contactor feedback: refutations by an event of a block that R464 does not number (O35, O36,
O37, O38). -/

namespace Sys2Proof.Machine
open Sys2Proof.Claims

variable {s : State}

/-! ### A STOP in LOCKED (O35) -/

/-- The record of a first cause (R288), before its event. -/
def causeNoted (cause : Nat) (s : State) : State := fset (fset s F.SAF_STATE_CAUSE cause) F.SAF_STOP_STAMP_VAL (stamp s)

/-- R288: outside OPERATIONAL and DRYDOWN, STOP records a first cause and its event, and a device that could not leave its state for
SAFE_STOP stays in it. -/
theorem safStop_noted (hlive : safLive s = false) (hcause : fget s F.SAF_STATE_CAUSE = 0)
    (hst : (s.sys.st == .ready || s.sys.st == .run || s.sys.st == .takeover) = false) :
    safStop s = causeLog 0x01 0 (causeNoted 0x01 s) := by
  have hsys : (causeLog 0x01 0 (causeNoted 0x01 s)).sys = s.sys := (raise_evtOnly _ _ _ _ _ _).sys
  unfold safStop stopRecord
  rw [hlive, if_neg Bool.false_ne_true, if_pos hcause]
  refine if_neg ?_
  rw [← Bool.not_eq_true, ← hsys] at hst
  exact hst

/-- Refutes O35: the event of a STOP in LOCKED finds the log full and has the stray one counted, in a word that the statement keeps. -/
theorem not_safeStops : ¬ Obligations.SafeStops := by
  rintro ⟨-, -, -, -, -, -, -, -, hstop, -⟩
  have hon : HostOn strayReset R.SAF_CTL.addr := by decide
  obtain ⟨t, ht, -, -, -, hkept⟩ := hstop strayReset ⟨.pcie, 0⟩ hon (by decide) (by decide)
  have hgo : exec (.safStop ⟨.pcie, 0⟩) strayReset = .next (causeLog 0x01 0 (causeNoted 0x01 (arrived .pcie 0 true strayReset))) :=
    congrArg Host.Outcome.next ((hostGate_awake hon).trans (safStop_noted (by decide) (by decide) (by decide)))
  obtain rfl := Host.Outcome.next.inj (hgo.symm.trans ht)
  have hlog : LogFull (causeNoted 0x01 (arrived .pcie 0 true strayReset)) := ⟨by decide, strayReset_full, by decide⟩
  exact hlog.raise_not_kept rfl rfl (by decide) (by decide) (by decide) (by decide) (by decide) hkept

/-! ### A refused CONFIRM (O36) -/

/-- R302: a CONFIRM outside COMMISSIONING sets CONF_REFUSED and raises its event. -/
theorem safConfirm_refused {v : Word} (hst : fget s F.SAF_STATE_STATE ≠ 1) :
    safConfirm v s = raise blkSAF 0x06 0 0 v.toNat (raiseFlag s F.SAF_STATE_CONF_REFUSED) := if_neg fun h => hst h.1

/-- Refutes O36: the event of a CONFIRM that LOCKED refuses finds the log full and has the stray one counted, in a word that the statement
keeps. -/
theorem not_safetyStates : ¬ Obligations.SafetyStates := by
  rintro ⟨-, -, -, -, -, -, -, -, -, hrefuse, -⟩
  have hon : HostOn strayReset R.SAF_CONFIRM.addr := by decide
  obtain ⟨t, ht, -, -, -, hkept, -⟩ := hrefuse strayReset ⟨.pcie, 0⟩ 0#32 hon (.inl (by decide))
  let u : State := raiseFlag (arrived .pcie 0 true strayReset) F.SAF_STATE_CONF_REFUSED
  have hgo : exec (.safConfirm ⟨.pcie, 0⟩ 0#32) strayReset = .next (raise blkSAF 0x06 0 0 0 u) :=
    congrArg Host.Outcome.next ((hostGate_awake hon).trans (safConfirm_refused (by decide)))
  obtain rfl := Host.Outcome.next.inj (hgo.symm.trans ht)
  have hlog : LogFull u := ⟨by decide, strayReset_full, by decide⟩
  exact hlog.raise_not_kept rfl rfl (by decide) (by decide) (by decide) (by decide) (by decide) hkept

/-! ### The second phase of a brake test (O37) -/

/-- R285: the end of the first phase of a test of axis `a` in both directions begins the second one, in negative direction. -/
theorem exec_brakeTestPhaseEnd_first {t a : Nat} {n k : Bool} {p : Int} (hbt : s.saf.bt = some (a, n, p, k))
    (hdir : fget s F.SAF_AX_BT1_DIR a = 3) (hphase : fget s F.SAF_BT_STATUS_PHASE = 1) :
    exec (.brakeTestPhaseEnd t) s =
      .next (raise blkSAF (0x20 + a) a 1 (fget (fset s F.SAF_BT_STATUS_PHASE 2) F.SAF_AX_BT1_TORQUE a)
        { fset (advance t s) F.SAF_BT_STATUS_PHASE 2 with saf := { s.saf with bt := some (a, true, p, false) } }) := by
  have hadv : (advance t s).saf.bt = some (a, n, p, k) := hbt
  have hfirst : fget (advance t s) F.SAF_AX_BT1_DIR a = 3 ∧ fget (advance t s) F.SAF_BT_STATUS_PHASE = 1 := ⟨hdir, hphase⟩
  change execBrakeTestPhaseEnd t s = _
  unfold execBrakeTestPhaseEnd
  dsimp only
  rw [hadv]
  exact congrArg Host.Outcome.next (if_pos hfirst)

/-- The device after reset with the stray event and a test of axis 0 in both directions in its first phase. -/
def strayBrakeTest : State :=
  fset (fset { strayReset with saf := { SafS.init with bt := some (0, false, 0, false) } } F.SAF_AX_BT1_DIR 3 0) F.SAF_BT_STATUS_PHASE 1

/-- Refutes O37: the event of the second phase of a test finds the log full and has the stray one counted, in a word that the statement
keeps. -/
theorem not_brakeTests : ¬ Obligations.BrakeTests := by
  rintro ⟨-, -, -, hsecond, -⟩
  have hdir : fget strayBrakeTest F.SAF_AX_BT1_DIR 0 = 3 := by decide
  have hphase : fget strayBrakeTest F.SAF_BT_STATUS_PHASE = 1 := by decide
  obtain ⟨t, ht, -, -, hkept, -⟩ := hsecond strayBrakeTest 0 0 false 0 false rfl hdir hphase
  obtain rfl := Host.Outcome.next.inj ((exec_brakeTestPhaseEnd_first rfl hdir hphase).symm.trans ht)
  have hlog : LogFull { fset (advance 0 strayBrakeTest) F.SAF_BT_STATUS_PHASE 2 with
      saf := { strayBrakeTest.saf with bt := some (0, true, 0, false) } } := ⟨by decide, strayReset_full, by decide⟩
  exact hlog.raise_not_kept rfl rfl (by decide) (by decide) (by decide) (by decide) (by decide) hkept

/-! ### A contactor feedback after a safe stop (O38) -/

/-- R288: outside OPERATIONAL and DRYDOWN a cause that follows a first one raises its event alone. -/
theorem safeStop_logged {cause i : Nat} (hlive : safLive s = false) (hcause : fget s F.SAF_STATE_CAUSE ≠ 0) :
    safeStop cause i s = causeLog cause i s := by
  unfold safeStop
  rw [hlive, if_neg Bool.false_ne_true, if_pos hcause]

/-- Input `k` is noted in discrepancy with its command (R287). -/
def kfbNoted (k : Nat) (s : State) : State :=
  { s with saf := { s.saf with
      kfb := putBit s.saf.kfb k true, kfbLvl := putBit s.saf.kfbLvl k (kfbCmd s k), kfbChg := putBit s.saf.kfbChg k false } }

/-- Cause `c` stands (R288). -/
def causeStands (c : Nat) (s : State) : State := { s with saf := { s.saf with stood := c :: s.saf.stood } }

/-- R287: a new discrepancy that is not degradable is a cause of R289. -/
theorem exec_kfbDiscrepancy_hard {t : Nat} {k : Fin 16}
    (hdiffers : (flag s F.SAF_KFB_CFG_EN k && fbit s F.FIO_KFB_LEVEL k != kfbExpected (advance t s) k) = true)
    (hnew : s.saf.kfb.testBit k = false) (hhard : kfbHard (kfbNoted k (advance t s)) k = true) (hstood : s.saf.stood.contains 0x09 = false) :
    exec (.kfbDiscrepancy t k) s = .next (safeStop 0x09 0 (causeStands 0x09 (kfbNoted k (advance t s)))) := by
  have hkfb : (advance t s).saf.kfb.testBit k = false := hnew
  have hrise : (kfbHard (kfbNoted k (advance t s)) k && !(kfbNoted k (advance t s)).saf.stood.contains 0x09) = true := by
    rw [hhard]
    exact congrArg not hstood
  change execKfbDiscrepancy t k s = _
  unfold execKfbDiscrepancy
  refine congrArg Host.Outcome.next ((if_pos hdiffers).trans ?_)
  dsimp only
  rw [hkfb, if_neg Bool.false_ne_true]
  exact if_pos hrise

/-- The device after reset with the stray event, a cause recorded, and contactor feedback 0, a mirrored one of output 0, at 0. -/
def strayFeedback : State :=
  fset (fset (fset strayReset F.SAF_STATE_CAUSE 1) F.SAF_KFB_CFG_EN 1 0) F.SAF_KFB_CFG_MIRROR 1 0

/-- Refutes O38: the event of a feedback in discrepancy finds the log full and has the stray one counted, in a word that the statement
keeps. -/
theorem not_safetyDiagnostics : ¬ Obligations.SafetyDiagnostics := by
  rintro ⟨-, -, hfeedback, -⟩
  obtain ⟨t, ht, -, -, hkept⟩ := hfeedback strayFeedback 0 0 (by decide) (by decide)
  have hgo := exec_kfbDiscrepancy_hard (s := strayFeedback) (t := 0) (k := 0) (by decide) (by decide) (by decide +kernel) rfl
  rw [safeStop_logged (by decide) (by decide)] at hgo
  obtain rfl := Host.Outcome.next.inj (hgo.symm.trans ht)
  have hlog : LogFull (causeStands 0x09 (kfbNoted 0 (advance 0 strayFeedback))) := ⟨by decide, strayReset_full, by decide⟩
  exact hlog.raise_not_kept rfl rfl (by decide) (by decide) (by decide) (by decide) (by decide) hkept

end Sys2Proof.Machine
end

section
/-! Frames on the ports: the link of the selected time source goes down (O45), and a pinned context falls silent (O46). -/

namespace Sys2Proof.Machine
open Sys2Proof.Claims

variable {s u : State} {e : Event} {b c i d0 d1 a p t : Nat}

/-! ### An event that finds room -/

/-- The input stage and the log each take one more event. -/
structure EvtRoom (s : State) : Prop where
  stage : s.evt.stage.length < 16
  log : s.evt.log.length < 1024

theorem stageIns_length (n : Nat) (e : Event) (l : List (Nat × Event)) : (stageIns n e l).length = l.length + 1 := by
  induction l with
  | nil => rfl
  | cons x r ih =>
    unfold stageIns
    split_ifs
    · rfl
    · rw [List.length_cons, ih, List.length_cons]

/-- An event that finds room waits in the stage, and none is dropped. -/
theorem EvtRoom.flush_stageEvt (h : EvtRoom s) :
    evtFlush (stageEvt e s) = { s with evt := { s.evt with stage := stageIns (sysCycle s) e s.evt.stage } } := by
  have hlen : (stageIns (sysCycle s) e s.evt.stage).length ≤ 16 := (stageIns_length _ _ _).trans_le h.stage
  unfold stageEvt
  dsimp only
  rw [List.take_of_length_le hlen, List.drop_of_length_le hlen]
  exact if_neg fun hfull => absurd hfull.1 h.log.ne

theorem EvtRoom.flush_trigEvent (h : EvtRoom s) (e : Event) (m : List MmEvent) :
    ∃ q, evtFlush (stageEvt e (trigEvent e { s with mmq := m })) =
      { s with mmq := m, trigq := q, evt := { s.evt with stage := stageIns (sysCycle s) e s.evt.stage } } := by
  obtain ⟨q, hq⟩ := trigEvent_frame e { s with mmq := m }
  rw [hq]
  exact ⟨q, EvtRoom.flush_stageEvt (s := { s with mmq := m, trigq := q }) ⟨h.stage, h.log⟩⟩

/-- Such an event leaves every register but the pending bits. -/
theorem EvtRoom.rd_raise (h : EvtRoom s) (ha : a ≠ R.SYS_IRQ_PEND.addr) : rd (raise b c i d0 d1 s) a = rd s a := by
  have hcause (t : State) : rd (if Config.eventIsCause b c then setPend (vectorOf b c i) t else t) a = rd t a := by
    split_ifs
    · exact setPend_rd _ t ha
    · rfl
  unfold raise raiseAt
  dsimp only
  rw [evtIrq_rd ha, hcause, (h.flush_trigEvent _ _).choose_spec]
  rfl

theorem EvtRoom.raise_evt (h : EvtRoom s) :
    (raise b c i d0 d1 s).evt.stage.length = s.evt.stage.length + 1 ∧ (raise b c i d0 d1 s).evt.log = s.evt.log := by
  have hcause (t : State) : (if Config.eventIsCause b c then setPend (vectorOf b c i) t else t).evt = t.evt := by
    split_ifs
    · exact setPend_evt _ t
    · rfl
  unfold raise raiseAt
  dsimp only
  rw [evtIrq_evt, hcause, (h.flush_trigEvent _ _).choose_spec]
  exact ⟨stageIns_length _ _ _, rfl⟩

/-! ### The selection of a time source (R334) -/

theorem portValid_congr (htim : u.tim = s.tim) (hintv : fget u F.TIM_P_INTV_LOG_SYNC p = fget s F.TIM_P_INTV_LOG_SYNC p) :
    portValid u p = portValid s p := by
  unfold portValid ofsFresh syncIntv fgetInt clk State.port
  rw [htim, hintv]

theorem selUpdate_other (hsel : s.tim.sel = some 0) (hlost : portValid s 0 = false) (hother : portValid s 1 = true) :
    selUpdate s = timSelect 1 s := by
  unfold selUpdate
  rw [hsel, hlost, hother]
  rfl

/-- Where the event of a selection of `q` is raised. -/
def selNoted (q : Fin 2) (s : State) : State :=
  let s := { s with tim := { s.tim with sel := some q } }
  let s := setPort 0 { s.port 0 with better := 0 } s
  raiseFlag (setPort 1 { s.port 1 with better := 0 } s) F.TIM_STATUS_SEL_CHANGED

theorem timSelect_raises (q : Fin 2) (s : State) : ∃ d0 d1, timSelect q s = raise blkTIM 0x01 q d0 d1 (selNoted q s) := ⟨_, _, rfl⟩

/-- A change of the selection shows in SEL_CHANGED. -/
theorem EvtRoom.timSelect_changed (h : EvtRoom s) (q : Fin 2) : flag (timSelect q s) F.TIM_STATUS_SEL_CHANGED = true := by
  obtain ⟨d0, d1, hraise⟩ := timSelect_raises q s
  have hnoted : EvtRoom (selNoted q s) := ⟨h.stage, h.log⟩
  unfold flag fget
  rw [hraise, hnoted.rd_raise (by decide)]
  exact congrArg (· != 0) (fget_fset_self _ F.TIM_STATUS_SEL_CHANGED 1 0 0 0 (by decide))

/-- What the PTP unit of port `p` knows once the port is down. -/
def portDown (s : State) (p : Nat) : PortS :=
  { (s.port p).fresh with
    pstate := if flag s F.TIM_P_CFG_EN p then 2 else 3, gm := none, annAlive := false, better := 0, ofsAt := none, asCapable := false
    mpd := none, resp := none, rate := (1, 1) }

theorem portRefresh_down (h : portLive s p = false) : portRefresh p s = selUpdate (setPort p (portDown s p) s) := by
  unfold portRefresh
  rw [h]
  rfl

theorem portValid_portDown : portValid (setPort 0 (portDown s 0) s) 0 = false := by
  change ((portDown s 0).pstate == 9 && false && _) = false
  rw [Bool.and_false, Bool.false_and]

theorem portValid_setPort_other (x : PortS) : portValid (setPort 0 x s) 1 = portValid s 1 := rfl

/-- When the port of the selected time source is down, a valid one on the other port is selected instead. -/
theorem EvtRoom.portRefresh_selects (h : EvtRoom s) (hdown : portLive s 0 = false) (hsel : s.tim.sel = some 0)
    (hother : portValid s 1 = true) : flag (portRefresh 0 s) F.TIM_STATUS_SEL_CHANGED = true := by
  have hroom : EvtRoom (setPort 0 (portDown s 0) s) := ⟨h.stage, h.log⟩
  have hchosen : (setPort 0 (portDown s 0) s).tim.sel = some 0 := hsel
  rw [portRefresh_down hdown, selUpdate_other hchosen portValid_portDown ((portValid_setPort_other _).trans hother)]
  exact hroom.timSelect_changed 1

/-! ### A link that goes down (R343) -/

/-- Where the event of the loss of ETHA's link is raised. -/
def linkNoted (s : State) : State :=
  raiseFlag (fset (fset (fset s F.NET_STATUS_SPEED_NOW 0 0) F.NET_STATUS_EEE 0 0) F.NET_STATUS_LINK 0 0) F.NET_STATUS_LINK_CHG 0

/-- The same with the event, and with nothing left to send. -/
def linkLost (s : State) : State :=
  let u := raise blkNET 0x01 0 0 0 (linkNoted s)
  { u with net := { u.net with tx0 := [] } }

theorem linkSet_lost (hspeed : fget s F.NET_STATUS_SPEED_NOW 0 ≠ 0) : linkSet 0 0 false s = portRefresh 0 (linkLost s) := if_neg hspeed

theorem EvtRoom.rd_linkLost (h : EvtRoom s) (ha : a ≠ R.SYS_IRQ_PEND.addr) : rd (linkLost s) a = rd (linkNoted s) a :=
  EvtRoom.rd_raise (s := linkNoted s) ⟨h.stage, h.log⟩ ha

theorem EvtRoom.portLive_linkLost (h : EvtRoom s) : portLive (linkLost s) 0 = false := by
  have hlink : flag (linkLost s) F.NET_STATUS_LINK 0 = false := by
    unfold flag fget
    rw [h.rd_linkLost (by decide)]
    change (fget (linkNoted s) F.NET_STATUS_LINK 0 != 0) = false
    unfold linkNoted
    rw [fget_raiseFlag, fget_fset_other _ _ _ _ _ _ _ _ _ _ (by decide) (by decide), fget_fset_self _ _ _ _ _ _ (by decide)]
    rfl
  unfold portLive
  rw [hlink, Bool.and_false]

theorem linkNoted_tim : (linkNoted s).tim = s.tim := by
  unfold linkNoted
  rw [raiseFlag_tim, fset_tim, fset_tim, fset_tim]

theorem linkLost_tim : (linkLost s).tim = s.tim := by
  have hraise := (raise_evtOnly blkNET 0x01 0 0 0 (linkNoted s)).tim
  unfold linkLost
  exact hraise.trans linkNoted_tim

theorem EvtRoom.portValid_linkLost (h : EvtRoom s) : portValid (linkLost s) 1 = portValid s 1 := by
  refine portValid_congr linkLost_tim (congrArg (bitsOf · 0 4) ?_)
  rw [h.rd_linkLost (by decide)]
  unfold linkNoted
  rw [rd_raiseFlag, rd_fset_ne _ _ _ _ _ _ (by decide), rd_fset_ne _ _ _ _ _ _ (by decide), rd_fset_ne _ _ _ _ _ _ (by decide),
    rd_fset_ne _ _ _ _ _ _ (by decide)]

theorem EvtRoom.after_linkLost (h : EvtRoom s) (hstage : s.evt.stage.length < 15) : EvtRoom (linkLost s) := by
  obtain ⟨hlen, hlog⟩ := EvtRoom.raise_evt (s := linkNoted s) (b := blkNET) (c := 0x01) (i := 0) (d0 := 0) (d1 := 0) ⟨h.stage, h.log⟩
  exact ⟨hlen.trans_lt (Nat.succ_lt_succ hstage), (congrArg List.length hlog).trans_lt h.log⟩

/-- The same when the link of that port goes down. -/
theorem EvtRoom.linkSet_selects (h : EvtRoom s) (hstage : s.evt.stage.length < 15) (hspeed : fget s F.NET_STATUS_SPEED_NOW 0 ≠ 0)
    (hsel : s.tim.sel = some 0) (hother : portValid s 1 = true) : flag (linkSet 0 0 false s) F.TIM_STATUS_SEL_CHANGED = true := by
  rw [linkSet_lost hspeed]
  exact (h.after_linkLost hstage).portRefresh_selects h.portLive_linkLost ((congrArg TimS.sel linkLost_tim).trans hsel)
    (h.portValid_linkLost.trans hother)

/-- A PTP unit in SLAVE with a living master and an offset just computed. -/
def slavePort : PortS := { PortS.init with pstate := 9, annAlive := true, ofsAt := some 0 }

/-- Both ports are linked, each with a valid PTP unit, of which that on ETHA is selected. -/
def twoSlaves : State :=
  let s : State :=
    { State.reset with
      sys := { SysS.init with st := .ready }
      pwr := { PwrS.init with on := 0x3203#14 }
      tim := { TimS.init with st := .track, sel := some 0, port0 := slavePort, port1 := slavePort } }
  [0, 1].foldl (fun s p => fset (fset (fset (fset s F.NET_CFG_EN 1 p) F.NET_STATUS_LINK 1 p) F.NET_STATUS_SPEED_NOW 1 p) F.TIM_P_CFG_EN 1 p) s

/-- Refutes O45: when the link of ETHA, the selected time source, goes down, the valid one on ETHB is selected, and SEL_CHANGED of
TIM.STATUS is set (R334), a register that the statement keeps. -/
theorem not_framesReceived : ¬ Obligations.FramesReceived := by
  rintro ⟨-, -, -, -, -, -, hlink, -⟩
  obtain ⟨t, ht, -, -, -, -, -, hkept⟩ := hlink twoSlaves 0 0 0#2 false (by decide)
  have hgo : exec (.linkChange 0 0 0#2 false) twoSlaves = .next (linkSet 0 0 false (advance 0 twoSlaves)) := rfl
  obtain rfl := Host.Outcome.next.inj (hgo.symm.trans ht)
  have hset : flag (linkSet 0 0 false (advance 0 twoSlaves)) F.TIM_STATUS_SEL_CHANGED = true :=
    EvtRoom.linkSet_selects ⟨by decide, by decide⟩ (by decide) (by decide) rfl (by decide)
  have hsame : fget (linkSet 0 0 false (advance 0 twoSlaves)) F.TIM_STATUS_SEL_CHANGED = fget twoSlaves F.TIM_STATUS_SEL_CHANGED :=
    congrArg (bitsOf · 7 1) (hkept R.TIM_STATUS.addr (by decide))
  unfold flag at hset
  rw [hsame] at hset
  exact absurd hset (by decide)

/-! ### A pinned context falls silent (R366) -/

theorem exec_contextSilence_pinned {i : Fin 128} (hst : s.sys.st ≠ .doze) (htype : ctxType s i ≠ 0)
    (hpinned : flag s F.PTN_STATE_PINNED i = true) (hsilent : flag s F.PTN_STATE_SILENT i = false) :
    exec (.contextSilence t i) s = .next (raise blkPTN 0x04 i (ctxType s i) 0 (raiseFlag (advance t s) F.PTN_STATE_SILENT i)) := by
  have hused : ¬ (ctxType (advance t s) i = 0 ∨ (advance t s).sys.st = .doze) := fun h => h.elim htype hst
  have hpin : flag (advance t s) F.PTN_STATE_PINNED i = true := hpinned
  have hnew : flag (advance t s) F.PTN_STATE_SILENT i = false := hsilent
  change execContextSilence t i s = _
  unfold execContextSilence
  dsimp only
  rw [if_neg hused, if_pos hpin, hnew]
  rfl

/-- The device after reset with the stray event and context 0 pinned. -/
def strayContext : State := fset (fset strayReset F.PTN_STATE_TYPE 2 0) F.PTN_STATE_PINNED 1 0

/-- Refutes O46: the event of a silent context finds the log full and has the stray one counted, in a word that the statement keeps. -/
theorem not_framesSent : ¬ Obligations.FramesSent := by
  rintro ⟨-, -, -, -, -, hsilence, -⟩
  obtain ⟨t, ht, -, -, hkept, -⟩ := hsilence strayContext 0 0 (by decide) (by decide) (by decide)
  obtain rfl := Host.Outcome.next.inj
    ((exec_contextSilence_pinned (by decide) (by decide) (by decide) (by decide)).symm.trans ht)
  have hlog : LogFull (raiseFlag (advance 0 strayContext) F.PTN_STATE_SILENT 0) := ⟨by decide, strayReset_full, by decide⟩
  exact hlog.raise_not_kept rfl rfl (by decide) (by decide) (by decide) (by decide) (by decide) hkept

end Sys2Proof.Machine
end

section
/-! LNS and the depths of the event log at every step (O7, O9). -/

namespace Sys2Proof.Machine

variable {s s₀ t : State}

/-! ### The depths of the event log (R463, R466) -/

theorem deviceReset_evt : (deviceReset s).evt = { EvtS.init with stage := s.evt.stage } := rfl

theorem evtOk_emptied (he : t.evt = EvtS.init) : t.evtOk := by
  unfold State.evtOk
  rw [he]
  exact ⟨Nat.zero_le _, Nat.zero_le _⟩

/-- A device reset empties the log and leaves the input stage as it is. -/
theorem deviceReset_evtOk (h : s.evtOk) : (deviceReset s).evtOk := by
  unfold State.evtOk
  rw [deviceReset_evt]
  exact ⟨Nat.zero_le _, h.2⟩

theorem Leads.evtOk (h : Leads s₀ t) (h₀ : s₀.evtOk) : t.evtOk := by
  induction h with
  | start => exact h₀
  | put _ ha ih => exact ⟨ha.log ih.1, ha.stage ih.2⟩
  | setMemByte _ ih => exact ih
  | forget _ ih => exact ih
  | stageImage _ ih => exact ih
  | dozeSave _ ih => exact ih
  | setCh _ _ ih => exact ih
  | legOff _ _ _ ih => exact ih
  | legOn _ _ _ _ ih => exact ih
  | edgOff _ ih => exact ih
  | deviceReset _ ih => exact deviceReset_evtOk ih

theorem unpowered_evtOk : (unpowered s).evtOk := evtOk_emptied rfl

theorem Passes.evtOk (h : Passes s t) (hs : s.evtOk) : t.evtOk := by
  cases h with
  | on h => exact h.evtOk hs
  | off _ => exact unpowered_evtOk
  | boot _ _ k => exact k.evtOk unpowered_evtOk

theorem timTick_evt : (timTick s).evt = s.evt := by
  unfold timTick
  split_ifs <;> rfl

/-- A step is a cycle of the clock, or a command from the front of the queue, which passes to the next state. -/
theorem step_cases (h : step s = .next t) :
    t = timTick s ∨ ∃ c r, s.pending = c :: r ∧ Passes { s with pending := r } t := by
  unfold step at h
  split at h
  next => exact .inl (Host.Outcome.next.inj h).symm
  next c r hq =>
    obtain ⟨u, hu, hp⟩ := answers_exec (s := { s with pending := r }) c
    obtain rfl : u = t := Host.Outcome.next.inj (hu.symm.trans h)
    exact .inr ⟨c, r, hq, hp⟩

/-- Settles O7: no update that a command is made of takes the log or its input stage past its depth, and an idle step leaves both. -/
theorem eventLogStaysWithinItsDepth : Obligations.EventLogStaysWithinItsDepth := by
  intro s t hs hstep
  rcases step_cases hstep with rfl | ⟨c, r, -, hp⟩
  · exact evtOk_of_eq timTick_evt hs
  · exact hp.evtOk hs

/-! ### LNS (R320) -/

theorem deviceReset_acc : (deviceReset s).tim.acc = s.tim.acc := rfl

/-- No update but a loss of power takes the accumulator of LNS back. -/
theorem Leads.acc_le (h : Leads s₀ t) : s₀.tim.acc ≤ t.tim.acc := by
  induction h with
  | start => exact le_rfl
  | put _ ha ih => exact ih.trans ha.acc
  | setMemByte _ ih => exact ih
  | forget _ ih => exact ih
  | stageImage _ ih => exact ih
  | dozeSave _ ih => exact ih
  | setCh _ _ ih => exact ih
  | legOff _ _ _ ih => exact ih
  | legOn _ _ _ _ ih => exact ih
  | edgOff _ ih => exact ih
  | deviceReset _ ih => exact ih.trans deviceReset_acc.ge

/-- A command that finds the device on and leaves it on does not take LNS back: one that loses power ends in OFF, and one that restores it
begins there. -/
theorem Passes.acc_le (h : Passes s t) (hon : s.sys.st ≠ .off) (hstays : t.sys.st ≠ .off) : s.tim.acc ≤ t.tim.acc := by
  cases h with
  | on h => exact h.acc_le
  | off _ => exact absurd rfl hstays
  | boot hoff _ _ => exact absurd hoff hon

theorem acc_le_timTick : s.tim.acc ≤ (timTick s).tim.acc := by
  unfold timTick
  split_ifs
  · exact le_rfl
  all_goals exact Nat.le_add_right _ _

theorem lns_mono (h : s.tim.acc ≤ t.tim.acc) : lns s ≤ lns t := Nat.div_le_div_right h

/-- Settles O9: LNS is the accumulator in ns, which no cycle of the clock and no command of a powered device takes back. -/
theorem lnsNeverDecreases : Obligations.LnsNeverDecreases := by
  intro s t hon hstep hstays
  rcases step_cases hstep with rfl | ⟨c, r, -, hp⟩
  · exact lns_mono acc_le_timTick
  · exact lns_mono (s := s) (hp.acc_le hon hstays)

end Sys2Proof.Machine
end

section
/-! Field I/O: refutations by an event of a block that R464 does not number (O39, O40). -/

namespace Sys2Proof.Machine
open Sys2Proof.Claims

variable {s : State} {t : Nat}

/-! ### An output that is too hot (O39) -/

/-- R311: overtemperature of an output sets its bit and raises the event of its faults. -/
theorem exec_outputOvertemp_rises {n : Fin 32} (hon : domainOn s 13 = true) (hmode : fget s F.FIO_CH_CFG_MODE n = 3)
    (hnew : flag s F.FIO_CH_DIAG_OT n = false) :
    ∃ d, exec (.outputOvertemp t n) s = .next (raise blkFIO 0x01 n d 0 (raiseFlag (advance t s) F.FIO_CH_DIAG_OT n)) := by
  have hcond : (domainOn (advance t s) 13 && fget (advance t s) F.FIO_CH_CFG_MODE n == 3) = true := by
    rw [fget_advance, hmode, beq_self_eq_true, Bool.and_true]
    exact hon
  have hrises : ¬ flag (advance t s) F.FIO_CH_DIAG_OT n = true := by
    change ¬ flag s F.FIO_CH_DIAG_OT n = true
    rw [hnew]
    exact Bool.false_ne_true
  exact ⟨_, congrArg Host.Outcome.next ((if_pos hcond).trans (if_neg hrises))⟩

/-- The device after reset with the stray event, PD_FIO on and channel 0 an output. -/
def strayOutput : State := fset { strayReset with pwr := { strayReset.pwr with on := 0x2000#14 } } F.FIO_CH_CFG_MODE 3 0

/-- Refutes O39: the event of an output that is too hot finds the log full and has the stray one counted, in a word that the statement
keeps. -/
theorem not_fieldInputsOutputs : ¬ Obligations.FieldInputsOutputs := by
  rintro ⟨-, -, -, -, hhot, -⟩
  have hon : domainOn strayOutput 13 = true := by decide
  have hmode : fget strayOutput F.FIO_CH_CFG_MODE (0 : Fin 32) = 3 := by decide
  obtain ⟨t, ht, -, -, hkept, -⟩ := hhot strayOutput 0 0 hon hmode
  obtain ⟨d, hgo⟩ := exec_outputOvertemp_rises (t := 0) (n := 0) hon hmode (by decide)
  obtain rfl := Host.Outcome.next.inj (hgo.symm.trans ht)
  have hlog : LogFull (raiseFlag (advance 0 strayOutput) F.FIO_CH_DIAG_OT 0) := ⟨by decide, strayReset_full, by decide⟩
  exact hlog.raise_not_kept rfl rfl (by decide) (by decide) (by decide) (by decide) (by decide) hkept

/-! ### A brake pair with too much current (O40) -/

/-- What too much current leaves of pair `p`, before its event (R317): the pair is applied, and its bit and its current are noted. -/
def overcurrentNoted (p : Fin 8) (mA : BitVec 12) (s : State) : State :=
  let u := setSbc p true (fset (raiseFlag s F.FIO_SBC_STATUS_OVL p) F.FIO_SBC_STATUS_I mA.toNat p)
  { u with fio := { u.fio with sbcOff := putBit u.fio.sbcOff p true } }

/-- R317: too much current in a pair raises its event. -/
theorem exec_sbcFault_overcurrent {p : Fin 8} {mA : BitVec 12} (hon : domainOn s 13 = true) :
    ∃ d, exec (.sbcFault t p false mA) s = .next (raise blkFIO 0x04 p d mA.toNat (overcurrentNoted p mA (advance t s))) := by
  have hcond : (domainOn (advance t s) 13 && (!false || sbcOn (advance t s) p)) = true := by
    rw [Bool.not_false, Bool.true_or, Bool.and_true]
    exact hon
  exact ⟨_, congrArg Host.Outcome.next (if_pos hcond)⟩

/-- Refutes O40: the event of a coil fault finds the log full and has the stray one counted, in a word that the statement keeps. -/
theorem not_suppliesAndBrakes : ¬ Obligations.SuppliesAndBrakes := by
  rintro ⟨-, -, -, -, -, -, -, hfault, -⟩
  have hon : domainOn strayOutput 13 = true := by decide
  obtain ⟨t, ht, -, -, -, hkept, -⟩ := hfault strayOutput 0 0 false 0#12 hon (.inl rfl)
  obtain ⟨d, hgo⟩ := exec_sbcFault_overcurrent (t := 0) (p := 0) (mA := 0#12) hon
  obtain rfl := Host.Outcome.next.inj (hgo.symm.trans ht)
  have hlog : LogFull (overcurrentNoted 0 0#12 (advance 0 strayOutput)) := ⟨by decide, strayReset_full, by decide⟩
  exact hlog.raise_not_kept rfl rfl (by decide) (by decide) (by decide) (by decide) (by decide) hkept

end Sys2Proof.Machine
end

section
/-! The time base and the PTP units: refutations by an event of a block that R464 does not number (O41, O42, O43). -/

namespace Sys2Proof.Machine
open Sys2Proof.Claims

variable {s : State} {t p : Nat}

/-! ### The end of a slew (O41) -/

/-- Where the event of the end of a slew is raised (R326). -/
def slewDropped (s : State) : State := { s with tim := { s.tim with slewLeft := 0, slewDone := 0, incr := s.tim.servo } }

/-- R326: a slew that has given up its amount raises its event, and the state returns to TRACK. -/
theorem exec_slewComplete_due (hst : s.tim.st = .slew) (hlive : timLive s = true) (hdue : s.tim.slewLeft ≤ slewGiven (advance t s)) :
    ∃ d0 d1 x, exec (.slewComplete t) s =
      .next { raise blkTIM 0x07 0 d0 d1 (slewDropped (advance t s)) with tim := x } := by
  have hcond : ((advance t s).tim.st == .slew && timLive (advance t s) && decide ((advance t s).tim.slewLeft ≤ slewGiven (advance t s))) =
      true := by
    rw [Bool.and_eq_true, Bool.and_eq_true]
    exact ⟨⟨beq_iff_eq.mpr hst, hlive⟩, decide_eq_true hdue⟩
  let u : State := slewEnd ((advance t s).tim.slewDone + (advance t s).tim.slewLeft) 0 (advance t s)
  have hslew : ¬ (u.tim.st == .hold) = true := by
    have htim : u.tim = (slewDropped (advance t s)).tim := (raise_evtOnly _ _ _ _ _ _).tim
    rw [htim]
    change ¬ (s.tim.st == .hold) = true
    rw [hst]
    decide
  exact ⟨_, _, _, congrArg Host.Outcome.next ((if_pos hcond).trans (if_neg hslew))⟩

/-- The device after reset with the stray event, PD_SYS on and a slew that has nothing more to give up. -/
def straySlew : State :=
  { strayReset with pwr := { strayReset.pwr with on := 0x2#14 }, tim := { TimS.init with st := .slew } }

/-- Refutes O41: the event of the end of a slew finds the log full and has the stray one counted, in a word that the statement keeps. -/
theorem not_timeBaseCommands : ¬ Obligations.TimeBaseCommands := by
  rintro ⟨hslew, -⟩
  have hlive : timLive straySlew = true := by decide
  have hdue : straySlew.tim.slewLeft ≤ slewGiven (advance 0 straySlew) := by decide
  obtain ⟨t, ht, -, -, -, -, -, hkept⟩ := hslew straySlew 0 rfl hlive hdue
  obtain ⟨d0, d1, x, hgo⟩ := exec_slewComplete_due (t := 0) (s := straySlew) rfl hlive hdue
  obtain rfl := Host.Outcome.next.inj (hgo.symm.trans ht)
  have hlog : LogFull (slewDropped (advance 0 straySlew)) := ⟨by decide, strayReset_full, by decide⟩
  exact hlog.raise_not_kept (d0 := d0) (d1 := d1) rfl rfl (by decide) (by decide) (by decide) (by decide) (by decide) hkept

/-! ### HOLD (R333) -/

/-- Where the event of HOLD is raised. -/
def timHeld (s : State) : State := { s with tim := { s.tim with st := .hold, incr := holdIncr s, servo := holdIncr s } }

theorem holdEnter_track {c : Nat} (hst : s.tim.st = .track) : holdEnter c s = raise blkTIM 0x04 c 0 0 (timHeld s) := by
  have hcut : slewCut s = s := if_pos (by rw [hst]; decide)
  unfold holdEnter
  rw [hcut]
  exact if_neg (by rw [hst]; decide)

/-- R334: a time base that tracks and has lost its last valid PTP unit enters HOLD. -/
theorem selUpdate_holds (hst : s.tim.st = .track) (hlost0 : portValid s 0 = false) (hlost1 : portValid s 1 = false)
    (hslave : anyMaster s = false) : selUpdate s = raise blkTIM 0x04 2 0 0 (timHeld s) := by
  have hcond : ¬ (s.tim.st == .unset || anyMaster s || (s.tim.dozed && s.tim.st == .slew)) = true := by
    rw [hst, hslave]
    cases s.tim.dozed <;> decide
  rw [← holdEnter_track hst]
  unfold selUpdate
  rw [hlost0, hlost1]
  exact if_neg hcond

/-! ### A Sync of the parent whose Announces have stopped (O42) -/

/-- R331, R363: a message from an admitted partner that is for this PTP unit goes to what `f` makes of it. -/
theorem ptpRecv_taken {m : PtpMsg} {f : State → State} {i : Nat} (hrx : (rxPtp p m.link (advance t s)).1 = true)
    (hours : ptpOurs (rxPtp p m.link (advance t s)).2 p m = true)
    (hpeer : ctxOf (rxPtp p m.link (advance t s)).2 1 p m.link.src.toNat (m.link.ip.map fun a => a.1.toNat) = some i) :
    ptpRecv t p m f s = f (ctxValid i (rxPtp p m.link (advance t s)).2) := by
  have hfound : ptpPeer p m.link (rxPtp p m.link (advance t s)).2 = (true, ctxValid i (rxPtp p m.link (advance t s)).2) := by
    unfold ptpPeer
    dsimp only
    rw [hpeer]
  unfold ptpRecv
  dsimp only
  rw [hrx, hours, hfound]
  rfl

/-- What PTA knows once it has computed the offset `th` (R332). -/
def offsetNoted (th : Int) (s : State) : State :=
  let u := setPort 0 { s.port 0 with ofs := th, ofsAt := some (clk s) } s
  { u with tim := { u.tim with dozed := false } }

/-- R334: an offset of a PTP unit that is not valid does not act on LNS, and with no other valid one the time base enters HOLD. -/
theorem instOffset_holds {th : Int} (hst : s.tim.st = .track) (hsel : s.tim.sel = none) (hlost0 : portValid (offsetNoted th s) 0 = false)
    (hlost1 : portValid (offsetNoted th s) 1 = false) (hslave : anyMaster (offsetNoted th s) = false) :
    instOffset 0 th s = raise blkTIM 0x04 2 0 0 (timHeld (offsetNoted th s)) := by
  have hholds : selUpdate (offsetNoted th s) = raise blkTIM 0x04 2 0 0 (timHeld (offsetNoted th s)) :=
    selUpdate_holds hst hlost0 hlost1 hslave
  have htim : (raise blkTIM 0x04 2 0 0 (timHeld (offsetNoted th s))).tim = (timHeld (offsetNoted th s)).tim := (raise_evtOnly _ _ _ _ _ _).tim
  change (if (selUpdate (offsetNoted th s)).tim.sel.map (·.val) = some 0 ∧ portValid (selUpdate (offsetNoted th s)) 0 = true then _ else
    selUpdate (offsetNoted th s)) = _
  rw [hholds]
  refine if_neg fun h => ?_
  have hnone : (raise blkTIM 0x04 2 0 0 (timHeld (offsetNoted th s))).tim.sel = none := by
    rw [htim]
    exact hsel
  rw [hnone] at h
  exact absurd h.1 (by decide)

/-- The device after reset with the stray event and PD_NET on. PTA is a linked slave that has heard no Announce lately, with a known path
delay; its partner is context 0. -/
def strayPtp : State :=
  let u : State := { strayReset with
    pwr := { strayReset.pwr with on := 0x200#14 }
    tim := { TimS.init with st := .track, port0 := { PortS.init with pstate := 9, mpd := some 0 } } }
  let v : State := fset (fset (fset u F.NET_CFG_EN 1 0) F.NET_STATUS_LINK 1 0) F.TIM_P_CFG_EN 1 0
  fset (fset v F.PTN_STATE_TYPE 1 0) F.PTN_STATE_PORTS 1 0

/-- A one-step Sync of that partner, to the address of R331. -/
def straySync : PtpMsg := ⟨⟨0x191B01#48, 0#48, none, 0#3, none⟩, 0#8, 0#16, 0#80, false, 0#80, 0#64, 0#80⟩

/-- Where PTA judges the message. -/
def syncTaken : State := ctxValid 0 (rxPtp 0 straySync.link (advance 0 strayPtp)).2

/-- Where it computes the offset. -/
def syncNoted : State := setPort 0 { syncTaken.port 0 with last := some (0, 0), sync := none } syncTaken

/-- The Sync completes with an offset of 0. -/
theorem exec_straySync : exec (.ptpSyncReceive 0 0 straySync) strayPtp = .next (instOffset 0 0 syncNoted) := by
  have hrecv : execPtpSyncReceive 0 0 straySync strayPtp = _ :=
    congrArg Host.Outcome.next (ptpRecv_taken (i := 0) (by decide +kernel) (by decide +kernel) (by decide +kernel))
  refine hrecv.trans (congrArg Host.Outcome.next ?_)
  have hparent : fromParent syncTaken 0 straySync = true := by decide +kernel
  change (if (!fromParent syncTaken 0 straySync) = true then _ else _) = _
  rw [hparent]
  rfl

/-- Refutes O42: the Sync gives an offset while no PTP unit is valid, as Announces have stopped; the event of HOLD finds the log full and
has the stray one counted, in a word that the statement keeps. -/
theorem not_ptpMeasurement : ¬ Obligations.PtpMeasurement := by
  rintro ⟨hsync, -⟩
  obtain ⟨t, ht, -, -, -, -, hkept⟩ := hsync strayPtp 0 0 straySync 0 (by decide +kernel) (by decide +kernel) rfl
  have hholds : instOffset 0 0 syncNoted = raise blkTIM 0x04 2 0 0 (timHeld (offsetNoted 0 syncNoted)) :=
    instOffset_holds (by decide +kernel) (by decide +kernel) (by decide +kernel) (by decide +kernel) (by decide +kernel)
  obtain rfl := Host.Outcome.next.inj ((exec_straySync.trans (congrArg Host.Outcome.next hholds)).symm.trans ht)
  have hlog : LogFull (timHeld (offsetNoted 0 syncNoted)) := ⟨by decide +kernel, strayReset_full, by decide +kernel⟩
  exact hlog.raise_not_kept rfl rfl (by decide +kernel) (by decide) (by decide +kernel) (by decide) (by decide) hkept

/-! ### The receipt timeout of the last PTP unit (O43) -/

/-- The PTP unit of port `q` has forgotten its parent (R334). -/
def parentLost (q : Fin 2) (s : State) : State :=
  let u : State := { s with tim := { s.tim with dozed := false } }
  setPort q { (s.port q).fresh with gm := none, annAlive := false, better := 0, pstate := if flag u F.TIM_P_CFG_ROLE q then 6 else 4 } u

theorem exec_announceReceiptTimeout_slave {q : Fin 2} (hon : ptpOn s q = true) (hslave : (s.port q).pstate = 9) :
    exec (.announceReceiptTimeout t q) s = .next (selUpdate (parentLost q (advance t s))) := by
  have hcond : (ptpOn (advance t s) q && (((advance t s).port q).pstate == 4 || ((advance t s).port q).pstate == 7 ||
      ((advance t s).port q).pstate == 9)) = true := by
    rw [Bool.and_eq_true, Bool.or_eq_true]
    exact ⟨hon, .inr (beq_iff_eq.mpr hslave)⟩
  exact congrArg Host.Outcome.next (if_pos hcond)

/-- Refutes O43: the receipt timeout of the last PTP unit takes the time base to HOLD, whose event finds the log full and has the stray one
counted, in a word that the statement keeps. -/
theorem not_ptpMastership : ¬ Obligations.PtpMastership := by
  rintro ⟨-, htimeout, -⟩
  have hon : ptpOn strayPtp (0 : Fin 2) = true := by decide
  obtain ⟨t, ht, -, -, -, -, hkept⟩ := htimeout strayPtp 0 0 hon (.inr (.inr rfl))
  have hholds : selUpdate (parentLost 0 (advance 0 strayPtp)) = raise blkTIM 0x04 2 0 0 (timHeld (parentLost 0 (advance 0 strayPtp))) :=
    selUpdate_holds (by decide) (by decide) (by decide) (by decide)
  have hgo := exec_announceReceiptTimeout_slave (s := strayPtp) (t := 0) (q := 0) hon rfl
  obtain rfl := Host.Outcome.next.inj ((hgo.trans (congrArg Host.Outcome.next hholds)).symm.trans ht)
  have hlog : LogFull (timHeld (parentLost 0 (advance 0 strayPtp))) := ⟨by decide, strayReset_full, by decide⟩
  exact hlog.raise_not_kept rfl rfl (by decide) (by decide) (by decide) (by decide) (by decide) hkept

end Sys2Proof.Machine
end

section
/-! The imposition engine and CAN transmission: refutations by an event of a block that R464 does not number (O44, O47). -/

namespace Sys2Proof.Machine
open Sys2Proof.Claims

variable {s : State} {t : Nat}

/-! ### A layout that skips a due instant (O44) -/

/-- A skipped due instant of layout `i` shows in LSTAT and in STATUS (R356), before its event. -/
def overrunNoted (i : Nat) (s : State) : State :=
  raiseFlag (hwMark (layKey 0 i) F.IMP_LSTAT_OVERRUN.mask (setLay i { s.lay i with overrun := true } s)) F.IMP_STATUS_OVERRUN

/-- R356: a transmit layout that falls due while its last work waits skips the instant, and raises its event. -/
theorem exec_layoutDue_overrun {i : Fin 512} (hst : s.sys.st ≠ .doze) (hen : (s.lay i).en = true) (hsends : layRx s i = false)
    (hwaits : s.net.work.any (fun w => w.lay == i && w.rx.isNone) = true) :
    exec (.layoutDue t i none) s = .next (raise blkIMP 0x05 i (t / 256) 0 (overrunNoted i (advance t s))) := by
  have htakes : ¬ ((advance t s).sys.st = .doze ∨ ((advance t s).lay i).en = false ∨ layRx (advance t s) i = true) := by
    rintro (h | h | h)
    · exact hst h
    · exact absurd (hen.symm.trans h) (by decide)
    · exact absurd (hsends.symm.trans h) (by decide)
  exact congrArg Host.Outcome.next ((if_neg htakes).trans (if_pos hwaits))

/-- The device after reset with the stray event and layout 0 enabled, whose last work waits. -/
def strayLayout : State :=
  { strayReset with net := { NetS.init with lay := [(0, { LayS.init with en := true })], work := [⟨0, 0, 0, none⟩] } }

/-- Refutes O44: the event of a skipped instant finds the log full and has the stray one counted, in a word that the statement keeps. -/
theorem not_impositionWork : ¬ Obligations.ImpositionWork := by
  rintro ⟨-, hskips, -⟩
  have hst : strayLayout.sys.st ≠ .doze := by decide
  have hen : (strayLayout.lay (0 : Fin 512)).en = true := by decide
  have hsends : layRx strayLayout (0 : Fin 512) = false := by decide
  obtain ⟨t, ht, -, -, -, hkept, -⟩ := hskips strayLayout 0 0 ⟨0, 0, 0, none⟩ [] hst ⟨hen, hsends⟩ rfl ⟨rfl, rfl⟩
  obtain rfl := Host.Outcome.next.inj ((exec_layoutDue_overrun (t := 0) hst hen hsends (by decide)).symm.trans ht)
  have hlog : LogFull (overrunNoted 0 (advance 0 strayLayout)) := ⟨by decide, strayReset_full, by decide⟩
  exact hlog.raise_not_kept rfl rfl (by decide) (by decide) (by decide) (by decide) (by decide) hkept

/-! ### The start of a recovery from bus-off (O47) -/

/-- A change of ESTATE raises its event (R385). -/
theorem setEstate_changes {k n : Nat} (h : canState s k ≠ n) :
    setEstate k n s = raise blkCAN 0x01 k n (tecRec s k) (fset s F.CAN_STATUS_ESTATE n k) := if_neg h

theorem canRecover_busOff {ifc : Ifc} {k : Nat} (h : canState s k = 2) : canRecover ifc k s = setEstate k 3 (fset s F.CAN_STATUS_RCNT 0 k) :=
  if_pos h

/-- The device after reset with the stray event, PD_CAN on and controller 0 in bus-off. -/
def strayBusOff : State := fset { strayReset with pwr := { strayReset.pwr with on := 0x400#14 } } F.CAN_STATUS_ESTATE 2 0

/-- Refutes O47: the event of the start of a recovery finds the log full and has the stray one counted, in a word that the statement
keeps. -/
theorem not_canTransmission : ¬ Obligations.CanTransmission := by
  rintro ⟨-, -, -, -, -, -, -, -, -, -, -, -, hrecover, -⟩
  have hon : HostOn strayBusOff (R.CAN_CTL.at (0 : Fin 4)) := by decide
  obtain ⟨t, ht, -, -, -, hkept⟩ := hrecover strayBusOff ⟨.pcie, 0⟩ 0 hon (by decide)
  let u : State := fset (arrived .pcie 0 true strayBusOff) F.CAN_STATUS_RCNT 0 0
  have hbusOff : canRecover .pcie 0 (arrived .pcie 0 true strayBusOff) = setEstate 0 3 u := canRecover_busOff (by decide)
  have hchange : setEstate 0 3 u = raise blkCAN 0x01 0 3 (tecRec u 0) (fset u F.CAN_STATUS_ESTATE 3 0) := setEstate_changes (by decide)
  have hgo : exec (.canRecover ⟨.pcie, 0⟩ 0) strayBusOff = .next (raise blkCAN 0x01 0 3 (tecRec u 0) (fset u F.CAN_STATUS_ESTATE 3 0)) :=
    congrArg Host.Outcome.next ((hostGate_awake hon).trans (hbusOff.trans hchange))
  obtain rfl := Host.Outcome.next.inj (hgo.symm.trans ht)
  have hlog : LogFull (fset u F.CAN_STATUS_ESTATE 3 0) := ⟨by decide, strayReset_full, by decide⟩
  exact hlog.raise_not_kept rfl rfl (by decide) (by decide) (by decide) (by decide) (by decide) hkept

end Sys2Proof.Machine
end

section
/-! An event that finds the input stage full in DOZE: the last entry in the order of R466 is dropped (O48). -/

namespace Sys2Proof.Machine
open Sys2Proof.Claims

variable {s : State} {f : Event} {b c i d0 d1 a src : Nat}

/-- The input stage holds 16 times the event `f` of the present SYS cycle, in DOZE with PD_ACQ off. -/
structure StageFull (f : Event) (s : State) : Prop where
  asleep : s.sys.st = .doze
  stage : s.evt.stage = List.replicate 16 (sysCycle s, f)
  deaf : domainOn s 8 = false

/-- An event of a lower block goes before the entries of its SYS cycle, and the last of them is dropped (R466, R467). -/
theorem StageFull.stageEvt_lower {e : Event} (h : StageFull f s) (hlower : e.block < f.block) :
    ∃ l, stageEvt e s = evtDrop f.block { s with evt := { s.evt with stage := l } } := by
  have hfirst : e.before f = true := by
    unfold Event.before
    rw [decide_eq_true hlower, Bool.true_or]
  have hins : stageIns (sysCycle s) e s.evt.stage = (sysCycle s, e) :: List.replicate 16 (sysCycle s, f) := by
    rw [h.stage]
    exact if_pos ⟨rfl, hfirst⟩
  unfold stageEvt
  rw [hins]
  exact ⟨_, rfl⟩

theorem evtFlush_asleep (h : s.sys.st = .doze) : evtFlush s = s := if_neg fun hfull => hfull.2 h

/-- Such an event counts the dropped one. -/
theorem StageFull.rd_raise (h : StageFull f s) (hlower : b < f.block) (hp : a ≠ R.SYS_IRQ_PEND.addr) :
    rd (raise b c i d0 d1 s) a = rd (evtDrop f.block s) a := by
  let m : State := { s with mmq := s.mmq ++ [⟨b, c % 256, i % 256, lns s⟩] }
  let e : Event := ⟨stamp s % 2 ^ 32, b, c % 256, i % 512, d0 % 2 ^ 32, d1 % 2 ^ 32⟩
  have hm : StageFull f m := ⟨h.asleep, h.stage, h.deaf⟩
  obtain ⟨l, hstage⟩ := hm.stageEvt_lower (e := e) hlower
  have hflush : rd (evtFlush (stageEvt e (trigEvent e m))) a = rd (evtDrop f.block s) a := by
    have hasleep (u : State) (hu : u.sys.st = .doze) : rd (evtFlush u) a = rd u a := by rw [evtFlush_asleep hu]
    rw [trigEvent_deaf hm.deaf, hstage]
    exact hasleep _ h.asleep
  have hcause (t : State) : rd (if Config.eventIsCause b c then setPend (vectorOf b c i) t else t) a = rd t a := by
    split_ifs
    · exact setPend_rd _ t hp
    · rfl
  unfold raise raiseAt
  dsimp only
  rw [evtIrq_rd hp, hcause]
  exact hflush

/-- In the retention of PD_SYS a wake event writes WAKE_SRC alone of the registers (R443). -/
theorem rd_wakeEvent_retained (hst : s.sys.st = .doze) (hnew : s.pwr.waking = false) (hret : s.pwr.sysRet = true)
    (ha : a ≠ R.PWR_WAKE_SRC.addr) : rd (wakeEvent src s) a = rd s a := by
  have hdoze : ¬ (s.sys.st != .doze) = true := by rw [hst]; decide
  unfold wakeEvent
  rw [if_neg hdoze, hnew, if_neg Bool.false_ne_true]
  dsimp only
  rw [hret]
  exact rd_wr_ne _ _ _ ha

/-- R386: a frame whose identifier matches a wake filter sets WAKE_MATCH with its event, and wakes the device. -/
theorem exec_canWakeMatch_matched {t : Nat} {k : Fin 4} {x : BitVec 29} {e : Bool} {n : Nat} (hwake : inWake s = true)
    (hen : flag s F.CAN_CTL_WAKE_EN k = true)
    (hmatch : (List.range 64).find? (fun f => flag s F.CAN_FLT_CFG_WAKE k f && fltId s k f x e) = some n) :
    exec (.canWakeMatch t k x e) s = .next (wakeEvent 1 (raise blkCAN 0x07 k n x.toNat (raiseFlag (advance t s) F.CAN_STATUS_WAKE_MATCH k))) := by
  have hcond : ¬ (!inWake (advance t s) || !flag (advance t s) F.CAN_CTL_WAKE_EN k) = true := by
    change ¬ (!inWake s || !flag s F.CAN_CTL_WAKE_EN k) = true
    rw [hwake, hen]
    decide
  have hfound : (List.range 64).find? (fun f => flag (advance t s) F.CAN_FLT_CFG_WAKE k f && fltId (advance t s) k f x e) = some n := hmatch
  refine congrArg Host.Outcome.next ((if_neg hcond).trans ?_)
  rw [hfound]

/-- The device in the retention of DOZE with PD_CAN on, the input stage full of events of block 26, and filter 0 of controller 0 a wake
filter. -/
def strayDoze : State :=
  let s : State := { State.reset with
    sys := { SysS.init with st := .doze }
    pwr := { PwrS.init with on := 0x400#14, sysRet := true, handed := true }
    evt := { EvtS.init with stage := List.replicate 16 (0, ⟨0, 26, 0, 0, 0, 0⟩) } }
  fset (fset (fset s F.CAN_CTL_WAKE_EN 1 0) F.CAN_FLT_CFG_EN 1 0 0) F.CAN_FLT_CFG_WAKE 1 0 0

/-- Refutes O48: the event of a wake match finds the input stage full and has the last one counted, of block 26, in a word that the
statement keeps. -/
theorem not_canReception : ¬ Obligations.CanReception := by
  rintro ⟨-, -, -, -, hwakes⟩
  have hen : flag strayDoze F.CAN_CTL_WAKE_EN (0 : Fin 4) = true := by decide
  have hmatch : (List.range 64).find? (fun f => flag strayDoze F.CAN_FLT_CFG_WAKE (0 : Fin 4) f && fltId strayDoze (0 : Fin 4) f 0#29 false) =
      some (0 : Fin 64).val := by decide
  obtain ⟨t, ht, -, -, -, -, hkept⟩ := hwakes strayDoze 0 0 0#29 false 0 ⟨rfl, hen⟩ hmatch ⟨rfl, rfl, rfl⟩
  obtain rfl := Host.Outcome.next.inj ((exec_canWakeMatch_matched (t := 0) rfl hen hmatch).symm.trans ht)
  let u : State := raiseFlag (advance 0 strayDoze) F.CAN_STATUS_WAKE_MATCH 0
  have hfull : StageFull ⟨0, 26, 0, 0, 0, 0⟩ u := ⟨rfl, by decide, by decide⟩
  have honly : EvtOnly u (raise blkCAN 0x07 0 0 0 u) := raise_evtOnly _ _ _ _ _ _
  have hcount : rd (wakeEvent 1 (raise blkCAN 0x07 0 0 0 u)) pastDrops = 1#32 := by
    rw [rd_wakeEvent_retained (by rw [honly.sys]; rfl) (by rw [honly.pwr]; rfl) (by rw [honly.pwr]; rfl) (by decide),
      hfull.rd_raise (by decide) (by decide)]
    decide
  exact absurd (hcount.symm.trans (hkept pastDrops (by decide))) (by decide)

end Sys2Proof.Machine
end

section
/-! Recorders, feeds, pairs and scrubbers: refutations by an event of a block that R464 does not number (O49, O53, O54, O57). -/

namespace Sys2Proof.Machine
open Sys2Proof.Claims

variable {s : State} {t : Nat}

/-! ### A STOP in REARM (O49) -/

/-- The event of a whole record that queues no job has a stray one of block 26 counted that waits while the log is full. -/
theorem rd_recFinish_stray {r : Nat} {e : Event} (hw : jobWanted s r (s.arec r).cfg = false) (hawake : s.sys.st ≠ .doze)
    (hfull : s.evt.log.length = 1024) (hstage : s.evt.stage = [(1, e)]) (he : e.block = 26) (hcycle : 1 ≠ sysCycle s)
    (hslot : pastDrops ≠ R.ACQ_SLOT.at r) (hstatus : pastDrops ≠ R.ACQ_STATUS.at r) (hseq : pastDrops ≠ R.ACQ_SEQ.at r)
    (hz : rd s pastDrops = 0#32) : rd (recFinish r false s) pastDrops = 1#32 := by
  obtain ⟨u, d0, d1, hrd, hsys, hevt, hcyc, hregs⟩ := rd_recFinish_stop (a := pastDrops) hw hslot hstatus
  have hraise : rd (raise blkACQ 0x01 r d0 d1 u) pastDrops = rd (evtDrop e.block u) pastDrops :=
    rd_raise_full (x := (1, e)) (by rw [hsys]; exact hawake) (by rw [hevt]; exact hfull) (by rw [hevt]; exact hstage)
      (by rw [hcyc]; exact hcycle) (by decide) (by decide)
  rw [hrd, hraise, he]
  refine (rd_evtDrop 26 u).trans ?_
  change setBits (rd u pastDrops) 0 16 (min (bitsOf (rd u pastDrops) 0 16 + 1) 65535) = _
  rw [hregs pastDrops hseq, hz]
  decide

/-- Refutes O49: a STOP in REARM finishes the record, whose event finds the log full and has the stray one counted, in a word that the
statement keeps. -/
theorem not_recorderControl : ¬ Obligations.RecorderControl := by
  rintro ⟨-, -, -, -, hstop, -⟩
  have hon : HostOn strayRecord (R.ACQ_CTL.at (0 : Fin 16)) := by decide
  obtain ⟨t, ht, -, -, -, -, -, -, hkept⟩ := hstop strayRecord ⟨.pcie, 0⟩ 0 hon strayRecord_live.2
  let u : State := arrived .pcie 0 true strayRecord
  have hwhole : recState u 0 = 3 := by decide
  have hgo : exec (.recorderStop ⟨.pcie, 0⟩ 0) strayRecord = .next (recFinish 0 false u) :=
    congrArg Host.Outcome.next ((hostGate_awake hon).trans (if_pos hwhole))
  obtain rfl := Host.Outcome.next.inj (hgo.symm.trans ht)
  have hcount : rd (recFinish 0 false u) pastDrops = 1#32 :=
    rd_recFinish_stray (by decide +kernel) (by decide) strayReset_full rfl rfl (by decide) (by decide) (by decide) (by decide) (by decide)
  exact absurd (hcount.symm.trans (hkept pastDrops (by decide))) (by decide)

/-! ### A flush that is skipped (O53) -/

/-- Where the event of a skipped flush is raised (R413). -/
def flushSkipped (s : State) : State := drawn (bump (raiseFlag s F.PAR_STATUS_POWER_FAIL) F.PAR_FLUSH_CNT_FLUSH_SKIP)

/-- R412, R413: a power failure without the charge of the hold-up skips the flush, with its event. -/
theorem exec_powerFail_uncharged (hoff : s.sys.st ≠ .off) (hboot : s.sys.st ≠ .boot) (hdue : s.par.flushDue = false)
    (hnone : s.par.flush = none) :
    ∃ i d0, exec (.powerFail t ⟨false, []⟩) s = .next (raise blkPAR 0x04 i d0 0 (flushSkipped (advance t s))) := by
  let u : State := raiseFlag (advance t s) F.PAR_STATUS_POWER_FAIL
  have hfree : ¬ (u.sys.st == .boot || u.par.flushDue || u.par.flush.isSome) = true := by
    change ¬ (s.sys.st == .boot || s.par.flushDue || s.par.flush.isSome) = true
    rw [beq_false_of_ne hboot, hdue, hnone]
    decide
  have hon : ¬ (advance t s).sys.st = .off := hoff
  exact ⟨_, _, congrArg Host.Outcome.next ((if_neg hon).trans ((if_neg hfree).trans (if_pos rfl)))⟩

/-- The device in LOADED with the stray event. -/
def strayLoaded : State := { strayReset with sys := { SysS.init with st := .loaded } }

/-- Refutes O53: the event of a skipped flush finds the log full and has the stray one counted, in a word that the statement keeps. -/
theorem not_feedsAndFlush : ¬ Obligations.FeedsAndFlush := by
  rintro ⟨-, -, -, -, -, -, hskip, -⟩
  have hoff : strayLoaded.sys.st ≠ .off := by decide
  have hboot : strayLoaded.sys.st ≠ .boot := by decide
  obtain ⟨t, ht, -, -, -, -, hkept⟩ := hskip strayLoaded 0 ⟨hoff, hboot, rfl, rfl⟩
  obtain ⟨i, d0, hgo⟩ := exec_powerFail_uncharged (t := 0) hoff hboot rfl rfl
  obtain rfl := Host.Outcome.next.inj (hgo.symm.trans ht)
  have hlog : LogFull (flushSkipped (advance 0 strayLoaded)) := ⟨by decide, strayReset_full, by decide⟩
  exact hlog.raise_not_kept rfl rfl (by decide) (by decide) (by decide) (by decide) (by decide) hkept

/-! ### The loss of the mirror link (O54) -/

/-- The link is down, and what was in transit is discarded (R418). -/
def linkDown (s : State) : State := { s with par := { s.par with link := false, down := true, sending := none } }

/-- Where a standby raises the event of MIRROR_LOST (R423). -/
def mirrorNoted (s : State) : State := raiseFlag (fset s F.PAR_STATUS_STANDBY_LOST 0) F.PAR_STATUS_MIRROR_LOST

theorem EvtOnly.par {u : State} (h : EvtOnly s u) : u.par = s.par := (congrArg State.par h.eq).trans rfl

theorem parFollow_false {f : Fld} {k : Nat} : parFollow f k false s = fset s f 0 := rfl

/-- A flag of R423 that event 0x13 numbers rises with it. -/
theorem parFollow_rises {f : Fld} {k : Nat} (hk : k ≠ 0) (hnew : flag s f = false) :
    ∃ g, parFollow f k true s = raise blkPAR 0x13 0 k g (raiseFlag s f) :=
  ⟨_, (if_neg hk).trans (if_neg (by rw [hnew]; exact Bool.false_ne_true))⟩

/-- R423: in a standby that hears its partner a link that is down sets MIRROR_LOST, with its event, and PEER_MIRROR_LOST is 0. -/
theorem roleFlags_mirrorLost (hpair : pairMode s = true) (hst : s.sys.st = .standby) (hdown : s.par.down = true)
    (hheard : s.par.silent = false) (hnew : flag (fset s F.PAR_STATUS_STANDBY_LOST 0) F.PAR_STATUS_MIRROR_LOST = false) :
    ∃ g, roleFlags s = fset (raise blkPAR 0x13 0 3 g (mirrorNoted s)) F.PAR_STATUS_PEER_MIRROR_LOST 0 := by
  obtain ⟨g, hrises⟩ := parFollow_rises (k := 3) (by decide) hnew
  have hpar : (raise blkPAR 0x13 0 3 g (raiseFlag (fset s F.PAR_STATUS_STANDBY_LOST 0) F.PAR_STATUS_MIRROR_LOST)).par = s.par :=
    (raise_evtOnly _ _ _ _ _ _).par
  refine ⟨g, ?_⟩
  unfold roleFlags
  simp only [hpair, hst, beq_self_eq_true, Bool.not_true, Bool.and_false, Bool.false_and, Bool.true_and, parFollow_false, fset_par, hdown,
    hrises, Bool.false_eq_true, if_false]
  exact if_neg (by rw [hpar, hheard, Bool.and_false]; exact Bool.false_ne_true)

/-- The standby unit of a pair with the stray event. -/
def strayStandby : State :=
  fset { strayReset with sys := { SysS.init with st := .standby } } F.PAR_CFG_MODE 1

/-- Refutes O54: the event of the loss of the mirror link finds the log full and has the stray one counted, in a word that the statement
keeps. -/
theorem not_essenceExchange : ¬ Obligations.EssenceExchange := by
  rintro ⟨-, -, -, -, -, -, -, -, -, -, -, -, -, -, hloss, -⟩
  have hpair : pairMode strayStandby = true := by decide
  obtain ⟨t, ht, -, -, -, hkept⟩ := hloss strayStandby 0 ⟨hpair, rfl⟩
  let u : State := linkDown (advance 0 strayStandby)
  obtain ⟨g, hflags⟩ := roleFlags_mirrorLost (s := u) hpair rfl rfl rfl (by decide)
  have hgo : exec (.mirrorLinkLoss 0) strayStandby = .next (roleFlags u) := rfl
  rw [hflags] at hgo
  obtain rfl := Host.Outcome.next.inj (hgo.symm.trans ht)
  have hlog : LogFull (mirrorNoted u) := ⟨by decide, strayReset_full, by decide⟩
  have hcount : rd (raise blkPAR 0x13 0 3 g (mirrorNoted u)) pastDrops = 1#32 :=
    hlog.raise_counts_stray rfl rfl (by decide) (by decide) (by decide)
  rw [← rd_fset_ne _ F.PAR_STATUS_PEER_MIRROR_LOST 0 0 0 0 (by decide)] at hcount
  exact absurd (hcount.symm.trans (hkept pastDrops (by decide))) (by decide)

/-! ### A block that cannot be corrected (O57) -/

/-- R459, R461: the scrubber of main SRAM poisons a block that cannot be corrected, reports it as read, and moves on. -/
theorem scrubBlock_multi (hmore : s.tst.pos0 + 1 ≠ scrubBlocks 0) :
    ∃ x, scrubBlock 0 .multi s =
      { poisonedRead 5 (scrubAddr 0 s.tst.pos0) (setPoison s (scrubAddr 0 s.tst.pos0) true) with tst := x } := by
  have hlast : (s.tst.pos0 + 1 == scrubBlocks 0) = false := beq_false_of_ne hmore
  have hfound : (Ecc.multi == Ecc.single) = false := rfl
  unfold scrubBlock
  simp only [hlast, hfound, Bool.false_and, beq_self_eq_true, Bool.true_or, reduceIte, Bool.false_eq_true]
  exact ⟨_, rfl⟩

theorem exec_scrubBlock_main {e : Ecc} (hon : domainOn s 1 = true) (hst : s.sys.st ≠ .doze) :
    exec (.scrubBlock t 0 e) s = .next (scrubBlock 0 e (advance t s)) :=
  congrArg Host.Outcome.next (if_pos (.inl ⟨rfl, hon, hst⟩))

/-- Where the event of a read of the poisoned block at `a` is raised (R459). -/
def poisonNoted (a : Nat) (s : State) : State :=
  fset (bump (raiseFlag s F.TST_MEM_STATUS_UE (memRegion a)) F.TST_MEM_UE_CNT_COUNT 1 (memRegion a)) F.TST_MEM_UE_ADDR_ADDR (a / 16 * 16)
    (memRegion a)

theorem poisonedRead_raises {r a : Nat} : poisonedRead r a s = raise blkTST 0x02 (memRegion a) (a / 16 * 16) r (poisonNoted a s) := rfl

/-- The device after reset with the stray event and PD_SYS on. -/
def strayScrub : State := { strayReset with pwr := { strayReset.pwr with on := 0x2#14 } }

/-- Refutes O57: the event of an uncorrectable block finds the log full and has the stray one counted, in a word that the statement
keeps. -/
theorem not_scrubbersAndTap : ¬ Obligations.ScrubbersAndTap := by
  rintro ⟨-, -, hpoisons, -⟩
  have hon : domainOn strayScrub 1 = true := by decide
  obtain ⟨t, ht, -, -, hkept⟩ := hpoisons strayScrub 0 0 (by decide) hon
  let a : Nat := scrubAddr 0 0
  obtain ⟨x, hscrub⟩ := scrubBlock_multi (s := advance 0 strayScrub) (by decide)
  have hgo := (exec_scrubBlock_main (t := 0) hon (by decide)).trans (congrArg Host.Outcome.next hscrub)
  obtain rfl := Host.Outcome.next.inj (hgo.symm.trans ht)
  have hlog : LogFull (poisonNoted a (setPoison (advance 0 strayScrub) a true)) := ⟨by decide, strayReset_full, by decide⟩
  have hlost : ¬ RegsKept strayScrub (poisonedRead 5 a (setPoison (advance 0 strayScrub) a true))
      (fun a => commonReg a || within 0x110000 0x120000 a) := by
    rw [poisonedRead_raises]
    exact hlog.raise_not_kept rfl rfl (by decide) (by decide) (by decide) (by decide) (by decide)
  exact hlost hkept

end Sys2Proof.Machine
end
